-- ==== Sys2Proof/Word.lean ====
section
/-! DEFINITION. The words of the device: bytes, 32-bit register words, 64-bit words (spec/00 R8, R9). -/
namespace Sys2Proof

/-- One byte. -/
abbrev Byte := BitVec 8

/-- A control-space register word (R9), and the bits of an FP32 value (R66). -/
abbrev Word := BitVec 32

/-- A 64-bit word: a local-store word (R309), a packet word (R379). -/
abbrev DWord := BitVec 64

end Sys2Proof
end

