-- ==== Sys2Proof/Syntax.lean ====
section
/-! DEFINITION. The commands of the block: one constructor of `Instr` per row of spec/opcode_table.json,
with the operands each row needs, and the plain data those operands are made of. -/
namespace Sys2Proof

/-- Who makes a control-space access (R9, R38, HUB_INCHK_LAST.AGENT of R483). A link requester is
identified by SRC_ID and, for host traffic, HCTX; `port` is the port on which its packet arrived (R387). -/
inductive Agent where
  | link (port : Fin 16) (src : Fin 4096) (host : Bool) (hctx : Fin 8)
  | steward (s : Fin 6)
  | i3c
  | jtag
  | core (c : Fin 1056)
  deriving DecidableEq, Repr

/-- The three streams of a core (R179). -/
inductive Strm where
  | F | B | U
  deriving DecidableEq, Repr

/-- A link packet (R379): word 0 by its fields, word 1 as bits, and LEN blocks of data bytes. -/
structure Packet where
  typ : BitVec 8
  vl : BitVec 2
  fenced : Bool
  host : Bool
  hctx : BitVec 3
  rsp : Bool
  dst : BitVec 12
  src : BitVec 12
  len : BitVec 7
  rsv47 : Bool
  tag : BitVec 12
  hops : BitVec 4
  w1 : DWord
  data : List Byte
  deriving DecidableEq, Repr

/-- A PANELS entry (R46 section 0x0001, R251). Devices and panels of vote sets are pairs. -/
structure PanelEntry where
  inference : Bool
  cores : List Nat
  shares : List Nat
  entryF : Nat
  entryB : Nat
  entryU : Nat
  firstStep : Nat
  forceStep : Bool
  dualBank : Bool
  startBank : Bool
  voteSet : List (Nat × Nat)
  replicas : List (Nat × Nat)
  stepQueues : List Nat
  stragglerTicks : Nat
  fold : Bool
  voteSettle : Nat
  voteTimeout : Nat
  repeatLimit : Nat
  deriving DecidableEq, Repr

/-- DIVERT policy of a layer (R111). -/
inductive Divert where
  | none | fp8 | bf16
  deriving DecidableEq, Repr

/-- MASK of a layer (R218). -/
inductive MaskKind where
  | none | causal | window | block
  deriving DecidableEq, Repr

/-- A POLICY layer entry (R106, R111, R119, R146, R218). -/
structure Layer where
  deriv : Nat
  picotSlots : Nat
  tau : BitVec 16
  picotLimit : Nat
  divert : Divert
  alignLimit : Nat
  fallback : Bool
  mask : MaskKind
  causalToo : Bool
  window : Nat
  scale : Word
  maskHandle : Option Nat
  deriving DecidableEq, Repr

/-- A programmable derivative table (R147): FP32 bits, coefficients c0 to c3 by segment. -/
structure DerivTable where
  zLo : Word
  j : Int
  left : Word
  right : Word
  coef : List (List Word)
  deriving DecidableEq, Repr

/-- A POLICY section: layers, tables 0 to 3, and the channels an inference panel owns with
their privileged marks (R229). -/
structure Policy where
  layers : List Layer
  tables : List (Option DerivTable)
  channels : List (Nat × Bool)
  deriving DecidableEq, Repr

/-- Scope of a barrier (R336). -/
inductive BarScope where
  | panel
  | group (members : List (Nat × Nat))
  deriving DecidableEq, Repr

/-- A MARKERS section: allocated marker indices, barrier scopes by local index. -/
structure MarkerSec where
  alloc : List Nat
  barriers : List (Nat × BarScope)
  deriving DecidableEq, Repr

/-- A STREAMS section: the code bytes of F, B and U, and the vector settings of R407. -/
structure Streams where
  f : List Byte
  b : List Byte
  u : List Byte
  vecBase : Nat
  vecPrio : List Nat
  deriving DecidableEq, Repr

/-- One queue of a QUEUES section (R348, R349, R356, R383, R425). `kind` and `producer` as CONS_KIND
and PRODUCER of Q_CONFIG; `base` the ring base address. -/
structure QueueCfg where
  queue : Nat
  itemLog2 : Nat
  capLog2 : Nat
  consumer : Nat
  kind : Nat
  producer : Nat
  prodPanel : Nat
  arrive : Bool
  base : Nat
  hctx : Nat
  eseries : Option (Nat × Nat)
  deriving DecidableEq, Repr

/-- One port of a LINKS section (R387); `role` as LNK_CONFIG.ROLE. -/
structure PortCfg where
  port : Nat
  role : Nat
  maxWidth : Nat
  degLimit : Nat
  hctx : Nat
  deriving DecidableEq, Repr

/-- The LINKS section (R387): MASTER flag, routes of other groups, listed ports. -/
structure Links where
  master : Bool
  routes : List (Nat × Nat)
  ports : List PortCfg
  deriving DecidableEq, Repr

/-- One tracker slot entry of a SEAM section (R165). -/
structure SlotCfg where
  core : Nat
  index : Nat
  handle : Nat
  w : Nat
  margin : Nat
  n : Nat
  theta : Nat
  k : Nat
  eInit : Int
  deriving DecidableEq, Repr

/-- A SEAM section: the panel's default k and its slot entries. -/
structure Seam where
  defaultK : Nat
  slots : List SlotCfg
  deriving DecidableEq, Repr

/-- The per-panel sections of one panel (R46); `none` where the pattern holds no such section. -/
structure PanelSecs where
  panel : Nat
  entry : Option PanelEntry
  policy : Option Policy
  markers : Option MarkerSec
  descriptors : Option (List (Nat × List Byte))
  streams : Option Streams
  queues : Option (List QueueCfg)
  residency : Option Nat
  seed : Option DWord
  seam : Option Seam
  deriving DecidableEq, Repr

/-- A FELT_RULES section (R271, R314): slots of 64 bytes, programs of 32-bit words. -/
structure FeltRules where
  slots : List (Nat × List Byte)
  programs : List (Nat × List Word)
  deriving DecidableEq, Repr

/-- What the staged pattern's sections say, decoded. The manual gives no byte layout for most section
types, so the command that ends the structural checks carries this content (log entry 10). -/
structure PatternImage where
  panels : List PanelSecs
  coreMap : Option (List Nat)
  links : Option Links
  feltRules : Option FeltRules
  devQueues : Option (List QueueCfg)
  deriving DecidableEq, Repr

/-- What the checkers found when an array finished a unit (R138, R309, R437, R445); `corrected`: nothing but so many single-bit
errors that SECDED corrected in the core's local store. -/
inductive UnitCheck where
  | pass
  | residue
  | stagingDed
  | residentDed (word : Nat)
  | uncorr (key : Nat)
  | combineFault
  | corrected (n : Nat)
  deriving DecidableEq, Repr

/-- What a felt's checkers found when it worked on a tile or a band: a residue mismatch of the update engine (R432), a
double-bit error of the gradient window, of the late store or of another felt SRAM (R431). -/
inductive FeltCheck where
  | pass | residue | windowDed | lateDed | sramDed
  deriving DecidableEq, Repr

/-- ECC finding at a block (R294). -/
inductive Ecc where
  | clean | oneSymbol | uncorrectable
  deriving DecidableEq, Repr

/-- A place in device DRAM: physical, or a tensor's byte space (R292, R379). -/
inductive Place where
  | phys (addr : Nat)
  | tensor (handle : Nat) (off : Nat)
  deriving DecidableEq, Repr

/-- Who asks a felt (R298, R445). -/
inductive Asker where
  | panel (p : Fin 64)
  | link
  | steward (s : Fin 6)
  deriving DecidableEq, Repr

/-- A contribution of a replica to a tile (R266). -/
structure Contribution where
  handle : Nat
  tile : Nat
  step : Nat
  replica : Nat
  vals : List Word
  deriving DecidableEq, Repr

/-- Outcome of a step vote (R281). -/
inductive VoteOutcome where
  | commit | repeatStep | pauseSkew | pauseTimeout
  deriving DecidableEq, Repr

/-- Who arrives at a chain node: a core of this device, or a member panel of a device (R339, R379). -/
inductive ChainSrc where
  | core (c : Fin 1056)
  | member (dev : Fin 4096) (p : Fin 64)
  deriving DecidableEq, Repr

/-- Where a handshake timed out (R433): the receiving block. -/
inductive HsTarget where
  | core (c : Fin 1056) (owner : Option Strm)
  | felt (n : Fin 8) (p : Option (Fin 64))
  | dieLevel (d : Fin 2) (unit : Fin 5)
  deriving DecidableEq, Repr

/-- The far end found at training (R386, R387). -/
inductive FarEnd where
  | adapter | masterDevice | device
  deriving DecidableEq, Repr

/-- Filtered pins whose glitches are counted (R470). -/
inductive FPin where
  | resetN | pwrAlertN | trstN | i3c
  deriving DecidableEq, Repr

/-- PMBus commands the hub uses (R454). -/
inductive PmCmd where
  | voutMode | voutCommand | readVout | readIout | statusWord | clearFaults
  deriving DecidableEq, Repr

/-- The commands of the block, in the order of spec/opcode_table.json. -/
inductive Instr where
  | registerWrite (a : Agent) (off : BitVec 29) (val : Word) (width : Nat) (hwSet : Word)
  | lowWordRead (a : Agent) (off : BitVec 29)
  | rcRead (a : Agent) (off : BitVec 29) (inc : Word)
  | corePark (c : Fin 1056)
  | dieBeatWindowEnd (d : Fin 2) (beats : BitVec 16)
  | driftCheck (ticks : List Nat)
  | load (a : Agent) (w : Word)
  | loadPartial (a : Agent) (w : Word)
  | abort (a : Agent) (w : Word)
  | digestChecked
  | signatureChecked
  | structuralChecksDone (img : PatternImage)
  | loadApplied
  | panelStop (a : Agent) (p : Fin 64) (w : Word)
  | panelStart (a : Agent) (p : Fin 64) (w : Word)
  | panelForce (a : Agent) (p : Fin 64) (w : Word)
  | panelStarted (p : Fin 64)
  | panelDrained (p : Fin 64)
  | panelDrainTimeout (p : Fin 64)
  | matmulG (c : Fin 1056) (st : Strm)
  | matmulT (c : Fin 1056) (st : Strm)
  | matmulTdx (c : Fin 1056) (st : Strm)
  | matmulTdw (c : Fin 1056) (st : Strm)
  | skeinFetch (c : Fin 1056) (st : Strm)
  | unitComplete (c : Fin 1056) (st : Strm) (chk : UnitCheck)
  | sliceAccepted (c : Fin 1056)
  | sliceArrive (k : Nat) (chk : FeltCheck)
  | sideRecordArrive (k : Nat)
  | macroComplete (id : Nat)
  | activationCheckpoint (c : Fin 1056) (st : Strm)
  | fp8Activation (c : Fin 1056) (st : Strm)
  | gradientConversion (c : Fin 1056) (st : Strm)
  | plainConversion (c : Fin 1056) (st : Strm)
  | trackerObservation (k : Nat) (ded : Bool)
  | seamTrkSelWrite (a : Agent) (c : Fin 1056) (w : Word)
  | clearCounts (a : Agent) (c : Fin 1056) (w : Word) (inc : List Nat)
  | resnap (a : Agent) (c : Fin 1056) (w : Word)
  | add (c : Fin 1056) (st : Strm)
  | sub (c : Fin 1056) (st : Strm)
  | mul (c : Fin 1056) (st : Strm)
  | max (c : Fin 1056) (st : Strm)
  | min (c : Fin 1056) (st : Strm)
  | scale (c : Fin 1056) (st : Strm)
  | copy (c : Fin 1056) (st : Strm)
  | exp (c : Fin 1056) (st : Strm)
  | log (c : Fin 1056) (st : Strm)
  | recip (c : Fin 1056) (st : Strm)
  | rsqrt (c : Fin 1056) (st : Strm)
  | tanh (c : Fin 1056) (st : Strm)
  | sigmoid (c : Fin 1056) (st : Strm)
  | geluT (c : Fin 1056) (st : Strm)
  | geluE (c : Fin 1056) (st : Strm)
  | silu (c : Fin 1056) (st : Strm)
  | rowsum (c : Fin 1056) (st : Strm)
  | rowmax (c : Fin 1056) (st : Strm)
  | softmax (c : Fin 1056) (st : Strm)
  | rmsnorm (c : Fin 1056) (st : Strm)
  | layernorm (c : Fin 1056) (st : Strm)
  | gather (c : Fin 1056) (st : Strm)
  | scatter (c : Fin 1056) (st : Strm)
  | attend (c : Fin 1056) (st : Strm)
  | attendBwdDot (c : Fin 1056) (st : Strm)
  | attendBwdKv (c : Fin 1056) (st : Strm)
  | attendBwdQ (c : Fin 1056) (st : Strm)
  | kvAppend (c : Fin 1056) (st : Strm)
  | attach (c : Fin 1056) (st : Strm)
  | releaseChannel (c : Fin 1056) (st : Strm)
  | kvFork (c : Fin 1056) (st : Strm)
  | sliceSend (c : Fin 1056) (st : Strm)
  | reduce (c : Fin 1056) (st : Strm)
  | replicaContribution (x : Contribution) (chk : FeltCheck)
  | stragglerExpire (handle : Nat) (tile : Nat)
  | reducedTileArrive (x : Contribution)
  | update (c : Fin 1056) (st : Strm)
  | materialise (c : Fin 1056) (st : Strm)
  | updateBand (id : Nat) (band : Nat) (chk : FeltCheck)
  | updateWriteRelease (id : Nat)
  | settling (p : Fin 64)
  | voteArrival (p : Fin 64)
  | voteTimeout (p : Fin 64)
  | voteRelease (p : Fin 64) (remote : VoteOutcome)
  | resume (a : Agent) (p : Fin 64) (w : Word)
  | abortDrained (p : Fin 64)
  | feltRead (who : Asker) (at_ : Place) (ecc : Ecc)
  | feltWrite (who : Asker) (at_ : Place) (data : List Byte)
  | scrubStep (n : Fin 8) (ecc : Ecc)
  | migrationInterval (n : Fin 8)
  | pageMoveDone (n : Fin 8) (handle : Nat) (page : Nat)
  | ruleStop (a : Agent) (w : Word)
  | ruleStart (a : Agent) (w : Word)
  | rulesStopped
  | feltRatioSelWrite (a : Agent) (n : Fin 8) (w : Word)
  | marker (c : Fin 1056) (st : Strm)
  | waitTimeout (c : Fin 1056) (st : Strm)
  | barrier (c : Fin 1056) (st : Strm)
  | chainArrive (x : ChainSrc) (id : Fin 4096) (fault : Bool) (step : Word)
  | chainRelease (id : Fin 4096) (epoch : Word) (fault : Bool)
  | barrierTimeout (id : Fin 4096)
  | markerSetPacket (port : Fin 16) (pkt : Packet)
  | fenceSetApply (port : Fin 16)
  | mkForceKey (a : Agent) (d : Fin 2) (w : Word)
  | forcedSet (a : Agent) (d : Fin 2) (w : Word)
  | forcedClear (a : Agent) (d : Fin 2) (w : Word)
  | forceArmExpire (d : Fin 2)
  | mkEpStateClear (a : Agent) (i : Fin 256) (w : Word) (hwSet : Word)
  | queueRead (c : Fin 1056) (st : Strm)
  | queueReadSatisfied (c : Fin 1056) (st : Strm)
  | corePush (c : Fin 1056) (st : Strm)
  | queueMark (c : Fin 1056) (st : Strm)
  | queueRewind (c : Fin 1056) (st : Strm)
  | queueRelease (c : Fin 1056) (st : Strm)
  | land (q : Fin 256)
  | stalledPushAccept (q : Fin 256)
  | stewardPush (s : Fin 6) (q : Fin 256) (w : Word)
  | pushTimeout (q : Fin 256)
  | advance (a : Agent) (q : Fin 256) (w : Word)
  | mark (a : Agent) (q : Fin 256) (w : Word)
  | rewind (a : Agent) (q : Fin 256) (w : Word)
  | release (a : Agent) (q : Fin 256) (w : Word)
  | queueStop (a : Agent) (q : Fin 256) (w : Word)
  | queueStart (a : Agent) (q : Fin 256) (w : Word)
  | queueClear (a : Agent) (q : Fin 256) (w : Word)
  | queueStopped (q : Fin 256)
  | flitReceive (port : Fin 16) (flit : List Byte)
  | linkSilenceTimeout (port : Fin 16)
  | retrainDone (port : Fin 16)
  | retrainTimeout (port : Fin 16)
  | laneLoss (port : Fin 16) (lane : Fin 8)
  | degradeWindowEnd (port : Fin 16) (counts : List Nat)
  | trainingDone (port : Fin 16) (far : FarEnd) (farWidth : Nat) (good : BitVec 8)
  | trainingTimeout (port : Fin 16)
  | portStop (a : Agent) (port : Fin 16) (w : Word)
  | portStart (a : Agent) (port : Fin 16) (w : Word)
  | portDrained (port : Fin 16)
  | portDrainTimeout (port : Fin 16)
  | write (port : Fin 16) (pkt : Packet)
  | writeBulk (port : Fin 16) (pkt : Packet)
  | read (port : Fin 16) (pkt : Packet)
  | readData (port : Fin 16) (pkt : Packet)
  | completion (port : Fin 16) (pkt : Packet)
  | ctrlWrite (port : Fin 16) (pkt : Packet)
  | ctrlRead (port : Fin 16) (pkt : Packet)
  | ctrlData (port : Fin 16) (pkt : Packet)
  | queuePush (port : Fin 16) (pkt : Packet)
  | packetForward (port : Fin 16) (pkt : Packet)
  | responseTimeout (tag : BitVec 12)
  | routeWrite (a : Agent) (w : Word)
  | discoveryStart (a : Agent) (w : Word)
  | discover (port : Fin 16) (pkt : Packet)
  | discoverRsp (port : Fin 16) (pkt : Packet)
  | assignId (port : Fin 16) (pkt : Packet)
  | attn (port : Fin 16) (pkt : Packet)
  | warmReset (port : Fin 16) (pkt : Packet)
  | refclkLoss
  | refclkReturn
  | attnRelease
  | attnMessage
  | attnMessageRepeat
  | clmClaim (a : Agent) (t : Fin 14)
  | clmComplete (a : Agent) (t : Fin 14) (w : Word)
  | releaseAll (a : Agent) (t : Fin 14) (w : Word)
  | vecSoft (a : Agent) (c : Fin 1056) (w : Word)
  | handlerDispatch (c : Fin 1056)
  | stwSignal (a : Agent) (w : Word)
  | stageWrite (a : Agent) (off : BitVec 29) (w : Word)
  | verify (a : Agent) (w : Word)
  | verifyDone
  | stewardStop (a : Agent) (s : Fin 6) (w : Word)
  | stewardStart (a : Agent) (s : Fin 6) (w : Word)
  | stewardRestart (a : Agent) (s : Fin 6) (w : Word)
  | activate (a : Agent) (s : Fin 6) (w : Word)
  | cancel (a : Agent) (s : Fin 6) (w : Word)
  | take (a : Agent) (w : Word)
  | giveBack (a : Agent) (w : Word)
  | activationDone
  | emergencyTimeout
  | stwKick (a : Agent) (s : Fin 6) (w : Word)
  | wdog (s : Fin 6)
  | fatalTrap (s : Fin 6)
  | stewardEcc (s : Fin 6)
  | autoRestart (s : Fin 6)
  | stwRecPop (a : Agent) (s : Fin 6) (w : Word)
  | stwRecAck (a : Agent) (s : Fin 6) (w : Word)
  | stwLogSubmitId (a : Agent) (s : Fin 6) (w : Word)
  | handshakeTimeout (x : HsTarget)
  | autoRemapStart (p : Fin 64)
  | powerInterval (watts : Nat)
  | vcoreRampStep (d : Fin 2)
  | vrStatusPoll (bad0 : Bool) (bad1 : Bool)
  | pmbusTransaction (reg : Fin 2) (cmd : PmCmd) (fails : Nat)
  | thermalReport (die : Fin 11) (celsius : Int)
  | pwrAlertAssert
  | pwrAlertDeassert
  | gateLift
  | emergencyEnd
  | coldReset
  | pinGlitch (pin : FPin)
  | strapChange (master : Bool) (slot : BitVec 5)
  | vauxLoss
  | romDone
  | recordDone (voutModeOk : Bool)
  | dramTrainingDone (ok : Bool)
  | linksDone
  | ready
  | attest (a : Agent) (w : Word)
  | attestDone
  | registerKey (a : Agent) (w : Word)
  | debugEn (a : Agent) (w : Word)
  | secRecKey (a : Agent) (w : Word)
  | recWrite (a : Agent) (w : Word)
  | recUnlockExpire
  | recWriteDone
  | i3cWrite (bytes : List Byte)
  | i3cRead (bytes : List Byte)
  | entdaa (addr : BitVec 7)
  | setdasa (static : BitVec 7) (addr : BitVec 7)
  | rstdaa
  | enec
  | disec
  | getpid
  | getbcr
  | getdcr
  | getstatus
  | getmwl
  | getmrl
  | bypass
  | idcode
  | samplePreload
  | extest
  | highz
  | debugControlRead (dr : BitVec 128)
  | debugControlWrite (dr : BitVec 128)
  | debugLsRead (dr : BitVec 128)
  | debugLsWrite (dr : BitVec 128)
  | tapReset
  | resetNRelease (master : Bool) (slot : BitVec 5)
  | coreFaultWindowExpire (c : Fin 1056)
  deriving DecidableEq, Repr

end Sys2Proof
end

