-- ==== Sys2Proof/Decode.lean ====
section
/-! DEFINITION. Words of the table. The table gives no row any bits, so no word spells a command (log entry 9). -/
namespace Sys2Proof

/-- The command that a table word spells: none, since no row of spec/opcode_table.json has bits. -/
def decodeTableWord (_nbits _w : Nat) : Option Instr := none

end Sys2Proof
end

