-- ==== Sys2Proof/Config.lean ====
section
/-! DEFINITION. What an implementation fixes and what the manual leaves open: constants without a body, so that a
statement about them holds whatever they are. Each is named in a log entry. -/
namespace Sys2Proof.Config

/-- Free bits of any width as a natural number, by running number (log entry 2). -/
opaque freeNat : Nat → Nat

/-- ROM functions of R187 on FP32 bits: code 0x10 EXP, 0x11 LOG, 0x12 RECIP, 0x13 RSQRT, 0x14 TANH, 0x15 SIGMOID,
0x16 GELU_T, 0x17 GELU_E, 0x18 SILU. Only their error bounds are given (log entry 11). -/
opaque rom : Nat → Word → Word

/-- Coefficients of the built-in derivative tables (R147, log entry 12): table, segment, coefficient. -/
opaque derivCoef : Nat → Nat → Nat → Word

/-- SLH-DSA-SHA2-192s verification (FIPS 205): public key, message, signature (log entry 13). -/
opaque slhVerify : List Byte → List Byte → List Byte → Bool

/-- SLH-DSA-SHA2-192s signature by the device key over a message: 16,224 bytes by index (log entry 13). -/
opaque slhSign : List Byte → Nat → Byte

/-- The firmware key in the boot ROM (R414), byte by index. -/
opaque firmwareKey : Nat → Byte

/-- The device public key of R473, 48 bytes by index. -/
opaque deviceKey : Nat → Byte

/-- SHA-256 of the boot ROM and of the factory region (R475), byte by index. -/
opaque romDigest : Nat → Byte
opaque factoryDigest : Nat → Byte

/-- Boot ROM version (SEC_STATUS.ROM_VERSION), JEDEC identity of IDCODE (R481), Provisional ID bits of R479. -/
opaque romVersion : BitVec 8
opaque jedecId : BitVec 11
opaque mipiPid : BitVec 5 → BitVec 48

/-- Answers of GETSTATUS, GETMWL and GETMRL (R479), whose contents the manual does not give. -/
opaque cccAnswer : Nat → Nat → Byte

/-- Local-store words whose contents a stop does not keep (R61), by number and word index (log entry 2). -/
opaque lostWord : Nat → Nat → DWord

/-- The felt's 64-bit checksum of a slice (R208), whose function the manual does not give. -/
opaque sliceCheck : List Word → DWord

/-- Tile order of a plan, 0 row-major, 1 column-major, 2 banded, where the bytes that each order reads leave it open (R202),
by the bytes of the two operands, its tile rows and its tile columns. -/
opaque walkOrder : Nat → Nat → Nat → Nat → Nat

/-- Code of the error record of a query that a stop ends (R43, R57), which the manual does not give: 1 + this modulo 65,535. -/
opaque stopCode : BitVec 16

/-- What S2 makes of a context queue's item (R425), whose formats the manual leaves to the E-series driver documentation: byte i
of the item of the target queue. -/
opaque eConvert : List Byte → Nat → Byte

/-- Place of a channel's record in the felt region of its felt (R229), by channel: a block number. -/
opaque chanRec : Nat → Nat

/-- Length of the boundary-scan chain (R481). -/
opaque scanLen : Nat

/-- Boundary-scan contents captured at a pin set (R481), by running number. -/
opaque scanBit : Nat → Nat → Bool

/-- What a microcode instruction reads for a field K that R314 does not define, by operation and K (log entry 30). -/
opaque microField : Nat → Nat → Word

end Sys2Proof.Config
end

