-- ==== Sys2Proof/Machine/Bits.lean ====
section
/-! DEFINITION. Bit fields, bytes and little-endian words (R8), and small list helpers. -/
namespace Sys2Proof.Machine
open Sys2Proof

/-- Bits [lsb+w−1 : lsb] of a number. -/
def bits (v lsb w : Nat) : Nat := v / 2 ^ lsb % 2 ^ w

/-- Bit i of a number. -/
def bitOf (v i : Nat) : Bool := v / 2 ^ i % 2 == 1

/-- v with bits [lsb+w−1 : lsb] replaced by x. -/
def putBits (v lsb w x : Nat) : Nat :=
  v / 2 ^ (lsb + w) * 2 ^ (lsb + w) + x % 2 ^ w * 2 ^ lsb + v % 2 ^ lsb

def b2n (b : Bool) : Nat := if b then 1 else 0

/-- Sum with saturation at a maximum. -/
def satAdd (mx a b : Nat) : Nat := min mx (a + b)

/-- ⌈a ÷ b⌉. -/
def cdiv (a b : Nat) : Nat := (a + b - 1) / b

/-- The number a list of bytes spells, least significant first (R8). -/
def leNat : List Byte → Nat
  | [] => 0
  | b :: bs => b.toNat + 256 * leNat bs

/-- The n bytes of a number, least significant first. -/
def leBytes : Nat → Nat → List Byte
  | 0, _ => []
  | n + 1, v => BitVec.ofNat 8 v :: leBytes n (v / 256)

/-- n bytes of a list from an offset; missing bytes read 0. -/
def sliceB (l : List Byte) (off n : Nat) : List Byte := (List.range n).map fun i => l.getD (off + i) 0

/-- Little-endian number at an offset of a byte list. -/
def leAt (l : List Byte) (off n : Nat) : Nat := leNat (sliceB l off n)

/-- Two's complement value of the low w bits. -/
def sext (w v : Nat) : Int := if bitOf v (w - 1) then (v % 2 ^ w : Int) - 2 ^ w else (v % 2 ^ w : Nat)

/-- Number of 1 bits among the low n bits. -/
def popCount (n v : Nat) : Nat := (List.range n).countP fun i => bitOf v i

/-- A number with the listed bits 1. -/
def maskOf (l : List Nat) : Nat := l.foldl (fun a i => a ||| 2 ^ i) 0

/-- Insert into a list without repeats. -/
def addTo [DecidableEq α] (l : List α) (x : α) : List α := if l.contains x then l else l ++ [x]

/-- Replace the elements that satisfy p by f of themselves. -/
def updWhere (p : α → Bool) (f : α → α) (l : List α) : List α := l.map fun x => if p x then f x else x

/-- Words of a byte list, four bytes each. -/
def wordsOf (n : Nat) (l : List Byte) : List Word := (List.range n).map fun i => BitVec.ofNat 32 (leAt l (4 * i) 4)

end Sys2Proof.Machine
end

