-- ==== Sys2Proof/Machine/RegMap.lean ====
section
/-! DEFINITION. The control-space registers of the device: their names, fields, access codes and reset values (R11
and the register tables of each chapter), and where they sit in control space (R37 and the offset tables). -/
namespace Sys2Proof.Machine

/-- The registers; a register repeated over blocks or indices is one name with numbered copies. -/
inductive Reg where
  | DIE_ID
  | ICNT_LO
  | ICNT_HI
  | ICNT_STATUS
  | DIE_BEAT
  | CORE_ID
  | CORE_STATUS
  | LS_ECC
  | CORE_FLT
  | CORE_FLT_EN
  | CORE_FLT_COUNTS
  | NDL_EVENT
  | NDL_EVENT_EN
  | NDL_DUP
  | NDL_UNITS
  | NDL_SEL
  | NDL_WALK
  | NDL_SHP_DATA
  | GZ_STATUS
  | GZ_EVENT
  | GZ_EVENT_EN
  | GZ_MODE
  | GZ_SCALE_OVF
  | GZ_SCALE_UNF
  | GZ_ALIGN_LOSS
  | GZ_PICOT_OVF
  | GZ_SAT
  | GZ_TILE_COUNTS
  | GZ_MISC_COUNTS
  | GZ_LIMITS
  | TW_STATUS
  | TW_EVENT
  | TW_EVENT_EN
  | TW_MODE
  | TW_SAT
  | TW_ALIGN_LOSS
  | TW_MISC_COUNTS
  | TW_SLICES
  | TW_SLICE_STALL
  | TW_TBL_SEL
  | TW_TBL_DATA
  | SEAM_STATUS
  | SEAM_EVENT
  | SEAM_EVENT_EN
  | SEAM_CALIB_PENDING
  | SEAM_UNT_ELEM
  | SEAM_UNT_BLOCK
  | SEAM_STALE
  | SEAM_TRK_SEL
  | SEAM_TRK_DATA
  | SEAM_TRK_CTRL
  | ATT_STATUS
  | ATT_EVENT
  | ATT_EVENT_EN
  | ATT_DIVERT
  | ATT_ROWS
  | VEC_GS_COUNTS
  | MK_STATE_LO
  | MK_STATE_HI
  | MK_STATUS
  | MK_EVENT_EN
  | MK_DOUBLE_SET
  | MK_WAIT_TIMEOUT
  | MK_CHAIN
  | MK_CHAIN_EPOCH
  | MK_FORCED
  | VEC_BASE
  | VEC_PEND
  | VEC_EN
  | VEC_SOFT
  | VEC_STATUS
  | VEC_COUNTS
  | VEC_LATCH
  | CORE_ATTN
  | NDL_STREAM_STATUS
  | NDL_STREAM_PC
  | NDL_STREAM_SEQ
  | VEC_PRIO
  | MK_FORCE_KEY
  | MK_FORCE
  | MK_FORCE_COUNT
  | DIE_FLT
  | DIE_FLT_EN
  | DIE_FLT_COUNT
  | FELT_FIXED
  | FELT_MEM_COUNTS
  | FELT_ECC_ADDR_LO
  | FELT_ECC_ADDR_HI
  | FELT_SCRUB_CTRL
  | FELT_SCRUB_STATUS
  | FELT_MEM_EVENT
  | FELT_MEM_EVENT_EN
  | FELT_PLC_COUNTS
  | FELT_MIG_INTERVAL
  | FELT_MIG_LIMITS
  | FELT_RES_STATUS
  | FELT_COPY_COUNTS
  | FELT_COPY_BLOCKS
  | FELT_RULE_CTRL
  | FELT_RULE_STATUS
  | FELT_RULE_SEL
  | FELT_RULE_DATA
  | ATT_TREE_USED
  | ATT_TREE_HITS
  | ATT_TREE_MISSES
  | ATT_TREE_COUNTS
  | ATT_PUB_DUP
  | ATT_KV_ELEM
  | ATT_KV_BLOCK
  | ATT_FELT_EVENT
  | ATT_FELT_EVENT_EN
  | ATT_CHAN_SEL
  | ATT_CHAN_DATA
  | FELT_WIN_STATUS
  | FELT_WIN_COUNTS
  | FELT_LATE_COUNTS
  | FELT_UPD_BANDS
  | FELT_UPD_HOLD
  | FELT_UPD_COUNTS
  | FELT_TRAIN_EVENT
  | FELT_TRAIN_EVENT_EN
  | FELT_RATIO_SEL
  | FELT_RATIO_DATA
  | FELT_FLT
  | FELT_FLT_EN
  | FELT_FLT_COUNT
  | PAT_CTRL
  | PAT_STATUS
  | PAT_LOAD_ADDR_LO
  | PAT_LOAD_ADDR_HI
  | PAT_LOAD_LEN
  | PAT_DIGEST
  | PAT_ID
  | PAT_GENERATION
  | PAT_DRAIN_TIMEOUT
  | PAT_COUNTS
  | PAT_SPARE_FREE
  | PAT_EXCLUDED_DIE0
  | PAT_EXCLUDED_DIE1
  | PAT_PANEL_CTRL
  | PAT_PANEL_STATUS
  | HUB_STEP_NUM
  | HUB_STEP_COMMITTED
  | HUB_STEP_STATUS
  | HUB_STEP_CTRL
  | HUB_STEP_REPEATS
  | CH_STATUS
  | CH_EVENT
  | CH_EVENT_EN
  | CH_TIMEOUT
  | CH_COUNTS
  | MK_REMOTE_COUNTS
  | MK_EP_DOUBLE_SET
  | MK_EP_STATE
  | LNK_FABRIC
  | LNK_GROUP
  | LNK_DISC_CTRL
  | LNK_DISC_STATUS
  | LNK_DISC_MEMBERS
  | LNK_ROUTE_SEL
  | LNK_ROUTE_DATA
  | LNK_RSP_TIMEOUT
  | FLT_CTRL
  | FLT_CORE_WINDOW
  | FLT_COUNTS
  | FLT_EXCLUSIONS
  | FLT_LAST
  | PWR_LIMIT
  | PWR_VCORE
  | PWR_STATUS
  | PWR_THERM
  | PWR_EVENT
  | PWR_EVENT_EN
  | PWR_POWER
  | PWR_COUNTS
  | SEC_CTRL
  | SEC_STATUS
  | SEC_EVENT
  | SEC_EVENT_EN
  | SEC_LOG_COUNT
  | SEC_COUNTS
  | SEC_MEAS
  | SEC_NONCE
  | SEC_PKEY
  | SEC_REC_KEY
  | SEC_REC_CTRL
  | HUB_BOOT_STATUS
  | HUB_INCHK_EVENT
  | HUB_INCHK_EVENT_EN
  | HUB_INCHK_COUNTS
  | HUB_INCHK_LAST
  | ATTN_SUMMARY
  | ATTN_MASK
  | ATTN_MSG_CTRL
  | ATTN_MSG_PERIOD
  | CLM_BAD_COMPLETE
  | CLM_MERGED
  | ATTN_GRP
  | ATTN_CORE_ROW_LO
  | ATTN_CORE_ROW_HI
  | CLM_PEND
  | CLM_SRC
  | CLM_THRESHOLD
  | CLM_CLAIM
  | CLM_COMPLETE
  | CLM_TARGET_CTRL
  | CLM_TARGET_STATUS
  | Q_CTRL
  | Q_STATUS
  | Q_CONFIG
  | Q_BASE_LO
  | Q_BASE_HI
  | Q_COUNT
  | Q_PROD
  | Q_CONS
  | Q_MARK
  | Q_REL
  | Q_CMD
  | Q_PUSH_SRC_LO
  | Q_PUSH_SRC_HI
  | Q_CREDITS
  | Q_COUNTS
  | STW_CTRL
  | STW_STATUS
  | STW_FW_VERSION
  | STW_WDOG
  | STW_KICK
  | STW_COUNTS
  | STW_EVENT
  | STW_EVENT_EN
  | STW_REC_POP
  | STW_REC_ACK
  | STW_LOG_SUBMIT_ID
  | STW_REC_DATA
  | STW_LOG_SUBMIT
  | STW_STAGE_LEN
  | STW_STAGE_CTRL
  | STW_STAGE_STATUS
  | STW_ACT_STATUS
  | STW_ACT_COUNTS
  | STW_TRACE_EN_LO
  | STW_TRACE_EN_HI
  | STW_LOG_BASE_LO
  | STW_LOG_BASE_HI
  | STW_LOG_CTRL
  | STW_LOG_WR
  | STW_LOG_DROPPED
  | STW_REC_STATUS
  | STW_SIGNAL
  | LNK_CTRL
  | LNK_STATUS
  | LNK_CONFIG
  | LNK_EVENT
  | LNK_EVENT_EN
  | LNK_FEC_CORR
  | LNK_ERR_COUNTS
  | LNK_PKT_COUNTS
  | LNK_LINK_COUNTS
  deriving DecidableEq, Repr

/-- Access codes (R11). -/
inductive Acc where
  | ro | rw | w1c | w1s | wo | rc
  deriving DecidableEq, Repr

/-- A field: its register, lowest bit, width, access code and reset value. -/
structure Fld where
  reg : Reg
  lsb : Nat
  width : Nat
  acc : Acc
  rst : Nat
  deriving DecidableEq, Repr

namespace F

def DIE_ID_TYPE : Fld := ⟨.DIE_ID, 0, 4, .ro, 0⟩
def DIE_ID_NUMBER : Fld := ⟨.DIE_ID, 4, 4, .ro, 0⟩
def DIE_ID_STEPPING : Fld := ⟨.DIE_ID, 8, 8, .ro, 0⟩
def ICNT_LO_COUNT_LO : Fld := ⟨.ICNT_LO, 0, 32, .ro, 0⟩
def ICNT_HI_COUNT_HI : Fld := ⟨.ICNT_HI, 0, 32, .ro, 0⟩
def ICNT_STATUS_TRIMMED : Fld := ⟨.ICNT_STATUS, 0, 1, .ro, 0⟩
def ICNT_STATUS_DRIFT : Fld := ⟨.ICNT_STATUS, 1, 1, .w1c, 0⟩
def ICNT_STATUS_TRIM : Fld := ⟨.ICNT_STATUS, 8, 8, .ro, 0⟩
def DIE_BEAT_BEATS : Fld := ⟨.DIE_BEAT, 0, 16, .ro, 0⟩
def CORE_ID_LOGICAL : Fld := ⟨.CORE_ID, 0, 10, .ro, 0⟩
def CORE_ID_MAPPED : Fld := ⟨.CORE_ID, 10, 1, .ro, 0⟩
def CORE_ID_ROW : Fld := ⟨.CORE_ID, 12, 4, .ro, 0⟩
def CORE_ID_COLUMN : Fld := ⟨.CORE_ID, 16, 6, .ro, 0⟩
def CORE_ID_DIE : Fld := ⟨.CORE_ID, 22, 1, .ro, 0⟩
def CORE_STATUS_PARKED : Fld := ⟨.CORE_STATUS, 0, 1, .ro, 1⟩
def CORE_STATUS_EXCLUDED : Fld := ⟨.CORE_STATUS, 1, 1, .ro, 0⟩
def CORE_STATUS_PANEL : Fld := ⟨.CORE_STATUS, 8, 6, .ro, 0⟩
def CORE_STATUS_PANEL_VALID : Fld := ⟨.CORE_STATUS, 14, 1, .ro, 0⟩
def LS_ECC_CORRECTED : Fld := ⟨.LS_ECC, 0, 16, .rc, 0⟩
def CORE_FLT_ARITH : Fld := ⟨.CORE_FLT, 0, 1, .w1c, 0⟩
def CORE_FLT_HS_TIMEOUT : Fld := ⟨.CORE_FLT, 1, 1, .w1c, 0⟩
def CORE_FLT_LS_DED : Fld := ⟨.CORE_FLT, 2, 1, .w1c, 0⟩
def CORE_FLT_TRACKER : Fld := ⟨.CORE_FLT, 3, 1, .w1c, 0⟩
def CORE_FLT_UNCORR_READ : Fld := ⟨.CORE_FLT, 4, 1, .w1c, 0⟩
def CORE_FLT_REPLAY_FAULT : Fld := ⟨.CORE_FLT, 5, 1, .w1c, 0⟩
def CORE_FLT_EXCLUDED : Fld := ⟨.CORE_FLT, 6, 1, .w1c, 0⟩
def CORE_FLT_EN_EN : Fld := ⟨.CORE_FLT_EN, 0, 7, .rw, 127⟩
def CORE_FLT_COUNTS_REPLAYS : Fld := ⟨.CORE_FLT_COUNTS, 0, 16, .rc, 0⟩
def CORE_FLT_COUNTS_WINDOW : Fld := ⟨.CORE_FLT_COUNTS, 16, 4, .ro, 0⟩
def NDL_EVENT_HALT_F : Fld := ⟨.NDL_EVENT, 0, 1, .w1c, 0⟩
def NDL_EVENT_HALT_B : Fld := ⟨.NDL_EVENT, 1, 1, .w1c, 0⟩
def NDL_EVENT_HALT_U : Fld := ⟨.NDL_EVENT, 2, 1, .w1c, 0⟩
def NDL_EVENT_DUP_MATCH : Fld := ⟨.NDL_EVENT, 3, 1, .w1c, 0⟩
def NDL_EVENT_DUP_MISMATCH : Fld := ⟨.NDL_EVENT, 4, 1, .w1c, 0⟩
def NDL_EVENT_EN_EN : Fld := ⟨.NDL_EVENT_EN, 0, 5, .rw, 23⟩
def NDL_DUP_MATCH : Fld := ⟨.NDL_DUP, 0, 16, .rc, 0⟩
def NDL_DUP_MISMATCH : Fld := ⟨.NDL_DUP, 16, 16, .rc, 0⟩
def NDL_UNITS_COUNT : Fld := ⟨.NDL_UNITS, 0, 32, .rc, 0⟩
def NDL_SEL_STREAM : Fld := ⟨.NDL_SEL, 0, 2, .rw, 0⟩
def NDL_SEL_SHP : Fld := ⟨.NDL_SEL, 2, 4, .rw, 0⟩
def NDL_SEL_ENTRY : Fld := ⟨.NDL_SEL, 6, 3, .rw, 0⟩
def NDL_WALK_KC : Fld := ⟨.NDL_WALK, 0, 10, .ro, 0⟩
def NDL_WALK_SPLIT : Fld := ⟨.NDL_WALK, 10, 7, .ro, 0⟩
def NDL_WALK_ORDER : Fld := ⟨.NDL_WALK, 17, 2, .ro, 0⟩
def NDL_SHP_DATA_VALUE : Fld := ⟨.NDL_SHP_DATA, 0, 32, .ro, 4294967295⟩
def GZ_STATUS_BUSY : Fld := ⟨.GZ_STATUS, 0, 1, .ro, 0⟩
def GZ_STATUS_EXACT_PASS : Fld := ⟨.GZ_STATUS, 1, 1, .ro, 0⟩
def GZ_STATUS_DIVERTED : Fld := ⟨.GZ_STATUS, 2, 1, .ro, 0⟩
def GZ_EVENT_SCALE_OVF : Fld := ⟨.GZ_EVENT, 0, 1, .w1c, 0⟩
def GZ_EVENT_SCALE_UNF : Fld := ⟨.GZ_EVENT, 1, 1, .w1c, 0⟩
def GZ_EVENT_PICOT_LIMIT : Fld := ⟨.GZ_EVENT, 2, 1, .w1c, 0⟩
def GZ_EVENT_FALLBACK : Fld := ⟨.GZ_EVENT, 3, 1, .w1c, 0⟩
def GZ_EVENT_SAT : Fld := ⟨.GZ_EVENT, 4, 1, .w1c, 0⟩
def GZ_EVENT_T2_RSV : Fld := ⟨.GZ_EVENT, 5, 1, .w1c, 0⟩
def GZ_EVENT_FMT_DIVERT : Fld := ⟨.GZ_EVENT, 6, 1, .w1c, 0⟩
def GZ_EVENT_EN_EN : Fld := ⟨.GZ_EVENT_EN, 0, 7, .rw, 4⟩
def GZ_MODE_RUN_GROUPS : Fld := ⟨.GZ_MODE, 0, 5, .ro, 0⟩
def GZ_MODE_REF : Fld := ⟨.GZ_MODE, 5, 1, .ro, 0⟩
def GZ_MODE_FALLBACK_SEL : Fld := ⟨.GZ_MODE, 6, 1, .ro, 0⟩
def GZ_MODE_DIVERT : Fld := ⟨.GZ_MODE, 7, 2, .ro, 0⟩
def GZ_MODE_PICOT_SLOTS : Fld := ⟨.GZ_MODE, 9, 2, .ro, 0⟩
def GZ_MODE_TWILL : Fld := ⟨.GZ_MODE, 11, 3, .ro, 0⟩
def GZ_MODE_SR : Fld := ⟨.GZ_MODE, 14, 1, .ro, 0⟩
def GZ_MODE_TAU : Fld := ⟨.GZ_MODE, 16, 16, .ro, 0⟩
def GZ_SCALE_OVF_COUNT : Fld := ⟨.GZ_SCALE_OVF, 0, 32, .rc, 0⟩
def GZ_SCALE_UNF_COUNT : Fld := ⟨.GZ_SCALE_UNF, 0, 32, .rc, 0⟩
def GZ_ALIGN_LOSS_COUNT : Fld := ⟨.GZ_ALIGN_LOSS, 0, 32, .rc, 0⟩
def GZ_PICOT_OVF_COUNT : Fld := ⟨.GZ_PICOT_OVF, 0, 32, .rc, 0⟩
def GZ_SAT_COUNT : Fld := ⟨.GZ_SAT, 0, 32, .rc, 0⟩
def GZ_TILE_COUNTS_FALLBACK_TILES : Fld := ⟨.GZ_TILE_COUNTS, 0, 16, .rc, 0⟩
def GZ_TILE_COUNTS_PICOT_DIVERT : Fld := ⟨.GZ_TILE_COUNTS, 16, 16, .rc, 0⟩
def GZ_MISC_COUNTS_FMT_DIVERT : Fld := ⟨.GZ_MISC_COUNTS, 0, 16, .rc, 0⟩
def GZ_MISC_COUNTS_T2_RSV : Fld := ⟨.GZ_MISC_COUNTS, 16, 16, .rc, 0⟩
def GZ_LIMITS_ALIGN_LIMIT : Fld := ⟨.GZ_LIMITS, 0, 16, .ro, 0⟩
def GZ_LIMITS_PICOT_LIMIT : Fld := ⟨.GZ_LIMITS, 16, 16, .ro, 0⟩
def TW_STATUS_BUSY : Fld := ⟨.TW_STATUS, 0, 1, .ro, 0⟩
def TW_STATUS_REF_PASS : Fld := ⟨.TW_STATUS, 1, 1, .ro, 0⟩
def TW_STATUS_DIVERTED_IN : Fld := ⟨.TW_STATUS, 2, 1, .ro, 0⟩
def TW_STATUS_SLICE_WAIT : Fld := ⟨.TW_STATUS, 3, 1, .ro, 0⟩
def TW_EVENT_SAT : Fld := ⟨.TW_EVENT, 0, 1, .w1c, 0⟩
def TW_EVENT_ALIGN_LOSS : Fld := ⟨.TW_EVENT, 1, 1, .w1c, 0⟩
def TW_EVENT_RESIDUE : Fld := ⟨.TW_EVENT, 2, 1, .w1c, 0⟩
def TW_EVENT_T2_RSV : Fld := ⟨.TW_EVENT, 3, 1, .w1c, 0⟩
def TW_EVENT_INF_IN : Fld := ⟨.TW_EVENT, 4, 1, .w1c, 0⟩
def TW_EVENT_EN_EN : Fld := ⟨.TW_EVENT_EN, 0, 5, .rw, 4⟩
def TW_MODE_FORM : Fld := ⟨.TW_MODE, 0, 2, .ro, 0⟩
def TW_MODE_REF : Fld := ⟨.TW_MODE, 2, 1, .ro, 0⟩
def TW_MODE_PAIR : Fld := ⟨.TW_MODE, 3, 2, .ro, 0⟩
def TW_MODE_GROUP8 : Fld := ⟨.TW_MODE, 5, 1, .ro, 0⟩
def TW_MODE_DERIV : Fld := ⟨.TW_MODE, 6, 4, .ro, 0⟩
def TW_MODE_ADDEND : Fld := ⟨.TW_MODE, 10, 1, .ro, 0⟩
def TW_MODE_TRANS_A : Fld := ⟨.TW_MODE, 11, 1, .ro, 0⟩
def TW_MODE_TRANS_B : Fld := ⟨.TW_MODE, 12, 1, .ro, 0⟩
def TW_MODE_SR : Fld := ⟨.TW_MODE, 13, 1, .ro, 0⟩
def TW_SAT_COUNT : Fld := ⟨.TW_SAT, 0, 32, .rc, 0⟩
def TW_ALIGN_LOSS_COUNT : Fld := ⟨.TW_ALIGN_LOSS, 0, 32, .rc, 0⟩
def TW_MISC_COUNTS_RESIDUE : Fld := ⟨.TW_MISC_COUNTS, 0, 16, .rc, 0⟩
def TW_MISC_COUNTS_T2_RSV : Fld := ⟨.TW_MISC_COUNTS, 16, 16, .rc, 0⟩
def TW_SLICES_SENT : Fld := ⟨.TW_SLICES, 0, 32, .rc, 0⟩
def TW_SLICE_STALL_TICKS : Fld := ⟨.TW_SLICE_STALL, 0, 32, .rc, 0⟩
def TW_TBL_SEL_TABLE : Fld := ⟨.TW_TBL_SEL, 0, 4, .rw, 1⟩
def TW_TBL_SEL_SEG : Fld := ⟨.TW_TBL_SEL, 4, 8, .rw, 0⟩
def TW_TBL_SEL_COEF : Fld := ⟨.TW_TBL_SEL, 12, 2, .rw, 0⟩
def TW_TBL_SEL_HEAD : Fld := ⟨.TW_TBL_SEL, 14, 1, .rw, 0⟩
def TW_TBL_DATA_VALUE : Fld := ⟨.TW_TBL_DATA, 0, 32, .ro, 0⟩
def SEAM_STATUS_SLOTS : Fld := ⟨.SEAM_STATUS, 0, 5, .ro, 0⟩
def SEAM_STATUS_BUSY : Fld := ⟨.SEAM_STATUS, 5, 1, .ro, 0⟩
def SEAM_STATUS_RESTORED : Fld := ⟨.SEAM_STATUS, 6, 1, .ro, 0⟩
def SEAM_EVENT_CALIB : Fld := ⟨.SEAM_EVENT, 0, 1, .w1c, 0⟩
def SEAM_EVENT_NAN_BLOCK : Fld := ⟨.SEAM_EVENT, 1, 1, .w1c, 0⟩
def SEAM_EVENT_STALE : Fld := ⟨.SEAM_EVENT, 2, 1, .w1c, 0⟩
def SEAM_EVENT_CRUSHED : Fld := ⟨.SEAM_EVENT, 3, 1, .w1c, 0⟩
def SEAM_EVENT_SAT : Fld := ⟨.SEAM_EVENT, 4, 1, .w1c, 0⟩
def SEAM_EVENT_EN_EN : Fld := ⟨.SEAM_EVENT_EN, 0, 5, .rw, 5⟩
def SEAM_CALIB_PENDING_SLOT : Fld := ⟨.SEAM_CALIB_PENDING, 0, 16, .w1c, 0⟩
def SEAM_UNT_ELEM_SAT : Fld := ⟨.SEAM_UNT_ELEM, 0, 16, .rc, 0⟩
def SEAM_UNT_ELEM_UNF : Fld := ⟨.SEAM_UNT_ELEM, 16, 16, .rc, 0⟩
def SEAM_UNT_BLOCK_CRUSHED : Fld := ⟨.SEAM_UNT_BLOCK, 0, 16, .rc, 0⟩
def SEAM_UNT_BLOCK_NAN_BLOCK : Fld := ⟨.SEAM_UNT_BLOCK, 16, 16, .rc, 0⟩
def SEAM_STALE_COUNT : Fld := ⟨.SEAM_STALE, 0, 32, .rc, 0⟩
def SEAM_TRK_SEL_SLOT : Fld := ⟨.SEAM_TRK_SEL, 0, 4, .rw, 0⟩
def SEAM_TRK_SEL_ITEM : Fld := ⟨.SEAM_TRK_SEL, 4, 6, .rw, 0⟩
def SEAM_TRK_DATA_VALUE : Fld := ⟨.SEAM_TRK_DATA, 0, 32, .ro, 0⟩
def SEAM_TRK_CTRL_CLEAR_COUNTS : Fld := ⟨.SEAM_TRK_CTRL, 0, 1, .wo, 0⟩
def SEAM_TRK_CTRL_RESNAP : Fld := ⟨.SEAM_TRK_CTRL, 1, 1, .wo, 0⟩
def ATT_STATUS_BUSY : Fld := ⟨.ATT_STATUS, 0, 1, .ro, 0⟩
def ATT_STATUS_DIVERTED : Fld := ⟨.ATT_STATUS, 1, 1, .ro, 0⟩
def ATT_STATUS_POOL : Fld := ⟨.ATT_STATUS, 2, 1, .ro, 0⟩
def ATT_STATUS_PHASE : Fld := ⟨.ATT_STATUS, 3, 2, .ro, 0⟩
def ATT_EVENT_DIVERT : Fld := ⟨.ATT_EVENT, 0, 1, .w1c, 0⟩
def ATT_EVENT_EMPTY_ROW : Fld := ⟨.ATT_EVENT, 1, 1, .w1c, 0⟩
def ATT_EVENT_CHAN_ERROR : Fld := ⟨.ATT_EVENT, 2, 1, .w1c, 0⟩
def ATT_EVENT_EN_EN : Fld := ⟨.ATT_EVENT_EN, 0, 3, .rw, 4⟩
def ATT_DIVERT_COUNT : Fld := ⟨.ATT_DIVERT, 0, 32, .rc, 0⟩
def ATT_ROWS_EMPTY : Fld := ⟨.ATT_ROWS, 0, 16, .rc, 0⟩
def ATT_ROWS_ERR_FOLDS : Fld := ⟨.ATT_ROWS, 16, 16, .rc, 0⟩
def VEC_GS_COUNTS_OUT_OF_RANGE : Fld := ⟨.VEC_GS_COUNTS, 0, 16, .rc, 0⟩
def MK_STATE_LO_STATE : Fld := ⟨.MK_STATE_LO, 0, 32, .ro, 0⟩
def MK_STATE_HI_STATE : Fld := ⟨.MK_STATE_HI, 0, 32, .ro, 0⟩
def MK_STATUS_DOUBLE_SET : Fld := ⟨.MK_STATUS, 0, 1, .w1c, 0⟩
def MK_STATUS_WAIT_TIMEOUT : Fld := ⟨.MK_STATUS, 1, 3, .w1c, 0⟩
def MK_STATUS_FORCED : Fld := ⟨.MK_STATUS, 4, 1, .w1c, 0⟩
def MK_STATUS_LAST_DOUBLE : Fld := ⟨.MK_STATUS, 8, 6, .ro, 0⟩
def MK_EVENT_EN_DOUBLE_SET : Fld := ⟨.MK_EVENT_EN, 0, 1, .rw, 1⟩
def MK_EVENT_EN_WAIT_TIMEOUT : Fld := ⟨.MK_EVENT_EN, 1, 1, .rw, 1⟩
def MK_EVENT_EN_FORCED : Fld := ⟨.MK_EVENT_EN, 2, 1, .rw, 0⟩
def MK_DOUBLE_SET_COUNT : Fld := ⟨.MK_DOUBLE_SET, 0, 8, .rc, 0⟩
def MK_WAIT_TIMEOUT_TICKS : Fld := ⟨.MK_WAIT_TIMEOUT, 0, 32, .rw, 50000000⟩
def MK_CHAIN_LAST_ID : Fld := ⟨.MK_CHAIN, 0, 12, .ro, 0⟩
def MK_CHAIN_FAULT : Fld := ⟨.MK_CHAIN, 12, 1, .ro, 0⟩
def MK_CHAIN_ARRIVED : Fld := ⟨.MK_CHAIN, 13, 1, .ro, 0⟩
def MK_CHAIN_ARRIVED_ID : Fld := ⟨.MK_CHAIN, 14, 12, .ro, 0⟩
def MK_CHAIN_EPOCH_EPOCH : Fld := ⟨.MK_CHAIN_EPOCH, 0, 32, .ro, 0⟩
def MK_FORCED_COUNT : Fld := ⟨.MK_FORCED, 0, 16, .rc, 0⟩
def VEC_BASE_INDEX : Fld := ⟨.VEC_BASE, 0, 32, .ro, 0⟩
def VEC_PEND_PEND : Fld := ⟨.VEC_PEND, 0, 32, .ro, 0⟩
def VEC_EN_EN : Fld := ⟨.VEC_EN, 0, 32, .rw, 4294902015⟩
def VEC_SOFT_SOFT : Fld := ⟨.VEC_SOFT, 16, 16, .wo, 0⟩
def VEC_STATUS_ACTIVE : Fld := ⟨.VEC_STATUS, 0, 5, .ro, 0⟩
def VEC_STATUS_ACTIVE_VALID : Fld := ⟨.VEC_STATUS, 5, 1, .ro, 0⟩
def VEC_COUNTS_DELIVERED : Fld := ⟨.VEC_COUNTS, 0, 16, .rc, 0⟩
def VEC_COUNTS_MERGED : Fld := ⟨.VEC_COUNTS, 16, 8, .rc, 0⟩
def VEC_COUNTS_BAD_HANDLER : Fld := ⟨.VEC_COUNTS, 24, 8, .rc, 0⟩
def VEC_LATCH_LATCHED : Fld := ⟨.VEC_LATCH, 0, 32, .ro, 0⟩
def CORE_ATTN_SOURCE : Fld := ⟨.CORE_ATTN, 0, 7, .ro, 0⟩
def NDL_STREAM_STATUS_STATE : Fld := ⟨.NDL_STREAM_STATUS, 0, 3, .ro, 0⟩
def NDL_STREAM_STATUS_WAIT_PENDING : Fld := ⟨.NDL_STREAM_STATUS, 4, 4, .ro, 0⟩
def NDL_STREAM_STATUS_CAUSE : Fld := ⟨.NDL_STREAM_STATUS, 8, 8, .ro, 0⟩
def NDL_STREAM_STATUS_SCOPE : Fld := ⟨.NDL_STREAM_STATUS, 16, 1, .ro, 0⟩
def NDL_STREAM_PC_INDEX : Fld := ⟨.NDL_STREAM_PC, 0, 32, .ro, 0⟩
def NDL_STREAM_SEQ_SEQ : Fld := ⟨.NDL_STREAM_SEQ, 0, 32, .ro, 0⟩
def VEC_PRIO_PRIO : Fld := ⟨.VEC_PRIO, 0, 32, .rw, 0⟩
def MK_FORCE_KEY_KEY : Fld := ⟨.MK_FORCE_KEY, 0, 32, .wo, 0⟩
def MK_FORCE_ID : Fld := ⟨.MK_FORCE, 0, 17, .wo, 0⟩
def MK_FORCE_OP : Fld := ⟨.MK_FORCE, 17, 1, .wo, 0⟩
def MK_FORCE_FAIL_STEP : Fld := ⟨.MK_FORCE, 18, 1, .wo, 0⟩
def MK_FORCE_COUNT_DONE : Fld := ⟨.MK_FORCE_COUNT, 0, 16, .rc, 0⟩
def MK_FORCE_COUNT_REFUSED : Fld := ⟨.MK_FORCE_COUNT, 16, 16, .rc, 0⟩
def DIE_FLT_SKEIN : Fld := ⟨.DIE_FLT, 0, 1, .w1c, 0⟩
def DIE_FLT_BRIDGE : Fld := ⟨.DIE_FLT, 1, 1, .w1c, 0⟩
def DIE_FLT_MARKER_NET : Fld := ⟨.DIE_FLT, 2, 1, .w1c, 0⟩
def DIE_FLT_CHAIN : Fld := ⟨.DIE_FLT, 3, 1, .w1c, 0⟩
def DIE_FLT_HS_TIMEOUT : Fld := ⟨.DIE_FLT, 4, 1, .w1c, 0⟩
def DIE_FLT_EN_EN : Fld := ⟨.DIE_FLT_EN, 0, 5, .rw, 31⟩
def DIE_FLT_COUNT_COUNT : Fld := ⟨.DIE_FLT_COUNT, 0, 16, .rc, 0⟩
def FELT_FIXED_PAGES : Fld := ⟨.FELT_FIXED, 0, 14, .rw, 512⟩
def FELT_MEM_COUNTS_CORRECTED : Fld := ⟨.FELT_MEM_COUNTS, 0, 16, .rc, 0⟩
def FELT_MEM_COUNTS_UNCORR : Fld := ⟨.FELT_MEM_COUNTS, 16, 8, .rc, 0⟩
def FELT_MEM_COUNTS_REFUSED : Fld := ⟨.FELT_MEM_COUNTS, 24, 8, .rc, 0⟩
def FELT_ECC_ADDR_LO_ADDR_LO : Fld := ⟨.FELT_ECC_ADDR_LO, 0, 32, .ro, 0⟩
def FELT_ECC_ADDR_HI_ADDR_HI : Fld := ⟨.FELT_ECC_ADDR_HI, 0, 7, .ro, 0⟩
def FELT_SCRUB_CTRL_PERIOD : Fld := ⟨.FELT_SCRUB_CTRL, 0, 5, .rw, 24⟩
def FELT_SCRUB_STATUS_PASSES : Fld := ⟨.FELT_SCRUB_STATUS, 0, 16, .ro, 0⟩
def FELT_SCRUB_STATUS_PAGE : Fld := ⟨.FELT_SCRUB_STATUS, 16, 15, .ro, 0⟩
def FELT_MEM_EVENT_UNCORR : Fld := ⟨.FELT_MEM_EVENT, 0, 1, .w1c, 0⟩
def FELT_MEM_EVENT_EXHAUSTED : Fld := ⟨.FELT_MEM_EVENT, 1, 1, .w1c, 0⟩
def FELT_MEM_EVENT_COPY_NAN : Fld := ⟨.FELT_MEM_EVENT, 2, 1, .w1c, 0⟩
def FELT_MEM_EVENT_EN_EN : Fld := ⟨.FELT_MEM_EVENT_EN, 0, 3, .rw, 3⟩
def FELT_PLC_COUNTS_MIGRATED : Fld := ⟨.FELT_PLC_COUNTS, 0, 16, .rc, 0⟩
def FELT_PLC_COUNTS_ABANDONED : Fld := ⟨.FELT_PLC_COUNTS, 16, 8, .rc, 0⟩
def FELT_PLC_COUNTS_HINT_IGNORED : Fld := ⟨.FELT_PLC_COUNTS, 24, 8, .rc, 0⟩
def FELT_MIG_INTERVAL_TICKS : Fld := ⟨.FELT_MIG_INTERVAL, 0, 32, .rw, 500000⟩
def FELT_MIG_LIMITS_MIN : Fld := ⟨.FELT_MIG_LIMITS, 0, 16, .rw, 4096⟩
def FELT_MIG_LIMITS_MAX : Fld := ⟨.FELT_MIG_LIMITS, 16, 4, .rw, 4⟩
def FELT_MIG_LIMITS_ENABLE : Fld := ⟨.FELT_MIG_LIMITS, 31, 1, .rw, 1⟩
def FELT_RES_STATUS_RESIDENT : Fld := ⟨.FELT_RES_STATUS, 0, 16, .ro, 0⟩
def FELT_RES_STATUS_SPILLED : Fld := ⟨.FELT_RES_STATUS, 16, 16, .ro, 0⟩
def FELT_COPY_COUNTS_SAT : Fld := ⟨.FELT_COPY_COUNTS, 0, 16, .rc, 0⟩
def FELT_COPY_COUNTS_UNF : Fld := ⟨.FELT_COPY_COUNTS, 16, 16, .rc, 0⟩
def FELT_COPY_BLOCKS_NAN_BLOCK : Fld := ⟨.FELT_COPY_BLOCKS, 0, 16, .rc, 0⟩
def FELT_COPY_BLOCKS_CRUSHED : Fld := ⟨.FELT_COPY_BLOCKS, 16, 16, .rc, 0⟩
def FELT_RULE_CTRL_STOP : Fld := ⟨.FELT_RULE_CTRL, 0, 1, .wo, 0⟩
def FELT_RULE_CTRL_START : Fld := ⟨.FELT_RULE_CTRL, 1, 1, .wo, 0⟩
def FELT_RULE_STATUS_STATE : Fld := ⟨.FELT_RULE_STATUS, 0, 2, .ro, 0⟩
def FELT_RULE_STATUS_GEN : Fld := ⟨.FELT_RULE_STATUS, 16, 8, .ro, 0⟩
def FELT_RULE_STATUS_BAD_CMD : Fld := ⟨.FELT_RULE_STATUS, 24, 8, .rc, 0⟩
def FELT_RULE_SEL_INDEX : Fld := ⟨.FELT_RULE_SEL, 0, 8, .rw, 0⟩
def FELT_RULE_SEL_WORD : Fld := ⟨.FELT_RULE_SEL, 8, 6, .rw, 0⟩
def FELT_RULE_SEL_PROG : Fld := ⟨.FELT_RULE_SEL, 14, 1, .rw, 0⟩
def FELT_RULE_DATA_VALUE : Fld := ⟨.FELT_RULE_DATA, 0, 32, .rw, 0⟩
def ATT_TREE_USED_ENTRIES : Fld := ⟨.ATT_TREE_USED, 0, 23, .ro, 0⟩
def ATT_TREE_HITS_COUNT : Fld := ⟨.ATT_TREE_HITS, 0, 32, .rc, 0⟩
def ATT_TREE_MISSES_COUNT : Fld := ⟨.ATT_TREE_MISSES, 0, 32, .rc, 0⟩
def ATT_TREE_COUNTS_EVICT : Fld := ⟨.ATT_TREE_COUNTS, 0, 16, .rc, 0⟩
def ATT_TREE_COUNTS_COLLIDE : Fld := ⟨.ATT_TREE_COUNTS, 16, 8, .rc, 0⟩
def ATT_TREE_COUNTS_FULL : Fld := ⟨.ATT_TREE_COUNTS, 24, 8, .rc, 0⟩
def ATT_PUB_DUP_COUNT : Fld := ⟨.ATT_PUB_DUP, 0, 32, .rc, 0⟩
def ATT_KV_ELEM_SAT : Fld := ⟨.ATT_KV_ELEM, 0, 16, .rc, 0⟩
def ATT_KV_ELEM_UNF : Fld := ⟨.ATT_KV_ELEM, 16, 16, .rc, 0⟩
def ATT_KV_BLOCK_NAN_BLOCK : Fld := ⟨.ATT_KV_BLOCK, 0, 16, .rc, 0⟩
def ATT_KV_BLOCK_CRUSHED : Fld := ⟨.ATT_KV_BLOCK, 16, 16, .rc, 0⟩
def ATT_FELT_EVENT_COLLIDE : Fld := ⟨.ATT_FELT_EVENT, 0, 1, .w1c, 0⟩
def ATT_FELT_EVENT_FULL : Fld := ⟨.ATT_FELT_EVENT, 1, 1, .w1c, 0⟩
def ATT_FELT_EVENT_DATA_ERROR : Fld := ⟨.ATT_FELT_EVENT, 2, 1, .w1c, 0⟩
def ATT_FELT_EVENT_KV_NAN : Fld := ⟨.ATT_FELT_EVENT, 3, 1, .w1c, 0⟩
def ATT_FELT_EVENT_EN_EN : Fld := ⟨.ATT_FELT_EVENT_EN, 0, 4, .rw, 6⟩
def ATT_CHAN_SEL_CHANNEL : Fld := ⟨.ATT_CHAN_SEL, 0, 10, .rw, 0⟩
def ATT_CHAN_SEL_LAYER : Fld := ⟨.ATT_CHAN_SEL, 10, 8, .rw, 0⟩
def ATT_CHAN_SEL_ITEM : Fld := ⟨.ATT_CHAN_SEL, 18, 2, .rw, 0⟩
def ATT_CHAN_DATA_VALUE : Fld := ⟨.ATT_CHAN_DATA, 0, 32, .ro, 0⟩
def FELT_WIN_STATUS_USED_TILES : Fld := ⟨.FELT_WIN_STATUS, 0, 13, .ro, 0⟩
def FELT_WIN_STATUS_LATE_TILES : Fld := ⟨.FELT_WIN_STATUS, 13, 13, .ro, 0⟩
def FELT_WIN_COUNTS_FULL_WAIT : Fld := ⟨.FELT_WIN_COUNTS, 0, 16, .rc, 0⟩
def FELT_WIN_COUNTS_SAT : Fld := ⟨.FELT_WIN_COUNTS, 16, 16, .rc, 0⟩
def FELT_LATE_COUNTS_FOLDED : Fld := ⟨.FELT_LATE_COUNTS, 0, 16, .rc, 0⟩
def FELT_LATE_COUNTS_DROPPED : Fld := ⟨.FELT_LATE_COUNTS, 16, 16, .rc, 0⟩
def FELT_UPD_BANDS_COUNT : Fld := ⟨.FELT_UPD_BANDS, 0, 32, .rc, 0⟩
def FELT_UPD_HOLD_TICKS : Fld := ⟨.FELT_UPD_HOLD, 0, 32, .rc, 0⟩
def FELT_UPD_COUNTS_SAT : Fld := ⟨.FELT_UPD_COUNTS, 0, 16, .rc, 0⟩
def FELT_UPD_COUNTS_NAN_BANDS : Fld := ⟨.FELT_UPD_COUNTS, 16, 16, .rc, 0⟩
def FELT_TRAIN_EVENT_RATIO_LO : Fld := ⟨.FELT_TRAIN_EVENT, 0, 1, .w1c, 0⟩
def FELT_TRAIN_EVENT_RATIO_HI : Fld := ⟨.FELT_TRAIN_EVENT, 1, 1, .w1c, 0⟩
def FELT_TRAIN_EVENT_WIN_SAT : Fld := ⟨.FELT_TRAIN_EVENT, 2, 1, .w1c, 0⟩
def FELT_TRAIN_EVENT_LATE_DROP : Fld := ⟨.FELT_TRAIN_EVENT, 3, 1, .w1c, 0⟩
def FELT_TRAIN_EVENT_UPD_NAN : Fld := ⟨.FELT_TRAIN_EVENT, 4, 1, .w1c, 0⟩
def FELT_TRAIN_EVENT_RATIO_FULL : Fld := ⟨.FELT_TRAIN_EVENT, 5, 1, .w1c, 0⟩
def FELT_TRAIN_EVENT_EN_EN : Fld := ⟨.FELT_TRAIN_EVENT_EN, 0, 6, .rw, 26⟩
def FELT_RATIO_SEL_HANDLE : Fld := ⟨.FELT_RATIO_SEL, 0, 20, .rw, 0⟩
def FELT_RATIO_SEL_ITEM : Fld := ⟨.FELT_RATIO_SEL, 20, 4, .rw, 0⟩
def FELT_RATIO_DATA_VALUE : Fld := ⟨.FELT_RATIO_DATA, 0, 32, .ro, 0⟩
def FELT_FLT_WIN_DED : Fld := ⟨.FELT_FLT, 0, 1, .w1c, 0⟩
def FELT_FLT_LATE_DED : Fld := ⟨.FELT_FLT, 1, 1, .w1c, 0⟩
def FELT_FLT_SRAM_DED : Fld := ⟨.FELT_FLT, 2, 1, .w1c, 0⟩
def FELT_FLT_UPD_ARITH : Fld := ⟨.FELT_FLT, 3, 1, .w1c, 0⟩
def FELT_FLT_HS_TIMEOUT : Fld := ⟨.FELT_FLT, 4, 1, .w1c, 0⟩
def FELT_FLT_EN_EN : Fld := ⟨.FELT_FLT_EN, 0, 5, .rw, 31⟩
def FELT_FLT_COUNT_COUNT : Fld := ⟨.FELT_FLT_COUNT, 0, 16, .rc, 0⟩
def PAT_CTRL_LOAD : Fld := ⟨.PAT_CTRL, 0, 1, .wo, 0⟩
def PAT_CTRL_LOAD_PARTIAL : Fld := ⟨.PAT_CTRL, 1, 1, .wo, 0⟩
def PAT_CTRL_ABORT : Fld := ⟨.PAT_CTRL, 2, 1, .wo, 0⟩
def PAT_STATUS_LOADER : Fld := ⟨.PAT_STATUS, 0, 2, .ro, 0⟩
def PAT_STATUS_LOADED : Fld := ⟨.PAT_STATUS, 2, 1, .ro, 0⟩
def PAT_STATUS_SIGNED : Fld := ⟨.PAT_STATUS, 3, 1, .ro, 0⟩
def PAT_STATUS_DONE : Fld := ⟨.PAT_STATUS, 4, 1, .w1c, 0⟩
def PAT_STATUS_FAILED : Fld := ⟨.PAT_STATUS, 5, 1, .w1c, 0⟩
def PAT_STATUS_ERROR : Fld := ⟨.PAT_STATUS, 8, 8, .ro, 0⟩
def PAT_STATUS_PANEL : Fld := ⟨.PAT_STATUS, 16, 6, .ro, 0⟩
def PAT_STATUS_PARTIAL : Fld := ⟨.PAT_STATUS, 22, 1, .ro, 0⟩
def PAT_LOAD_ADDR_LO_ADDR_LO : Fld := ⟨.PAT_LOAD_ADDR_LO, 21, 11, .rw, 0⟩
def PAT_LOAD_ADDR_HI_ADDR_HI : Fld := ⟨.PAT_LOAD_ADDR_HI, 0, 7, .rw, 0⟩
def PAT_LOAD_LEN_BYTES : Fld := ⟨.PAT_LOAD_LEN, 0, 32, .rw, 0⟩
def PAT_DIGEST_DIGEST : Fld := ⟨.PAT_DIGEST, 0, 32, .ro, 0⟩
def PAT_ID_PATTERN_ID : Fld := ⟨.PAT_ID, 0, 32, .ro, 0⟩
def PAT_GENERATION_LOADS : Fld := ⟨.PAT_GENERATION, 0, 32, .ro, 0⟩
def PAT_DRAIN_TIMEOUT_TICKS : Fld := ⟨.PAT_DRAIN_TIMEOUT, 0, 32, .rw, 50000000⟩
def PAT_COUNTS_BAD_CMD : Fld := ⟨.PAT_COUNTS, 0, 16, .rc, 0⟩
def PAT_COUNTS_STAGE_WRITE : Fld := ⟨.PAT_COUNTS, 16, 16, .rc, 0⟩
def PAT_SPARE_FREE_DIE0 : Fld := ⟨.PAT_SPARE_FREE, 0, 16, .ro, 65535⟩
def PAT_SPARE_FREE_DIE1 : Fld := ⟨.PAT_SPARE_FREE, 16, 16, .ro, 65535⟩
def PAT_EXCLUDED_DIE0_CORES : Fld := ⟨.PAT_EXCLUDED_DIE0, 0, 32, .ro, 0⟩
def PAT_EXCLUDED_DIE1_CORES : Fld := ⟨.PAT_EXCLUDED_DIE1, 0, 32, .ro, 0⟩
def PAT_PANEL_CTRL_STOP : Fld := ⟨.PAT_PANEL_CTRL, 0, 1, .wo, 0⟩
def PAT_PANEL_CTRL_START : Fld := ⟨.PAT_PANEL_CTRL, 1, 1, .wo, 0⟩
def PAT_PANEL_CTRL_FORCE : Fld := ⟨.PAT_PANEL_CTRL, 2, 1, .wo, 0⟩
def PAT_PANEL_CTRL_STOP_MODE : Fld := ⟨.PAT_PANEL_CTRL, 3, 1, .rw, 0⟩
def PAT_PANEL_STATUS_STATE : Fld := ⟨.PAT_PANEL_STATUS, 0, 3, .ro, 0⟩
def PAT_PANEL_STATUS_STOP_DONE : Fld := ⟨.PAT_PANEL_STATUS, 3, 1, .w1c, 0⟩
def PAT_PANEL_STATUS_FORCED : Fld := ⟨.PAT_PANEL_STATUS, 4, 1, .ro, 0⟩
def PAT_PANEL_STATUS_KIND : Fld := ⟨.PAT_PANEL_STATUS, 5, 1, .ro, 0⟩
def PAT_PANEL_STATUS_CAUSE : Fld := ⟨.PAT_PANEL_STATUS, 8, 8, .ro, 0⟩
def PAT_PANEL_STATUS_CORES : Fld := ⟨.PAT_PANEL_STATUS, 16, 11, .ro, 0⟩
def HUB_STEP_NUM_S : Fld := ⟨.HUB_STEP_NUM, 0, 32, .ro, 0⟩
def HUB_STEP_COMMITTED_COUNT : Fld := ⟨.HUB_STEP_COMMITTED, 0, 32, .ro, 0⟩
def HUB_STEP_STATUS_STATE : Fld := ⟨.HUB_STEP_STATUS, 0, 3, .ro, 0⟩
def HUB_STEP_STATUS_BANK : Fld := ⟨.HUB_STEP_STATUS, 3, 1, .ro, 0⟩
def HUB_STEP_STATUS_SINGLE : Fld := ⟨.HUB_STEP_STATUS, 4, 1, .ro, 0⟩
def HUB_STEP_STATUS_ROOT : Fld := ⟨.HUB_STEP_STATUS, 5, 1, .ro, 0⟩
def HUB_STEP_STATUS_LAST : Fld := ⟨.HUB_STEP_STATUS, 6, 2, .ro, 0⟩
def HUB_STEP_STATUS_CAUSE : Fld := ⟨.HUB_STEP_STATUS, 8, 8, .ro, 0⟩
def HUB_STEP_STATUS_FAILS : Fld := ⟨.HUB_STEP_STATUS, 16, 4, .ro, 0⟩
def HUB_STEP_STATUS_VOTE_DONE : Fld := ⟨.HUB_STEP_STATUS, 20, 1, .w1c, 0⟩
def HUB_STEP_STATUS_UPDATED : Fld := ⟨.HUB_STEP_STATUS, 21, 1, .ro, 0⟩
def HUB_STEP_CTRL_RESUME : Fld := ⟨.HUB_STEP_CTRL, 0, 1, .wo, 0⟩
def HUB_STEP_CTRL_RESTORED : Fld := ⟨.HUB_STEP_CTRL, 1, 1, .wo, 0⟩
def HUB_STEP_REPEATS_REPEATS : Fld := ⟨.HUB_STEP_REPEATS, 0, 16, .rc, 0⟩
def HUB_STEP_REPEATS_BAD_CMD : Fld := ⟨.HUB_STEP_REPEATS, 16, 16, .rc, 0⟩
def CH_STATUS_TIMEOUT_ID : Fld := ⟨.CH_STATUS, 0, 12, .ro, 0⟩
def CH_STATUS_ROOT_OPEN : Fld := ⟨.CH_STATUS, 12, 1, .ro, 0⟩
def CH_EVENT_TIMEOUT : Fld := ⟨.CH_EVENT, 0, 1, .w1c, 0⟩
def CH_EVENT_DOUBLE_ARRIVE : Fld := ⟨.CH_EVENT, 1, 1, .w1c, 0⟩
def CH_EVENT_STRAY : Fld := ⟨.CH_EVENT, 2, 1, .w1c, 0⟩
def CH_EVENT_EN_EN : Fld := ⟨.CH_EVENT_EN, 0, 3, .rw, 7⟩
def CH_TIMEOUT_TICKS : Fld := ⟨.CH_TIMEOUT, 0, 32, .rw, 50000000⟩
def CH_COUNTS_DOUBLE_ARRIVE : Fld := ⟨.CH_COUNTS, 0, 16, .rc, 0⟩
def CH_COUNTS_STRAY : Fld := ⟨.CH_COUNTS, 16, 16, .rc, 0⟩
def MK_REMOTE_COUNTS_NO_ROUTE : Fld := ⟨.MK_REMOTE_COUNTS, 0, 8, .rc, 0⟩
def MK_REMOTE_COUNTS_UNMAPPED : Fld := ⟨.MK_REMOTE_COUNTS, 8, 8, .rc, 0⟩
def MK_REMOTE_COUNTS_RESERVED : Fld := ⟨.MK_REMOTE_COUNTS, 16, 8, .rc, 0⟩
def MK_REMOTE_COUNTS_FENCE_DROP : Fld := ⟨.MK_REMOTE_COUNTS, 24, 8, .rc, 0⟩
def MK_EP_DOUBLE_SET_COUNT : Fld := ⟨.MK_EP_DOUBLE_SET, 0, 16, .rc, 0⟩
def MK_EP_STATE_STATE : Fld := ⟨.MK_EP_STATE, 0, 32, .w1c, 0⟩
def LNK_FABRIC_DEVICE_ID : Fld := ⟨.LNK_FABRIC, 0, 12, .ro, 0⟩
def LNK_FABRIC_ID_VALID : Fld := ⟨.LNK_FABRIC, 12, 1, .ro, 0⟩
def LNK_FABRIC_MASTER : Fld := ⟨.LNK_FABRIC, 13, 1, .ro, 0⟩
def LNK_FABRIC_SLOT_ID : Fld := ⟨.LNK_FABRIC, 14, 5, .ro, 0⟩
def LNK_GROUP_GROUP : Fld := ⟨.LNK_GROUP, 0, 7, .rw, 0⟩
def LNK_DISC_CTRL_START : Fld := ⟨.LNK_DISC_CTRL, 0, 1, .wo, 0⟩
def LNK_DISC_STATUS_STATE : Fld := ⟨.LNK_DISC_STATUS, 0, 2, .ro, 0⟩
def LNK_DISC_STATUS_CONFLICT : Fld := ⟨.LNK_DISC_STATUS, 2, 1, .w1c, 0⟩
def LNK_DISC_STATUS_MEMBERS : Fld := ⟨.LNK_DISC_STATUS, 3, 6, .ro, 0⟩
def LNK_DISC_MEMBERS_SLOTS : Fld := ⟨.LNK_DISC_MEMBERS, 0, 32, .ro, 1⟩
def LNK_ROUTE_SEL_ID : Fld := ⟨.LNK_ROUTE_SEL, 0, 12, .rw, 0⟩
def LNK_ROUTE_DATA_PORT : Fld := ⟨.LNK_ROUTE_DATA, 0, 4, .rw, 0⟩
def LNK_ROUTE_DATA_VALID : Fld := ⟨.LNK_ROUTE_DATA, 4, 1, .rw, 0⟩
def LNK_RSP_TIMEOUT_TICKS : Fld := ⟨.LNK_RSP_TIMEOUT, 0, 32, .rw, 10000000⟩
def FLT_CTRL_AUTO_REMAP : Fld := ⟨.FLT_CTRL, 0, 1, .rw, 1⟩
def FLT_CTRL_CORE_LIMIT : Fld := ⟨.FLT_CTRL, 4, 4, .rw, 4⟩
def FLT_CORE_WINDOW_TICKS : Fld := ⟨.FLT_CORE_WINDOW, 0, 32, .rw, 500000000⟩
def FLT_COUNTS_STEP_FAULTS : Fld := ⟨.FLT_COUNTS, 0, 16, .rc, 0⟩
def FLT_COUNTS_ABORTS : Fld := ⟨.FLT_COUNTS, 16, 16, .rc, 0⟩
def FLT_EXCLUSIONS_COUNT : Fld := ⟨.FLT_EXCLUSIONS, 0, 16, .rc, 0⟩
def FLT_LAST_CODE : Fld := ⟨.FLT_LAST, 0, 16, .ro, 0⟩
def PWR_LIMIT_WATTS : Fld := ⟨.PWR_LIMIT, 0, 11, .rw, 1650⟩
def PWR_VCORE_VSET0 : Fld := ⟨.PWR_VCORE, 0, 6, .rw, 13⟩
def PWR_VCORE_VSET1 : Fld := ⟨.PWR_VCORE, 8, 6, .rw, 13⟩
def PWR_VCORE_CMD0 : Fld := ⟨.PWR_VCORE, 16, 8, .ro, 255⟩
def PWR_VCORE_CMD1 : Fld := ⟨.PWR_VCORE, 24, 8, .ro, 255⟩
def PWR_STATUS_EMERGENCY : Fld := ⟨.PWR_STATUS, 0, 1, .ro, 0⟩
def PWR_STATUS_ALERT : Fld := ⟨.PWR_STATUS, 1, 1, .ro, 0⟩
def PWR_STATUS_TRIP : Fld := ⟨.PWR_STATUS, 2, 1, .ro, 0⟩
def PWR_STATUS_CRIT : Fld := ⟨.PWR_STATUS, 3, 1, .ro, 0⟩
def PWR_STATUS_WARN : Fld := ⟨.PWR_STATUS, 4, 1, .ro, 0⟩
def PWR_STATUS_GATED : Fld := ⟨.PWR_STATUS, 5, 1, .ro, 0⟩
def PWR_STATUS_DUTY : Fld := ⟨.PWR_STATUS, 6, 4, .ro, 0⟩
def PWR_THERM_WARN : Fld := ⟨.PWR_THERM, 0, 8, .rw, 100⟩
def PWR_THERM_TJ_MAX : Fld := ⟨.PWR_THERM, 8, 8, .ro, 0⟩
def PWR_EVENT_EVENTS : Fld := ⟨.PWR_EVENT, 0, 8, .w1c, 0⟩
def PWR_EVENT_EN_EVENTS : Fld := ⟨.PWR_EVENT_EN, 0, 8, .rw, 199⟩
def PWR_POWER_WATTS : Fld := ⟨.PWR_POWER, 0, 16, .ro, 0⟩
def PWR_COUNTS_ALERTS : Fld := ⟨.PWR_COUNTS, 0, 16, .rc, 0⟩
def PWR_COUNTS_TRIPS : Fld := ⟨.PWR_COUNTS, 16, 8, .rc, 0⟩
def PWR_COUNTS_VR_RETRY : Fld := ⟨.PWR_COUNTS, 24, 8, .rc, 0⟩
def SEC_CTRL_ATTEST : Fld := ⟨.SEC_CTRL, 0, 1, .wo, 0⟩
def SEC_CTRL_REGISTER_KEY : Fld := ⟨.SEC_CTRL, 1, 1, .wo, 0⟩
def SEC_CTRL_DEBUG_EN : Fld := ⟨.SEC_CTRL, 2, 1, .wo, 0⟩
def SEC_STATUS_ATTEST : Fld := ⟨.SEC_STATUS, 0, 2, .ro, 0⟩
def SEC_STATUS_KEY_REGISTERED : Fld := ⟨.SEC_STATUS, 2, 1, .ro, 0⟩
def SEC_STATUS_DEBUG : Fld := ⟨.SEC_STATUS, 3, 1, .ro, 0⟩
def SEC_STATUS_LOG_OVERFLOW : Fld := ⟨.SEC_STATUS, 4, 1, .ro, 0⟩
def SEC_STATUS_REC : Fld := ⟨.SEC_STATUS, 5, 2, .ro, 0⟩
def SEC_STATUS_ROM_VERSION : Fld := ⟨.SEC_STATUS, 8, 8, .ro, 0⟩
def SEC_EVENT_EVENTS : Fld := ⟨.SEC_EVENT, 0, 4, .w1c, 0⟩
def SEC_EVENT_EN_EVENTS : Fld := ⟨.SEC_EVENT_EN, 0, 4, .rw, 14⟩
def SEC_LOG_COUNT_ENTRIES : Fld := ⟨.SEC_LOG_COUNT, 0, 13, .ro, 0⟩
def SEC_LOG_COUNT_OVERFLOW : Fld := ⟨.SEC_LOG_COUNT, 16, 16, .ro, 0⟩
def SEC_COUNTS_REFUSED : Fld := ⟨.SEC_COUNTS, 0, 16, .rc, 0⟩
def SEC_COUNTS_ATTESTS : Fld := ⟨.SEC_COUNTS, 16, 16, .rc, 0⟩
def SEC_MEAS_WORD : Fld := ⟨.SEC_MEAS, 0, 32, .ro, 0⟩
def SEC_NONCE_WORD : Fld := ⟨.SEC_NONCE, 0, 32, .rw, 0⟩
def SEC_PKEY_WORD : Fld := ⟨.SEC_PKEY, 0, 32, .rw, 0⟩
def SEC_REC_KEY_KEY : Fld := ⟨.SEC_REC_KEY, 0, 32, .wo, 0⟩
def SEC_REC_CTRL_WRITE : Fld := ⟨.SEC_REC_CTRL, 0, 1, .wo, 0⟩
def SEC_REC_CTRL_SRC : Fld := ⟨.SEC_REC_CTRL, 1, 18, .wo, 0⟩
def HUB_BOOT_STATUS_PHASE : Fld := ⟨.HUB_BOOT_STATUS, 0, 3, .ro, 0⟩
def HUB_BOOT_STATUS_DRAM_DONE : Fld := ⟨.HUB_BOOT_STATUS, 3, 1, .ro, 0⟩
def HUB_BOOT_STATUS_REPAIR_EMPTY : Fld := ⟨.HUB_BOOT_STATUS, 4, 1, .ro, 0⟩
def HUB_BOOT_STATUS_ERROR : Fld := ⟨.HUB_BOOT_STATUS, 8, 8, .ro, 0⟩
def HUB_BOOT_STATUS_WARM : Fld := ⟨.HUB_BOOT_STATUS, 16, 1, .ro, 0⟩
def HUB_BOOT_STATUS_WARM_COUNT : Fld := ⟨.HUB_BOOT_STATUS, 24, 8, .ro, 0⟩
def HUB_INCHK_EVENT_EVENTS : Fld := ⟨.HUB_INCHK_EVENT, 0, 3, .w1c, 0⟩
def HUB_INCHK_EVENT_EN_EVENTS : Fld := ⟨.HUB_INCHK_EVENT_EN, 0, 3, .rw, 1⟩
def HUB_INCHK_COUNTS_RANGE : Fld := ⟨.HUB_INCHK_COUNTS, 0, 16, .rc, 0⟩
def HUB_INCHK_COUNTS_GLITCH : Fld := ⟨.HUB_INCHK_COUNTS, 16, 8, .rc, 0⟩
def HUB_INCHK_COUNTS_STRAP : Fld := ⟨.HUB_INCHK_COUNTS, 24, 8, .rc, 0⟩
def HUB_INCHK_LAST_OFFSET : Fld := ⟨.HUB_INCHK_LAST, 0, 29, .ro, 0⟩
def HUB_INCHK_LAST_AGENT : Fld := ⟨.HUB_INCHK_LAST, 29, 3, .ro, 0⟩
def ATTN_SUMMARY_ACTIVE : Fld := ⟨.ATTN_SUMMARY, 0, 32, .ro, 0⟩
def ATTN_MASK_MASK : Fld := ⟨.ATTN_MASK, 0, 32, .rw, 0⟩
def ATTN_MSG_CTRL_EN : Fld := ⟨.ATTN_MSG_CTRL, 0, 8, .rw, 0⟩
def ATTN_MSG_CTRL_HOLDOFF : Fld := ⟨.ATTN_MSG_CTRL, 8, 24, .rw, 5000⟩
def ATTN_MSG_PERIOD_TICKS : Fld := ⟨.ATTN_MSG_PERIOD, 0, 32, .rw, 5000000⟩
def CLM_BAD_COMPLETE_COUNT : Fld := ⟨.CLM_BAD_COMPLETE, 0, 32, .rc, 0⟩
def CLM_MERGED_COUNT : Fld := ⟨.CLM_MERGED, 0, 32, .rc, 0⟩
def ATTN_GRP_ACTIVE : Fld := ⟨.ATTN_GRP, 0, 32, .ro, 0⟩
def ATTN_CORE_ROW_LO_COLUMN : Fld := ⟨.ATTN_CORE_ROW_LO, 0, 32, .ro, 0⟩
def ATTN_CORE_ROW_HI_COLUMN : Fld := ⟨.ATTN_CORE_ROW_HI, 0, 1, .ro, 0⟩
def CLM_PEND_PENDING : Fld := ⟨.CLM_PEND, 0, 32, .ro, 0⟩
def CLM_SRC_PRIO : Fld := ⟨.CLM_SRC, 0, 4, .rw, 0⟩
def CLM_SRC_TARGET : Fld := ⟨.CLM_SRC, 4, 4, .rw, 8⟩
def CLM_SRC_PENDING : Fld := ⟨.CLM_SRC, 8, 1, .ro, 0⟩
def CLM_SRC_ACTIVE : Fld := ⟨.CLM_SRC, 9, 1, .ro, 0⟩
def CLM_SRC_CLAIMED_BY : Fld := ⟨.CLM_SRC, 10, 4, .ro, 0⟩
def CLM_THRESHOLD_THRESHOLD : Fld := ⟨.CLM_THRESHOLD, 0, 4, .rw, 0⟩
def CLM_CLAIM_SOURCE : Fld := ⟨.CLM_CLAIM, 0, 11, .ro, 0⟩
def CLM_COMPLETE_SOURCE : Fld := ⟨.CLM_COMPLETE, 0, 11, .wo, 0⟩
def CLM_TARGET_CTRL_RELEASE_ALL : Fld := ⟨.CLM_TARGET_CTRL, 0, 1, .wo, 0⟩
def CLM_TARGET_STATUS_NEXT : Fld := ⟨.CLM_TARGET_STATUS, 0, 11, .ro, 0⟩
def CLM_TARGET_STATUS_ACTIVE : Fld := ⟨.CLM_TARGET_STATUS, 16, 12, .ro, 0⟩
def Q_CTRL_STOP : Fld := ⟨.Q_CTRL, 0, 1, .wo, 0⟩
def Q_CTRL_START : Fld := ⟨.Q_CTRL, 1, 1, .wo, 0⟩
def Q_CTRL_CLEAR : Fld := ⟨.Q_CTRL, 2, 1, .wo, 0⟩
def Q_STATUS_STATE : Fld := ⟨.Q_STATUS, 0, 2, .ro, 0⟩
def Q_STATUS_RESET_BY_CHECK : Fld := ⟨.Q_STATUS, 2, 1, .w1c, 0⟩
def Q_STATUS_FULL : Fld := ⟨.Q_STATUS, 3, 1, .ro, 0⟩
def Q_STATUS_CAUSE : Fld := ⟨.Q_STATUS, 8, 8, .ro, 0⟩
def Q_STATUS_RESETS : Fld := ⟨.Q_STATUS, 16, 8, .ro, 0⟩
def Q_CONFIG_ITEM_LOG2 : Fld := ⟨.Q_CONFIG, 0, 4, .rw, 0⟩
def Q_CONFIG_CAP_LOG2 : Fld := ⟨.Q_CONFIG, 4, 5, .rw, 0⟩
def Q_CONFIG_CONSUMER : Fld := ⟨.Q_CONFIG, 9, 6, .rw, 0⟩
def Q_CONFIG_CONS_KIND : Fld := ⟨.Q_CONFIG, 15, 2, .rw, 0⟩
def Q_CONFIG_PRODUCER : Fld := ⟨.Q_CONFIG, 17, 2, .rw, 0⟩
def Q_CONFIG_PROD_PANEL : Fld := ⟨.Q_CONFIG, 19, 6, .rw, 0⟩
def Q_CONFIG_ARRIVE : Fld := ⟨.Q_CONFIG, 25, 1, .rw, 0⟩
def Q_BASE_LO_BASE_LO : Fld := ⟨.Q_BASE_LO, 21, 11, .rw, 0⟩
def Q_BASE_HI_BASE_HI : Fld := ⟨.Q_BASE_HI, 0, 7, .rw, 0⟩
def Q_COUNT_VALUE : Fld := ⟨.Q_COUNT, 0, 32, .ro, 0⟩
def Q_PROD_VALUE : Fld := ⟨.Q_PROD, 0, 32, .ro, 0⟩
def Q_CONS_VALUE : Fld := ⟨.Q_CONS, 0, 32, .ro, 0⟩
def Q_MARK_VALUE : Fld := ⟨.Q_MARK, 0, 32, .ro, 0⟩
def Q_REL_VALUE : Fld := ⟨.Q_REL, 0, 32, .ro, 0⟩
def Q_CMD_OP : Fld := ⟨.Q_CMD, 0, 2, .wo, 0⟩
def Q_CMD_N : Fld := ⟨.Q_CMD, 8, 24, .wo, 0⟩
def Q_PUSH_SRC_LO_SRC_LO : Fld := ⟨.Q_PUSH_SRC_LO, 6, 26, .wo, 0⟩
def Q_PUSH_SRC_HI_SRC_HI : Fld := ⟨.Q_PUSH_SRC_HI, 0, 7, .wo, 0⟩
def Q_CREDITS_POOL : Fld := ⟨.Q_CREDITS, 0, 7, .ro, 0⟩
def Q_COUNTS_DROPPED : Fld := ⟨.Q_COUNTS, 0, 16, .rc, 0⟩
def Q_COUNTS_PUSH_TIMEOUT : Fld := ⟨.Q_COUNTS, 16, 8, .rc, 0⟩
def Q_COUNTS_BAD_CMD : Fld := ⟨.Q_COUNTS, 24, 8, .rc, 0⟩
def STW_CTRL_STOP : Fld := ⟨.STW_CTRL, 0, 1, .wo, 0⟩
def STW_CTRL_START : Fld := ⟨.STW_CTRL, 1, 1, .wo, 0⟩
def STW_CTRL_RESTART : Fld := ⟨.STW_CTRL, 2, 1, .wo, 0⟩
def STW_CTRL_ACTIVATE : Fld := ⟨.STW_CTRL, 3, 1, .wo, 0⟩
def STW_CTRL_CANCEL : Fld := ⟨.STW_CTRL, 4, 1, .wo, 0⟩
def STW_CTRL_AUTO : Fld := ⟨.STW_CTRL, 5, 1, .rw, 1⟩
def STW_CTRL_TAKE : Fld := ⟨.STW_CTRL, 6, 1, .wo, 0⟩
def STW_CTRL_GIVE_BACK : Fld := ⟨.STW_CTRL, 7, 1, .wo, 0⟩
def STW_CTRL_TAKE_OF : Fld := ⟨.STW_CTRL, 8, 3, .wo, 0⟩
def STW_STATUS_STATE : Fld := ⟨.STW_STATUS, 0, 3, .ro, 0⟩
def STW_STATUS_ROLE : Fld := ⟨.STW_STATUS, 3, 3, .ro, 0⟩
def STW_STATUS_CAUSE : Fld := ⟨.STW_STATUS, 8, 8, .ro, 0⟩
def STW_FW_VERSION_VERSION : Fld := ⟨.STW_FW_VERSION, 0, 32, .ro, 0⟩
def STW_WDOG_TICKS : Fld := ⟨.STW_WDOG, 0, 32, .rw, 4000000⟩
def STW_KICK_VALUE : Fld := ⟨.STW_KICK, 0, 16, .wo, 0⟩
def STW_COUNTS_CRASHES : Fld := ⟨.STW_COUNTS, 0, 8, .rc, 0⟩
def STW_COUNTS_RESTARTS : Fld := ⟨.STW_COUNTS, 8, 8, .rc, 0⟩
def STW_COUNTS_BAD_CMD : Fld := ⟨.STW_COUNTS, 16, 8, .rc, 0⟩
def STW_EVENT_CRASH : Fld := ⟨.STW_EVENT, 0, 1, .w1c, 0⟩
def STW_EVENT_ACT_END : Fld := ⟨.STW_EVENT, 1, 1, .w1c, 0⟩
def STW_EVENT_EN_CRASH : Fld := ⟨.STW_EVENT_EN, 0, 1, .rw, 1⟩
def STW_EVENT_EN_ACT_END : Fld := ⟨.STW_EVENT_EN, 1, 1, .rw, 1⟩
def STW_REC_POP_VALUE : Fld := ⟨.STW_REC_POP, 0, 16, .wo, 0⟩
def STW_REC_ACK_VALUE : Fld := ⟨.STW_REC_ACK, 0, 16, .wo, 0⟩
def STW_LOG_SUBMIT_ID_VALUE : Fld := ⟨.STW_LOG_SUBMIT_ID, 0, 16, .wo, 0⟩
def STW_REC_DATA_WORD : Fld := ⟨.STW_REC_DATA, 0, 32, .ro, 0⟩
def STW_LOG_SUBMIT_WORD : Fld := ⟨.STW_LOG_SUBMIT, 0, 32, .rw, 0⟩
def STW_STAGE_LEN_BYTES : Fld := ⟨.STW_STAGE_LEN, 0, 24, .rw, 0⟩
def STW_STAGE_CTRL_VERIFY : Fld := ⟨.STW_STAGE_CTRL, 0, 1, .wo, 0⟩
def STW_STAGE_STATUS_STATE : Fld := ⟨.STW_STAGE_STATUS, 0, 2, .ro, 0⟩
def STW_STAGE_STATUS_ROLE : Fld := ⟨.STW_STAGE_STATUS, 2, 3, .ro, 0⟩
def STW_STAGE_STATUS_ERROR : Fld := ⟨.STW_STAGE_STATUS, 8, 8, .ro, 0⟩
def STW_ACT_STATUS_STATE : Fld := ⟨.STW_ACT_STATUS, 0, 3, .ro, 0⟩
def STW_ACT_STATUS_TARGET : Fld := ⟨.STW_ACT_STATUS, 3, 3, .ro, 0⟩
def STW_ACT_STATUS_END : Fld := ⟨.STW_ACT_STATUS, 6, 1, .w1c, 0⟩
def STW_ACT_STATUS_CAUSE : Fld := ⟨.STW_ACT_STATUS, 8, 8, .ro, 0⟩
def STW_ACT_COUNTS_STAGE_WRITE : Fld := ⟨.STW_ACT_COUNTS, 0, 16, .rc, 0⟩
def STW_TRACE_EN_LO_CLASS : Fld := ⟨.STW_TRACE_EN_LO, 0, 32, .rw, 1⟩
def STW_TRACE_EN_HI_CLASS : Fld := ⟨.STW_TRACE_EN_HI, 0, 32, .rw, 2147483648⟩
def STW_LOG_BASE_LO_BASE_LO : Fld := ⟨.STW_LOG_BASE_LO, 21, 11, .rw, 0⟩
def STW_LOG_BASE_HI_BASE_HI : Fld := ⟨.STW_LOG_BASE_HI, 0, 7, .rw, 0⟩
def STW_LOG_CTRL_ENABLE : Fld := ⟨.STW_LOG_CTRL, 0, 1, .rw, 0⟩
def STW_LOG_WR_NEXT : Fld := ⟨.STW_LOG_WR, 0, 32, .ro, 0⟩
def STW_LOG_DROPPED_COUNT : Fld := ⟨.STW_LOG_DROPPED, 0, 32, .rc, 0⟩
def STW_REC_STATUS_LEVEL : Fld := ⟨.STW_REC_STATUS, 0, 13, .ro, 0⟩
def STW_REC_STATUS_LOST : Fld := ⟨.STW_REC_STATUS, 16, 16, .rc, 0⟩
def STW_SIGNAL_CORE : Fld := ⟨.STW_SIGNAL, 0, 10, .wo, 0⟩
def STW_SIGNAL_PANEL : Fld := ⟨.STW_SIGNAL, 10, 6, .wo, 0⟩
def STW_SIGNAL_ALL : Fld := ⟨.STW_SIGNAL, 16, 1, .wo, 0⟩
def LNK_CTRL_STOP : Fld := ⟨.LNK_CTRL, 0, 1, .wo, 0⟩
def LNK_CTRL_START : Fld := ⟨.LNK_CTRL, 1, 1, .wo, 0⟩
def LNK_STATUS_STATE : Fld := ⟨.LNK_STATUS, 0, 3, .ro, 0⟩
def LNK_STATUS_WIDTH : Fld := ⟨.LNK_STATUS, 3, 4, .ro, 0⟩
def LNK_STATUS_ROLE : Fld := ⟨.LNK_STATUS, 7, 2, .ro, 0⟩
def LNK_STATUS_GOOD_LANES : Fld := ⟨.LNK_STATUS, 9, 8, .ro, 0⟩
def LNK_STATUS_CAUSE : Fld := ⟨.LNK_STATUS, 17, 8, .ro, 0⟩
def LNK_CONFIG_ROLE : Fld := ⟨.LNK_CONFIG, 0, 2, .rw, 2⟩
def LNK_CONFIG_MAX_WIDTH : Fld := ⟨.LNK_CONFIG, 2, 4, .rw, 8⟩
def LNK_CONFIG_HCTX : Fld := ⟨.LNK_CONFIG, 6, 3, .rw, 0⟩
def LNK_CONFIG_DEG_LIMIT : Fld := ⟨.LNK_CONFIG, 10, 16, .rw, 1024⟩
def LNK_EVENT_DOWN : Fld := ⟨.LNK_EVENT, 0, 1, .w1c, 0⟩
def LNK_EVENT_RETRAIN : Fld := ⟨.LNK_EVENT, 1, 1, .w1c, 0⟩
def LNK_EVENT_DEGRADE : Fld := ⟨.LNK_EVENT, 2, 1, .w1c, 0⟩
def LNK_EVENT_BAD_PACKET : Fld := ⟨.LNK_EVENT, 3, 1, .w1c, 0⟩
def LNK_EVENT_EN_EN : Fld := ⟨.LNK_EVENT_EN, 0, 4, .rw, 7⟩
def LNK_FEC_CORR_COUNT : Fld := ⟨.LNK_FEC_CORR, 0, 32, .rc, 0⟩
def LNK_ERR_COUNTS_CRC_ERR : Fld := ⟨.LNK_ERR_COUNTS, 0, 16, .rc, 0⟩
def LNK_ERR_COUNTS_RETRIES : Fld := ⟨.LNK_ERR_COUNTS, 16, 16, .rc, 0⟩
def LNK_PKT_COUNTS_BAD_PACKET : Fld := ⟨.LNK_PKT_COUNTS, 0, 8, .rc, 0⟩
def LNK_PKT_COUNTS_NO_ROUTE : Fld := ⟨.LNK_PKT_COUNTS, 8, 8, .rc, 0⟩
def LNK_PKT_COUNTS_HOP_LIMIT : Fld := ⟨.LNK_PKT_COUNTS, 16, 8, .rc, 0⟩
def LNK_PKT_COUNTS_TIMEOUT : Fld := ⟨.LNK_PKT_COUNTS, 24, 8, .rc, 0⟩
def LNK_LINK_COUNTS_DEGRADES : Fld := ⟨.LNK_LINK_COUNTS, 0, 8, .rc, 0⟩
def LNK_LINK_COUNTS_RETRAINS : Fld := ⟨.LNK_LINK_COUNTS, 8, 8, .rc, 0⟩
def LNK_LINK_COUNTS_BAD_CMD : Fld := ⟨.LNK_LINK_COUNTS, 16, 8, .rc, 0⟩

end F

/-- The fields of each register (the register tables). -/
def Reg.fields : Reg → List Fld
  | .DIE_ID => [F.DIE_ID_TYPE, F.DIE_ID_NUMBER, F.DIE_ID_STEPPING]
  | .ICNT_LO => [F.ICNT_LO_COUNT_LO]
  | .ICNT_HI => [F.ICNT_HI_COUNT_HI]
  | .ICNT_STATUS => [F.ICNT_STATUS_TRIMMED, F.ICNT_STATUS_DRIFT, F.ICNT_STATUS_TRIM]
  | .DIE_BEAT => [F.DIE_BEAT_BEATS]
  | .CORE_ID => [F.CORE_ID_LOGICAL, F.CORE_ID_MAPPED, F.CORE_ID_ROW, F.CORE_ID_COLUMN, F.CORE_ID_DIE]
  | .CORE_STATUS => [F.CORE_STATUS_PARKED, F.CORE_STATUS_EXCLUDED, F.CORE_STATUS_PANEL, F.CORE_STATUS_PANEL_VALID]
  | .LS_ECC => [F.LS_ECC_CORRECTED]
  | .CORE_FLT => [F.CORE_FLT_ARITH, F.CORE_FLT_HS_TIMEOUT, F.CORE_FLT_LS_DED, F.CORE_FLT_TRACKER, F.CORE_FLT_UNCORR_READ, F.CORE_FLT_REPLAY_FAULT, F.CORE_FLT_EXCLUDED]
  | .CORE_FLT_EN => [F.CORE_FLT_EN_EN]
  | .CORE_FLT_COUNTS => [F.CORE_FLT_COUNTS_REPLAYS, F.CORE_FLT_COUNTS_WINDOW]
  | .NDL_EVENT => [F.NDL_EVENT_HALT_F, F.NDL_EVENT_HALT_B, F.NDL_EVENT_HALT_U, F.NDL_EVENT_DUP_MATCH, F.NDL_EVENT_DUP_MISMATCH]
  | .NDL_EVENT_EN => [F.NDL_EVENT_EN_EN]
  | .NDL_DUP => [F.NDL_DUP_MATCH, F.NDL_DUP_MISMATCH]
  | .NDL_UNITS => [F.NDL_UNITS_COUNT]
  | .NDL_SEL => [F.NDL_SEL_STREAM, F.NDL_SEL_SHP, F.NDL_SEL_ENTRY]
  | .NDL_WALK => [F.NDL_WALK_KC, F.NDL_WALK_SPLIT, F.NDL_WALK_ORDER]
  | .NDL_SHP_DATA => [F.NDL_SHP_DATA_VALUE]
  | .GZ_STATUS => [F.GZ_STATUS_BUSY, F.GZ_STATUS_EXACT_PASS, F.GZ_STATUS_DIVERTED]
  | .GZ_EVENT => [F.GZ_EVENT_SCALE_OVF, F.GZ_EVENT_SCALE_UNF, F.GZ_EVENT_PICOT_LIMIT, F.GZ_EVENT_FALLBACK, F.GZ_EVENT_SAT, F.GZ_EVENT_T2_RSV, F.GZ_EVENT_FMT_DIVERT]
  | .GZ_EVENT_EN => [F.GZ_EVENT_EN_EN]
  | .GZ_MODE => [F.GZ_MODE_RUN_GROUPS, F.GZ_MODE_REF, F.GZ_MODE_FALLBACK_SEL, F.GZ_MODE_DIVERT, F.GZ_MODE_PICOT_SLOTS, F.GZ_MODE_TWILL, F.GZ_MODE_SR, F.GZ_MODE_TAU]
  | .GZ_SCALE_OVF => [F.GZ_SCALE_OVF_COUNT]
  | .GZ_SCALE_UNF => [F.GZ_SCALE_UNF_COUNT]
  | .GZ_ALIGN_LOSS => [F.GZ_ALIGN_LOSS_COUNT]
  | .GZ_PICOT_OVF => [F.GZ_PICOT_OVF_COUNT]
  | .GZ_SAT => [F.GZ_SAT_COUNT]
  | .GZ_TILE_COUNTS => [F.GZ_TILE_COUNTS_FALLBACK_TILES, F.GZ_TILE_COUNTS_PICOT_DIVERT]
  | .GZ_MISC_COUNTS => [F.GZ_MISC_COUNTS_FMT_DIVERT, F.GZ_MISC_COUNTS_T2_RSV]
  | .GZ_LIMITS => [F.GZ_LIMITS_ALIGN_LIMIT, F.GZ_LIMITS_PICOT_LIMIT]
  | .TW_STATUS => [F.TW_STATUS_BUSY, F.TW_STATUS_REF_PASS, F.TW_STATUS_DIVERTED_IN, F.TW_STATUS_SLICE_WAIT]
  | .TW_EVENT => [F.TW_EVENT_SAT, F.TW_EVENT_ALIGN_LOSS, F.TW_EVENT_RESIDUE, F.TW_EVENT_T2_RSV, F.TW_EVENT_INF_IN]
  | .TW_EVENT_EN => [F.TW_EVENT_EN_EN]
  | .TW_MODE => [F.TW_MODE_FORM, F.TW_MODE_REF, F.TW_MODE_PAIR, F.TW_MODE_GROUP8, F.TW_MODE_DERIV, F.TW_MODE_ADDEND, F.TW_MODE_TRANS_A, F.TW_MODE_TRANS_B, F.TW_MODE_SR]
  | .TW_SAT => [F.TW_SAT_COUNT]
  | .TW_ALIGN_LOSS => [F.TW_ALIGN_LOSS_COUNT]
  | .TW_MISC_COUNTS => [F.TW_MISC_COUNTS_RESIDUE, F.TW_MISC_COUNTS_T2_RSV]
  | .TW_SLICES => [F.TW_SLICES_SENT]
  | .TW_SLICE_STALL => [F.TW_SLICE_STALL_TICKS]
  | .TW_TBL_SEL => [F.TW_TBL_SEL_TABLE, F.TW_TBL_SEL_SEG, F.TW_TBL_SEL_COEF, F.TW_TBL_SEL_HEAD]
  | .TW_TBL_DATA => [F.TW_TBL_DATA_VALUE]
  | .SEAM_STATUS => [F.SEAM_STATUS_SLOTS, F.SEAM_STATUS_BUSY, F.SEAM_STATUS_RESTORED]
  | .SEAM_EVENT => [F.SEAM_EVENT_CALIB, F.SEAM_EVENT_NAN_BLOCK, F.SEAM_EVENT_STALE, F.SEAM_EVENT_CRUSHED, F.SEAM_EVENT_SAT]
  | .SEAM_EVENT_EN => [F.SEAM_EVENT_EN_EN]
  | .SEAM_CALIB_PENDING => [F.SEAM_CALIB_PENDING_SLOT]
  | .SEAM_UNT_ELEM => [F.SEAM_UNT_ELEM_SAT, F.SEAM_UNT_ELEM_UNF]
  | .SEAM_UNT_BLOCK => [F.SEAM_UNT_BLOCK_CRUSHED, F.SEAM_UNT_BLOCK_NAN_BLOCK]
  | .SEAM_STALE => [F.SEAM_STALE_COUNT]
  | .SEAM_TRK_SEL => [F.SEAM_TRK_SEL_SLOT, F.SEAM_TRK_SEL_ITEM]
  | .SEAM_TRK_DATA => [F.SEAM_TRK_DATA_VALUE]
  | .SEAM_TRK_CTRL => [F.SEAM_TRK_CTRL_CLEAR_COUNTS, F.SEAM_TRK_CTRL_RESNAP]
  | .ATT_STATUS => [F.ATT_STATUS_BUSY, F.ATT_STATUS_DIVERTED, F.ATT_STATUS_POOL, F.ATT_STATUS_PHASE]
  | .ATT_EVENT => [F.ATT_EVENT_DIVERT, F.ATT_EVENT_EMPTY_ROW, F.ATT_EVENT_CHAN_ERROR]
  | .ATT_EVENT_EN => [F.ATT_EVENT_EN_EN]
  | .ATT_DIVERT => [F.ATT_DIVERT_COUNT]
  | .ATT_ROWS => [F.ATT_ROWS_EMPTY, F.ATT_ROWS_ERR_FOLDS]
  | .VEC_GS_COUNTS => [F.VEC_GS_COUNTS_OUT_OF_RANGE]
  | .MK_STATE_LO => [F.MK_STATE_LO_STATE]
  | .MK_STATE_HI => [F.MK_STATE_HI_STATE]
  | .MK_STATUS => [F.MK_STATUS_DOUBLE_SET, F.MK_STATUS_WAIT_TIMEOUT, F.MK_STATUS_FORCED, F.MK_STATUS_LAST_DOUBLE]
  | .MK_EVENT_EN => [F.MK_EVENT_EN_DOUBLE_SET, F.MK_EVENT_EN_WAIT_TIMEOUT, F.MK_EVENT_EN_FORCED]
  | .MK_DOUBLE_SET => [F.MK_DOUBLE_SET_COUNT]
  | .MK_WAIT_TIMEOUT => [F.MK_WAIT_TIMEOUT_TICKS]
  | .MK_CHAIN => [F.MK_CHAIN_LAST_ID, F.MK_CHAIN_FAULT, F.MK_CHAIN_ARRIVED, F.MK_CHAIN_ARRIVED_ID]
  | .MK_CHAIN_EPOCH => [F.MK_CHAIN_EPOCH_EPOCH]
  | .MK_FORCED => [F.MK_FORCED_COUNT]
  | .VEC_BASE => [F.VEC_BASE_INDEX]
  | .VEC_PEND => [F.VEC_PEND_PEND]
  | .VEC_EN => [F.VEC_EN_EN]
  | .VEC_SOFT => [F.VEC_SOFT_SOFT]
  | .VEC_STATUS => [F.VEC_STATUS_ACTIVE, F.VEC_STATUS_ACTIVE_VALID]
  | .VEC_COUNTS => [F.VEC_COUNTS_DELIVERED, F.VEC_COUNTS_MERGED, F.VEC_COUNTS_BAD_HANDLER]
  | .VEC_LATCH => [F.VEC_LATCH_LATCHED]
  | .CORE_ATTN => [F.CORE_ATTN_SOURCE]
  | .NDL_STREAM_STATUS => [F.NDL_STREAM_STATUS_STATE, F.NDL_STREAM_STATUS_WAIT_PENDING, F.NDL_STREAM_STATUS_CAUSE, F.NDL_STREAM_STATUS_SCOPE]
  | .NDL_STREAM_PC => [F.NDL_STREAM_PC_INDEX]
  | .NDL_STREAM_SEQ => [F.NDL_STREAM_SEQ_SEQ]
  | .VEC_PRIO => [F.VEC_PRIO_PRIO]
  | .MK_FORCE_KEY => [F.MK_FORCE_KEY_KEY]
  | .MK_FORCE => [F.MK_FORCE_ID, F.MK_FORCE_OP, F.MK_FORCE_FAIL_STEP]
  | .MK_FORCE_COUNT => [F.MK_FORCE_COUNT_DONE, F.MK_FORCE_COUNT_REFUSED]
  | .DIE_FLT => [F.DIE_FLT_SKEIN, F.DIE_FLT_BRIDGE, F.DIE_FLT_MARKER_NET, F.DIE_FLT_CHAIN, F.DIE_FLT_HS_TIMEOUT]
  | .DIE_FLT_EN => [F.DIE_FLT_EN_EN]
  | .DIE_FLT_COUNT => [F.DIE_FLT_COUNT_COUNT]
  | .FELT_FIXED => [F.FELT_FIXED_PAGES]
  | .FELT_MEM_COUNTS => [F.FELT_MEM_COUNTS_CORRECTED, F.FELT_MEM_COUNTS_UNCORR, F.FELT_MEM_COUNTS_REFUSED]
  | .FELT_ECC_ADDR_LO => [F.FELT_ECC_ADDR_LO_ADDR_LO]
  | .FELT_ECC_ADDR_HI => [F.FELT_ECC_ADDR_HI_ADDR_HI]
  | .FELT_SCRUB_CTRL => [F.FELT_SCRUB_CTRL_PERIOD]
  | .FELT_SCRUB_STATUS => [F.FELT_SCRUB_STATUS_PASSES, F.FELT_SCRUB_STATUS_PAGE]
  | .FELT_MEM_EVENT => [F.FELT_MEM_EVENT_UNCORR, F.FELT_MEM_EVENT_EXHAUSTED, F.FELT_MEM_EVENT_COPY_NAN]
  | .FELT_MEM_EVENT_EN => [F.FELT_MEM_EVENT_EN_EN]
  | .FELT_PLC_COUNTS => [F.FELT_PLC_COUNTS_MIGRATED, F.FELT_PLC_COUNTS_ABANDONED, F.FELT_PLC_COUNTS_HINT_IGNORED]
  | .FELT_MIG_INTERVAL => [F.FELT_MIG_INTERVAL_TICKS]
  | .FELT_MIG_LIMITS => [F.FELT_MIG_LIMITS_MIN, F.FELT_MIG_LIMITS_MAX, F.FELT_MIG_LIMITS_ENABLE]
  | .FELT_RES_STATUS => [F.FELT_RES_STATUS_RESIDENT, F.FELT_RES_STATUS_SPILLED]
  | .FELT_COPY_COUNTS => [F.FELT_COPY_COUNTS_SAT, F.FELT_COPY_COUNTS_UNF]
  | .FELT_COPY_BLOCKS => [F.FELT_COPY_BLOCKS_NAN_BLOCK, F.FELT_COPY_BLOCKS_CRUSHED]
  | .FELT_RULE_CTRL => [F.FELT_RULE_CTRL_STOP, F.FELT_RULE_CTRL_START]
  | .FELT_RULE_STATUS => [F.FELT_RULE_STATUS_STATE, F.FELT_RULE_STATUS_GEN, F.FELT_RULE_STATUS_BAD_CMD]
  | .FELT_RULE_SEL => [F.FELT_RULE_SEL_INDEX, F.FELT_RULE_SEL_WORD, F.FELT_RULE_SEL_PROG]
  | .FELT_RULE_DATA => [F.FELT_RULE_DATA_VALUE]
  | .ATT_TREE_USED => [F.ATT_TREE_USED_ENTRIES]
  | .ATT_TREE_HITS => [F.ATT_TREE_HITS_COUNT]
  | .ATT_TREE_MISSES => [F.ATT_TREE_MISSES_COUNT]
  | .ATT_TREE_COUNTS => [F.ATT_TREE_COUNTS_EVICT, F.ATT_TREE_COUNTS_COLLIDE, F.ATT_TREE_COUNTS_FULL]
  | .ATT_PUB_DUP => [F.ATT_PUB_DUP_COUNT]
  | .ATT_KV_ELEM => [F.ATT_KV_ELEM_SAT, F.ATT_KV_ELEM_UNF]
  | .ATT_KV_BLOCK => [F.ATT_KV_BLOCK_NAN_BLOCK, F.ATT_KV_BLOCK_CRUSHED]
  | .ATT_FELT_EVENT => [F.ATT_FELT_EVENT_COLLIDE, F.ATT_FELT_EVENT_FULL, F.ATT_FELT_EVENT_DATA_ERROR, F.ATT_FELT_EVENT_KV_NAN]
  | .ATT_FELT_EVENT_EN => [F.ATT_FELT_EVENT_EN_EN]
  | .ATT_CHAN_SEL => [F.ATT_CHAN_SEL_CHANNEL, F.ATT_CHAN_SEL_LAYER, F.ATT_CHAN_SEL_ITEM]
  | .ATT_CHAN_DATA => [F.ATT_CHAN_DATA_VALUE]
  | .FELT_WIN_STATUS => [F.FELT_WIN_STATUS_USED_TILES, F.FELT_WIN_STATUS_LATE_TILES]
  | .FELT_WIN_COUNTS => [F.FELT_WIN_COUNTS_FULL_WAIT, F.FELT_WIN_COUNTS_SAT]
  | .FELT_LATE_COUNTS => [F.FELT_LATE_COUNTS_FOLDED, F.FELT_LATE_COUNTS_DROPPED]
  | .FELT_UPD_BANDS => [F.FELT_UPD_BANDS_COUNT]
  | .FELT_UPD_HOLD => [F.FELT_UPD_HOLD_TICKS]
  | .FELT_UPD_COUNTS => [F.FELT_UPD_COUNTS_SAT, F.FELT_UPD_COUNTS_NAN_BANDS]
  | .FELT_TRAIN_EVENT => [F.FELT_TRAIN_EVENT_RATIO_LO, F.FELT_TRAIN_EVENT_RATIO_HI, F.FELT_TRAIN_EVENT_WIN_SAT, F.FELT_TRAIN_EVENT_LATE_DROP, F.FELT_TRAIN_EVENT_UPD_NAN, F.FELT_TRAIN_EVENT_RATIO_FULL]
  | .FELT_TRAIN_EVENT_EN => [F.FELT_TRAIN_EVENT_EN_EN]
  | .FELT_RATIO_SEL => [F.FELT_RATIO_SEL_HANDLE, F.FELT_RATIO_SEL_ITEM]
  | .FELT_RATIO_DATA => [F.FELT_RATIO_DATA_VALUE]
  | .FELT_FLT => [F.FELT_FLT_WIN_DED, F.FELT_FLT_LATE_DED, F.FELT_FLT_SRAM_DED, F.FELT_FLT_UPD_ARITH, F.FELT_FLT_HS_TIMEOUT]
  | .FELT_FLT_EN => [F.FELT_FLT_EN_EN]
  | .FELT_FLT_COUNT => [F.FELT_FLT_COUNT_COUNT]
  | .PAT_CTRL => [F.PAT_CTRL_LOAD, F.PAT_CTRL_LOAD_PARTIAL, F.PAT_CTRL_ABORT]
  | .PAT_STATUS => [F.PAT_STATUS_LOADER, F.PAT_STATUS_LOADED, F.PAT_STATUS_SIGNED, F.PAT_STATUS_DONE, F.PAT_STATUS_FAILED, F.PAT_STATUS_ERROR, F.PAT_STATUS_PANEL, F.PAT_STATUS_PARTIAL]
  | .PAT_LOAD_ADDR_LO => [F.PAT_LOAD_ADDR_LO_ADDR_LO]
  | .PAT_LOAD_ADDR_HI => [F.PAT_LOAD_ADDR_HI_ADDR_HI]
  | .PAT_LOAD_LEN => [F.PAT_LOAD_LEN_BYTES]
  | .PAT_DIGEST => [F.PAT_DIGEST_DIGEST]
  | .PAT_ID => [F.PAT_ID_PATTERN_ID]
  | .PAT_GENERATION => [F.PAT_GENERATION_LOADS]
  | .PAT_DRAIN_TIMEOUT => [F.PAT_DRAIN_TIMEOUT_TICKS]
  | .PAT_COUNTS => [F.PAT_COUNTS_BAD_CMD, F.PAT_COUNTS_STAGE_WRITE]
  | .PAT_SPARE_FREE => [F.PAT_SPARE_FREE_DIE0, F.PAT_SPARE_FREE_DIE1]
  | .PAT_EXCLUDED_DIE0 => [F.PAT_EXCLUDED_DIE0_CORES]
  | .PAT_EXCLUDED_DIE1 => [F.PAT_EXCLUDED_DIE1_CORES]
  | .PAT_PANEL_CTRL => [F.PAT_PANEL_CTRL_STOP, F.PAT_PANEL_CTRL_START, F.PAT_PANEL_CTRL_FORCE, F.PAT_PANEL_CTRL_STOP_MODE]
  | .PAT_PANEL_STATUS => [F.PAT_PANEL_STATUS_STATE, F.PAT_PANEL_STATUS_STOP_DONE, F.PAT_PANEL_STATUS_FORCED, F.PAT_PANEL_STATUS_KIND, F.PAT_PANEL_STATUS_CAUSE, F.PAT_PANEL_STATUS_CORES]
  | .HUB_STEP_NUM => [F.HUB_STEP_NUM_S]
  | .HUB_STEP_COMMITTED => [F.HUB_STEP_COMMITTED_COUNT]
  | .HUB_STEP_STATUS => [F.HUB_STEP_STATUS_STATE, F.HUB_STEP_STATUS_BANK, F.HUB_STEP_STATUS_SINGLE, F.HUB_STEP_STATUS_ROOT, F.HUB_STEP_STATUS_LAST, F.HUB_STEP_STATUS_CAUSE, F.HUB_STEP_STATUS_FAILS, F.HUB_STEP_STATUS_VOTE_DONE, F.HUB_STEP_STATUS_UPDATED]
  | .HUB_STEP_CTRL => [F.HUB_STEP_CTRL_RESUME, F.HUB_STEP_CTRL_RESTORED]
  | .HUB_STEP_REPEATS => [F.HUB_STEP_REPEATS_REPEATS, F.HUB_STEP_REPEATS_BAD_CMD]
  | .CH_STATUS => [F.CH_STATUS_TIMEOUT_ID, F.CH_STATUS_ROOT_OPEN]
  | .CH_EVENT => [F.CH_EVENT_TIMEOUT, F.CH_EVENT_DOUBLE_ARRIVE, F.CH_EVENT_STRAY]
  | .CH_EVENT_EN => [F.CH_EVENT_EN_EN]
  | .CH_TIMEOUT => [F.CH_TIMEOUT_TICKS]
  | .CH_COUNTS => [F.CH_COUNTS_DOUBLE_ARRIVE, F.CH_COUNTS_STRAY]
  | .MK_REMOTE_COUNTS => [F.MK_REMOTE_COUNTS_NO_ROUTE, F.MK_REMOTE_COUNTS_UNMAPPED, F.MK_REMOTE_COUNTS_RESERVED, F.MK_REMOTE_COUNTS_FENCE_DROP]
  | .MK_EP_DOUBLE_SET => [F.MK_EP_DOUBLE_SET_COUNT]
  | .MK_EP_STATE => [F.MK_EP_STATE_STATE]
  | .LNK_FABRIC => [F.LNK_FABRIC_DEVICE_ID, F.LNK_FABRIC_ID_VALID, F.LNK_FABRIC_MASTER, F.LNK_FABRIC_SLOT_ID]
  | .LNK_GROUP => [F.LNK_GROUP_GROUP]
  | .LNK_DISC_CTRL => [F.LNK_DISC_CTRL_START]
  | .LNK_DISC_STATUS => [F.LNK_DISC_STATUS_STATE, F.LNK_DISC_STATUS_CONFLICT, F.LNK_DISC_STATUS_MEMBERS]
  | .LNK_DISC_MEMBERS => [F.LNK_DISC_MEMBERS_SLOTS]
  | .LNK_ROUTE_SEL => [F.LNK_ROUTE_SEL_ID]
  | .LNK_ROUTE_DATA => [F.LNK_ROUTE_DATA_PORT, F.LNK_ROUTE_DATA_VALID]
  | .LNK_RSP_TIMEOUT => [F.LNK_RSP_TIMEOUT_TICKS]
  | .FLT_CTRL => [F.FLT_CTRL_AUTO_REMAP, F.FLT_CTRL_CORE_LIMIT]
  | .FLT_CORE_WINDOW => [F.FLT_CORE_WINDOW_TICKS]
  | .FLT_COUNTS => [F.FLT_COUNTS_STEP_FAULTS, F.FLT_COUNTS_ABORTS]
  | .FLT_EXCLUSIONS => [F.FLT_EXCLUSIONS_COUNT]
  | .FLT_LAST => [F.FLT_LAST_CODE]
  | .PWR_LIMIT => [F.PWR_LIMIT_WATTS]
  | .PWR_VCORE => [F.PWR_VCORE_VSET0, F.PWR_VCORE_VSET1, F.PWR_VCORE_CMD0, F.PWR_VCORE_CMD1]
  | .PWR_STATUS => [F.PWR_STATUS_EMERGENCY, F.PWR_STATUS_ALERT, F.PWR_STATUS_TRIP, F.PWR_STATUS_CRIT, F.PWR_STATUS_WARN, F.PWR_STATUS_GATED, F.PWR_STATUS_DUTY]
  | .PWR_THERM => [F.PWR_THERM_WARN, F.PWR_THERM_TJ_MAX]
  | .PWR_EVENT => [F.PWR_EVENT_EVENTS]
  | .PWR_EVENT_EN => [F.PWR_EVENT_EN_EVENTS]
  | .PWR_POWER => [F.PWR_POWER_WATTS]
  | .PWR_COUNTS => [F.PWR_COUNTS_ALERTS, F.PWR_COUNTS_TRIPS, F.PWR_COUNTS_VR_RETRY]
  | .SEC_CTRL => [F.SEC_CTRL_ATTEST, F.SEC_CTRL_REGISTER_KEY, F.SEC_CTRL_DEBUG_EN]
  | .SEC_STATUS => [F.SEC_STATUS_ATTEST, F.SEC_STATUS_KEY_REGISTERED, F.SEC_STATUS_DEBUG, F.SEC_STATUS_LOG_OVERFLOW, F.SEC_STATUS_REC, F.SEC_STATUS_ROM_VERSION]
  | .SEC_EVENT => [F.SEC_EVENT_EVENTS]
  | .SEC_EVENT_EN => [F.SEC_EVENT_EN_EVENTS]
  | .SEC_LOG_COUNT => [F.SEC_LOG_COUNT_ENTRIES, F.SEC_LOG_COUNT_OVERFLOW]
  | .SEC_COUNTS => [F.SEC_COUNTS_REFUSED, F.SEC_COUNTS_ATTESTS]
  | .SEC_MEAS => [F.SEC_MEAS_WORD]
  | .SEC_NONCE => [F.SEC_NONCE_WORD]
  | .SEC_PKEY => [F.SEC_PKEY_WORD]
  | .SEC_REC_KEY => [F.SEC_REC_KEY_KEY]
  | .SEC_REC_CTRL => [F.SEC_REC_CTRL_WRITE, F.SEC_REC_CTRL_SRC]
  | .HUB_BOOT_STATUS => [F.HUB_BOOT_STATUS_PHASE, F.HUB_BOOT_STATUS_DRAM_DONE, F.HUB_BOOT_STATUS_REPAIR_EMPTY, F.HUB_BOOT_STATUS_ERROR, F.HUB_BOOT_STATUS_WARM, F.HUB_BOOT_STATUS_WARM_COUNT]
  | .HUB_INCHK_EVENT => [F.HUB_INCHK_EVENT_EVENTS]
  | .HUB_INCHK_EVENT_EN => [F.HUB_INCHK_EVENT_EN_EVENTS]
  | .HUB_INCHK_COUNTS => [F.HUB_INCHK_COUNTS_RANGE, F.HUB_INCHK_COUNTS_GLITCH, F.HUB_INCHK_COUNTS_STRAP]
  | .HUB_INCHK_LAST => [F.HUB_INCHK_LAST_OFFSET, F.HUB_INCHK_LAST_AGENT]
  | .ATTN_SUMMARY => [F.ATTN_SUMMARY_ACTIVE]
  | .ATTN_MASK => [F.ATTN_MASK_MASK]
  | .ATTN_MSG_CTRL => [F.ATTN_MSG_CTRL_EN, F.ATTN_MSG_CTRL_HOLDOFF]
  | .ATTN_MSG_PERIOD => [F.ATTN_MSG_PERIOD_TICKS]
  | .CLM_BAD_COMPLETE => [F.CLM_BAD_COMPLETE_COUNT]
  | .CLM_MERGED => [F.CLM_MERGED_COUNT]
  | .ATTN_GRP => [F.ATTN_GRP_ACTIVE]
  | .ATTN_CORE_ROW_LO => [F.ATTN_CORE_ROW_LO_COLUMN]
  | .ATTN_CORE_ROW_HI => [F.ATTN_CORE_ROW_HI_COLUMN]
  | .CLM_PEND => [F.CLM_PEND_PENDING]
  | .CLM_SRC => [F.CLM_SRC_PRIO, F.CLM_SRC_TARGET, F.CLM_SRC_PENDING, F.CLM_SRC_ACTIVE, F.CLM_SRC_CLAIMED_BY]
  | .CLM_THRESHOLD => [F.CLM_THRESHOLD_THRESHOLD]
  | .CLM_CLAIM => [F.CLM_CLAIM_SOURCE]
  | .CLM_COMPLETE => [F.CLM_COMPLETE_SOURCE]
  | .CLM_TARGET_CTRL => [F.CLM_TARGET_CTRL_RELEASE_ALL]
  | .CLM_TARGET_STATUS => [F.CLM_TARGET_STATUS_NEXT, F.CLM_TARGET_STATUS_ACTIVE]
  | .Q_CTRL => [F.Q_CTRL_STOP, F.Q_CTRL_START, F.Q_CTRL_CLEAR]
  | .Q_STATUS => [F.Q_STATUS_STATE, F.Q_STATUS_RESET_BY_CHECK, F.Q_STATUS_FULL, F.Q_STATUS_CAUSE, F.Q_STATUS_RESETS]
  | .Q_CONFIG => [F.Q_CONFIG_ITEM_LOG2, F.Q_CONFIG_CAP_LOG2, F.Q_CONFIG_CONSUMER, F.Q_CONFIG_CONS_KIND, F.Q_CONFIG_PRODUCER, F.Q_CONFIG_PROD_PANEL, F.Q_CONFIG_ARRIVE]
  | .Q_BASE_LO => [F.Q_BASE_LO_BASE_LO]
  | .Q_BASE_HI => [F.Q_BASE_HI_BASE_HI]
  | .Q_COUNT => [F.Q_COUNT_VALUE]
  | .Q_PROD => [F.Q_PROD_VALUE]
  | .Q_CONS => [F.Q_CONS_VALUE]
  | .Q_MARK => [F.Q_MARK_VALUE]
  | .Q_REL => [F.Q_REL_VALUE]
  | .Q_CMD => [F.Q_CMD_OP, F.Q_CMD_N]
  | .Q_PUSH_SRC_LO => [F.Q_PUSH_SRC_LO_SRC_LO]
  | .Q_PUSH_SRC_HI => [F.Q_PUSH_SRC_HI_SRC_HI]
  | .Q_CREDITS => [F.Q_CREDITS_POOL]
  | .Q_COUNTS => [F.Q_COUNTS_DROPPED, F.Q_COUNTS_PUSH_TIMEOUT, F.Q_COUNTS_BAD_CMD]
  | .STW_CTRL => [F.STW_CTRL_STOP, F.STW_CTRL_START, F.STW_CTRL_RESTART, F.STW_CTRL_ACTIVATE, F.STW_CTRL_CANCEL, F.STW_CTRL_AUTO, F.STW_CTRL_TAKE, F.STW_CTRL_GIVE_BACK, F.STW_CTRL_TAKE_OF]
  | .STW_STATUS => [F.STW_STATUS_STATE, F.STW_STATUS_ROLE, F.STW_STATUS_CAUSE]
  | .STW_FW_VERSION => [F.STW_FW_VERSION_VERSION]
  | .STW_WDOG => [F.STW_WDOG_TICKS]
  | .STW_KICK => [F.STW_KICK_VALUE]
  | .STW_COUNTS => [F.STW_COUNTS_CRASHES, F.STW_COUNTS_RESTARTS, F.STW_COUNTS_BAD_CMD]
  | .STW_EVENT => [F.STW_EVENT_CRASH, F.STW_EVENT_ACT_END]
  | .STW_EVENT_EN => [F.STW_EVENT_EN_CRASH, F.STW_EVENT_EN_ACT_END]
  | .STW_REC_POP => [F.STW_REC_POP_VALUE]
  | .STW_REC_ACK => [F.STW_REC_ACK_VALUE]
  | .STW_LOG_SUBMIT_ID => [F.STW_LOG_SUBMIT_ID_VALUE]
  | .STW_REC_DATA => [F.STW_REC_DATA_WORD]
  | .STW_LOG_SUBMIT => [F.STW_LOG_SUBMIT_WORD]
  | .STW_STAGE_LEN => [F.STW_STAGE_LEN_BYTES]
  | .STW_STAGE_CTRL => [F.STW_STAGE_CTRL_VERIFY]
  | .STW_STAGE_STATUS => [F.STW_STAGE_STATUS_STATE, F.STW_STAGE_STATUS_ROLE, F.STW_STAGE_STATUS_ERROR]
  | .STW_ACT_STATUS => [F.STW_ACT_STATUS_STATE, F.STW_ACT_STATUS_TARGET, F.STW_ACT_STATUS_END, F.STW_ACT_STATUS_CAUSE]
  | .STW_ACT_COUNTS => [F.STW_ACT_COUNTS_STAGE_WRITE]
  | .STW_TRACE_EN_LO => [F.STW_TRACE_EN_LO_CLASS]
  | .STW_TRACE_EN_HI => [F.STW_TRACE_EN_HI_CLASS]
  | .STW_LOG_BASE_LO => [F.STW_LOG_BASE_LO_BASE_LO]
  | .STW_LOG_BASE_HI => [F.STW_LOG_BASE_HI_BASE_HI]
  | .STW_LOG_CTRL => [F.STW_LOG_CTRL_ENABLE]
  | .STW_LOG_WR => [F.STW_LOG_WR_NEXT]
  | .STW_LOG_DROPPED => [F.STW_LOG_DROPPED_COUNT]
  | .STW_REC_STATUS => [F.STW_REC_STATUS_LEVEL, F.STW_REC_STATUS_LOST]
  | .STW_SIGNAL => [F.STW_SIGNAL_CORE, F.STW_SIGNAL_PANEL, F.STW_SIGNAL_ALL]
  | .LNK_CTRL => [F.LNK_CTRL_STOP, F.LNK_CTRL_START]
  | .LNK_STATUS => [F.LNK_STATUS_STATE, F.LNK_STATUS_WIDTH, F.LNK_STATUS_ROLE, F.LNK_STATUS_GOOD_LANES, F.LNK_STATUS_CAUSE]
  | .LNK_CONFIG => [F.LNK_CONFIG_ROLE, F.LNK_CONFIG_MAX_WIDTH, F.LNK_CONFIG_HCTX, F.LNK_CONFIG_DEG_LIMIT]
  | .LNK_EVENT => [F.LNK_EVENT_DOWN, F.LNK_EVENT_RETRAIN, F.LNK_EVENT_DEGRADE, F.LNK_EVENT_BAD_PACKET]
  | .LNK_EVENT_EN => [F.LNK_EVENT_EN_EN]
  | .LNK_FEC_CORR => [F.LNK_FEC_CORR_COUNT]
  | .LNK_ERR_COUNTS => [F.LNK_ERR_COUNTS_CRC_ERR, F.LNK_ERR_COUNTS_RETRIES]
  | .LNK_PKT_COUNTS => [F.LNK_PKT_COUNTS_BAD_PACKET, F.LNK_PKT_COUNTS_NO_ROUTE, F.LNK_PKT_COUNTS_HOP_LIMIT, F.LNK_PKT_COUNTS_TIMEOUT]
  | .LNK_LINK_COUNTS => [F.LNK_LINK_COUNTS_DEGRADES, F.LNK_LINK_COUNTS_RETRAINS, F.LNK_LINK_COUNTS_BAD_CMD]

/-- Reset words of the registers whose reset value is not zero, by register index (R15). -/
def resetWordAt : Nat → Nat
  | 3 => 0x8000 -- ICNT_STATUS
  | 6 => 0x1 -- CORE_STATUS
  | 9 => 0x7f -- CORE_FLT_EN
  | 12 => 0x17 -- NDL_EVENT_EN
  | 20 => 0x4 -- GZ_EVENT_EN
  | 32 => 0x4 -- TW_EVENT_EN
  | 39 => 0x1 -- TW_TBL_SEL
  | 43 => 0x5 -- SEAM_EVENT_EN
  | 53 => 0x4 -- ATT_EVENT_EN
  | 60 => 0x3 -- MK_EVENT_EN
  | 62 => 0x2faf080 -- MK_WAIT_TIMEOUT
  | 68 => 0xffff00ff -- VEC_EN
  | 82 => 0x1f -- DIE_FLT_EN
  | 84 => 0x200 -- FELT_FIXED
  | 88 => 0x18 -- FELT_SCRUB_CTRL
  | 91 => 0x3 -- FELT_MEM_EVENT_EN
  | 93 => 0x7a120 -- FELT_MIG_INTERVAL
  | 94 => 0x80041000 -- FELT_MIG_LIMITS
  | 110 => 0x6 -- ATT_FELT_EVENT_EN
  | 120 => 0x1a -- FELT_TRAIN_EVENT_EN
  | 124 => 0x1f -- FELT_FLT_EN
  | 134 => 0x2faf080 -- PAT_DRAIN_TIMEOUT
  | 148 => 0x7 -- CH_EVENT_EN
  | 149 => 0x2faf080 -- CH_TIMEOUT
  | 158 => 0x1 -- LNK_DISC_MEMBERS
  | 161 => 0x989680 -- LNK_RSP_TIMEOUT
  | 162 => 0x41 -- FLT_CTRL
  | 163 => 0x1dcd6500 -- FLT_CORE_WINDOW
  | 167 => 0x672 -- PWR_LIMIT
  | 168 => 0xffff0d0d -- PWR_VCORE
  | 170 => 0x64 -- PWR_THERM
  | 172 => 0xc7 -- PWR_EVENT_EN
  | 178 => 0xe -- SEC_EVENT_EN
  | 188 => 0x1 -- HUB_INCHK_EVENT_EN
  | 193 => 0x138800 -- ATTN_MSG_CTRL
  | 194 => 0x4c4b40 -- ATTN_MSG_PERIOD
  | 201 => 0x80 -- CLM_SRC
  | 222 => 0x20 -- STW_CTRL
  | 225 => 0x3d0900 -- STW_WDOG
  | 229 => 0x3 -- STW_EVENT_EN
  | 240 => 0x1 -- STW_TRACE_EN_LO
  | 241 => 0x80000000 -- STW_TRACE_EN_HI
  | 251 => 0x100022 -- LNK_CONFIG
  | 253 => 0x7 -- LNK_EVENT_EN
  | _ => 0

/-- Where a register sits inside its block: offset, spacing and number of copies. -/
structure Slot where
  off : Nat
  stride : Nat
  count : Nat
  reg : Reg
  deriving DecidableEq, Repr

/-- Offsets of the `die` block. -/
def dieSlots : List Slot :=
  [ ⟨0x0, 0x4, 1, .DIE_ID⟩,
    ⟨0x100, 0x4, 1, .ICNT_LO⟩,
    ⟨0x104, 0x4, 1, .ICNT_HI⟩,
    ⟨0x108, 0x4, 1, .ICNT_STATUS⟩,
    ⟨0x110, 0x4, 1, .DIE_BEAT⟩ ]

/-- Offsets of the `core` block. -/
def coreSlots : List Slot :=
  [ ⟨0x0, 0x4, 1, .CORE_ID⟩,
    ⟨0x4, 0x4, 1, .CORE_STATUS⟩,
    ⟨0x10, 0x4, 1, .LS_ECC⟩,
    ⟨0x20, 0x4, 1, .CORE_FLT⟩,
    ⟨0x24, 0x4, 1, .CORE_FLT_EN⟩,
    ⟨0x28, 0x4, 1, .CORE_FLT_COUNTS⟩,
    ⟨0x1000, 0x4, 1, .NDL_EVENT⟩,
    ⟨0x1004, 0x4, 1, .NDL_EVENT_EN⟩,
    ⟨0x1040, 0x4, 1, .NDL_DUP⟩,
    ⟨0x1044, 0x4, 1, .NDL_UNITS⟩,
    ⟨0x1048, 0x4, 1, .NDL_SEL⟩,
    ⟨0x104c, 0x4, 1, .NDL_WALK⟩,
    ⟨0x1050, 0x4, 1, .NDL_SHP_DATA⟩,
    ⟨0x2000, 0x4, 1, .GZ_STATUS⟩,
    ⟨0x2004, 0x4, 1, .GZ_EVENT⟩,
    ⟨0x2008, 0x4, 1, .GZ_EVENT_EN⟩,
    ⟨0x200c, 0x4, 1, .GZ_MODE⟩,
    ⟨0x2010, 0x4, 1, .GZ_SCALE_OVF⟩,
    ⟨0x2014, 0x4, 1, .GZ_SCALE_UNF⟩,
    ⟨0x2018, 0x4, 1, .GZ_ALIGN_LOSS⟩ ]
  ++ [ ⟨0x201c, 0x4, 1, .GZ_PICOT_OVF⟩,
    ⟨0x2020, 0x4, 1, .GZ_SAT⟩,
    ⟨0x2024, 0x4, 1, .GZ_TILE_COUNTS⟩,
    ⟨0x2028, 0x4, 1, .GZ_MISC_COUNTS⟩,
    ⟨0x202c, 0x4, 1, .GZ_LIMITS⟩,
    ⟨0x3000, 0x4, 1, .TW_STATUS⟩,
    ⟨0x3004, 0x4, 1, .TW_EVENT⟩,
    ⟨0x3008, 0x4, 1, .TW_EVENT_EN⟩,
    ⟨0x300c, 0x4, 1, .TW_MODE⟩,
    ⟨0x3010, 0x4, 1, .TW_SAT⟩,
    ⟨0x3014, 0x4, 1, .TW_ALIGN_LOSS⟩,
    ⟨0x3018, 0x4, 1, .TW_MISC_COUNTS⟩,
    ⟨0x301c, 0x4, 1, .TW_SLICES⟩,
    ⟨0x3020, 0x4, 1, .TW_SLICE_STALL⟩,
    ⟨0x3024, 0x4, 1, .TW_TBL_SEL⟩,
    ⟨0x3028, 0x4, 1, .TW_TBL_DATA⟩,
    ⟨0x4000, 0x4, 1, .SEAM_STATUS⟩,
    ⟨0x4004, 0x4, 1, .SEAM_EVENT⟩,
    ⟨0x4008, 0x4, 1, .SEAM_EVENT_EN⟩,
    ⟨0x400c, 0x4, 1, .SEAM_CALIB_PENDING⟩ ]
  ++ [ ⟨0x4010, 0x4, 1, .SEAM_UNT_ELEM⟩,
    ⟨0x4014, 0x4, 1, .SEAM_UNT_BLOCK⟩,
    ⟨0x4018, 0x4, 1, .SEAM_STALE⟩,
    ⟨0x4020, 0x4, 1, .SEAM_TRK_SEL⟩,
    ⟨0x4024, 0x4, 1, .SEAM_TRK_DATA⟩,
    ⟨0x4028, 0x4, 1, .SEAM_TRK_CTRL⟩,
    ⟨0x5800, 0x4, 1, .ATT_STATUS⟩,
    ⟨0x5804, 0x4, 1, .ATT_EVENT⟩,
    ⟨0x5808, 0x4, 1, .ATT_EVENT_EN⟩,
    ⟨0x580c, 0x4, 1, .ATT_DIVERT⟩,
    ⟨0x5810, 0x4, 1, .ATT_ROWS⟩,
    ⟨0x5900, 0x4, 1, .VEC_GS_COUNTS⟩,
    ⟨0x6000, 0x4, 1, .MK_STATE_LO⟩,
    ⟨0x6004, 0x4, 1, .MK_STATE_HI⟩,
    ⟨0x6008, 0x4, 1, .MK_STATUS⟩,
    ⟨0x600c, 0x4, 1, .MK_EVENT_EN⟩,
    ⟨0x6010, 0x4, 1, .MK_DOUBLE_SET⟩,
    ⟨0x6014, 0x4, 1, .MK_WAIT_TIMEOUT⟩,
    ⟨0x6018, 0x4, 1, .MK_CHAIN⟩,
    ⟨0x601c, 0x4, 1, .MK_CHAIN_EPOCH⟩ ]
  ++ [ ⟨0x6020, 0x4, 1, .MK_FORCED⟩,
    ⟨0x6100, 0x4, 1, .VEC_BASE⟩,
    ⟨0x6104, 0x4, 1, .VEC_PEND⟩,
    ⟨0x6108, 0x4, 1, .VEC_EN⟩,
    ⟨0x610c, 0x4, 1, .VEC_SOFT⟩,
    ⟨0x6110, 0x4, 1, .VEC_STATUS⟩,
    ⟨0x6114, 0x4, 1, .VEC_COUNTS⟩,
    ⟨0x6130, 0x4, 1, .VEC_LATCH⟩,
    ⟨0x6134, 0x4, 1, .CORE_ATTN⟩,
    ⟨0x1010, 0x4, 3, .NDL_STREAM_STATUS⟩,
    ⟨0x1020, 0x4, 3, .NDL_STREAM_PC⟩,
    ⟨0x1030, 0x4, 3, .NDL_STREAM_SEQ⟩,
    ⟨0x6120, 0x4, 4, .VEC_PRIO⟩ ]

/-- Offsets of the `cdie` block. -/
def cdieSlots : List Slot :=
  [ ⟨0x1000, 0x4, 1, .MK_FORCE_KEY⟩,
    ⟨0x1004, 0x4, 1, .MK_FORCE⟩,
    ⟨0x1008, 0x4, 1, .MK_FORCE_COUNT⟩,
    ⟨0x2000, 0x4, 1, .DIE_FLT⟩,
    ⟨0x2004, 0x4, 1, .DIE_FLT_EN⟩,
    ⟨0x2008, 0x4, 1, .DIE_FLT_COUNT⟩ ]

/-- Offsets of the `felt` block. -/
def feltSlots : List Slot :=
  [ ⟨0x10000, 0x4, 1, .FELT_FIXED⟩,
    ⟨0x10004, 0x4, 1, .FELT_MEM_COUNTS⟩,
    ⟨0x10008, 0x4, 1, .FELT_ECC_ADDR_LO⟩,
    ⟨0x1000c, 0x4, 1, .FELT_ECC_ADDR_HI⟩,
    ⟨0x10010, 0x4, 1, .FELT_SCRUB_CTRL⟩,
    ⟨0x10014, 0x4, 1, .FELT_SCRUB_STATUS⟩,
    ⟨0x10018, 0x4, 1, .FELT_MEM_EVENT⟩,
    ⟨0x1001c, 0x4, 1, .FELT_MEM_EVENT_EN⟩,
    ⟨0x10020, 0x4, 1, .FELT_PLC_COUNTS⟩,
    ⟨0x10024, 0x4, 1, .FELT_MIG_INTERVAL⟩,
    ⟨0x10028, 0x4, 1, .FELT_MIG_LIMITS⟩,
    ⟨0x1002c, 0x4, 1, .FELT_RES_STATUS⟩,
    ⟨0x10030, 0x4, 1, .FELT_COPY_COUNTS⟩,
    ⟨0x10034, 0x4, 1, .FELT_COPY_BLOCKS⟩,
    ⟨0x10040, 0x4, 1, .FELT_RULE_CTRL⟩,
    ⟨0x10044, 0x4, 1, .FELT_RULE_STATUS⟩,
    ⟨0x10048, 0x4, 1, .FELT_RULE_SEL⟩,
    ⟨0x1004c, 0x4, 1, .FELT_RULE_DATA⟩,
    ⟨0x40000, 0x4, 1, .ATT_TREE_USED⟩,
    ⟨0x40004, 0x4, 1, .ATT_TREE_HITS⟩ ]
  ++ [ ⟨0x40008, 0x4, 1, .ATT_TREE_MISSES⟩,
    ⟨0x4000c, 0x4, 1, .ATT_TREE_COUNTS⟩,
    ⟨0x40010, 0x4, 1, .ATT_PUB_DUP⟩,
    ⟨0x40014, 0x4, 1, .ATT_KV_ELEM⟩,
    ⟨0x40018, 0x4, 1, .ATT_KV_BLOCK⟩,
    ⟨0x40020, 0x4, 1, .ATT_FELT_EVENT⟩,
    ⟨0x40024, 0x4, 1, .ATT_FELT_EVENT_EN⟩,
    ⟨0x40030, 0x4, 1, .ATT_CHAN_SEL⟩,
    ⟨0x40034, 0x4, 1, .ATT_CHAN_DATA⟩,
    ⟨0x50000, 0x4, 1, .FELT_WIN_STATUS⟩,
    ⟨0x50004, 0x4, 1, .FELT_WIN_COUNTS⟩,
    ⟨0x50008, 0x4, 1, .FELT_LATE_COUNTS⟩,
    ⟨0x5000c, 0x4, 1, .FELT_UPD_BANDS⟩,
    ⟨0x50010, 0x4, 1, .FELT_UPD_HOLD⟩,
    ⟨0x50014, 0x4, 1, .FELT_UPD_COUNTS⟩,
    ⟨0x50020, 0x4, 1, .FELT_TRAIN_EVENT⟩,
    ⟨0x50024, 0x4, 1, .FELT_TRAIN_EVENT_EN⟩,
    ⟨0x50030, 0x4, 1, .FELT_RATIO_SEL⟩,
    ⟨0x50034, 0x4, 1, .FELT_RATIO_DATA⟩,
    ⟨0x60000, 0x4, 1, .FELT_FLT⟩ ]
  ++ [ ⟨0x60004, 0x4, 1, .FELT_FLT_EN⟩,
    ⟨0x60008, 0x4, 1, .FELT_FLT_COUNT⟩ ]

/-- Offsets of the `hub` block. -/
def hubSlots : List Slot :=
  [ ⟨0x10000, 0x4, 1, .PAT_CTRL⟩,
    ⟨0x10004, 0x4, 1, .PAT_STATUS⟩,
    ⟨0x10008, 0x4, 1, .PAT_LOAD_ADDR_LO⟩,
    ⟨0x1000c, 0x4, 1, .PAT_LOAD_ADDR_HI⟩,
    ⟨0x10010, 0x4, 1, .PAT_LOAD_LEN⟩,
    ⟨0x10020, 0x4, 8, .PAT_DIGEST⟩,
    ⟨0x10040, 0x4, 1, .PAT_ID⟩,
    ⟨0x10044, 0x4, 1, .PAT_GENERATION⟩,
    ⟨0x10048, 0x4, 1, .PAT_DRAIN_TIMEOUT⟩,
    ⟨0x1004c, 0x4, 1, .PAT_COUNTS⟩,
    ⟨0x10050, 0x4, 1, .PAT_SPARE_FREE⟩,
    ⟨0x10100, 0x4, 17, .PAT_EXCLUDED_DIE0⟩,
    ⟨0x10180, 0x4, 17, .PAT_EXCLUDED_DIE1⟩,
    ⟨0x11000, 0x8, 64, .PAT_PANEL_CTRL⟩,
    ⟨0x11004, 0x8, 64, .PAT_PANEL_STATUS⟩,
    ⟨0x20000, 0x20, 64, .HUB_STEP_NUM⟩,
    ⟨0x20004, 0x20, 64, .HUB_STEP_COMMITTED⟩,
    ⟨0x20008, 0x20, 64, .HUB_STEP_STATUS⟩,
    ⟨0x2000c, 0x20, 64, .HUB_STEP_CTRL⟩,
    ⟨0x20010, 0x20, 64, .HUB_STEP_REPEATS⟩ ]
  ++ [ ⟨0x30000, 0x4, 1, .CH_STATUS⟩,
    ⟨0x30004, 0x4, 1, .CH_EVENT⟩,
    ⟨0x30008, 0x4, 1, .CH_EVENT_EN⟩,
    ⟨0x3000c, 0x4, 1, .CH_TIMEOUT⟩,
    ⟨0x30010, 0x4, 1, .CH_COUNTS⟩,
    ⟨0x30014, 0x4, 1, .MK_REMOTE_COUNTS⟩,
    ⟨0x30018, 0x4, 1, .MK_EP_DOUBLE_SET⟩,
    ⟨0x38000, 0x4, 256, .MK_EP_STATE⟩,
    ⟨0x40000, 0x4, 1, .LNK_FABRIC⟩,
    ⟨0x40004, 0x4, 1, .LNK_GROUP⟩,
    ⟨0x40008, 0x4, 1, .LNK_DISC_CTRL⟩,
    ⟨0x4000c, 0x4, 1, .LNK_DISC_STATUS⟩,
    ⟨0x40010, 0x4, 1, .LNK_DISC_MEMBERS⟩,
    ⟨0x40014, 0x4, 1, .LNK_ROUTE_SEL⟩,
    ⟨0x40018, 0x4, 1, .LNK_ROUTE_DATA⟩,
    ⟨0x4001c, 0x4, 1, .LNK_RSP_TIMEOUT⟩,
    ⟨0x50000, 0x4, 1, .FLT_CTRL⟩,
    ⟨0x50004, 0x4, 1, .FLT_CORE_WINDOW⟩,
    ⟨0x50008, 0x4, 1, .FLT_COUNTS⟩,
    ⟨0x5000c, 0x4, 1, .FLT_EXCLUSIONS⟩ ]
  ++ [ ⟨0x50010, 0x4, 1, .FLT_LAST⟩,
    ⟨0x60000, 0x4, 1, .PWR_LIMIT⟩,
    ⟨0x60004, 0x4, 1, .PWR_VCORE⟩,
    ⟨0x60008, 0x4, 1, .PWR_STATUS⟩,
    ⟨0x6000c, 0x4, 1, .PWR_THERM⟩,
    ⟨0x60010, 0x4, 1, .PWR_EVENT⟩,
    ⟨0x60014, 0x4, 1, .PWR_EVENT_EN⟩,
    ⟨0x60018, 0x4, 1, .PWR_POWER⟩,
    ⟨0x6001c, 0x4, 1, .PWR_COUNTS⟩,
    ⟨0x70000, 0x4, 1, .SEC_CTRL⟩,
    ⟨0x70004, 0x4, 1, .SEC_STATUS⟩,
    ⟨0x70008, 0x4, 1, .SEC_EVENT⟩,
    ⟨0x7000c, 0x4, 1, .SEC_EVENT_EN⟩,
    ⟨0x70010, 0x4, 1, .SEC_LOG_COUNT⟩,
    ⟨0x70014, 0x4, 1, .SEC_COUNTS⟩,
    ⟨0x70020, 0x4, 8, .SEC_MEAS⟩,
    ⟨0x70040, 0x4, 8, .SEC_NONCE⟩,
    ⟨0x70060, 0x4, 12, .SEC_PKEY⟩,
    ⟨0x70090, 0x4, 1, .SEC_REC_KEY⟩,
    ⟨0x70094, 0x4, 1, .SEC_REC_CTRL⟩ ]
  ++ [ ⟨0x80000, 0x4, 1, .HUB_BOOT_STATUS⟩,
    ⟨0x80004, 0x4, 1, .HUB_INCHK_EVENT⟩,
    ⟨0x80008, 0x4, 1, .HUB_INCHK_EVENT_EN⟩,
    ⟨0x8000c, 0x4, 1, .HUB_INCHK_COUNTS⟩,
    ⟨0x80010, 0x4, 1, .HUB_INCHK_LAST⟩ ]

/-- Offsets of the `attn` block. -/
def attnSlots : List Slot :=
  [ ⟨0x0, 0x4, 1, .ATTN_SUMMARY⟩,
    ⟨0x4, 0x4, 1, .ATTN_MASK⟩,
    ⟨0x8, 0x4, 1, .ATTN_MSG_CTRL⟩,
    ⟨0xc, 0x4, 1, .ATTN_MSG_PERIOD⟩,
    ⟨0x10, 0x4, 1, .CLM_BAD_COMPLETE⟩,
    ⟨0x14, 0x4, 1, .CLM_MERGED⟩,
    ⟨0x100, 0x4, 32, .ATTN_GRP⟩,
    ⟨0x200, 0x8, 32, .ATTN_CORE_ROW_LO⟩,
    ⟨0x204, 0x8, 32, .ATTN_CORE_ROW_HI⟩,
    ⟨0x1000, 0x4, 64, .CLM_PEND⟩,
    ⟨0x10000, 0x4, 2048, .CLM_SRC⟩,
    ⟨0x20000, 0x100, 14, .CLM_THRESHOLD⟩,
    ⟨0x20004, 0x100, 14, .CLM_CLAIM⟩,
    ⟨0x20008, 0x100, 14, .CLM_COMPLETE⟩,
    ⟨0x2000c, 0x100, 14, .CLM_TARGET_CTRL⟩,
    ⟨0x20010, 0x100, 14, .CLM_TARGET_STATUS⟩ ]

/-- Offsets of the `q` block. -/
def qSlots : List Slot :=
  [ ⟨0x0, 0x4, 1, .Q_CTRL⟩,
    ⟨0x4, 0x4, 1, .Q_STATUS⟩,
    ⟨0x8, 0x4, 1, .Q_CONFIG⟩,
    ⟨0xc, 0x4, 1, .Q_BASE_LO⟩,
    ⟨0x10, 0x4, 1, .Q_BASE_HI⟩,
    ⟨0x14, 0x4, 1, .Q_COUNT⟩,
    ⟨0x18, 0x4, 1, .Q_PROD⟩,
    ⟨0x1c, 0x4, 1, .Q_CONS⟩,
    ⟨0x20, 0x4, 1, .Q_MARK⟩,
    ⟨0x24, 0x4, 1, .Q_REL⟩,
    ⟨0x28, 0x4, 1, .Q_CMD⟩,
    ⟨0x2c, 0x4, 1, .Q_PUSH_SRC_LO⟩,
    ⟨0x30, 0x4, 1, .Q_PUSH_SRC_HI⟩,
    ⟨0x34, 0x4, 1, .Q_CREDITS⟩,
    ⟨0x38, 0x4, 1, .Q_COUNTS⟩ ]

/-- Offsets of the `stwb` block. -/
def stwbSlots : List Slot :=
  [ ⟨0x0, 0x4, 1, .STW_CTRL⟩,
    ⟨0x4, 0x4, 1, .STW_STATUS⟩,
    ⟨0x8, 0x4, 1, .STW_FW_VERSION⟩,
    ⟨0xc, 0x4, 1, .STW_WDOG⟩,
    ⟨0x10, 0x4, 1, .STW_KICK⟩,
    ⟨0x14, 0x4, 1, .STW_COUNTS⟩,
    ⟨0x18, 0x4, 1, .STW_EVENT⟩,
    ⟨0x1c, 0x4, 1, .STW_EVENT_EN⟩,
    ⟨0x20, 0x4, 1, .STW_REC_POP⟩,
    ⟨0x24, 0x4, 1, .STW_REC_ACK⟩,
    ⟨0x80, 0x4, 1, .STW_LOG_SUBMIT_ID⟩,
    ⟨0x40, 0x4, 8, .STW_REC_DATA⟩,
    ⟨0x60, 0x4, 8, .STW_LOG_SUBMIT⟩ ]

/-- Offsets of the `stw` block. -/
def stwSlots : List Slot :=
  [ ⟨0x1000, 0x4, 1, .STW_STAGE_LEN⟩,
    ⟨0x1004, 0x4, 1, .STW_STAGE_CTRL⟩,
    ⟨0x1008, 0x4, 1, .STW_STAGE_STATUS⟩,
    ⟨0x1010, 0x4, 1, .STW_ACT_STATUS⟩,
    ⟨0x1014, 0x4, 1, .STW_ACT_COUNTS⟩,
    ⟨0x1020, 0x4, 1, .STW_TRACE_EN_LO⟩,
    ⟨0x1024, 0x4, 1, .STW_TRACE_EN_HI⟩,
    ⟨0x1030, 0x4, 1, .STW_LOG_BASE_LO⟩,
    ⟨0x1034, 0x4, 1, .STW_LOG_BASE_HI⟩,
    ⟨0x1038, 0x4, 1, .STW_LOG_CTRL⟩,
    ⟨0x103c, 0x4, 1, .STW_LOG_WR⟩,
    ⟨0x1040, 0x4, 1, .STW_LOG_DROPPED⟩,
    ⟨0x1050, 0x4, 1, .STW_REC_STATUS⟩,
    ⟨0x1060, 0x4, 1, .STW_SIGNAL⟩ ]

/-- Offsets of the `lnk` block. -/
def lnkSlots : List Slot :=
  [ ⟨0x0, 0x4, 1, .LNK_CTRL⟩,
    ⟨0x4, 0x4, 1, .LNK_STATUS⟩,
    ⟨0x8, 0x4, 1, .LNK_CONFIG⟩,
    ⟨0xc, 0x4, 1, .LNK_EVENT⟩,
    ⟨0x10, 0x4, 1, .LNK_EVENT_EN⟩,
    ⟨0x14, 0x4, 1, .LNK_FEC_CORR⟩,
    ⟨0x18, 0x4, 1, .LNK_ERR_COUNTS⟩,
    ⟨0x1c, 0x4, 1, .LNK_PKT_COUNTS⟩,
    ⟨0x20, 0x4, 1, .LNK_LINK_COUNTS⟩ ]

end Sys2Proof.Machine
end

