-- ==== Sys2Proof/Machine/Sparse.lean ====
section
/-! DEFINITION. Sparse maps: lists of (key, value) pairs in one canonical form, keys strictly rising and no
entry equal to the value an unlisted key has. Memory, the register file and the tables of the device are held so. -/
namespace Sys2Proof.Machine

variable {α : Type}

/-- The value at a key; `d` says what an unlisted key holds. -/
def spGet (d : Nat → α) : List (Nat × α) → Nat → α
  | [], k => d k
  | (k', v) :: m, k => if k' = k then v else spGet d m k

/-- Remove every entry of a key. -/
def spErase : List (Nat × α) → Nat → List (Nat × α)
  | [], _ => []
  | (k', v) :: m, k => if k' = k then spErase m k else (k', v) :: spErase m k

/-- Put an entry before the first greater key. -/
def spIns : List (Nat × α) → Nat → α → List (Nat × α)
  | [], k, v => [(k, v)]
  | (k', v') :: m, k, v => if k < k' then (k, v) :: (k', v') :: m else (k', v') :: spIns m k v

/-- Write a key: an entry equal to the unlisted value is dropped. -/
def spSet [DecidableEq α] (d : Nat → α) (m : List (Nat × α)) (k : Nat) (v : α) : List (Nat × α) :=
  if v = d k then spErase m k else spIns (spErase m k) k v

/-- The keys rise strictly. -/
def spSorted : List (Nat × α) → Bool
  | [] => true
  | (_, _) :: [] => true
  | (k, _) :: (k', v') :: m => decide (k < k') && spSorted ((k', v') :: m)

/-- The canonical form. -/
def spWf [DecidableEq α] (d : Nat → α) (m : List (Nat × α)) : Bool :=
  spSorted m && m.all (fun e => decide (e.2 ≠ d e.1))

end Sys2Proof.Machine
end

