-- ==== Sys2Proof/Machine/State.lean ====
section
/-! DEFINITION. The state of the device as plain data: every register (one sparse register file), every memory, and
the contexts the chapters give each block. Docstrings cite the rule that names the state. -/
namespace Sys2Proof.Machine
open Sys2Proof

/-- Faults. No path of this model raises one: the device answers bad accesses with error statuses, causes and counts.
`hole` is kept for an address outside every space of the device (safe: the machine would stop). -/
inductive Fault where
  /-- An access to an address that no rule gives the device. Raised by nobody today; safe. -/
  | hole (addr : Nat)
  deriving DecidableEq, Repr

/-- Refusals: commands that have no meaning. -/
inductive Refusal where
  /-- Raised by the arm of a command of the table that the model does not give a meaning yet; safe. -/
  | notModelled (mnemonic : String)
  deriving DecidableEq, Repr

/-- A value: NaN, an infinity, or the exact number (−1)^neg × m × 2^e, a signed zero when m = 0. -/
inductive FV where
  | nan
  | inf (neg : Bool)
  | fin (neg : Bool) (m : Nat) (e : Int)
  deriving DecidableEq, Repr

/-- Event counts of a unit's pass through an array, in the GZ_ and TW_ registers (R128, R156): scale overflow, underflow,
alignment loss, picot overflow, GZ saturations, T2 reserved reads, TW saturations, TW truncations, an infinite input, a
recomputation on the fallback. -/
structure Cnt where
  ovf : Nat
  unf : Nat
  loss : Nat
  povf : Nat
  sat : Nat
  t2 : Nat
  twSat : Nat
  twLoss : Nat
  inf : Bool
  fall : Bool
  deriving DecidableEq, Repr

/-- A pattern load in progress (R48, R51, R63, R65). `stage`: 0 digest due, 1 signature due, 2 structure due,
3 applying. `scopeBad`: the target panel was not STOPPED when check 2 passed. -/
structure LoadCtx where
  busy : Bool
  isPart : Bool
  addr : Nat
  len : Nat
  panel : Nat
  port : Option Nat
  stage : Nat
  scopeBad : Bool
  sig : Bool
  img : Option PatternImage
  deriving DecidableEq, Repr

/-- Bookkeeping of a panel beside its registers. `mode1`: the stop in progress is mode 1. `waitStop`, `waitForce`: a
stop that waits for the vote outcome (R287). `remap`: an automatic stop is in force or due (R441). `remapStart`: the
hub owes the automatic START. `fault`: a step fault recorded against S (R442). `nextFault`: the step against which one was
recorded while the panel voted (R443).
`aborting`: an abort is in progress. `owed`: an arrival at the step vote awaits its outcome. `forceStep`: the next START sets S (R250). `lastQ`: the queue the last
query was read from (R444). `resident`: tensors of local store until it stops (R311); `residents`, `spilled`: the numbers of R311 at its last start. `tables`: derivative tables its start
loaded (R147). -/
structure Panel where
  mode1 : Bool
  waitStop : Bool
  waitForce : Bool
  remap : Bool
  remapStart : Bool
  fault : Bool
  nextFault : Option Nat
  aborting : Bool
  owed : Bool
  forceStep : Bool
  lastQ : Nat
  resident : List Nat
  residents : Nat
  spilled : Nat
  tables : List (Option DerivTable)
  deriving DecidableEq, Repr

/-- Plan of a macro-instruction (R200, R501): output tiles, split, segment length, units, double tiles. -/
structure Plan where
  rowTiles : Nat
  colTiles : Nat
  folds : Nat
  split : Nat
  segLen : Nat
  units : Nat
  kc : Nat
  order : Nat
  dblRow : Bool
  dblCol : Bool
  deriving DecidableEq, Repr

/-- A macro-instruction in flight (R200 to R211). `strm`, `core` (core scope only), issue sequence number, index in
the stream code, its 64 bytes, plan, run-time entries, skein counter, claimed units, cores that issued it and cores
that reached the end of the walk, split partials, first results for duplicates, fence tags by target device with their
write counts, step number, micro-batch number, current bank of every panel at issue (bit p), channels it holds, and what it waits for. -/
structure Flight where
  id : Nat
  panel : Nat
  strm : Strm
  core : Option Nat
  seq : Nat
  pc : Nat
  mi : List Byte
  plan : Plan
  shape : List Nat
  next : Nat
  claims : List Nat
  issued : List Nat
  ended : List Nat
  parts : List (Nat × List Word)
  results : List (Nat × List Word)
  tags : List (Nat × Nat × Nat)
  step : Nat
  micro : Nat
  bank : Nat
  chans : List Nat
  waiting : Bool
  done : Bool
  deriving DecidableEq, Repr

/-- What computes a unit: an array of R212, or a unit that no other work of the core waits for. -/
inductive Arr where
  | gauze | tweed | vector | other
  deriving DecidableEq, Repr

/-- A completion record (R204): a fetched unit, its replay mark, whether its array runs it (R212), whether it runs exactly,
its array, and what the array has computed of a product: FP32 bits by row and column, with the event counts of the pass.
`acc` is empty while the unit is to be fetched again; a unit of another operation holds one empty row. -/
structure UnitRec where
  flight : Nat
  unit : Nat
  replay : Bool
  running : Bool
  exact : Bool
  arr : Arr
  acc : List (List Word)
  cnt : Cnt
  deriving DecidableEq, Repr

/-- A stream context: the macro-instruction being walked (R179), units in the arrays, and whether a SET has satisfied the
plain waits of its head (R324). -/
structure StreamCtx where
  flight : Option Nat
  units : List UnitRec
  granted : Bool
  deriving DecidableEq, Repr

/-- State of a core beside its registers: streams, shape registers (keyed by stream × 96 + register × 6 + entry, R193),
local store words written (R309) and the free-value number of unwritten ones (0: the reset value), words with an earlier double-bit error (R438), running fault count window.
`hTags`: fence tags that the handler in H took (R331, R406). `gzOrder`, `twOrder`, `vecOrder`: streams whose tiles Gauze, Tweed and the vector unit have started, the least recently
started first (R212). -/
structure Core where
  f : StreamCtx
  b : StreamCtx
  u : StreamCtx
  shp : List (Nat × Word)
  store : List (Nat × Option DWord)
  lost : Nat
  ded : List (Nat × Bool)
  windowOpen : Bool
  trkSnap : List Word
  hTags : List Nat
  gzOrder : List Strm
  twOrder : List Strm
  vecOrder : List Strm
  deriving DecidableEq, Repr

/-- Pending record of a tracker slot for one step (R167): amax as FP32 bits, SAT and ELEMS totals. -/
structure PendRec where
  step : Nat
  amax : Word
  sat : Nat
  elems : Nat
  deriving DecidableEq, Repr

/-- A tracker slot (R165 to R171): parameters (`core` is the home logical core), history of amax newest first,
calibration record (SAT, ELEMS) newest first, proposal and whether it came from the history, step of the newest history
entry, cumulative counters SAT, UNF, CRUSHED, ZERO_BLOCK, NAN_BLOCK, ELEMS, and pending records. -/
structure Tracker where
  handle : Nat
  core : Nat
  index : Nat
  w : Nat
  margin : Nat
  n : Nat
  theta : Nat
  k : Nat
  eInit : Int
  hist : List Word
  calibs : List (Nat × Nat)
  exp : Int
  fromHist : Bool
  step : Nat
  counts : List Nat
  pend : List PendRec
  deriving DecidableEq, Repr

/-- An observation on its way to its home tracker (R167). -/
structure Obs where
  panel : Nat
  handle : Nat
  step : Nat
  flight : Nat
  unit : Nat
  amax : Word
  counts : List Nat
  deriving DecidableEq, Repr

/-- A window tile (R260 to R263). -/
structure WinTile where
  panel : Nat
  handle : Nat
  tile : Nat
  felt : Nat
  vals : List Word
  reduced : Bool
  deriving DecidableEq, Repr

/-- A learned-scale side record in flight (R174): partials of the PARAM's elements from `elem` on. -/
structure SideRec where
  panel : Nat
  handle : Nat
  elem : Nat
  flight : Nat
  vals : List Word
  deriving DecidableEq, Repr

/-- A weight-gradient slice in flight or stalled (R149, R150), with its side record (R174), which the felt takes only when
it accepts the slice (R208). -/
structure Slice where
  panel : Nat
  handle : Nat
  tile : Nat
  felt : Nat
  core : Nat
  strm : Strm
  flight : Nat
  unit : Nat
  micro : Nat
  vals : List Word
  side : Option SideRec
  deriving DecidableEq, Repr

/-- An exact side sum of one PARAM element (R264). -/
structure SideSum where
  panel : Nat
  handle : Nat
  elem : Nat
  sum : FV
  rounded : Option Word
  deriving DecidableEq, Repr

/-- Which replicas a tile of a step reduces (R266, R267); `running`: its straggler window runs; `fixed`: decided;
`reduced`: done in this attempt; `spent`: done in some attempt (R268). -/
structure Mask where
  panel : Nat
  handle : Nat
  tile : Nat
  step : Nat
  reps : List Nat
  running : Bool
  fixed : Bool
  reduced : Bool
  spent : Bool
  deriving DecidableEq, Repr

/-- A contribution held at its owner: of the step (`late = false`) or in the late store (R268). -/
structure Held where
  panel : Nat
  x : Contribution
  late : Bool
  folded : Bool
  deriving DecidableEq, Repr

/-- An update in progress (R269 to R277): its tensor values with their header, those of the scale parameter it updates first,
number of bands, bands done, exact sums of
Δ², w² and u², and bands whose bank write is held, with their felts (R256). -/
structure Upd where
  flight : Nat
  panel : Nat
  handle : Nat
  vals : List Word
  pvals : List Word
  bands : Nat
  done : List Nat
  sums : List FV
  held : List (Nat × Nat)
  deriving DecidableEq, Repr

/-- A ratio-table entry (R278): committed words T, ρ, D, Wsum, Usum, RATIO_LO, RATIO_HI; pending words, the same with 1 for
a ratio out of bounds and the step; out-of-bounds events; step of the last commit. -/
structure Ratio where
  handle : Nat
  vals : Option (List Word)
  pend : Option (List Word)
  oob : Nat
  step : Nat
  deriving DecidableEq, Repr

/-- A placed page (R299 to R308): `phys` is its page of the placed region of its felt, `near` and `far` its counts of
64-byte accesses, `moving` the felt a move takes it to. A handle from 2^20 on is a system area of a panel. -/
structure Page where
  handle : Nat
  index : Nat
  felt : Nat
  panel : Nat
  near : Nat
  far : Nat
  pinned : Bool
  moving : Option Nat
  phys : Nat
  deriving DecidableEq, Repr

/-- An open barrier epoch at the nodes of this device (R336 to R343): arrivals of cores and of member panels with their
FAULT bits; `again`, `fault`: a core, or a member panel, arrived a second time. -/
structure Epoch where
  id : Nat
  cores : List (Nat × Bool)
  members : List ((Nat × Nat) × Bool)
  again : Bool
  fault : Bool
  timedOut : Bool
  deriving DecidableEq, Repr

/-- A barrier arrival on its way (R337): core, barrier, fault bit, and the macro-instruction that sent it. -/
structure Arrival where
  src : ChainSrc
  id : Nat
  fault : Bool
  step : Nat
  flight : Nat
  deriving DecidableEq, Repr

/-- A vote at this root (R281), keyed by the first member of the vote set. -/
structure Vote where
  key : Nat × Nat
  members : List (Nat × Nat)
  arrived : List (Nat × Nat × Nat × Bool)
  decided : Option VoteOutcome
  timedOut : Bool
  deriving DecidableEq, Repr

/-- A fence tag at a receiving port (R332, R333): open, or closed by its set until the tag is written under again. -/
structure OpenTag where
  port : Nat
  src : Nat
  host : Bool
  hctx : Nat
  tag : Nat
  count : Nat
  failed : Bool
  closed : Bool
  deriving DecidableEq, Repr

/-- Who made a push (R354, R355, R383); `dispatch`: S2, with an item of context queue q (R425). -/
inductive PushSrc where
  | core (flight : Nat) (item : Nat)
  | handler (c : Nat)
  | steward (s : Nat)
  | dispatch (q : Nat)
  | host (port src hctx tag : Nat) (rsp : Bool)
  deriving DecidableEq, Repr

/-- A push accepted into a slot, or stalled. `whole`: every part has arrived. -/
structure Push where
  src : PushSrc
  bytes : List Byte
  whole : Bool
  deriving DecidableEq, Repr

/-- A queue beside its registers: second copies of the indices (R365), accepted and stalled pushes, a configuration
change since the stop (R363), its host context and E-series mark, the low word of a steward push address, the configuration
in force (Q_CONFIG and Q_BASE as of the last START or load, R55), and the credits that its host holds (R355). -/
structure QCtx where
  prod2 : Word
  cons2 : Word
  mark2 : Word
  rel2 : Word
  acc : List Push
  stalled : List Push
  changed : Bool
  hctx : Nat
  eseries : Option (Nat × Nat)
  srcLo : Word
  heldMark : Bool
  heldRewind : Bool
  config : Word
  baseLo : Word
  baseHi : Word
  granted : Nat
  deriving DecidableEq, Repr

/-- A link port beside its registers (R368 to R383): sequence numbers of the next flit to send and to receive, retry
buffer (header word, 1 + destination of an ordered packet or 0, packet space), resends of its first flit, a NAK owed, the NAK of
the present gap sent, flits in use and flits to return by lane, packets waiting to be sent, the packet space received of an unfinished packet, and ordered
packets that wait in its receive buffer (R332). `line`: the flits that the last command to send any put on the line, header
word and packet space (the model's own output). -/
structure Port where
  txSeq : Nat
  rxSeq : Nat
  retry : List (Nat × Nat × List Byte)
  resends : Nat
  nakOwed : Bool
  nakSent : Bool
  credits : List (Nat × Nat)
  owed : List (Nat × Nat)
  egress : List Packet
  partials : List Byte
  rxWait : List Packet
  line : List (Nat × List Byte)
  deriving DecidableEq, Repr

/-- A request of a host context that this master forwarded and that awaits its response (R381). -/
structure Request where
  tag : Nat
  typ : Nat
  hctx : Nat
  port : Nat
  deriving DecidableEq, Repr

/-- A KV channel (R229 to R245): ownership, privileged mark, error code, whether a command holds it, length by layer,
the pool and group of each block, keys of the blocks offered to the tree, pool of the last KV command, token IDs. -/
structure Chan where
  owned : Bool
  panel : Nat
  priv : Bool
  error : Nat
  held : Bool
  lens : List (Nat × Nat)
  groups : List (Nat × Nat)
  keys : List DWord
  pool : Nat
  tokens : List Nat
  deriving DecidableEq, Repr

/-- A group of a KV pool that channels hold, with their number: ATTACHED or the reference count (R240, R244). -/
structure Group where
  pool : Nat
  group : Nat
  refs : Nat
  deriving DecidableEq, Repr

/-- A prefix-tree entry (R240): key, parent key, token IDs, group, and the time of its last attach in interval ticks of
its felt. ATTACHED is the group's count of holders; CHILDREN follows from the tree. -/
structure TreeEntry where
  pool : Nat
  key : DWord
  parent : DWord
  tokens : List Nat
  group : Nat
  stamp : Nat
  deriving DecidableEq, Repr

/-- A steward beside its registers (R411, R420 to R423): image slot with its length, data SRAM, held record, whether
its slot is run by S5, and the context queue it served last by priority (R425). -/
structure Stw where
  image : List (Nat × Byte)
  len : Nat
  data : List (Nat × Byte)
  held : Option (List Word)
  taken : Option Nat
  served : List (Nat × Nat)
  deriving DecidableEq, Repr

/-- The module record (R471 to R474): what the boot ROM reads. -/
structure ModRec where
  factoryOk : Bool
  identityOk : Bool
  serial : DWord
  stepping : BitVec 8
  trims : List (BitVec 8)
  repairA : List Byte
  repairB : List Byte
  deriving DecidableEq, Repr

/-- Power controller state beside its registers (R457 to R463): the last report of each die, the limit and the two VSET
codes in effect, the limiter's commands in 5 mV codes above 0.60 V, and whether REFCLK is missing (R492). -/
structure PowerCtx where
  temps : List Int
  limit : Nat
  vset : List Nat
  lims : List Nat
  refclkLost : Bool
  deriving DecidableEq, Repr

/-- Security state beside its registers (R472 to R477): measurement log, registered key, attestation snapshot,
report window, repair unlock, the buffer of a repair write in progress and whether its conditions held, and the warm
resets since the cold reset. -/
structure SecCtx where
  log : List (List Byte)
  key : Option (List Byte)
  snap : List Byte
  report : List Byte
  armed : Bool
  recSrc : Nat
  recOk : Bool
  warms : Nat
  deriving DecidableEq, Repr

/-- I3C port (R479, R480). -/
structure I3cCtx where
  dyn : Option (BitVec 7)
  ibiEn : Bool
  ibi : Option Byte
  resp : List Byte
  deriving DecidableEq, Repr

/-- Instructions of the JTAG port (R481). -/
inductive JtagIr where
  | bypass | idcode | sample | extest | highz | debug
  deriving DecidableEq, Repr

/-- JTAG port (R481, R482). -/
structure JtagCtx where
  ir : JtagIr
  bypassBit : Bool
  idcode : Word
  scan : List Bool
  capture : BitVec 128
  driven : Bool
  floating : Bool
  deriving DecidableEq, Repr

/-- Pins (R392, R461, R470, R494). Low-active pins are held by their asserted state. `stwIrq`: the external interrupt
inputs of the stewards (R402, R411, R422). -/
structure Pins where
  resetLow : Bool
  attnLow : Bool
  strapMaster : Bool
  strapSlot : BitVec 5
  stwIrq : BitVec 6
  deriving DecidableEq, Repr

/-- The state of the device. -/
structure State where
  /-- Commands that wait, first in first out (the model's own). -/
  pending : List Instr
  /-- Numbers the free values (the model's own). -/
  free : Nat
  /-- Word returned by the last control-space read (the model's own read port). -/
  readback : Word
  /-- Status that the last read or write request to a felt returned to its requester, as R380 codes it; for a steward any
  other than OK is its access-fault trap (R51, R292; the model's own read port). -/
  status : Nat
  /-- The register file: key = copy × 512 + register index. -/
  regs : List (Nat × Word)
  /-- High-word latches (R9): requester, register key of the high word, value. -/
  latches : List (Agent × Nat × Word)
  /-- Device DRAM by physical address (R291). -/
  dram : List Host.Cell
  /-- Byte spaces of tensors: key = handle × 2^40 + offset (R190). -/
  tens : List Host.Cell
  /-- Physical and tensor 64-byte blocks that are uncorrectable (R294, R295): key as for the two memories. -/
  badPhys : List Nat
  badTens : List Nat
  /-- Placement map (R299 to R308). -/
  pages : List Page
  /-- Descriptors that a warm reset dropped and whose pages it kept, for the next load (R303). -/
  keptDescs : List (Nat × List Byte)
  /-- Block of the scrub within its page, per felt (R296). -/
  scrubBlock : List (Nat × Nat)
  load : LoadCtx
  /-- Per-panel sections in force (R46, R47). -/
  secs : List (Nat × Option PanelSecs)
  /-- Device-wide sections in force. -/
  coreMap : List Nat
  links : Option Links
  devQueues : Option (List QueueCfg)
  /-- Rule slots and programs as written, in force since the last START or load, and as of the last full load (R316). -/
  rules : FeltRules
  rulesOn : FeltRules
  rules0 : FeltRules
  /-- Live map: logical core to physical core, die × 528 + index (R52). -/
  live : List (Nat × Option Nat)
  /-- Cores and spares named by the repair map (R471). -/
  repair : List Nat
  modrec : ModRec
  panels : List (Nat × Panel)
  cores : List (Nat × Core)
  flights : List Flight
  nextFlight : Nat
  trackers : List Tracker
  /-- Copies saved at the last commit (R167, R446). -/
  trkSaved : List Tracker
  obs : List Obs
  windows : List WinTile
  /-- Weight-gradient products of the step by window handle (R262). -/
  micros : List (Nat × Nat)
  /-- Checksums of the slices accepted in the step, by window handle, tile and micro-batch (R208). -/
  sliceSums : List ((Nat × Nat × Nat) × DWord)
  slices : List Slice
  stalledSlices : List Slice
  sideRecs : List SideRec
  sideSums : List SideSum
  masks : List Mask
  helds : List Held
  /-- Contributions sent to owners and reduced tiles sent to other replicas in this step, with device and panel, in egress order (R265, R266). -/
  sentTiles : List ((Nat × Nat) × Contribution)
  updates : List Upd
  /-- Handles whose UPDATE of the current step has completed (R275). -/
  updDone : List Nat
  ratios : List Ratio
  ratioSnap : List (Nat × List Word)
  /-- Epoch of each barrier ID (R339). -/
  epochs : List (Nat × Nat)
  openEpochs : List Epoch
  arrivals : List Arrival
  /-- Releases on their way down: barrier, epoch, fault bit. -/
  releases : List (Nat × Nat × Bool)
  votes : List Vote
  /-- Outcomes on their way to member panels of this device. -/
  voteOut : List (Nat × VoteOutcome)
  /-- MK_FORCE interfaces armed (R344). -/
  forceArmed : List Nat
  /-- Fence tags in use by this device with the panel that took them (R331), tags and held sets of the ports (R332). -/
  fenceUsed : List (Nat × Nat)
  openTags : List OpenTag
  heldSets : List (Nat × Packet)
  queues : List (Nat × QCtx)
  ports : List (Nat × Port)
  requests : List Request
  /-- Requests beyond 4,096 that wait at the hub (R381). -/
  reqWait : List Packet
  /-- Route table (R384): port and valid bit by device ID, and the port toward the master of a member. -/
  routes : List (Nat × Nat × Bool)
  uplink : Option Nat
  /-- Route changes in progress (ID and old port) and the packets they hold (R385). -/
  routeChange : List (Nat × Nat)
  routeHold : List Packet
  /-- Discovery in progress (R389): device and port of each link still to visit, the first one in progress; whether its port's
  status has been asked for; links found, as device, port and neighbour. Whether LNK_GROUP is fixed (R390). -/
  discTodo : List (Nat × Nat)
  discAsked : Bool
  discLinks : List (Nat × Nat × Nat)
  discStarted : Bool
  /-- Ports that have not been stopped or started since the cold reset, whose host contexts the hub numbers (R387). -/
  coldPorts : List Nat
  chans : List (Nat × Chan)
  groups : List Group
  tree : List TreeEntry
  /-- Summary and HOSTPEND of the last ATTN message (R396). -/
  attnSent : Nat × Nat
  stewards : List (Nat × Stw)
  staging : List (Nat × Byte)
  recFifo : List (List Word)
  recLostMark : Bool
  power : PowerCtx
  sec : SecCtx
  i3c : I3cCtx
  jtag : JtagCtx
  pins : Pins
  deriving DecidableEq, Repr

/-- Default values of sparse tables: what an unlisted key holds. -/
def noStream : StreamCtx := ⟨none, [], false⟩
def noCore : Core := ⟨noStream, noStream, noStream, [], [], 0, [], false, [], [], [], [], []⟩
def noPanel : Panel := ⟨false, false, false, false, false, false, none, false, false, false, 0, [], 0, 0, []⟩
def noQueue : QCtx := ⟨0, 0, 0, 0, [], [], false, 0, none, 0, false, false, 0, 0, 0, 0⟩
def noPort : Port := ⟨0, 0, [], 0, false, false, [], [], [], [], [], []⟩
def noChan : Chan := ⟨false, 0, false, 0, false, [], [], [], 0, []⟩
def noStw : Stw := ⟨[], 0, [], none, none, []⟩
def noLoad : LoadCtx := ⟨false, false, 0, 0, 0, none, 0, false, false, none⟩
def noPower : PowerCtx := ⟨[], 0x672, [13, 13], [37, 37], false⟩
def noSec : SecCtx := ⟨[], none, [], [], false, 0, false, 0⟩
def noModRec : ModRec := ⟨true, true, 0, 0, [], [], []⟩

/-- The device right after a cold reset, RESET_N still low (R465, R467): no pattern, nothing placed, every register at its reset value. -/
def State.reset : State where
  pending := []
  free := 0
  readback := 0
  status := 0
  regs := []
  latches := []
  dram := []
  tens := []
  badPhys := []
  badTens := []
  pages := []
  keptDescs := []
  scrubBlock := []
  load := noLoad
  secs := []
  coreMap := []
  links := none
  devQueues := none
  rules := ⟨[], []⟩
  rulesOn := ⟨[], []⟩
  rules0 := ⟨[], []⟩
  live := []
  repair := []
  modrec := noModRec
  panels := []
  cores := []
  flights := []
  nextFlight := 0
  trackers := []
  trkSaved := []
  obs := []
  windows := []
  micros := []
  sliceSums := []
  slices := []
  stalledSlices := []
  sideRecs := []
  sideSums := []
  masks := []
  helds := []
  sentTiles := []
  updates := []
  updDone := []
  ratios := []
  ratioSnap := []
  epochs := []
  openEpochs := []
  arrivals := []
  releases := []
  votes := []
  voteOut := []
  forceArmed := []
  fenceUsed := []
  openTags := []
  heldSets := []
  queues := []
  ports := []
  requests := []
  reqWait := []
  routes := []
  uplink := none
  routeChange := []
  routeHold := []
  discTodo := []
  discAsked := false
  discLinks := []
  discStarted := false
  coldPorts := []
  chans := []
  groups := []
  tree := []
  attnSent := (0, 0)
  stewards := []
  staging := []
  recFifo := []
  recLostMark := false
  power := noPower
  sec := noSec
  i3c := ⟨none, false, none, []⟩
  jtag := ⟨.idcode, false, 0, [], 0, false, false⟩
  pins := ⟨true, false, false, 0, 0⟩

end Sys2Proof.Machine
end

