-- ==== Sys2Proof/Machine/Ops.lean ====
section
/-! DEFINITION. The named operations over registers and memories. A block has no exception entry: what an error does
is a cause, a count or a status of the command (Flags.lean). -/
namespace Sys2Proof.Machine
open Sys2Proof

abbrev Out := Host.Outcome State Fault Refusal

/-- Position of a register name in the register file. -/
def Reg.idx (r : Reg) : Nat := r.ctorIdx

/-- Key of copy i of a register. -/
def regKey (r : Reg) (i : Nat) : Nat := i * 512 + r.idx

/-- Reset value of a register copy (R15): CORE_ID holds the core's position (R40). LNK_DISC_MEMBERS holds 1 on a member too,
where the manual gives a value on a master only: DESIGN CHOICE (log entry 172). -/
def regDefault (key : Nat) : Word :=
  if key % 512 = Reg.CORE_ID.idx then
    let c := key / 512
    BitVec.ofNat 32 (c % 528 / 33 * 2 ^ 12 + c % 33 * 2 ^ 16 + c / 528 * 2 ^ 22)
  else BitVec.ofNat 32 (resetWordAt (key % 512))

/-- The stored word of a register copy. -/
def State.rd (s : State) (r : Reg) (i : Nat) : Word := spGet regDefault s.regs (regKey r i)

/-- Store a register copy. -/
def State.wr (s : State) (r : Reg) (i : Nat) (w : Word) : State :=
  { s with regs := spSet regDefault s.regs (regKey r i) w }

/-- Value of a field. -/
def State.fget (s : State) (f : Fld) (i : Nat) : Nat := bits (s.rd f.reg i).toNat f.lsb f.width

/-- Store a field. -/
def State.fset (s : State) (f : Fld) (i v : Nat) : State :=
  s.wr f.reg i (BitVec.ofNat 32 (putBits (s.rd f.reg i).toNat f.lsb f.width v))

/-- A one-bit field as a Bool. -/
def State.fbit (s : State) (f : Fld) (i : Nat) : Bool := s.fget f i != 0

/-- Add to a saturating counter. -/
def State.finc (s : State) (f : Fld) (i n : Nat) : State := s.fset f i (satAdd (2 ^ f.width - 1) (s.fget f i) n)

/-- Add to a counter that wraps. -/
def State.fincw (s : State) (f : Fld) (i n : Nat) : State := s.fset f i (s.fget f i + n)

/-- Set a bit of a register. -/
def State.setBit (s : State) (r : Reg) (i b : Nat) : State := s.wr r i (s.rd r i ||| BitVec.ofNat 32 (2 ^ b))

/-- Copies of a register that the file lists (hold another value than at reset). -/
def State.listed (s : State) (r : Reg) : List Nat :=
  s.regs.filterMap fun e => if e.1 % 512 = r.idx then some (e.1 / 512) else none

/-- A free value of the manual: the next number and the state that has used it (log entry 2). -/
def State.freeNum (s : State) : Nat := s.free
def State.useFree (s : State) (n : Nat) : State := { s with free := s.free + n }

/-! Memories. Unlisted bytes read 0 (R299, R303). -/

def memDefault (_ : Nat) : Byte := 0

def memGet (m : List Host.Cell) (a : Nat) : Byte := spGet memDefault m a
def memSet (m : List Host.Cell) (a : Nat) (v : Byte) : List Host.Cell := spSet memDefault m a v
def memRead (m : List Host.Cell) (a n : Nat) : List Byte := (List.range n).map fun i => memGet m (a + i)
def memWrite (m : List Host.Cell) (a : Nat) : List Byte → List Host.Cell
  | [] => m
  | b :: bs => memWrite (memSet m a b) (a + 1) bs
def Memory.wf (m : List Host.Cell) : Bool := spWf memDefault m

/-- Key of a byte of a tensor's byte space. -/
def tkey (handle off : Nat) : Nat := handle * 2 ^ 40 + off

def State.dramRead (s : State) (a n : Nat) : List Byte := memRead s.dram a n
def State.dramWrite (s : State) (a : Nat) (bs : List Byte) : State := { s with dram := memWrite s.dram a bs }
/-- Bytes that a load holds (R51). -/
def stagingHeld (s : State) (a n : Nat) : Bool :=
  s.load.busy && decide (a < s.load.addr + s.load.len) && decide (s.load.addr < a + n)

/-- Uncorrectable 64-byte blocks that a range of a memory touches, and whether it covers one whole. -/
def badAmong (bad : List Nat) (a n : Nat) : List Nat :=
  bad.filter fun k => decide (n ≠ 0) && decide (a / 64 ≤ k) && decide (k ≤ (a + n - 1) / 64)
def coversBlk (a n k : Nat) : Bool := decide (a ≤ 64 * k) && decide (64 * k + 64 ≤ a + n)

/-- Store bytes by physical address: refused and counted while a load holds them (R51), refused when they cover only part
of an uncorrectable block (R295); a block that they cover whole is good again. Answers whether they were stored. -/
def State.ramPut (s : State) (a : Nat) (bs : List Byte) : State × Bool :=
  if stagingHeld s a bs.length then (s.finc F.PAT_COUNTS_STAGE_WRITE 0 1, false)
  else
    let bad := badAmong s.badPhys a bs.length
    if bad.any (fun k => !coversBlk a bs.length k) then (s, false)
    else ({ s.dramWrite a bs with badPhys := s.badPhys.filter fun k => !bad.contains k }, true)

def State.tRead (s : State) (h off n : Nat) : List Byte := memRead s.tens (tkey h off) n

/-! Tables by number. -/

def State.core (s : State) (c : Nat) : Core := spGet (fun _ => noCore) s.cores c
def State.setCore (s : State) (c : Nat) (x : Core) : State := { s with cores := spSet (fun _ => noCore) s.cores c x }
def State.panel (s : State) (p : Nat) : Panel := spGet (fun _ => noPanel) s.panels p
def State.setPanel (s : State) (p : Nat) (x : Panel) : State :=
  { s with panels := spSet (fun _ => noPanel) s.panels p x }
def State.secsOf (s : State) (p : Nat) : Option PanelSecs := spGet (fun _ => none) s.secs p
def State.queue (s : State) (q : Nat) : QCtx := spGet (fun _ => noQueue) s.queues q
def State.setQueue (s : State) (q : Nat) (x : QCtx) : State :=
  { s with queues := spSet (fun _ => noQueue) s.queues q x }
def State.port (s : State) (p : Nat) : Port := spGet (fun _ => noPort) s.ports p
def State.setPort (s : State) (p : Nat) (x : Port) : State := { s with ports := spSet (fun _ => noPort) s.ports p x }
def State.chan (s : State) (c : Nat) : Chan := spGet (fun _ => noChan) s.chans c
def State.setChan (s : State) (c : Nat) (x : Chan) : State := { s with chans := spSet (fun _ => noChan) s.chans c x }
def State.stw (s : State) (i : Nat) : Stw := spGet (fun _ => noStw) s.stewards i
def State.setStw (s : State) (i : Nat) (x : Stw) : State := { s with stewards := spSet (fun _ => noStw) s.stewards i x }

def Core.stream (c : Core) : Strm → StreamCtx
  | .F => c.f | .B => c.b | .U => c.u
def Core.setStream (c : Core) (st : Strm) (x : StreamCtx) : Core :=
  match st with | .F => { c with f := x } | .B => { c with b := x } | .U => { c with u := x }
def strmNo : Strm → Nat
  | .F => 0 | .B => 1 | .U => 2

/-! Cores, panels and their kinds. -/

/-- C-die of a core, its copy of a per-stream register, its claim source (R397). -/
def dieOf (c : Nat) : Nat := c / 528
def strmIx (c : Nat) (st : Strm) : Nat := c * 3 + strmNo st

/-- Panel states of PAT_PANEL_STATUS (R63). -/
def psEmpty : Nat := 0
def psStopped : Nat := 1
def psStarting : Nat := 2
def psRunning : Nat := 3
def psStopping : Nat := 4
def psLoading : Nat := 5

def State.pstate (s : State) (p : Nat) : Nat := s.fget F.PAT_PANEL_STATUS_STATE p
def State.isInference (s : State) (p : Nat) : Bool := s.fbit F.PAT_PANEL_STATUS_KIND p
def State.isTraining (s : State) (p : Nat) : Bool := s.pstate p != psEmpty && !s.isInference p

/-- Panel that owns a physical core now (CORE_STATUS, R40). -/
def State.ownerOf (s : State) (c : Nat) : Option Nat :=
  if s.fbit F.CORE_STATUS_PANEL_VALID c then some (s.fget F.CORE_STATUS_PANEL c) else none

/-- Logical cores of a panel's PANELS entry. -/
def State.logicals (s : State) (p : Nat) : List Nat :=
  match s.secsOf p with | some x => (match x.entry with | some e => e.cores | none => []) | none => []

def State.liveOf (s : State) (l : Nat) : Option Nat := spGet (fun _ => none) s.live l

/-- Physical cores of a panel under the live map. -/
def State.coresOf (s : State) (p : Nat) : List Nat := (s.logicals p).filterMap fun l => s.liveOf l

def State.entryOf (s : State) (p : Nat) : Option PanelEntry := (s.secsOf p).bind (·.entry)

/-- Step votes: states of HUB_STEP_STATUS.STATE (R288). -/
def vsIdle : Nat := 0
def vsComputing : Nat := 1
def vsSettling : Nat := 2
def vsVoting : Nat := 3
def vsCommitting : Nat := 4
def vsRepeating : Nat := 5
def vsPaused : Nat := 6
def State.vstate (s : State) (p : Nat) : Nat := s.fget F.HUB_STEP_STATUS_STATE p

/-- Stream states of NDL_STREAM_STATUS (R213). -/
def stIdle : Nat := 0
def stWait : Nat := 1
def stSlot : Nat := 2
def stWalk : Nat := 3
def stHalted : Nat := 4
def stEntry : Nat := 5
def State.sstate (s : State) (c : Nat) (st : Strm) : Nat := s.fget F.NDL_STREAM_STATUS_STATE (strmIx c st)
def State.setSstate (s : State) (c : Nat) (st : Strm) (v : Nat) : State := s.fset F.NDL_STREAM_STATUS_STATE (strmIx c st) v

def State.excluded (s : State) (c : Nat) : Bool := s.fbit F.CORE_STATUS_EXCLUDED c

/-- Interval counter of a die (R31): die 0 hub, 1 and 2 C-dies, 3 to 10 felts. -/
def State.icnt (s : State) (d : Nat) : Nat := (s.rd .ICNT_LO d).toNat + 2 ^ 32 * (s.rd .ICNT_HI d).toNat

/-- Advance every interval counter by one tick, and count the stalls of slices and of held writes (R150, R256). -/
def State.tick (s : State) : State :=
  let s := (s.stalledSlices.map (·.core)).foldl (fun (l : List Nat) c => addTo l c) [] |>.foldl (fun s c => s.finc F.TW_SLICE_STALL_TICKS c 1) s
  let s := (List.range 8).foldl (fun s n =>
    if s.updates.any fun u => u.held.any fun h => h.2 == n then s.finc F.FELT_UPD_HOLD_TICKS n 1 else s) s
  (List.range 11).foldl (fun s d =>
    let v := s.icnt d + 1
    (s.wr .ICNT_LO d (BitVec.ofNat 32 v)).wr .ICNT_HI d (BitVec.ofNat 32 (v / 2 ^ 32))) s

/-- Pages of the fixed region of a felt (R291), and the physical access check of R292. -/
def State.fixedBytes (s : State) (n : Nat) : Nat := s.fget F.FELT_FIXED_PAGES n * 2 ^ 21
def State.inFixed (s : State) (a n : Nat) : Bool :=
  n ≠ 0 && a + n ≤ 2 ^ 39 && a / 2 ^ 36 == (a + n - 1) / 2 ^ 36 && (a + n - 1) % 2 ^ 36 < s.fixedBytes (a / 2 ^ 36)

end Sys2Proof.Machine
end

