-- ==== Sys2Proof/Machine/Flags.lean ====
section
/-! DEFINITION. Events, causes and records: event bits with their enables, claim sources, core vectors, the attention
tree, error records, log records and out-of-range writes. The condition flags of this block are these. -/
namespace Sys2Proof.Machine
open Sys2Proof

/-! Claim sources (R397 to R401). -/

def srcPending (s : State) (n : Nat) : Bool := s.fbit F.CLM_SRC_PENDING n
def srcActive (s : State) (n : Nat) : Bool := s.fbit F.CLM_SRC_ACTIVE n

/-- Raise a source (R399). -/
def State.raise (s : State) (n : Nat) : State :=
  if n = 0 || 2048 ≤ n then s
  else if srcPending s n then s.finc F.CLM_MERGED_COUNT 0 1
  else s.fset F.CLM_SRC_PENDING n 1

/-- Claimable by target t (R398). -/
def claimable (s : State) (t n : Nat) : Bool :=
  s.fget F.CLM_SRC_TARGET n == t && srcPending s n && !srcActive s n &&
    decide (s.fget F.CLM_THRESHOLD_THRESHOLD t < s.fget F.CLM_SRC_PRIO n)

/-- Winner of target t (R400): highest priority, then lowest number; 0 when none. -/
def claimWinner (s : State) (t : Nat) : Nat :=
  (s.listed .CLM_SRC).foldl (fun best n =>
    if n ≠ 0 && claimable s t n &&
        (best == 0 || decide (s.fget F.CLM_SRC_PRIO best < s.fget F.CLM_SRC_PRIO n) ||
         (s.fget F.CLM_SRC_PRIO best == s.fget F.CLM_SRC_PRIO n && decide (n < best)))
    then n else best) 0

/-! Core vectors (R403 to R408). -/

def vecPending (s : State) (c v : Nat) : Bool := bitOf (s.rd .VEC_PEND c).toNat v

/-- Wake a core (R498, R408): the latches move into VEC_PEND. -/
def State.wake (s : State) (c : Nat) : State :=
  let l := (s.rd .VEC_LATCH c).toNat
  let p := (s.rd .VEC_PEND c).toNat
  let s := s.fset F.CORE_STATUS_PARKED c 0
  if l = 0 then s
  else ((s.wr .VEC_PEND c (BitVec.ofNat 32 (p ||| l))).fincw F.VEC_COUNTS_MERGED c (popCount 32 (p &&& l))).wr .VEC_LATCH c 0

/-- Raise a vector of a core: through the latch when the core is parked. -/
def State.raiseVec (s : State) (c v : Nat) : State :=
  if s.fbit F.CORE_STATUS_PARKED c then (s.setBit .VEC_LATCH c v).wake c
  else if vecPending s c v then s.fincw F.VEC_COUNTS_MERGED c 1
  else s.setBit .VEC_PEND c v

/-- Raise a vector and the core's claim source (R404). -/
def State.raiseCore (s : State) (c v : Nat) : State := (s.raiseVec c v).raise (1 + c)

/-- A core event: set the bit; when its enable is 1 raise the vector and the source (R404). -/
def State.coreEvt (s : State) (r en : Reg) (c b v : Nat) : State :=
  let s := s.setBit r c b
  if bitOf (s.rd en c).toNat b then s.raiseCore c v else s

/-- A fault path that does not depend on the enable bit: vector and source whatever it holds (R404). -/
def State.coreFault (s : State) (r : Reg) (c b v : Nat) : State := (s.setBit r c b).raiseCore c v

/-- A duplicate differed (R208, R213) and a residue mismatch of Tweed (R138, R156): events of fault paths. -/
def State.dupFault (s : State) (c : Nat) : State := s.coreFault .NDL_EVENT c 4 1
def State.residueFault (s : State) (c : Nat) : State := s.coreFault .TW_EVENT c 2 3

def State.gzEvt (s : State) (c b : Nat) : State := s.coreEvt .GZ_EVENT .GZ_EVENT_EN c b 2
def State.twEvt (s : State) (c b : Nat) : State := s.coreEvt .TW_EVENT .TW_EVENT_EN c b 3
def State.seamEvt (s : State) (c b : Nat) : State := s.coreEvt .SEAM_EVENT .SEAM_EVENT_EN c b 4
def State.attEvt (s : State) (c b : Nat) : State := s.coreEvt .ATT_EVENT .ATT_EVENT_EN c b 5
def State.ndlEvt (s : State) (c b : Nat) : State := s.coreEvt .NDL_EVENT .NDL_EVENT_EN c b 1
def State.fltEvt (s : State) (c b : Nat) : State := s.coreEvt .CORE_FLT .CORE_FLT_EN c b 7

/-- Stream halt (R196, R213): raises vector 0 and the source whatever the enable holds. -/
def State.haltEvt (s : State) (c : Nat) (st : Strm) : State := (s.setBit .NDL_EVENT c (strmNo st)).raiseCore c 0

/-- A marker event of MK_STATUS (R323, R328, R346): status bit b, enable bit e. -/
def State.mkEvt (s : State) (c b e : Nat) : State :=
  let s := s.setBit .MK_STATUS c b
  if bitOf (s.rd .MK_EVENT_EN c).toNat e then s.raiseCore c 6 else s

/-- A device event: set the bit; when its enable is 1 raise the source. -/
def State.devEvt (s : State) (r en : Reg) (i b src : Nat) : State :=
  let s := s.setBit r i b
  if bitOf (s.rd en i).toNat b then s.raise src else s

def State.memEvt (s : State) (n b : Nat) : State := s.devEvt .FELT_MEM_EVENT .FELT_MEM_EVENT_EN n b (1457 + 4 * n)
def State.attFeltEvt (s : State) (n b : Nat) : State := s.devEvt .ATT_FELT_EVENT .ATT_FELT_EVENT_EN n b (1458 + 4 * n)
def State.trainEvt (s : State) (n b : Nat) : State := s.devEvt .FELT_TRAIN_EVENT .FELT_TRAIN_EVENT_EN n b (1459 + 4 * n)
def State.feltFlt (s : State) (n b : Nat) : State :=
  (s.devEvt .FELT_FLT .FELT_FLT_EN n b (1460 + 4 * n)).finc F.FELT_FLT_COUNT_COUNT n 1
def State.dieFlt (s : State) (d b : Nat) : State :=
  (s.devEvt .DIE_FLT .DIE_FLT_EN d b (1519 + d)).finc F.DIE_FLT_COUNT_COUNT d 1
def State.chEvt (s : State) (b : Nat) : State := s.devEvt .CH_EVENT .CH_EVENT_EN 0 b 1489
def State.lnkEvt (s : State) (p b : Nat) : State := s.devEvt .LNK_EVENT .LNK_EVENT_EN p b (1441 + p)
def State.pwrEvt (s : State) (b : Nat) : State := s.devEvt .PWR_EVENT .PWR_EVENT_EN 0 b (1497 + b)
def State.secEvt (s : State) (b : Nat) : State := s.devEvt .SEC_EVENT .SEC_EVENT_EN 0 b 1505
def State.stwEvt (s : State) (i b : Nat) : State := s.devEvt .STW_EVENT .STW_EVENT_EN i b (1491 + i)
def State.inchkEvt (s : State) (b : Nat) : State := s.devEvt .HUB_INCHK_EVENT .HUB_INCHK_EVENT_EN 0 b 1506

/-- AGENT code of HUB_INCHK_LAST. -/
def agentCode : Agent → Nat
  | .link .. => 0 | .steward _ => 1 | .i3c => 2 | .core _ => 3 | .jtag => 4

/-- An out-of-range write (R469): counted, its offset and agent kept, RANGE set. -/
def State.outOfRange (s : State) (a : Agent) (off : Nat) : State :=
  (((s.finc F.HUB_INCHK_COUNTS_RANGE 0 1).fset F.HUB_INCHK_LAST_OFFSET 0 off).fset F.HUB_INCHK_LAST_AGENT 0
    (agentCode a)).inchkEvt 0

/-! Log records (R426, R427). -/

def logBase (s : State) : Nat :=
  s.fget F.STW_LOG_BASE_LO_BASE_LO 0 * 2 ^ 21 + s.fget F.STW_LOG_BASE_HI_BASE_HI 0 * 2 ^ 32

/-- Write a log record: trace ID, origin (0 to 5 steward, 6 hardware), die, step, epoch, payload words. Every record
submitted while the ring is disabled is dropped and counted; else one whose class is off is dropped. A slot that a load
holds is not written (R51), and the record's number is used up all the same (log entry 142). -/
def State.logRec (s : State) (id origin die step epoch : Nat) (payload : List Nat) : State :=
  let cls := id / 1024
  let en := if cls < 32 then bitOf (s.rd .STW_TRACE_EN_LO 0).toNat cls
    else bitOf (s.rd .STW_TRACE_EN_HI 0).toNat (cls - 32)
  if !s.fbit F.STW_LOG_CTRL_ENABLE 0 then s.finc F.STW_LOG_DROPPED_COUNT 0 1
  else if !(en || cls == 0 || cls == 63) then s
  else
    let n := (s.rd .STW_LOG_WR 0).toNat
    let rec8 := leBytes 2 id ++ leBytes 1 (origin + 8 * die) ++ leBytes 1 payload.length ++ leBytes 4 n ++
      leBytes 8 (s.icnt die) ++ leBytes 4 step ++ leBytes 4 epoch ++ leBytes 8 0 ++
      (payload ++ List.replicate (8 - payload.length) 0).flatMap (leBytes 4)
    (s.ramPut (logBase s + n % 262144 * 64) rec8).1.wr .STW_LOG_WR 0 (BitVec.ofNat 32 (n + 1))

/-! Error records (R423, R451). -/

/-- What an error record says. `die` as in word 0; `unit` is word 1 [9:0]; `strm` 3 when none. -/
structure ErrInfo where
  code : Nat
  die : Nat
  panel : Option Nat
  unit : Nat
  strm : Nat
  loc : Nat
  step : Nat
  epoch : Nat
  deriving DecidableEq, Repr

/-- The eight words of a record. -/
def errWords (s : State) (e : ErrInfo) : List Word :=
  let p := e.panel.getD 0
  let w0 := e.code + e.die * 2 ^ 16 + p * 2 ^ 20 + b2n e.panel.isSome * 2 ^ 26 +
    b2n (e.panel.isSome && s.isTraining p) * 2 ^ 27
  [w0, e.unit + e.strm * 2 ^ 10, e.loc % 2 ^ 32, e.loc / 2 ^ 32, e.step, e.epoch,
    s.icnt e.die % 2 ^ 32, s.icnt e.die / 2 ^ 32].map (BitVec.ofNat 32)

/-- Write an error record; a full FIFO loses it, counts LOST, and logs 0xFC05 for the first loss. -/
def State.errRec (s : State) (e : ErrInfo) : State :=
  if 4096 ≤ s.recFifo.length then
    let s' := s.finc F.STW_REC_STATUS_LOST 0 1
    if s.recLostMark then s' else { s'.logRec 0xFC05 6 0 0 0 [] with recLostMark := true }
  else { s.fset F.FLT_LAST_CODE 0 e.code with recFifo := s.recFifo ++ [errWords s e] }

/-- A record about a core: its die, panel, stream, and the last barrier epoch it received (log entry 14). -/
def State.coreRec (s : State) (code c : Nat) (st : Option Strm) (loc step : Nat) : State :=
  s.errRec ⟨code, 1 + dieOf c, s.ownerOf c, c % 528, (st.map strmNo).getD 3, loc, step, (s.rd .MK_CHAIN_EPOCH c).toNat⟩

/-! The attention tree (R392 to R395). -/

/-- CORE_ATTN of a core: which leaves contribute (R395, R410). -/
def coreAttn (s : State) (c : Nat) : Nat :=
  let on (r en : Reg) := b2n ((s.rd r c).toNat &&& (s.rd en c).toNat != 0)
  let ndl := b2n ((s.rd .NDL_EVENT c).toNat &&& ((s.rd .NDL_EVENT_EN c).toNat ||| 7) != 0)
  let st := (s.rd .MK_STATUS c).toNat
  let en := (s.rd .MK_EVENT_EN c).toNat
  let mk := b2n ((bitOf st 0 && bitOf en 0) || (bits st 1 3 != 0 && bitOf en 1) || (bitOf st 4 && bitOf en 2))
  ndl + 2 * on .GZ_EVENT .GZ_EVENT_EN + 4 * on .TW_EVENT .TW_EVENT_EN + 8 * on .SEAM_EVENT .SEAM_EVENT_EN +
    16 * on .ATT_EVENT .ATT_EVENT_EN + 32 * mk + 64 * on .CORE_FLT .CORE_FLT_EN

/-- Cores that can be active: those with a listed event register. -/
def attnCores (s : State) : List Nat :=
  s.listed .NDL_EVENT ++ s.listed .GZ_EVENT ++ s.listed .TW_EVENT ++ s.listed .SEAM_EVENT ++ s.listed .ATT_EVENT ++
    s.listed .MK_STATUS ++ s.listed .CORE_FLT

/-- ATTN_CORE_ROW of die d, row r. -/
def attnRow (s : State) (d r : Nat) : Nat :=
  maskOf (((attnCores s).filter fun c => c / 528 == d && c % 528 / 33 == r && coreAttn s c != 0).map (· % 33))

/-- A leaf: an enabled bit is 1. -/
def leafOn (s : State) (r en : Reg) (i : Nat) : Bool := (s.rd r i).toNat &&& (s.rd en i).toNat != 0

/-- Bits i of a group whose copy base + i of a field is 1, i below 32. -/
def groupOf (s : State) (f : Fld) (base : Nat) : Nat :=
  maskOf (((s.listed f.reg).filter fun i => base ≤ i && i < base + 32 && s.fbit f i).map (· - base))

/-- Host contexts with a claimable source (R400). -/
def hostPend (s : State) : Nat := maskOf ((List.range 8).filter fun t => claimWinner s t != 0)

/-- ATTN_GRP of group g (R394). -/
def attnGrp (s : State) (g : Nat) : Nat :=
  if g < 2 then groupOf s F.PAT_PANEL_STATUS_STOP_DONE (32 * g)
  else if g < 4 then groupOf s F.HUB_STEP_STATUS_VOTE_DONE (32 * (g - 2))
  else if g = 4 then
    b2n (s.fbit F.PAT_STATUS_DONE 0) + 2 * b2n (leafOn s .HUB_INCHK_EVENT .HUB_INCHK_EVENT_EN 0) +
      4 * b2n ((List.range 11).any fun d => s.fbit F.ICNT_STATUS_DRIFT d) +
      8 * b2n (leafOn s .CH_EVENT .CH_EVENT_EN 0) + 16 * b2n (s.rd .MK_REMOTE_COUNTS 0 != 0)
  else if g = 5 then (s.rd .PWR_EVENT 0).toNat &&& (s.rd .PWR_EVENT_EN 0).toNat
  else if g = 6 then (s.rd .SEC_EVENT 0).toNat &&& (s.rd .SEC_EVENT_EN 0).toNat
  else if g = 7 then maskOf ((List.range 6).filter fun i => leafOn s .STW_EVENT .STW_EVENT_EN i)
  else if g = 8 then hostPend s
  else if g < 17 then groupOf s F.Q_STATUS_RESET_BY_CHECK (32 * (g - 9))
  else if g = 17 then maskOf ((List.range 16).filter fun p => leafOn s .LNK_EVENT .LNK_EVENT_EN p)
  else if g < 26 then
    let n := g - 18
    b2n (leafOn s .FELT_MEM_EVENT .FELT_MEM_EVENT_EN n) + 2 * b2n (leafOn s .ATT_FELT_EVENT .ATT_FELT_EVENT_EN n) +
      4 * b2n (leafOn s .FELT_TRAIN_EVENT .FELT_TRAIN_EVENT_EN n) + 8 * b2n (leafOn s .FELT_FLT .FELT_FLT_EN n)
  else if g < 28 then maskOf ((List.range 16).filter fun r => attnRow s (g - 26) r != 0)
  else if g < 30 then b2n (leafOn s .DIE_FLT .DIE_FLT_EN (g - 28))
  else 0

/-- ATTN_SUMMARY (R393). -/
def attnSummary (s : State) : Nat := maskOf ((List.range 32).filter fun g => attnGrp s g != 0)

/-- Groups that are active and unmasked: the condition of ATTN_N (R392). -/
def attnActive (s : State) : Nat :=
  maskOf ((List.range 32).filter fun g => bitOf (attnSummary s) g && !bitOf (s.rd .ATTN_MASK 0).toNat g)

/-- Lowest bit of a number below 32; 0 when none. -/
def lowBit (v : Nat) : Nat := ((List.range 32).find? fun i => bitOf v i).getD 0

/-- Claim targets whose sources interrupt steward i: its own, and for S5 that of the role it has taken (R402, R422). -/
def stwTargets (s : State) (i : Nat) : List Nat :=
  (8 + i) :: (if i = 5 then (match (s.stw 5).taken with | some t => [8 + t] | none => []) else [])

/-- External interrupt inputs of the stewards: asserted while NEXT of a target is not 0 (R402). -/
def stwIrqs (s : State) : Nat := maskOf ((List.range 6).filter fun i => (stwTargets s i).any fun t => claimWinner s t != 0)

/-- Drive ATTN_N after a command: it falls as soon as its condition holds and rises only by ATTN_RELEASE (R392); its
fall raises an in-band interrupt when they are enabled (R479). The stewards' interrupt inputs follow (R402). -/
def settle (s : State) : State :=
  let a := attnActive s != 0
  { s with
    pins := { s.pins with attnLow := s.pins.attnLow || a, stwIrq := BitVec.ofNat 6 (stwIrqs s) }
    i3c := { s.i3c with ibi := if a && !s.pins.attnLow && s.i3c.ibiEn then some (BitVec.ofNat 8 (lowBit (attnActive s)))
                                else s.i3c.ibi } }

/-- THERM_ALERT_N is asserted (R461). -/
def State.thermAlert (s : State) : Bool :=
  s.fbit F.PWR_STATUS_WARN 0 || s.fbit F.PWR_STATUS_TRIP 0 || s.fbit F.PWR_STATUS_CRIT 0

/-- A command that answers a next state. -/
def done (s : State) : Out := .next (settle s)

end Sys2Proof.Machine
end

