-- ==== Sys2Proof/Machine/Reach.lean ====
section
/-! DEFINITION. Which agent reaches which control-space offset (R38, R480, R482), and an access with its wake (R27). -/
namespace Sys2Proof.Machine
open Sys2Proof

/-- Start of a core's window (R37). -/
def coreOff (c : Nat) : Nat := (if c < 528 then 0x10000000 else 0x14000000) + c % 528 * 0x10000

/-- The core whose window holds an offset. -/
def coreAt (off : Nat) : Option Nat :=
  let at_ := fun base d => if base ≤ off && off < base + 528 * 0x10000 then some (d * 528 + (off - base) / 0x10000) else none
  match at_ 0x10000000 0 with
  | some c => some c
  | none => at_ 0x14000000 1

/-- Offsets that I3C may read (R480). -/
def i3cReads (off : Nat) : Bool :=
  (0x00060000 ≤ off && off < 0x00060020) || (0x00080000 ≤ off && off < 0x00080014) || off == 0x100 || off == 0x104 ||
  off == 0x01000000 || off == 0x01000004 || (0x01000100 ≤ off && off < 0x01000180) ||
  off == 0x00070004 || off == 0x00070010 || (0x00070020 ≤ off && off < 0x00070040) ||
  (0x04000000 ≤ off && off < 0x04100000 && off % 0x10000 == 4) || off == 0x00040000 ||
  (0x03000000 ≤ off && off < 0x03000600 && off % 0x100 == 4)

/-- Offsets that I3C may write: PWR_, the W1C and enable fields of HUB_INCHK_, ATTN_MASK. -/
def i3cWrites (off : Nat) : Bool :=
  (0x00060000 ≤ off && off < 0x00060020) || off == 0x00080004 || off == 0x00080008 || off == 0x01000004

/-- An agent reaches an offset for a write. -/
def reaches (a : Agent) (off : Nat) : Bool :=
  match a with
  | .core c => coreOff c ≤ off && off < coreOff c + 0x10000
  | .i3c => i3cWrites off
  | _ => true

/-- Start-up halted (R468): the device answers only reads. -/
def State.bootHalted (s : State) : Bool := s.fget F.HUB_BOOT_STATUS_PHASE 0 == 5

/-- A control-space write of an agent with an effect of its own: outside its reach it is out of range (R38, R480); the
JTAG port works only while debug is enabled (R482); an access to a core's window wakes the core (R27); a halted device takes none (R468). -/
def State.access (s : State) (a : Agent) (off : Nat) (f : State → State) : State :=
  if s.bootHalted then s
  else if a = .jtag && !s.fbit F.SEC_STATUS_DEBUG 0 then s.finc F.SEC_COUNTS_REFUSED 0 1
  else if !reaches a off then s.outOfRange a off
  else f (match coreAt off with | some c => s.wake c | none => s)

/-- The core whose window an allowed read touches wakes after it (R27). -/
def wakeAt (off : Nat) (x : State × Word) : State × Word :=
  match coreAt off with | some c => (x.1.wake c, x.2) | none => x

/-- A control-space read of an agent: what it does not reach reads 0, for a core with the cause of R38; a halted device
answers reads of the hub block and I3C only (R468). A read that is allowed wakes the core of its window (R27). -/
def State.readAccess (s : State) (a : Agent) (off : Nat) (f : State → State × Word) : State × Word :=
  if s.bootHalted && !(a == .i3c || decide (off < 0x01000000)) then (s, 0)
  else if a = .jtag && !s.fbit F.SEC_STATUS_DEBUG 0 then (s.finc F.SEC_COUNTS_REFUSED 0 1, 0)
  else
    match a with
    | .core c => if coreOff c ≤ off && off < coreOff c + 0x10000 then wakeAt off (f s) else (s.outOfRange a off, 0)
    | .i3c => if i3cReads off then wakeAt off (f s) else (s, 0)
    | _ => wakeAt off (f s)

/-- A read whose word the model's read port keeps. -/
def State.readInto (s : State) (a : Agent) (off : Nat) (f : State → State × Word) : State :=
  let (s, v) := s.readAccess a off f
  { s with readback := v }

end Sys2Proof.Machine
end

