-- ==== Sys2Proof/Machine/Real.lean ====
section
/-! DEFINITION. The true values of the ROM functions and of the derivatives, far below FP32's rounding: fixed-point numbers
n × 2^−192 as integers, by argument reduction and series (R146, R187). They only say which free values of Config keep the
error bounds of the manual (log entries 11, 12). -/
namespace Sys2Proof.Machine
open Sys2Proof

/-- Fraction bits, and 1. -/
def fxBits : Nat := 192
def fxOne : Int := 2 ^ fxBits

def fxMul (a b : Int) : Int := a * b / fxOne
def fxDiv (a b : Int) : Int := a * fxOne / b

/-- An exact (−1)^s × m × 2^e as a fixed-point number, cut below its last bit. -/
def fxOf (s : Bool) (m : Nat) (e : Int) : Int :=
  let k := e + fxBits
  let v : Int := if 0 ≤ k then (m : Int) * 2 ^ k.toNat else (m : Int) / 2 ^ (-k).toNat
  if s then -v else v

/-- Σ z^(2n+1) ÷ (2n+1) with sign (−1)^n when `alt`: arctangent, or the inverse hyperbolic tangent. -/
def fxOdd (alt : Bool) (terms : Nat) (z : Int) : Int :=
  let q := fxMul z z
  ((List.range terms).foldl (fun (acc : Int × Int) (n : Nat) =>
    let t := acc.2 / (2 * (n : Int) + 1)
    (if alt && n % 2 == 1 then acc.1 - t else acc.1 + t, fxMul acc.2 q)) (0, z)).1

/-- ln 2 and π. -/
def fxLn2 : Int := 2 * fxOdd false 64 (fxOne / 3)
def fxPi : Int := 16 * fxOdd true 48 (fxOne / 5) - 4 * fxOdd true 20 (fxOne / 239)

/-- e^r for |r| below 1. -/
def fxExpSmall (r : Int) : Int :=
  ((List.range 48).foldl (fun (acc : Int × Int) (n : Nat) => (acc.1 + acc.2, fxMul acc.2 r / ((n : Int) + 1))) (0, fxOne)).1

/-- e^x as a mantissa in fixed point and a power of two. -/
def fxExp2 (x : Int) : Int × Int :=
  let k := (2 * x + fxLn2) / (2 * fxLn2)
  (fxExpSmall (x - k * fxLn2), k)

/-- e^−a for a at or above 0; 0 where it lies below the last bit. -/
def fxExpNeg (a : Int) : Int :=
  if 134 * fxOne < a then 0
  else
    let y := fxExp2 (-a)
    if 0 ≤ y.2 then y.1 * 2 ^ y.2.toNat else y.1 / 2 ^ (-y.2).toNat

/-- ln of m × 2^e, m > 0. -/
def fxLog (m : Nat) (e : Int) : Int :=
  let n := m.log2
  let y : Int := (m : Int) * fxOne / 2 ^ n
  let (y, e) := if 3 * fxOne < 2 * y then (y / 2, e + n + 1) else (y, e + n)
  e * fxLn2 + 2 * fxOdd false 48 (fxDiv (y - fxOne) (y + fxOne))

/-- Logistic function, hyperbolic tangent. -/
def fxSigmoid (x : Int) : Int :=
  let q := fxExpNeg x.natAbs
  if x < 0 then fxDiv q (fxOne + q) else fxDiv fxOne (fxOne + q)
def fxTanh (x : Int) : Int :=
  let q := fxExpNeg (2 * x.natAbs)
  let t := fxDiv (fxOne - q) (fxOne + q)
  if x < 0 then -t else t

/-- Square root of a number at or above 0. -/
def fxSqrt (x : Int) : Int :=
  let v := (x * fxOne).toNat
  ((List.range (v.log2 / 2 + 1)).reverse.foldl (fun (r : Nat) i => if (r + 2 ^ i) * (r + 2 ^ i) ≤ v then r + 2 ^ i else r) 0 : Nat)

/-- Error function: its series within ±7, ±1 beyond. -/
def fxErf (x : Int) : Int :=
  if 7 * fxOne < x.natAbs then (if x < 0 then -fxOne else fxOne)
  else
    let q := fxMul x x
    let y := ((List.range 200).foldl (fun (acc : Int × Int) (n : Nat) =>
      (acc.1 + (if n % 2 = 1 then -1 else 1) * (acc.2 / (2 * (n : Int) + 1)), fxMul acc.2 q / ((n : Int) + 1))) (0, x)).1
    fxDiv (2 * y) (fxSqrt fxPi)

/-- The normal distribution: cumulative and density. -/
def fxPhi (x : Int) : Int := (fxOne + fxErf (fxDiv x (fxSqrt (2 * fxOne)))) / 2
def fxDens (x : Int) : Int :=
  if 17 * fxOne < x.natAbs then 0 else fxDiv (fxExpNeg (fxMul x x / 2)) (fxSqrt (2 * fxPi))

/-- The argument of the tanh form of GELU, √(2 ÷ π) × (x + 0.044715 x³), and its derivative (PRESUMED: the common
definition; the manual names the form only). -/
def geluArg (x : Int) : Int :=
  fxMul (fxSqrt (fxDiv (2 * fxOne) fxPi)) (x + fxMul (fxMul x x) x * 44715 / 1000000)
def geluArg' (x : Int) : Int :=
  fxMul (fxSqrt (fxDiv (2 * fxOne) fxPi)) (fxOne + 3 * fxMul x x * 44715 / 1000000)

/-- TANH, SIGMOID, GELU_T, GELU_E and SILU by their VECTOR codes 0x14 to 0x18. Beyond ±64 the last three are x or 0. -/
def fxFn (code : Nat) (x : Int) : Int :=
  match code with
  | 0x14 => fxTanh x
  | 0x15 => fxSigmoid x
  | c =>
    if 64 * fxOne < x then x
    else if x < -64 * fxOne then 0
    else match c with
      | 0x16 => fxMul x (fxOne + fxTanh (geluArg x)) / 2
      | 0x17 => fxMul x (fxPhi x)
      | _ => fxMul x (fxSigmoid x)

/-- Derivatives of R146 by DERIV code 1 to 5, for −16 ≤ x < 16. -/
def fxDeriv (code : Nat) (x : Int) : Int :=
  match code with
  | 1 =>
    let t := fxTanh (geluArg x)
    (fxOne + t) / 2 + fxMul (fxMul x (fxOne - fxMul t t)) (geluArg' x) / 2
  | 2 => fxPhi x + fxMul x (fxDens x)
  | 3 =>
    let g := fxSigmoid x
    fxMul g (fxOne + fxMul x (fxOne - g))
  | 4 => let t := fxTanh x; fxOne - fxMul t t
  | _ => let g := fxSigmoid x; fxMul g (fxOne - g)

end Sys2Proof.Machine
end

