-- ==== Sys2Proof/Machine/Num.lean ====
section
/-! DEFINITION. Numbers: exact values, the float formats, rounding, and the stochastic generator (R66, R67, R85 to R96). -/
namespace Sys2Proof.Machine
open Sys2Proof

def FV.zero : FV := .fin false 0 0
def FV.one : FV := .fin false 1 0
def FV.ofInt (n : Int) : FV := .fin (n < 0) n.natAbs 0

/-- A float format (R66): exponent and mantissa widths, bias, whether it has infinities, whether NaN. -/
structure FloatFmt where
  eb : Nat
  mb : Nat
  bias : Int
  hasInf : Bool
  hasNan : Bool
  deriving DecidableEq, Repr

def fp32 : FloatFmt := ⟨8, 23, 127, true, true⟩
def bf16 : FloatFmt := ⟨8, 7, 127, true, true⟩
def fp16 : FloatFmt := ⟨5, 10, 15, true, true⟩
def e4m3 : FloatFmt := ⟨4, 3, 7, false, true⟩
def e5m2 : FloatFmt := ⟨5, 2, 15, true, true⟩
def e2m1 : FloatFmt := ⟨2, 1, 1, false, false⟩

/-- Width of a code. -/
def FloatFmt.width (f : FloatFmt) : Nat := 1 + f.eb + f.mb

/-- Code of the largest finite magnitude. -/
def FloatFmt.maxCode (f : FloatFmt) : Nat :=
  if f.hasInf then (2 ^ f.eb - 1) * 2 ^ f.mb - 1 else if f.hasNan then 2 ^ (f.eb + f.mb) - 2 else 2 ^ (f.eb + f.mb) - 1

/-- Canonical NaN (R91). -/
def FloatFmt.nanCode (f : FloatFmt) : Nat :=
  if f.hasInf then (2 ^ f.eb - 1) * 2 ^ f.mb + 2 ^ (f.mb - 1) else 2 ^ (f.eb + f.mb) - 1

/-- Infinity code without sign. -/
def FloatFmt.infCode (f : FloatFmt) : Nat := (2 ^ f.eb - 1) * 2 ^ f.mb

/-- Value of a code (R67). -/
def FloatFmt.decode (f : FloatFmt) (code : Nat) : FV :=
  let s := bitOf code (f.eb + f.mb)
  let ex := bits code f.mb f.eb
  let m := bits code 0 f.mb
  if f.hasInf && ex == 2 ^ f.eb - 1 then (if m = 0 then .inf s else .nan)
  else if f.hasNan && !f.hasInf && ex == 2 ^ f.eb - 1 && m == 2 ^ f.mb - 1 then .nan
  else if ex = 0 then .fin s m (1 - f.bias - f.mb)
  else .fin s (2 ^ f.mb + m) (ex - f.bias - f.mb)

/-- Compare m × 2^e with m' × 2^e'. -/
def dyLt (m : Nat) (e : Int) (m' : Nat) (e' : Int) : Bool :=
  if e ≤ e' then decide (m < m' * 2 ^ (e' - e).toNat) else decide (m * 2 ^ (e - e').toNat < m')

/-- How to round: to nearest even, or stochastically with the word R (R85, R86). -/
inductive Rnd where
  | rne
  | sr (r : Nat)
  deriving DecidableEq, Repr

/-- m × 2^e, m > 0, rounded once to a multiple of 2^q. -/
def roundTo (m : Nat) (e q : Int) : Rnd → Nat
  | .rne =>
    if q ≤ e then m * 2 ^ (e - q).toNat
    else
      let k := (q - e).toNat
      let lo := m / 2 ^ k
      let r := m % 2 ^ k
      if 2 * r > 2 ^ k || (2 * r == 2 ^ k && lo % 2 == 1) then lo + 1 else lo
  | .sr w =>
    if q ≤ e then m * 2 ^ (e - q).toNat
    else
      let k := (q - e).toNat
      let lo := m / 2 ^ k
      if m % 2 ^ k * 2 ^ 32 / 2 ^ k + w ≥ 2 ^ 32 then lo + 1 else lo

/-- Result of a conversion: code and events (SAT, UNF, NaN without a NaN code). -/
structure Conv where
  code : Nat
  sat : Bool
  unf : Bool
  nan : Bool
  deriving DecidableEq, Repr

/-- Convert a value once into a float format (R85, R86, R93, R95, R96). -/
def FloatFmt.convert (f : FloatFmt) (r : Rnd) : FV → Conv
  | .nan => if f.hasNan then ⟨f.nanCode, false, false, false⟩ else ⟨0, false, false, true⟩
  | .inf s =>
    if f.hasInf then ⟨b2n s * 2 ^ (f.eb + f.mb) + f.infCode, false, false, false⟩
    else ⟨b2n s * 2 ^ (f.eb + f.mb) + f.maxCode, true, false, false⟩
  | .fin s m e =>
    let sign := b2n s * 2 ^ (f.eb + f.mb)
    let keepSign := 16 ≤ f.width
    if m = 0 then ⟨if keepSign then sign else 0, false, false, false⟩
    else
      let emin : Int := 1 - f.bias - f.mb
      match f.decode f.maxCode with
      | .fin _ mm me =>
        if dyLt mm me m e then ⟨sign + f.maxCode, true, false, false⟩
        else
          let q := max emin (m.log2 + e - f.mb)
          let n := roundTo m e q r
          if n = 0 then ⟨if keepSign then sign else 0, false, true, false⟩
          else ⟨sign + n + (q - emin).toNat * 2 ^ f.mb, false, false, false⟩
      | _ => ⟨0, false, false, false⟩

/-- FP32 bits as a value, and a value rounded once to FP32 by RNE with saturation (R93). -/
def f32 (w : Word) : FV := fp32.decode w.toNat
def rne32 (v : FV) : Word := BitVec.ofNat 32 (fp32.convert .rne v).code
def sat32 (v : FV) : Bool := (fp32.convert .rne v).sat

/-! Exact arithmetic with the special values of R91, R94 and R95. -/

def FV.isNan : FV → Bool
  | .nan => true | _ => false
def FV.isInf : FV → Bool
  | .inf _ => true | _ => false
def FV.isZero : FV → Bool
  | .fin _ m _ => m == 0 | _ => false
def FV.neg : FV → FV
  | .nan => .nan | .inf s => .inf (!s) | .fin s m e => .fin (!s) m e
def FV.abs : FV → FV
  | .nan => .nan | .inf _ => .inf false | .fin _ m e => .fin false m e

/-- Signed integer multiple of 2^e. -/
def sgn (s : Bool) (m : Nat) : Int := if s then -(m : Int) else m

def dyNorm (n : Int) (e : Int) : FV := .fin (n < 0) n.natAbs e

def FV.add : FV → FV → FV
  | .nan, _ => .nan
  | _, .nan => .nan
  | .inf s, .inf t => if s == t then .inf s else .nan
  | .inf s, _ => .inf s
  | _, .inf t => .inf t
  | .fin s m e, .fin t k d =>
    if e ≤ d then dyNorm (sgn s m + sgn t k * 2 ^ (d - e).toNat) e
    else dyNorm (sgn s m * 2 ^ (e - d).toNat + sgn t k) d

def FV.sub (a b : FV) : FV := a.add b.neg

def FV.mul : FV → FV → FV
  | .nan, _ => .nan
  | _, .nan => .nan
  | .inf s, .inf t => .inf (s != t)
  | .inf s, .fin t m _ => if m = 0 then .nan else .inf (s != t)
  | .fin s m _, .inf t => if m = 0 then .nan else .inf (s != t)
  | .fin s m e, .fin t k d => .fin (s != t) (m * k) (e + d)

/-- a × 2^k. -/
def FV.scale2 (k : Int) : FV → FV
  | .fin s m e => .fin s m (e + k) | v => v

/-- Strict numeric order; false with a NaN. −0 and +0 are equal. -/
def FV.lt : FV → FV → Bool
  | .nan, _ => false
  | _, .nan => false
  | .inf s, .inf t => s && !t
  | .inf s, _ => s
  | _, .inf t => !t
  | .fin s m e, .fin t k d =>
    if m = 0 && k = 0 then false
    else if m = 0 then !t
    else if k = 0 then s
    else if s != t then s
    else if s then dyLt k d m e else dyLt m e k d

/-- MAX and MIN (R92). -/
def FV.max (a b : FV) : FV :=
  if a.isNan || b.isNan then .nan
  else if a.isZero && b.isZero then (match a, b with | .fin s _ _, .fin t _ _ => .fin (s && t) 0 0 | _, _ => a)
  else if a.lt b then b else a
def FV.min (a b : FV) : FV :=
  if a.isNan || b.isNan then .nan
  else if a.isZero && b.isZero then (match a, b with | .fin s _ _, .fin t _ _ => .fin (s || t) 0 0 | _, _ => a)
  else if b.lt a then b else a

/-- p ÷ q for q > 0, exact up to a sticky bit far below any rounding point. -/
def ratio (s : Bool) (p q : Nat) (e : Int) : FV :=
  if p = 0 then .fin s 0 0
  else
    let k := q.log2 + 80
    let n := p * 2 ^ k / q
    .fin s (2 * n + b2n (p * 2 ^ k % q != 0)) (e - k - 1)

/-- Quotient (R93, R94): x ÷ 0 is the largest value of FP32 by the caller's saturation; 0 ÷ 0 and ∞ ÷ ∞ are NaN. -/
def FV.div : FV → FV → FV
  | .nan, _ => .nan
  | _, .nan => .nan
  | .inf _, .inf _ => .nan
  | .inf s, .fin t _ _ => .inf (s != t)
  | .fin s _ _, .inf t => .fin (s != t) 0 0
  | .fin s m e, .fin t k d =>
    if k = 0 then (if m = 0 then .nan else .fin (s != t) (2 ^ 24) 105) else ratio (s != t) m k (e - d)

/-- FP32 operations: exact, one rounding. -/
def fadd (a b : Word) : Word := rne32 ((f32 a).add (f32 b))
def fsub (a b : Word) : Word := rne32 ((f32 a).sub (f32 b))
def fmul (a b : Word) : Word := rne32 ((f32 a).mul (f32 b))
def fmax (a b : Word) : Word := rne32 ((f32 a).max (f32 b))
def fmin (a b : Word) : Word := rne32 ((f32 a).min (f32 b))
def fFmax : Word := 0x7F7FFFFF
def fNan : Word := 0x7FC00000
def fInf : Word := 0x7F800000
def fOne : Word := 0x3F800000

/-- SRBITS (R88). -/
def rotl (v : Word) (n : Nat) : Word := v.rotateLeft n
def srRound (st : Word × Word × Word × Word × Word) (r : Nat) : Word × Word × Word × Word × Word :=
  let (a, b, c, k0, k1) := st
  let a := (a ^^^ k0) * 0xA3B1C6D5#32
  let b := (b + rotl a 11) ^^^ k1
  let c := (c ^^^ rotl b 17) * 0x7F4A7C15#32
  let a := a + rotl c 5 + BitVec.ofNat 32 r
  let k0 := k0 + 0x6D2B79F5#32
  (a, b, c, k0, k1 ^^^ rotl k0 7)
def srBits (k : DWord) (h e s p : Nat) : Nat :=
  let a := BitVec.ofNat 32 e
  let b := BitVec.ofNat 32 (p * 2 ^ 28 + h % 2 ^ 20 * 2 ^ 8 + e / 2 ^ 32 % 2 ^ 8)
  let st := (List.range 6).foldl srRound (a, b, BitVec.ofNat 32 s, k.setWidth 32, (k >>> 32).setWidth 32)
  (st.1 ^^^ st.2.1 ^^^ st.2.2.1).toNat

/-! ROM functions (R187): the limits the manual fixes; elsewhere the constant of Config.rom where it keeps the error bound,
else the rounded true value (log entry 11). -/

/-- Largest n with n × n ≤ v, by bits. -/
def isqrt (v : Nat) : Nat :=
  (List.range (v.log2 / 2 + 1)).reverse.foldl (fun r i => let t := r + 2 ^ i; if t * t ≤ v then t else r) 0

/-- 1 ÷ √(m × 2^e) to far more bits than FP32, sticky. -/
def rsqrtFV (m : Nat) (e : Int) : FV :=
  let odd := e % 2 != 0
  let m := if odd then 2 * m else m
  let e := if odd then e - 1 else e
  let k := m.log2 + 80
  let num := 2 ^ (2 * k)
  let r := isqrt (num / m)
  .fin false (2 * r + 1) (-(k : Int) - e / 2 - 1)

/-- A fixed-point number times 2^k as a value. -/
def fvOfFx (x k : Int) : FV := .fin (x < 0) x.natAbs (k - fxBits)

/-- Two units in the last place of FP32 at a value; 2^−20. -/
def ulps2 : FV → FV
  | .fin _ m e => if m = 0 then .fin false 1 (-148) else .fin false 1 (max (-148) (m.log2 + e - 22))
  | _ => FV.zero
def absErr : FV := .fin false 1 (-20)

/-- FP32 bits are finite and differ from a value by at most `tol`. -/
def within (tol : FV) (w : Word) (v : FV) : Bool :=
  match f32 w with
  | .fin .. => !tol.lt ((f32 w).sub v).abs
  | _ => false

/-- The free value of the ROM when it keeps its bound, else the rounded true value; a true value above FMAX saturates. -/
def bounded (tol v : FV) (w : Word) : Word := if !sat32 v && within tol w v then w else rne32 v

/-- RECIP, RSQRT, EXP and LOG with the limit cases of R187: they err by at most 2 units in the last place. -/
def romRecip (x : Word) : Word :=
  match f32 x with
  | .nan => fNan
  | .inf s => if s then 0x80000000 else 0
  | .fin s m e => if m = 0 then (if s then 0xFF7FFFFF else fFmax) else
      let v := ratio s 1 m (-e)
      bounded (ulps2 v) v (Config.rom 0x12 x)
def romRsqrt (x : Word) : Word :=
  match f32 x with
  | .nan => fNan
  | .inf s => if s then fNan else 0
  | .fin s m e => if m = 0 then (if s then 0xFF7FFFFF else fFmax) else if s then fNan else
      let v := rsqrtFV m e
      bounded (ulps2 v) v (Config.rom 0x13 x)
/-- EXP above FMAX and below the smallest subnormal: the FP32 arguments at which the true result passes them, DEDUCED
from ln FMAX = 88.722839… and ln 2^−149 = −103.278929…. -/
def expHigh (s : Bool) (x : Word) : Bool := !s && 0x42B17218 ≤ x.toNat
def expLow (s : Bool) (x : Word) : Bool := s && 0xC2CE8ED0 ≤ x.toNat
def romExp (x : Word) : Word :=
  match f32 x with
  | .nan => fNan
  | .inf s => if s then 0 else fInf
  | .fin s m e =>
    if expHigh s x then fFmax else if expLow s x then 0
    else
      let y := fxExp2 (fxOf s m e)
      bounded (ulps2 (fvOfFx y.1 y.2)) (fvOfFx y.1 y.2) (Config.rom 0x10 x)
def romLog (x : Word) : Word :=
  match f32 x with
  | .nan => fNan
  | .inf s => if s then fNan else fInf
  | .fin s m e => if m = 0 then 0xFF7FFFFF else if s then fNan else
      let v := fvOfFx (fxLog m e) 0
      bounded (ulps2 v) v (Config.rom 0x11 x)

/-- TANH, SIGMOID, GELU_T, GELU_E and SILU of a finite value: they err by at most 2^−20. -/
def romSmooth (code : Nat) (x : Word) : Word :=
  match f32 x with
  | .fin s m e => bounded absErr (fvOfFx (fxFn code (fxOf s m e)) 0) (Config.rom code x)
  | _ => fNan

/-- A ROM function by its VECTOR code. -/
def romFn (code : Nat) (x : Word) : Word :=
  match code with
  | 0x10 => romExp x
  | 0x11 => romLog x
  | 0x12 => romRecip x
  | 0x13 => romRsqrt x
  | 0x14 => match f32 x with | .nan => fNan | .inf s => (if s then 0xBF800000 else fOne) | _ => romSmooth 0x14 x
  | 0x15 => match f32 x with | .nan => fNan | .inf s => (if s then 0 else fOne) | _ => romSmooth 0x15 x
  | c => match f32 x with | .nan => fNan | .inf s => (if s then 0 else fInf) | _ => romSmooth c x

/-- A ROM result that counts one saturation (R187): zero arguments of RECIP, RSQRT, LOG; EXP above FMAX, and RECIP of a
value whose reciprocal exceeds FMAX. -/
def romSat (code : Nat) (x : Word) : Bool :=
  match f32 x with
  | .fin s m e =>
    match code with
    | 0x10 => expHigh s x
    | 0x11 => m == 0
    | 0x12 => m == 0 || sat32 (ratio s 1 m (-e))
    | 0x13 => m == 0
    | _ => false
  | _ => false

/-- SQRT of R272. -/
def romSqrt (x : Word) : Word :=
  match f32 x with
  | .nan => fNan
  | .inf s => if s then fNan else fInf
  | .fin s m _ => if m = 0 then 0 else if s then fNan else fmul x (romRsqrt x)

end Sys2Proof.Machine
end

