-- ==== Sys2Proof/Machine/Formats.lean ====
section
/-! DEFINITION. Element formats, block scales, expansion and quantisation (R66 to R84, R96, R97, R499). -/
namespace Sys2Proof.Machine
open Sys2Proof

/-- Element kinds (R66). -/
inductive Elem where
  | f32 | b16 | f16 | e4 | e5 | e2 | t2 | i4a | i4w | i2w | c4 | c2
  deriving DecidableEq, Repr

/-- Directions of a block (R73). -/
inductive Dir where
  | k | nm | square
  deriving DecidableEq, Repr

/-- A storage format: element, block size (0 none) and direction (R76). -/
structure Geo where
  elem : Elem
  blk : Nat
  dir : Dir
  deriving DecidableEq, Repr

/-- Bits of a code. -/
def Elem.bits : Elem → Nat
  | .f32 => 32 | .b16 | .f16 => 16 | .e4 | .e5 => 8 | .e2 | .i4a | .i4w | .c4 => 4 | .t2 | .i2w | .c2 => 2

/-- The float format of a float element. -/
def Elem.float : Elem → Option FloatFmt
  | .f32 => some fp32 | .b16 => some bf16 | .f16 => some fp16 | .e4 => some e4m3 | .e5 => some e5m2 | .e2 => some e2m1
  | _ => none

/-- BLOCK_SHAPE (R74). -/
def blockGeo (b : Nat) : Option Geo :=
  let size := Machine.bits b 0 3
  let dir := Machine.bits b 3 2
  let el := Machine.bits b 5 3
  if 5 ≤ size || dir == 3 || 4 ≤ el || (dir == 2 && 3 ≤ size) then none
  else some ⟨match el with | 0 => .e4 | 1 => .e5 | 2 => .e2 | _ => .t2, 8 * 2 ^ size,
    match dir with | 0 => .k | 1 => .nm | _ => .square⟩

/-- Format IDs (R76); none when reserved. -/
def fmtGeo (id block : Nat) : Option Geo :=
  match id with
  | 0x00 => some ⟨.f32, 0, .k⟩
  | 0x01 => some ⟨.b16, 0, .k⟩
  | 0x02 => some ⟨.f16, 0, .k⟩
  | 0x03 => some ⟨.e4, 0, .k⟩
  | 0x04 => some ⟨.e5, 0, .k⟩
  | 0x05 => some ⟨.e2, 0, .k⟩
  | 0x07 => some ⟨.e4, 32, .k⟩
  | 0x08 => some ⟨.e4, 16, .k⟩
  | 0x09 => some ⟨.e5, 32, .k⟩
  | 0x0A => some ⟨.e5, 16, .k⟩
  | 0x0B => some ⟨.e4, 16, .square⟩
  | 0x0C => some ⟨.e5, 16, .square⟩
  | 0x0D => some ⟨.e2, 32, .k⟩
  | 0x0E => some ⟨.e2, 16, .k⟩
  | 0x0F => blockGeo block
  | 0x10 => some ⟨.t2, 0, .k⟩
  | 0x11 => some ⟨.t2, 32, .k⟩
  | 0x12 => some ⟨.i4a, 0, .k⟩
  | 0x13 => some ⟨.i4w, 0, .k⟩
  | 0x14 => some ⟨.i2w, 0, .k⟩
  | 0x15 => some ⟨.c4, 0, .k⟩
  | 0x16 => some ⟨.c2, 0, .k⟩
  | _ => none

/-- Value of a code without block or learned scale (R67 to R69); z is the zero point of an INT4 activation, `table`
the codes of a C4 or C2 table. -/
def Elem.value (el : Elem) (z : Nat) (table : List Nat) (code : Nat) : FV :=
  match el with
  | .f32 => fp32.decode code
  | .b16 => bf16.decode code
  | .f16 => fp16.decode code
  | .e4 => e4m3.decode code
  | .e5 => e5m2.decode code
  | .e2 => e2m1.decode code
  | .t2 => match code with | 1 => .fin false 1 0 | 3 => .fin true 1 0 | _ => .fin false 0 0
  | .i4a => .ofInt (code - z)
  | .i4w => .ofInt (sext 4 code)
  | .i2w => .ofInt (sext 2 code)
  | .c4 => e4m3.decode (table.getD code 0)
  | .c2 => e2m1.decode (table.getD code 0)

/-- Exponent offset emax (R72). -/
def Elem.emax : Elem → Int
  | .e4 => 8 | .e5 => 15 | .e2 => 2 | _ => 0

/-- Largest finite value of an element format as a value. -/
def Elem.maxFin : Elem → FV
  | .t2 => .fin false 1 0
  | .i4a => .fin false 15 0
  | .i4w => .fin false 7 0
  | .i2w => .fin false 1 0
  | el => match el.float with | some f => f.decode f.maxCode | none => .fin false 0 0

/-- Events of conversions (R97). -/
structure Evs where
  sat : Nat
  unf : Nat
  nanb : Nat
  zero : Nat
  crushed : Nat
  deriving DecidableEq, Repr

def Evs.none : Evs := ⟨0, 0, 0, 0, 0⟩
def Evs.plus (a b : Evs) : Evs := ⟨a.sat + b.sat, a.unf + b.unf, a.nanb + b.nanb, a.zero + b.zero, a.crushed + b.crushed⟩

/-- Round a value to an integer of a range; two's complement code of w bits (R96). -/
def intConv (w : Nat) (lo hi : Int) (r : Rnd) : FV → Conv
  | .nan => ⟨0, false, false, true⟩
  | .inf s =>
    let v := if s then lo else hi
    ⟨(v % (2 ^ w : Nat)).toNat, true, false, false⟩
  | .fin s m e =>
    let n : Int := sgn s (if m = 0 then 0 else roundTo m e 0 r)
    let sat := if s then dyLt lo.natAbs 0 m e && m ≠ 0 else dyLt hi.natAbs 0 m e
    let v := if sat then (if s then lo else hi) else n
    ⟨(v % (2 ^ w : Nat)).toNat, sat, m ≠ 0 && v == 0 && !sat, false⟩

/-- Convert a value once into an element format (R85, R86, R96). Tables are not targets here. -/
def Elem.convert (el : Elem) (r : Rnd) (v : FV) : Conv :=
  match el.float with
  | some f => f.convert r v
  | none =>
    match el with
    | .t2 => intConv 2 (-1) 1 r v
    | .i4a => intConv 4 0 15 r v
    | .i4w => intConv 4 (-8) 7 r v
    | _ => intConv 2 (-2) 1 r v

/-- Numeric maximum of magnitudes of the finite values: mantissa and exponent; mantissa 0 when all are zero. -/
def amaxOf (xs : List FV) : Nat × Int :=
  xs.foldl (fun a x => match x with
    | .fin _ m e => if m ≠ 0 && (a.1 == 0 || dyLt a.1 a.2 m e) then (m, e) else a
    | _ => a) (0, 0)

/-- QUANTISE_BLOCK (R83, R84): values with their rounding modes; `src` is the largest finite value of the source
format, `k` the crushed threshold; only a block that computes its exponent can be crushed (R163). Answers the BX8 code, the element codes and the events. -/
def quantBlock (el : Elem) (src : FV) (k : Nat) (eIn : Option Int) (xs : List (FV × Rnd)) : Nat × List Nat × Evs :=
  if xs.any (fun x => x.1.isNan) then (0xFF, xs.map fun _ => 0, { Evs.none with nanb := 1 })
  else
    let hasInf := match el.float with | some f => f.hasInf | none => false
    -- a replaced infinity carries a saturation mark
    let ys : List (FV × Rnd × Bool) := xs.map fun x => match x.1 with
      | .inf s => if hasInf then (x.1, x.2, false) else (if s then src.neg else src, x.2, true)
      | v => (v, x.2, false)
    let am := amaxOf (ys.map (·.1))
    if eIn.isNone && am.1 == 0 then
      let codes := ys.map fun y => match y.1 with | .inf _ => (el.convert .rne y.1).code | _ => 0
      (0, codes, { Evs.none with zero := b2n (codes.all (· == 0)) })
    else
      let e0 := match eIn with | some e => e | none => (am.1.log2 + am.2 : Int) - el.emax
      let e := max (-127) (min 127 e0)
      let rs := ys.map fun y => match y.1 with
        | .inf _ => ((el.convert .rne y.1).code, false, false)
        | v =>
          let c := el.convert y.2.1 (v.scale2 (-e))
          (c.code, c.sat || y.2.2, c.unf)
      let unf := rs.countP (·.2.2)
      ((e + 127).toNat, rs.map (·.1), ⟨rs.countP (·.2.1), unf, 0, 0, b2n (eIn.isNone && decide (k < unf))⟩)

/-- Value of a block element (R71): BX8 0xFF makes it NaN. -/
def blockValue (bx : Nat) (v : FV) : FV := if bx = 0xFF then .nan else v.scale2 ((bx : Int) - 127)

end Sys2Proof.Machine
end

