-- ==== Sys2Proof/Machine/Operands.lean ====
section
/-! DEFINITION. Operand forms: the fields of a macro-instruction (R182, R183), descriptors (R189 to R191), element and
block geometry (R73 to R77, R499), and reads and writes of elements in a tensor's byte space. -/
namespace Sys2Proof.Machine
open Sys2Proof

/-! Macro-instruction fields (R182). -/

def miOpcode (m : List Byte) : Nat := leAt m 0 1
def miStream (m : List Byte) : Nat := bits (leAt m 1 1) 0 2
def miScope (m : List Byte) : Bool := bitOf (leAt m 1 1) 2
def miFlags (m : List Byte) : Nat := leAt m 2 2
def miRef (m : List Byte) : Bool := bitOf (miFlags m) 0
def miSr (m : List Byte) : Bool := bitOf (miFlags m) 1
def miNoSplit (m : List Byte) : Bool := bitOf (miFlags m) 2
def miEnd (m : List Byte) : Bool := bitOf (miFlags m) 3
/-- RUN_P: 0 means 4 groups. -/
def miRun (m : List Byte) : Nat := let p := bits (leAt m 4 1) 0 5; if p = 0 then 4 else p
def miShape (m : List Byte) : Nat := bits (leAt m 5 1) 0 5
def miLayer (m : List Byte) : Nat := bits (leAt m 6 2) 0 12
def miDst (m : List Byte) : Nat := leAt m 8 4
def miSrc (m : List Byte) (k : Nat) : Nat := leAt m (12 + 4 * k) 4
def miWait (m : List Byte) (k : Nat) : Nat := leAt m (24 + k) 1
def miSet (m : List Byte) (k : Nat) : Nat := leAt m (28 + 4 * k) 4
def miOpx (m : List Byte) (off n : Nat) : Nat := leAt m (48 + off) n

/-- Handle fields: PRESENT and the handle. -/
def hPresent (h : Nat) : Bool := bitOf h 31
def hHandle (h : Nat) : Nat := h % 2 ^ 20
def hRsvOk (h : Nat) : Bool := bits h 20 11 == 0

def waitValid (w : Nat) : Bool := bitOf w 7
def waitClear (w : Nat) : Bool := bitOf w 6
def waitIndex (w : Nat) : Nat := w % 64

def setTarget (f : Nat) : Nat := bits f 30 2
def setIdOf (f : Nat) : Nat := bits f 0 17
def setDevice (f : Nat) : Nat := bits f 17 12

/-- Reserved bits and bytes of the fixed part (R182). OPX is checked by each opcode. -/
def miFixedOk (m : List Byte) : Bool :=
  bits (leAt m 1 1) 3 5 == 0 && bits (miFlags m) 4 12 == 0 && bits (leAt m 4 1) 5 3 == 0 &&
  bits (leAt m 4 1) 0 5 ≤ 16 && bits (leAt m 5 1) 5 3 == 0 && miShape m ≤ 16 && bits (leAt m 6 2) 12 4 == 0 &&
  hRsvOk (miDst m) && hRsvOk (miSrc m 0) && hRsvOk (miSrc m 1) && hRsvOk (miSrc m 2) && leAt m 44 4 == 0 &&
  (List.range 4).all fun k => !bitOf (miSet m k) 29

/-- Set fields name no reserved marker and no ID above 0x1_1FFF (R183). -/
def miSetsOk (m : List Byte) : Bool :=
  (List.range 4).all fun k =>
    let f := miSet m k
    match setTarget f with
    | 0 => true
    | 1 => setIdOf f % 64 < 60
    | _ => setIdOf f ≤ 0x11FFF && !(setIdOf f < 0x10000 && 60 ≤ setIdOf f % 64)

/-! Descriptors (R190). -/

/-- A descriptor, by its 128 bytes. -/
abbrev Desc := List Byte

def dFormat (d : Desc) : Nat := bits (leAt d 0 1) 0 5
def dKind (d : Desc) : Nat := bits (leAt d 0 1) 5 3
def dBlock (d : Desc) : Nat := leAt d 1 1
def dScales (d : Desc) : Nat := bits (leAt d 2 1) 0 2
def dTwill (d : Desc) : Nat := bits (leAt d 2 1) 2 3
def dFrozen (d : Desc) : Bool := bitOf (leAt d 2 1) 5
def dGrouped (d : Desc) : Bool := bitOf (leAt d 2 1) 6
def dWide (d : Desc) : Bool := bitOf (leAt d 2 1) 7
def dRank (d : Desc) : Nat := bits (leAt d 3 1) 0 3
def dRed (d : Desc) : Bool := bitOf (leAt d 3 1) 3
def dSeed (d : Desc) : Nat := leAt d 4 8
def dDim (d : Desc) (k : Nat) : Nat := leAt d (12 + 4 * k) 4
def dCodeOff (d : Desc) : Nat := leAt d 0x24 8
def dScaleOff (d : Desc) : Nat := leAt d 0x2C 8
def dStrideC2 (d : Desc) : Nat := leAt d 0x34 4
def dStrideC3 (d : Desc) : Nat := leAt d 0x38 4
def dStrideS2 (d : Desc) : Nat := leAt d 0x3C 4
def dStrideS3 (d : Desc) : Nat := leAt d 0x40 4
def dStr2 (d : Desc) : Bool := bitOf (leAt d 0x44 4) 0
def dStr3 (d : Desc) : Bool := bitOf (leAt d 0x44 4) 1
def dDerivSrc (d : Desc) : Nat := leAt d 0x48 4
def dLscale (d : Desc) : Nat := leAt d 0x4C 4
def dParam (d : Desc) : Nat := leAt d 0x50 4
def dPartner (d : Desc) : Nat := leAt d 0x54 4
def dTableOff (d : Desc) : Nat := leAt d 0x58 8
def dHints (d : Desc) : Nat := leAt d 0x60 8
def dRule (d : Desc) : Nat := leAt d 0x68 1

/-- KINDs (R190). -/
def kTensor : Nat := 0
def kWeight : Nat := 1
def kWindow : Nat := 2
def kPool : Nat := 3
def kParam : Nat := 4

/-- Panel that owns a handle (R189). -/
def handlePanel (h : Nat) : Nat := h / 2 ^ 14

/-- The descriptor of a handle, when a loaded section defines it (R189). -/
def State.desc (s : State) (h : Nat) : Option Desc :=
  match s.secsOf (handlePanel h) with
  | some x => ((x.descriptors.getD []).find? fun e => e.1 == h % 2 ^ 14).map (·.2)
  | none => none

/-- Columns and rows of the matrix view (R191). -/
def dCols (d : Desc) : Nat := dDim d 0
def dRows (d : Desc) : Nat := dDim d 1
def dFolds (d : Desc) : Nat := dDim d 2 * dDim d 3

/-! Stream code. -/

def State.streamsOf (s : State) (p : Nat) : Option Streams := (s.secsOf p).bind (·.streams)

def codeBytes (x : Streams) : Strm → List Byte
  | .F => x.f | .B => x.b | .U => x.u

def State.entryIx (s : State) (p : Nat) (st : Strm) : Nat :=
  match s.entryOf p with
  | some e => (match st with | .F => e.entryF | .B => e.entryB | .U => e.entryU)
  | none => 0

/-- The 64 bytes at an index of a stream's code; zeros past its end. -/
def State.miAt (s : State) (p : Nat) (st : Strm) (ix : Nat) : List Byte :=
  match s.streamsOf p with
  | some x => sliceB (codeBytes x st) (64 * ix) 64
  | none => List.replicate 64 0

def State.pc (s : State) (c : Nat) (st : Strm) : Nat := s.fget F.NDL_STREAM_PC_INDEX (strmIx c st)

/-! Markers (R322, R323, R357). -/

def markerOn (s : State) (c m : Nat) : Bool :=
  if m < 32 then bitOf (s.rd .MK_STATE_LO c).toNat m else bitOf (s.rd .MK_STATE_HI c).toNat (m - 32)

def putMarker (s : State) (c m : Nat) (v : Bool) : State :=
  let r := if m < 32 then Reg.MK_STATE_LO else Reg.MK_STATE_HI
  s.wr r c (BitVec.ofNat 32 (putBits (s.rd r c).toNat (m % 32) 1 (b2n v)))

/-- CLEAR of a core marker. -/
def State.clearMarker (s : State) (c m : Nat) : State := putMarker s c m false

/-- The head of a stream in WAIT has plain waits only, m among them, and all of their markers are SET. -/
def plainWaits (s : State) (p c m : Nat) (st : Strm) : Bool :=
  let ws := ((List.range 4).map (miWait (s.miAt p st (s.pc c st)))).filter waitValid
  s.sstate c st == stWait && ws.any (fun w => waitIndex w == m) && ws.all fun w => !waitClear w && markerOn s c (waitIndex w)

/-- A granted SET of marker m satisfies every plain wait that is pending on core c, whatever consumes the marker before
its stream issues (R324). -/
def grantWaits (s : State) (c m : Nat) : State :=
  match s.ownerOf c with
  | none => s
  | some p => [Strm.F, .B, .U].foldl (fun s st =>
      if plainWaits s p c m st then s.setCore c ((s.core c).setStream st { (s.core c).stream st with granted := true }) else s) s

/-- SET of a core marker: wakes the core (R498); a set on SET is a double set (R323). -/
def State.setMarker (s : State) (c m : Nat) : State :=
  let s := s.wake c
  if markerOn s c m then
    ((s.finc F.MK_DOUBLE_SET_COUNT c 1).fset F.MK_STATUS_LAST_DOUBLE c m).mkEvt c 0 0
  else grantWaits (putMarker s c m true) c m

/-- Endpoint marker i (ID 0x1_0000 + i). -/
def epOn (s : State) (i : Nat) : Bool := bitOf (s.rd .MK_EP_STATE (i / 32)).toNat (i % 32)
def putEp (s : State) (i : Nat) (v : Bool) : State :=
  s.wr .MK_EP_STATE (i / 32) (BitVec.ofNat 32 (putBits (s.rd .MK_EP_STATE (i / 32)).toNat (i % 32) 1 (b2n v)))
def State.setEp (s : State) (i : Nat) : State :=
  if epOn s i then s.finc F.MK_EP_DOUBLE_SET_COUNT 0 1 else putEp s i true
/-- A queue's own set, suppressed when the marker is SET (R357). -/
def State.setEpQuiet (s : State) (i : Nat) : State := if epOn s i then s else putEp s i true

/-- A device marker ID set on this device, through the live map for core markers (R320, R334). -/
def State.setId (s : State) (id : Nat) : State :=
  if id < 0x10000 then
    match s.liveOf (id / 64) with
    | some c => s.setMarker c (id % 64)
    | none => (s.finc F.MK_REMOTE_COUNTS_UNMAPPED 0 1).raise 1490
  else s.setEp (id - 0x10000)

end Sys2Proof.Machine
end

