-- ==== Sys2Proof/Machine/Send.lean ====
section
/-! DEFINITION. Sending packets: identities, routes, virtual lanes with their credits, framing into flits with the retry
buffer, responses, and remote marker sets under fence tags (R330 to R334, R370, R377 to R386). -/
namespace Sys2Proof.Machine
open Sys2Proof

/-! Port states (R374) and roles. -/
def lsOff : Nat := 0
def lsTraining : Nat := 1
def lsUp : Nat := 2
def lsRetraining : Nat := 3
def lsStopping : Nat := 4
def lsStopped : Nat := 5
def lsFailed : Nat := 6
def State.lstate (s : State) (p : Nat) : Nat := s.fget F.LNK_STATUS_STATE p
def roleHost : Nat := 1
def rolePeer : Nat := 2
def roleCascade : Nat := 3

/-- This device's ID, whether it is valid, and the ID of its group's master (R388). -/
def State.ownId (s : State) : Nat := s.fget F.LNK_FABRIC_DEVICE_ID 0
def State.idValid (s : State) : Bool := s.fbit F.LNK_FABRIC_ID_VALID 0
def State.isMaster (s : State) : Bool := s.fbit F.LNK_FABRIC_MASTER 0
def State.masterId (s : State) : Nat := s.fget F.LNK_GROUP_GROUP 0 * 32

/-- Packet types and their virtual lanes (R379); 4 for an undefined type. -/
def vlOf (t : Nat) : Nat :=
  match t with
  | 0x01 | 0x10 | 0x18 => 0
  | 0x02 | 0x03 | 0x04 => 1
  | 0x05 | 0x08 | 0x09 | 0x0A | 0x11 | 0x19 | 0x1A => 2
  | 0x20 | 0x21 | 0x22 | 0x23 | 0x24 => 3
  | _ => 4

/-- A packet of this device. -/
def mkPacket (s : State) (t dst tag w1 : Nat) (data : List Byte) : Packet where
  typ := BitVec.ofNat 8 t
  vl := BitVec.ofNat 2 (vlOf t)
  fenced := false
  host := false
  hctx := 0
  rsp := false
  dst := BitVec.ofNat 12 dst
  src := BitVec.ofNat 12 s.ownId
  len := BitVec.ofNat 7 (data.length / 64)
  rsv47 := false
  tag := BitVec.ofNat 12 tag
  hops := 0
  w1 := BitVec.ofNat 64 w1
  data := data

/-- The packet's bytes (R379). -/
def packetBytes (p : Packet) : List Byte :=
  leBytes 8 (p.typ.toNat + p.vl.toNat * 2 ^ 8 + b2n p.fenced * 2 ^ 10 + b2n p.host * 2 ^ 11 + p.hctx.toNat * 2 ^ 12 +
    b2n p.rsp * 2 ^ 15 + p.dst.toNat * 2 ^ 16 + p.src.toNat * 2 ^ 28 + p.len.toNat * 2 ^ 40 + b2n p.rsv47 * 2 ^ 47 +
    p.tag.toNat * 2 ^ 48 + p.hops.toNat * 2 ^ 60) ++ leBytes 8 p.w1.toNat ++ p.data

/-- Flits a packet takes when it starts a flit of its own (log entry 15). -/
def flitsOf (p : Packet) : Nat := cdiv (16 + p.data.length) 304

/-- Receive buffers by virtual lane, in flits (R377). -/
def vlBuffer (v : Nat) : Nat := match v with | 0 => 512 | 1 => 1024 | 2 => 128 | _ => 32

def assocGet (l : List (Nat × Nat)) (k : Nat) : Nat := ((l.find? (·.1 == k)).map (·.2)).getD 0
def assocPut (l : List (Nat × Nat)) (k v : Nat) : List (Nat × Nat) := l.filter (fun e => e.1 != k) ++ [(k, v)]

/-- Packet space chunks of a packet's flits. -/
def flitChunks (p : Packet) : List (List Byte) :=
  (List.range (flitsOf p)).map fun i => sliceB (packetBytes p) (304 * i) 304

/-- The lane return that a flit's header carries, in its 12 bits: none of the ordered lane while the port holds 64 sets or
1,024 open tags (R332, R368). -/
def laneReturn (full : Bool) (owed : List (Nat × Nat)) : Option (Nat × Nat) :=
  (owed.find? fun e => e.2 != 0 && !(full && e.1 == 0)).map fun e => (e.1, min 4095 e.2)

/-- FLIT_HDR of the next flit (R368): its SEQ, ACK of the last flit received in order, NAK, one lane's return. -/
def flitHead (full : Bool) (x : Port) : Nat :=
  let r := (laneReturn full x.owed).getD (0, 0)
  x.txSeq + (x.rxSeq + 4095) % 4096 * 2 ^ 12 + b2n x.nakOwed * 2 ^ 24 + r.1 * 2 ^ 25 + r.2 * 2 ^ 27

/-- Send one flit: it enters the retry buffer and goes out on the line (R370). -/
def sendFlit (full : Bool) (mark : Nat) (x : Port) (space : List Byte) : Port :=
  let h := flitHead full x
  let owed := match laneReturn full x.owed with
    | some r => assocPut x.owed r.1 (assocGet x.owed r.1 - r.2)
    | none => x.owed
  { x with retry := x.retry ++ [(h, mark, space)], line := x.line ++ [(h, space)], txSeq := (x.txSeq + 1) % 4096
           nakOwed := false, owed := owed }

/-- An earlier packet of the ordered lane between the same source and destination waits before packet i (R377, R378). -/
def behind (l : List Packet) (i : Nat) (q : Packet) : Bool :=
  q.vl == 0 && (l.take i).any fun y =>
    y.vl == 0 && y.src == q.src && y.dst == q.dst && y.host == q.host && y.hctx == q.hctx

/-- The first packet that may leave: its lane has credits, the retry buffer has room, and no earlier ordered packet of its
source and destination waits. A lane without credits does not block another (R377). -/
def nextOut (x : Port) : Option Nat :=
  (List.range x.egress.length).find? fun i =>
    match x.egress[i]? with
    | some q => decide (assocGet x.credits q.vl.toNat + flitsOf q ≤ vlBuffer q.vl.toNat) &&
        decide (x.retry.length + flitsOf q ≤ 2048) && !behind x.egress i q
    | none => false

/-- Move queued packets into flits, then send filler for a NAK or returns still owed (log entry 147). `fuel` bounds the
packets and fillers. -/
def pumpPort (full : Bool) : Nat → Port → Port
  | 0, x => x
  | n + 1, x =>
    match (nextOut x).bind fun i => (x.egress[i]?).map fun q => (i, q) with
    | some (i, q) =>
      let mark := if q.vl = 0 then 1 + q.dst.toNat else 0
      let y := (flitChunks q).foldl (sendFlit full mark) { x with egress := x.egress.eraseIdx i }
      pumpPort full n { y with credits := assocPut y.credits q.vl.toNat (assocGet y.credits q.vl.toNat + flitsOf q) }
    | none =>
      if (x.nakOwed || (laneReturn full x.owed).isSome) && decide (x.retry.length < 2048) then
        pumpPort full n (sendFlit full 0 x [])
      else x

/-- The 320 bytes of a flit (R368): header, packet space filled with type 0x00, CRC. -/
def flitBytes (f : Nat × List Byte) : List Byte :=
  let b := leBytes 8 f.1 ++ sliceB f.2 0 304
  b ++ leBytes 8 (crc64 b).toNat

/-- A port holds its limit of sets or open tags (R332). -/
def setsFull (s : State) (p : Nat) : Bool :=
  decide (64 ≤ s.heldSets.countP fun h => h.1 == p) || decide (1024 ≤ s.openTags.countP fun t => t.port == p && !t.closed)

/-! Fence tags of this device (R330, R331). -/

/-- Target devices of a macro-instruction's REMOTE set fields, each once. -/
def remoteDevs (m : List Byte) : List Nat :=
  (List.range 4).foldl (fun l k => if setTarget (miSet m k) = 3 then addTo l (setDevice (miSet m k)) else l) []

/-- Free fence tags, lowest first. -/
def freeTags (s : State) (n : Nat) : List Nat :=
  ((List.range (s.fenceUsed.length + n)).filter fun t => t < 4096 && !s.fenceUsed.any fun u => u.1 == t).take n

/-- Streams in SLOT_WAIT, by their copy of the stream registers. -/
def slotWaiters (s : State) : List Nat :=
  (s.listed .NDL_STREAM_STATUS).filter fun i => s.fget F.NDL_STREAM_STATUS_STATE i == stSlot

def strmAt (i : Nat) : Strm := if i % 3 = 0 then .F else if i % 3 = 1 then .B else .U

/-- Cores with a stream in SLOT_WAIT whose head takes fence tags. -/
def tagWaiters (s : State) : List Nat :=
  ((slotWaiters s).filter fun i =>
    match s.ownerOf (i / 3) with
    | some p => remoteDevs (s.miAt p (strmAt i) (s.pc (i / 3) (strmAt i))) != []
    | none => false).map (· / 3)

/-- Fence tags return to the pool, and cores that wait for one wake (R331, R498). -/
def State.returnTags (s : State) (ts : List Nat) : State :=
  if ts.isEmpty then s
  else
    let s := { s with fenceUsed := s.fenceUsed.filter fun u => !ts.contains u.1 }
    (tagWaiters s).foldl State.wake s

/-- Tags of this device's sets among packets. -/
def ownTags (s : State) (l : List Packet) : List Nat :=
  (l.filter fun q => q.typ == 0x18 && q.fenced && !q.host && q.src.toNat == s.ownId).map (·.tag.toNat)

/-- Send what a port may send while it is UP or STOPPING (R374, R375); the tags of the sets that left return (R331). -/
def State.pump (s : State) (p : Nat) : State :=
  let x := s.port p
  if !(s.lstate p == lsUp || s.lstate p == lsStopping) then s
  else
    let y := pumpPort (setsFull s p) (x.egress.length + 6) { x with line := [] }
    let y := if y.line.isEmpty then { y with line := x.line } else y
    (s.setPort p y).returnTags ((ownTags s x.egress).filter fun t => !(ownTags s y.egress).contains t)

/-- Queue a packet on a port. -/
def State.enqueue (s : State) (p : Nat) (q : Packet) : State :=
  let x := s.port p
  (s.setPort p { x with egress := x.egress ++ [q] }).pump p

/-- A port that takes packets: UP, or RETRAINING where they wait (R376, R384; log entry 16). -/
def portTakes (s : State) (p : Nat) : Bool := s.lstate p == lsUp || s.lstate p == lsRetraining

/-- An entry that nothing wrote: a member sends packets for other groups toward its master (R384, R385). -/
def routeDefault (s : State) (dst : Nat) : Nat × Bool :=
  if !s.isMaster && s.idValid && dst / 32 != s.ownId / 32 then
    match s.uplink with | some p => (p, true) | none => (0, false)
  else (0, false)

/-- Port and valid bit of a device ID's entry (R391), and its port when it routes. -/
def State.routeWordOf (s : State) (dst : Nat) : Nat × Bool := spGet (routeDefault s) s.routes dst
def State.routeEntry (s : State) (dst : Nat) : Option Nat :=
  let e := s.routeWordOf dst
  if e.2 then some e.1 else none

/-- Egress port of a device ID (R384). -/
def State.routeTo (s : State) (dst : Nat) : Option Nat :=
  match s.routeEntry dst with
  | some p => if portTakes s p then some p else none
  | none => none

/-- The HOST port of a context on the master (R386). -/
def State.hostPort (s : State) (ctx : Nat) : Option Nat :=
  (List.range 16).find? fun p =>
    s.fget F.LNK_STATUS_ROLE p == roleHost && s.fget F.LNK_CONFIG_HCTX p == ctx && portTakes s p

/-- Where a packet leaves: a host-bound packet at its master leaves on the HOST port of its context (R386). -/
def State.egressOf (s : State) (q : Packet) : Option Nat :=
  if q.host && q.dst.toNat == s.ownId && s.isMaster then s.hostPort q.hctx.toNat else s.routeTo q.dst.toNat

/-- The port whose counters a packet without a route uses: that of its entry, else the given one (log entry 16). -/
def State.countPort (s : State) (q : Packet) (d : Nat) : Nat := (s.routeEntry q.dst.toNat).getD d

/-- Send a packet of this device; without a route it is discarded and counted (R384). -/
def State.sendPkt (s : State) (q : Packet) : State :=
  if s.routeChange.any (fun h => h.1 == q.dst.toNat) && q.vl == 0 then { s with routeHold := s.routeHold ++ [q] }
  else
    match s.egressOf q with
    | some p => s.enqueue p q
    | none => s.finc F.LNK_PKT_COUNTS_NO_ROUTE (s.countPort q 0) 1

/-- The response to a request (R380): same TAG, back to its source, host context kept. -/
def respond (s : State) (q : Packet) (t w1 : Nat) (data : List Byte) : State :=
  s.sendPkt { mkPacket s t q.src.toNat q.tag.toNat w1 data with host := q.host, hctx := q.hctx }

/-- Status codes (R380). -/
def rsOk : Nat := 0
def rsAccess : Nat := 1
def rsUncorr : Nat := 2
def rsNoRoute : Nat := 3
def rsPage : Nat := 4
def rsTimeout : Nat := 5
def rsHop : Nat := 6

/-- Tags whose set still waits to be sent. -/
def tagQueued (s : State) (t : Nat) : Bool :=
  (ownTags s s.routeHold).contains t || (List.range 16).any fun p => (ownTags s (s.port p).egress).contains t

/-- Send the remote set of one field under its tag and write count; without a route it is discarded (R334). -/
def State.remoteSet (s : State) (f : Flight) (fld : Nat) : State :=
  let dev := setDevice fld
  let t := (f.tags.find? (·.1 == dev)).getD (dev, 0, 0)
  if dev = s.ownId then s.setId (setIdOf fld)
  else if (s.routeTo dev).isNone then (s.finc F.MK_REMOTE_COUNTS_NO_ROUTE 0 1).raise 1490
  else s.sendPkt { mkPacket s 0x18 dev t.2.1 (setIdOf fld + t.2.2 * 2 ^ 32) [] with fenced := true }

end Sys2Proof.Machine
end

