-- ==== Sys2Proof/Machine/Streams.lean ====
section
/-! DEFINITION. Streams and macro-instructions in flight: entry, waits, issue with its checks, halts, completion, and what a
panel abandons (R179 to R214, R325, R330, R331). -/
namespace Sys2Proof.Machine
open Sys2Proof

/-! Waits. -/

/-- Wait fields not satisfied, as a mask (R213). -/
def waitMask (s : State) (c : Nat) (m : List Byte) : Nat :=
  maskOf ((List.range 4).filter fun k => waitValid (miWait m k) && !markerOn s c (waitIndex (miWait m k)))

/-- The same for a stream's head; none once a SET has satisfied its plain waits (R324). -/
def openWaits (s : State) (c : Nat) (st : Strm) (m : List Byte) : Nat :=
  if ((s.core c).stream st).granted then 0 else waitMask s c m

/-- Wait field that carries CLEAR consumes its marker (R325). -/
def consumeWaits (s : State) (c : Nat) (m : List Byte) : State :=
  (List.range 4).foldl (fun s k =>
    if waitValid (miWait m k) && waitClear (miWait m k) then s.clearMarker c (waitIndex (miWait m k)) else s) s

/-- The head of a stream that goes on leaves no satisfied wait behind. -/
def State.ungrant (s : State) (c : Nat) (st : Strm) : State :=
  s.setCore c ((s.core c).setStream st { (s.core c).stream st with granted := false })

/-- The stream waits at its next macro-instruction; in a mode 0 stop it stops (R56). -/
def State.enterWait (s : State) (p c : Nat) (st : Strm) : State :=
  if s.pstate p == psStopping && !(s.panel p).mode1 then s.setSstate c st stIdle else s.setSstate c st stWait

def State.setPc (s : State) (c : Nat) (st : Strm) (ix : Nat) : State := s.fset F.NDL_STREAM_PC_INDEX (strmIx c st) ix

/-- The walk of a macro-instruction without END has ended on this core: go to the next one. -/
def State.advancePc (s : State) (p c : Nat) (st : Strm) : State :=
  (s.setPc c st (s.pc c st + 1)).enterWait p c st

/-- The stream has completed its END macro-instruction: back to the entry point (R179, R56). A training stream waits
there for the vote. -/
def State.endReached (s : State) (p c : Nat) (st : Strm) : State :=
  let s := s.setPc c st (s.entryIx p st)
  if s.pstate p == psStopping && (!(s.panel p).mode1 || s.isInference p) then s.setSstate c st stIdle
  else if s.isInference p then s.setSstate c st stWait
  else s.setSstate c st stEntry

/-! Flights. -/

def State.flight (s : State) (id : Nat) : Option Flight := s.flights.find? (·.id == id)
/-- A number that no flight has: the next one. -/
def State.freshId (s : State) : Nat := s.flights.foldl (fun n f => max n (f.id + 1)) s.nextFlight
def State.updFlight (s : State) (id : Nat) (f : Flight → Flight) : State :=
  { s with flights := updWhere (·.id == id) f s.flights }

/-- Cores that take part in a macro-instruction (R181, R211). -/
def participants (s : State) (f : Flight) : List Nat :=
  match f.core with | some c => [c] | none => (s.coresOf f.panel).filter fun c => !s.excluded c

/-- Cores of a panel whose streams wait for a slot or for an earlier macro-instruction wake (R498). -/
def State.wakeSlots (s : State) (p : Nat) : State :=
  (((slotWaiters s).map (· / 3)).filter fun c => s.ownerOf c == some p).foldl State.wake s

/-- A completed macro-instruction leaves when every non-excluded core has reached its end (R206), and frees its slot. -/
def State.sweep (s : State) (id : Nat) : State :=
  match s.flights.find? fun f => f.id == id && f.done && (participants s f).all fun c => f.ended.contains c with
  | some f => { s with flights := s.flights.filter (·.id != f.id) }.wakeSlots f.panel
  | none => s

/-- The channels a macro-instruction holds are free again (R237). -/
def State.freeChans (s : State) (f : Flight) : State :=
  { s with chans := s.chans.map fun (e : Nat × Chan) => if f.chans.contains e.1 then (e.1, { e.2 with held := false }) else e }

/-- The SELF sets of a macro-instruction on some cores. -/
def State.selfSets (s : State) (m : List Byte) (cs : List Nat) : State :=
  (List.range 4).foldl (fun s k =>
    if setTarget (miSet m k) = 1 then cs.foldl (fun s c => s.setMarker c (setIdOf (miSet m k) % 64)) s else s) s

/-- Completion (R210, R211): sets, the SELF ones on the given cores, tags back to the pool, END streams to their entry. -/
def State.completeOn (s : State) (id : Nat) (cs : List Nat) : State :=
  match s.flight id with
  | none => s
  | some f =>
    let s := (s.updFlight id fun f => { f with done := true }).freeChans f
    let s := s.selfSets f.mi cs
    let s := (List.range 4).foldl (fun s k =>
      let fld := miSet f.mi k
      if setTarget fld = 2 then s.setId (setIdOf fld)
      else if setTarget fld = 3 then s.remoteSet f fld
      else s) s
    let s := (s.returnTags ((f.tags.map (·.2.1)).filter fun t => !tagQueued s t)).wakeSlots f.panel
    let s := if miEnd f.mi then f.ended.foldl (fun s c => s.endReached f.panel c f.strm) s else s
    s.sweep id

/-- Completion with the SELF sets on every participating core. -/
def State.complete (s : State) (id : Nat) : State :=
  s.completeOn id (match s.flight id with | some f => participants s f | none => [])

/-- The walk of f has ended on core c (R203). -/
def State.walkEnd (s : State) (id c : Nat) : State :=
  match s.flight id with
  | none => s
  | some f =>
    let s := s.updFlight id fun f => { f with ended := addTo f.ended c }
    let s := s.setCore c ((s.core c).setStream f.strm { (s.core c).stream f.strm with flight := none })
    let s := if miEnd f.mi then (if f.done then s.endReached f.panel c f.strm else s) else s.advancePc f.panel c f.strm
    s.sweep id

/-- Complete the flight and end the walk on every core that issued it. -/
def State.finish (s : State) (id : Nat) : State :=
  match s.flight id with
  | none => s
  | some f => ((f.issued.filter fun c => !f.ended.contains c).foldl (fun s c => s.walkEnd id c) s).complete id

/-! Rejection (R196). -/

def State.halt (s : State) (c : Nat) (st : Strm) (cause : Nat) : State :=
  ((s.fset F.NDL_STREAM_STATUS_CAUSE (strmIx c st) cause).setSstate c st stHalted).haltEvt c st

/-! Issue. -/

/-- Streams that may issue an opcode (R184); none when reserved. -/
def opStreams (op : Nat) : List Nat :=
  match op with
  | 0x01 | 0x08 | 0x28 | 0x29 | 0x2A | 0x38 => [0]
  | 0x02 | 0x10 => [0, 1]
  | 0x03 | 0x04 | 0x09 => [1]
  | 0x11 | 0x18 | 0x19 | 0x30 | 0x31 => [0, 1, 2]
  | 0x20 | 0x21 => [1, 2]
  | 0x22 => [2]
  | 0x39 | 0x3A | 0x3B => [0, 2]
  | _ => []

/-- Reserved fields and ranges of a descriptor (R190, R304, R499). -/
def descOk (d : Desc) : Bool :=
  let wideOk := !dWide d || (dKind d == kTensor && ((3 ≤ dFormat d && dFormat d ≤ 5) || (7 ≤ dFormat d && dFormat d ≤ 0x12)))
  dKind d ≤ 4 && dTwill d ≤ 4 && 1 ≤ dRank d && dRank d ≤ 6 && bits (leAt d 3 1) 4 4 == 0 && wideOk &&
  ((List.range 6).all fun k => if k < dRank d then 1 ≤ dDim d k && dDim d k ≤ 2 ^ 31 else dDim d k == 1) &&
  bits (leAt d 0x44 4) 2 30 == 0 && hRsvOk (dDerivSrc d) && hRsvOk (dLscale d) && hRsvOk (dParam d) && hRsvOk (dPartner d) &&
  bits (dHints d) 20 44 == 0 && bits (dHints d) 8 2 != 3 &&
  (dKind d == kWeight || dKind d == kParam || dRule d == 0) && (List.range 23).all fun k => leAt d (0x69 + k) 1 == 0

/-- A format or scales policy that no macro-instruction may name (R74, R79, R161, R162). -/
def formatBad (d : Desc) : Bool :=
  match fmtGeo (dFormat d) (dBlock d) with
  | none => true
  | some g =>
    let learned := decide (0x12 ≤ dFormat d)
    (match dScales d with
      | 0 => g.blk == 0 && learned
      | 1 => g.blk == 0
      | 2 => !learned
      | _ => true) || (learned && dTwill d != 0)

/-- Handle fields of the fixed part: DST, SRC0, SRC1, SRC2. -/
def miHandles (m : List Byte) : List Nat := [miDst m, miSrc m 0, miSrc m 1, miSrc m 2]

/-- What one operation adds to the common issue: which macro-instructions are its own,
whether every core runs it by itself whatever SCOPE says (R337), its own BAD_FIELD checks (R197
check 3), required handles by position, other handle fields of its OPX, handle fields required of its descriptors, its
checks 0x06 to 0x0A, its planned run-time entries, its
checks after 0x0C, its plan, and what it waits for at issue. -/
structure OpSpec where
  mine : List Byte → Bool
  own : Bool
  layer : Bool
  fieldOk : State → Nat → List Byte → Bool
  req : List Nat
  more : List Byte → List Nat
  needs : State → Nat → List Byte → List Nat
  check : State → Nat → List Byte → Nat
  planned : State → List Byte → List Nat
  late : State → Nat → Nat → List Byte → List Nat → Nat
  plan : State → Nat → List Byte → Plan
  ready : State → Nat → Nat → List Byte → Bool

def onePlan : Plan := ⟨1, 1, 1, 1, 1, 1, 0, 0, false, false⟩

/-- An operation without operands of its own. -/
def OpSpec.base (op : Nat) : OpSpec where
  mine m := miOpcode m == op
  own := false
  layer := false
  fieldOk _ _ _ := true
  req := []
  more _ := []
  needs _ _ _ := []
  check _ _ _ := 0
  planned _ _ := []
  late _ _ _ _ _ := 0
  plan _ _ _ := onePlan
  ready _ _ _ _ := true

/-- Run-time entry k of the selected shape register (R193, R199); the planned size when it takes the plan. -/
def shpEntry (s : State) (c : Nat) (st : Strm) (m : List Byte) (k planned : Nat) : Nat :=
  if miShape m = 0 then planned
  else
    let w := spGet (fun _ => (0xFFFFFFFF : Word)) (s.core c).shp (strmNo st * 96 + (miShape m - 1) * 6 + k)
    if w = 0xFFFFFFFF then planned else w.toNat

def shapeOf (s : State) (c : Nat) (st : Strm) (m : List Byte) (pl : List Nat) : List Nat :=
  (List.range pl.length).map fun k => shpEntry s c st m k (pl.getD k 0)

def layersOf (s : State) (p : Nat) : List Layer := (((s.secsOf p).bind (·.policy)).map (·.layers)).getD []
def layerAt (s : State) (p : Nat) (m : List Byte) : Option Layer := (layersOf s p)[miLayer m]?

/-- The first failing check, 0 when none (R197, R198). -/
def rejectCause (o : OpSpec) (s : State) (p c : Nat) (st : Strm) (m : List Byte) : Nat :=
  let op := miOpcode m
  let hs := (miHandles m ++ o.more m).filter hPresent
  if opStreams op == [] then 0x01
  else if !(opStreams op).contains (strmNo st) || miStream m != strmNo st then 0x02
  else if !miFixedOk m || !o.fieldOk s p m || (o.layer && (layerAt s p m).isNone) ||
      hs.any (fun h => match s.desc (hHandle h) with | some d => !descOk d | none => false) then 0x03
  else if hs.any (fun h => (s.desc (hHandle h)).isNone) || (hPresent (miDst m) && handlePanel (hHandle (miDst m)) != p) ||
      o.req.any (fun k => !hPresent ((miHandles m).getD k 0)) ||
      (o.needs s p m).any (fun h => !hPresent h || (s.desc (hHandle h)).isNone) then 0x04
  else if !miSetsOk m then 0x05
  else
    let e := o.check s p m
    let named := fun (f : Desc → Bool) => hs.any fun h => match s.desc (hHandle h) with | some d => f d | none => false
    if e = 0x06 then e
    else if named formatBad then 0x07
    else if e ≠ 0 then e
    else if hs.any (fun h => match s.desc (hHandle h) with
        | some d => dScales d == 1 && !s.trackers.any (·.handle == hHandle h)
        | none => false) then 0x0B
    else
      let pl := o.planned s m
      let sh := shapeOf s c st m pl
      if (List.range pl.length).any (fun k => decide (pl.getD k 0 < sh.getD k 0)) then 0x0C
      else o.late s p c m sh

/-- The slot of sequence number q is free (R206). -/
def slotFree (s : State) (p : Nat) (st : Strm) (q : Nat) : Bool :=
  !s.flights.any fun f => f.panel == p && f.strm == st && f.core.isNone && (f.seq + 16) % 2 ^ 32 == q % 2 ^ 32

/-- A stream may issue now: its panel runs, the core is not excluded, and it waits at its head. -/
def mayIssue (s : State) (p c : Nat) (st : Strm) : Bool :=
  (s.pstate p == psRunning || (s.pstate p == psStopping && (s.panel p).mode1)) && !s.excluded c &&
  !(s.panel p).aborting && (s.sstate c st == stWait || s.sstate c st == stSlot) && ((s.core c).stream st).flight.isNone

/-- Current banks of all panels (R255). -/
def bankMask (s : State) : Nat := maskOf ((s.listed .HUB_STEP_STATUS).filter fun p => s.fbit F.HUB_STEP_STATUS_BANK p)

/-- Create the flight of a macro-instruction, or join the one another core of the panel issued (R200, R205). Answers the
state, the flight's id, and whether this core is the first. -/
def enter (o : OpSpec) (s : State) (p c : Nat) (st : Strm) (m : List Byte) : State × Nat × Bool :=
  let q := (s.fget F.NDL_STREAM_SEQ_SEQ (strmIx c st) + 1) % 2 ^ 32
  let scope := miScope m || o.own
  let s := if scope then s else s.fset F.NDL_STREAM_SEQ_SEQ (strmIx c st) q
  let s := (s.fset F.NDL_STREAM_STATUS_SCOPE (strmIx c st) (b2n (miScope m))).setSstate c st stWalk
  let old := s.flights.find? fun f => f.panel == p && f.strm == st && f.core.isNone && f.seq == q && !scope
  let link := fun (s : State) (id : Nat) =>
    s.setCore c ((s.core c).setStream st { (s.core c).stream st with flight := some id })
  match old with
  | some f => (link (s.updFlight f.id fun f => { f with issued := addTo f.issued c }) f.id, f.id, false)
  | none =>
    let id := s.freshId
    let devs := remoteDevs m
    let ts := freeTags s devs.length
    let f : Flight :=
      { id := id, panel := p, strm := st, core := if scope then some c else none, seq := q, pc := s.pc c st, mi := m
        plan := o.plan s (if scope then 1 else (s.logicals p).length) m
        shape := shapeOf s c st m (o.planned s m), next := 0, claims := [], issued := [c], ended := [], parts := []
        results := [], tags := devs.zip (ts.zip (devs.map fun _ => 0)), step := s.fget F.HUB_STEP_NUM_S p
        micro := 0, bank := bankMask s, chans := [], waiting := false, done := false }
    (link { s with flights := s.flights ++ [f], nextFlight := id + 1, fenceUsed := s.fenceUsed ++ ts.map (·, p) } id, id, true)

/-- Issue of the macro-instruction at the head of a stream (R180). The command of another operation does nothing; an
unsatisfied wait leaves it in WAIT; a slot, tag or other wait in SLOT_WAIT; a failed check halts the stream; otherwise
`body` gets the flight. A reserved opcode is nobody's and is rejected by any command. -/
def issue (o : OpSpec) (s : State) (c : Nat) (st : Strm) (body : State → Nat → Flight → Bool → State) : State :=
  match s.ownerOf c with
  | none => s
  | some p =>
    if !mayIssue s p c st then s
    else
      let m := s.miAt p st (s.pc c st)
      if !o.mine m && opStreams (miOpcode m) != [] then s
      else
        let s := s.wake c
        if openWaits s c st m ≠ 0 then s.setSstate c st stWait
        else
          let q := s.fget F.NDL_STREAM_SEQ_SEQ (strmIx c st) + 1
          let cause := rejectCause o s p c st m
          if (!(miScope m || o.own) && !slotFree s p st q) ||
              (cause = 0 && (!o.ready s p c m || (freeTags s (remoteDevs m).length).length < (remoteDevs m).length)) then
            s.setSstate c st stSlot
          else
            let s := (consumeWaits s c m).ungrant c st
            if cause ≠ 0 then s.halt c st cause
            else
              let (s, id, first) := enter o s p c st m
              match s.flight id with
              | some f => body s id f first
              | none => s

/-! What a panel abandons (R58, R442). -/

/-- Drop everything the panel has in flight: macro-instructions, their units, slices, records, observations, updates,
pushes not landed, arrivals. Fence tags whose set does not wait to be sent return to the pool (log entry 17). -/
def State.dropWork (s : State) (p : Nat) : State :=
  let ids := (s.flights.filter (·.panel == p)).map (·.id)
  let tags := (s.flights.filter (·.panel == p)).flatMap fun f => f.tags.map (·.2.1)
  let mine := fun (x : Push) => match x.src with | .core f _ => ids.contains f | _ => false
  let s := (s.flights.filter (·.panel == p)).foldl State.freeChans s
  let s := { s with
    flights := s.flights.filter (·.panel != p)
    slices := s.slices.filter (·.panel != p)
    stalledSlices := s.stalledSlices.filter (·.panel != p)
    sideRecs := s.sideRecs.filter (·.panel != p)
    obs := s.obs.filter (·.panel != p)
    updates := s.updates.filter (·.panel != p)
    arrivals := s.arrivals.filter fun a => !ids.contains a.flight
    queues := s.queues.map fun (e : Nat × QCtx) => (e.1, { e.2 with acc := e.2.acc.filter (!mine ·), stalled := e.2.stalled.filter (!mine ·) }) }
  let s := (s.coresOf p).foldl (fun s c => s.setCore c { s.core c with f := noStream, b := noStream, u := noStream }) s
  s.returnTags (tags.filter fun t => !tagQueued s t)

/-- Handlers of cores end at once: their pushes not landed are dropped (R58, R407). -/
def State.dropHandlers (s : State) (cs : List Nat) : State :=
  let mine := fun (x : Push) => match x.src with | .handler c => cs.contains c | _ => false
  let s := { s with queues := s.queues.map fun (e : Nat × QCtx) => (e.1, { e.2 with acc := e.2.acc.filter (!mine ·), stalled := e.2.stalled.filter (!mine ·) }) }
  let s := s.returnTags (cs.flatMap fun c => (s.core c).hTags)
  cs.foldl (fun s c => (if (s.core c).hTags.isEmpty then s else s.setCore c { s.core c with hTags := [] }).wr .VEC_STATUS c 0) s

/-- Streams of a panel, every core. -/
def State.eachStream (s : State) (p : Nat) (f : State → Nat → Strm → State) : State :=
  (s.coresOf p).foldl (fun s c => [Strm.F, .B, .U].foldl (fun s st => f s c st) s) s

end Sys2Proof.Machine
end

