-- ==== Sys2Proof/Machine/Chain.lean ====
section
/-! DEFINITION. The chain: barrier scopes, arrivals, epochs and releases (R336 to R343), and the step votes that use it
(R281). -/
namespace Sys2Proof.Machine
open Sys2Proof

/-- Scope of a barrier ID of stream code, from the MARKERS section of its panel (R336). -/
def barScope (s : State) (id : Nat) : Option BarScope :=
  if 4032 ≤ id then none
  else
    match (s.secsOf (id / 63)).bind (·.markers) with
    | some m => (m.barriers.find? (·.1 == id % 63)).map (·.2)
    | none => none

/-- Device ID of the group master of a pair's group (R336, R388). -/
def rootOf (l : List (Nat × Nat)) : Nat := match l with | [] => 0 | x :: _ => x.1 / 32 * 32

/-- This device is the root of a barrier, or of a list of members. -/
def rootHere (s : State) (l : List (Nat × Nat)) : Bool := s.isMaster && rootOf l == s.ownId

def barRootHere (s : State) (id : Nat) : Bool :=
  match barScope s id with | some .panel => true | some (.group l) => rootHere s l | none => false

/-- Cores that a barrier of panel p counts: excluded cores are not counted (R341). -/
def barCores (s : State) (p : Nat) : List Nat := (s.coresOf p).filter fun c => !s.excluded c

def openEpoch (s : State) (id : Nat) : Epoch := (s.openEpochs.find? (·.id == id)).getD ⟨id, [], [], false, false, false⟩
def putEpoch (s : State) (e : Epoch) : State :=
  { s with openEpochs := s.openEpochs.filter (·.id != e.id) ++ [e] }

def epochOf (s : State) (id : Nat) : Nat := spGet (fun _ => 0) s.epochs id

/-- Close an epoch and send its release down: it carries the current epoch, which then advances (R339). -/
def releaseEpoch (s : State) (id : Nat) (fault : Bool) : State :=
  { s with
    openEpochs := s.openEpochs.filter (·.id != id)
    releases := s.releases ++ [(id, epochOf s id, fault)]
    epochs := spSet (fun _ => 0) s.epochs id ((epochOf s id + 1) % 2 ^ 32) }

/-- The ID that a member panel of a group barrier gives local index i (R336): the same index names the barrier at every
member (log entry 150). -/
def memberId (m : Nat × Nat) (i : Nat) : Nat := m.2 * 63 + i

/-- The ID under which the group node counts the barrier of local index i with a list: that of the first panel of this
device that lists it. -/
def nodeId (s : State) (i : Nat) (l : List (Nat × Nat)) : Nat :=
  (((List.range 64).find? fun p => barScope s (p * 63 + i) == some (.group l)).getD 0) * 63 + i

/-- Release one member of a group barrier: on its way down on this device, or a CHAIN_RELEASE packet. -/
def releaseMember (epoch i : Nat) (fault : Bool) (s : State) (m : Nat × Nat) : State :=
  let id := memberId m i
  if m.1 = s.ownId then
    { s with
      openEpochs := s.openEpochs.filter (·.id != id)
      releases := s.releases ++ [(id, epoch, fault)]
      epochs := spSet (fun _ => 0) s.epochs id ((epoch + 1) % 2 ^ 32) }
  else s.sendPkt (mkPacket s 0x1A m.1 0 (id + b2n fault * 2 ^ 12 + epoch * 2 ^ 32) [])

/-- The group node completes an epoch when every listed member has arrived: each gets the node's epoch (R339). -/
def checkNode (s : State) (id : Nat) (l : List (Nat × Nat)) : State :=
  let e := openEpoch s id
  if !l.all (fun m => e.members.any (·.1 == m)) then s
  else
    let epoch := epochOf s id
    let fault := e.fault || e.members.any (·.2)
    let s := { s with
      openEpochs := s.openEpochs.filter (·.id != id)
      epochs := spSet (fun _ => 0) s.epochs id ((epoch + 1) % 2 ^ 32) }
    l.foldl (releaseMember epoch (id % 63) fault) s

/-- A member's arrival is counted at the group node. -/
def countMember (s : State) (id : Nat) (l : List (Nat × Nat)) (m : Nat × Nat) (fault : Bool) : State :=
  let e := openEpoch s id
  checkNode (putEpoch s { e with members := e.members ++ [(m, fault)] }) id l

/-- Complete the panel's part of an epoch when every non-excluded core has arrived (R339, R341): the release of a PANEL
barrier, or one arrival at the group node, by packet when the root is another device. -/
def checkEpoch (s : State) (id : Nat) : State :=
  match s.openEpochs.find? (·.id == id) with
  | none => s
  | some e =>
    let p := id / 63
    let me := (s.ownId, p)
    let fault := e.again || e.cores.any (·.2)
    if e.cores.isEmpty || !(barCores s p).all (fun c => e.cores.any (·.1 == c)) then s
    else
      match barScope s id with
      | none => s
      | some .panel => releaseEpoch s id fault
      | some (.group l) =>
        if !l.contains me then s
        else if rootHere s l then
          let n := nodeId s (id % 63) l
          if (openEpoch s n).members.any (·.1 == me) then s else countMember s n l me fault
        else if e.members.isEmpty then
          (putEpoch s { e with members := [(me, fault)] }).sendPkt
            (mkPacket s 0x19 (rootOf l) 0 (id + b2n fault * 2 ^ 12 + p * 2 ^ 13) [])
        else s

/-- A second arrival in one epoch: discarded, counted, and the epoch's fault bit set (R339). -/
def doubleArrive (s : State) : State := (s.finc F.CH_COUNTS_DOUBLE_ARRIVE 0 1).chEvt 1
/-- An arrival that is not of the root's list (R339). -/
def strayArrive (s : State) : State := (s.finc F.CH_COUNTS_STRAY 0 1).chEvt 2

/-- A core's arrival reaches its row leaf. -/
def arriveCore (s : State) (c id : Nat) (fault : Bool) : State :=
  let p := id / 63
  if (barScope s id).isNone || !(s.coresOf p).contains c then s
  else
    let e := openEpoch s id
    if e.cores.any (·.1 == c) then doubleArrive (putEpoch s { e with again := true })
    else checkEpoch (putEpoch s { e with cores := e.cores ++ [(c, fault)] }) id

/-- The list of the group barrier of local index i that this device is the root of and that holds a member. -/
def listWith (s : State) (m : Nat × Nat) (i : Nat) : Option (List (Nat × Nat)) :=
  ((List.range 64).filterMap fun p =>
    match barScope s (p * 63 + i) with | some (.group l) => some l | _ => none).find? fun l => rootHere s l && l.contains m

/-- A member panel's arrival, under the member's own ID, reaches the group node. -/
def arriveMember (s : State) (m : Nat × Nat) (id : Nat) (fault : Bool) : State :=
  match listWith s m (id % 63) with
  | none => strayArrive s
  | some l =>
    if id ≠ memberId m (id % 63) then strayArrive s
    else
      let n := nodeId s (id % 63) l
      let e := openEpoch s n
      if e.members.any (·.1 == m) then doubleArrive (putEpoch s { e with fault := true })
      else countMember s n l m fault

/-- Every open epoch of a panel, looked at again after an exclusion (R341). -/
def recheckEpochs (s : State) (p : Nat) : State :=
  (s.openEpochs.filter (fun e => e.id < 4032 && e.id / 63 == p)).foldl (fun s e => checkEpoch s e.id) s

/-- Discard the open epochs of a stopped panel (R343): arrivals counted or on their way are lost with their FAULT bits, its
part at a group node of this device too, and each core whose arrival is discarded has none outstanding. The parts of the
other members stay; no packet withdraws a part from a root elsewhere (log entry 150). -/
def discardEpochs (s : State) (p : Nat) : State :=
  let own := fun id : Nat => decide (id < 4032) && id / 63 == p
  let part := fun (e : Epoch) => if own e.id then { e with cores := [], again := false } else e
  let kept := (s.openEpochs.map part).map fun e => { e with members := e.members.filter (·.1 != (s.ownId, p)) }
  let kept := kept.filter fun e => !e.cores.isEmpty || !e.members.isEmpty
  let s := { s with
    openEpochs := kept
    arrivals := s.arrivals.filter fun a => !own a.id }
  (s.coresOf p).foldl (fun s c =>
    let id := s.fget F.MK_CHAIN_ARRIVED_ID c
    if s.fbit F.MK_CHAIN_ARRIVED c && !s.releases.any (·.1 == id) then s.fset F.MK_CHAIN_ARRIVED c 0 else s) s

/-- The arrival of a BARRIER leaves its core: the core now has one outstanding (R337). -/
def sendArrival (s : State) (f : Flight) (c : Nat) : State :=
  let id := f.panel * 63 + miOpx f.mi 0 1
  let s := (s.fset F.MK_CHAIN_ARRIVED c 1).fset F.MK_CHAIN_ARRIVED_ID c id
  let s := s.updFlight f.id fun f => { f with waiting := false }
  { s with arrivals := s.arrivals ++ [⟨.core (Fin.ofNat 1056 c), id, bitOf (miOpx f.mi 1 1) 0, 0, f.id⟩] }

/-- A BARRIER of core c that waits for the outstanding arrival, if any, sends its own. -/
def nextArrival (s : State) (c : Nat) : State :=
  match s.flights.find? fun f => f.core == some c && f.waiting && miOpcode f.mi == 0x31 with
  | some f => sendArrival s f c
  | none => s

/-- A release reaches the cores of its panel (R338, R340). -/
def applyRelease (s : State) (id epoch : Nat) (fault : Bool) : State :=
  (barCores s (id / 63)).foldl (fun s c =>
    nextArrival (((((s.fset F.MK_CHAIN_LAST_ID c id).fset F.MK_CHAIN_FAULT c (b2n fault)).fset F.MK_CHAIN_ARRIVED c 0).fset
      F.MK_CHAIN_EPOCH_EPOCH c epoch).setMarker c 61) c) s

/-! Step votes (R281). -/

def voteSetOf (s : State) (p : Nat) : List (Nat × Nat) := ((s.entryOf p).map (·.voteSet)).getD []

/-- Step-vote barrier of panel p. -/
def voteId (p : Nat) : Nat := 4032 + p

/-- The vote set of a member, as a panel of this device lists it. -/
def voteSetWith (s : State) (m : Nat × Nat) : Option (List (Nat × Nat)) :=
  ((List.range 64).map (voteSetOf s)).find? fun l => l.contains m && rootHere s l

/-- Send an outcome to one member, under an epoch. -/
def tellMember (s : State) (o : VoteOutcome) (epoch : Nat) (m : Nat × Nat) : State :=
  if m.1 = s.ownId then { s with voteOut := s.voteOut ++ [(m.2, o)] }
  else s.sendPkt (mkPacket s 0x1A m.1 0 (voteId m.2 + b2n (o != .commit) * 2 ^ 12 + epoch * 2 ^ 32) [])

/-- Release a vote to some of its members: each carries the current epoch of its ID, and the epoch of every ID of the vote
set then advances once (R339). -/
def releaseVotes (s : State) (o : VoteOutcome) (set told : List (Nat × Nat)) : State :=
  let es := told.map fun m => (m, epochOf s (voteId m.2))
  let s := ((set.map fun m => voteId m.2).foldl addTo []).foldl (fun (s : State) id =>
    { s with epochs := spSet (fun _ => 0) s.epochs id ((epochOf s id + 1) % 2 ^ 32) }) s
  es.foldl (fun s x => tellMember s o x.2 x.1) s

/-- A record of class 0x0801 at the root. -/
def voteRecord (s : State) (l : List (Nat × Nat)) (step : Nat) : State :=
  s.errRec ⟨0x0801, 0, (l.find? (·.1 == s.ownId)).map (·.2), 0, 3, 0, step, 0⟩

/-- Decide when every member has arrived. -/
def decideVote (s : State) (v : Vote) : State :=
  if !v.members.all (fun m => v.arrived.any fun a => (a.1, a.2.1) == m) then
    { s with votes := s.votes.filter (·.key != v.key) ++ [v] }
  else
    let s := { s with votes := s.votes.filter (·.key != v.key) }
    let step := (v.arrived.head?.map (·.2.2.1)).getD 0
    let o : VoteOutcome :=
      if v.arrived.any (fun a => a.2.2.1 != step) then .pauseSkew
      else if v.arrived.any (fun a => a.2.2.2) then .repeatStep else .commit
    let s := if o = .pauseSkew then voteRecord s v.members step else s
    releaseVotes s o v.members v.members

/-- An arrival at the vote root: member, step, fault bit. -/
def arriveVote (s : State) (m : Nat × Nat) (step : Nat) (fault : Bool) : State :=
  match voteSetWith s m with
  | none => strayArrive s
  | some l =>
    let key := l.headD (0, 0)
    let v := (s.votes.find? (·.key == key)).getD ⟨key, l, [], none, false⟩
    let again := v.arrived.any fun a => (a.1, a.2.1) == m
    if v.timedOut && !again then
      tellMember { s with votes := s.votes.filter (·.key != key) ++ [{ v with arrived := v.arrived ++ [(m.1, m.2, step, fault)] }] }
        .pauseTimeout ((epochOf s (voteId m.2) + 2 ^ 32 - 1) % 2 ^ 32) m
    else if v.timedOut then decideVote s ⟨key, l, [(m.1, m.2, step, fault)], none, false⟩
    else if again then
      doubleArrive { s with votes := s.votes.filter (·.key != key) ++
        [{ v with arrived := updWhere (fun a => (a.1, a.2.1) == m) (fun a => (a.1, a.2.1, a.2.2.1, true)) v.arrived }] }
    else decideVote s { v with arrived := v.arrived ++ [(m.1, m.2, step, fault)] }

/-- The panel sends its arrival to the vote root (R279): on its way here, or by packet. -/
def State.sendVote (s : State) (p : Nat) (fault : Bool) : State :=
  let l := voteSetOf s p
  let s := s.setPanel p { s.panel p with owed := true }
  if rootHere s l then
    { s with arrivals := s.arrivals ++ [⟨.member (BitVec.ofNat 12 s.ownId).toFin (Fin.ofNat 64 p), voteId p, fault,
      s.fget F.HUB_STEP_NUM_S p, 0⟩] }
  else s.sendPkt (mkPacket s 0x19 (rootOf l) 0 (voteId p + b2n fault * 2 ^ 12 + p * 2 ^ 13) [])

end Sys2Proof.Machine
end

