-- ==== Sys2Proof/Machine/Recover.lean ====
section
/-! DEFINITION. Recovery paths: step faults and aborts, query aborts, tile replay, exclusion, and the entry of a panel
into STOPPED (R56 to R64, R435 to R448). -/
namespace Sys2Proof.Machine
open Sys2Proof

/-- Step number against which a fault of panel p is recorded now (R442, R443, R451); 0 without a training panel. -/
def State.faultStep (s : State) (p : Nat) : Nat :=
  if s.isTraining p then
    let v := s.vstate p
    (s.fget F.HUB_STEP_NUM_S p + b2n (v == vsVoting || v == vsCommitting || v == vsRepeating)) % 2 ^ 32
  else 0

def coreStep (s : State) (c : Nat) : Nat := match s.ownerOf c with | some p => s.faultStep p | none => 0

/-- State in which a stream of panel p starts at its entry point: one without code has no macro-instruction to issue and
stands at its entry boundary (R179; DESIGN CHOICE, log entry 65). -/
def startState (s : State) (p : Nat) (st : Strm) : Nat :=
  match s.streamsOf p with
  | some x => if (codeBytes x st).isEmpty then stEntry else stWait
  | none => stWait

/-- Streams of a panel go to the entry boundary, in a state given or, as WAIT, the one they start in. -/
def State.toEntry (s : State) (p : Nat) (state : Nat) : State :=
  s.eachStream p fun s c st =>
    if s.excluded c then s
    else (s.setPc c st (s.entryIx p st)).setSstate c st (if state == stWait then startState s p st else state)

/-- Abort of the step (R442). -/
def State.abortStep (s : State) (p : Nat) : State :=
  let s := ((s.finc F.FLT_COUNTS_ABORTS 0 1).dropWork p).toEntry p stEntry
  s.setPanel p { s.panel p with aborting := true }

/-- A step fault on a training panel (R442, R443). -/
def State.stepFault (s : State) (p : Nat) : State :=
  let s := s.finc F.FLT_COUNTS_STEP_FAULTS 0 1
  let x := s.panel p
  let v := s.vstate p
  if v == vsComputing then
    if x.fault then s else (s.setPanel p { x with fault := true }).abortStep p
  else if v == vsSettling then s.setPanel p { x with fault := true }
  else if v == vsVoting || v == vsCommitting || v == vsRepeating then
    s.setPanel p { x with nextFault := some ((s.fget F.HUB_STEP_NUM_S p + 1) % 2 ^ 32) }
  else s

/-- Abort of the query of an inference panel (R444): its streams start over at the entry point, or stop there. -/
def State.queryAbort (s : State) (p : Nat) : State :=
  if s.pstate p == psRunning || s.pstate p == psStopping then
    ((s.finc F.FLT_COUNTS_ABORTS 0 1).dropWork p).toEntry p (if s.pstate p == psStopping then stIdle else stWait)
  else s

/-- The path "step fault" for a panel of either kind. -/
def State.panelFault (s : State) (p : Nat) : State :=
  if s.isInference p then s.queryAbort p else if s.isTraining p then s.stepFault p else s

/-- Location word of a record on an inference panel: CONS of the query's queue (R444); else the given one. -/
def faultLoc (s : State) (p : Option Nat) (loc : Nat) : Nat :=
  match p with
  | some p => if s.isInference p then (s.rd .Q_CONS (s.panel p).lastQ).toNat else loc
  | none => loc

/-- A core fault whose path is step fault: record, then the path of the owning panel. -/
def State.coreStepFault (s : State) (code c : Nat) (st : Option Strm) (loc : Nat) : State :=
  let p := s.ownerOf c
  let s := s.coreRec code c st (faultLoc s p loc) (coreStep s c)
  match p with | some p => s.panelFault p | none => s

/-- A felt fault whose path is step fault. -/
def State.feltStepFault (s : State) (code n : Nat) (p : Option Nat) (loc : Nat) : State :=
  let s := s.errRec ⟨code, 3 + n, p, 0, 3, faultLoc s p loc, (p.map s.faultStep).getD 0, 0⟩
  match p with | some p => s.panelFault p | none => s

/-- A felt's checker reports for panel p (R431, R432): the leaf bit, the record and the step fault. -/
def State.feltChecked (s : State) (n p : Nat) : FeltCheck → State
  | .pass => s
  | .residue => (s.feltFlt n 3).feltStepFault 0x0204 n (some p) 0
  | .windowDed => (s.feltFlt n 0).feltStepFault 0x0203 n (some p) 0
  | .lateDed => (s.feltFlt n 1).feltStepFault 0x0203 n (some p) 0
  | .sramDed => (s.feltFlt n 2).feltStepFault 0x0203 n (some p) 0

/-- A die fault (code 0x0501): step fault on every panel with a core on the die. -/
def State.dieStepFault (s : State) (d : Nat) : State :=
  let s := s.errRec ⟨0x0501, 1 + d, none, 0, 3, 0, 0, 0⟩
  ((List.range 64).filter fun p => (s.coresOf p).any fun c => dieOf c == d).foldl (fun s p => s.panelFault p) s

/-! Entry into STOPPED. -/

/-- Local-store contents are not kept across a stop (R61): the words take free values. -/
def State.loseStores (s : State) (p : Nat) : State :=
  (s.coresOf p).foldl (fun s c =>
    (s.setCore c { s.core c with store := [], lost := s.freeNum + 1, shp := [] }).useFree 1) s

/-- Windows, reduced tiles, late stores, pending ratios and pending tracker records of a panel that stops (R178, R290). Its
masks stay for the repeat of the step (R267). -/
def State.freeWindows (s : State) (p : Nat) : State :=
  { s with
    windows := s.windows.filter (·.panel != p)
    slices := s.slices.filter (·.panel != p)
    stalledSlices := s.stalledSlices.filter (·.panel != p)
    sideRecs := s.sideRecs.filter (·.panel != p)
    sideSums := s.sideSums.filter (·.panel != p)
    updDone := s.updDone.filter fun h => handlePanel h != p
    sentTiles := s.sentTiles.filter fun x => handlePanel x.2.handle != p
    micros := s.micros.filter fun x => handlePanel x.1 != p
    sliceSums := s.sliceSums.filter fun x => handlePanel x.1.1 != p
    helds := s.helds.filter (·.panel != p)
    masks := updWhere (fun m : Mask => m.panel == p) (fun m => { m with reduced := false, running := false })
      (s.masks.filter fun m => !(m.panel == p && !m.fixed))
    trackers := updWhere (fun t : Tracker => handlePanel t.handle == p) (fun t => { t with pend := [] }) s.trackers
    updates := s.updates.filter (·.panel != p)
    ratios := (s.ratios.map fun (r : Ratio) => if handlePanel r.handle == p then { r with pend := none } else r).filter
      fun r => r.vals.isSome || r.pend.isSome }

/-- A mode 0 or forced stop of an inference panel releases its channel holds (R249). -/
def State.releaseHolds (s : State) (p : Nat) : State :=
  { s with chans := s.chans.map fun (e : Nat × Chan) => if e.2.owned && e.2.panel == p then (e.1, { e.2 with held := false }) else e }

/-- A query of an inference panel is in flight: a macro-instruction of it, or a stream away from its entry point. -/
def queryOpen (s : State) (p : Nat) : Bool :=
  s.flights.any (fun f => f.panel == p) ||
    (barCores s p).any fun c => [Strm.F, .B, .U].any fun st => s.pc c st != s.entryIx p st

/-- A mode 0 or forced stop of an inference panel: its query in flight completes with an error, a record with the panel and
CONS of its queue as R444 gives it (R43, R57). The manual gives that record no code (log entry 149). -/
def State.endQuery (s : State) (p : Nat) : State :=
  if s.isInference p && queryOpen s p then
    s.errRec ⟨1 + Config.stopCode.toNat % 65535, 0, some p, 0, 3, faultLoc s (some p) 0, 0, 0⟩
  else s

/-- The panel enters STOPPED (R57, R64, R290, R343). A training panel with a step in flight sends a faulty arrival. The
residency assignment ends (R311). -/
def State.enterStopped (s : State) (p : Nat) : State :=
  let s := ((s.fset F.PAT_PANEL_STATUS_STATE p psStopped).fset F.PAT_PANEL_STATUS_STOP_DONE p 1).raise (1057 + p)
  let v := s.vstate p
  let s := if s.isTraining p && (v == vsComputing || v == vsSettling) then s.sendVote p true else s
  let s := if s.isTraining p then s.fset F.HUB_STEP_STATUS_STATE p vsIdle else s
  let s := if s.isInference p && !(s.panel p).mode1 then s.releaseHolds p else s
  let s := ((discardEpochs s p).freeWindows p).loseStores p
  let s := { s with flights := s.flights.filter (·.panel != p) }
  let x := s.panel p
  s.setPanel p { x with
    resident := [], mode1 := false, waitStop := false, waitForce := false, remap := false, remapStart := x.remap, aborting := false
    fault := false }

/-- A forced stop (R58, R287): in VOTING it waits for the outcome; else it abandons the work and stops. -/
def State.forceStop (s : State) (p : Nat) : State :=
  let s := s.fset F.PAT_PANEL_STATUS_FORCED p 1
  if s.isTraining p && s.vstate p == vsVoting then
    (s.fset F.PAT_PANEL_STATUS_STATE p psStopping).setPanel p { s.panel p with waitForce := true, mode1 := false }
  else
    let s := (s.endQuery p).setPanel p { s.panel p with mode1 := false }
    (((s.dropWork p).dropHandlers (s.coresOf p)).eachStream p fun s c st => s.setSstate c st stIdle).enterStopped p

/-- Streams not walking stop at once in a mode 0 stop (R56). -/
def State.stopIdlers (s : State) (p : Nat) : State :=
  s.eachStream p fun s c st => if s.sstate c st == stWalk then s else s.setSstate c st stIdle

/-- A stop in mode 1 (`m1`) or 0 of a RUNNING panel (R56). A training panel in VOTING keeps its streams at the entry
boundary for the outcome; a PAUSED one stops at once (R287). -/
def State.beginStop (s : State) (p : Nat) (m1 : Bool) : State :=
  let s := (s.fset F.PAT_PANEL_STATUS_STATE p psStopping).setPanel p { s.panel p with mode1 := m1 }
  if s.isTraining p && s.vstate p == vsPaused then
    (s.eachStream p fun s c st => s.setSstate c st stIdle).enterStopped p
  else if m1 then
    if s.isInference p then
      s.eachStream p fun s c st =>
        if s.sstate c st == stEntry || (s.sstate c st == stWait && s.pc c st == s.entryIx p st) then s.setSstate c st stIdle
        else s
    else s
  else if s.isTraining p && s.vstate p == vsVoting then s
  else s.stopIdlers p

/-! Exclusion (R438 to R441). -/

/-- A panel is core-bound when its stream code holds a macro-instruction with SCOPE 1 (R440). -/
def coreBound (s : State) (p : Nat) : Bool :=
  match s.streamsOf p with
  | none => false
  | some x => [Strm.F, .B, .U].any fun st =>
      (List.range ((codeBytes x st).length / 64)).any fun i => miScope (sliceB (codeBytes x st) (64 * i) 64)

/-- A unit is to be computed again. -/
def UnitRec.again (u : UnitRec) : UnitRec := { u with replay := true, running := false, acc := [] }

/-- Give the recorded units of an excluded core to another core of the panel (R204), which wakes (R498); core-scoped work
cannot move. -/
def moveUnits (s : State) (p c : Nat) : State :=
  match barCores s p with
  | [] => s.setCore c { s.core c with f := noStream, b := noStream, u := noStream }
  | d :: _ =>
    [Strm.F, .B, .U].foldl (fun s st =>
      let us := ((s.core c).stream st).units.filter fun u => (s.flights.any fun f => f.id == u.flight && f.core.isNone)
      let s := if us.isEmpty then s else s.wake d
      let y := (s.core d).stream st
      let s := s.setCore d ((s.core d).setStream st { y with units := y.units ++ us.map UnitRec.again })
      (s.setCore c ((s.core c).setStream st noStream)).finc F.CORE_FLT_COUNTS_REPLAYS d us.length) s

/-- The automatic stop of R441 for a panel that runs. -/
def autoStop (s : State) (p : Nat) : State :=
  if !s.fbit F.FLT_CTRL_AUTO_REMAP 0 || s.pstate p != psRunning then s
  else
    let s := s.setPanel p { s.panel p with remap := true }
    if s.isInference p then s.beginStop p true else s

/-- Exclude a core: its bits, the exclusion list, its units, its barriers, and its panel. -/
def State.exclude (s : State) (c : Nat) : State :=
  if s.excluded c then s
  else
    let r := if dieOf c = 0 then Reg.PAT_EXCLUDED_DIE0 else Reg.PAT_EXCLUDED_DIE1
    let s := (((s.fset F.CORE_STATUS_EXCLUDED c 1).fltEvt c 6).setBit r (c % 528 / 32) (c % 528 % 32)).finc
      F.FLT_EXCLUSIONS_COUNT 0 1
    match s.ownerOf c with
    | none => s
    | some p =>
      if !(s.pstate p == psRunning || s.pstate p == psStopping || s.pstate p == psStarting) then s
      else
        let s := recheckEpochs (moveUnits s p c) p
        let s := s.flights.foldl (fun s f => if f.panel == p then s.sweep f.id else s) s
        if (barCores s p).isEmpty then s.forceStop p
        else
          let s := if coreBound s p then s.panelFault p else s
          autoStop s p

/-! Tile replay (R435). -/

/-- A fault of code 0x0101, 0x0102 or 0x0103 on a core: event bit, window count, record; then the replay of the units
that `hit` selects, or the exclusion of the core when the fault is permanent (R438). -/
def State.replayFault (s : State) (code bit c : Nat) (st : Option Strm) (loc : Nat) (again : Bool)
    (hit : Strm → UnitRec → Bool) : State :=
  let s := s.fltEvt c bit
  let n := s.fget F.CORE_FLT_COUNTS_WINDOW c + 1
  let s := (s.finc F.CORE_FLT_COUNTS_WINDOW c 1).setCore c { s.core c with windowOpen := true }
  let redo := [Strm.F, .B, .U].any fun st => ((s.core c).stream st).units.any fun u => u.replay
  if s.excluded c then s.coreRec code c st loc (coreStep s c)
  else if again || redo || decide (s.fget F.FLT_CTRL_CORE_LIMIT 0 ≤ n) then
    ((s.fltEvt c 5).coreRec 0x0105 c st loc (coreStep s c)).exclude c
  else
    let s := s.coreRec code c st loc (coreStep s c)
    [Strm.F, .B, .U].foldl (fun s st =>
      let x := (s.core c).stream st
      let k := x.units.countP (hit st)
      (s.setCore c ((s.core c).setStream st { x with units := updWhere (hit st) UnitRec.again x.units })).finc
        F.CORE_FLT_COUNTS_REPLAYS c k) s

end Sys2Proof.Machine
end

