-- ==== Sys2Proof/Machine/Tensors.lean ====
section
/-! DEFINITION. Tensors in device DRAM: where codes and scales lie (R77, R191, R254, R499), pages (R299 to R302), reads
of elements, and writes of regions with their conversions (R83, R89, R96, R158). -/
namespace Sys2Proof.Machine
open Sys2Proof

/-! Rule slots and bank layout (R254, R271). -/

def slotIn (r : FeltRules) (k : Nat) : Option (List Byte) := (r.slots.find? (·.1 == k)).map (·.2)
def slRule (b : List Byte) : Nat := leAt b 0 1
def slEntry (b : List Byte) : Nat := leAt b 1 1
def slFormats (b : List Byte) : Nat := leAt b 2 1
def slMaster16 (b : List Byte) : Bool := bitOf (slFormats b) 0
def slState16 (b : List Byte) : Bool := bitOf (slFormats b) 1
def slSr (b : List Byte) (k : Nat) : Bool := bitOf (leAt b 3 1) k
def slWord (b : List Byte) (off : Nat) : Word := BitVec.ofNat 32 (leAt b off 4)
/-- State planes of a slot. -/
def slPlanes (b : List Byte) : Nat :=
  match slRule b with | 1 | 3 => 2 | 2 => 1 | _ => bits (slFormats b) 2 3

def ruleOf (s : State) (d : Desc) : List Byte := (slotIn s.rulesOn (dRule d)).getD []

def upTo (a n : Nat) : Nat := cdiv a n * n

/-- Storage geometry: a WIDE tensor is BF16 (R499). -/
def storeGeo (d : Desc) : Geo :=
  if dWide d then ⟨.b16, 0, .k⟩ else (fmtGeo (dFormat d) (dBlock d)).getD ⟨.f32, 0, .k⟩

/-- The matrix dimension that is the planned reduction, and the other. -/
def dK (d : Desc) : Nat := if dRed d then dRows d else dCols d
def dN (d : Desc) : Nat := if dRed d then dCols d else dRows d

/-- Where a matrix lies: sizes, element, blocks (axis 0 along d0, 1 along d1, 2 square), planes, fold strides, tables. -/
structure View where
  h : Nat
  d0 : Nat
  d1 : Nat
  d2 : Nat
  d3 : Nat
  el : Elem
  blk : Nat
  axis : Nat
  code : Nat
  scale : Nat
  c2 : Nat
  c3 : Nat
  s2 : Nat
  s3 : Nat
  table : Nat
  grouped : Bool
  red : Bool
  deriving DecidableEq, Repr

/-- Blocks of one matrix (R77). -/
def blockCount (d0 d1 blk axis : Nat) : Nat :=
  if blk = 0 then 0
  else match axis with
    | 0 => cdiv d0 blk * d1
    | 1 => d0 * cdiv d1 blk
    | _ => cdiv d0 blk * cdiv d1 blk

def Geo.axis (g : Geo) (red : Bool) : Nat := match g.dir with | .k => b2n red | .nm => 1 - b2n red | .square => 2

/-- View of a descriptor whose byte space starts at `base`. -/
def viewAt (h base : Nat) (d : Desc) : View :=
  let g := storeGeo d
  let ax := g.axis (dRed d)
  let c2 := if dStr2 d then dStrideC2 d else cdiv (dCols d * dRows d * g.elem.bits) 8
  let s2 := if dStr2 d then dStrideS2 d else blockCount (dCols d) (dRows d) g.blk ax
  { h := h, d0 := dCols d, d1 := dRows d, d2 := dDim d 2, d3 := dDim d 3, el := g.elem, blk := g.blk, axis := ax
    code := base + dCodeOff d, scale := base + dScaleOff d, c2 := c2
    c3 := if dStr3 d then dStrideC3 d else dDim d 2 * c2, s2 := s2
    s3 := if dStr3 d then dStrideS3 d else dDim d 2 * s2, table := base + dTableOff d, grouped := dGrouped d
    red := dRed d }

/-- Tables of a C4 or C2 tensor, in bytes (R70). -/
def tableBytes (d : Desc) : Nat :=
  match (storeGeo d).elem with
  | .c4 => 16 * (if dGrouped d then cdiv (dN d) 64 else 1)
  | .c2 => 2
  | _ => 0

/-- End of a tensor's planes, as an offset from its base. -/
def planesEnd (d : Desc) : Nat :=
  let v := viewAt 0 0 d
  let ec := v.code + (v.d2 - 1) * v.c2 + (v.d3 - 1) * v.c3 + cdiv (v.d0 * v.d1 * v.el.bits) 8
  let es := if v.blk = 0 then 0 else v.scale + (v.d2 - 1) * v.s2 + (v.d3 - 1) * v.s3 + blockCount v.d0 v.d1 v.blk v.axis
  let et := if tableBytes d = 0 then 0 else v.table + tableBytes d
  max ec (max es et)

/-- Offsets of the regions of a bank (R254). -/
structure Bank where
  drain : Nat
  tweed : Nat
  tweedScale : Nat
  header : Nat
  master : Nat
  planes : List Nat
  bytes : Nat
  deriving DecidableEq, Repr

/-- Elements of a weight's or parameter's master. -/
def masterCount (d : Desc) : Nat := if dKind d = kParam then dCols d else dCols d * dRows d * dFolds d

def bankOf (d : Desc) (slot : List Byte) : Bank :=
  let n := masterCount d
  let drain := if dKind d = kParam then 0 else upTo (planesEnd d) 4096
  let tweed := if dKind d = kParam then 0 else upTo (drain + 4 * dN d) 4096
  let tscale := tweed + n
  let header := if dKind d = kParam then 0 else upTo (tscale + cdiv (dN d) 32 * dK d * dFolds d) 4096
  let master := upTo (header + 64) 4096
  let p0 := upTo (master + n * (if slMaster16 slot then 2 else 4)) 4096
  let step := upTo (n * (if slState16 slot then 2 else 4)) 4096
  let planes := (List.range (slPlanes slot)).map fun i => p0 + i * step
  let lastEnd := if slPlanes slot = 0 then master + n * (if slMaster16 slot then 2 else 4)
    else p0 + (slPlanes slot - 1) * step + n * (if slState16 slot && slPlanes slot ≠ 4 then 2 else 4)
  ⟨drain, tweed, tscale, header, master, planes, upTo lastEnd (2 ^ 21)⟩

def bankLayout (s : State) (d : Desc) : Bank := bankOf d (ruleOf s d)

/-- A tensor that has banks: a trained WEIGHT or a PARAM (R254, R258). -/
def banked (d : Desc) : Bool := dKind d == kParam || (dKind d == kWeight && !dFrozen d)

/-- Start of bank `b` of a tensor: single-bank mode has bank A only. -/
def bankBase (s : State) (h : Nat) (d : Desc) (b : Bool) : Nat :=
  if banked d && b && !s.fbit F.HUB_STEP_STATUS_SINGLE (handlePanel h) then (bankLayout s d).bytes else 0

/-- Start of the bank that a macro-instruction reads, by the banks current at its issue (R255, R256). -/
def readBase (s : State) (mask h : Nat) (d : Desc) : Nat := bankBase s h d (bitOf mask (handlePanel h))

/-- The Tweed copy of a weight: N is dimension 0, blocks of 32 along N (R139). -/
def tweedView (s : State) (h base : Nat) (d : Desc) : View :=
  let b := bankLayout s d
  let n := dN d; let k := dK d
  { h := h, d0 := n, d1 := k, d2 := dDim d 2, d3 := dDim d 3, el := .e4, blk := 32, axis := 0, code := base + b.tweed
    scale := base + b.tweedScale, c2 := n * k, c3 := dDim d 2 * n * k, s2 := cdiv n 32 * k, s3 := dDim d 2 * (cdiv n 32 * k)
    table := 0, grouped := false, red := true }

/-! Reading. -/

def View.blockIx (v : View) (c r : Nat) : Nat :=
  match v.axis with
  | 0 => c / v.blk + cdiv v.d0 v.blk * r
  | 1 => c + v.d0 * (r / v.blk)
  | _ => c / v.blk + cdiv v.d0 v.blk * (r / v.blk)

def View.codeBit (v : View) (c r f2 f3 : Nat) : Nat := 8 * (v.code + f2 * v.c2 + f3 * v.c3) + (c + v.d0 * r) * v.el.bits
def View.scaleByte (v : View) (c r f2 f3 : Nat) : Nat := v.scale + f2 * v.s2 + f3 * v.s3 + v.blockIx c r

/-- A code of w bits at a bit offset of a tensor's byte space. -/
def codeAt (s : State) (h bit w : Nat) : Nat :=
  if 8 ≤ w then leNat (s.tRead h (bit / 8) (w / 8)) else bits (leNat (s.tRead h (bit / 8) 1)) (bit % 8) w

/-- Output channel of a position of a weight. -/
def View.chan (v : View) (c r : Nat) : Nat := if v.red then c else r

/-- Codes of the table that a position uses. -/
def View.tableAt (s : State) (v : View) (c r : Nat) : List Nat :=
  match v.el with
  | .c4 => (s.tRead v.h (v.table + if v.grouped then 16 * (v.chan c r / 64) else 0) 16).map (·.toNat)
  | .c2 => (s.tRead v.h v.table 2).flatMap fun b => [b.toNat % 16, b.toNat / 16]
  | _ => []

def View.code' (s : State) (v : View) (c r f2 f3 : Nat) : Nat := codeAt s v.h (v.codeBit c r f2 f3) v.el.bits
def View.bx (s : State) (v : View) (c r f2 f3 : Nat) : Nat :=
  if v.blk = 0 then 127 else leNat (s.tRead v.h (v.scaleByte c r f2 f3) 1)

/-- Value of an element by its code and block scale, without learned scale; z is the zero point. -/
def View.get (s : State) (v : View) (z c r f2 f3 : Nat) : FV :=
  blockValue (v.bx s c r f2 f3) (v.el.value z (v.tableAt s c r) (v.code' s c r f2 f3))

/-- Master element i of a trained tensor in a bank, widened (R254). -/
def masterAt (s : State) (h base : Nat) (d : Desc) (i : Nat) : Word :=
  let b := bankLayout s d
  if slMaster16 (ruleOf s d) then BitVec.ofNat 32 (leNat (s.tRead h (base + b.master + 2 * i) 2) * 2 ^ 16)
  else BitVec.ofNat 32 (leNat (s.tRead h (base + b.master + 4 * i) 4))

/-- Element i of the learned parameters that a handle field names (R254, R275); 1.0 where the field names none. -/
def paramAt (s : State) (mask fld i : Nat) : Word :=
  match s.desc (hHandle fld) with
  | some d => if hPresent fld then masterAt s (hHandle fld) (readBase s mask (hHandle fld) d) d i else fOne
  | none => fOne

/-- A zero point as it is used (R275). -/
def zeroOf (w : Word) : Nat :=
  match f32 w with
  | .nan => 0
  | .inf n => if n then 0 else 15
  | .fin n m e => if n || m = 0 then 0 else min 15 (roundTo m e 0 .rne)

/-- Zero point of an INT4 activation; 0 where the descriptor names no PARAM. -/
def zeroPoint (s : State) (mask : Nat) (d : Desc) : Nat :=
  if hPresent (dParam d) then zeroOf (paramAt s mask (dParam d) 1) else 0

/-- Read element for a unit that takes learned values too: code value times the learned scale (R69). -/
def View.learned (s : State) (v : View) (mask : Nat) (d : Desc) (c r f2 f3 : Nat) : FV :=
  if dWide d then v.get s 0 c r f2 f3
  else match v.el with
  | .i4a => (v.get s (zeroPoint s mask d) c r f2 f3).mul (f32 (paramAt s mask (dParam d) 0))
  | .i4w | .i2w | .c4 | .c2 => (v.get s 0 c r f2 f3).mul (f32 (paramAt s mask (dParam d) (v.chan c r)))
  | _ => v.get s 0 c r f2 f3

/-! Uncorrectable blocks (R294, R295, R445). Keys are byte keys of the tensor memory divided by 64. -/

def blkKey (h off : Nat) : Nat := tkey h off / 64

/-- A bad block among the bytes [off, off + n) of a tensor. -/
def badIn (s : State) (h off n : Nat) : Option Nat :=
  s.badTens.find? fun k => decide (n ≠ 0) && decide (blkKey h off ≤ k) && decide (k ≤ blkKey h (off + n - 1))

/-- A bad block among the codes and scales of a view's rows within a shape. -/
def View.bad (s : State) (v : View) (cols rows f2n f3n : Nat) : Option Nat :=
  if s.badTens.isEmpty || cols = 0 then none
  else
    (List.range f3n).findSome? fun f3 => (List.range f2n).findSome? fun f2 => (List.range rows).findSome? fun r =>
      let a := v.codeBit 0 r f2 f3 / 8
      let b := (v.codeBit (cols - 1) r f2 f3 + v.el.bits - 1) / 8
      match badIn s v.h a (b + 1 - a) with
      | some k => some k
      | none =>
        if v.blk = 0 then none
        else badIn s v.h (v.scaleByte 0 r f2 f3) (v.scaleByte (cols - 1) r f2 f3 + 1 - v.scaleByte 0 r f2 f3)

/-- A bad block among the codes and scales of a rectangle of one fold. -/
def View.badRect (s : State) (v : View) (c0 c1 r0 r1 f2 f3 : Nat) : Option Nat :=
  if s.badTens.isEmpty || c1 ≤ c0 then none
  else (List.range (r1 - r0)).findSome? fun j =>
    let r := r0 + j
    let a := v.codeBit c0 r f2 f3 / 8
    let b := (v.codeBit (c1 - 1) r f2 f3 + v.el.bits - 1) / 8
    match badIn s v.h a (b + 1 - a) with
    | some k => some k
    | none =>
      if v.blk = 0 then none
      else badIn s v.h (v.scaleByte c0 r f2 f3) (v.scaleByte (c1 - 1) r f2 f3 + 1 - v.scaleByte c0 r f2 f3)

/-! Pages. -/

/-- Placed pages of a felt (R291, R300), quota and pool. -/
def placedPages (s : State) (n : Nat) : Nat := 31744 - s.fget F.FELT_FIXED_PAGES n
def shareOf (s : State) (p n : Nat) : Nat := match s.entryOf p with | some e => e.shares.getD n 0 | none => 0
def quotaOf (s : State) (p n : Nat) : Nat := shareOf s p n * placedPages s n / 64
/-- Pages of a panel on a felt; a page counts where it lies and where a move takes it. -/
def pagesOn (s : State) (p n : Nat) : Nat := s.pages.countP fun x => x.panel == p && (x.felt == n || x.moving == some n)
def poolLeft (s : State) (n : Nat) : Bool :=
  let ps := List.range 64
  let q := (ps.map fun p => quotaOf s p n).foldl (· + ·) 0
  let excess := (ps.map fun p => pagesOn s p n - quotaOf s p n).foldl (· + ·) 0
  decide (excess < placedPages s n - q)
def quotaLeft (s : State) (p n : Nat) : Bool := decide (pagesOn s p n < quotaOf s p n)

/-- Hint mask (R304, R305). -/
def hintMask (d : Desc) : Nat :=
  let st := if bits (dHints d) 0 8 = 0 then 0xFF else bits (dHints d) 0 8
  match bits (dHints d) 8 2 with | 1 => st &&& 0x0F | 2 => st &&& 0xF0 | _ => st
def hPin (d : Desc) : Bool := bitOf (dHints d) 10
def hResident (d : Desc) : Bool := bitOf (dHints d) 11
def hRank (d : Desc) : Nat := bits (dHints d) 12 8

/-- Felts that may hold pages of a tensor, and whether the hint was ignored (R301). -/
def feltsOf (s : State) (h : Nat) : List Nat × Bool :=
  let e := (List.range 8).filter fun n => decide (0 < shareOf s (handlePanel h) n)
  match s.desc h with
  | none => (e, false)
  | some d =>
    let e' := e.filter fun n => bitOf (hintMask d) n
    if e'.isEmpty then (e, !e.isEmpty) else (e', false)

/-- Felt of a new page of panel p (R301); none: exhausted. -/
def chooseFelt (s : State) (p h i : Nat) (e : List Nat) : Option Nat :=
  let k := (h + i) % e.length
  let order := e.drop k ++ e.take k
  match order.find? (quotaLeft s p) with
  | some n => some n
  | none => order.find? (poolLeft s)

def pageOf (s : State) (h i : Nat) : Option Page := s.pages.find? fun x => x.handle == h && x.index == i

/-- A tensor whose bytes lie in local store (R311). -/
def isResident (s : State) (h : Nat) : Bool := (s.panel (handlePanel h)).resident.contains h

/-- Pages of the placed region of a felt that hold a page. -/
def usedPhys (s : State) (n : Nat) : List Nat := (s.pages.filter (·.felt == n)).map (·.phys)

/-- The first number from k on, cyclically below m, that is not in use; the first argument counts the tries. -/
def freshPhys (used : List Nat) (m : Nat) : Nat → Nat → Nat
  | 0, k => k % m
  | n + 1, k => if used.contains (k % m) then freshPhys used m n (k + 1) else k % m

/-- A free page of a felt's placed region: which one the placement engine takes is free (log entry 18). -/
def pickPhys (s : State) (n : Nat) : Nat :=
  freshPhys (usedPhys s n) (placedPages s n) (s.pages.length + 1) (Config.freeNat s.freeNum)

/-- Physical address of a placed page, and the blocks of it that are uncorrectable. -/
def pageBase (s : State) (x : Page) : Nat := x.felt * 2 ^ 36 + (s.fget F.FELT_FIXED_PAGES x.felt + x.phys) * 2 ^ 21
def inPage (a k : Nat) : Bool := decide (a / 64 ≤ k) && decide (k < a / 64 + 32768)

/-- A new page takes over the uncorrectable blocks of its place (R295), and a page that is freed leaves its own there. -/
def adoptBad (s : State) (x : Page) : State :=
  let a := pageBase s x
  { s with
    badPhys := s.badPhys.filter fun k => !inPage a k
    badTens := s.badTens ++ (s.badPhys.filter (inPage a)).map fun k => tkey x.handle (x.index * 2 ^ 21) / 64 + (k - a / 64) }
def releaseBad (s : State) (x : Page) : State :=
  let t := tkey x.handle (x.index * 2 ^ 21)
  { s with
    badTens := s.badTens.filter fun k => !inPage t k
    badPhys := s.badPhys ++ (s.badTens.filter (inPage t)).map fun k => pageBase s x / 64 + (k - t / 64) }

/-- Allocate page i of panel p's handle or system area h on one of the felts e; false when none is found (R301, R302). -/
def State.placePage (s : State) (p h i : Nat) (e : List Nat) (want : Bool) : State × Bool :=
  match chooseFelt s p h i e with
  | none => (s.memEvt (h % 8) 1, false)
  | some n =>
    let pin := want && decide ((s.pages.countP fun x => x.panel == p && x.felt == n && x.pinned) < quotaOf s p n / 2)
    let s := if want && !pin then s.finc F.FELT_PLC_COUNTS_HINT_IGNORED n 1 else s
    let x : Page := ⟨h, i, n, p, 0, 0, pin, none, pickPhys s n⟩
    ((adoptBad { s with pages := s.pages ++ [x] } x).useFree 1, true)

/-- Make sure a page exists; false when none is found (R302). -/
def State.ensurePage (s : State) (h i : Nat) : State × Bool :=
  if isResident s h || (pageOf s h i).isSome then (s, true)
  else
    let (e, ignored) := feltsOf s h
    let s := if ignored then s.finc F.FELT_PLC_COUNTS_HINT_IGNORED (h % 8) 1 else s
    s.placePage (handlePanel h) h i e (match s.desc h with | some d => hPin d | none => false)

/-- Handles of the system areas of a panel (R299): the skein area and the tracker area. -/
def skeinArea (p : Nat) : Nat := 2 ^ 20 + 2 * p
def trackArea (p : Nat) : Nat := 2 ^ 20 + 2 * p + 1

/-- Make sure a page of a system area exists: on any felt where the panel has a share. -/
def State.ensureArea (s : State) (p h i : Nat) : State × Bool :=
  if (pageOf s h i).isSome then (s, true)
  else s.placePage p h i ((List.range 8).filter fun n => decide (0 < shareOf s p n)) false

def State.ensurePages (s : State) (h : Nat) (is : List Nat) : State × Bool :=
  is.foldl (fun x i => let y := x.1.ensurePage h i; (y.1, x.2 && y.2)) (s, true)

/-- A move of a weight's or parameter's page in progress when its panel enters COMPUTING is abandoned (R308). -/
def State.abandonMoves (s : State) (p : Nat) : State :=
  let held := fun (x : Page) => x.panel == p && x.moving.isSome &&
    (match s.desc x.handle with | some d => dKind d == kWeight || dKind d == kParam | none => false)
  (s.pages.filter held).foldl (fun s x => s.finc F.FELT_PLC_COUNTS_ABANDONED x.felt 1)
    { s with pages := updWhere held (fun x => { x with moving := none }) s.pages }

/-! Writing. -/

/-- A code to write: bit offset, width, code. -/
abbrev Put := Nat × Nat × Nat

def putOne (m : List Host.Cell) (h : Nat) (x : Put) : List Host.Cell :=
  let a := tkey h (x.1 / 8)
  if 8 ≤ x.2.1 then memWrite m a (leBytes (x.2.1 / 8) x.2.2)
  else memSet m a (BitVec.ofNat 8 (putBits (memGet m a).toNat (x.1 % 8) x.2.1 x.2.2))

/-- Write codes of a tensor: pages first; a bad block takes the write only when all of it is covered. Answers the status:
OK, PAGE_EXHAUSTED (R302), or ACCESS for a refused narrower write (R295). -/
def State.put (s : State) (h : Nat) (ps : List Put) : State × Nat :=
  let (s, ok) := s.ensurePages h ((ps.map fun x => x.1 / 8 / 2 ^ 21).foldl addTo [])
  let ps := ps.filter fun x => isResident s h || (pageOf s h (x.1 / 8 / 2 ^ 21)).isSome
  let ours := s.badTens.filter fun k => ps.any fun x => blkKey h (x.1 / 8) == k
  let covered := fun k => decide (512 ≤ (ps.filter fun x => blkKey h (x.1 / 8) == k).foldl (fun n x => n + x.2.1) 0)
  let st := if !ok then rsPage else if ours.all covered then rsOk else rsAccess
  let ps := ps.filter fun x => !ours.any fun k => blkKey h (x.1 / 8) == k && !covered k
  ({ s with
     tens := ps.foldl (fun m x => putOne m h x) s.tens
     badTens := s.badTens.filter fun k => !(ours.contains k && covered k) }, st)

def bytePuts (off : Nat) (bs : List Byte) : List Put := (List.range bs.length).map fun i => (8 * (off + i), 8, (bs.getD i 0).toNat)

/-- A write of an engine of panel p that ended with an error status: a fault of the step on a training panel, an error
completion of the query on an inference panel (R43, R302; log entry 143). -/
def State.writeFail (s : State) (p st : Nat) : State := if st = rsOk then s else s.panelFault p

/-! Accesses by page (R306). -/

/-- n accesses of a page from a C-die: near or far counter, saturating at 16 bits. -/
def touchPage (s : State) (die h i n : Nat) : State :=
  { s with pages := updWhere (fun x => x.handle == h && x.index == i) (fun x =>
      if x.felt / 4 == die then { x with near := satAdd 65535 x.near n } else { x with far := satAdd 65535 x.far n }) s.pages }

/-- Accesses of 64-byte blocks of a handle from a C-die, given by block number within its byte space. -/
def touchBlocks (s : State) (die h : Nat) (ks : List Nat) : State :=
  if s.pages.isEmpty then s
  else ((ks.map (· / 32768)).foldl addTo []).foldl (fun s i => touchPage s die h i (ks.countP fun k => k / 32768 == i)) s

/-- Blocks of a byte range. -/
def rangeBlocks (off n : Nat) : List Nat := if n = 0 then [] else (List.range ((off + n - 1) / 64 + 1 - off / 64)).map (off / 64 + ·)

/-- Blocks that a rectangle of one fold occupies, row by row, codes and scales: the accesses of its fetch. -/
def View.blocks (v : View) (c0 c1 r0 r1 f2 f3 : Nat) : List Nat :=
  if c1 ≤ c0 then []
  else (List.range (r1 - r0)).flatMap fun j =>
    let a := v.codeBit c0 (r0 + j) f2 f3 / 8
    let b := (v.codeBit (c1 - 1) (r0 + j) f2 f3 + v.el.bits - 1) / 8
    let x := v.scaleByte c0 (r0 + j) f2 f3
    rangeBlocks a (b + 1 - a) ++ (if v.blk = 0 then [] else rangeBlocks x (v.scaleByte (c1 - 1) (r0 + j) f2 f3 + 1 - x))

/-- Core c fetches a rectangle. -/
def View.touch (s : State) (c : Nat) (v : View) (c0 c1 r0 r1 f2 f3 : Nat) : State :=
  if s.pages.isEmpty then s else touchBlocks s (dieOf c) v.h (v.blocks c0 c1 r0 r1 f2 f3)

/-- Put codes in runs of one block each. -/
def putBlocks (ps : List Put) : List Nat :=
  ps.foldl (fun (l : List Nat) x => let k := x.1 / 8 / 64; if l.head? == some k then l else k :: l) []

/-- Core c writes codes of a tensor: the write and its accesses. -/
def State.corePut (s : State) (c h : Nat) (ps : List Put) : State × Nat :=
  let (s, st) := s.put h ps
  (if s.pages.isEmpty then s else touchBlocks s (dieOf c) h (putBlocks ps), st)

/-- Linear index of an element over the planned shape (R89). -/
def View.index (v : View) (c r f2 f3 : Nat) : Nat := c + v.d0 * (r + v.d1 * (f2 + v.d2 * f3))

/-- How a region write rounds: by RNE, or by SR with its purpose, seed and step. -/
structure HowTo where
  sr : Bool
  purpose : Nat
  seed : DWord
  step : Nat
  deriving DecidableEq, Repr

def HowTo.rnd (w : HowTo) (h e : Nat) : Rnd := if w.sr then .sr (srBits w.seed h e w.step w.purpose) else .rne

/-- Exponents and thresholds of a destination: largest finite source value, crushed threshold, supplied exponent. -/
structure Quant where
  src : FV
  k : Nat
  eIn : Option Int
  deriving DecidableEq, Repr

/-- Learned values of a position: scale, zero point, table codes (R69). -/
structure Learned where
  scale : FV
  zero : Nat
  table : List Nat
  deriving DecidableEq, Repr

def noLearned : Learned := ⟨FV.one, 0, []⟩

/-- Learned values that a descriptor gives a position. -/
def View.learnedAt (s : State) (v : View) (mask : Nat) (d : Desc) (c r : Nat) : Learned :=
  match v.el with
  | .i4a => ⟨f32 (paramAt s mask (dParam d) 0), zeroPoint s mask d, []⟩
  | .i4w | .i2w => ⟨f32 (paramAt s mask (dParam d) (v.chan c r)), 0, []⟩
  | .c4 | .c2 => ⟨f32 (paramAt s mask (dParam d) (v.chan c r)), 0, v.tableAt s c r⟩
  | _ => noLearned

/-- An INT4 activation element (R105): q = clamp(ROUND(x ÷ s) + z, 0, 15). -/
def int4Conv (l : Learned) (r : Rnd) (x : FV) : Conv :=
  match x.div l.scale with
  | .nan => ⟨l.zero, false, false, true⟩
  | .inf n => let c := if n then 0 else 15; ⟨c, true, c == l.zero, false⟩
  | .fin n m e =>
    let q : Int := sgn n (if m = 0 then 0 else roundTo m e 0 r) + l.zero
    let c := max 0 (min 15 q)
    ⟨c.toNat, c != q, !x.isZero && c == l.zero, false⟩

/-- Index of the table entry nearest to x among finite ones, the lowest at a tie (R274). -/
def nearest (el : Elem) (l : Learned) (x : FV) : Nat :=
  let ent := (List.range l.table.length).filterMap fun i =>
    match (el.value 0 l.table i).mul l.scale with | .fin s m e => some (i, FV.fin s m e) | _ => none
  let far := fun (y : FV) => match x with | .inf n => (if n then y else y.neg) | _ => (x.sub y).abs
  (ent.foldl (fun (b : Option (Nat × FV)) (e : Nat × FV) => match b with
    | some c => if (far e.2).lt (far c.2) then some e else b
    | none => some e) none).elim 0 (·.1)

/-- Convert a value once into a format with learned values (R69, R96, R105, R274). -/
def learnedConv (el : Elem) (l : Learned) (r : Rnd) (x : FV) : Conv :=
  match el with
  | .i4a => int4Conv l r x
  | .i4w | .i2w => el.convert r (x.div l.scale)
  | .c4 | .c2 =>
    if x.isNan then ⟨0, false, false, true⟩
    else
      let i := nearest el l x
      ⟨i, x.isInf, !x.isZero && ((el.value 0 l.table i).mul l.scale).isZero, false⟩
  | _ => el.convert r x

/-- Maximum of the magnitudes that R83 takes of a block, as FP32 bits (R166); 0 for a NaN block. A maximum that FP32
cannot hold (codes of a learned format times their scale) is rounded by RNE (log entry 144). -/
def blockAmax (el : Elem) (src : FV) (xs : List FV) : Word :=
  if xs.any FV.isNan then 0
  else
    let hasInf := match el.float with | some f => f.hasInf | none => false
    let a := amaxOf (xs.map fun x => if x.isInf && !hasInf then src else x)
    rne32 (.fin false a.1 a.2)

/-- What a conversion of a region writes and counts: codes, events, amax of the blocks, elements. -/
structure Wrote where
  puts : List (Nat × Nat × Nat)
  ev : Evs
  amax : Word
  elems : Nat
  deriving DecidableEq, Repr

def Wrote.none : Wrote := ⟨[], Evs.none, 0, 0⟩
/-- Greater FP32 magnitude. -/
def magMax (a b : Word) : Word := if a.toNat % 2 ^ 31 < b.toNat % 2 ^ 31 then b else a
def Wrote.plus (a b : Wrote) : Wrote := ⟨a.puts ++ b.puts, a.ev.plus b.ev, magMax a.amax b.amax, a.elems + b.elems⟩

/-- Positions of a block that lie in the planned matrix. -/
def blockCells (v : View) (b0 b1 : Nat) : List (Nat × Nat) :=
  let w := if v.axis = 1 then 1 else v.blk
  let t := if v.axis = 0 then 1 else v.blk
  (List.range t).flatMap fun j => (List.range w).filterMap fun i =>
    if b0 + i < v.d0 && b1 + j < v.d1 then some (b0 + i, b1 + j) else none

/-- Corners of the blocks that a rectangle touches. -/
def blockCorners (v : View) (c0 c1 r0 r1 : Nat) : List (Nat × Nat) :=
  let w := if v.axis = 1 then 1 else v.blk
  let t := if v.axis = 0 then 1 else v.blk
  let ci := (List.range (c1 - c0)).map (fun i => (c0 + i) / w * w)
  let ri := (List.range (r1 - r0)).map (fun i => (r0 + i) / t * t)
  (ri.foldl addTo []).flatMap fun r => (ci.foldl addTo []).map fun c => (c, r)

/-- Codes and scale of one block from its values, and its events. -/
def blockPuts (v : View) (src : FV) (k : Nat) (f2 f3 : Nat) (cells : List (Nat × Nat)) (xs : List (FV × Rnd)) : List Put × Evs :=
  let (bx, codes, ev) := quantBlock v.el src k none xs
  let x0 := cells.headD (0, 0)
  ((List.range cells.length).map (fun i =>
    let x := cells.getD i (0, 0)
    (v.codeBit x.1 x.2 f2 f3, v.el.bits, codes.getD i 0)) ++ [(8 * v.scaleByte x0.1 x0.2 f2 f3, 8, bx)], ev)

/-- Conversion of a rectangle of one fold: values by position, within the current shape cols × rows (R75, R83, R96). -/
def rectPuts (v : View) (q : Quant) (w : HowTo) (learned : Nat → Nat → Learned) (cols rows c0 c1 r0 r1 f2 f3 : Nat)
    (val : Nat → Nat → FV) : Wrote :=
  let rnd := fun c r => w.rnd v.h (v.index c r f2 f3)
  if v.blk = 0 then
    let cells := (List.range (min r1 rows - r0)).flatMap fun j => (List.range (min c1 cols - c0)).map fun i => (c0 + i, r0 + j)
    let rs := cells.map fun x =>
      let conv := learnedConv v.el (learned x.1 x.2) (rnd x.1 x.2) (val x.1 x.2)
      ((v.codeBit x.1 x.2 f2 f3, v.el.bits, conv.code), conv)
    ⟨rs.map (·.1), ⟨rs.countP (·.2.sat), rs.countP (·.2.unf), rs.countP (·.2.nan), 0, 0⟩, 0, cells.length⟩
  else
    (blockCorners v c0 (min c1 cols) r0 (min r1 rows)).foldl (fun acc b =>
      let cells := blockCells v b.1 b.2
      let live := cells.filter fun x => x.1 < cols && x.2 < rows
      let xs := live.map fun x => val x.1 x.2
      let (bx, codes, ev) := quantBlock v.el q.src q.k q.eIn (xs.zip (live.map fun x => rnd x.1 x.2))
      let dead := cells.filter fun x => !(x.1 < cols && x.2 < rows)
      let ps := (List.range live.length).map fun i =>
        let x := live.getD i (0, 0)
        (v.codeBit x.1 x.2 f2 f3, v.el.bits, codes.getD i 0)
      let zs := dead.map fun x => (v.codeBit x.1 x.2 f2 f3, v.el.bits, 0)
      acc.plus ⟨ps ++ zs ++ [(8 * v.scaleByte b.1 b.2 f2 f3, 8, bx)], ev, blockAmax v.el q.src xs, live.length⟩) Wrote.none

def seedOf (s : State) (p : Nat) : DWord := ((s.secsOf p).bind (·.seed)).getD 0

/-- Step number of conversions: S of a training panel, 0 on an inference panel (R89). -/
def convStep (s : State) (p : Nat) : Nat := if s.isTraining p then s.fget F.HUB_STEP_NUM_S p else 0

end Sys2Proof.Machine
end

