-- ==== Sys2Proof/Machine/Seam.lean ====
section
/-! DEFINITION. Tension trackers and seam counters: observations, commits, proposals, snapshots, and the commands on them
(R163 to R171, R176 to R178). -/
namespace Sys2Proof.Machine
open Sys2Proof

/-- Slot of a handle. -/
def trackerOf (s : State) (h : Nat) : Option Tracker := s.trackers.find? (·.handle == h)

/-- Slot i homed on a physical core. -/
def trackerAt (s : State) (c i : Nat) : Option Tracker :=
  s.trackers.find? fun t => s.liveOf t.core == some c && t.index == i

def seamSecOf (s : State) (p : Nat) : Option Seam := (s.secsOf p).bind (·.seam)

/-- Crushed threshold of a destination (R163). -/
def crushK (s : State) (h : Nat) : Nat :=
  match trackerOf s h with
  | some t => t.k
  | none => ((seamSecOf s (handlePanel h)).map (·.defaultK)).getD 0

/-- Exponent supplied by a descriptor's scales policy (R161). -/
def scaleIn (s : State) (h : Nat) (d : Desc) : Option Int :=
  if dScales d = 1 then (trackerOf s h).map (·.exp) else none

/-- Seam events of a home or converting core. -/
def seamFlags (s : State) (c : Nat) (e : Evs) : State :=
  let s := if e.nanb = 0 then s else s.seamEvt c 1
  let s := if e.crushed = 0 then s else s.seamEvt c 3
  if e.sat = 0 then s else s.seamEvt c 4

/-- A weight: its slots receive no observations (R165). -/
def isWeight (s : State) (h : Nat) : Bool := match s.desc h with | some d => dKind d == kWeight | none => false

/-- Count the events of a conversion on core c into handle h (R164): an observation to the home slot, or the untracked
totals of the core. A weight that has a slot sends none, and counts nowhere (log entry 145). -/
def State.countSeam (s : State) (c p h flight unit : Nat) (e : Evs) (amax : Word) (elems : Nat) : State :=
  match trackerOf s h with
  | some _ =>
    if isWeight s h then s
    else { s with obs := s.obs ++ [⟨p, h, convStep s p, flight, unit, amax, [e.sat, e.unf, e.crushed, e.zero, e.nanb, elems]⟩] }
  | none =>
    let s := (s.finc F.SEAM_UNT_ELEM_SAT c e.sat).finc F.SEAM_UNT_ELEM_UNF c e.unf
    let s := (s.finc F.SEAM_UNT_BLOCK_CRUSHED c e.crushed).finc F.SEAM_UNT_BLOCK_NAN_BLOCK c e.nanb
    seamFlags s c e

def addPend (l : List PendRec) (step : Nat) (amax : Word) (sat elems : Nat) : List PendRec :=
  if l.any (·.step == step) then
    updWhere (·.step == step) (fun r => { r with amax := magMax r.amax amax, sat := r.sat + sat, elems := r.elems + elems }) l
  else l ++ [⟨step, amax, sat, elems⟩]

/-- Cumulative counters: five of 32 bits and ELEMS of 64 bits, saturating. -/
def addCounts (a b : List Nat) : List Nat :=
  (List.range 6).map fun i => satAdd (if i = 5 then 2 ^ 64 - 1 else 2 ^ 32 - 1) (a.getD i 0) (b.getD i 0)

/-- An observation reaches its home slot, whose panel says which steps are open (R166, R167). -/
def State.observe (s : State) (o : Obs) : State :=
  match trackerOf s o.handle with
  | none => s
  | some t =>
    let s0 := convStep s (handlePanel t.handle)
    match s.liveOf t.core with
    | none => s
    | some c =>
      if o.step != s0 && o.step != (s0 + 1) % 2 ^ 32 then (s.finc F.SEAM_STALE_COUNT c 1).seamEvt c 2
      else
        let t' := { t with counts := addCounts t.counts o.counts
                           pend := addPend t.pend o.step o.amax (o.counts.getD 0 0) (o.counts.getD 5 0) }
        let s := { s with trackers := updWhere (·.handle == o.handle) (fun _ => t') s.trackers }
        seamFlags s c { Evs.none with sat := o.counts.getD 0 0, crushed := o.counts.getD 2 0, nanb := o.counts.getD 4 0 }

/-- PROPOSE (R169): the exponent and whether it came from the history. -/
def propose (s : State) (t : Tracker) : Int × Bool :=
  let n := min t.w t.hist.length
  let a := (t.hist.take n).foldl magMax 0
  let el : Elem := match s.desc t.handle with | some d => ((fmtGeo (dFormat d) (dBlock d)).map (fun (g : Geo) => g.elem)).getD .e4 | none => .e4
  match f32 a with
  | .fin _ m e =>
    if m = 0 then (max (-127) (min 127 t.eInit), false)
    else (max (-127) (min 127 ((m.log2 + e : Int) - el.emax + t.margin)), true)
  | _ => (127, true)

/-- The calibration rule (R171). -/
def calibHit (t : Tracker) : Bool :=
  let l := t.calibs.take t.n
  let sat : Nat := (l.map (·.1)).foldl (· + ·) 0
  let el : Nat := (l.map (·.2)).foldl (· + ·) 0
  t.theta != 0xFFFFFF && decide (0 < el) && decide (t.theta * el < 2 ^ 24 * sat)

/-- Commit of step s0 on one slot, and whether it raises the calibration event (R167). -/
def commitSlot (s : State) (s0 : Nat) (t : Tracker) : Tracker × Bool :=
  let t := match t.pend.find? (·.step == s0) with
    | some r => { t with hist := (r.amax :: t.hist).take 16, calibs := ((r.sat, r.elems) :: t.calibs).take 16, step := s0 }
    | none => t
  let t := { t with pend := t.pend.filter (·.step != s0) }
  let p := propose s t
  ({ t with exp := p.1, fromHist := p.2 }, calibHit t)

/-- The trackers of a panel commit (R167, R171); their state is saved in place of the copies of the same slots. A copy of
a slot that the present SEAM section does not assign stays (R178). -/
def State.commitTrackers (s : State) (p s0 : Nat) : State :=
  let mine := s.trackers.filter fun t => handlePanel t.handle == p
  let done := mine.map (commitSlot s s0)
  let s := { s with
    trackers := s.trackers.map fun (t : Tracker) => (done.find? (·.1.handle == t.handle)).elim t (·.1)
    trkSaved := s.trkSaved.filter (fun (t : Tracker) => !done.any fun x => x.1.core == t.core && x.1.index == t.index) ++
      done.map fun x => { x.1 with pend := [] } }
  let s := ((mine.map fun t => ((s.logicals p).idxOf t.core) * 8192 / 2 ^ 21).foldl addTo []).foldl
    (fun s i => (s.ensureArea p (trackArea p) i).1) s
  done.foldl (fun s x =>
    if !x.2 then s
    else match s.liveOf x.1.core with
      | some c => (s.setBit .SEAM_CALIB_PENDING c x.1.index).seamEvt c 0
      | none => s) s

/-- A failed vote clears the pending records (R167); after a tracker state error the slots reload their saved copy
(R446), which a slot that never failed equals but for its counts. -/
def State.failTrackers (s : State) (p : Nat) : State :=
  { s with trackers := updWhere (fun t => handlePanel t.handle == p) (fun t => { t with pend := [] }) s.trackers }

/-- Same SEAM section entry. -/
def sameSlot (t : Tracker) (e : SlotCfg) : Bool :=
  t.handle == e.handle && t.core == e.core && t.index == e.index && t.w == e.w && t.margin == e.margin && t.n == e.n &&
    t.theta == e.theta && t.k == e.k && t.eInit == e.eInit

def freshSlot (e : SlotCfg) : Tracker :=
  ⟨e.handle, e.core, e.index, e.w, e.margin, e.n, e.theta, e.k, e.eInit, [], [], e.eInit, false, 0,
    [0, 0, 0, 0, 0, 0], []⟩

/-- A slot entry that takes its handle: none at a lower logical core, then a lower index (R165). -/
def slotWins (l : List SlotCfg) (e : SlotCfg) : Bool :=
  !l.any fun f => f.handle == e.handle && (f.core < e.core || (f.core == e.core && f.index < e.index))

/-- Slots at a panel start (R178): restored from the saved copies whose entry is the same, on an inference panel too (log
entry 146). -/
def State.startTrackers (s : State) (p : Nat) : State :=
  let l := ((seamSecOf s p).map (·.slots)).getD []
  let l := l.filter (slotWins l)
  let saved := fun e => s.trkSaved.find? fun t => sameSlot t e
  let ts := l.map fun e => match saved e with | some t => { t with pend := [] } | none => freshSlot e
  let s := { s with trackers := s.trackers.filter (fun (t : Tracker) => handlePanel t.handle != p) ++ ts }
  (s.coresOf p).foldl (fun s c =>
    s.fset F.SEAM_STATUS_RESTORED c (b2n (l.any fun e => s.liveOf e.core == some c && (saved e).isSome))) s

/-- The snapshot of a slot by items (R177): an empty slot reads 0. -/
def slotItems (s : State) (c i : Nat) : List Word :=
  match trackerAt s c i with
  | none => List.replicate 64 0
  | some t =>
    let n32 := fun (v : Nat) => BitVec.ofNat 32 v
    let e8 := (t.eInit % 256).toNat
    [n32 (t.handle + 2 ^ 31), n32 (t.w - 1 + t.margin * 16 + (t.n - 1) * 64 + t.k * 1024 + e8 * 2 ^ 18), n32 t.theta,
     n32 ((t.exp + 127).toNat + b2n t.fromHist * 256), n32 t.step, n32 t.hist.length] ++ List.replicate 10 0 ++
    (List.range 16).map (fun k => t.hist.getD k 0) ++ (List.range 5).map (fun k => n32 (t.counts.getD k 0)) ++
    [n32 (t.counts.getD 5 0), n32 (t.counts.getD 5 0 / 2 ^ 32)] ++ List.replicate 25 0

def takeSnap (s : State) (c : Nat) : State :=
  s.setCore c { s.core c with trkSnap := slotItems s c (s.fget F.SEAM_TRK_SEL_SLOT c) }

/-- A write to SEAM_TRK_CTRL; `inc` are the events that reach the counters in the same instant (R177). -/
def trkCtrl (s : State) (c : Nat) (w : Word) (inc : List Nat) : State :=
  let s :=
    if bitOf w.toNat 0 then
      match trackerAt s c (s.fget F.SEAM_TRK_SEL_SLOT c) with
      | some t => { s with trackers := updWhere (·.handle == t.handle) (fun t => { t with counts := addCounts [] inc }) s.trackers }
      | none => s
    else s
  if bitOf w.toNat 1 then takeSnap s c else s

def trkSel (s : State) (c : Nat) (w : Word) : State :=
  takeSnap ((s.fset F.SEAM_TRK_SEL_SLOT c (bits w.toNat 0 4)).fset F.SEAM_TRK_SEL_ITEM c (bits w.toNat 4 6)) c

/-! Commands. -/

/-- An observation reaches its slot, or finds a state error there, code 0x0107 (R446). -/
def execTrackerObservation (k : Nat) (ded : Bool) (s : State) : Out :=
  match s.obs[k]? with
  | some o =>
    let t := { s with obs := s.obs.eraseIdx k }
    if ded then
      match (trackerOf s o.handle).bind fun x => s.liveOf x.core with
      | some c => done ((t.fltEvt c 3).coreStepFault 0x0107 c none 0)
      | none => done t
    else done (t.observe o)
  | none => done s

def execSeamTrkSelWrite (a : Agent) (c : Fin 1056) (w : Word) (s : State) : Out :=
  done (s.access a (coreOff c + 0x4020) fun s => trkSel s c w)

def execClearCounts (a : Agent) (c : Fin 1056) (w : Word) (inc : List Nat) (s : State) : Out :=
  done (s.access a (coreOff c + 0x4028) fun s => trkCtrl s c (w ||| 1) inc)

def execResnap (a : Agent) (c : Fin 1056) (w : Word) (s : State) : Out :=
  done (s.access a (coreOff c + 0x4028) fun s => trkCtrl s c (w ||| 2) [])

end Sys2Proof.Machine
end

