-- ==== Sys2Proof/Machine/Panels.lean ====
section
/-! DEFINITION. Panels: the live map and spares, start, stop, force, drain, and the automatic restart (R52 to R64, R441). -/
namespace Sys2Proof.Machine
open Sys2Proof

/-! The live map (R50, R52). -/

/-- On the exclusion list (R53). -/
def onList (s : State) (c : Nat) : Bool :=
  bitOf (s.rd (if dieOf c = 0 then .PAT_EXCLUDED_DIE0 else .PAT_EXCLUDED_DIE1) (c % 528 / 32)).toNat (c % 528 % 32)

/-- Excluded or in the repair map: no logical core may stay there. -/
def unusable (s : State) (c : Nat) : Bool := onList s c || s.repair.contains c

/-- Physical core of a logical core under CORE_MAP. -/
def mapped (s : State) (l : Nat) : Nat := l / 512 * 528 + s.coreMap.getD l 0

/-- Logical cores of every panel. -/
def allLogicals (s : State) : List Nat := (List.range 64).flatMap fun p => s.logicals p

/-- Physical core a panel's logical core holds: live, or by CORE_MAP before a start. -/
def holds (s : State) (l : Nat) : Nat := (s.liveOf l).getD (mapped s l)

/-- Spare of a row, by die. -/
def spareAt (d r : Nat) : Nat := d * 528 + r * 33 + 32

/-- A spare is free: usable, and no logical core of the given ones lies there. -/
def spareFree (s : State) (taken : List Nat) (d r : Nat) : Bool :=
  !unusable s (spareAt d r) && !taken.contains (spareAt d r)

/-- PAT_SPARE_FREE of a die. -/
def spareWord (s : State) (d : Nat) : Nat :=
  maskOf ((List.range 16).filter fun r => spareFree s ((allLogicals s).map (holds s)) d r)

/-- Rows by distance from r, the lower first of two equally near. -/
def rowsNear (r : Nat) : List Nat :=
  (List.range 16).flatMap fun k =>
    if k = 0 then [r] else (if k ≤ r then [r - k] else []) ++ (if r + k < 16 then [r + k] else [])

/-- Live map of a panel at its start; none when a core finds no spare. Cores that must move take their spares in the order of
the panel's core list: DESIGN CHOICE (log entry 167). -/
def buildMap (s : State) (p : Nat) : Option (List (Nat × Nat)) :=
  let ls := s.logicals p
  let others := ((allLogicals s).filter fun l => !ls.contains l).map (holds s)
  let stay := (ls.filter fun l => !unusable s (mapped s l)).map (mapped s)
  (ls.foldl (fun acc l =>
    match acc with
    | none => none
    | some (m, taken) =>
      let c := mapped s l
      if !unusable s c then some (m ++ [(l, c)], taken)
      else
        match (rowsNear (c % 528 / 33)).find? (spareFree s taken (dieOf c)) with
        | none => none
        | some r => some (m ++ [(l, spareAt (dieOf c) r)], spareAt (dieOf c) r :: taken))
    (some (([] : List (Nat × Nat)), others ++ stay))).map (·.1)

/-! Residency (R310, R311). -/

/-- Bytes of a tensor's byte space. -/
def spaceBytes (s : State) (h : Nat) (d : Desc) : Nat :=
  if banked d then (bankLayout s d).bytes * (if s.fbit F.HUB_STEP_STATUS_SINGLE (handlePanel h) then 1 else 2)
  else planesEnd d

/-- Candidates of a panel in their order. -/
def candidates (s : State) (p : Nat) : List (Nat × Desc) :=
  let l := (((s.secsOf p).bind (·.descriptors)).getD []).filterMap fun e =>
    if hResident e.2 then some (p * 2 ^ 14 + e.1, e.2) else none
  (l.mergeSort fun a b => decide (hRank a.2 < hRank b.2) || (hRank a.2 == hRank b.2 && decide (a.1 ≤ b.1)))

/-- Pages of 16 KiB that a candidate puts on each core, dealt round robin from handle mod C. -/
def dealt (c h n i : Nat) : Nat := n / c + b2n (decide ((i + c - h % c) % c < n % c))

/-- Handles made resident, and the number placed in DRAM. -/
def residency (s : State) (p : Nat) : List Nat × Nat :=
  let c := (s.logicals p).length
  let budget := min 288 (((s.secsOf p).bind (·.residency)).getD 0) / 16
  let r := (candidates s p).foldl (fun acc e =>
    let n := cdiv (spaceBytes s e.1 e.2) 16384
    let use := (List.range c).map fun i => dealt c e.1 n i
    if (List.range c).all (fun i => decide (use.getD i 0 + acc.1.getD i 0 ≤ budget)) then
      ((List.range c).map fun i => use.getD i 0 + acc.1.getD i 0, acc.2.1 ++ [e.1], acc.2.2)
    else (acc.1, acc.2.1, acc.2.2 + 1)) (List.replicate c 0, ([] : List Nat), 0)
  (r.2.1, r.2.2)

def State.startResidency (s : State) (p : Nat) : State :=
  let r := residency s p
  let s := s.setPanel p { s.panel p with resident := r.1, residents := r.1.length, spilled := r.2 }
  let ps := (List.range 8).map fun k => p % 8 + 8 * k
  (s.fset F.FELT_RES_STATUS_RESIDENT (p % 8) ((ps.map fun q => (s.panel q).residents).foldl (· + ·) 0)).fset
    F.FELT_RES_STATUS_SPILLED (p % 8) ((ps.map fun q => (s.panel q).spilled).foldl (· + ·) 0)

/-! Start (R61). -/

/-- A physical core leaves its panel: identity cleared, and EXCLUDED with it when a remap took its work (R41). -/
def clearCore (s : State) (c : Nat) : State :=
  (((s.fset F.CORE_ID_LOGICAL c 0).fset F.CORE_ID_MAPPED c 0).fset F.CORE_STATUS_PANEL c 0).fset F.CORE_STATUS_PANEL_VALID c 0

/-- A physical core takes its place in a panel: identity, markers, streams, vectors (R41, R61, R214, R407, R453). -/
def placeCore (s : State) (p l c : Nat) : State :=
  let x := (s.streamsOf p).getD ⟨[], [], [], 0, []⟩
  let s := (((s.fset F.CORE_ID_LOGICAL c l).fset F.CORE_ID_MAPPED c 1).fset F.CORE_STATUS_PANEL c p).fset
    F.CORE_STATUS_PANEL_VALID c 1
  let s := (s.wr .MK_STATE_LO c 0).wr .MK_STATE_HI c 0
  let s := (s.fset F.CORE_FLT_EXCLUDED c 0).fset F.CORE_FLT_COUNTS_WINDOW c 0
  let s := s.dropHandlers [c]
  let s := [Strm.F, .B, .U].foldl (fun s st =>
    (((s.setPc c st (s.entryIx p st)).wr .NDL_STREAM_SEQ (strmIx c st) 0).fset F.NDL_STREAM_STATUS_CAUSE (strmIx c st) 0).setSstate
      c st stIdle) s
  let s := (s.wr .VEC_PEND c 0).wr .VEC_LATCH c 0
  let s := s.wr .VEC_BASE c (BitVec.ofNat 32 x.vecBase)
  let s := (List.range 4).foldl (fun s k => s.wr .VEC_PRIO (c * 4 + k) (BitVec.ofNat 32 (x.vecPrio.getD k 0) &&& 0x77777777)) s
  s.setCore c { s.core c with f := noStream, b := noStream, u := noStream, shp := [], windowOpen := false }

/-- One holder of a group less; a group that nobody holds leaves the list (R241, R245). -/
def dropGroup (s : State) (x : Nat × Nat) : State :=
  let gs := updWhere (fun g : Group => g.pool == x.1 && g.group == x.2) (fun g => { g with refs := g.refs - 1 }) s.groups
  { s with groups := gs.filter fun g => g.refs != 0 }

/-- Release a channel's groups and clear it (R241, R249); its ownership stays. -/
def dropChan (s : State) (k : Nat) : State :=
  let x := s.chan k
  (x.groups.foldl dropGroup s).setChan k
    { x with error := 0, held := false, lens := [], groups := [], keys := [], tokens := [] }

/-- The start of an inference panel releases its channels and removes the tree entries of its pools (R249). -/
def startChans (s : State) (p : Nat) : State :=
  let ks := (s.chans.filter fun e => e.2.owned && e.2.panel == p).map (·.1)
  let s := ks.foldl dropChan s
  { s with tree := s.tree.filter fun e => handlePanel e.pool != p, groups := s.groups.filter fun g => handlePanel g.pool != p }

/-- START of a STOPPED panel: live map, cores, sections (R52, R61); without a spare it stays STOPPED (R63, R64). -/
def State.startPanel (s : State) (p : Nat) : State :=
  match buildMap s p with
  | none =>
    (((s.fset F.PAT_PANEL_STATUS_CAUSE p 0x0F).fset F.PAT_PANEL_STATUS_FORCED p 0).fset F.PAT_PANEL_STATUS_STOP_DONE p 1).raise
      (1057 + p)
  | some m =>
    let old := s.coresOf p
    let moved := (old ++ (s.logicals p).map (mapped s)).filter fun c => s.excluded c && !m.any fun x => x.2 == c
    let s := moved.foldl (fun s c => s.fset F.CORE_STATUS_EXCLUDED c 0) (old.foldl clearCore s)
    let s := old.foldl (fun s c => (s.fset F.CORE_FLT_EXCLUDED c 0).fset F.CORE_FLT_COUNTS_WINDOW c 0) s
    let s := { s with
      live := m.foldl (fun l x => spSet (fun _ => none) l x.1 (some x.2)) s.live
      flights := s.flights.filter (·.panel != p)
      epochs := s.epochs.filter fun e => !(e.1 / 63 == p && e.1 < 4032) && e.1 != voteId p }
    let s := m.foldl (fun s x => placeCore s p x.1 x.2) s
    let s := (s.startTrackers p).startResidency p
    let x := s.panel p
    let s := if x.forceStep then
        s.wr .HUB_STEP_NUM p (BitVec.ofNat 32 (((s.entryOf p).map (·.firstStep)).getD 0)) else s
    let s := s.setPanel p { x with
      forceStep := false, mode1 := false, remap := false, remapStart := false, waitForce := false
      tables := (((s.secsOf p).bind (·.policy)).map (·.tables)).getD [] }
    let s := if s.isInference p then startChans s p else s
    ((s.fset F.PAT_PANEL_STATUS_STATE p psStarting).fset F.PAT_PANEL_STATUS_FORCED p 0).fset F.PAT_PANEL_STATUS_CAUSE p 0

/-- An ignored command of a panel (R63). -/
def badPanelCmd (s : State) (p : Nat) : State :=
  (s.finc F.PAT_COUNTS_BAD_CMD 0 1).fset F.PAT_PANEL_STATUS_CAUSE p 0x20

/-- A write of STOP by software: it cancels the hub's automatic restart (R441). -/
def stopWrite (s : State) (p : Nat) (m1 : Bool) : State :=
  let st := s.pstate p
  let s := s.setPanel p { s.panel p with remap := false, remapStart := false }
  if st == psRunning then s.beginStop p m1
  else if st == psStopping && (s.panel p).mode1 && !m1 then s.beginStop p false
  else s

/-- A write to PAT_PANEL_CTRL (R63). -/
def panelCtrl (s : State) (p : Nat) (w : Word) : State :=
  let stop := bitOf w.toNat 0
  let start := bitOf w.toNat 1
  let force := bitOf w.toNat 2
  let m1 := bitOf w.toNat 3
  let st := s.pstate p
  let s' := s.fset F.PAT_PANEL_CTRL_STOP_MODE p (b2n m1)
  if !stop && !start && !force then s'
  else if start && (stop || force) then badPanelCmd s p
  else if st == psEmpty || st == psStarting || st == psLoading then badPanelCmd (if stop && force && !start then s' else s) p
  else if start then (if st == psStopped then s'.startPanel p else badPanelCmd s p)
  else if force then
    if st == psStopped then s'
    else (s'.setPanel p { s'.panel p with remap := false, remapStart := false }).forceStop p
  else stopWrite s' p m1

/-- A handler of a core of panel p has a push that has not landed. -/
def handlerPush (s : State) (p : Nat) : Bool :=
  s.queues.any fun e => (e.2.acc ++ e.2.stalled).any fun x =>
    match x.src with | .handler c => s.ownerOf c == some p | _ => false

/-- Nothing of a panel is in flight (R56): its macro-instructions have completed, and their writes, records, updates,
pushes and remote sets have landed. A macro-instruction that has completed and waits for cores to issue it is not. -/
def drained (s : State) (p : Nat) : Bool :=
  !s.flights.any (fun f => f.panel == p && !f.done) && !s.fenceUsed.any (fun u => u.2 == p) && !handlerPush s p &&
  !s.slices.any (fun x => x.panel == p) &&
  !s.stalledSlices.any (fun x => x.panel == p) && !s.sideRecs.any (fun x => x.panel == p) &&
  !s.obs.any (fun x => x.panel == p) && !s.updates.any (fun x => x.panel == p)

/-- Every stream of a panel's cores has stopped. -/
def allIdle (s : State) (p : Nat) : Bool :=
  (barCores s p).all fun c => [Strm.F, .B, .U].all fun st => s.sstate c st == stIdle

/-! Commands. -/

def patPanelOff (p : Nat) : Nat := 0x00011000 + 8 * p

def execPanelStop (a : Agent) (p : Fin 64) (w : Word) (s : State) : Out :=
  done (s.access a (patPanelOff p) fun s => panelCtrl s p (w ||| 1))

def execPanelStart (a : Agent) (p : Fin 64) (w : Word) (s : State) : Out :=
  done (s.access a (patPanelOff p) fun s => panelCtrl s p (w ||| 2))

def execPanelForce (a : Agent) (p : Fin 64) (w : Word) (s : State) : Out :=
  done (s.access a (patPanelOff p) fun s => panelCtrl s p (w ||| 4))

/-- A fault recorded against a step aborts it as soon as it begins (R443). -/
def State.dueFault (s : State) (p : Nat) : State :=
  if (s.panel p).nextFault != some (s.fget F.HUB_STEP_NUM_S p) then s
  else (s.setPanel p { s.panel p with nextFault := none, fault := true }).abortStep p

/-- STARTING goes to RUNNING: every stream starts at its entry point (R61, R63, R290). -/
def execPanelStarted (p : Fin 64) (s : State) : Out :=
  if s.pstate p != psStarting then done s
  else
    let s := (s.fset F.PAT_PANEL_STATUS_STATE p psRunning).toEntry p stWait
    done (if s.isTraining p then ((s.fset F.HUB_STEP_STATUS_STATE p vsComputing).abandonMoves p).dueFault p else s)

/-- STOPPING goes to STOPPED once every stream has stopped and everything has landed (R56). -/
def execPanelDrained (p : Fin 64) (s : State) : Out :=
  if s.pstate p == psStopping && !(s.isTraining p && s.vstate p == vsVoting) && drained s p && allIdle s p then
    done ((if (s.panel p).mode1 then s else s.endQuery p).enterStopped p)
  else done s

/-- PAT_DRAIN_TIMEOUT of a mode 0 stop (R58). -/
def execPanelDrainTimeout (p : Fin 64) (s : State) : Out :=
  if s.pstate p == psStopping && !(s.panel p).mode1 then done (s.forceStop p) else done s

/-- The hub writes START after its automatic stop (R441). -/
def execAutoRemapStart (p : Fin 64) (s : State) : Out :=
  if s.pstate p == psStopped && (s.panel p).remapStart then
    done ((s.setPanel p { s.panel p with remapStart := false }).startPanel p)
  else done s

end Sys2Proof.Machine
end

