-- ==== Sys2Proof/Machine/Memory.lean ====
section
/-! DEFINITION. Felts and device DRAM: physical and tensor accesses with their refusals, error correction, the patrol
scrub, and page migration (R51, R291 to R308, R445). -/
namespace Sys2Proof.Machine
open Sys2Proof

/-- Start of a felt's register block (R37). -/
def feltOff (n : Nat) : Nat := 0x08000000 + n * 0x00100000

/-! Checks of an access. -/

/-- A physical access outside a fixed region (R292). -/
def refusePhys (s : State) (a : Nat) : State := s.finc F.FELT_MEM_COUNTS_REFUSED (a / 2 ^ 36 % 8) 1

/-- Write bytes by physical address; answers the status of R380. -/
def State.physWrite (s : State) (a : Nat) (bs : List Byte) : State × Nat :=
  if !s.inFixed a bs.length then (refusePhys s a, rsAccess)
  else
    let (s, ok) := s.ramPut a bs
    (s, if ok then rsOk else rsAccess)

/-- An uncorrectable block was read on felt n: count, address and event (R294). -/
def uncorrFound (s : State) (n a : Nat) : State :=
  (((s.finc F.FELT_MEM_COUNTS_UNCORR n 1).fset F.FELT_ECC_ADDR_LO_ADDR_LO n (a % 2 ^ 32)).fset
    F.FELT_ECC_ADDR_HI_ADDR_HI n (a / 2 ^ 32)).memEvt n 0

/-- An uncorrectable block read for a link or a steward: the felt's events and the record 0x0201 (R445, R451). -/
def uncorrOther (s : State) (n a : Nat) : State := (uncorrFound s n a).errRec ⟨0x0201, 3 + n, none, 0, 3, a, 0, 0⟩

/-- Felt and physical address of a byte of a tensor; one without a page has the first address of its felt's placed region. -/
def placeOf (s : State) (h off : Nat) : Nat × Nat :=
  match pageOf s h (off / 2 ^ 21) with
  | some x => (x.felt, pageBase s x + off % 2 ^ 21)
  | none => (h % 8, h % 8 * 2 ^ 36 + s.fget F.FELT_FIXED_PAGES (h % 8) * 2 ^ 21)

/-- An uncorrectable block of a tensor was read: felt events at the page's felt. Answers the felt and the address. -/
def uncorrTensor (s : State) (h off : Nat) : State × Nat × Nat :=
  let x := placeOf s h off
  (uncorrFound s x.1 x.2, x.1, x.2)

/-- An engine of panel p read an uncorrectable block of a tensor (R445): the fault of the step or of the query. -/
def uncorrEngine (s : State) (p key : Nat) : State :=
  let (s, n, a) := uncorrTensor s (64 * key / 2 ^ 40) (64 * key % 2 ^ 40)
  s.feltStepFault 0x0201 n (some p) a

/-- A core fetched an uncorrectable block (R445): event bit of the core, then the fault. -/
def uncorrCore (s : State) (c key : Nat) (st : Option Strm) : State :=
  let (s, _, a) := uncorrTensor s (64 * key / 2 ^ 40) (64 * key % 2 ^ 40)
  (s.fltEvt c 4).coreStepFault 0x0201 c st a

/-- Read bytes by physical address; answers status and data. -/
def State.physRead (s : State) (a n : Nat) : State × Nat × List Byte :=
  if !s.inFixed a n then (refusePhys s a, rsAccess, [])
  else
    match badAmong s.badPhys a n with
    | k :: _ => (uncorrOther s (a / 2 ^ 36) (64 * k), rsUncorr, [])
    | [] => (s, rsOk, s.dramRead a n)

/-- Write bytes of a tensor's byte space from outside the panel; answers the status. A training panel whose tensor finds no
page has a fault of the step, whoever writes (R302). -/
def State.tensorWrite (s : State) (h off : Nat) (bs : List Byte) : State × Nat :=
  if (s.desc h).isNone then (s, rsAccess)
  else if (badAmong s.badTens (tkey h off) bs.length).any (fun k => !coversBlk (tkey h off) bs.length k) then (s, rsAccess)
  else
    let (s, st) := s.put h (bytePuts off bs)
    (if st = rsPage && s.isTraining (handlePanel h) then s.stepFault (handlePanel h) else s, st)

/-- Read bytes of a tensor's byte space from outside the panel. -/
def State.tensorRead (s : State) (h off n : Nat) : State × Nat × List Byte :=
  if (s.desc h).isNone then (s, rsAccess, [])
  else
    match badAmong s.badTens (tkey h off) n with
    | k :: _ =>
      let (s, n, a) := uncorrTensor s h (64 * k % 2 ^ 40)
      (s.errRec ⟨0x0201, 3 + n, none, 0, 3, a, 0, 0⟩, rsUncorr, [])
    | [] => (s, rsOk, s.tRead h off n)

/-! Requests to a felt (R294, R299, R306). -/

/-- C-die of a requester: a panel's is that of its lowest logical core; the hub has none (log entry 19). -/
def askerDie (s : State) : Asker → Option Nat
  | .panel p => (s.logicals p).head?.map (· / 512)
  | _ => none

/-- Accesses of n bytes of a tensor: 64-byte blocks, counted when the requester has a C-die. -/
def touchRange (s : State) (who : Asker) (h off n : Nat) : State :=
  match askerDie s who with
  | none => s
  | some d => touchBlocks s d h (rangeBlocks off n)

/-- The reach of a steward is the fixed region: it has no access by handle and offset (R411). -/
def outOfReach (who : Asker) : Place → Bool
  | .tensor .. => match who with | .steward _ => true | _ => false
  | .phys _ => false

/-- What the requester does with an error status (R445): panels fault; the answers of links and stewards belong to the
commands that carry their requests. -/
def askerFault (s : State) (who : Asker) (n a : Nat) : State :=
  match who with
  | .panel p => s.feltStepFault 0x0201 n (some p) a
  | _ => s.errRec ⟨0x0201, 3 + n, none, 0, 3, a, 0, 0⟩

/-- A read of a block by its physical address; answers the status. -/
def readPhys (s : State) (who : Asker) (a : Nat) (ecc : Ecc) : State × Nat :=
  if !s.inFixed a 64 then (refusePhys s a, rsAccess)
  else
    let n := a / 2 ^ 36
    if s.badPhys.contains (a / 64) || ecc = .uncorrectable then
      (askerFault (uncorrFound { s with badPhys := addTo s.badPhys (a / 64) } n a) who n a, rsUncorr)
    else (if ecc = .oneSymbol then s.finc F.FELT_MEM_COUNTS_CORRECTED n 1 else s, rsOk)

/-- A read of a block of a tensor; answers the status. -/
def readTens (s : State) (who : Asker) (h off : Nat) (ecc : Ecc) : State × Nat :=
  if isResident s h then (s, rsOk)
  else
    match pageOf s h (off / 2 ^ 21) with
    | none => (s, rsOk)
    | some x =>
      let s := touchRange s who h off 1
      let k := tkey h off / 64
      if s.badTens.contains k || ecc = .uncorrectable then
        let (s, n, a) := uncorrTensor { s with badTens := addTo s.badTens k } h off
        (askerFault s who n a, rsUncorr)
      else (if ecc = .oneSymbol then s.finc F.FELT_MEM_COUNTS_CORRECTED x.felt 1 else s, rsOk)

/-- Keep the status that a request returned to its requester: a steward's error status is its access-fault trap. -/
def State.answer (x : State × Nat) : State := { x.1 with status := x.2 }

/-- A block read: an uncorrectable block stays so (R295). -/
def feltRead (s : State) (who : Asker) (at_ : Place) (ecc : Ecc) : State :=
  State.answer <|
    if outOfReach who at_ then (s, rsAccess)
    else match at_ with
      | .phys a => readPhys s who a ecc
      | .tensor h off => readTens s who h off ecc

/-- A write of a tensor's bytes; answers the status. The panel that writes has a fault of the step or of the query
(R302; log entry 143). -/
def writeTens (s : State) (who : Asker) (h off : Nat) (data : List Byte) : State × Nat :=
  let (s, st) := s.tensorWrite h off data
  let s := if st = rsOk then touchRange s who h off data.length else s
  match who with
  | .panel p => (if st = rsPage && s.isTraining (handlePanel h) then s else s.writeFail p st, st)
  | _ => (s, st)

/-- A write request. -/
def feltWrite (s : State) (who : Asker) (at_ : Place) (data : List Byte) : State :=
  State.answer <|
    if outOfReach who at_ then (s, rsAccess)
    else match at_ with
      | .phys a => s.physWrite a data
      | .tensor h off => writeTens s who h off data

def execFeltRead (who : Asker) (at_ : Place) (ecc : Ecc) (s : State) : Out := done (feltRead s who at_ ecc)

def execFeltWrite (who : Asker) (at_ : Place) (data : List Byte) (s : State) : Out := done (feltWrite s who at_ data)

/-! Patrol scrub (R296). -/

/-- The scrub goes to the next block of its pass. -/
def scrubNext (s : State) (n : Nat) : State :=
  let b := assocGet s.scrubBlock n + 1
  if b < 32768 then { s with scrubBlock := assocPut s.scrubBlock n b }
  else
    let s := { s with scrubBlock := s.scrubBlock.filter (fun e => e.1 != n) }
    let pg := s.fget F.FELT_SCRUB_STATUS_PAGE n + 1
    if pg < 32768 then s.fset F.FELT_SCRUB_STATUS_PAGE n pg
    else (s.fset F.FELT_SCRUB_STATUS_PAGE n 0).fincw F.FELT_SCRUB_STATUS_PASSES n 1

/-- The placed page that a physical address lies in, and the key of its tensor block. -/
def tensAt (s : State) (a : Nat) : Option Nat :=
  (s.pages.find? fun x => decide (pageBase s x ≤ a) && decide (a < pageBase s x + 2 ^ 21)).map fun x =>
    tkey x.handle (x.index * 2 ^ 21) / 64 + (a - pageBase s x) / 64

/-- The block at a physical address is known to be uncorrectable; mark it so (R295). -/
def badAt (s : State) (a : Nat) : Bool :=
  match tensAt s a with | some k => s.badTens.contains k | none => s.badPhys.contains (a / 64)
def markBad (s : State) (a : Nat) : State :=
  match tensAt s a with
  | some k => { s with badTens := addTo s.badTens k }
  | none => { s with badPhys := addTo s.badPhys (a / 64) }

def execScrubStep (n : Fin 8) (ecc : Ecc) (s : State) : Out :=
  let a := n * 2 ^ 36 + s.fget F.FELT_SCRUB_STATUS_PAGE n * 2 ^ 21 + assocGet s.scrubBlock n * 64
  let s :=
    if badAt s a || ecc = .uncorrectable then
      (uncorrFound (markBad s a) n a).errRec ⟨0x0202, 3 + n, none, 0, 3, a, 0, 0⟩
    else if ecc = .oneSymbol then s.finc F.FELT_MEM_COUNTS_CORRECTED n 1 else s
  done (scrubNext s n)

/-! Migration (R306 to R308). -/

/-- A page of a weight or a parameter of a training panel stays while its step computes or settles. -/
def pageHeld (s : State) (x : Page) : Bool :=
  match s.desc x.handle with
  | some d => (dKind d == kWeight || dKind d == kParam) && s.isTraining x.panel &&
      (s.vstate x.panel == vsComputing || s.vstate x.panel == vsSettling)
  | none => false

def migCandidate (s : State) (n : Nat) (x : Page) : Bool :=
  x.felt == n && !x.pinned && x.moving.isNone && decide (2 * x.near ≤ x.far) &&
    decide (s.fget F.FELT_MIG_LIMITS_MIN n ≤ x.far) && !pageHeld s x

/-- Felts of the other C-die, from (n + 4) mod 8 upwards. -/
def otherFelts (n : Nat) : List Nat := (List.range 4).map fun i => (1 - n / 4) * 4 + (n % 4 + i) % 4

def moveTarget (s : State) (n : Nat) (x : Page) : Option Nat :=
  (otherFelts n).find? fun m => (feltsOf s x.handle).1.contains m && (quotaLeft s x.panel m || poolLeft s m)

def samePage (a b : Page) : Bool := a.handle == b.handle && a.index == b.index

/-- A page goes to a place of felt m: its old place is free, and every block of the new one has been written. -/
def movePage (s : State) (x : Page) (m : Nat) : State :=
  let y := { x with felt := m, moving := none, near := x.far, far := x.near, phys := pickPhys s m }
  let a := pageBase s y
  { s with
    pages := updWhere (samePage x) (fun _ => y) s.pages
    badPhys := s.badPhys.filter fun k => !inPage a k }.useFree 1

def startMoves (s : State) (n : Nat) : State :=
  if !s.fbit F.FELT_MIG_LIMITS_ENABLE n then s
  else
    let cs := ((s.pages.filter (migCandidate s n)).mergeSort fun (a b : Page) => decide (b.far ≤ a.far)).take
      (s.fget F.FELT_MIG_LIMITS_MAX n)
    cs.foldl (fun s x =>
      match moveTarget s n x with
      | some m => { s with pages := updWhere (samePage x) (fun y => { y with moving := some m }) s.pages }
      | none => s) s

def execMigrationInterval (n : Fin 8) (s : State) : Out :=
  let s := startMoves s n
  done { s with pages := updWhere (fun x => x.felt == n.val) (fun x => { x with near := x.near / 2, far := x.far / 2 }) s.pages }

/-- The move ends: the map entry switches and the old page is freed; an uncorrectable block of it abandons the move
(R445), and so does a step that computes (R308). -/
def execPageMoveDone (n : Fin 8) (handle : Nat) (page : Nat) (s : State) : Out :=
  match s.pages.find? fun x => x.handle == handle && x.index == page && x.felt == n.val with
  | none => done s
  | some x =>
    match x.moving with
    | none => done s
    | some m =>
      let stay := { s with pages := updWhere (samePage x) (fun y => { y with moving := none }) s.pages }
      match badAmong s.badTens (tkey handle (page * 2 ^ 21)) (2 ^ 21) with
      | k :: _ =>
        let (s, m, a) := uncorrTensor (stay.finc F.FELT_PLC_COUNTS_ABANDONED n 1) handle (64 * k % 2 ^ 40)
        done (s.errRec ⟨0x0201, 3 + m, none, 0, 3, a, 0, 0⟩)
      | [] =>
        if pageHeld s x then done (stay.finc F.FELT_PLC_COUNTS_ABANDONED n 1)
        else done ((movePage s x m).finc F.FELT_PLC_COUNTS_MIGRATED n 1)

end Sys2Proof.Machine
end

