-- ==== Sys2Proof/Machine/Gauze.lean ====
section
/-! DEFINITION. The arithmetic of the forward array: twill, entry quantisation, picot, groups and runs, the exact fallback,
reference mode, and the drain scale (R98 to R126). -/
namespace Sys2Proof.Machine
open Sys2Proof

def Cnt.none : Cnt := ⟨0, 0, 0, 0, 0, 0, 0, 0, false, false⟩
def Cnt.plus (a b : Cnt) : Cnt :=
  ⟨a.ovf + b.ovf, a.unf + b.unf, a.loss + b.loss, a.povf + b.povf, a.sat + b.sat, a.t2 + b.t2, a.twSat + b.twSat,
    a.twLoss + b.twLoss, a.inf || b.inf, a.fall || b.fall⟩

/-- Largest finite values of FP32 and BF16. -/
def maxF32 : FV := fp32.decode fp32.maxCode
def maxB16 : FV := bf16.decode bf16.maxCode

/-- One addition of an accumulator (R116, R118, R134): the value and whether it saturated. -/
def accAdd (acc : Word) (v : FV) : Word × Bool :=
  let x := (f32 acc).add v
  (rne32 x, sat32 x)

/-- Exact sum of values, +0 when empty (R95). -/
def sumFV (vs : List FV) : FV := vs.foldl FV.add FV.zero

/-! Twill (R99 to R103). -/

/-- Signs of a twill block that starts at b: true for −1. Position k takes bit k mod 32 of the word k ÷ 32; a block of
16 may start in the middle of a word. -/
def twillSigns (seed : DWord) (b n : Nat) : List Bool :=
  ((List.range ((n + 31) / 32)).flatMap fun i =>
    let w := srBits seed 0 (b / 32 + i) 0 0
    (List.range 32).map fun j => bitOf w j).drop (b % 32)

/-- The rotation of one block with the scale 2^(−a): each value rounded once into FP32, with its saturation. -/
def rotate (signs : List Bool) (a : Nat) (xs : List FV) : List (Word × Bool) :=
  if xs.any FV.isNan then xs.map fun _ => (fNan, false)
  else
    let ys := (xs.zip signs).map fun p => if p.2 then p.1.neg else p.1
    (List.range xs.length).map fun i =>
      let t := ((List.range ys.length).map fun j =>
        let y := ys.getD j FV.zero
        if popCount 8 (i &&& j) % 2 == 1 then y.neg else y)
      let y := (sumFV t).scale2 (-(a : Int))
      (rne32 y, sat32 y)

/-- Twill size of a descriptor; 0 off. -/
def twillSize (d : Desc) : Nat := if dTwill d = 0 then 0 else 2 ^ (4 + dTwill d)

/-- A row of activations rotated at entry: the values and the GZ_SAT events (R100, R103). -/
def twillRow (d : Desc) (k0 : Nat) (xs : List FV) : List FV × Nat :=
  let n := twillSize d
  let t := n.log2
  let bs := (List.range (xs.length / n)).map fun i =>
    let b := (xs.drop (i * n)).take n
    let infs := b.countP FV.isInf
    let b := b.map fun x => match x with | .inf s => (if s then maxB16.neg else maxB16) | _ => x
    let r := rotate (twillSigns (BitVec.ofNat 64 (dSeed d)) (k0 + i * n) n) ((t + 1) / 2) b
    (r.map fun y => f32 y.1, infs + r.countP (·.2))
  (bs.flatMap (·.1), (bs.map (·.2)).foldl (· + ·) 0)

/-! Picot (R106 to R110). -/

/-- A picot entry: row, K position, value. -/
abbrev Picot := Nat × Nat × FV

/-- Finite elements with their positions by magnitude, largest first, the lower position first at a tie. -/
def byMagnitude : Nat → List (Nat × FV) → List (Nat × FV)
  | 0, _ => []
  | n + 1, l =>
    match l.foldl (fun (b : Option (Nat × FV)) (e : Nat × FV) => match b with
        | some c => if c.2.abs.lt e.2.abs then some e else b
        | none => some e) none with
    | none => []
    | some c => c :: byMagnitude n (l.filter fun e => e.1 != c.1)

/-- Elements that stand out in a span (R107): q of the ordered magnitudes. -/
def outliers (tau : FV) : List (Nat × FV) → Nat
  | a :: b :: l =>
    if b.2.isZero then 0
    else if (tau.mul b.2.abs).lt a.2.abs then 1 + outliers tau (b :: l) else 0
  | _ => 0

/-- PICOT_SELECT: positions that leave, and the surplus. -/
def picotSelect (tau : FV) (slots free : Nat) (xs : List FV) : List Nat × Nat :=
  if xs.any FV.isNan then ([], 0)
  else
    let l := ((List.range xs.length).zip xs).filter fun e => !e.2.isInf
    let o := byMagnitude l.length l
    let q := outliers tau o
    let r := min q (min slots free)
    ((o.take r).map (·.1), q - r)

/-- The factor τ of a layer, at least 1.0 (R106). -/
def tauOf (l : Layer) : FV := let t := bf16.decode l.tau.toNat; if t.lt FV.one then FV.one else t

/-- Selection over the rows of a segment, spans in K order and rows within: rows without what left, entries, surplus. -/
def picotRows (l : Layer) (k0 : Nat) (rows : List (List FV)) : List (List FV) × List Picot × Nat :=
  let len := (rows.headD []).length
  (List.range (cdiv len 32)).foldl (fun acc sp => (List.range rows.length).foldl (fun acc r =>
    let row := acc.1.getD r []
    let xs := (row.drop (32 * sp)).take 32
    let (out, sur) := picotSelect (tauOf l) l.picotSlots (8192 - acc.2.1.length) xs
    let ents : List Picot := out.map fun i =>
      (r, k0 + 32 * sp + i, bf16.decode (bf16.convert .rne (xs.getD i FV.zero)).code)
    let row' := out.foldl (fun (w : List FV) i => w.set (32 * sp + i) FV.zero) row
    (acc.1.set r row', acc.2.1 ++ ents, acc.2.2 + sur)) acc) (rows, [], 0)

/-! Entry quantisation (R104, R105, R112). -/

/-- How entry conversions round and index: kind of rounding by position. -/
structure Entry where
  el : Elem
  blk : Nat
  square : Bool
  src : FV
  k : Nat
  eIn : Option Int
  learned : Learned
  deriving DecidableEq, Repr

/-- Values of a block's elements after quantisation. -/
def quantValues (x : Entry) (xs : List (FV × Rnd)) : List FV × Evs × Word :=
  let (bx, codes, ev) := quantBlock x.el x.src x.k x.eIn xs
  (codes.map fun c => blockValue bx (x.el.value 0 [] c), ev, blockAmax x.el x.src (xs.map (·.1)))

/-- Entry quantisation of rows of one segment: the values that enter the multiplier, events, amax. `rnd r i` rounds
element i of row r. -/
def entryRows (x : Entry) (rnd : Nat → Nat → Rnd) (rows : List (List FV)) : List (List FV) × Evs × Word :=
  if x.blk = 0 then
    let cs := (List.range rows.length).map fun r =>
      let row := rows.getD r []
      (List.range row.length).map fun i => learnedConv x.el x.learned (rnd r i) (row.getD i FV.zero)
    let all := cs.flatten
    (cs.map fun l => l.map fun c => x.el.value x.learned.zero x.learned.table c.code,
      ⟨all.countP (·.sat), all.countP (·.unf), all.countP (·.nan), 0, 0⟩, 0)
  else
    let len := (rows.headD []).length
    let tall := if x.square then x.blk else 1
    (List.range (cdiv rows.length tall)).foldl (fun acc g =>
      let rs := (List.range tall).filterMap fun j => if g * tall + j < rows.length then some (g * tall + j) else none
      (List.range (cdiv len x.blk)).foldl (fun acc b =>
        let w := min x.blk (len - b * x.blk)
        let cells := rs.flatMap fun r => (List.range w).map fun i => (r, b * x.blk + i)
        let (vs, ev, am) := quantValues x (cells.map fun c => ((rows.getD c.1 []).getD c.2 FV.zero, rnd c.1 c.2))
        let out := (cells.zip vs).foldl (fun (o : List (List FV)) p => o.set p.1.1 ((o.getD p.1.1 []).set p.1.2 p.2)) acc.1
        (out, acc.2.1.plus ev, magMax acc.2.2 am)) acc) (rows, Evs.none, 0)

/-! Contributions and runs (R113 to R117). -/

/-- A contribution after the range check of R115, with its counts; `exact` on the fallback and under REF. -/
def rangeCheck (exact : Bool) (v : FV) : FV × Cnt :=
  match v with
  | .fin s m e =>
    if m ≠ 0 && dyLt m e 1 (-149) then (.fin s 0 0, { Cnt.none with unf := 1 })
    else if !exact && maxF32.lt v.abs then ((if s then maxF32.neg else maxF32), { Cnt.none with ovf := 1 })
    else (v, Cnt.none)
  | _ => (v, Cnt.none)

/-- Sum of values truncated toward zero to multiples of 2^q, in units of 2^q, and how many lost bits. -/
def truncSum (q : Int) (vs : List FV) : Int × Nat :=
  vs.foldl (fun a v => match v with
    | .fin s m e =>
      if q ≤ e then (a.1 + sgn s (m * 2 ^ (e - q).toNat), a.2)
      else
        let k := (q - e).toNat
        (a.1 + sgn s (m / 2 ^ k), a.2 + b2n (m % 2 ^ k != 0))
    | _ => a) (0, 0)

/-- floor(log2) of the largest non-zero magnitude; none when all are zero. -/
def topExp (vs : List FV) : Option Int :=
  vs.foldl (fun b v => match v with
    | .fin _ m e => if m = 0 then b else
        let x : Int := m.log2 + e
        match b with | some y => some (max x y) | none => some x
    | _ => b) none

/-- Contributions of one output element: by group, each after R115. -/
def contributions (exact : Bool) (g k0 : Nat) (a w : List FV) (pics : List (Nat × FV)) : List (List FV) × Cnt :=
  (List.range (cdiv a.length g)).foldl (fun acc i =>
    let ps := (((a.drop (i * g)).take g).zip ((w.drop (i * g)).take g)).map fun p => p.1.mul p.2
    let pc := (pics.filter fun e => (e.1 - k0) / g == i).map fun e => e.2.mul (w.getD (e.1 - k0) FV.zero)
    let rs := (sumFV ps :: pc).map (rangeCheck exact)
    (acc.1 ++ [rs.map (·.1)], rs.foldl (fun c r => c.plus r.2) acc.2)) ([], Cnt.none)

/-- One run into the accumulator: FP32, whether a NaN was met, counts. -/
def runInto (x : Word × Bool × Cnt) (vs : List FV) : Word × Bool × Cnt :=
  let live := vs.filter (!·.isNan)
  let (run, loss) := match topExp live with
    | none => (FV.zero, 0)
    | some e => let t := truncSum (e - 32) live; (dyNorm t.1 (e - 32), t.2)
  let (acc, sat) := accAdd x.1 run
  (acc, x.2.1 || vs.any FV.isNan, x.2.2.plus { Cnt.none with loss := loss, sat := b2n sat })

/-- The exact sum of one group into the accumulator (R120). -/
def exactInto (x : Word × Bool × Cnt) (vs : List FV) : Word × Bool × Cnt :=
  let (acc, sat) := accAdd x.1 (sumFV (vs.filter (!·.isNan)))
  (acc, x.2.1 || vs.any FV.isNan, x.2.2.plus { Cnt.none with sat := b2n sat })

/-- Lists of n consecutive elements. -/
def chunks (n : Nat) (l : List α) : List (List α) := (List.range (cdiv l.length n)).map fun i => (l.drop (i * n)).take n

/-- How a segment accumulates. -/
inductive AccMode where
  | normal | fallback | ref
  deriving DecidableEq, Repr

/-- Accumulator of one element of one segment: GAUZE_NORMAL, the exact fallback, or the wide result. A group without
contributions was not computed (R220). -/
def accumulate (mode : AccMode) (run : Nat) (groups : List (List FV)) : Word × Cnt :=
  let start : Word × Bool × Cnt := (0, false, Cnt.none)
  let r := match mode with
    | .normal => (((chunks run groups).map List.flatten).filter fun (l : List FV) => !l.isEmpty).foldl runInto start
    | .fallback => (groups.filter fun (l : List FV) => !l.isEmpty).foldl exactInto start
    | .ref => if groups.flatten.any FV.isNan then (fNan, true, Cnt.none) else exactInto start groups.flatten
  (if r.2.1 then fNan else r.1, r.2.2)

/-- Accumulators of a tile: rows of activations, columns of weights, picot entries. -/
def gauzeTile (mode : AccMode) (run g k0 : Nat) (rows cols : List (List FV)) (pics : List Picot) :
    List (List Word) × Cnt :=
  let es := (List.range rows.length).map fun r =>
    let mine := (pics.filter (·.1 == r)).map (·.2)
    cols.map fun w =>
      let c := contributions (mode != .normal) g k0 (rows.getD r []) w mine
      let x := accumulate mode run c.1
      (x.1, c.2.plus x.2)
  (es.map fun l => l.map (·.1), es.flatten.foldl (fun c e => c.plus e.2) Cnt.none)

/-- A pass of a tile segment in its mode, and again on the fallback when its loss exceeds the layer's limit (R119, R122):
accumulators, counts, whether it was exact. -/
def gauzePass (ref : Bool) (ly : Layer) (go : AccMode → List (List Word) × Cnt) : List (List Word) × Cnt × Bool :=
  let mode := if ref then AccMode.ref else if ly.fallback then .fallback else .normal
  let r := go mode
  if mode == .normal && ly.alignLimit != 0xFFFF && decide (ly.alignLimit < r.2.loss) then
    let e := go .fallback
    (e.1, { r.2.plus e.2 with fall := true }, true)
  else (r.1, r.2, mode != .normal)

/-! Drain (R124, R125). -/

/-- A drain scale entry: code and whether it counts SAT. The manual gives M and S of finite non-zero entries only; the model
writes 0 into them beside ZERO or NAN, and NEG 1 for a σ of −0 (DESIGN CHOICE, log entry 156). -/
def encodeSigma (sc sa : FV) : Word × Bool :=
  let x := sc.mul sa
  match x with
  | .nan => (BitVec.ofNat 32 (2 ^ 27), false)
  | _ =>
    let sat := x.isInf || sat32 x
    let y := match x with | .inf s => (if s then maxF32.neg else maxF32) | _ => f32 (rne32 x)
    match y with
    | .fin s m e =>
      if m = 0 then (BitVec.ofNat 32 (2 ^ 26 + b2n s * 2 ^ 25), sat)
      else
        let t : Int := m.log2 + e
        let n := roundTo m e (t - 15) .rne
        let (n, sh) := if n = 0x10000 then (0x8000, 14 - t) else (n, 15 - t)
        (BitVec.ofNat 32 (n + (sh % 512).toNat * 2 ^ 16 + b2n s * 2 ^ 25), sat)
    | _ => (BitVec.ofNat 32 (2 ^ 27), sat)

/-- The drain of an accumulator by an entry: value and saturation. -/
def drainApply (acc ent : Word) : Word × Bool :=
  let n := ent.toNat
  let neg := bitOf n 25
  match f32 acc with
  | .nan => (fNan, false)
  | .inf s =>
    if bitOf n 27 || bitOf n 26 then (fNan, false) else ((if s != neg then 0xFF800000 else fInf), false)
  | .fin s m e =>
    if bitOf n 27 then (fNan, false)
    else if bitOf n 26 then ((if s != neg then 0x80000000 else 0), false)
    else if m = 0 then ((if neg then 0x80000000 else 0), false)
    else
      let y := FV.fin (s != neg) (m * bits n 0 16) (e - sext 9 (bits n 16 9))
      (rne32 y, sat32 y)

end Sys2Proof.Machine
end

