-- ==== Sys2Proof/Machine/Tweed.lean ====
section
/-! DEFINITION. The arithmetic of the backward array: groups and the accumulator, reference mode, the input-gradient
drain with its derivative tables, and side reductions (R131 to R148, R172 to R174). -/
namespace Sys2Proof.Machine
open Sys2Proof

/-- The contribution of a group from its products (R132, R133), `exact` without truncation, and products that lost bits. -/
def groupValue (exact : Bool) (ps : List FV) : FV × Nat :=
  let infs := ps.filter FV.isInf
  if ps.any FV.isNan then (.nan, 0)
  else
    match infs with
    | .inf s :: _ => (if infs.all (· == .inf s) then .inf s else .nan, 0)
    | _ =>
      if exact then (sumFV ps, 0)
      else match topExp ps with
        | none => (FV.zero, 0)
        | some e => let t := truncSum (e - 64) ps; (dyNorm t.1 (e - 64), t.2)

/-- One element of one segment from its groups of products (R134, R136): accumulator and counts. -/
def tweedOver (ref : Bool) (groups : List (List FV)) : Word × Cnt :=
  (if ref then [groups.flatten] else groups).foldl (fun x grp =>
    let (v, loss) := groupValue ref grp
    let (acc, sat) := accAdd x.1 v
    (acc, x.2.plus { Cnt.none with twLoss := loss, twSat := b2n sat })) ((0 : Word), Cnt.none)

def products (a b : List FV) : List FV := (a.zip b).map fun p => p.1.mul p.2

/-- The same from two vectors, groups aligned at position 0. -/
def tweedDot (ref : Bool) (g : Nat) (a b : List FV) : Word × Cnt := tweedOver ref (chunks g (products a b))

/-- Accumulators of a tile. -/
def tweedTile (ref : Bool) (g : Nat) (rows cols : List (List FV)) : List (List Word) × Cnt :=
  let es := rows.map fun a => cols.map fun b => tweedDot ref g a b
  (es.map fun l => l.map (·.1), es.flatten.foldl (fun c e => c.plus e.2)
    { Cnt.none with inf := rows.flatten.any FV.isInf || cols.flatten.any FV.isInf })

/-! Derivatives (R145 to R147). -/

/-- Constants of a table: z_lo, j, LEFT, RIGHT, and a coefficient by segment. -/
structure Deriv where
  zLo : Word
  j : Int
  left : Word
  right : Word
  coef : Nat → Nat → Word

/-- A table that holds finite values only and a legal j (R147). -/
def tableOk (t : DerivTable) : Bool :=
  decide (-20 ≤ t.j) && decide (t.j ≤ 8) && 
  [t.zLo, t.left, t.right].all (fun w => !(f32 w).isNan && !(f32 w).isInf) &&
  t.coef.all fun l => l.all fun w => !(f32 w).isNan && !(f32 w).isInf

/-- A coefficient of a built-in table: free but for c0 of segment 0 of table 0x1, which TW_TBL_DATA reads as 0 at reset
(R156, R157; log entry 12). -/
def romCoef (code i k : Nat) : Word := if code = 1 && i = 0 && k = 0 then 0 else Config.derivCoef code i k

/-- The table of a DERIV code other than 0x0 and 0x6 as it is stored; none when reserved or undefined. -/
def storedTable (tables : List (Option DerivTable)) (code : Nat) : Option Deriv :=
  if 1 ≤ code && code ≤ 5 then
    some ⟨0xC1800000, -3, 0, if code ≤ 3 then fOne else 0, romCoef code⟩
  else if 8 ≤ code && code ≤ 11 then
    (tables.getD (code - 8) none).map fun t => ⟨t.zLo, t.j, t.left, t.right, fun i k => (t.coef.getD i []).getD k 0⟩
  else none

/-- The same; none when not legal. -/
def derivTable (tables : List (Option DerivTable)) (code : Nat) : Option Deriv :=
  if 8 ≤ code && !((tables.getD (code - 8) none).any tableOk) then none else storedTable tables code

/-- One line of the polynomial: an exact multiply-add rounded once. -/
def fma (p t c : Word) : Word × Bool :=
  let x := ((f32 p).mul (f32 t)).add (f32 c)
  (rne32 x, sat32 x)

/-- floor of a non-negative finite value. -/
def floorFV : FV → Nat
  | .fin _ m e => if 0 ≤ e then m * 2 ^ e.toNat else m / 2 ^ (-e).toNat
  | _ => 0

/-- DERIV(z) of a table, with the saturations of its lines. -/
def derivEval (t : Deriv) (z : FV) : Word × Nat :=
  if z.isNan then (fNan, 0)
  else if z.lt (f32 t.zLo) then (t.left, 0)
  else if z.isInf then (t.right, 0)
  else
    let u := (z.sub (f32 t.zLo)).scale2 (-t.j)
    let i := floorFV u
    if 256 ≤ i then (t.right, 0)
    else
      let x := rne32 (u.sub (.ofInt i))
      let a := fma (t.coef i 3) x (t.coef i 2)
      let b := fma a.1 x (t.coef i 1)
      let c := fma b.1 x (t.coef i 0)
      (c.1, b2n a.2 + b2n b.2 + b2n c.2)

/-- A built-in table never saturates and keeps within 2^−20 of the true derivative over [−16, 16) (R145, R146): where the
free coefficients do not, the value is the rounded true one (log entry 12). -/
def keepDeriv (code : Nat) (z : FV) (y : Word × Nat) : Word × Nat :=
  match z with
  | .fin s m e =>
    let x := fxOf s m e
    if -16 * fxOne ≤ x && x < 16 * fxOne then
      let v := fvOfFx (fxDeriv code x) 0
      (if y.2 == 0 && within absErr y.1 v then y.1 else rne32 v, 0)
    else y
  | _ => y

/-- DERIV by code. -/
def deriv (tables : List (Option DerivTable)) (code : Nat) (z : FV) : Word × Nat :=
  if code = 6 then
    if z.isNan then (fNan, 0) else if FV.zero.lt z then (fOne, 0) else (0, 0)
  else match derivTable tables code with
    | some t => let y := derivEval t z; if code ≤ 5 then keepDeriv code z y else y
    | none => (fOne, 0)

/-- DRAIN_T up to OUTPUT (R144): the value after the addend, the value, and the saturations. -/
def drainT (tables : List (Option DerivTable)) (code : Nat) (acc : Word) (addend z : Option FV) : Word × Word × Nat :=
  let (g, s1) := match addend with | some a => accAdd acc a | none => (acc, false)
  match z with
  | none => (g, g, b2n s1)
  | some z =>
    let (d, s2) := deriv tables code z
    let x := (f32 g).mul (f32 d)
    (g, rne32 x, b2n s1 + s2 + b2n (sat32 x))

/-! Side reductions (R172 to R174). -/

/-- Σ g × q over a list, exact, rounded once: value and saturation. NaN when any term is NaN. -/
def sideSum (xs : List (Word × FV)) : Word × Bool :=
  let x := sumFV (xs.map fun p => (f32 p.1).mul p.2)
  (rne32 x, sat32 x)

end Sys2Proof.Machine
end

