-- ==== Sys2Proof/Machine/Product.lean ====
section
/-! DEFINITION. Products: their checks and plans, the computation of units, drains, deliveries under claim bits, split
combines, slices and side records (R142 to R154, R172 to R174, R185 to R211, R260 to R264, R501). -/
namespace Sys2Proof.Machine
open Sys2Proof

/-! Shape of a product (R192). -/

def opG : Nat := 1
def opT : Nat := 2
def opTdx : Nat := 3
def opTdw : Nat := 4

/-- The descriptor of a handle field; empty when there is none. -/
def descOf (s : State) (fld : Nat) : Desc := (s.desc (hHandle fld)).getD []

/-- A weight that a Tweed product reads as its Tweed copy (R139, R140). -/
def isCopy (op : Nat) (d : Desc) : Bool := op != opG && dKind d == kWeight

/-- Storage dimension that SRC1 matches to K: true for d1 (R192). When both dimensions of a Tweed copy equal K, RED_DIM
decides in the copy's own storage order, whose dimension 0 is forward N (R139; DEDUCED, log entry 152). -/
def redOf (op : Nat) (b : Desc) (k : Nat) : Option Bool :=
  if isCopy op b && dN b == k then some (dK b == k || !dRed b)
  else if dK b = k then some (dRed b)
  else if op != opG && dN b == k then some (!dRed b)
  else none

/-- Planned sizes of a product. -/
structure Dims where
  k : Nat
  m : Nat
  n : Nat
  redB : Bool
  deriving DecidableEq, Repr

def dimsOf (op : Nat) (a b : Desc) : Option Dims :=
  (redOf op b (dK a)).map fun r => ⟨dK a, dN a, if r then dCols b else dRows b, r⟩

/-- Folds of a descriptor equal those of another, or are both 1. -/
def foldsMatch (a dst : Desc) : Bool := dDim a 2 == dDim dst 2 && dDim a 3 == dDim dst 3
def oneFold (d : Desc) : Bool := dDim d 2 == 1 && dDim d 3 == 1

/-- A window descriptor plans its weight (R261). -/
def windowPlan (s : State) (d : Desc) : Bool :=
  match s.desc (hHandle (dPartner d)) with
  | some w => !hPresent (dPartner d) || dKind w != kWeight ||
      (if dRed d then dCols d == dN w && dRows d == dK w else dCols d == dK w && dRows d == dN w)
  | none => true

def shapeBad (s : State) (m : List Byte) : Bool :=
  let op := miOpcode m
  let a := descOf s (miSrc m 0); let b := descOf s (miSrc m 1); let dst := descOf s (miDst m)
  match dimsOf op a b with
  | none => true
  | some x =>
    let want := if dKind dst = kWindow && !dRed dst then (x.n, x.m) else (x.m, x.n)
    !foldsMatch a dst || !(foldsMatch b dst || oneFold b) || (dRows dst, dCols dst) != want ||
    (dKind dst == kWindow && !windowPlan s dst) ||
    (op == opG && hPresent (miSrc m 2) &&
      (let e := descOf s (miSrc m 2)
       dCols e != x.n || dRows e != 1 || !(foldsMatch e dst || oneFold e)))

/-! Formats of a product (R79, R80, R82, R104, R126, R142, R144, R185). -/

/-- Geometry at the multiplier: a WIDE activation of Gauze in the format its ID names, a Tweed copy as WB8-K32. -/
def multGeo (op : Nat) (d : Desc) : Geo :=
  if isCopy op d then ⟨.e4, 32, .k⟩
  else if op = opG then (fmtGeo (dFormat d) (dBlock d)).getD ⟨.f32, 0, .k⟩
  else storeGeo d

/-- Blocks along the reduction dimension, or square, or none. -/
def blocksOk (op : Nat) (d : Desc) (red : Bool) : Bool :=
  if isCopy op d then red != dRed d
  else
    let g := multGeo op d
    g.blk == 0 || g.axis (dRed d) == 2 || g.axis (dRed d) == b2n red

/-- FP32, BF16 or FP16 of the output's shape. -/
def plainLike (d dst : Desc) : Bool :=
  let e := (storeGeo d).elem
  !formatBad d && (e == .f32 || e == .b16 || e == .f16) && dCols d == dCols dst && dRows d == dRows dst && foldsMatch d dst

def derivCode (s : State) (p : Nat) (m : List Byte) : Nat :=
  if miOpcode m = opTdx then ((layerAt s p m).map (·.deriv)).getD 0 else 0

def productFormatBad (s : State) (p : Nat) (m : List Byte) : Bool :=
  let op := miOpcode m
  let a := descOf s (miSrc m 0); let b := descOf s (miSrc m 1); let dst := descOf s (miDst m)
  let ea := (multGeo op a).elem; let eb := (multGeo op b).elem
  let wide16 := fun (e : Elem) => e == .b16 || e == .f16
  let red := ((dimsOf op a b).map (·.redB)).getD false
  ea == .f32 || eb == .f32 || (wide16 ea && wide16 eb && ea != eb) ||
  (op == opG && (dRed a || dRed b || wide16 ea || wide16 eb || dWide b || decide (0x13 ≤ dFormat a) || dFormat b == 0x12 ||
    (!dWide a && dTwill a != 0) ||
    (hPresent (miSrc m 2) && (dWide (descOf s (miSrc m 2)) || decide (2 < dFormat (descOf s (miSrc m 2))))))) ||
  !blocksOk op a (dRed a) || !blocksOk op b red ||
  ((op == opT || op == opTdx) && hPresent (miSrc m 2) && !plainLike (descOf s (miSrc m 2)) dst) ||
  (derivCode s p m != 0 && !plainLike (descOf s (dDerivSrc dst)) dst)

/-- TWILL_MISMATCH (R101). -/
def twillBad (s : State) (m : List Byte) : Bool :=
  let a := descOf s (miSrc m 0); let b := descOf s (miSrc m 1)
  let n := twillSize a
  miOpcode m == opG && (dTwill a != dTwill b || (n != 0 && (dSeed a != dSeed b || dK a % n != 0 || dK b % n != 0)))

/-- A product runs on Tweed by its formats (R80). -/
def fmtDiverts (s : State) (m : List Byte) : Bool :=
  miOpcode m == opG && ((multGeo opG (descOf s (miSrc m 0))).elem == .e5 || (multGeo opG (descOf s (miSrc m 1))).elem == .e5)

/-- WGRAD_TARGET (R152). -/
def wgradBad (s : State) (m : List Byte) : Bool :=
  let d := descOf s (miDst m)
  miOpcode m == opTdw && (dKind d != kWindow || (hPresent (dPartner d) && dFrozen (descOf s (dPartner d))))

def productCheck (s : State) (p : Nat) (m : List Byte) : Nat :=
  if shapeBad s m then 0x06
  else if productFormatBad s p m then 0x07
  else if twillBad s m then 0x08
  else if derivCode s p m != 0 && derivCode s p m != 6 && (derivTable (s.panel p).tables (derivCode s p m)).isNone then 0x09
  else if wgradBad s m then 0x0A
  else 0

/-- Handles that descriptors of a product must name: the derivative source, the PARAM of an INT4 activation, the INT4
activation of side reductions (R144, R172, R189). -/
def productNeeds (s : State) (p : Nat) (m : List Byte) : List Nat :=
  let a := descOf s (miSrc m 0); let dst := descOf s (miDst m)
  (if derivCode s p m = 0 then [] else [dDerivSrc dst]) ++
  (if dFormat a = 0x12 && hPresent (miSrc m 0) then [dParam a] else []) ++
  (if miOpcode m = opTdx && hPresent (dLscale dst) then [dLscale dst] else [])

/-! The plan (R200 to R203, R501). -/

/-- Largest power of two at most x and at most 64; 1 when none is greater. -/
def powTo (x : Nat) : Nat := (List.range 7).foldl (fun a i => if 2 ^ i ≤ x then 2 ^ i else a) 1

/-- Bytes of an operand of n × k elements. -/
def operandBytes (g : Geo) (n k : Nat) : Nat := cdiv (n * k * g.elem.bits) 8

/-- K chunk: the largest multiple of 32 whose two staged operands fit 128 KiB twice over (R202). -/
def chunkOf (l bits : Nat) : Nat := min l (8192 / bits) / 32 * 32

def productPlan (s : State) (c : Nat) (m : List Byte) : Plan :=
  let op := miOpcode m
  let a := descOf s (miSrc m 0); let b := descOf s (miSrc m 1); let dst := descOf s (miDst m)
  let x := (dimsOf op a b).getD ⟨dK a, dN a, dN b, false⟩
  let g := storeGeo dst
  let dr := g.blk == 128 && g.axis (dRed dst) == 1
  let dc := g.blk == 128 && g.axis (dRed dst) == 0
  let rt := cdiv x.m (if dr then 128 else 64)
  let ct := cdiv x.n (if dc then 128 else 64)
  let f := dFolds dst
  let t := f * rt * ct
  let sp := if op = opTdw || miRef m || miNoSplit m then 1 else powTo (min (c / t) (x.k / 2048))
  let l := cdiv x.k (sp * 512) * 512
  { rowTiles := rt, colTiles := ct, folds := f, split := sp, segLen := l, units := t * sp
    kc := chunkOf l ((multGeo op a).elem.bits + (multGeo op b).elem.bits)
    order := Config.walkOrder (operandBytes (multGeo op a) x.m x.k) (operandBytes (multGeo op b) x.n x.k) rt ct % 3
    dblRow := dr, dblCol := dc }

/-- OPX is reserved, no dimension beyond d3, and U within its limit. -/
def productField (s : State) (p : Nat) (m : List Byte) : Bool :=
  let ok := fun h => !hPresent h || (s.desc (hHandle h)).elim true fun d => dDim d 4 ≤ 1 && dDim d 5 ≤ 1
  (List.range 16).all (fun i => miOpx m i 1 == 0) && (miHandles m).all ok &&
    decide ((productPlan s (if miScope m then 1 else (s.logicals p).length) m).units ≤ 2 ^ 22)

/-- Planned run-time entries N, M, K, d2, d3 (R193). -/
def productPlanned (s : State) (m : List Byte) : List Nat :=
  let a := descOf s (miSrc m 0); let dst := descOf s (miDst m)
  match dimsOf (miOpcode m) a (descOf s (miSrc m 1)) with
  | some x => [x.n, x.m, x.k, dDim dst 2, dDim dst 3]
  | none => []

/-- An earlier weight-gradient product of the panel into the same window has not completed (R262). -/
def windowBusy (s : State) (p c : Nat) (m : List Byte) : Bool :=
  miOpcode m == opTdw && s.flights.any fun f =>
    f.panel == p && !f.done && miOpcode f.mi == opTdw && miDst f.mi == miDst m &&
      (miScope m || f.core.isSome || f.seq != (s.fget F.NDL_STREAM_SEQ_SEQ (strmIx c f.strm) + 1) % 2 ^ 32)

def opProduct (op : Nat) : OpSpec :=
  { OpSpec.base op with
    layer := true
    fieldOk := productField
    req := [0, 1, 2]
    needs := productNeeds
    check := productCheck
    planned := productPlanned
    plan := productPlan
    ready := fun s p c m => !windowBusy s p c m }

/-! Units. -/

/-- Place of a unit: fold indices, rectangle of its tile within the run-time shape, segment and its K range. -/
structure Spot where
  f2 : Nat
  f3 : Nat
  tile : Nat
  r0 : Nat
  r1 : Nat
  c0 : Nat
  c1 : Nat
  seg : Nat
  k0 : Nat
  k1 : Nat
  deriving DecidableEq, Repr

def shp (f : Flight) (i : Nat) : Nat := f.shape.getD i 0

/-- Tile row and column of position y within a fold (R202). -/
def orderAt (p : Plan) (y : Nat) : Nat × Nat :=
  match p.order with
  | 0 => (y / p.colTiles, y % p.colTiles)
  | 1 => (y % p.rowTiles, y / p.rowTiles)
  | _ =>
    let b := y / (8 * p.colTiles)
    let h := min 8 (p.rowTiles - 8 * b)
    let z := y % (8 * p.colTiles)
    (8 * b + z % h, z / h)

/-- Unit t: segments innermost, then tiles in the plan's order, then folds (log entry 24). -/
def spotOf (s : State) (f : Flight) (t : Nat) : Spot :=
  let p := f.plan
  let x := t / p.split
  let per := p.rowTiles * p.colTiles
  let (tr, tc) := orderAt p (x % per)
  let fold := x / per
  let d2 := max 1 (dDim (descOf s (miDst f.mi)) 2)
  let h := if p.dblRow then 128 else 64
  let w := if p.dblCol then 128 else 64
  let seg := t % p.split
  let kr := shp f 2
  { f2 := fold % d2, f3 := fold / d2, tile := fold * per + tr * p.colTiles + tc, r0 := tr * h, r1 := min (tr * h + h) (shp f 1)
    c0 := tc * w, c1 := min (tc * w + w) (shp f 0), seg := seg, k0 := seg * p.segLen
    k1 := max (seg * p.segLen) (min (seg * p.segLen + p.segLen) kr) }

/-- A unit outside the run-time shape, or beyond the run-time K (R194, R203). -/
def spotEmpty (f : Flight) (x : Spot) : Bool :=
  decide (x.r1 ≤ x.r0) || decide (x.c1 ≤ x.c0) || decide (shp f 3 ≤ x.f2) || decide (shp f 4 ≤ x.f3) ||
  (decide (shp f 2 ≤ x.k0) && !(x.seg == 0 && shp f 2 == 0 && miOpcode f.mi != opTdw))

/-- View of an operand of a product. -/
def operandView (s : State) (f : Flight) (fld : Nat) : View :=
  let h := hHandle fld
  let d := descOf s fld
  let base := readBase s f.bank h d
  if isCopy (miOpcode f.mi) d then tweedView s h base d else viewAt h base d

/-- Positions [k0, k1) of vectors [n0, n1) of an operand: red says that the reduction runs along d1. -/
def vectors (s : State) (v : View) (z : Nat) (red : Bool) (k0 k1 n0 n1 f2 f3 : Nat) : List (List FV) :=
  (List.range (n1 - n0)).map fun j => (List.range (k1 - k0)).map fun i =>
    if red then v.get s z (n0 + j) (k0 + i) f2 f3 else v.get s z (k0 + i) (n0 + j) f2 f3

/-- Reserved T2 codes among the elements read. -/
def t2Reads (s : State) (v : View) (red : Bool) (k0 k1 n0 n1 f2 f3 : Nat) : Nat :=
  if v.el != .t2 then 0
  else ((List.range (n1 - n0)).flatMap fun j => (List.range (k1 - k0)).map fun i =>
    if red then v.code' s (n0 + j) (k0 + i) f2 f3 else v.code' s (k0 + i) (n0 + j) f2 f3).countP (· == 2)

/-- A bad block among the vectors read. -/
def badVectors (s : State) (v : View) (red : Bool) (k0 k1 n0 n1 f2 f3 : Nat) : Option Nat :=
  if red then v.badRect s n0 n1 k0 k1 f2 f3 else v.badRect s k0 k1 n0 n1 f2 f3

/-- Reduction dimension of the two operands as read: a Tweed copy along forward N is read along its d0. -/
def redA (s : State) (f : Flight) : Bool := dRed (descOf s (miSrc f.mi 0))
def redB (s : State) (f : Flight) : Bool :=
  let b := descOf s (miSrc f.mi 1)
  if isCopy (miOpcode f.mi) b then false
  else ((dimsOf (miOpcode f.mi) (descOf s (miSrc f.mi 0)) b).map (·.redB)).getD false

/-- Fold of SRC1: its own, or its only one. -/
def foldB (s : State) (fld : Nat) (x : Spot) : Nat × Nat := if oneFold (descOf s fld) then (0, 0) else (x.f2, x.f3)

/-- Last K position read by a Gauze unit: whole twill blocks (R102). -/
def kEnd (s : State) (f : Flight) (x : Spot) : Nat :=
  let n := twillSize (descOf s (miSrc f.mi 0))
  if miOpcode f.mi = opG && n ≠ 0 then max x.k0 (cdiv x.k1 n * n) else x.k1

/-- What staging and the array make of a unit: accumulators, events of the pass, entry events with amax and elements,
and whether the picot limit was exceeded, the unit ran on Tweed, and was diverted there by the limit. -/
structure Made where
  acc : List (List Word)
  cnt : Cnt
  entry : Option (Evs × Word × Nat)
  gzSat : Nat
  povf : Nat
  limit : Bool
  exact : Bool
  onTweed : Bool
  diverted : Bool
  deriving DecidableEq, Repr

def emptyLayer : Layer := ⟨0, 0, 0x3F80, 0xFFFF, .none, 0xFFFF, false, .none, false, 0, 0, none⟩
def layerIn (s : State) (f : Flight) : Layer := (layerAt s f.panel f.mi).getD emptyLayer

/-- Group length on Gauze (R113) and on Tweed (R131). -/
def gaugeLen (a b : Geo) : Nat := let e := fun (g : Geo) => if g.blk = 0 then 32 else min 32 g.blk; min (e a) (e b)
def tweedLen (a b : Nat) : Nat := if a == 8 || b == 8 then 8 else 16

/-- Activation rows as read, zero at and beyond the run-time K (R75, R102). -/
def activations (s : State) (f : Flight) (x : Spot) (kq : Nat) : List (List FV) :=
  let a := descOf s (miSrc f.mi 0)
  let v := operandView s f (miSrc f.mi 0)
  let z := if dWide a then 0 else zeroPoint s f.bank a
  (vectors s v z false x.k0 x.k1 x.r0 x.r1 x.f2 x.f3).map fun l => l ++ List.replicate (kq - x.k1) FV.zero

/-- A unit of MATMUL_G. T2 reserved codes are counted once for a segment, its fallback pass included (DESIGN CHOICE, log
entry 153). -/
def gauzeUnit (s : State) (f : Flight) (x : Spot) : Made :=
  let a := descOf s (miSrc f.mi 0); let b := descOf s (miSrc f.mi 1)
  let ly := layerIn s f
  let kq := kEnd s f x
  let vb := operandView s f (miSrc f.mi 1)
  let va := operandView s f (miSrc f.mi 0)
  let (g2, g3) := foldB s (miSrc f.mi 1) x
  let cols := vectors s vb 0 false x.k0 kq x.c0 x.c1 g2 g3
  let t2 := t2Reads s vb false x.k0 kq x.c0 x.c1 g2 g3 +
    (if dWide a then 0 else t2Reads s va false x.k0 x.k1 x.r0 x.r1 x.f2 x.f3)
  let rows0 := activations s f x kq
  let ga := multGeo opG a; let gb := multGeo opG b
  let fmtDiv := fmtDiverts s f.mi
  let ref := miRef f.mi
  let g := gaugeLen ga gb
  let fin := fun (rows : List (List FV)) (pics : List Picot) =>
    gauzePass ref ly fun mode => gauzeTile mode (miRun f.mi) g x.k0 rows cols pics
  let onT := fun (rows : List (List FV)) (blk : Nat) => tweedTile ref (tweedLen blk gb.blk) rows cols
  if !dWide a then
    if fmtDiv then
      let r := onT rows0 ga.blk
      ⟨r.1, { r.2 with t2 := t2 }, none, 0, 0, false, ref, true, false⟩
    else
      let (acc, cnt, ex) := fin rows0 []
      ⟨acc, { cnt with t2 := t2 }, none, 0, 0, false, ex, false, false⟩
  else
    let (rows1, twSat) := if dTwill a = 0 then (rows0, 0)
      else rows0.foldl (fun (o : List (List FV) × Nat) row => let y := twillRow a x.k0 row; (o.1 ++ [y.1], o.2 + y.2)) ([], 0)
    let picks := !fmtDiv && ga.blk != 0 && (ga.elem == .e4 || ga.elem == .e2 || ga.elem == .t2)
    let (rows2, pics, surplus) := if picks then picotRows ly x.k0 rows1 else (rows1, [], 0)
    let src := if dTwill a = 0 then maxB16 else maxF32
    let how : HowTo := ⟨miSr f.mi, 0x0, seedOf s f.panel, convStep s f.panel⟩
    let rnd := fun r i => how.rnd va.h (va.index (x.k0 + i) (x.r0 + r) x.f2 x.f3)
    let h := hHandle (miSrc f.mi 0)
    let k := crushK s h
    let (rows3, ev, am) := entryRows ⟨ga.elem, ga.blk, ga.dir == .square, src, k, scaleIn s h a,
      { scale := f32 (paramAt s f.bank (dParam a) 0), zero := if ga.elem == .i4a then zeroPoint s f.bank a else 0, table := [] }⟩
      rnd rows2
    let elems := (x.r1 - x.r0) * (x.k1 - x.k0)
    let limit := ly.picotLimit != 0xFFFF && decide (ly.picotLimit < surplus)
    let surplus := if picks then surplus else 0
    if limit && ly.divert != .none then
      let fp8 := ly.divert == .fp8
      let (rows4, ev2, am2) := entryRows ⟨if fp8 then .e4 else .b16, if fp8 then 32 else 0, false, src, k, none, noLearned⟩
        rnd rows1
      let r := onT rows4 (if fp8 then 32 else 0)
      ⟨r.1, { r.2 with t2 := t2 }, some (ev.plus ev2, magMax am am2, 2 * elems), twSat, surplus, true, ref, true, true⟩
    else if fmtDiv then
      let r := onT rows3 ga.blk
      ⟨r.1, { r.2 with t2 := t2 }, some (ev, am, elems), twSat, 0, false, ref, true, false⟩
    else
      let (acc, cnt, ex) := fin rows3 pics
      ⟨acc, { cnt with t2 := t2 }, some (ev, am, elems), twSat, surplus, limit, ex, false, false⟩

/-- A unit of a Tweed product. -/
def tweedUnit (s : State) (f : Flight) (x : Spot) : Made :=
  let va := operandView s f (miSrc f.mi 0); let vb := operandView s f (miSrc f.mi 1)
  let z := fun k => let d := descOf s (miSrc f.mi k); if dFormat d = 0x12 && !dWide d then zeroPoint s f.bank d else 0
  let (g2, g3) := foldB s (miSrc f.mi 1) x
  let ra := redA s f; let rb := redB s f
  let r := tweedTile (miRef f.mi) (tweedLen va.blk vb.blk) (vectors s va (z 0) ra x.k0 x.k1 x.r0 x.r1 x.f2 x.f3)
    (vectors s vb (z 1) rb x.k0 x.k1 x.c0 x.c1 g2 g3)
  let t2 := t2Reads s va ra x.k0 x.k1 x.r0 x.r1 x.f2 x.f3 + t2Reads s vb rb x.k0 x.k1 x.c0 x.c1 g2 g3
  ⟨r.1, { r.2 with t2 := t2 }, none, 0, 0, false, miRef f.mi, true, false⟩

/-- An uncorrectable block among the operands of a unit (R445). -/
def unitBad (s : State) (f : Flight) (x : Spot) : Option Nat :=
  let va := operandView s f (miSrc f.mi 0); let vb := operandView s f (miSrc f.mi 1)
  let (g2, g3) := foldB s (miSrc f.mi 1) x
  match badVectors s va (redA s f) x.k0 x.k1 x.r0 x.r1 x.f2 x.f3 with
  | some k => some k
  | none => badVectors s vb (redB s f) x.k0 (kEnd s f x) x.c0 x.c1 g2 g3

/-! Counting on the computing core. -/

def State.gzSat (s : State) (c n : Nat) : State := if n = 0 then s else (s.finc F.GZ_SAT_COUNT c n).gzEvt c 4
def State.twSat (s : State) (c n : Nat) : State := if n = 0 then s else (s.finc F.TW_SAT_COUNT c n).twEvt c 0

/-- Counts of a pass through an array. -/
def State.countPass (s : State) (c : Nat) (onTweed : Bool) (x : Cnt) : State :=
  let s := if x.ovf = 0 then s else (s.finc F.GZ_SCALE_OVF_COUNT c x.ovf).gzEvt c 0
  let s := if x.unf = 0 then s else (s.finc F.GZ_SCALE_UNF_COUNT c x.unf).gzEvt c 1
  let s := s.finc F.GZ_ALIGN_LOSS_COUNT c x.loss
  let s := s.gzSat c x.sat
  let s := if x.t2 = 0 then s
    else if onTweed then (s.finc F.TW_MISC_COUNTS_T2_RSV c x.t2).twEvt c 3
    else (s.finc F.GZ_MISC_COUNTS_T2_RSV c x.t2).gzEvt c 5
  let s := s.twSat c x.twSat
  let s := if x.twLoss = 0 then s else (s.finc F.TW_ALIGN_LOSS_COUNT c x.twLoss).twEvt c 1
  let s := if x.inf then s.twEvt c 4 else s
  if x.fall then (s.finc F.GZ_TILE_COUNTS_FALLBACK_TILES c 1).gzEvt c 3 else s

/-- Counts of staging: twill saturations, picot surplus and limit, diversion, entry events (R100, R107, R111, R112, R164). -/
def State.countEntry (s : State) (c : Nat) (f : Flight) (t : Nat) (x : Made) : State :=
  let s := (s.gzSat c x.gzSat).finc F.GZ_PICOT_OVF_COUNT c x.povf
  let s := if x.limit then s.gzEvt c 2 else s
  let s := if x.diverted then s.finc F.GZ_TILE_COUNTS_PICOT_DIVERT c 1 else s
  match x.entry with
  | some (ev, am, n) => s.countSeam c f.panel (hHandle (miSrc f.mi 0)) f.id t ev am n
  | none => s

/-! Records. -/

def setUnits (s : State) (c : Nat) (st : Strm) (us : List UnitRec) : State :=
  s.setCore c ((s.core c).setStream st { (s.core c).stream st with units := us })

/-- Core c fetches the positions [k0, k1) of vectors [n0, n1) of an operand (R306). -/
def touchVectors (s : State) (c : Nat) (v : View) (red : Bool) (k0 k1 n0 n1 f2 f3 : Nat) : State :=
  if red then v.touch s c n0 n1 k0 k1 f2 f3 else v.touch s c k0 k1 n0 n1 f2 f3

/-- The operand fetches of a unit of a product. -/
def touchUnit (s : State) (c : Nat) (f : Flight) (x : Spot) : State :=
  let (g2, g3) := foldB s (miSrc f.mi 1) x
  touchVectors (touchVectors s c (operandView s f (miSrc f.mi 0)) (redA s f) x.k0 x.k1 x.r0 x.r1 x.f2 x.f3) c
    (operandView s f (miSrc f.mi 1)) (redB s f) x.k0 (kEnd s f x) x.c0 x.c1 g2 g3

/-- Stage and compute unit t on core c: its record, or the fault of an uncorrectable operand. -/
def runUnit (s : State) (c : Nat) (st : Strm) (f : Flight) (t : Nat) (put : State → UnitRec → State) (replay : Bool) : State :=
  let x := spotOf s f t
  match unitBad s f x with
  | some k => uncorrCore s c k (some st)
  | none =>
    let y := if miOpcode f.mi = opG then gauzeUnit s f x else tweedUnit s f x
    put ((touchUnit s c f x).countEntry c f t y)
      ⟨f.id, t, replay, false, y.exact, if y.onTweed then .tweed else .gauze, y.acc, y.cnt⟩

/-- Pages of a panel's skein area that hold the claim bit and the partial of a unit: 16 MiB for each of 48 slots, 2^22
claim bits, then partials of 16 KiB (R207, R209, R299; log entry 154). -/
def skeinPages (f : Flight) (t : Nat) (part : Bool) : List Nat :=
  let k := 16 * strmNo f.strm + f.seq % 16
  8 * k :: (if part then [8 * k + (2 ^ 19 + 2 ^ 14 * (t % 992)) / 2 ^ 21] else [])

/-- The skein area takes a claim bit, or a partial: without a page the write fails (R299, R302). -/
def skeinPut (s : State) (f : Flight) (t : Nat) (part : Bool) : State :=
  (skeinPages f t part).foldl (fun s i =>
    let y := s.ensureArea f.panel (skeinArea f.panel) i
    if y.2 then y.1 else y.1.writeFail f.panel rsPage) s

/-- Deliver an empty unit: only its claim bit (R194, R207). -/
def deliverEmpty (s : State) (f : Flight) (t : Nat) : State :=
  (skeinPut s f t false).updFlight f.id fun f => { f with claims := addTo f.claims t }

/-! Drains. -/

/-- Drain entry of output channel n (R124, R185). -/
def sigmaAt (s : State) (f : Flight) (n : Nat) : Word :=
  let b := descOf s (miSrc f.mi 1)
  let h := hHandle (miSrc f.mi 1)
  if dKind b = kWeight then
    BitVec.ofNat 32 (leNat (s.tRead h (readBase s f.bank h b + (bankLayout s b).drain + 4 * n) 4))
  else
    let a := descOf s (miSrc f.mi 0)
    (encodeSigma FV.one (if dFormat a = 0x12 then f32 (paramAt s f.bank (dParam a) 0) else FV.one)).1

/-- Blocks of the drain's own operands that are uncorrectable. -/
def drainBad (s : State) (f : Flight) (x : Spot) : Option Nat :=
  let op := miOpcode f.mi
  let b := descOf s (miSrc f.mi 1)
  let rect := fun (fld : Nat) => (operandView s f fld).badRect s x.c0 x.c1 x.r0 x.r1 x.f2 x.f3
  if op = opG then
    let h := hHandle (miSrc f.mi 1)
    match (if dKind b = kWeight then badIn s h (readBase s f.bank h b + (bankLayout s b).drain + 4 * x.c0) (4 * (x.c1 - x.c0)) else none) with
    | some k => some k
    | none => if hPresent (miSrc f.mi 2) then
        let (b2, b3) := foldB s (miSrc f.mi 2) x
        (operandView s f (miSrc f.mi 2)).badRect s x.c0 x.c1 0 1 b2 b3 else none
  else
    match (if hPresent (miSrc f.mi 2) then rect (miSrc f.mi 2) else none) with
    | some k => some k
    | none => if derivCode s f.panel f.mi = 0 then none else rect (dDerivSrc (descOf s (miDst f.mi)))

/-- The accesses of the drain's own operands. -/
def drainTouch (s : State) (c : Nat) (f : Flight) (x : Spot) : State :=
  let b := descOf s (miSrc f.mi 1)
  let h := hHandle (miSrc f.mi 1)
  let rect := fun (s : State) (fld : Nat) => (operandView s f fld).touch s c x.c0 x.c1 x.r0 x.r1 x.f2 x.f3
  if miOpcode f.mi = opG then
    let s := if dKind b = kWeight then
        touchBlocks s (dieOf c) h (rangeBlocks (readBase s f.bank h b + (bankLayout s b).drain + 4 * x.c0) (4 * (x.c1 - x.c0)))
      else s
    if hPresent (miSrc f.mi 2) then
      let (b2, b3) := foldB s (miSrc f.mi 2) x
      (operandView s f (miSrc f.mi 2)).touch s c x.c0 x.c1 0 1 b2 b3
    else s
  else
    let s := if hPresent (miSrc f.mi 2) then rect s (miSrc f.mi 2) else s
    if derivCode s f.panel f.mi = 0 then s else rect s (dDerivSrc (descOf s (miDst f.mi)))

/-- Gauze drain and bias of a tile (R125, R126): values and saturations. -/
def drainG (s : State) (f : Flight) (x : Spot) (acc : List (List Word)) : List (List Word) × Nat :=
  let vb := operandView s f (miSrc f.mi 2)
  let (b2, b3) := foldB s (miSrc f.mi 2) x
  let ents := (List.range (x.c1 - x.c0)).map fun j =>
    (sigmaAt s f (x.c0 + j), if hPresent (miSrc f.mi 2) then some (vb.get s 0 (x.c0 + j) 0 b2 b3) else none)
  let out := acc.map fun row => (row.zip ents).map fun p =>
    let (d, s1) := drainApply p.1 p.2.1
    match p.2.2 with
    | some b => let (y, s2) := accAdd d b; (y, b2n s1 + b2n s2)
    | none => (d, b2n s1)
  (out.map fun r => r.map (·.1), (out.flatten.map (·.2)).foldl (· + ·) 0)

/-- Tweed drain of a tile (R144): values after the addend, values, saturations. -/
def drainOf (s : State) (f : Flight) (x : Spot) (acc : List (List Word)) : List (List Word) × List (List Word) × Nat :=
  let code := derivCode s f.panel f.mi
  let va := operandView s f (miSrc f.mi 2)
  let dst := descOf s (miDst f.mi)
  let vz := operandView s f (dDerivSrc dst)
  let tabs := (s.panel f.panel).tables
  let out := (List.range acc.length).map fun i =>
    let row := acc.getD i []
    (List.range row.length).map fun j =>
      let at_ := fun (v : View) => v.get s 0 (x.c0 + j) (x.r0 + i) x.f2 x.f3
      drainT tabs code (row.getD j 0) (if hPresent (miSrc f.mi 2) then some (at_ va) else none)
        (if code = 0 then none else some (at_ vz))
  (out.map fun r => r.map (·.1), out.map fun r => r.map (·.2.1), (out.flatten.map (·.2.2)).foldl (· + ·) 0)

/-- What a region of a destination takes: conversion from FP32 values (R83, R96, R148, R158, R164). -/
def convertRect (s : State) (f : Flight) (fld purpose : Nat) (src : FV) (cols rows c0 c1 r0 r1 f2 f3 : Nat)
    (val : Nat → Nat → FV) : Wrote :=
  let h := hHandle fld
  let d := descOf s fld
  let v := viewAt h (readBase s f.bank h d) d
  rectPuts v ⟨src, crushK s h, scaleIn s h d⟩ ⟨miSr f.mi, purpose, seedOf s f.panel, convStep s f.panel⟩
    (fun c r => v.learnedAt s f.bank d c r) cols rows c0 c1 r0 r1 f2 f3 val

/-- Value at a position of a tile. -/
def tileVal (x : Spot) (ys : List (List Word)) (c r : Nat) : FV := f32 ((ys.getD (r - x.r0) []).getD (c - x.c0) 0)

/-- Output conversion of a drained tile. -/
def outputTile (s : State) (f : Flight) (x : Spot) (ys : List (List Word)) : Wrote :=
  let d := descOf s (miDst f.mi)
  let purpose := if miOpcode f.mi != opG && (storeGeo d).blk != 0 then 0x3 else 0x8
  convertRect s f (miDst f.mi) purpose maxF32 (shp f 0) (shp f 1) x.c0 x.c1 x.r0 x.r1 x.f2 x.f3 (tileVal x ys)

/-! Side reductions (R172 to R174). -/

/-- Partials of a MATMUL_TDX tile: R_s and R_z, and their saturations. -/
def sideTdx (s : State) (f : Flight) (x : Spot) (gs : List (List Word)) : Option (Nat × List Word × Nat) :=
  let dst := descOf s (miDst f.mi)
  let fld := dLscale dst
  let a := descOf s fld
  if miOpcode f.mi != opTdx || !hPresent fld || dFormat a != 0x12 then none
  else
    let v := viewAt (hHandle fld) (readBase s f.bank (hHandle fld) a) a
    let z := zeroPoint s f.bank a
    let how : HowTo := ⟨miSr f.mi, 0x0, seedOf s f.panel, convStep s f.panel⟩
    let l : Learned := ⟨f32 (paramAt s f.bank (dParam a) 0), z, []⟩
    let ts := (List.range gs.length).flatMap fun i => (List.range (gs.getD i []).length).map fun j =>
      let c := x.c0 + j; let r := x.r0 + i
      let q : FV := if dWide a then
          .ofInt ((int4Conv l (how.rnd v.h (v.index c r x.f2 x.f3)) (v.get s 0 c r x.f2 x.f3)).code - z)
        else v.get s z c r x.f2 x.f3
      ((gs.getD i []).getD j 0, q)
    let rs := sideSum ts
    let rz := sideSum (ts.map fun p => (p.1, FV.one))
    some (hHandle (dParam a), [rs.1, rz.1], b2n rs.2 + b2n rz.2)

/-- Partials of a MATMUL_TDW tile: R_c of its output channels. -/
def sideTdw (s : State) (f : Flight) (x : Spot) (gs : List (List Word)) : Option (Nat × Nat × List Word) :=
  let wf := dPartner (descOf s (miDst f.mi))
  let w := descOf s wf
  if miOpcode f.mi != opTdw || !hPresent wf || dFormat w < 0x13 || !hPresent (dParam w) then none
  else
    let h := hHandle wf
    let v := viewAt h (readBase s f.bank h w) w
    let rs := (List.range (x.c1 - x.c0)).map fun j =>
      (sideSum ((List.range gs.length).map fun i =>
        let k := x.r0 + i; let n := x.c0 + j
        ((gs.getD i []).getD j 0, if dRed w then v.get s 0 n k x.f2 x.f3 else v.get s 0 k n x.f2 x.f3))).1
    some (hHandle (dParam w), x.c0, rs ++ List.replicate (64 - rs.length) 0)

/-! Slices (R149, R150, R260 to R263). -/

/-- Felt of a byte of a tensor: that of its page, or the first choice for its page (R301). -/
def feltAt (s : State) (h off : Nat) : Nat :=
  let i := off / 2 ^ 21
  match pageOf s h i with
  | some x => x.felt
  | none =>
    let e := (feltsOf s h).1
    e.getD ((h + i) % e.length) ((h + i) % 8)

/-- Felt that holds the master page of a window tile (R149); a window without a weight uses its own handle. -/
def tileFelt (s : State) (bank win tile : Nat) : Nat :=
  let d := (s.desc win).getD []
  let wf := dPartner d
  match s.desc (hHandle wf) with
  | some w =>
    if hPresent wf && dKind w == kWeight then
      let b := bankLayout s w
      let ct := cdiv (dN w) 64
      let per := ct * cdiv (dK w) 64
      let e := tile / per * (dK w * dN w) + tile % ct * 64 * dK w + tile % per / ct * 64
      feltAt s (hHandle wf) (readBase s bank (hHandle wf) w + b.master + e * (if slMaster16 (ruleOf s w) then 2 else 4))
    else win % 8
  | none => win % 8

/-- Tiles of 16 KiB that a panel may hold on a felt: its share ÷ 64 of 96 MiB (R260), and those taken. -/
def windowRoom (s : State) (p n : Nat) : Nat := shareOf s p n * 96
def windowUsed (s : State) (p n : Nat) : Nat :=
  let t := (s.windows.filter fun w => w.panel == p && w.felt == n).map fun w => (w.handle, w.tile)
  let u := (s.slices.filter fun w => w.panel == p && w.felt == n).map fun w => (w.handle, w.tile)
  (u.foldl addTo t).length + (s.helds.countP fun h => h.panel == p && h.late && tileFelt s (bankMask s) h.x.handle h.x.tile == n)

/-- The felt can take a slice: its tile is held or on its way, or there is room. -/
def sliceFits (s : State) (x : Slice) : Bool :=
  (s.windows.any fun w => w.handle == x.handle && w.tile == x.tile) ||
  (s.slices.any fun w => w.handle == x.handle && w.tile == x.tile) ||
  decide (windowUsed s x.panel x.felt < windowRoom s x.panel x.felt)

/-- A slice leaves its core. -/
def slicePass (s : State) (x : Slice) : State := { s.finc F.TW_SLICES_SENT x.core 1 with slices := s.slices ++ [x] }

/-- Send a slice: it travels, or stalls at the core (R150). -/
def sendSlice (s : State) (x : Slice) : State :=
  if !(s.stalledSlices.any fun y => y.core == x.core) && sliceFits s x then slicePass s x
  else { s.finc F.FELT_WIN_COUNTS_FULL_WAIT x.felt 1 with stalledSlices := s.stalledSlices ++ [x] }

/-- The 64 × 64 accumulators of a slice, master rows along K; positions outside the run-time shape hold +0. -/
def sliceVals (acc : List (List Word)) : List Word :=
  (List.range 64).flatMap fun i => (List.range 64).map fun j => (acc.getD i []).getD j 0

/-! Deliveries (R207 to R211). -/

/-- Duplicate of a claimed unit (R208). -/
def duplicate (s : State) (c : Nat) (st : Strm) (same : Bool) : State :=
  if same then (s.finc F.NDL_DUP_MATCH c 1).ndlEvt c 3
  else ((s.finc F.NDL_DUP_MISMATCH c 1).dupFault c).coreStepFault 0x0108 c (some st) 0

/-- Non-empty segments of a tile (R209). -/
def liveSegs (f : Flight) : List Nat :=
  (List.range f.plan.split).filter fun j => decide (j * f.plan.segLen < shp f 2) || (j == 0 && shp f 2 == 0)

/-- Fold rows of words elementwise by the accumulator's addition: sums and saturations. -/
def addTiles (a b : List Word) : List Word × Nat :=
  let r := (a.zip b).map fun p => accAdd p.1 (f32 p.2)
  (r.map (·.1), r.countP (·.2))

def rowsOf (w : Nat) (l : List Word) : List (List Word) := if w = 0 then [] else chunks w l

/-- Drain a tile and convert it: what it writes; counts of the drain are made; side partials of the tile. -/
def drainTile (s : State) (c : Nat) (f : Flight) (t : Nat) (x : Spot) (acc : List (List Word)) :
    State × Wrote × Option (Nat × List Word) :=
  if miOpcode f.mi = opG then
    let (ys, sat) := drainG s f x acc
    let w := outputTile s f x ys
    ((s.gzSat c (sat + w.ev.sat)).countSeam c f.panel (hHandle (miDst f.mi)) f.id t w.ev w.amax w.elems, w, none)
  else
    let (gs, ys, sat) := drainOf s f x acc
    let w := outputTile s f x ys
    let s := (s.twSat c (sat + w.ev.sat)).countSeam c f.panel (hHandle (miDst f.mi)) f.id t w.ev w.amax w.elems
    match sideTdx s f x gs with
    | none => (s, w, none)
    | some (h, vs, n) =>
      let s := if n = 0 then s
        else s.countSeam c f.panel (hHandle (dLscale (descOf s (miDst f.mi)))) f.id t { Evs.none with sat := n } 0 0
      (s, w, some (h, vs))

def codeWords (w : Wrote) : List Word := w.puts.map fun x => BitVec.ofNat 32 x.2.2

/-- Land a drained tile: its codes and its side record. -/
def landTile (s : State) (c : Nat) (f : Flight) (w : Wrote) (side : Option (Nat × List Word)) : State :=
  let (s, st) := s.corePut c (hHandle (miDst f.mi)) w.puts
  let s := s.writeFail f.panel st
  match side with
  | some (h, vs) => { s with sideRecs := s.sideRecs ++ [⟨f.panel, h, 0, f.id, vs⟩] }
  | none => s

/-- Claim a unit with its first result. -/
def claim (s : State) (f : Flight) (t : Nat) (ws : List Word) : State :=
  (skeinPut s f t false).updFlight f.id fun f => { f with claims := addTo f.claims t, results := f.results ++ [(t, ws)] }

def firstResult (f : Flight) (t : Nat) : List Word := ((f.results.find? (·.1 == t)).map (·.2)).getD []

/-- Delivery of a tile that needs no combine. -/
def deliverTile (s : State) (c : Nat) (st : Strm) (f : Flight) (r : UnitRec) (x : Spot) : State :=
  match drainBad s f x with
  | some k => uncorrCore s c k (some st)
  | none =>
    let (s, w, side) := drainTile (drainTouch s c f x) c f r.unit x r.acc
    if f.claims.contains r.unit then duplicate s c st (firstResult f r.unit == codeWords w)
    else landTile (claim s f r.unit (codeWords w)) c f w side

/-- Delivery of a split partial; the last non-empty one of its tile combines them (R209). `bad`: the combine faults
(R437). -/
def deliverPart (s : State) (c : Nat) (st : Strm) (f : Flight) (r : UnitRec) (x : Spot) (bad : Bool) : State :=
  let ws := r.acc.flatten
  if f.claims.contains r.unit then duplicate s c st (firstResult f r.unit == ws)
  else
    let s := (skeinPut (claim s f r.unit ws) f r.unit true).updFlight f.id fun f => { f with parts := f.parts ++ [(r.unit, ws)] }
    let parts := f.parts ++ [(r.unit, ws)]
    let base := r.unit / f.plan.split * f.plan.split
    let mine := (liveSegs f).filterMap fun j => (parts.find? (·.1 == base + j)).map (·.2)
    if mine.length < (liveSegs f).length then s
    else if bad then s.coreStepFault 0x0109 c (some st) 0
    else match drainBad s f x with
      | some k => uncorrCore s c k (some st)
      | none =>
        let zero := ws.map fun _ => (0 : Word)
        let (acc, sat) := mine.foldl (fun (a : List Word × Nat) p => let y := addTiles a.1 p; (y.1, a.2 + y.2)) (zero, 0)
        let s := if miOpcode f.mi = opG then s.gzSat c sat else s.twSat c sat
        let (s, w, side) := drainTile (drainTouch s c f x) c f r.unit x (rowsOf (x.c1 - x.c0) acc)
        let s := s.updFlight f.id fun f => { f with parts := f.parts.filter fun p => p.1 / f.plan.split != r.unit / f.plan.split }
        landTile s c f w side

/-- A weight-gradient tile leaves as a slice with its side record. -/
def deliverSlice (s : State) (c : Nat) (st : Strm) (f : Flight) (r : UnitRec) (x : Spot) : State :=
  let h := hHandle (miDst f.mi)
  sendSlice s ⟨f.panel, h, x.tile, tileFelt s f.bank h x.tile, c, st, f.id, r.unit, f.micro, sliceVals r.acc,
    (sideTdw s f x r.acc).map fun y => ⟨f.panel, y.1, y.2.1, f.id, y.2.2⟩⟩

/-- A double-bit error of a local-store word (R309): a step fault, and the exclusion of the core when it comes again at a word
that has been written since the first (R438). -/
def storeDed (s : State) (c : Nat) (st : Option Strm) (w : Nat) : State :=
  let x := s.core c
  let again := x.ded.any fun e => e.1 == w && e.2
  let s := (s.fltEvt c 2).setCore c { x with ded := x.ded.filter (·.1 != w) ++ [(w, false)] }
  if again then
    let p := s.ownerOf c
    let s := (((s.fltEvt c 5).coreRec 0x0105 c st w (coreStep s c)).exclude c)
    match p with | some p => s.panelFault p | none => s
  else s.coreStepFault 0x0104 c st w

/-- Fault of a unit that an array or the local store found (R138, R432, R435 to R438, R445); the unit's record, if any. -/
def unitFault (s : State) (c : Nat) (st : Strm) (r : UnitRec) : UnitCheck → State
  | .residue =>
    let s := if r.arr == .tweed then (s.finc F.TW_MISC_COUNTS_RESIDUE c 1).residueFault c else s
    s.replayFault 0x0101 0 c (some st) 0 false fun o u => o == st && u.unit == r.unit && u.flight == r.flight
  | .stagingDed => s.replayFault 0x0103 2 c (some st) 0 false fun o _ => o == st
  | .residentDed w => storeDed s c (some st) w
  | .uncorr k => uncorrCore { s with badTens := addTo s.badTens k } c k (some st)
  | _ => s

/-- After a delivery on core c: m60 when its last replay of this core has delivered (R435). -/
def replayDone (s : State) (c : Nat) (replay : Bool) : State :=
  if replay && !s.excluded c && !([Strm.F, .B, .U].any fun st => ((s.core c).stream st).units.any (·.replay)) then s.setMarker c 60
  else s

/-! Slices and side records at the felt. -/

/-- A stalled slice of a core moves on when there is room (R150). -/
def acceptSlice (s : State) (c : Nat) : State :=
  match s.stalledSlices.find? (·.core == c) with
  | some x => if sliceFits s x then
      slicePass { s with stalledSlices := s.stalledSlices.erase x } x else s
  | none => s

/-- Saturations of window and reduction additions on a felt (R263, R266). -/
def State.winSat (s : State) (n sat : Nat) : State := if sat = 0 then s else (s.finc F.FELT_WIN_COUNTS_SAT n sat).trainEvt n 2

/-- Micro-batch of a slice at its window tile. -/
def sliceKey (x : Slice) : Nat × Nat × Nat := (x.handle, x.tile, x.micro)

/-- A slice reaches its felt: claim, checksum and side record, then the first slice of a tile writes it and later ones add
(R263); a duplicate is compared by checksum (R208). -/
def landSlice (s : State) (k : Nat) : State :=
  match s.slices[k]? with
  | none => s
  | some x =>
    let s := { s with slices := s.slices.eraseIdx k }
    let sum := Config.sliceCheck x.vals
    match s.flight x.flight with
    | none => s
    | some f =>
      if f.claims.contains x.unit then
        duplicate s x.core x.strm ((s.sliceSums.find? (·.1 == sliceKey x)).map (·.2) == some sum)
      else
        let s := claim s f x.unit []
        let s := { s with sliceSums := s.sliceSums ++ [(sliceKey x, sum)], sideRecs := s.sideRecs ++ x.side.toList }
        match s.windows.find? fun w => w.handle == x.handle && w.tile == x.tile with
        | none =>
          { s with windows := s.windows ++ [⟨x.panel, x.handle, x.tile, x.felt, x.vals, false⟩] }
        | some w =>
          let (vs, sat) := addTiles w.vals x.vals
          let s := s.winSat w.felt sat
          let hit := fun (y : WinTile) => y.handle == x.handle && y.tile == x.tile
          let ws := updWhere hit (fun y => { y with vals := vs }) s.windows
          { s with windows := ws }

/-- A side record reaches the felt: its partials join the exact sums of the parameter (R264). -/
def landSide (s : State) (k : Nat) : State :=
  match s.sideRecs[k]? with
  | none => s
  | some x =>
    let s := { s with sideRecs := s.sideRecs.eraseIdx k }
    (List.range x.vals.length).foldl (fun s i =>
      let e := x.elem + i
      let v := f32 (x.vals.getD i 0)
      let hit := fun (y : SideSum) => y.handle == x.handle && y.elem == e
      if s.sideSums.any hit then
        { s with sideSums := updWhere hit (fun y => { y with sum := y.sum.add v }) s.sideSums }
      else { s with sideSums := s.sideSums ++ [⟨x.panel, x.handle, e, FV.zero.add v, none⟩] }) s

/-! Commands. -/

/-- Issue of a product: an empty run-time shape completes at once (R194); diverted work is counted on each core (R80);
the first core of a weight-gradient product numbers it (R262). -/
def startProduct (s : State) (id : Nat) (f : Flight) (c : Nat) (first : Bool) : State :=
  let s := if fmtDiverts s f.mi then (s.finc F.GZ_MISC_COUNTS_FMT_DIVERT c 1).gzEvt c 6 else s
  let h := hHandle (miDst f.mi)
  let s := if first && miOpcode f.mi == opTdw then
      let n := ((s.micros.find? (·.1 == h)).map (·.2)).getD 0
      { s.updFlight id fun f => { f with micro := n } with micros := s.micros.filter (·.1 != h) ++ [(h, n + 1)] }
    else s
  if [0, 1, 3, 4].any (fun i => shp f i == 0) || (shp f 2 == 0 && miOpcode f.mi == opTdw) then
    (if first then s.complete id else s).walkEnd id c
  else s

def execMatmulG (c : Fin 1056) (st : Strm) (s : State) : Out :=
  done (issue (opProduct opG) s c st fun s id f first => startProduct s id f c first)

def execMatmulT (c : Fin 1056) (st : Strm) (s : State) : Out :=
  done (issue (opProduct opT) s c st fun s id f first => startProduct s id f c first)

def execMatmulTdx (c : Fin 1056) (st : Strm) (s : State) : Out :=
  done (issue (opProduct opTdx) s c st fun s id f first => startProduct s id f c first)

def execMatmulTdw (c : Fin 1056) (st : Strm) (s : State) : Out :=
  done (issue (opProduct opTdw) s c st fun s id f first => startProduct s id f c first)

def execSliceAccepted (c : Fin 1056) (s : State) : Out := done (acceptSlice s c)

/-- A slice that a checker of its felt stops is lost with the step (R431). -/
def execSliceArrive (k : Nat) (chk : FeltCheck) (s : State) : Out :=
  match s.slices[k]?, chk with
  | _, .pass => done (landSlice s k)
  | some x, _ => done ({ s with slices := s.slices.eraseIdx k }.feltChecked x.felt x.panel chk)
  | none, _ => done s

def execSideRecordArrive (k : Nat) (s : State) : Out := done (landSide s k)

end Sys2Proof.Machine
end

