-- ==== Sys2Proof/Machine/Vector.lean ====
section
/-! DEFINITION. CONVERT, VECTOR, GATHER and SCATTER: the seam conversions, plain conversions, element functions, row
functions and row copies (R158, R159, R186 to R188, R313), with what one unit of each writes, reads and counts. -/
namespace Sys2Proof.Machine
open Sys2Proof

/-! What a unit gives. -/

/-- A rectangle of one fold of an operand. -/
structure Rect where
  v : View
  c0 : Nat
  c1 : Nat
  r0 : Nat
  r1 : Nat
  f2 : Nat
  f3 : Nat
  deriving DecidableEq, Repr

/-- What a unit counts: a pass through Gauze or Tweed, saturations in GZ_SAT or TW_SAT, a conversion into a handle, empty
rows, indices out of range, free values used. -/
inductive Tally where
  | pass (tweed : Bool) (x : Cnt)
  | gz (n : Nat)
  | tw (n : Nat)
  | seam (h : Nat) (ev : Evs) (amax : Word) (elems : Nat)
  | empty (n : Nat)
  | range (n : Nat)
  | free (n : Nat)
  deriving DecidableEq, Repr

/-- What a unit writes by handle, the rectangles and byte ranges that it reads, and what it counts. -/
structure UnitOut where
  puts : List (Nat × List Put)
  reads : List Rect
  ranges : List (Nat × Nat × Nat)
  tally : List Tally
  deriving DecidableEq, Repr

/-- Count on core c for a unit of macro-instruction `id` of panel p. -/
def State.tally (c p id unit : Nat) (s : State) : Tally → State
  | .pass b x => s.countPass c b x
  | .gz n => s.gzSat c n
  | .tw n => s.twSat c n
  | .seam h ev am n => s.countSeam c p h id unit ev am n
  | .empty n => if n = 0 then s else (s.finc F.ATT_ROWS_EMPTY c n).attEvt c 1
  | .range n => s.finc F.VEC_GS_COUNTS_OUT_OF_RANGE c n
  | .free n => s.useFree n

/-- A bad block among what a unit reads (R445). -/
def UnitOut.bad (s : State) (o : UnitOut) : Option Nat :=
  if s.badTens.isEmpty then none else o.reads.findSome? fun x => x.v.badRect s x.c0 x.c1 x.r0 x.r1 x.f2 x.f3

/-- The accesses of a unit's reads (R306). -/
def UnitOut.touch (s : State) (c : Nat) (o : UnitOut) : State :=
  o.ranges.foldl (fun s x => touchBlocks s (dieOf c) x.1 (rangeBlocks x.2.1 x.2.2))
    (o.reads.foldl (fun s x => x.v.touch s c x.c0 x.c1 x.r0 x.r1 x.f2 x.f3) s)

/-- Reserved T2 codes in a rectangle (R68). They count as Gauze reads (log entry 155). -/
def Rect.rsv (s : State) (x : Rect) : Nat :=
  if x.v.el != .t2 then 0
  else ((List.range (x.r1 - x.r0)).flatMap fun j => (List.range (x.c1 - x.c0)).map fun i =>
    x.v.code' s (x.c0 + i) (x.r0 + j) x.f2 x.f3).countP (· == 2)

def rsvTally (s : State) (xs : List Rect) : Tally := .pass false { Cnt.none with t2 := (xs.map (Rect.rsv s)).foldl (· + ·) 0 }

/-! Plans. -/

/-- Tiles of a destination (R200, R501). -/
def regionPlan (_ : State) (dst : Desc) : Plan :=
  let g := storeGeo dst
  let dr := g.blk == 128 && g.axis (dRed dst) == 1
  let dc := g.blk == 128 && g.axis (dRed dst) == 0
  let rt := cdiv (dRows dst) (if dr then 128 else 64)
  let ct := cdiv (dCols dst) (if dc then 128 else 64)
  ⟨rt, ct, dFolds dst, 1, 0, dFolds dst * rt * ct, 0, 0, dr, dc⟩

/-- Query rows of a unit of whole rows: 128 where the destination has blocks of 128 along its rows (R501). -/
def rowsUnit (d : Desc) : Nat := let g := storeGeo d; if g.blk == 128 && g.axis (dRed d) == 1 then 128 else 64

/-- Units of whole rows of a source (R188). -/
def rowPlan (dst src : Desc) : Plan :=
  let h := rowsUnit dst
  let rt := cdiv (dRows src) h
  ⟨rt, 1, dFolds src, 1, 0, dFolds src * rt, 0, 0, h == 128, false⟩

/-- Unit t of whole rows, of a fold of a tensor with d2 folds: rows below n, columns below w. -/
def rowSpot (f : Flight) (t d2 n w : Nat) : Spot :=
  let h := if f.plan.dblRow then 128 else 64
  let fold := t / f.plan.rowTiles
  let r := t % f.plan.rowTiles
  { f2 := fold % max 1 d2, f3 := fold / max 1 d2, tile := t, r0 := r * h, r1 := min (r * h + h) n, c0 := 0, c1 := w, seg := 0
    k0 := 0, k1 := 0 }

/-- No dimension beyond d3 on any named tensor, and U within its limit (R191, R201). -/
def regionField (s : State) (m : List Byte) : Bool :=
  let ok := fun h => !hPresent h || (s.desc (hHandle h)).elim true fun d => dDim d 4 ≤ 1 && dDim d 5 ≤ 1
  (miHandles m).all ok && decide ((regionPlan s (descOf s (miDst m))).units ≤ 2 ^ 22)

/-- Entries N, M, K (unused), d2, d3 (R193). -/
def regionPlanned (s : State) (k : Nat) (m : List Byte) : List Nat :=
  let d := descOf s (if k = 0 then miDst m else miSrc m 0)
  [dCols d, dRows d, 2 ^ 32 - 1, dDim d 2, dDim d 3]

def regionEmpty (f : Flight) : Bool := [0, 1, 3, 4].any fun i => shp f i == 0

/-- PARAM of a source of format 0x12 to 0x16 (R186). -/
def learnedNeeds (s : State) (hs : List Nat) : List Nat :=
  hs.filterMap fun h => let d := descOf s h; if hPresent h && decide (0x12 ≤ dFormat d) && !dWide d then some (dParam d) else none

/-- Folds of a run-time shape. -/
def foldsIn (f : Flight) : List (Nat × Nat) :=
  (List.range (shp f 4)).flatMap fun f3 => (List.range (shp f 3)).map fun f2 => (f2, f3)

/-- Element of a source of an operation over whole tensors: a source of one fold serves every fold; positions outside
its plan read 0 (R75). -/
def sourceAt (s : State) (f : Flight) (fld c r f2 f3 : Nat) : FV :=
  let d := descOf s fld
  let v := viewAt (hHandle fld) (readBase s f.bank (hHandle fld) d) d
  let (g2, g3) := if oneFold d then (0, 0) else (f2, f3)
  if c < v.d0 && r < v.d1 && g2 < v.d2 && g3 < v.d3 then v.learned s f.bank d c r g2 g3 else FV.zero

/-- The part of a source that a rectangle reads. -/
def sourceRect (s : State) (f : Flight) (fld c0 c1 r0 r1 f2 f3 : Nat) : Rect :=
  let d := descOf s fld
  let v := viewAt (hHandle fld) (readBase s f.bank (hHandle fld) d) d
  let (g2, g3) := if oneFold d then (0, 0) else (f2, f3)
  if g2 < v.d2 && g3 < v.d3 then ⟨v, c0, min v.d0 c1, r0, min v.d1 r1, g2, g3⟩ else ⟨v, 0, 0, 0, 0, g2, g3⟩

/-- Run an operation of one unit: empty at once (R194), else its unit on the first core that issues it, whose walk then
ends; other cores find no unit left (R203). `bad` finds an uncorrectable operand. What a failed write of the skein area has
abandoned does not run. -/
def takeAll (s : State) (id c : Nat) (f : Flight) (first : Bool) (empty : Bool) (bad : Option Nat) (run : State → State) : State :=
  if empty then (if first then s.complete id else s).walkEnd id c
  else if !first then s.walkEnd id c
  else
    match bad with
    | some k => uncorrCore s c k (some f.strm)
    | none =>
      let s := (s.updFlight id fun f => { f with next := f.plan.units, claims := [0] }).finc F.NDL_UNITS_COUNT c 1
      if ((skeinPut s f 0 false).flight id).isNone then skeinPut s f 0 false
      else (run (skeinPut s f 0 false)).walkEnd id c

/-- Issue of an operation that walks its units: an empty run-time shape completes at once (R194). -/
def startWalk (s : State) (id c : Nat) (first empty : Bool) : State :=
  if empty then (if first then s.complete id else s).walkEnd id c else s

/-! CONVERT (R158, R159, R186). -/

def cvPurpose (m : List Byte) : Nat := miOpx m 0 1
def cvDefined (k : Nat) : Bool := k == 1 || k == 2 || k == 3 || k == 8

/-- Planned shapes of two descriptors are equal. -/
def sameShape (a b : Desc) : Bool := (List.range 6).all fun k => dDim a k == dDim b k

def isPlain (d : Desc) (l : List Nat) : Bool := dWide d || l.contains (dFormat d)

/-- An 0x0F destination with the given elements. -/
def customOf (d : Desc) (l : List Elem) : Bool :=
  dFormat d == 0x0F && match fmtGeo (dFormat d) (dBlock d) with | some g => l.contains g.elem | none => false

def convertFormatBad (s : State) (m : List Byte) : Bool :=
  let a := descOf s (miSrc m 0); let d := descOf s (miDst m)
  match cvPurpose m with
  | 1 => !(isPlain a [0, 1] && (dWide d || dFormat d == 1))
  | 2 => !(isPlain a [1] && !dWide d && ([0x07, 0x08].contains (dFormat d) || customOf d [.e4, .e5]) && dRed d != dRed a)
  | 3 => !(isPlain a [0, 1, 2] && !dWide d &&
      ([0x07, 0x08, 0x09, 0x0A, 0x0B, 0x0C].contains (dFormat d) || customOf d [.e4, .e5]))
  | _ => false

def opConvert (k : Nat) : OpSpec :=
  { OpSpec.base 0x10 with
    mine := fun m => miOpcode m == 0x10 && (cvPurpose m == k || !cvDefined (cvPurpose m))
    fieldOk := fun s _ m => cvDefined (cvPurpose m) && (List.range 15).all (fun i => miOpx m (1 + i) 1 == 0) &&
      (!hPresent (miSrc m 0) || !hPresent (miDst m) || (s.desc (hHandle (miSrc m 0))).isNone ||
        (s.desc (hHandle (miDst m))).isNone || sameShape (descOf s (miSrc m 0)) (descOf s (miDst m))) && regionField s m
    req := [0, 1]
    needs := fun s _ m => learnedNeeds s [miSrc m 0]
    check := fun s _ m => if convertFormatBad s m then 0x07 else 0
    planned := fun s m => regionPlanned s 0 m
    plan := fun s _ m => regionPlan s (descOf s (miDst m)) }

/-- Largest finite value of a source format. -/
def sourceMax (d : Desc) : FV :=
  match (storeGeo d).elem with | .i4a | .i4w | .i2w | .c4 | .c2 => maxF32 | e => e.maxFin

/-- A copy of BF16 codes (R159). -/
def copyTile (s : State) (f : Flight) (x : Spot) : Wrote :=
  let view := fun (fld : Nat) => viewAt (hHandle fld) (readBase s f.bank (hHandle fld) (descOf s fld)) (descOf s fld)
  let va := view (miSrc f.mi 0); let vd := view (miDst f.mi)
  let cells := (List.range (x.r1 - x.r0)).flatMap fun r => (List.range (x.c1 - x.c0)).map fun c => (x.c0 + c, x.r0 + r)
  ⟨cells.map fun p => (vd.codeBit p.1 p.2 x.f2 x.f3, 16, va.code' s p.1 p.2 x.f2 x.f3), Evs.none, 0, cells.length⟩

/-- What a unit of a CONVERT writes. -/
def convertWrote (s : State) (f : Flight) (x : Spot) : Wrote :=
  let a := descOf s (miSrc f.mi 0)
  let d := descOf s (miDst f.mi)
  if cvPurpose f.mi = 1 && (storeGeo a).elem == .b16 && (storeGeo d).elem == .b16 then copyTile s f x
  else convertRect s f (miDst f.mi) (cvPurpose f.mi) (sourceMax a) (shp f 0) (shp f 1) x.c0 x.c1 x.r0 x.r1 x.f2 x.f3
    fun col r => sourceAt s f (miSrc f.mi 0) col r x.f2 x.f3

/-- A unit of a CONVERT, with its events in the seam counters of the destination (R164). -/
def convertOut (s : State) (f : Flight) (x : Spot) : UnitOut :=
  let w := convertWrote s f x
  let rs := [sourceRect s f (miSrc f.mi 0) x.c0 x.c1 x.r0 x.r1 x.f2 x.f3]
  ⟨[(hHandle (miDst f.mi), w.puts)], rs, [], [rsvTally s rs, .seam (hHandle (miDst f.mi)) w.ev w.amax w.elems]⟩

def convertOp (k : Nat) (s : State) (c : Nat) (st : Strm) : State :=
  issue (opConvert k) s c st fun s id f first => startWalk s id c first (regionEmpty f)

def execActivationCheckpoint (c : Fin 1056) (st : Strm) (s : State) : Out := done (convertOp 1 s c st)

def execFp8Activation (c : Fin 1056) (st : Strm) (s : State) : Out := done (convertOp 2 s c st)

def execGradientConversion (c : Fin 1056) (st : Strm) (s : State) : Out := done (convertOp 3 s c st)

def execPlainConversion (c : Fin 1056) (st : Strm) (s : State) : Out := done (convertOp 8 s c st)

/-! VECTOR (R187, R188). -/

/-- A step's FP32 result and the saturations so far. -/
abbrev Sv := Word × Nat

def round32 (v : FV) (n : Nat) : Sv := (rne32 v, n + b2n (sat32 v))
def vAdd (a b : Sv) : Sv := round32 ((f32 a.1).add (f32 b.1)) (a.2 + b.2)
def vSub (a b : Sv) : Sv := round32 ((f32 a.1).sub (f32 b.1)) (a.2 + b.2)
def vMul (a b : Sv) : Sv := round32 ((f32 a.1).mul (f32 b.1)) (a.2 + b.2)
def vRom (code : Nat) (a : Sv) : Sv := (romFn code a.1, a.2 + b2n (romSat code a.1))

/-- Row sum by 128 lanes and halving (R188). -/
def lanes (xs : List Word) : List Word :=
  (List.range 128).map fun j =>
    (((List.range xs.length).zip xs).filter fun p => p.1 % 128 == j).foldl (fun a p => fadd a p.2) 0

def halve : Nat → List Sv → Sv
  | 0, l => l.headD (0, 0)
  | n + 1, l => halve n ((List.range (2 ^ n)).map fun j => vAdd (l.getD j (0, 0)) (l.getD (j + 2 ^ n) (0, 0)))

/-- The saturations of a lane's additions. -/
def laneSat (xs : List Word) (j : Nat) : Nat :=
  ((((List.range xs.length).zip xs).filter fun p => p.1 % 128 == j).foldl (fun (a : Sv) p => vAdd a (p.2, 0)) (0, 0)).2

def rowSum (xs : List Word) : Sv :=
  halve 7 (((List.range 128).zip (lanes xs)).map fun p => (p.2, laneSat xs p.1))

def rowMax (xs : List Word) : Word :=
  match xs with
  | [] => 0
  | x :: l => l.foldl fmax x

/-- 1 ÷ n rounded once. -/
def oneOver (n : Nat) : Word := rne32 (FV.one.div (.fin false n 0))

/-- RMSNORM of a row with the immediate c. -/
def rmsRow (c : Word) (xs : List Word) : List Word × Nat :=
  let sq := xs.map fun x => vMul (x, 0) (x, 0)
  let sm := rowSum (sq.map (·.1))
  let r := vRom 0x13 (vAdd (vMul sm (oneOver xs.length, 0)) (c, 0))
  let ys := xs.map fun x => vMul (x, 0) (r.1, 0)
  (ys.map (·.1), (sq.map (·.2)).foldl (· + ·) 0 + r.2 + (ys.map (·.2)).foldl (· + ·) 0)

/-- The row functions: results by column and saturations. -/
def rowFn (code : Nat) (c : Word) (xs : List Word) : List Word × Nat :=
  match code with
  | 0x20 => let r := rowSum xs; (xs.map fun _ => r.1, r.2)
  | 0x21 => (xs.map fun _ => rowMax xs, 0)
  | 0x22 =>
    let m := rowMax xs
    let es := xs.map fun x => vRom 0x10 (vSub (x, 0) (m, 0))
    let sm := rowSum (es.map (·.1))
    let r := vRom 0x12 sm
    let ys := es.map fun e => vMul (e.1, 0) (r.1, 0)
    (ys.map (·.1), (es.map (·.2)).foldl (· + ·) 0 + r.2 + (ys.map (·.2)).foldl (· + ·) 0)
  | 0x23 => rmsRow c xs
  | _ =>
    let mean := vMul (rowSum xs) (oneOver xs.length, 0)
    let ds := xs.map fun x => vSub (x, 0) (mean.1, 0)
    let y := rmsRow c (ds.map (·.1))
    (y.1, mean.2 + (ds.map (·.2)).foldl (· + ·) 0 + y.2)

/-- The element functions. -/
def elemFn (code : Nat) (c a b : Word) : Sv :=
  match code with
  | 0x01 => vAdd (a, 0) (b, 0)
  | 0x02 => vSub (a, 0) (b, 0)
  | 0x03 => vMul (a, 0) (b, 0)
  | 0x04 => (fmax a b, 0)
  | 0x05 => (fmin a b, 0)
  | 0x06 => vMul (a, 0) (c, 0)
  | 0x07 => (a, 0)
  | k => vRom k (a, 0)

def vecFn (m : List Byte) : Nat := miOpx m 0 1
def isRowFn (k : Nat) : Bool := decide (0x20 ≤ k) && decide (k ≤ 0x24)
def vecDefined (k : Nat) : Bool :=
  (decide (1 ≤ k) && decide (k ≤ 7)) || (decide (0x10 ≤ k) && decide (k ≤ 0x18)) || isRowFn k
def twoOperands (k : Nat) : Bool := decide (k ≤ 5)

def opVector (k : Nat) : OpSpec :=
  { OpSpec.base 0x11 with
    mine := fun m => miOpcode m == 0x11 && (vecFn m == k || !vecDefined (vecFn m))
    fieldOk := fun s _ m => vecDefined (vecFn m) && (List.range 3).all (fun i => miOpx m (1 + i) 1 == 0) &&
      miOpx m 8 8 == 0 && (!isRowFn k || decide (dCols (descOf s (miSrc m 0)) ≤ 32768)) && regionField s m
    req := if twoOperands k then [0, 1, 2] else [0, 1]
    needs := fun s _ m => learnedNeeds s (if twoOperands k then [miSrc m 0, miSrc m 1] else [miSrc m 0])
    planned := fun s m => regionPlanned s (if isRowFn k then 1 else 0) m
    plan := fun s _ m => if isRowFn k then rowPlan (descOf s (miDst m)) (descOf s (miSrc m 0)) else regionPlan s (descOf s (miDst m)) }

/-- Rows of results of a unit, by row then column, and saturations. -/
def vectorTile (s : State) (f : Flight) (x : Spot) : List (List Word) × Nat :=
  let k := vecFn f.mi
  let imm : Word := BitVec.ofNat 32 (miOpx f.mi 4 4)
  let rows := (List.range (x.r1 - x.r0)).map fun j =>
    let at_ := fun (fld i : Nat) => round32 (sourceAt s f fld (x.c0 + i) (x.r0 + j) x.f2 x.f3) 0
    let xs := (List.range (x.c1 - x.c0)).map (at_ (miSrc f.mi 0))
    let n0 := (xs.map (·.2)).foldl (· + ·) 0
    if isRowFn k then let y := rowFn k imm (xs.map (·.1)); (y.1, n0 + y.2)
    else
      let ys := (List.range xs.length).map fun i =>
        let b := if twoOperands k then at_ (miSrc f.mi 1) i else (0, 0)
        let y := elemFn k imm (xs.getD i (0, 0)).1 b.1
        (y.1, y.2 + b.2)
      (ys.map (·.1), n0 + (ys.map (·.2)).foldl (· + ·) 0)
  (rows.map (·.1), (rows.map (·.2)).foldl (· + ·) 0)

/-- What a unit of a VECTOR writes: the part of DST that its results cover. -/
def vectorWrote (s : State) (f : Flight) (x : Spot) : Wrote :=
  let ys := (vectorTile s f x).1
  let d := descOf s (miDst f.mi)
  let cols := min (shp f 0) (dCols d)
  let rows := min (shp f 1) (dRows d)
  if dDim d 2 ≤ x.f2 || dDim d 3 ≤ x.f3 then Wrote.none
  else convertRect s f (miDst f.mi) 0x8 maxF32 cols rows x.c0 (min x.c1 cols) x.r0 (min x.r1 rows) x.f2 x.f3 (tileVal x ys)

/-- A unit of a VECTOR: every saturation counts in GZ_SAT (R187), the events of its conversion as those of the destination
(log entry 83). -/
def vectorOut (s : State) (f : Flight) (x : Spot) : UnitOut :=
  let w := vectorWrote s f x
  let rs := (if twoOperands (vecFn f.mi) then [miSrc f.mi 0, miSrc f.mi 1] else [miSrc f.mi 0]).map fun fld =>
    sourceRect s f fld x.c0 x.c1 x.r0 x.r1 x.f2 x.f3
  ⟨[(hHandle (miDst f.mi), w.puts)], rs, [], [rsvTally s rs, .gz ((vectorTile s f x).2 + w.ev.sat),
    .seam (hHandle (miDst f.mi)) w.ev w.amax w.elems]⟩

def vectorOp (k : Nat) (s : State) (c : Nat) (st : Strm) : State :=
  issue (opVector k) s c st fun s id f first => startWalk s id c first (regionEmpty f)

def execAdd (c : Fin 1056) (st : Strm) (s : State) : Out := done (vectorOp 0x01 s c st)

def execSub (c : Fin 1056) (st : Strm) (s : State) : Out := done (vectorOp 0x02 s c st)

def execMul (c : Fin 1056) (st : Strm) (s : State) : Out := done (vectorOp 0x03 s c st)

def execMax (c : Fin 1056) (st : Strm) (s : State) : Out := done (vectorOp 0x04 s c st)

def execMin (c : Fin 1056) (st : Strm) (s : State) : Out := done (vectorOp 0x05 s c st)

def execScale (c : Fin 1056) (st : Strm) (s : State) : Out := done (vectorOp 0x06 s c st)

def execCopy (c : Fin 1056) (st : Strm) (s : State) : Out := done (vectorOp 0x07 s c st)

def execExp (c : Fin 1056) (st : Strm) (s : State) : Out := done (vectorOp 0x10 s c st)

def execLog (c : Fin 1056) (st : Strm) (s : State) : Out := done (vectorOp 0x11 s c st)

def execRecip (c : Fin 1056) (st : Strm) (s : State) : Out := done (vectorOp 0x12 s c st)

def execRsqrt (c : Fin 1056) (st : Strm) (s : State) : Out := done (vectorOp 0x13 s c st)

def execTanh (c : Fin 1056) (st : Strm) (s : State) : Out := done (vectorOp 0x14 s c st)

def execSigmoid (c : Fin 1056) (st : Strm) (s : State) : Out := done (vectorOp 0x15 s c st)

def execGeluT (c : Fin 1056) (st : Strm) (s : State) : Out := done (vectorOp 0x16 s c st)

def execGeluE (c : Fin 1056) (st : Strm) (s : State) : Out := done (vectorOp 0x17 s c st)

def execSilu (c : Fin 1056) (st : Strm) (s : State) : Out := done (vectorOp 0x18 s c st)

def execRowsum (c : Fin 1056) (st : Strm) (s : State) : Out := done (vectorOp 0x20 s c st)

def execRowmax (c : Fin 1056) (st : Strm) (s : State) : Out := done (vectorOp 0x21 s c st)

def execSoftmax (c : Fin 1056) (st : Strm) (s : State) : Out := done (vectorOp 0x22 s c st)

def execRmsnorm (c : Fin 1056) (st : Strm) (s : State) : Out := done (vectorOp 0x23 s c st)

def execLayernorm (c : Fin 1056) (st : Strm) (s : State) : Out := done (vectorOp 0x24 s c st)

/-! GATHER and SCATTER (R313). -/

/-- Blocks along d0, none, or both tensors WIDE. -/
def rowsCopy (d : Desc) : Bool := let g := storeGeo d; g.blk == 0 || g.axis (dRed d) == 0

def gatherBad (s : State) (m : List Byte) : Bool :=
  let a := descOf s (miSrc m 0); let d := descOf s (miDst m); let x := descOf s (miSrc m 1)
  dFormat a != dFormat d || dWide a != dWide d || dCols a != dCols d || !rowsCopy a || !rowsCopy d || dFormat x != 0

/-- The tensor whose rows the indices name. -/
def indexed (gather : Bool) (m : List Byte) : Nat := if gather then miSrc m 0 else miDst m
def listed (gather : Bool) (m : List Byte) : Nat := if gather then miDst m else miSrc m 0

/-- Rows that are moved, as planned. -/
def listedRows (s : State) (gather : Bool) (m : List Byte) : Nat :=
  min (dRows (descOf s (listed gather m))) (dCols (descOf s (miSrc m 1)))

/-- Tiles of the listed rows of fold 0 (R200). -/
def gatherPlan (s : State) (gather : Bool) (m : List Byte) : Plan :=
  let d := descOf s (miDst m)
  let g := storeGeo d
  let dc := g.blk == 128 && g.axis (dRed d) == 0
  let rt := cdiv (listedRows s gather m) 64
  let ct := cdiv (dCols d) (if dc then 128 else 64)
  ⟨rt, ct, 1, 1, 0, rt * ct, 0, 0, false, dc⟩

def opRows (gather : Bool) : OpSpec :=
  { OpSpec.base (if gather then 0x18 else 0x19) with
    fieldOk := fun s _ m => (List.range 16).all (fun i => miOpx m i 1 == 0) && decide ((gatherPlan s gather m).units ≤ 2 ^ 22)
    req := [0, 1, 2]
    check := fun s _ m => if gatherBad s m then 0x07 else 0
    planned := fun s m => [2 ^ 32 - 1, listedRows s gather m]
    plan := fun s _ m => gatherPlan s gather m }

/-- Unit t of GATHER and SCATTER: 64 listed rows by 64 or 128 columns. -/
def gatherSpot (s : State) (f : Flight) (t : Nat) : Spot :=
  let w := if f.plan.dblCol then 128 else 64
  let r := t / f.plan.colTiles * 64
  let c := t % f.plan.colTiles * w
  { f2 := 0, f3 := 0, tile := t, r0 := r, r1 := min (r + 64) (shp f 1), c0 := c, c1 := min (c + w) (dCols (descOf s (miDst f.mi)))
    seg := 0, k0 := 0, k1 := 0 }

/-- A copied code: T2's reserved code is read as 0 and never written (R68). -/
def copyCode (el : Elem) (code : Nat) : Nat := if el == .t2 && code == 2 then 0 else code

/-- Codes and scales of columns [c0, c1) of row `src` of one view put as row `dst` of another; none: code 0. Between two
block geometries the manual gives no result: codes and scales are free from number n on (log entry 84). -/
def rowPuts (s : State) (va vd : View) (n c0 c1 : Nat) (src : Option Nat) (dst : Nat) : List Put :=
  let any := va.el != vd.el || va.blk != vd.blk
  let code := fun (i c : Nat) => match src with
    | some r => if any then Config.freeNat (n + i) % 2 ^ vd.el.bits else copyCode va.el (va.code' s c r 0 0)
    | none => 0
  let bx := fun (i b : Nat) => match src with
    | some r => if any then Config.freeNat (n + i) % 256 else va.bx s (b * vd.blk) r 0 0
    | none => 0
  ((List.range (c1 - c0)).map fun i => (vd.codeBit (c0 + i) dst 0 0, vd.el.bits, code i (c0 + i))) ++
  (if vd.blk = 0 then []
   else (List.range (cdiv c1 vd.blk - c0 / vd.blk)).map fun i =>
     let b := c0 / vd.blk + i
     (8 * vd.scaleByte (b * vd.blk) dst 0 0, 8, bx (c1 - c0 + i) b))

/-- A unit of GATHER or SCATTER: rows are moved with their scales, without rounding; of rows with one index the one of the
largest i is kept; indices out of range are counted once, in the first columns (R313). -/
def rowsOut (gather : Bool) (s : State) (f : Flight) (x : Spot) : UnitOut :=
  let view := fun (fld : Nat) => viewAt (hHandle fld) (readBase s f.bank (hHandle fld) (descOf s fld)) (descOf s fld)
  let va := view (miSrc f.mi 0); let vd := view (miDst f.mi); let vi := view (miSrc f.mi 1)
  let lim := (view (indexed gather f.mi)).d1
  let ix := fun (i : Nat) => vi.code' s i 0 0 0
  let n := if va.el != vd.el || va.blk != vd.blk then 2 * (x.c1 - x.c0) else 0
  let rows := (List.range (x.r1 - x.r0)).map (x.r0 + ·)
  let last := fun (i : Nat) => !(List.range (shp f 1 - i - 1)).any fun j => ix (i + 1 + j) == ix i
  let put := fun (i : Nat) =>
    let k := s.freeNum + n * (i - x.r0)
    if gather then rowPuts s va vd k x.c0 x.c1 (if lim ≤ ix i then none else some (ix i)) i
    else if lim ≤ ix i || !last i then [] else rowPuts s va vd k x.c0 x.c1 (some i) (ix i)
  let src := rows.filterMap fun i =>
    let r := if gather then ix i else i
    if lim ≤ ix i || va.d1 ≤ r then none else some (⟨va, x.c0, x.c1, r, r + 1, 0, 0⟩ : Rect)
  let past := rows.countP fun i => decide (lim ≤ ix i)
  ⟨[(hHandle (miDst f.mi), rows.flatMap put)], ⟨vi, x.r0, if gather then x.r1 else shp f 1, 0, 1, 0, 0⟩ :: src, [],
    [rsvTally s src, .range (if x.c0 = 0 then past else 0), .free (n * rows.length)]⟩

def rowsOp (gather : Bool) (s : State) (c : Nat) (st : Strm) : State :=
  issue (opRows gather) s c st fun s id f first => startWalk s id c first (shp f 1 == 0)

def execGather (c : Fin 1056) (st : Strm) (s : State) : Out := done (rowsOp true s c st)

def execScatter (c : Fin 1056) (st : Strm) (s : State) : Out := done (rowsOp false s c st)

end Sys2Proof.Machine
end

