-- ==== Sys2Proof/Machine/Pools.lean ====
section
/-! DEFINITION. KV pools: geometry, pages, open-block buffers, channel records and their errors (R229 to R238). -/
namespace Sys2Proof.Machine
open Sys2Proof

/-- Geometry of a pool descriptor (R230). -/
structure Pool where
  h : Nat
  d : Nat
  hkv : Nat
  g : Nat
  ly : Nat
  el : Elem
  bs : Nat
  deriving DecidableEq, Repr

def poolOf (s : State) (fld : Nat) : Pool :=
  let d := descOf s fld
  let g := storeGeo d
  ⟨hHandle fld, dDim d 0, dDim d 2, dDim d 3, dDim d 4, g.elem, g.blk⟩

/-- Element kinds of attention operands (R224, R230). -/
def attElem (e : Elem) : Bool := e == .e4 || e == .e5 || e == .e2

/-- Head sizes D and Dv. -/
def headOk (d : Nat) : Bool := decide (32 ≤ d) && decide (d ≤ 256) && d % 32 == 0

/-- A layout that KV and pool ATTEND commands take (R230). -/
def poolOk (d : Desc) : Bool :=
  let g := storeGeo d
  dRank d == 5 && headOk (dDim d 0) && dDim d 1 == 64 && decide (dDim d 3 ≤ 2 ^ 20) && decide (dDim d 4 ≤ 256) &&
    attElem g.elem && (g.blk == 16 || g.blk == 32)

/-- Planes of a page, its size (R231). -/
def Pool.codes (p : Pool) : Nat := 64 * p.hkv * p.d * p.el.bits / 8
def Pool.scales (p : Pool) : Nat := 64 * p.hkv * p.d / p.bs
def Pool.kScale (p : Pool) : Nat := p.codes
def Pool.vCode (p : Pool) : Nat := p.codes + p.scales
def Pool.vScale (p : Pool) : Nat := 2 * p.codes + p.scales
def Pool.page (p : Pool) : Nat := upTo (2 * p.codes + 2 * p.scales) 4096
def Pool.at (p : Pool) (g l : Nat) : Nat := (g * p.ly + l) * p.page

/-- K of a page as a matrix of D columns with a row for each head of each position. -/
def Pool.kView (p : Pool) (g l : Nat) : View :=
  { h := p.h, d0 := p.d, d1 := p.hkv * 64, d2 := 1, d3 := 1, el := p.el, blk := p.bs, axis := 0, code := p.at g l
    scale := p.at g l + p.kScale, c2 := 0, c3 := 0, s2 := 0, s3 := 0, table := 0, grouped := false, red := false }

/-- V of a page as a matrix of 64 positions with a row for each d of each head. -/
def Pool.vView (p : Pool) (g l : Nat) : View :=
  { h := p.h, d0 := 64, d1 := p.d * p.hkv, d2 := 1, d3 := 1, el := p.el, blk := p.bs, axis := 0
    code := p.at g l + p.vCode, scale := p.at g l + p.vScale, c2 := 0, c3 := 0, s2 := 0, s3 := 0, table := 0
    grouped := false, red := false }

/-- The open-block buffer of a channel's layer: after the groups, by owned channel and layer, position innermost, then d,
then h (log entry 26). -/
def Pool.bufBytes (p : Pool) : Nat := p.bs * p.hkv * p.d * 2
def chanRank (s : State) (c : Nat) : Nat :=
  s.chans.countP fun e => e.1 < c && e.2.owned && e.2.panel == (s.chan c).panel
def Pool.bufAt (s : State) (p : Pool) (c l : Nat) : Nat := p.g * p.ly * p.page + (chanRank s c * p.ly + l) * p.bufBytes
def Pool.bufElem (s : State) (p : Pool) (c l pos d h : Nat) : Nat :=
  p.bufAt s c l + 2 * (pos % p.bs + p.bs * (d + p.d * h))

def Chan.len (x : Chan) (l : Nat) : Nat := assocGet x.lens l
def Chan.groupAt (x : Chan) (n : Nat) : Nat := (x.groups.getD n (0, 0)).2

/-- Key vector of a position, and a value element: from its page, or from the open buffer (R234). -/
def Pool.key (s : State) (p : Pool) (c l h pos : Nat) : List FV :=
  let v := p.kView ((s.chan c).groupAt (pos / 64)) l
  (List.range p.d).map fun i => v.get s 0 i (h + p.hkv * (pos % 64)) 0 0
def Pool.isOpen (s : State) (p : Pool) (c l pos : Nat) : Bool := decide ((s.chan c).len l / p.bs * p.bs ≤ pos)
def Pool.val (s : State) (p : Pool) (c l h pos d : Nat) : FV :=
  if p.isOpen s c l pos then bf16.decode (leNat (s.tRead p.h (p.bufElem s c l pos d h) 2))
  else (p.vView ((s.chan c).groupAt (pos / 64)) l).get s 0 (pos % 64) (d + p.d * h) 0 0

/-! Channel errors (R237, R238). -/

def ownsChan (s : State) (p c : Nat) : Bool := decide (c ≤ 1023) && (s.chan c).owned && (s.chan c).panel == p

def State.chanError (s : State) (c code : Nat) : State :=
  let x := s.chan c
  let s := if x.error = 0 then s.setChan c { x with error := code } else s
  if code = 3 then s.attFeltEvt (c % 8) 2 else s

/-- A bad block of a page, a buffer or a record that a command reads: felt events, then DATA_ERROR. -/
def State.chanBad (s : State) (c key : Nat) : State :=
  let (s, _, _) := uncorrTensor s (64 * key / 2 ^ 40) (64 * key % 2 ^ 40)
  s.chanError c 3

/-- A fold met a channel in error: core c counts n folds. -/
def State.errFolds (s : State) (c n : Nat) : State := (s.finc F.ATT_ROWS_ERR_FOLDS c n).attEvt c 2

/-- Block of a channel's record: somewhere in the felt region of its felt (R229, R291; log entry 157). -/
def chanRecKey (c : Nat) : Nat := (c % 8 * 2 ^ 36 + 31744 * 2 ^ 21) / 64 + Config.chanRec c % (1024 * 32768)

/-- A command reaches a channel: held by another command, its fold fails with BUSY; else this one holds it, and finds an
uncorrectable record (R238). -/
def State.reach (s : State) (id c : Nat) : State :=
  let x := s.chan c
  if x.held then s.chanError c 1
  else
    let s := (s.setChan c { x with held := true }).updFlight id fun f => { f with chans := addTo f.chans c }
    if s.badPhys.contains (chanRecKey c) then (uncorrFound s (c % 8) (64 * chanRecKey c)).chanError c 3 else s

/-- The flight holds the channel. -/
def holdsChan (s : State) (id c : Nat) : Bool := match s.flight id with | some f => f.chans.contains c | none => false

/-- Byte ranges of the pool that a unit of head h reads for key tiles `vis` of a channel's layer: keys and scales, closed
value blocks, and the open buffer. -/
def Pool.reads (s : State) (p : Pool) (c l h : Nat) (vis : List Nat) : List (Nat × Nat × Nat) :=
  let x := s.chan c
  let n := x.len l
  vis.flatMap fun t =>
    let kv := p.kView (x.groupAt t) l
    let vv := p.vView (x.groupAt t) l
    let k := min 64 (n - 64 * t)
    let shut := min 64 (n / p.bs * p.bs - 64 * t)
    ((List.range k).flatMap fun i =>
      let r := h + p.hkv * i
      [(p.h, kv.codeBit 0 r 0 0 / 8, p.d * p.el.bits / 8), (p.h, kv.scaleByte 0 r 0 0, p.d / p.bs)]) ++
    ((List.range p.d).flatMap fun d =>
      let r := d + p.d * h
      [(p.h, vv.codeBit 0 r 0 0 / 8, shut * p.el.bits / 8), (p.h, vv.scaleByte 0 r 0 0, shut / p.bs)] ++
      (if shut < k then [(p.h, p.bufElem s c l (64 * t + shut) d h, 2 * (k - shut))] else []))

end Sys2Proof.Machine
end

