-- ==== Sys2Proof/Machine/Attend.lean ====
section
/-! DEFINITION. ATTEND and ATTEND_BWD (R215 to R228, R234, R238, R246). -/
namespace Sys2Proof.Machine
open Sys2Proof

/-! Arithmetic of one unit. -/

/-- What an attention computation is given: REF, diversion to Tweed, RUN_P, its layer, geometry of Q, K and V. -/
structure Att where
  ref : Bool
  div : Bool
  run : Nat
  ly : Layer
  q : Geo
  k : Geo
  v : Geo
  deriving DecidableEq, Repr

/-- The keys a row may see (R218, R221): `blk` is the block mask, `off` the position of row 0. -/
def allowed (ly : Layer) (blk : Nat → Nat → Bool) (lk : Nat) (off : Int) (i j : Nat) : Bool :=
  let p := off + (i : Int)
  decide (j < lk) && decide (0 ≤ p) &&
  match ly.mask with
  | .none => true
  | .causal => decide ((j : Int) ≤ p)
  | .window => decide (p - (ly.window : Int) < (j : Int)) && decide ((j : Int) ≤ p)
  | .block => blk (i / 64) (j / 64) && (!ly.causalToo || decide ((j : Int) ≤ p))

/-- A visited key tile of a unit: its index, the unmasked keys, and the scaled scores x (0 where masked), by row. -/
structure KeyTile where
  t : Nat
  ok : List (List Bool)
  x : List (List Word)
  deriving DecidableEq, Repr

/-- TILESUM of terms by lane. -/
def tileSum (l : List (Nat × Sv)) : Sv :=
  halve 6 ((List.range 64).map fun j => ((l.find? (·.1 == j)).map (·.2)).getD (0, 0))

/-- Scores of a query tile against a key tile: accumulators and counts (R219, R223). -/
def Att.scores (a : Att) (rows keys : List (List FV)) : List (List Word) × Cnt :=
  if a.div then tweedTile a.ref (tweedLen a.q.blk a.k.blk) rows keys
  else
    let r := gauzePass a.ref a.ly fun mode => gauzeTile mode a.run (gaugeLen a.q a.k) 0 rows keys []
    (r.1, r.2.1)

/-- x_j = RNE32(a_j × c) at unmasked keys, and the saturations. -/
def scaleScores (c : Word) (acc : List (List Word)) (ok : List (List Bool)) : List (List Word) × Nat :=
  let r := (acc.zip ok).map fun p => (p.1.zip p.2).map fun q => if q.2 then vMul (q.1, 0) (c, 0) else (0, 0)
  (r.map fun l => l.map (·.1), (r.flatten.map (·.2)).foldl (· + ·) 0)

/-- The 64-row halves of rows r0 to r1. -/
def halves (r0 r1 : Nat) : List (Nat × Nat) := (List.range (cdiv (r1 - r0) 64)).map fun k => (r0 + 64 * k, min r1 (r0 + 64 * k + 64))

/-- The visited key tiles of rows r0 to r1, with counts of the passes and saturations of x. Each 64 × 64 tile of scores is a
tile of its own, so that the backward pass meets the same ones (R119, R228). -/
def Att.tiles (a : Att) (query key : Nat → List FV) (ok : Nat → Nat → Bool) (lk r0 r1 : Nat) : List KeyTile × List Cnt × Nat :=
  (List.range (cdiv lk 64)).foldl (fun acc t =>
    let js := (List.range (min 64 (lk - 64 * t))).map fun j => 64 * t + j
    let m := (List.range (r1 - r0)).map fun i => js.map fun j => ok (r0 + i) j
    if m.all fun l => l.all fun b => !b then acc
    else
      let keys := js.map key
      let ss := (halves r0 r1).map fun h => a.scores ((List.range (h.2 - h.1)).map fun i => query (h.1 + i)) keys
      let x := scaleScores a.ly.scale (ss.flatMap (·.1)) m
      (acc.1 ++ [⟨t, m, x.1⟩], acc.2.1 ++ ss.map (·.2), acc.2.2 + x.2)) ([], [], 0)

/-- The unmasked scores of row i of a tile, by lane. -/
def rowTerms (t : KeyTile) (i : Nat) : List (Nat × Word) :=
  let ok := t.ok.getD i []; let x := t.x.getD i []
  (List.range ok.length).filterMap fun j => if ok.getD j false then some (j, x.getD j 0) else none

/-- One tile of pass 1: m and l, and the saturations of its steps. -/
def onlineStep (m : Option (Word × Sv)) (xs : List (Nat × Word)) : Option (Word × Sv) :=
  if xs.isEmpty then m
  else
    let top := rowMax (xs.map (·.2))
    let mt := match m with | some x => fmax x.1 top | none => top
    let st := tileSum (xs.map fun x => (x.1, vRom 0x10 (vSub (x.2, 0) (mt, 0))))
    let l := match m with | some x => vAdd (vMul x.2 (vRom 0x10 (vSub (x.1, 0) (mt, 0)))) st | none => st
    some (mt, l)

/-- Pass 1 of a row: m and LSE with the saturations; none for an empty row (R221). -/
def rowStats (ts : List KeyTile) (i : Nat) : Option (Word × Sv) :=
  (ts.foldl (fun m t => onlineStep m (rowTerms t i)) none).map fun x => (x.1, vAdd (x.1, 0) (vRom 0x11 x.2))

/-- Pass 2: probabilities of a tile, +0 at masked keys, and the saturations. -/
def tileProbs (t : KeyTile) (lse : List Word) : List (List Word) × Nat :=
  let r := (List.range t.x.length).map fun i =>
    ((t.x.getD i []).zip (t.ok.getD i [])).map fun p => if p.2 then vRom 0x10 (vSub (p.1, 0) (lse.getD i 0, 0)) else (0, 0)
  (r.map fun l => l.map (·.1), (r.flatten.map (·.2)).foldl (· + ·) 0)

/-- Quantisation into WB8-S16 or WB8E5-S16 with computed exponents and RNE; its events are not counted. -/
def quant16 (el : Elem) (rows : List (List Word)) : List (List FV) :=
  (entryRows ⟨el, 16, true, maxF32, 0, none, noLearned⟩ (fun _ _ => .rne) (rows.map fun l => l.map f32)).1

/-- Groups of one output element of P·V: a tile that was skipped has none; a term of an open V block is a contribution of
its own (R220, R234). -/
def pvGroups (exact : Bool) (g : Nat) (tiles : List (Option (List (FV × FV × Bool)))) : List (List FV) × Cnt :=
  tiles.foldl (fun acc t =>
    match t with
    | none => (acc.1 ++ List.replicate (64 / g) [], acc.2)
    | some l => (chunks g l).foldl (fun acc grp =>
        let shut := grp.filter fun x => !x.2.2
        let terms := (if shut.isEmpty then [] else [sumFV (shut.map fun x => x.1.mul x.2.1)]) ++
          (grp.filter fun x => x.2.2).map fun x => x.1.mul x.2.1
        let rs := terms.map (rangeCheck exact)
        (acc.1 ++ [rs.map (·.1)], rs.foldl (fun c r => c.plus r.2) acc.2)) acc) ([], Cnt.none)

/-- P·V of a unit: 64 rows by 64 columns of O a pass (R219, R223). `val j d` and `open_ j` are V and its open positions; an
infinite V element is an infinite input of Tweed (R133). -/
def Att.pv (a : Att) (ts : List KeyTile) (ps : List (List (List FV))) (val : Nat → Nat → FV) (open_ : Nat → Bool)
    (lk dv rows : Nat) : List (List Word) × List Cnt :=
  let terms := fun i d => (List.range (cdiv lk 64)).map fun t =>
    match (ts.zip ps).find? fun x => x.1.t == t with
    | some x =>
      let row := x.2.getD i []
      some ((List.range row.length).map fun j => (row.getD j FV.zero, val (64 * t + j) d, open_ (64 * t + j)))
    | none => none
  let part := fun (h : Nat × Nat) (d0 : Nat) =>
    let n := min 64 (dv - d0)
    let cell := fun (go : Nat → Nat → Word × Cnt) =>
      let es := (List.range (h.2 - h.1)).map fun i => (List.range n).map fun d => go (h.1 + i) (d0 + d)
      (es.map fun l => l.map (·.1), es.flatten.foldl (fun c e => c.plus e.2) Cnt.none)
    if a.div then
      let r := cell fun i d => tweedOver a.ref ((terms i d).flatMap fun t =>
        match t with | some l => chunks (tweedLen 16 a.v.blk) (l.map fun x => x.1.mul x.2.1) | none => [])
      let inf := (List.range n).any fun d => (terms h.1 (d0 + d)).any fun t =>
        match t with | some l => l.any fun x => x.2.1.isInf | none => false
      (r.1, { r.2 with inf := inf })
    else
      let r := gauzePass a.ref a.ly fun mode => cell fun i d =>
        let c := pvGroups (mode != .normal) (gaugeLen ⟨.e4, 16, .square⟩ a.v) (terms i d)
        let x := accumulate mode a.run c.1
        (x.1, c.2.plus x.2)
      (r.1, r.2.1)
  let rs := (halves 0 rows).map fun h => (h, (List.range (cdiv dv 64)).map fun b => part h (64 * b))
  (rs.flatMap fun r => (List.range (r.1.2 - r.1.1)).map fun i => r.2.flatMap fun p => p.1.getD i [],
    rs.flatMap fun r => r.2.map (·.2))

/-- Results of the rows of a unit: O, m and LSE by row, empty rows, counts of passes, saturations of the vector steps. -/
structure AttOut where
  o : List (List Word)
  m : List Word
  lse : List Word
  empties : Nat
  cnts : List Cnt
  sat : Nat
  deriving DecidableEq, Repr

/-- ATTEND of rows r0 to r1 of a fold. Pass 2 recomputes the scores, so their counts come twice. -/
def Att.unit (a : Att) (query key : Nat → List FV) (val : Nat → Nat → FV) (open_ : Nat → Bool) (ok : Nat → Nat → Bool)
    (lk dv r0 r1 : Nat) : AttOut :=
  let (ts, cs, sat) := a.tiles query key ok lk r0 r1
  let st := (List.range (r1 - r0)).map (rowStats ts)
  let lse := st.map fun x => (x.map (·.2.1)).getD 0xFF7FFFFF
  let pr := ts.map fun t => tileProbs t lse
  let pv := a.pv ts (pr.map fun p => quant16 .e4 p.1) val open_ lk dv (r1 - r0)
  { o := (pv.1.zip st).map fun x => if x.2.isSome then x.1 else List.replicate dv 0
    m := st.map fun x => (x.map (·.1)).getD 0xFF7FFFFF, lse := lse, empties := st.countP (·.isNone)
    cnts := cs ++ cs ++ pv.2
    sat := 2 * sat + (st.map fun x => (x.map (·.2.2)).getD 0).foldl (· + ·) 0 + (pr.map (·.2)).foldl (· + ·) 0 }

/-! Operands. -/

def isPool (s : State) (m : List Byte) : Bool := dKind (descOf s (miSrc m 1)) == kPool

/-- A value entry of the shape register; 0 where the command takes the planned shape (log entry 27). -/
def valueAt (m : List Byte) (sh : List Nat) (k : Nat) : Nat := if miShape m = 0 then 0 else sh.getD k 0

def plainView (s : State) (f : Flight) (fld : Nat) : View := viewAt (hHandle fld) (readBase s f.bank (hHandle fld) (descOf s fld)) (descOf s fld)

/-- Elements of row j of a fold, as stored. -/
def rowOf (s : State) (v : View) (f2 f3 j : Nat) : List FV := (List.range v.d0).map fun i => v.get s 0 i j f2 f3

/-- The block mask of a layer (R218): code 0b10 reads as 0. -/
def maskCode (s : State) (ly : Layer) (r t : Nat) : Nat :=
  match ly.maskHandle with
  | some h => match s.desc h with | some d => (viewAt h 0 d).code' s t r 0 0 | none => 0
  | none => 0
def blockOn (s : State) (ly : Layer) (r t : Nat) : Bool := let x := maskCode s ly r t; x == 1 || x == 3

/-- Reserved mask codes that the rows [r0, r1) of a unit read. -/
def maskRsv (s : State) (ly : Layer) (lk r0 r1 : Nat) : Nat :=
  if ly.mask != .block then 0
  else ((halves r0 r1).flatMap fun h => (List.range (cdiv lk 64)).map fun t => maskCode s ly (h.1 / 64) t).countP (· == 2)

/-- Key head of a query head (R216). -/
def keyHead (hq hkv h : Nat) : Nat := h * hkv / hq

/-- Position of query row 0 (R217). -/
def rowOffset (pool : Bool) (w lq lk : Nat) : Int :=
  if pool then (lk : Int) - lq else if w = 0xFFFFFFFF then ((lk - lq : Nat) : Int) else w

/-! Checks (R215 to R218, R224, R246). -/

def flat4 (d : Desc) : Bool := dDim d 4 == 1 && dDim d 5 == 1
def statsOk (d q : Desc) : Bool :=
  dFormat d == 0 && flat4 d && dDim d 0 == 4 && dDim d 1 == dDim q 1 && dDim d 2 == dDim q 2 && dDim d 3 == dDim q 3

/-- Shapes of Q, K and V. -/
def qkvOk (q k v : Desc) : Bool :=
  flat4 q && flat4 k && flat4 v && headOk (dDim q 0) && headOk (dDim v 0) && dDim k 0 == dDim q 0 && dDim k 3 == dDim q 3 &&
  dDim v 1 == dDim k 1 && dDim v 2 == dDim k 2 && dDim v 3 == dDim k 3 && dDim q 2 % dDim k 2 == 0

/-- A descriptor shaped as d0 = a, d1 to d3 as those of b. -/
def shaped (d : Desc) (a : Nat) (b : Desc) : Bool :=
  flat4 d && dDim d 0 == a && dDim d 1 == dDim b 1 && dDim d 2 == dDim b 2 && dDim d 3 == dDim b 3

/-- An operand of R224 whose blocks lie along one of the given axes. -/
def attFmt (d : Desc) (axes : List Nat) : Bool :=
  let g := storeGeo d
  !dWide d && g.blk != 0 && attElem g.elem && axes.contains (g.axis (dRed d))

def attCheck (s : State) (_ : Nat) (m : List Byte) : Nat :=
  let q := descOf s (miSrc m 0); let k := descOf s (miSrc m 1); let v := descOf s (miSrc m 2)
  let o := descOf s (miDst m)
  let pool := isPool s m
  let okS := if pool then flat4 q && headOk (dDim q 0) && dDim k 0 == dDim q 0 && dDim q 2 % max 1 (dDim k 2) == 0 else qkvOk q k v
  if !okS || !shaped o (if pool then dDim k 0 else dDim v 0) q || (hPresent (miOpx m 0 4) && !statsOk (descOf s (miOpx m 0 4)) q)
  then 0x06
  else if !attFmt q [0, 2] || (if pool then !poolOk k else !attFmt k [0, 2] || !attFmt v [1, 2]) then 0x07
  else 0

/-- BAD_MASK (R218). -/
def maskBad (s : State) (pool : Bool) (ly : Layer) (lq lk : Nat) : Bool :=
  match ly.mask with
  | .none => pool
  | .causal => false
  | .window => ly.window == 0
  | .block => pool || match ly.maskHandle.bind s.desc with
    | some d => dFormat d != 0x10 || dWide d || dDim d 0 != cdiv lk 64 || dDim d 1 != cdiv lq 64 || !oneFold d || !flat4 d
    | none => true

/-- Channels base to base + n − 1 are below 1,024 and belong to the panel. -/
def chansOk (s : State) (p base n : Nat) : Bool :=
  decide (base + n ≤ 1024) && (List.range n).all fun f => ownsChan s p (base + f)

def layerOf (s : State) (p : Nat) (m : List Byte) : Layer := (layerAt s p m).getD emptyLayer

def attLate (s : State) (p _ : Nat) (m : List Byte) (sh : List Nat) : Nat :=
  let q := descOf s (miSrc m 0); let k := descOf s (miSrc m 1)
  if maskBad s (isPool s m) (layerOf s p m) (dDim q 1) (dDim k 1) then 0x22
  else if isPool s m && (!chansOk s p (valueAt m sh 5) (sh.getD 4 0) || decide (dDim k 4 ≤ miOpx m 4 2)) then 0x23
  else 0

def attPlan (s : State) (_ : Nat) (m : List Byte) : Plan :=
  let q := descOf s (miSrc m 0)
  let h := rowsUnit (descOf s (miDst m))
  let rt := cdiv (dDim q 1) h
  ⟨rt, 1, dDim q 2 * dDim q 3, 1, 0, dDim q 2 * dDim q 3 * rt, 0, 0, h == 128, false⟩

def opAttend : OpSpec :=
  { OpSpec.base 0x08 with
    layer := true
    fieldOk := fun s p m => hRsvOk (miOpx m 0 4) && (isPool s m || miOpx m 4 2 == 0) && miOpx m 6 8 == 0 && miOpx m 14 2 == 0 &&
      !(isPool s m && hPresent (miSrc m 2)) && decide ((attPlan s p m).units ≤ 2 ^ 22)
    req := [0, 1, 2]
    more := fun m => [miOpx m 0 4]
    needs := fun s _ m => if isPool s m then [] else [miSrc m 2]
    check := attCheck
    planned := fun s m =>
      let q := descOf s (miSrc m 0)
      [if isPool s m then 2 ^ 32 - 1 else dDim (descOf s (miSrc m 1)) 1, dDim q 1, 2 ^ 32 - 1, dDim q 2, dDim q 3, 2 ^ 32 - 1]
    late := attLate
    plan := attPlan }

/-! ATTEND. -/

def attDiverts (s : State) (m : List Byte) : Bool :=
  [0, 1, 2].any fun k => hPresent (miSrc m k) && (storeGeo (descOf s (miSrc m k))).elem == .e5

def attOf (s : State) (f : Flight) : Att :=
  let k := descOf s (miSrc f.mi 1)
  let gk := storeGeo k
  let pool := isPool s f.mi
  ⟨miRef f.mi, attDiverts s f.mi, miRun f.mi, layerIn s f, storeGeo (descOf s (miSrc f.mi 0)),
    (if pool then ⟨gk.elem, gk.blk, .k⟩ else gk), if pool then ⟨gk.elem, gk.blk, .k⟩ else storeGeo (descOf s (miSrc f.mi 2))⟩

/-- A diverted issue counts on its core (R223). -/
def countDivert (s : State) (m : List Byte) (c : Nat) : State :=
  if attDiverts s m then (s.finc F.ATT_DIVERT_COUNT c 1).attEvt c 0 else s

def attChan (f : Flight) (b : Nat) : Nat := valueAt f.mi f.shape 5 + b

/-- Unit t of an attention operation: rows of a fold of Q, of dO, or of keys of a key head (R216, R226). -/
def attSpot (s : State) (f : Flight) (t : Nat) : Spot :=
  let kv := miOpcode f.mi == 0x09 && miOpx f.mi 12 1 == 1
  let d := descOf s (miSrc f.mi (if kv then 1 else 0))
  rowSpot f t (dDim d 2) (shp f (if kv then 0 else 1)) 0

/-- Length of the keys that a unit meets. -/
def attLk (s : State) (f : Flight) (x : Spot) : Nat :=
  if isPool s f.mi then (s.chan (attChan f x.f3)).len (miOpx f.mi 4 2) else shp f 0

/-- The keys that the rows of a unit may see. -/
def attOk (s : State) (f : Flight) (x : Spot) : Nat → Nat → Bool :=
  let ly := layerIn s f
  let lk := attLk s f x
  allowed ly (blockOn s ly) lk (rowOffset (isPool s f.mi) (shp f 2) (shp f 1) lk)

/-- Key tiles that some of the rows [r0, r1) see. -/
def visible (ok : Nat → Nat → Bool) (r0 r1 lk : Nat) : List Nat :=
  (List.range (cdiv lk 64)).filter fun t =>
    (List.range (r1 - r0)).any fun i => (List.range (min 64 (lk - 64 * t))).any fun j => ok (r0 + i) (64 * t + j)

/-- One unit of an ATTEND. -/
def attUnit (s : State) (f : Flight) (x : Spot) : AttOut :=
  let a := attOf s f
  let g := keyHead (dDim (descOf s (miSrc f.mi 0)) 2) (dDim (descOf s (miSrc f.mi 1)) 2) x.f2
  let query := rowOf s (plainView s f (miSrc f.mi 0)) x.f2 x.f3
  let lk := attLk s f x
  if isPool s f.mi then
    let p := poolOf s (miSrc f.mi 1)
    let c := attChan f x.f3
    let l := miOpx f.mi 4 2
    a.unit query (p.key s c l g) (p.val s c l g) (p.isOpen s c l) (attOk s f x) lk p.d x.r0 x.r1
  else
    let vv := plainView s f (miSrc f.mi 2)
    a.unit query (rowOf s (plainView s f (miSrc f.mi 1)) g x.f3) (fun j d => vv.get s 0 d j g x.f3) (fun _ => false)
      (attOk s f x) lk vv.d0 x.r0 x.r1

/-- Results of rows whose channel is in error (R238). -/
def nanRows (n dv : Nat) : AttOut :=
  ⟨List.replicate n (List.replicate dv fNan), List.replicate n fNan, List.replicate n fNan, 0, [], 0⟩

/-- A pool ATTEND reaches its channels (R237). -/
def attReach (id : Nat) (f : Flight) (s : State) : State :=
  if !isPool s f.mi then s else (List.range (shp f 4)).foldl (fun s b => s.reach id (attChan f b)) s

/-- The channel of a unit is in error. -/
def attErr (s : State) (f : Flight) (x : Spot) : Bool := isPool s f.mi && (s.chan (attChan f x.f3)).error != 0

/-- What a unit of a pool ATTEND reads of the pool. -/
def attRanges (s : State) (f : Flight) (x : Spot) : List (Nat × Nat × Nat) :=
  if !isPool s f.mi || attErr s f x then []
  else
    let g := keyHead (dDim (descOf s (miSrc f.mi 0)) 2) (dDim (descOf s (miSrc f.mi 1)) 2) x.f2
    (poolOf s (miSrc f.mi 1)).reads s (attChan f x.f3) (miOpx f.mi 4 2) g (visible (attOk s f x) x.r0 x.r1 (attLk s f x))

/-- The channel of a unit as it is read: an uncorrectable page or buffer puts it in error, and the fold is counted once, by
the unit that finds the error or by its first rows (R238). -/
def attChannel (s : State) (c : Nat) (f : Flight) (x : Spot) : State :=
  if !isPool s f.mi then s
  else
    let hit := if s.badTens.isEmpty then none else (attRanges s f x).findSome? fun r => badIn s r.1 r.2.1 r.2.2
    let s := match hit with | some k => s.chanBad (attChan f x.f3) k | none => s
    if attErr s f x && (x.r0 == 0 || hit.isSome) then s.errFolds c 1 else s

/-- STATS entries of one row, from the first given (R222). -/
def statPuts (v : View) (k0 r f2 f3 : Nat) (ws : List Word) : List Put :=
  (List.range ws.length).map fun k => (v.codeBit (k0 + k) r f2 f3, 32, (ws.getD k 0).toNat)

/-- The output of a unit of ATTEND. -/
def attResult (s : State) (f : Flight) (x : Spot) : AttOut :=
  if attErr s f x then nanRows (x.r1 - x.r0) (dDim (descOf s (miDst f.mi)) 0) else attUnit s f x

/-- What a unit of ATTEND writes into DST. -/
def attWrote (s : State) (f : Flight) (x : Spot) : Wrote :=
  let o := (attResult s f x).o
  let dv := dDim (descOf s (miDst f.mi)) 0
  convertRect s f (miDst f.mi) 0x8 maxF32 dv (shp f 1) 0 dv x.r0 x.r1 x.f2 x.f3 fun d r => f32 ((o.getD (r - x.r0) []).getD d 0)

/-- What it writes into STATS: the row maxima and the logarithms of the sums (R222). -/
def attStats (s : State) (f : Flight) (x : Spot) : List Put :=
  let o := attResult s f x
  (List.range (x.r1 - x.r0)).flatMap fun i =>
    statPuts (plainView s f (miOpx f.mi 0 4)) 0 (x.r0 + i) x.f2 x.f3 [o.m.getD i 0, o.lse.getD i 0, 0, 0]

/-- Rows of an operand that a unit reads; whole rows of its columns. -/
def rowRect (s : State) (f : Flight) (fld f2 f3 r0 r1 : Nat) : Rect :=
  let v := plainView s f fld
  ⟨v, 0, v.d0, r0, r1, f2, f3⟩

/-- The key rows of visible tiles, of some operands. -/
def keyRects (s : State) (f : Flight) (flds : List Nat) (g b lk : Nat) (vis : List Nat) : List Rect :=
  flds.flatMap fun fld => vis.map fun t => rowRect s f fld g b (64 * t) (min lk (64 * t + 64))

/-- What a unit of ATTEND reads besides the pool: nothing when no key is visible (R220). -/
def attReads (s : State) (f : Flight) (x : Spot) : List Rect :=
  let vis := visible (attOk s f x) x.r0 x.r1 (attLk s f x)
  if vis.isEmpty || attErr s f x then []
  else
    let g := keyHead (dDim (descOf s (miSrc f.mi 0)) 2) (dDim (descOf s (miSrc f.mi 1)) 2) x.f2
    rowRect s f (miSrc f.mi 0) x.f2 x.f3 x.r0 x.r1 ::
      (if isPool s f.mi then [] else keyRects s f [miSrc f.mi 1, miSrc f.mi 2] g x.f3 (attLk s f x) vis)

/-- A unit of ATTEND. -/
def attendOut (s : State) (f : Flight) (x : Spot) : UnitOut :=
  let o := attResult s f x
  let w := attWrote s f x
  let div := attDiverts s f.mi
  let h := hHandle (miDst f.mi)
  let rsv := if isPool s f.mi then 0 else maskRsv s (layerIn s f) (shp f 0) x.r0 x.r1
  ⟨(h, w.puts) :: (if hPresent (miOpx f.mi 0 4) then [(hHandle (miOpx f.mi 0 4), attStats s f x)] else []),
    attReads s f x, attRanges s f x,
    .pass div { Cnt.none with t2 := rsv } :: o.cnts.map (.pass div) ++
      [.gz (o.sat + w.ev.sat), .seam h w.ev w.amax w.elems, .empty o.empties]⟩

def execAttend (c : Fin 1056) (st : Strm) (s : State) : Out :=
  done (issue opAttend s c st fun s id f first =>
    let s := countDivert s f.mi c
    let s := if first then attReach id f s else s
    startWalk s id c first ((if isPool s f.mi then [1, 3, 4] else [0, 1, 3, 4]).any fun i => shp f i == 0))

/-! ATTEND_BWD (R226 to R228). -/

def bwPhase (m : List Byte) : Nat := miOpx m 12 1
def bwStats (m : List Byte) : Nat := if bwPhase m = 0 then miDst m else miOpx m 0 4
def bwDo (m : List Byte) : Nat := if bwPhase m = 0 then miSrc m 0 else miOpx m 4 4
def bwDv (m : List Byte) : Nat := miOpx m 8 4

/-- Reserved bytes and the handle fields a phase does not use. -/
def bwField (k : Nat) (m : List Byte) : Bool :=
  decide (bwPhase m ≤ 2) && miOpx m 13 3 == 0 && hRsvOk (miOpx m 0 4) && hRsvOk (miOpx m 4 4) && hRsvOk (miOpx m 8 4) &&
  match k with
  | 0 => miSrc m 2 == 0 && miOpx m 0 4 == 0 && miOpx m 4 4 == 0 && miOpx m 8 4 == 0
  | 1 => true
  | _ => miOpx m 8 4 == 0

def bwCheck (k : Nat) (s : State) (_ : Nat) (m : List Byte) : Nat :=
  let dst := descOf s (miDst m)
  let a := descOf s (miSrc m 0); let b := descOf s (miSrc m 1); let v := descOf s (miSrc m 2)
  let dO := descOf s (bwDo m)
  if k = 0 then
    if !(flat4 a && headOk (dDim a 0)) || !(isPool s m || shaped b (dDim a 0) a) || !statsOk dst a then 0x06
    else if !attFmt a [0, 1, 2] then 0x07 else 0
  else if isPool s m then
    -- the pool takes the place of K, whose own shape is not compared
    if !(flat4 a && flat4 v && headOk (dDim a 0) && headOk (dDim v 0) && dDim v 3 == dDim a 3 && dDim a 2 % dDim v 2 == 0) ||
        !statsOk (descOf s (bwStats m)) a || !shaped dO (dDim v 0) a ||
        (if k = 1 then !shaped (descOf s (bwDv m)) (dDim v 0) v else !shaped dst (dDim a 0) a) then 0x06
    else if !(attFmt a [0, 2] && attFmt v [0, 2] && attFmt dO [0, 2]) then 0x07
    else 0
  else if !qkvOk a b v || !statsOk (descOf s (bwStats m)) a || !shaped dO (dDim v 0) a ||
      (if k = 1 then !shaped dst (dDim a 0) b || !shaped (descOf s (bwDv m)) (dDim v 0) b else !shaped dst (dDim a 0) a) then 0x06
  else if (if k = 1 then !(attFmt a [2] && attFmt b [0, 2] && attFmt v [0, 2] && attFmt dO [2])
      else !(attFmt a [0, 2] && attFmt b [2] && attFmt v [0, 2] && attFmt dO [0, 2])) then 0x07
  else 0

def bwLate (k : Nat) (s : State) (p _ : Nat) (m : List Byte) (_ : List Nat) : Nat :=
  if isPool s m then 0x21
  else if k ≠ 0 && maskBad s false (layerOf s p m) (dDim (descOf s (miSrc m 0)) 1) (dDim (descOf s (miSrc m 1)) 1) then 0x22
  else 0

/-- Units of 64 rows, or of 128 where a destination has blocks of 128 along its rows (R501). -/
def bwPlan (k : Nat) (s : State) (_ : Nat) (m : List Byte) : Plan :=
  let d := descOf s (miSrc m (if k = 1 then 1 else 0))
  let h := if k = 1 then max (rowsUnit (descOf s (miDst m))) (rowsUnit (descOf s (bwDv m))) else rowsUnit (descOf s (miDst m))
  let rt := cdiv (dDim d 1) h
  ⟨rt, 1, dDim d 2 * dDim d 3, 1, 0, dDim d 2 * dDim d 3 * rt, 0, 0, h == 128, false⟩

def opBwd (k : Nat) : OpSpec :=
  { OpSpec.base 0x09 with
    mine := fun m => miOpcode m == 0x09 && (bwPhase m == k || decide (2 < bwPhase m))
    layer := true
    fieldOk := fun s p m => bwField k m && decide ((bwPlan k s p m).units ≤ 2 ^ 22)
    req := if k = 0 then [0, 1, 2] else [0, 1, 2, 3]
    more := fun m => if k = 0 then [] else [miOpx m 0 4, miOpx m 4 4, miOpx m 8 4]
    needs := fun _ _ m => match k with | 0 => [] | 1 => [miOpx m 0 4, miOpx m 4 4, miOpx m 8 4] | _ => [miOpx m 0 4, miOpx m 4 4]
    check := bwCheck k
    planned := fun s m =>
      let q := descOf s (miSrc m 0)
      [if k = 0 || isPool s m then 2 ^ 32 - 1 else dDim (descOf s (miSrc m 1)) 1, dDim q 1, 2 ^ 32 - 1, dDim q 2, dDim q 3, 2 ^ 32 - 1]
    late := bwLate k
    plan := bwPlan k }

/-- A word of STATS. -/
def statAt (s : State) (v : View) (k r f2 f3 : Nat) : Word := BitVec.ofNat 32 (v.code' s k r f2 f3)

/-- Δ of a row, and the saturations of its steps. -/
def deltaOf (s : State) (f : Flight) (x : Spot) (r : Nat) : Sv :=
  let va := plainView s f (miSrc f.mi 0); let vo := plainView s f (miSrc f.mi 1)
  let dO := descOf s (miSrc f.mi 1)
  let xs := (List.range va.d0).map fun i => round32 ((va.get s 0 i r x.f2 x.f3).mul (vo.learned s f.bank dO i r x.f2 x.f3)) 0
  let y := rowSum (xs.map (·.1))
  (y.1, y.2 + (xs.map (·.2)).foldl (· + ·) 0)

/-- A unit of DOT: Δ of every row into entry 2 of STATS. -/
def dotOut (s : State) (f : Flight) (x : Spot) : UnitOut :=
  let ds := (List.range (x.r1 - x.r0)).map fun i => deltaOf s f x (x.r0 + i)
  let rs := [miSrc f.mi 0, miSrc f.mi 1].map fun fld => rowRect s f fld x.f2 x.f3 x.r0 x.r1
  ⟨[(hHandle (miDst f.mi), (List.range ds.length).flatMap fun i =>
      statPuts (plainView s f (miDst f.mi)) 2 (x.r0 + i) x.f2 x.f3 [(ds.getD i (0, 0)).1])],
    rs, [], [rsvTally s rs, .gz ((ds.map (·.2)).foldl (· + ·) 0)]⟩

/-- What a backward phase needs of a pair of a query tile and a key tile: the P codes and the dS codes as values. -/
structure BwPair where
  p : List (List FV)
  ds : List (List FV)
  deriving DecidableEq, Repr

/-- Counts of a backward phase: passes of the scores, Tweed passes, saturations of the vector steps. -/
structure BwCnt where
  g : List Cnt
  t : List Cnt
  sat : Nat
  deriving DecidableEq, Repr
def BwCnt.plus (a b : BwCnt) : BwCnt := ⟨a.g ++ b.g, a.t ++ b.t, a.sat + b.sat⟩

/-- dS of a row: RNE32(RNE32(p × RNE32(dP − Δ)) × c), +0 at masked keys; and the saturations. -/
def scoreGrad (c : Word) (p dp : List (List Word)) (ok : List (List Bool)) (delta : List Word) : List (List Word) × Nat :=
  let r := (List.range p.length).map fun i => (List.range (p.getD i []).length).map fun j =>
    if (ok.getD i []).getD j false then
      vMul (vMul ((p.getD i []).getD j 0, 0) (vSub ((dp.getD i []).getD j 0, 0) (delta.getD i 0, 0))) (c, 0)
    else (0, 0)
  (r.map fun l => l.map (·.1), (r.flatten.map (·.2)).foldl (· + ·) 0)

/-- The pairs of query tile r of head h with the key tiles, keyed by key tile, of batch b. -/
def bwPairs (s : State) (f : Flight) (h b r : Nat) (only : Option Nat) : List (Nat × BwPair) × BwCnt :=
  let a := attOf s f
  let vq := plainView s f (miSrc f.mi 0); let vk := plainView s f (miSrc f.mi 1); let vv := plainView s f (miSrc f.mi 2)
  let vo := plainView s f (bwDo f.mi); let vs := plainView s f (bwStats f.mi)
  let g := keyHead vq.d2 vk.d2 h
  let lk := shp f 0; let lq := shp f 1
  let ok := allowed a.ly (blockOn s a.ly) lk (rowOffset false (shp f 2) lq lk)
  let ok := fun i j => ok i j && (match only with | some t => j / 64 == t | none => true)
  let r0 := 64 * r; let r1 := min lq (64 * r + 64)
  let (ts, cs, sat) := a.tiles (rowOf s vq h b) (rowOf s vk g b) ok lk r0 r1
  let lse := (List.range (r1 - r0)).map fun i => statAt s vs 1 (r0 + i) h b
  let delta := (List.range (r1 - r0)).map fun i => statAt s vs 2 (r0 + i) h b
  ts.foldl (fun acc t =>
    let pr := tileProbs t lse
    let n := min 64 (lk - 64 * t.t)
    let dp := tweedTile a.ref (tweedLen (storeGeo (descOf s (bwDo f.mi))).blk a.v.blk)
      ((List.range (r1 - r0)).map fun i => rowOf s vo h b (r0 + i)) ((List.range n).map fun j => rowOf s vv g b (64 * t.t + j))
    let ds := scoreGrad a.ly.scale pr.1 dp.1 t.ok delta
    (acc.1 ++ [(t.t, ⟨quant16 .e4 pr.1, quant16 .e5 ds.1⟩)], ⟨acc.2.g, acc.2.t ++ [dp.2], acc.2.sat + pr.2 + ds.2⟩))
    ([], ⟨cs, [], sat⟩)

/-- One element of a gradient: groups of products over the given pairs of vectors, in their order. -/
def gradDot (ref : Bool) (g : Nat) (xs : List (List FV × List FV)) : Word × Cnt :=
  let r := tweedOver ref (xs.flatMap fun x => chunks g (products x.1 x.2))
  (r.1, { r.2 with inf := xs.any fun x => x.1.any FV.isInf || x.2.any FV.isInf })

def column (m : List (List FV)) (j : Nat) : List FV := m.map fun r => r.getD j FV.zero

/-- A gradient tile: element (i, d) from its pairs of vectors. -/
def gradTile (ref : Bool) (g n d : Nat) (xs : Nat → Nat → List (List FV × List FV)) : List (List Word) × Cnt :=
  let es := (List.range n).map fun i => (List.range d).map fun k => gradDot ref g (xs i k)
  (es.map fun l => l.map (·.1), es.flatten.foldl (fun c e => c.plus e.2) Cnt.none)

/-- Columns of rows [r0, r1) of an operand. -/
def colOf (s : State) (v : View) (f2 f3 r0 r1 d : Nat) : List FV := (List.range (r1 - r0)).map fun i => v.get s 0 d (r0 + i) f2 f3

/-- KV phase of key tile t of key head g, batch b: dK and dV rows. -/
def bwKvTile (s : State) (f : Flight) (g b t : Nat) : List (List Word) × List (List Word) × BwCnt :=
  let a := attOf s f
  let vq := plainView s f (miSrc f.mi 0); let vk := plainView s f (miSrc f.mi 1); let vv := plainView s f (miSrc f.mi 2)
  let vo := plainView s f (bwDo f.mi)
  let lq := shp f 1
  let heads := (List.range (shp f 3)).filter fun h => keyHead vq.d2 vk.d2 h == g
  let all := heads.flatMap fun h => (List.range (cdiv lq 64)).map fun r => (h, r, bwPairs s f h b r (some t))
  let cnt := all.foldl (fun (c : BwCnt) x => c.plus x.2.2.2) ⟨[], [], 0⟩
  let hits := all.flatMap fun x => x.2.2.1.map fun y => (x.1, x.2.1, y.2)
  let n := min 64 (shp f 0 - 64 * t)
  let rows := fun r => (64 * r, min lq (64 * r + 64))
  let dk := gradTile a.ref (tweedLen 16 a.q.blk) n vq.d0 fun j d => hits.map fun x =>
    (column x.2.2.ds j, colOf s vq x.1 b (rows x.2.1).1 (rows x.2.1).2 d)
  let dv := gradTile a.ref (tweedLen 16 (storeGeo (descOf s (bwDo f.mi))).blk) n vv.d0 fun j d => hits.map fun x =>
    (column x.2.2.p j, colOf s vo x.1 b (rows x.2.1).1 (rows x.2.1).2 d)
  (dk.1, dv.1, ⟨cnt.g, cnt.t ++ [dk.2, dv.2], cnt.sat⟩)

/-- Q phase of query tile r of head h, batch b: dQ rows. -/
def bwQTile (s : State) (f : Flight) (h b r : Nat) : List (List Word) × BwCnt :=
  let a := attOf s f
  let vq := plainView s f (miSrc f.mi 0); let vk := plainView s f (miSrc f.mi 1)
  let g := keyHead vq.d2 vk.d2 h
  let (ps, cnt) := bwPairs s f h b r none
  let n := min 64 (shp f 1 - 64 * r)
  let dq := gradTile a.ref (tweedLen 16 a.k.blk) n vq.d0 fun i d => ps.map fun x =>
    (x.2.ds.getD i [], colOf s vk g b (64 * x.1) (min (shp f 0) (64 * x.1 + 64)) d)
  (dq.1, ⟨cnt.g, cnt.t ++ [dq.2], cnt.sat⟩)

/-- OUTPUT of the rows of a unit of a gradient tensor (R148): what it writes. -/
def gradWrote (s : State) (f : Flight) (fld rows : Nat) (x : Spot) (ys : List (List Word)) : Wrote :=
  let d := descOf s fld
  convertRect s f fld (if (storeGeo d).blk != 0 then 0x3 else 0x8) maxF32 (dDim d 0) rows 0 (dDim d 0) x.r0 x.r1 x.f2 x.f3
    fun k r => f32 ((ys.getD (r - x.r0) []).getD k 0)

/-- Counts of a gradient tensor's conversion, and of a backward phase. -/
def gradTally (fld : Nat) (w : Wrote) : List Tally := [.tw w.ev.sat, .seam (hHandle fld) w.ev w.amax w.elems]
def bwTally (div : Bool) (x : BwCnt) : List Tally := x.g.map (.pass div) ++ [.gz x.sat] ++ x.t.map (.pass true)

/-- The key tiles of a unit of the KV phase, 64 keys each. -/
def bwKvTiles (s : State) (f : Flight) (x : Spot) : List (List (List Word) × List (List Word) × BwCnt) :=
  (halves x.r0 x.r1).map fun h => bwKvTile s f x.f2 x.f3 (h.1 / 64)

/-- Reads of a unit of the KV phase: the keys and values of its tiles, and the queries that see them. -/
def bwKvReads (s : State) (f : Flight) (x : Spot) : List Rect :=
  let ok := attOk s f x
  let dq := descOf s (miSrc f.mi 0); let dk := descOf s (miSrc f.mi 1)
  let seen := (halves 0 (shp f 1)).filter fun h => (List.range (h.2 - h.1)).any fun i =>
    (List.range (x.r1 - x.r0)).any fun j => ok (h.1 + i) (x.r0 + j)
  let heads := (List.range (shp f 3)).filter fun h => keyHead (dDim dq 2) (dDim dk 2) h == x.f2
  if seen.isEmpty then []
  else [miSrc f.mi 1, miSrc f.mi 2].map (fun fld => rowRect s f fld x.f2 x.f3 x.r0 x.r1) ++
    heads.flatMap fun h => [miSrc f.mi 0, bwDo f.mi, bwStats f.mi].flatMap fun fld =>
      seen.map fun r => rowRect s f fld h x.f3 r.1 r.2

/-- A unit of the KV phase: dK and dV. -/
def bwKvOut (s : State) (f : Flight) (x : Spot) : UnitOut :=
  let ts := bwKvTiles s f x
  let wk := gradWrote s f (miDst f.mi) (shp f 0) x (ts.flatMap (·.1))
  let wv := gradWrote s f (bwDv f.mi) (shp f 0) x (ts.flatMap (·.2.1))
  ⟨[(hHandle (miDst f.mi), wk.puts), (hHandle (bwDv f.mi), wv.puts)], bwKvReads s f x, [],
    ts.flatMap (fun t => bwTally (attDiverts s f.mi) t.2.2) ++ gradTally (miDst f.mi) wk ++ gradTally (bwDv f.mi) wv⟩

/-- The query tiles of a unit of the Q phase, 64 rows each. -/
def bwQTiles (s : State) (f : Flight) (x : Spot) : List (List (List Word) × BwCnt) :=
  (halves x.r0 x.r1).map fun h => bwQTile s f x.f2 x.f3 (h.1 / 64)

/-- Reads of a unit of the Q phase. -/
def bwQReads (s : State) (f : Flight) (x : Spot) : List Rect :=
  let vis := visible (attOk s f x) x.r0 x.r1 (shp f 0)
  let g := keyHead (dDim (descOf s (miSrc f.mi 0)) 2) (dDim (descOf s (miSrc f.mi 1)) 2) x.f2
  if vis.isEmpty then []
  else [miSrc f.mi 0, bwDo f.mi, bwStats f.mi].map (fun fld => rowRect s f fld x.f2 x.f3 x.r0 x.r1) ++
    keyRects s f [miSrc f.mi 1, miSrc f.mi 2] g x.f3 (shp f 0) vis

/-- A unit of the Q phase: dQ. -/
def bwQOut (s : State) (f : Flight) (x : Spot) : UnitOut :=
  let ts := bwQTiles s f x
  let w := gradWrote s f (miDst f.mi) (shp f 1) x (ts.flatMap (·.1))
  ⟨[(hHandle (miDst f.mi), w.puts)], bwQReads s f x, [],
    ts.flatMap (fun t => bwTally (attDiverts s f.mi) t.2) ++ gradTally (miDst f.mi) w⟩

def bwdOp (k : Nat) (s : State) (c : Nat) (st : Strm) : State :=
  issue (opBwd k) s c st fun s id f first =>
    let s := if k = 0 then s else countDivert s f.mi c
    startWalk s id c first ((if k = 0 then [1, 3, 4] else [0, 1, 3, 4]).any fun i => shp f i == 0)

def execAttendBwdDot (c : Fin 1056) (st : Strm) (s : State) : Out := done (bwdOp 0 s c st)

def execAttendBwdKv (c : Fin 1056) (st : Strm) (s : State) : Out := done (bwdOp 1 s c st)

def execAttendBwdQ (c : Fin 1056) (st : Strm) (s : State) : Out := done (bwdOp 2 s c st)

end Sys2Proof.Machine
end

