-- ==== Sys2Proof/Machine/Kv.lean ====
section
/-! DEFINITION. The KV commands: appends, the prefix tree, lookups and forks (R232 to R246). -/
namespace Sys2Proof.Machine
open Sys2Proof

/-! Groups (R236, R242, R245). -/

def refsOf (s : State) (x : Nat × Nat) : Nat := ((s.groups.find? fun g => g.pool == x.1 && g.group == x.2).map (·.refs)).getD 0

/-- One more holder of a group. -/
def addRef (s : State) (x : Nat × Nat) : State :=
  if refsOf s x = 0 then { s with groups := s.groups ++ [⟨x.1, x.2, 1⟩] }
  else
    let gs := updWhere (fun g : Group => g.pool == x.1 && g.group == x.2) (fun g => { g with refs := g.refs + 1 }) s.groups
    { s with groups := gs }

/-- The free group of lowest number. -/
def freeGroup (s : State) (p : Pool) : Option Nat :=
  let used := ((s.groups.filter (·.pool == p.h)).map (·.group)) ++ (s.tree.filter (·.pool == p.h)).map (·.group)
  (List.range (min p.g (used.length + 1))).find? fun g => !used.contains g

def feltOfKey (k : DWord) : Nat := k.toNat % 8

/-- ATTACHED and CHILDREN of an entry are 0. -/
def evictable (s : State) (e : TreeEntry) : Bool :=
  refsOf s (e.pool, e.group) == 0 && !s.tree.any fun x => x.parent == e.key

/-- The evictable entry of the pool with the oldest last attach, among those the test takes. -/
def oldestEntry (s : State) (pool : Nat) (ok : TreeEntry → Bool) : Option TreeEntry :=
  (s.tree.filter fun e => e.pool == pool && ok e && evictable s e).foldl (fun (b : Option TreeEntry) e =>
    match b with
    | some x => if e.stamp < x.stamp then some e else b
    | none => some e) none

/-- Eviction (R242). -/
def evict (s : State) (e : TreeEntry) : State :=
  { s with tree := s.tree.filter (· != e) }.finc F.ATT_TREE_COUNTS_EVICT (feltOfKey e.key) 1

/-- Take a group from the free list, after an eviction when it is empty (R236). -/
def takeGroup (s : State) (p : Pool) : State × Option Nat :=
  let take := fun (s : State) => match freeGroup s p with
    | some g => ({ s with groups := s.groups ++ [⟨p.h, g, 1⟩] }, some g)
    | none => (s, none)
  match freeGroup s p with
  | some _ => take s
  | none => match oldestEntry s p.h fun _ => true with
    | some e => take (evict s e)
    | none => (s, none)

/-- Take n groups; none when the pool runs out, and the groups taken go back. -/
def takeGroups (s : State) (p : Pool) (n : Nat) : State × Option (List Nat) :=
  let r := (List.range n).foldl (fun (acc : State × List Nat × Bool) _ =>
    if !acc.2.2 then acc
    else match takeGroup acc.1 p with
      | (s, some g) => (s, acc.2.1 ++ [g], true)
      | (s, none) => (s, acc.2.1, false)) (s, [], true)
  if r.2.2 then (r.1, some r.2.1) else (r.2.1.foldl (fun s g => dropGroup s (p.h, g)) r.1, none)

/-! Keys (R239). -/

def keyStep (h : DWord) (t : Nat) : DWord :=
  let x := (h ^^^ BitVec.ofNat 64 t) * 0x00000100000001B3
  x ^^^ (x >>> 29)

/-- BLOCK_KEY. -/
def blockKey (parent : DWord) (toks : List Nat) : DWord :=
  let h := toks.foldl keyStep parent * 0xBF58476D1CE4E5B9
  h ^^^ (h >>> 32)

def key0 (epoch pool : Nat) : DWord := BitVec.ofNat 64 (epoch * 2 ^ 20 ||| pool)

/-- Attach time of an entry: interval ticks of its felt (R240). -/
def attachTime (s : State) (k : DWord) : Nat := s.icnt (3 + feltOfKey k)

def collide (s : State) (k : DWord) : State :=
  (s.finc F.ATT_TREE_COUNTS_COLLIDE (feltOfKey k) 1).attFeltEvt (feltOfKey k) 0

/-- A channel attaches to an entry: one more holder, and the time. -/
def attachEntry (s : State) (e : TreeEntry) : State :=
  let t := attachTime s e.key
  let es := updWhere (· == e) (fun x : TreeEntry => { x with stamp := t }) s.tree
  addRef { s with tree := es } (e.pool, e.group)

def sameBlock (e : TreeEntry) (parent : DWord) (toks : List Nat) : Bool := e.parent == parent && e.tokens == toks

/-! KV_APPEND (R232 to R236, R243, R245). -/

/-- Count KV events on the felt of a page (R235). -/
def countKv (s : State) (p : Pool) (off : Nat) (e : Evs) : State :=
  let n := feltAt s p.h off
  let s := (s.finc F.ATT_KV_ELEM_SAT n e.sat).finc F.ATT_KV_ELEM_UNF n e.unf
  let s := (s.finc F.ATT_KV_BLOCK_NAN_BLOCK n e.nanb).finc F.ATT_KV_BLOCK_CRUSHED n e.crushed
  if e.nanb = 0 then s else s.attFeltEvt n 3

/-- Rounding of a KV write: E is the position in the layer history (R233). -/
def kvRnd (s : State) (f : Flight) (p : Pool) (pos : Nat) : Rnd :=
  HowTo.rnd ⟨miSr f.mi, 0x9, seedOf s f.panel, convStep s f.panel⟩ p.h pos

/-- The first error of two statuses. -/
def worse (a b : Nat) : Nat := if a = rsOk then b else a

/-- Write blocks of the pool and count their events; answers the status with those before. -/
def putKv (x : State × Nat) (c : Nat) (p : Pool) (off : Nat) (bs : List (List Put × Evs)) : State × Nat :=
  let (s, st) := x.1.corePut c p.h (bs.flatMap (·.1))
  (countKv s p off ((bs.map (·.2)).foldl Evs.plus Evs.none), worse x.2 st)

/-- One appended position: K blocks, V into the open buffer, and the V blocks it completes (R233). Answers the status. -/
def appendPos (c : Nat) (f : Flight) (p : Pool) (ch l b pos k : Nat) (x : State × Nat) : State × Nat :=
  let s := x.1
  let a := descOf s (miSrc f.mi 0)
  let va := plainView s f (miSrc f.mi 0); let vw := plainView s f (miSrc f.mi 2)
  let g := (s.chan ch).groupAt (pos / 64)
  let crush := ((seamSecOf s f.panel).map (·.defaultK)).getD 0
  let r := kvRnd s f p
  let kv := p.kView g l; let vv := p.vView g l
  let ks := (List.range p.hkv).flatMap fun h => (List.range (p.d / p.bs)).map fun n =>
    let cells := (List.range p.bs).map fun i => (n * p.bs + i, h + p.hkv * (pos % 64))
    blockPuts kv (sourceMax a) crush 0 0 cells (cells.map fun x => (va.get s 0 x.1 k h b, r pos))
  let x := putKv x c p (p.at g l) ks
  let bufs := (List.range p.hkv).flatMap fun h => (List.range p.d).map fun d =>
    let y := bf16.convert .rne (vw.get s 0 d k h b)
    ([(8 * p.bufElem s ch l pos d h, 16, y.code)], ⟨b2n y.sat, b2n y.unf, 0, 0, 0⟩)
  let x := putKv x c p (p.bufElem s ch l pos 0 0) bufs
  if (pos + 1) % p.bs ≠ 0 then x
  else
    let s := x.1
    let first := pos + 1 - p.bs
    let vs := (List.range p.hkv).flatMap fun h => (List.range p.d).map fun d =>
      let at_ := (List.range p.bs).map fun i => first + i
      blockPuts vv maxB16 crush 0 0 (at_.map fun x => (x % 64, d + p.d * h))
        (at_.map fun x => (bf16.decode (leNat (s.tRead p.h (p.bufElem s ch l x d h) 2)), r x))
    putKv x c p (p.at g l) vs

/-- Blocks of a channel that an append to `n` positions from `len` writes. -/
def targetBlocks (len n : Nat) : List Nat := (List.range ((len + n - 1) / 64 + 1)).filter fun t => len / 64 ≤ t

/-- Groups for an append: copies of shared groups of a privileged channel, and new ones, with the status of the copies; none:
NO_GROUP. -/
def appendGroups (s : State) (p : Pool) (ch len n : Nat) : State × Option Nat :=
  let x := s.chan ch
  let ts := targetBlocks len n
  let shared := ts.filter fun t => x.priv && decide (t < x.groups.length) && decide (1 < refsOf s (x.groups.getD t (0, 0)))
  let fresh := ts.filter fun t => decide (x.groups.length ≤ t)
  match takeGroups s p (shared.length + fresh.length) with
  | (s, none) => (s, none)
  | (s, some gs) =>
    let x := (shared.zip gs).foldl (fun (x : State × Nat) y =>
      let old := (x.1.chan ch).groups.getD y.1 (0, 0)
      let (s, st) := x.1.put p.h (bytePuts (p.at y.2 0) (x.1.tRead old.1 (p.at old.2 0) (p.ly * p.page)))
      let s := dropGroup s old
      (s.setChan ch { s.chan ch with groups := (s.chan ch).groups.set y.1 (p.h, y.2) }, worse x.2 st)) (s, rsOk)
    let z := x.1.chan ch
    (x.1.setChan ch { z with groups := z.groups ++ (gs.drop shared.length).map fun g => (p.h, g) }, some x.2)

/-- Insertion of the next block of a channel into the tree (R243). -/
def publish (s : State) (p : Pool) (ch epoch : Nat) : State :=
  let x := s.chan ch
  let n := x.keys.length
  let parent := if n = 0 then key0 epoch p.h else x.keys.getD (n - 1) 0
  let toks := (List.range 64).map fun i => x.tokens.getD (64 * n + i) 0
  let key := blockKey parent toks
  let t := feltOfKey key
  let s := s.setChan ch { x with keys := x.keys ++ [key] }
  let own := x.groups.getD n (0, 0)
  let insert := fun (s : State) =>
    { s with tree := s.tree ++ [⟨p.h, key, parent, toks, own.2, attachTime s key⟩] }
  match s.tree.find? fun e => e.key == key with
  | some e =>
    if sameBlock e parent toks then
      let s := dropGroup (attachEntry s e) own
      (s.setChan ch { s.chan ch with groups := x.groups.set n (e.pool, e.group) }).finc F.ATT_PUB_DUP_COUNT t 1
    else collide s key
  | none =>
    if (s.tree.countP fun e => feltOfKey e.key == t) < 2 ^ 22 then insert s
    else match oldestEntry s p.h fun e => feltOfKey e.key == t with
      | some e => insert (evict s e)
      | none => (s.finc F.ATT_TREE_COUNTS_FULL t 1).attFeltEvt t 1

/-- Blocks that every layer has. -/
def fullBlocks (p : Pool) (x : Chan) : Nat :=
  ((List.range p.ly).map fun l => x.len l / 64).foldl min (2 ^ 14)

/-- A bad block that an append reads: the open buffer, or a group it copies. -/
def appendBad (s : State) (p : Pool) (ch l len n : Nat) : Option Nat :=
  let x := s.chan ch
  match (if len % p.bs ≠ 0 then badIn s p.h (p.bufAt s ch l) p.bufBytes else none) with
  | some k => some k
  | none => (targetBlocks len n).findSome? fun t =>
      if x.priv && t < x.groups.length && decide (1 < refsOf s (x.groups.getD t (0, 0))) then
        badIn s p.h (p.at (x.groupAt t) 0) (p.ly * p.page) else none

/-- A write of a fold was refused: nothing of it stays in the channel. An uncorrectable block is DATA_ERROR; a page that is
not found is an error of the command (R238, R295, R302; log entry 143). -/
def kvFail (p c ch st : Nat) (chans : List (Nat × Chan)) (groups : List Group) (s : State) : State :=
  let s := { s with chans := chans, groups := groups }
  if st = rsPage then s.writeFail p st else (s.chanError ch 3).errFolds c 1

/-- KV_APPEND of one fold; none after a fold whose failed write has abandoned the command. -/
def appendFold (id c : Nat) (f : Flight) (s : State) (b : Nat) : State :=
  if (s.flight id).isNone then s else
  let p := poolOf s (miSrc f.mi 1)
  let l := miOpx f.mi 4 2
  let ch := valueAt f.mi f.shape 1 + b
  let n := shp f 0
  let s := s.reach id ch
  if (s.chan ch).error ≠ 0 || !holdsChan s id ch then s.errFolds c 1
  else
    let s := s.setChan ch { s.chan ch with pool := p.h }
    let len := (s.chan ch).len l
    match appendBad s p ch l len n with
    | some k => (s.chanBad ch k).errFolds c 1
    | none =>
      if 2 ^ 20 < len + n then (s.chanError ch 4).errFolds c 1
      else match appendGroups s p ch len n with
        | (s, none) => (s.chanError ch 2).errFolds c 1
        | (s1, some st) =>
          let (chans, groups) := (s.chans, s.groups)
          let (s, st) := (List.range n).foldl (fun x k => appendPos c f p ch l b (len + k) k x) (s1, st)
          if st ≠ rsOk then kvFail f.panel c ch st chans groups s
          else
          let vt := plainView s f (miOpx f.mi 0 4)
          let toks := (List.range n).map fun k => vt.code' s k b 0 0
          let x := s.chan ch
          let s := s.setChan ch { x with
            lens := assocPut x.lens l (len + n)
            tokens := if x.tokens.length ≤ len + n && len ≤ x.tokens.length then x.tokens.take len ++ toks else x.tokens }
          let x := s.chan ch
          if x.priv then s
          else (List.range (fullBlocks p x - x.keys.length)).foldl (fun s _ => publish s p ch (valueAt f.mi f.shape 3)) s

def notPool (s : State) (m : List Byte) : Bool := !isPool s m

def appendCheck (s : State) (_ : Nat) (m : List Byte) : Nat :=
  let a := descOf s (miSrc m 0); let w := descOf s (miSrc m 2); let t := descOf s (miOpx m 0 4)
  let p := descOf s (miSrc m 1)
  let shape := flat4 a && (List.range 4).all (fun k => dDim w k == dDim a k) && flat4 w && dDim t 0 == dDim a 1 &&
    dDim t 1 == dDim a 3 && dFolds t == 1 && flat4 t && (notPool s m || (dDim a 0 == dDim p 0 && dDim a 2 == dDim p 2))
  if !shape then 0x06
  else if dWide a || dWide w || 1 < dFormat a || 1 < dFormat w || dFormat t != 0 || (isPool s m && !poolOk p) then 0x07
  else 0

def opAppend : OpSpec :=
  { OpSpec.base 0x28 with
    fieldOk := fun _ _ m => hRsvOk (miOpx m 0 4) && miOpx m 6 8 == 0 && miOpx m 14 2 == 0
    req := [1, 2, 3]
    more := fun m => [miOpx m 0 4]
    needs := fun _ _ m => [miOpx m 0 4]
    check := appendCheck
    planned := fun s m => let a := descOf s (miSrc m 0); [dDim a 1, 2 ^ 32 - 1, dDim a 3, 2 ^ 32 - 1]
    late := fun s p _ m sh =>
      if notPool s m then 0x20
      else if !chansOk s p (valueAt m sh 1) (sh.getD 2 0) || dDim (descOf s (miSrc m 1)) 4 ≤ miOpx m 4 2 then 0x23
      else 0 }

/-- A bad block among the new keys, values and tokens. -/
def appendSrcBad (s : State) (f : Flight) : Option Nat :=
  let rect := fun (fld n : Nat) => (List.range (shp f 2)).findSome? fun b => (List.range n).findSome? fun h =>
    (plainView s f fld).badRect s 0 (plainView s f fld).d0 0 (shp f 0) h b
  match [miSrc f.mi 0, miSrc f.mi 2].findSome? fun fld => rect fld (dDim (descOf s (miSrc f.mi 0)) 2) with
  | some k => some k
  | none => (plainView s f (miOpx f.mi 0 4)).badRect s 0 (shp f 0) 0 (shp f 2) 0 0

/-- The accesses of the new keys, values and tokens. -/
def appendTouch (s : State) (c : Nat) (f : Flight) : State :=
  let rect := fun (s : State) (fld : Nat) => (List.range (shp f 2)).foldl (fun s b =>
    (List.range (dDim (descOf s (miSrc f.mi 0)) 2)).foldl (fun s h =>
      let v := plainView s f fld
      v.touch s c 0 v.d0 0 (shp f 0) h b) s) s
  (plainView s f (miOpx f.mi 0 4)).touch (rect (rect s (miSrc f.mi 0)) (miSrc f.mi 2)) c 0 (shp f 0) 0 (shp f 2) 0 0

def execKvAppend (c : Fin 1056) (st : Strm) (s : State) : Out :=
  done (issue opAppend s c st fun s id f first =>
    takeAll s id c f first (shp f 0 == 0 || shp f 2 == 0) (appendSrcBad s f)
      fun s => (List.range (shp f 2)).foldl (appendFold id c f) (appendTouch s c f))

/-! KV_LOOKUP (R241). -/

def lkMode (m : List Byte) : Nat := miOpx m 8 1
def lkShp (m : List Byte) : Nat := miOpx m 4 1
def lkEntry (m : List Byte) : Nat := miOpx m 5 1

def lookupCheck (s : State) (_ : Nat) (m : List Byte) : Nat :=
  let t := descOf s (miSrc m 0); let d := descOf s (miDst m)
  let attach := lkMode m == 0
  if dFolds t != 1 || !flat4 t || (attach && (dDim d 0 != dDim t 1 || dDim d 1 != 1 || dFolds d != 1 || !flat4 d)) then 0x06
  else if dFormat t != 0 || (attach && dFormat d != 0) || (isPool s m && !poolOk (descOf s (miSrc m 1))) then 0x07
  else 0

def opLookup (k : Nat) : OpSpec :=
  { OpSpec.base 0x29 with
    mine := fun m => miOpcode m == 0x29 && (lkMode m == k || decide (1 < lkMode m))
    fieldOk := fun _ _ m => decide (lkMode m ≤ 1) && decide (lkShp m ≤ 16) && decide (lkEntry m ≤ 5) && miOpx m 0 4 == 0 &&
      miOpx m 6 2 == 0 && miOpx m 9 7 == 0
    req := if k = 0 then [0, 1, 2] else [1, 2]
    check := lookupCheck
    planned := fun s m =>
      let t := descOf s (miSrc m 0)
      [if k = 0 then dDim t 0 else 2 ^ 32 - 1, 2 ^ 32 - 1, dDim t 1, 2 ^ 32 - 1]
    late := fun s p _ m sh =>
      if notPool s m then 0x20 else if !chansOk s p (valueAt m sh 1) (sh.getD 2 0) then 0x23 else 0 }

/-- Look up one block of a prompt: attach at a hit, stop at a miss (R240, R241). -/
def lookupBlock (p : Pool) (ch : Nat) (epoch : Nat) (toks : List Nat) (x : State × Bool) : State × Bool :=
  if !x.2 then x
  else
    let s := x.1
    let y := s.chan ch
    let n := y.keys.length
    let parent := if n = 0 then key0 epoch p.h else y.keys.getD (n - 1) 0
    let key := blockKey parent toks
    let t := feltOfKey key
    match s.tree.find? fun e => e.key == key with
    | some e =>
      if sameBlock e parent toks then
        ((attachEntry (s.finc F.ATT_TREE_HITS_COUNT t 1) e).setChan ch { y with
          groups := y.groups ++ [(e.pool, e.group)], keys := y.keys ++ [key], tokens := y.tokens ++ toks }, true)
      else ((collide s key).finc F.ATT_TREE_MISSES_COUNT t 1, false)
    | none => (s.finc F.ATT_TREE_MISSES_COUNT t 1, false)

/-- Release step of a channel that this command holds: groups, lengths, buffers and error. Its record is written whole. -/
def clearChan (s : State) (ch pool : Nat) : State :=
  let s := dropChan s ch
  { s with badPhys := s.badPhys.filter (· != chanRecKey ch) }.setChan ch { s.chan ch with held := true, pool := pool }

/-- KV_LOOKUP of one fold: the state and the attached length. -/
def lookupFold (id c : Nat) (f : Flight) (attach : Bool) (s : State) (b : Nat) : State × Nat :=
  let p := poolOf s (miSrc f.mi 1)
  let ch := valueAt f.mi f.shape 1 + b
  let s := s.reach id ch
  if !holdsChan s id ch then (s.errFolds c 1, 0)
  else
    let s := clearChan s ch p.h
    if !attach || (s.chan ch).priv then (s, 0)
    else
      let vt := plainView s f (miSrc f.mi 0)
      let (s, _) := (List.range (shp f 0 / 64)).foldl (fun x n =>
        lookupBlock p ch (valueAt f.mi f.shape 3) ((List.range 64).map fun i => vt.code' s (64 * n + i) b 0 0) x) (s, true)
      let y := s.chan ch
      let n := 64 * y.groups.length
      (s.setChan ch { y with lens := if n = 0 then [] else (List.range p.ly).map fun l => (l, n) }, n)

/-- The attached lengths into DST. -/
def putLens (c : Nat) (f : Flight) (ns : List Nat) (s : State) : State :=
  let v := plainView s f (miDst f.mi)
  let (s, st) := s.corePut c (hHandle (miDst f.mi)) ((List.range ns.length).map fun b =>
    (v.codeBit b 0 0 0, 32, (rne32 (.fin false (ns.getD b 0) 0)).toNat))
  s.writeFail f.panel st

/-- The smallest attached length into the entry that RESULT_SHP names, on every core of the panel; 0 for a RELEASE, which
attaches nothing. -/
def putResult (f : Flight) (m : Nat) (s : State) : State :=
  (s.coresOf f.panel).foldl (fun s k =>
    let x := s.core k
    let i := strmNo f.strm * 96 + (lkShp f.mi - 1) * 6 + lkEntry f.mi
    let y := spSet (fun _ => (0xFFFFFFFF : Word)) x.shp i (BitVec.ofNat 32 m)
    s.setCore k { x with shp := y }) s

def runLookup (id c : Nat) (f : Flight) (attach : Bool) (s : State) : State :=
  let r := (List.range (shp f 2)).foldl (fun (acc : State × List Nat) b =>
    let y := lookupFold id c f attach acc.1 b
    (y.1, acc.2 ++ [y.2])) (s, [])
  let s := if attach then putLens c f r.2 r.1 else r.1
  if lkShp f.mi = 0 then s else putResult f (r.2.foldl min (r.2.headD 0)) s

def lookupOp (k : Nat) (s : State) (c : Nat) (st : Strm) : State :=
  issue (opLookup k) s c st fun s id f first =>
    let bad := if k = 0 then (plainView s f (miSrc f.mi 0)).badRect s 0 (shp f 0) 0 (shp f 2) 0 0 else none
    takeAll s id c f first ((k == 0 && shp f 0 == 0) || shp f 2 == 0) bad fun s =>
      runLookup id c f (k == 0) (if k = 0 then (plainView s f (miSrc f.mi 0)).touch s c 0 (shp f 0) 0 (shp f 2) 0 0 else s)

def execAttach (c : Fin 1056) (st : Strm) (s : State) : Out := done (lookupOp 0 s c st)

def execReleaseChannel (c : Fin 1056) (st : Strm) (s : State) : Out := done (lookupOp 1 s c st)

/-! KV_FORK (R244). -/

def opFork : OpSpec :=
  { OpSpec.base 0x2A with
    fieldOk := fun _ _ m => miOpx m 0 8 == 0 && miOpx m 8 8 == 0
    req := [2]
    check := fun s _ m => if isPool s m && !poolOk (descOf s (miSrc m 1)) then 0x07 else 0
    planned := fun _ _ => [2 ^ 32 - 1, 2 ^ 32 - 1]
    late := fun s p _ m sh =>
      let a := valueAt m sh 0; let b := valueAt m sh 1
      if notPool s m then 0x20
      else if !ownsChan s p a || !ownsChan s p b || !(s.chan a).priv || !(s.chan b).priv || a == b then 0x24
      else 0 }

/-- A bad block of the source's open buffers. -/
def forkBad (s : State) (p : Pool) (a : Nat) : Option Nat :=
  (List.range p.ly).findSome? fun l => if (s.chan a).len l % p.bs ≠ 0 then badIn s p.h (p.bufAt s a l) p.bufBytes else none

def runFork (id c : Nat) (f : Flight) (s : State) : State :=
  let p := poolOf s (miSrc f.mi 1)
  let a := valueAt f.mi f.shape 0; let b := valueAt f.mi f.shape 1
  let s := (s.reach id a).reach id b
  if (s.chan a).error ≠ 0 || (s.chan b).error ≠ 0 || !holdsChan s id a || !holdsChan s id b then s.errFolds c 1
  else match forkBad s p a with
    | some k => ((s.chanBad a k).chanError b 3).errFolds c 1
    | none =>
      let x := s.chan a
      let s := clearChan (s.setChan a { x with pool := p.h }) b p.h
      let (chans, groups) := (s.chans, s.groups)
      let s := x.groups.foldl addRef s
      let s := s.setChan b { s.chan b with lens := x.lens, groups := x.groups, tokens := x.tokens }
      let (s, st) := (List.range p.ly).foldl (fun (x : State × Nat) l =>
        let s := x.1
        let (s, st) := s.put p.h (bytePuts (p.bufAt s b l) (s.tRead p.h (p.bufAt s a l) p.bufBytes))
        (s, worse x.2 st)) (s, rsOk)
      if st = rsOk then s else kvFail f.panel c b st chans groups s

def execKvFork (c : Fin 1056) (st : Strm) (s : State) : Out :=
  done (issue opFork s c st fun s id f first => takeAll s id c f first false none (runFork id c f))

end Sys2Proof.Machine
end

