-- ==== Sys2Proof/Machine/Fec.lean ====
section
/-! DEFINITION. The forward error correction of the links (R367, R368): the RS(544,514) code over 10-bit symbols of IEEE
802.3 clause 91, the codeword of two flits, and its striping over the active lanes. The field polynomial, the roots and the
order of the message bits come from outside the manual (log entry 148). -/
namespace Sys2Proof.Machine
open Sys2Proof

/-- Double in GF(2^10) with polynomial x^10 + x^3 + 1. -/
def gfDouble (a : Nat) : Nat := if a < 512 then 2 * a else ((2 * a) % 1024) ^^^ 9

/-- Product in GF(2^10): the low `n` bits of b times a. -/
def gfMulN : Nat → Nat → Nat → Nat
  | 0, _, _ => 0
  | n + 1, a, b => (if bitOf b 0 then a else 0) ^^^ gfMulN n (gfDouble a) (b / 2)
def gfMul (a b : Nat) : Nat := gfMulN 10 a b

def gfPow (a : Nat) : Nat → Nat
  | 0 => 1
  | n + 1 => gfMul a (gfPow a n)

/-- A polynomial, highest power first, times (x + r). -/
def polyStep (r : Nat) (g : List Nat) : List Nat :=
  (List.range (g.length + 1)).map fun i => g.getD i 0 ^^^ (if i = 0 then 0 else gfMul r (g.getD (i - 1) 0))

/-- The generator polynomial, roots α^0 to α^29 with α = 2, highest power first. -/
def rsGen : List Nat := (List.range 30).foldl (fun g i => polyStep (gfPow 2 i) g) [1]

/-- One message symbol through the encoder: the 30 parity symbols so far, highest power first. -/
def rsStep (gen par : List Nat) (x : Nat) : List Nat :=
  let fb := x ^^^ par.getD 0 0
  (List.range 30).map fun i => par.getD (i + 1) 0 ^^^ gfMul fb (gen.getD (i + 1) 0)

def rsParity (msg : List Nat) : List Nat := msg.foldl (rsStep rsGen) (List.replicate 30 0)

/-- The 514 message symbols of two flits and 20 bits of lane-alignment control, which the manual does not give. -/
def messageOf (align : Nat) (a b : List Byte) : List Nat :=
  let v := align % 2 ^ 20 + 2 ^ 20 * leNat (a ++ b)
  (List.range 514).map fun i => bits v (10 * i) 10

/-- A codeword: 544 symbols. -/
def codewordOf (align : Nat) (a b : List Byte) : List Nat :=
  let m := messageOf align a b
  m ++ rsParity m

/-- Symbols of a codeword that active lane k of a port of a width carries, round robin from the lowest (R367). -/
def laneShare (width k : Nat) (cw : List Nat) : List Nat :=
  (List.range (cw.length / width)).map fun i => cw.getD (width * i + k) 0

end Sys2Proof.Machine
end

