-- ==== Sys2Proof/Machine/Markers.lean ====
section
/-! DEFINITION. The commands of markers and the chain: MARKER, BARRIER, arrivals and releases, timeouts, forced operations
and endpoint clears (R319 to R347). -/
namespace Sys2Proof.Machine
open Sys2Proof

/-! MARKER (R326). -/

def opMarker : OpSpec :=
  { OpSpec.base 0x30 with fieldOk := fun _ _ m => bits (miOpx m 0 8) 60 4 == 0 && miOpx m 8 8 == 0 }

/-- CLEAR_MASK on one core. -/
def clearMask (s : State) (c mask : Nat) : State :=
  (List.range 60).foldl (fun s m => if bitOf mask m then s.clearMarker c m else s) s

/-- A MARKER completes at once when its first core issues it; each core makes its SELF sets at its own issue, after its
CLEAR_MASK (R326; log entry 151). -/
def execMarker (c : Fin 1056) (st : Strm) (s : State) : Out :=
  done (issue opMarker s c st fun s id f first =>
    let s := clearMask s c (miOpx f.mi 0 8)
    (if first then s.completeOn id [c] else s.selfSets f.mi [c]).walkEnd id c)

/-- A wait of MK_WAIT_TIMEOUT ticks (R328): not with the timeout disabled, nor for waits on m61 to m63 only. -/
def execWaitTimeout (c : Fin 1056) (st : Strm) (s : State) : Out :=
  match s.ownerOf c with
  | none => done s
  | some p =>
    let m := s.miAt p st (s.pc c st)
    let open_ := (List.range 4).filter fun k => bitOf (openWaits s c st m) k
    if s.sstate c st == stWait && s.rd .MK_WAIT_TIMEOUT c != 0 && open_.any (fun k => waitIndex (miWait m k) < 61) then
      done (s.mkEvt c (1 + strmNo st) 1)
    else done s

/-! BARRIER (R337). -/

def opBarrier : OpSpec :=
  { OpSpec.base 0x31 with
    own := true
    fieldOk := fun s p m => miOpx m 0 1 ≤ 62 && (barScope s (p * 63 + miOpx m 0 1)).isSome && miOpx m 1 1 < 2 &&
      miOpx m 2 14 == 0 }

def execBarrier (c : Fin 1056) (st : Strm) (s : State) : Out :=
  done (issue opBarrier s c st fun s id f _ =>
    if s.fbit F.MK_CHAIN_ARRIVED c then s.updFlight id fun f => { f with waiting := true } else sendArrival s f c)

/-- An arrival reaches a node (R339): one that is on its way carries its own fault bit and step; its BARRIER completes
when the leaf has counted it. -/
def chainArrive (s : State) (x : ChainSrc) (id : Nat) (fault : Bool) (step : Nat) : State :=
  let sent := s.arrivals.find? fun a => a.src == x && a.id == id
  let s := { s with arrivals := s.arrivals.eraseP fun a => a.src == x && a.id == id }
  let fault := (sent.map (·.fault)).getD fault
  let step := (sent.map (·.step)).getD step
  match x with
  | .core c =>
    let s := arriveCore s c id fault
    match sent with
    | some a => s.finish a.flight
    | none => s
  | .member d p => if 4032 ≤ id then arriveVote s (d, p) step fault else arriveMember s (d, p) id fault

def execChainArrive (x : ChainSrc) (id : Fin 4096) (fault : Bool) (step : Word) (s : State) : Out :=
  done (chainArrive s x id fault step.toNat)

/-- A release travels down (R338, R340): one of this device's own nodes, or of a root elsewhere. -/
def chainRelease (s : State) (id epoch : Nat) (fault : Bool) : State :=
  match s.releases.find? (·.1 == id) with
  | some r => applyRelease { s with releases := s.releases.eraseP (·.1 == id) } id r.2.1 r.2.2
  | none =>
    if (barScope s id).isSome && !barRootHere s id && s.openEpochs.any (fun e => e.id == id && !e.members.isEmpty) then
      applyRelease { s with
        openEpochs := s.openEpochs.filter (·.id != id)
        epochs := spSet (fun _ => 0) s.epochs id ((epoch + 1) % 2 ^ 32) } id epoch fault
    else s

def execChainRelease (id : Fin 4096) (epoch : Word) (fault : Bool) (s : State) : Out :=
  done (chainRelease s id epoch.toNat fault)

/-- CH_TIMEOUT on an epoch open at this root (R342). -/
def execBarrierTimeout (id : Fin 4096) (s : State) : Out :=
  if barRootHere s id && s.openEpochs.any (·.id == id.val) then
    done ((s.fset F.CH_STATUS_TIMEOUT_ID 0 id).chEvt 0)
  else done s

/-! MK_FORCE (R344, R345). -/

def dieOff (d : Nat) : Nat := 0x13000000 + d * 0x04000000

def disarm (s : State) (d : Nat) : State := { s with forceArmed := s.forceArmed.filter (· != d) }

/-- A refused key or force write: disarms, counts, and is caused as an out-of-range write. -/
def refuseForce (s : State) (a : Agent) (d off : Nat) : State :=
  ((disarm s d).finc F.MK_FORCE_COUNT_REFUSED d 1).outOfRange a off

def forceKey (s : State) (a : Agent) (d : Nat) (w : Word) : State :=
  if w = 0x5EED then { s with forceArmed := addTo s.forceArmed d } else refuseForce s a d (dieOff d + 0x1000)

/-- Apply a forced operation to a marker ID. -/
def forceApply (s : State) (id : Nat) (set : Bool) : State :=
  if id < 0x10000 then
    match s.liveOf (id / 64) with
    | some c =>
      let s := (s.finc F.MK_FORCED_COUNT c 1).mkEvt c 4 2
      if set then s.setMarker c (id % 64) else (s.wake c).clearMarker c (id % 64)
    | none => s
  else if set then s.setEp (id - 0x10000) else putEp s (id - 0x10000) false

/-- A write to MK_FORCE. -/
def forceWrite (s : State) (a : Agent) (d : Nat) (w : Word) : State :=
  let v := w.toNat
  let id := bits v 0 17
  let set := bitOf v 17
  let core := if id < 0x10000 then s.liveOf (id / 64) else none
  if !s.forceArmed.contains d || 0x11FFF < id || v / 2 ^ 19 != 0 || (id < 0x10000 && core.isNone) then
    refuseForce s a d (dieOff d + 0x1004)
  else
    let s := forceApply ((disarm s d).finc F.MK_FORCE_COUNT_DONE d 1) id set
    let s := s.logRec 0xFC01 6 (1 + d) ((core.map (coreStep s)).getD 0)
      ((core.map fun c => (s.rd .MK_CHAIN_EPOCH c).toNat).getD 0) [id, b2n set, agentCode a]
    match core with
    | some c =>
      if bitOf v 18 then
        match s.ownerOf c with
        | some p => if s.isTraining p then s.coreStepFault 0x0106 c none 0 else s
        | none => s
      else s
    | none => s

def execMkForceKey (a : Agent) (d : Fin 2) (w : Word) (s : State) : Out :=
  done (s.access a (dieOff d + 0x1000) fun s => forceKey s a d w)

def execForcedSet (a : Agent) (d : Fin 2) (w : Word) (s : State) : Out :=
  done (s.access a (dieOff d + 0x1004) fun s => forceWrite s a d (w ||| 0x20000))

def execForcedClear (a : Agent) (d : Fin 2) (w : Word) (s : State) : Out :=
  done (s.access a (dieOff d + 0x1004) fun s => forceWrite s a d (w &&& ~~~(0x20000 : Word)))

/-- The arming window of 1,000,000 ticks ends (R344). -/
def execForceArmExpire (d : Fin 2) (s : State) : Out := done (disarm s d)

/-- A write of 1s to MK_EP_STATE clears endpoint markers; a set in the same instant leaves its marker SET, and is no double
set because the clear is granted first (R324); a set on a marker left SET is one (R323). -/
def epClear (s : State) (i : Nat) (w hw : Word) : State :=
  let left := s.rd .MK_EP_STATE i &&& ~~~w
  (s.wr .MK_EP_STATE i (left ||| hw)).finc F.MK_EP_DOUBLE_SET_COUNT 0 (popCount 32 (left &&& hw).toNat)

def execMkEpStateClear (a : Agent) (i : Fin 256) (w : Word) (hwSet : Word) (s : State) : Out :=
  done (s.access a (0x00038000 + 4 * i) fun s => epClear s i w hwSet)

end Sys2Proof.Machine
end

