-- ==== Sys2Proof/Machine/Queues.lean ====
section
/-! DEFINITION. Exchange queues: indices with their second copies, pushes, landing, the index operations, the queue
macro-instructions, and stop, change and restart (R348 to R366). -/
namespace Sys2Proof.Machine
open Sys2Proof

/-! Configuration and indices. -/

/-- Queue states (Q_STATUS.STATE). -/
def qsUnconf : Nat := 0
def qsStopped : Nat := 1
def qsRunning : Nat := 2
def qsStopping : Nat := 3
def State.qstate (s : State) (q : Nat) : Nat := s.fget F.Q_STATUS_STATE q
def queueOff (q : Nat) : Nat := 0x02000000 + q * 0x1000

/-- A field of the configuration in force: a value written while the queue is stopped waits for START (R55). -/
def qFld (s : State) (f : Fld) (q : Nat) : Nat := bits (s.queue q).config.toNat f.lsb f.width

/-- The configuration in the registers comes into force. -/
def adoptConfig (s : State) (q : Nat) : State :=
  s.setQueue q { s.queue q with config := s.rd .Q_CONFIG q, baseLo := s.rd .Q_BASE_LO q, baseHi := s.rd .Q_BASE_HI q }

def qItem (s : State) (q : Nat) : Nat := 2 ^ (6 + qFld s F.Q_CONFIG_ITEM_LOG2 q)
def qCap (s : State) (q : Nat) : Nat := 2 ^ qFld s F.Q_CONFIG_CAP_LOG2 q
def qBase (s : State) (q : Nat) : Nat := bits (s.queue q).baseLo.toNat 21 11 * 2 ^ 21 + bits (s.queue q).baseHi.toNat 0 7 * 2 ^ 32
/-- Address of item x. -/
def qSlot (s : State) (q x : Nat) : Nat := qBase s q + x % qCap s q * qItem s q

/-- The four indices (R351). -/
inductive QIx where
  | prod | cons | mark | rel
  deriving DecidableEq, Repr

def qReg : QIx → Reg
  | .prod => .Q_PROD | .cons => .Q_CONS | .mark => .Q_MARK | .rel => .Q_REL
def qCopy (x : QCtx) : QIx → Word
  | .prod => x.prod2 | .cons => x.cons2 | .mark => x.mark2 | .rel => x.rel2
def qPutCopy (x : QCtx) (i : QIx) (w : Word) : QCtx :=
  match i with
  | .prod => { x with prod2 := w } | .cons => { x with cons2 := w } | .mark => { x with mark2 := w }
  | .rel => { x with rel2 := w }

def State.qix (s : State) (q : Nat) (i : QIx) : Nat := (s.rd (qReg i) q).toNat
/-- Write an index and its second copy (R365). -/
def State.setQix (s : State) (q : Nat) (i : QIx) (v : Nat) : State :=
  (s.wr (qReg i) q (BitVec.ofNat 32 v)).setQueue q (qPutCopy (s.queue q) i (BitVec.ofNat 32 v))

/-- Difference of indices modulo 2^32. -/
def diff32 (a b : Nat) : Nat := (a + 2 ^ 32 - b % 2 ^ 32) % 2 ^ 32
def qCount (s : State) (q : Nat) : Nat := diff32 (s.qix q .prod) (s.qix q .cons)
def qUsed (s : State) (q : Nat) : Nat := diff32 (s.qix q .prod) (s.qix q .rel)
/-- Free slots, counting those reserved (R354). -/
def qFree (s : State) (q : Nat) : Nat := qCap s q - qUsed s q - (s.queue q).acc.length

/-- Every index to 0, both copies. -/
def zeroIndices (s : State) (q : Nat) : State :=
  (((s.setQix q .prod 0).setQix q .cons 0).setQix q .mark 0).setQix q .rel 0

/-- Who pushes: the host, a steward, or a panel (R349). -/
inductive Producer where
  | host | steward | panel (p : Nat)
  deriving DecidableEq, Repr

def permits (s : State) (q : Nat) (k : Producer) : Bool :=
  let pr := qFld s F.Q_CONFIG_PRODUCER q
  match k with
  | .host => pr == 0 || pr == 3
  | .steward => pr == 1 || pr == 3
  | .panel p => (pr == 2 || pr == 3) && qFld s F.Q_CONFIG_PROD_PANEL q == p

/-- Consumer panel of a queue. -/
def consPanel (s : State) (q : Nat) : Option Nat :=
  if qFld s F.Q_CONFIG_CONS_KIND q = 0 then some (qFld s F.Q_CONFIG_CONSUMER q) else none

/-! Host credits (R355, R383). -/

/-- The pool of a running queue holds min(64, free slots) credits; those that its host context does not hold yet are sent to
it (log entry 20). -/
def grantCredits (s : State) (q : Nat) : State :=
  if s.qstate q != qsRunning || !permits s q .host then s
  else
    let pool := min 64 (qFree s q)
    let add := pool - (s.queue q).granted
    let s := s.fset F.Q_CREDITS_POOL q pool
    if add = 0 then s
    else
      let s := s.setQueue q { s.queue q with granted := (s.queue q).granted + add }
      s.sendPkt { mkPacket s 0x11 s.masterId 0 (q + add * 2 ^ 16 + s.ownId % 256 * 2 ^ 24) [] with
        host := true, hctx := BitVec.ofNat 3 (s.queue q).hctx }

/-! Handlers (R406): the end of a vector whose handler pushed. -/

/-- The entry of the vector that H runs on a core. -/
def handlerEntry (s : State) (p c : Nat) : List Byte :=
  s.miAt p .F ((s.rd .VEC_BASE c).toNat + s.fget F.VEC_STATUS_ACTIVE c)

/-- The handler completes: its set fields are set once, and the vector ends (R211, R406). -/
def handlerEnd (s : State) (p c : Nat) : State :=
  let m := handlerEntry s p c
  let devs := remoteDevs m
  let ts := (s.core c).hTags
  let s := s.setCore c { s.core c with hTags := [] }
  let f : Flight :=
    { id := 0, panel := p, strm := .F, core := some c, seq := 0, pc := 0, mi := m, plan := onePlan, shape := [], next := 0
      claims := [], issued := [c], ended := [], parts := [], results := []
      tags := devs.zip (ts.zip (devs.map fun _ => 0)), step := 0, micro := 0, bank := 0
      chans := [], waiting := false, done := true }
  let s := (List.range 4).foldl (fun s k =>
    let fld := miSet m k
    if setTarget fld = 1 then s.setMarker c (setIdOf fld % 64)
    else if setTarget fld = 2 then s.setId (setIdOf fld)
    else if setTarget fld = 3 then s.remoteSet f fld
    else s) s
  (s.returnTags (ts.filter fun t => !tagQueued s t)).wr .VEC_STATUS c 0

/-! Completion of pushes. -/

/-- No push of a source is left in a queue. -/
def noPushes (x : QCtx) (p : PushSrc → Bool) : Bool := !x.acc.any (fun y => p y.src) && !x.stalled.any (fun y => p y.src)

/-- The push of a context queue's item has left its target queue: S2 moves MARK past the item once it has landed, and takes it
again otherwise (R425). -/
def dispatchDone (s : State) (q st : Nat) : State :=
  if st = rsOk then s.setQix q .mark (s.qix q .cons) else s.setQix q .cons (s.qix q .mark)

/-- A push has left the queue: its originator goes on when its last item has (R359, R380, R406). `st` is the status. -/
def pushDone (s : State) (q : Nat) (x : PushSrc) (st : Nat) : State :=
  match x with
  | .core f _ =>
    if noPushes (s.queue q) (fun y => match y with | .core g _ => g == f | _ => false) then s.finish f else s
  | .handler c =>
    if noPushes (s.queue q) (fun y => y == .handler c) then
      (match s.ownerOf c with | some p => handlerEnd s p c | none => s)
    else s
  | .steward _ => s
  | .dispatch k => dispatchDone s k st
  | .host _ src hctx tag rsp =>
    if rsp then
      s.sendPkt { mkPacket s 0x05 src tag st [] with host := true, hctx := BitVec.ofNat 3 hctx }
    else s

/-! Reset by check (R365). -/

def copiesAgree (s : State) (q : Nat) : Bool :=
  [QIx.prod, .cons, .mark, .rel].all fun i => s.rd (qReg i) q == qCopy (s.queue q) i

/-- The record 0x0401 and its step fault on the consumer panel (R448, R451). -/
def queueFault (s : State) (q : Nat) : State :=
  let p := consPanel s q
  let s := s.errRec ⟨0x0401, 0, p, q, 3, faultLoc s p 0, (p.map s.faultStep).getD 0, 0⟩
  match p with | some p => s.panelFault p | none => s

def resetByCheck (s : State) (q : Nat) : State :=
  let dropped := (s.queue q).acc
  let s := zeroIndices s q
  let s := (s.setQueue q { s.queue q with acc := [] }).finc F.Q_COUNTS_DROPPED q dropped.length
  let s := dropped.foldl (fun s x => pushDone s q x.src rsAccess) s
  let s := grantCredits s q
  let s := ((s.fset F.Q_STATUS_RESET_BY_CHECK q 1).finc F.Q_STATUS_RESETS q 1).setEpQuiet (16 * q + 1)
  queueFault (s.raise (1185 + q)) q

/-- The comparison before every operation of a queue. -/
def State.checkQueue (s : State) (q : Nat) : State := if copiesAgree s q then s else resetByCheck s q

/-! Index operations (R353). -/

def qAdvance (s : State) (q n : Nat) : State := s.setQix q .cons ((s.qix q .cons + min n (qCount s q)) % 2 ^ 32)
def qMark (s : State) (q : Nat) : State := s.setQix q .mark (s.qix q .cons)
def qRewind (s : State) (q : Nat) : State := s.setQix q .cons (s.qix q .mark)
/-- Release n: frees slots, sets endpoint marker 0 and returns credits when it frees any (R355, R357). -/
def qRelease (s : State) (q n : Nat) : State :=
  let moved := min n (diff32 (s.qix q .cons) (s.qix q .rel))
  let below := decide (diff32 (s.qix q .mark) (s.qix q .rel) < moved)
  let s := s.setQix q .rel ((s.qix q .rel + moved) % 2 ^ 32)
  let s := if below then s.setQix q .mark (s.qix q .rel) else s
  if moved = 0 then s else grantCredits (s.setEpQuiet (16 * q)) q

/-- Commit on a step queue: MARK = CONS, then release up to MARK (R282); repeat: CONS = MARK (R283). Both are held
while the queue does not run (R363). -/
def commitOps (s : State) (q : Nat) : State :=
  let s := qMark (s.checkQueue q) q
  qRelease s q (diff32 (s.qix q .mark) (s.qix q .rel))
def State.commitQueue (s : State) (q : Nat) : State :=
  if s.qstate q == qsRunning then commitOps s q
  else if s.qstate q == qsUnconf then s
  else s.setQueue q { s.queue q with heldMark := true }
def State.repeatQueue (s : State) (q : Nat) : State :=
  if s.qstate q == qsRunning then qRewind (s.checkQueue q) q
  else if s.qstate q == qsUnconf then s
  else s.setQueue q { s.queue q with heldRewind := true }

/-! Pushing (R354, R355). -/

/-- A push arrives: accepted into a slot, or stalled behind those that wait; the pool follows the free slots. -/
def pushArrive (s : State) (q : Nat) (x : Push) : State :=
  let y := s.queue q
  if s.qstate q == qsRunning && y.stalled.isEmpty && decide (0 < qFree s q) then
    grantCredits (s.setQueue q { y with acc := y.acc ++ [x] }) q
  else s.setQueue q { y with stalled := y.stalled ++ [x] }

/-- Streams of a macro-instruction that waits at a queue read SLOT_WAIT, or WALK again (R355, R363); a core whose wait ends
wakes (R498). -/
def qShow (s : State) (f : Flight) (state : Nat) : State :=
  (f.issued.filter fun c => !f.ended.contains c).foldl (fun s c =>
    (if state == stWalk then s.wake c else s).setSstate c f.strm state) s

def stalledFlight (s : State) (q id : Nat) : Bool :=
  (s.queue q).stalled.any fun y => match y.src with | .core g _ => g == id | _ => false

/-- The head of the stalled pushes takes a free slot. -/
def acceptStalled (s : State) (q : Nat) : State :=
  let y := s.queue q
  match y.stalled with
  | [] => s
  | x :: rest =>
    if s.qstate q == qsRunning && decide (0 < qFree s q) then
      let s := grantCredits (s.setQueue q { y with stalled := rest, acc := y.acc ++ [x] }) q
      match x.src with
      | .core id _ =>
        (match s.flight id with
         | some f => if stalledFlight s q id then s else qShow s f stWalk
         | none => s)
      | _ => s
    else s

/-- The item at the head of the reserved slots lands whole: its bytes, PROD, the arrival marker (R354, R356). -/
def landHead (s : State) (q : Nat) : State :=
  match (s.queue q).acc with
  | [] => s
  | x :: rest =>
    let a := qSlot s q (s.qix q .prod)
    if !x.whole || stagingHeld s a (qItem s q) then s
    else
      let bs := sliceB x.bytes 0 (qItem s q)
      let before := qCount s q
      let ok := badAmong s.badPhys a bs.length
      let s := { s.dramWrite a bs with badPhys := s.badPhys.filter fun k => !ok.contains k }
      let s := (s.setQueue q { s.queue q with acc := rest }).setQix q .prod ((s.qix q .prod + 1) % 2 ^ 32)
      let s :=
        if qFld s F.Q_CONFIG_ARRIVE q == 1 && before == 0 then
          (match consPanel s q with
           | some p => (s.coresOf p).foldl (fun s c => s.setMarker c 62) s
           | none => s)
        else s
      pushDone s q x.src rsOk

/-! Reads (R353, R359, R360). -/

def opQueue (f : Flight) : Nat := miOpx f.mi 0 1
def opN (m : List Byte) : Nat := miOpx m 4 4
def isPush (m : List Byte) : Bool := bitOf (miOpx m 8 1) 0

/-- A QUEUE_READ that waits for items of queue q. -/
def waitsRead (q : Nat) (f : Flight) : Bool :=
  f.waiting && miOpcode f.mi == 0x38 && !isPush f.mi && opQueue f == q
/-- A MARK, REWIND or RELEASE held while its queue does not run. -/
def waitsIndex (q : Nat) (f : Flight) : Bool :=
  f.waiting && (miOpcode f.mi == 0x39 || miOpcode f.mi == 0x3A || miOpcode f.mi == 0x3B) && opQueue f == q

/-- Shape register k of a stream on a core takes six values (R193). -/
def setShape (s : State) (c : Nat) (st : Strm) (k : Nat) (vs : List Word) : State :=
  s.setCore c { s.core c with
    shp := (List.range 6).foldl (fun l i => spSet (fun _ => (0xFFFFFFFF : Word)) l (strmNo st * 96 + k * 6 + i) (vs.getD i 0))
      (s.core c).shp }

/-- Copy the items from the old CONS on: into DST, the shape of the first into its register, then completion. An
uncorrectable block is a step fault or a query abort and leaves CONS advanced (R445). -/
def doRead (s : State) (f : Flight) : State :=
  let q := opQueue f
  let n := opN f.mi
  let old := s.qix q .cons
  let s := s.setQix q .cons ((old + n) % 2 ^ 32)
  let s := s.setPanel f.panel { s.panel f.panel with lastQ := q }
  let addrs := (List.range n).map fun j => qSlot s q (old + j)
  match addrs.findSome? fun a => (badAmong s.badPhys a (qItem s q)).head? with
  | some k =>
    let a := 64 * k
    (uncorrFound s (a / 2 ^ 36 % 8) a).feltStepFault 0x0201 (a / 2 ^ 36 % 8) (some f.panel) a
  | none =>
    let first := s.dramRead (qSlot s q old) 24
    let shp := miOpx f.mi 1 1
    let (s, ok) := s.put (hHandle (miDst f.mi)) (bytePuts 0 (addrs.flatMap fun a => s.dramRead a (qItem s q)))
    let s := s.writeFail f.panel ok
    let cs := match f.core with | some c => [c] | none => s.coresOf f.panel
    let s := if shp = 0 then s else cs.foldl (fun s c => setShape s c f.strm (shp - 1) (wordsOf 6 first)) s
    s.finish f.id

/-- The first read that waits on a queue goes on when enough items have landed and no load holds the ring (R51). -/
def tryRead (s : State) (id : Nat) : State :=
  match s.flight id with
  | none => s
  | some f =>
    let q := opQueue f
    if s.qstate q != qsRunning then (if s.qstate q == qsStopped then qShow s f stSlot else s)
    else
      let s := s.checkQueue q
      match s.flights.find? (waitsRead q) with
      | some g =>
        if g.id = id && decide (opN f.mi ≤ qCount s q) && !stagingHeld s (qBase s q) (qCap s q * qItem s q) then
          doRead (s.updFlight id fun f => { f with waiting := false }) f
        else s
      | none => s

/-! The queue macro-instructions (R358 to R361). -/

/-- Causes 0x30 to 0x32; `n` says that a count is checked, `span` which handle must hold the items. -/
def queueCause (s : State) (p : Nat) (m : List Byte) (push count : Bool) (span : Option Nat) : Nat :=
  let q := miOpx m 0 1
  let n := opN m
  if s.qstate q == qsUnconf then 0x30
  else if (if push then !permits s q (.panel p) else consPanel s q != some p) then 0x30
  else if miScope m && miOpcode m != 0x38 then 0x30
  else if count && (n = 0 || qCap s q < n) then 0x31
  else
    match span with
    | some h => (match s.desc (hHandle h) with
      | some d => if planesEnd d < n * qItem s q then 0x32 else 0
      | none => 0)
    | none => 0

def opRead (push : Bool) : OpSpec :=
  { OpSpec.base 0x38 with
    mine := fun m => miOpcode m == 0x38 && isPush m == push
    fieldOk := fun _ _ m => miOpx m 1 1 ≤ 16 && miOpx m 2 2 == 0 && miOpx m 8 1 < 2 && miOpx m 9 7 == 0
    req := if push then [1] else [0]
    late := fun s p _ m _ => queueCause s p m push true (some (if push then miSrc m 0 else miDst m)) }

def opIndex (op : Nat) : OpSpec :=
  { OpSpec.base op with
    fieldOk := fun _ _ m => miOpx m 1 3 == 0 && miOpx m 8 8 == 0 && (op == 0x3B || miOpx m 4 4 == 0)
    late := fun s p _ m _ => queueCause s p m false (op == 0x3B && opN m != 0xFFFFFFFF) none }

/-- One unit: the first core takes it, another finds none left and its walk ends (R203, R207, R213). What a failed write of the
skein area has abandoned does not run. -/
def oneUnit (s : State) (id c : Nat) (first : Bool) (run : State → State) : State :=
  if !first then s.walkEnd id c
  else
    let s := match s.flight id with | some f => skeinPut s f 0 false | none => s
    if (s.flight id).isNone then s
    else run ((s.updFlight id fun f => { f with next := 1, claims := [0] }).finc F.NDL_UNITS_COUNT c 1)

/-- An index operation: now when the queue runs, else held (R363). -/
def indexOp (s : State) (f : Flight) : State :=
  let q := opQueue f
  if s.qstate q == qsRunning then
    let s := s.checkQueue q
    let s := match miOpcode f.mi with
      | 0x39 => qMark s q
      | 0x3A => qRewind s q
      | _ => qRelease s q (if opN f.mi = 0xFFFFFFFF then 2 ^ 32 else opN f.mi)
    s.finish f.id
  else
    let s := s.updFlight f.id fun f => { f with waiting := true }
    if s.qstate q == qsStopped then qShow s f stSlot else s

/-- The pushes of a core push: every item is read from SRC0's byte space and takes a slot or stalls. -/
def pushItems (s : State) (src : Nat → PushSrc) (h n : Nat) (q : Nat) : State :=
  (List.range n).foldl (fun s j => pushArrive s q ⟨src j, s.tRead h (j * qItem s q) (qItem s q), true⟩) s

def corePushRun (s : State) (c : Nat) (st : Strm) (f : Flight) : State :=
  let q := opQueue f
  let h := hHandle (miSrc f.mi 0)
  let n := opN f.mi
  let s := if s.qstate q == qsRunning then s.checkQueue q else s
  match badIn s h 0 (n * qItem s q) with
  | some k => uncorrCore s c k (some st)
  | none =>
    let s := pushItems s (fun j => .core f.id j) h n q
    if stalledFlight s q f.id then qShow s f stSlot else s

def execQueueRead (c : Fin 1056) (st : Strm) (s : State) : Out :=
  done (issue (opRead false) s c st fun s id _ first =>
    oneUnit s id c first fun s => tryRead (s.updFlight id fun f => { f with waiting := true }) id)

/-- A waiting read of the stream's panel, or of the core itself, goes on. -/
def execQueueReadSatisfied (c : Fin 1056) (st : Strm) (s : State) : Out :=
  match s.flights.find? fun f => f.strm == st && some f.panel == s.ownerOf c && (f.core == none || f.core == some c.val) &&
      waitsRead (opQueue f) f with
  | some f => done (tryRead s f.id)
  | none => done s

def execCorePush (c : Fin 1056) (st : Strm) (s : State) : Out :=
  done (issue (opRead true) s c st fun s id f first => oneUnit s id c first fun s => corePushRun s c st f)

def execQueueMark (c : Fin 1056) (st : Strm) (s : State) : Out :=
  done (issue (opIndex 0x39) s c st fun s id f first => oneUnit s id c first fun s => indexOp s f)

def execQueueRewind (c : Fin 1056) (st : Strm) (s : State) : Out :=
  done (issue (opIndex 0x3A) s c st fun s id f first => oneUnit s id c first fun s => indexOp s f)

def execQueueRelease (c : Fin 1056) (st : Strm) (s : State) : Out :=
  done (issue (opIndex 0x3B) s c st fun s id f first => oneUnit s id c first fun s => indexOp s f)

/-! Landing, acceptance, stewards. -/

def execLand (q : Fin 256) (s : State) : Out :=
  if s.qstate q == qsRunning || s.qstate q == qsStopping then done (landHead (s.checkQueue q) q) else done s

def execStalledPushAccept (q : Fin 256) (s : State) : Out :=
  if s.qstate q == qsRunning then done (acceptStalled (s.checkQueue q) q) else done s

/-- A write of Q_PUSH_SRC_HI: an agent or a queue that does not allow it makes it out of range; an item outside one
fixed region is refused and counted (R355). -/
def stewardPushWrite (s : State) (a : Agent) (q : Nat) (w : Word) : State :=
  match a with
  | .steward i =>
    if s.qstate q == qsUnconf || !permits s q .steward then s.outOfRange a (queueOff q + 0x30)
    else
      let addr := bits w.toNat 0 7 * 2 ^ 32 + (s.queue q).srcLo.toNat
      let n := qItem s q
      if !s.inFixed addr n then refusePhys s addr
      else
        match badAmong s.badPhys addr n with
        | k :: _ => uncorrOther s (addr / 2 ^ 36) (64 * k)
        | [] =>
          let s := if s.qstate q == qsRunning then s.checkQueue q else s
          pushArrive s q ⟨.steward i, s.dramRead addr n, true⟩
  | _ => s.outOfRange a (queueOff q + 0x30)

def execStewardPush (i : Fin 6) (q : Fin 256) (w : Word) (s : State) : Out :=
  done (s.access (.steward i) (queueOff q + 0x30) fun s => stewardPushWrite s (.steward i) q w)

def isSteward : PushSrc → Bool
  | .steward _ | .dispatch _ => true | _ => false

/-- The oldest stalled steward push gives up after 1,000,000 ticks. -/
def execPushTimeout (q : Fin 256) (s : State) : Out :=
  let y := s.queue q
  match y.stalled.find? fun x => isSteward x.src with
  | some x =>
    let s := (s.setQueue q { y with stalled := y.stalled.eraseP fun x => isSteward x.src }).finc F.Q_COUNTS_PUSH_TIMEOUT q 1
    done (pushDone s q x.src rsAccess)
  | none => done s

/-! Q_CMD (R362). -/

/-- The writer is of the consumer's kind. -/
def isConsumer (s : State) (a : Agent) (q : Nat) : Bool :=
  match a with
  | .link _ _ host _ => host && qFld s F.Q_CONFIG_CONS_KIND q == 1
  | .steward _ => qFld s F.Q_CONFIG_CONS_KIND q == 2
  | _ => false

def queueCmd (s : State) (a : Agent) (q : Nat) (w : Word) : State :=
  if s.qstate q != qsRunning || !isConsumer s a q then s.finc F.Q_COUNTS_BAD_CMD q 1
  else
    let s := s.checkQueue q
    let n := if bits w.toNat 8 24 = 0xFFFFFF then 2 ^ 32 else bits w.toNat 8 24
    match bits w.toNat 0 2 with
    | 0 => qAdvance s q n
    | 1 => qMark s q
    | 2 => qRewind s q
    | _ => qRelease s q n

/-- The word of a Q_CMD write with its operation. -/
def cmdWord (op : Nat) (w : Word) : Word := (w &&& ~~~(3 : Word)) ||| BitVec.ofNat 32 op

def execAdvance (a : Agent) (q : Fin 256) (w : Word) (s : State) : Out :=
  done (s.access a (queueOff q + 0x28) fun s => queueCmd s a q (cmdWord 0 w))
def execMark (a : Agent) (q : Fin 256) (w : Word) (s : State) : Out :=
  done (s.access a (queueOff q + 0x28) fun s => queueCmd s a q (cmdWord 1 w))
def execRewind (a : Agent) (q : Fin 256) (w : Word) (s : State) : Out :=
  done (s.access a (queueOff q + 0x28) fun s => queueCmd s a q (cmdWord 2 w))
def execRelease (a : Agent) (q : Fin 256) (w : Word) (s : State) : Out :=
  done (s.access a (queueOff q + 0x28) fun s => queueCmd s a q (cmdWord 3 w))

/-! Q_CTRL (R363). -/

def badQueueCmd (s : State) (q : Nat) : State := (s.finc F.Q_COUNTS_BAD_CMD q 1).fset F.Q_STATUS_CAUSE q 0x20

/-- Nothing of a queue is in flight: it stops, and what waits on it reads SLOT_WAIT. -/
def queueStoppedNow (s : State) (q : Nat) : State :=
  if s.qstate q == qsStopping && (s.queue q).acc.isEmpty then
    let s := s.fset F.Q_STATUS_STATE q qsStopped
    (s.flights.filter fun f => waitsRead q f || waitsIndex q f).foldl (fun s f => qShow s f stSlot) s
  else s

/-- The queue runs: held actions and operations, then its credits (R363, R383). -/
def queueRun (s : State) (q : Nat) : State :=
  let s := s.fset F.Q_STATUS_STATE q qsRunning
  let x := s.queue q
  let s := s.setQueue q { x with changed := false, heldMark := false, heldRewind := false }
  let s := if x.heldMark then commitOps s q else s
  let s := if x.heldRewind then qRewind (s.checkQueue q) q else s
  let s := (s.flights.filter (waitsRead q)).foldl (fun s f => qShow s f stWalk) s
  let s := (s.flights.filter (waitsIndex q)).foldl (fun s f =>
    indexOp (qShow (s.updFlight f.id fun f => { f with waiting := false }) f stWalk) f) s
  grantCredits s q

def queueCtrl (s : State) (q : Nat) (w : Word) : State :=
  let v := w.toNat % 8
  let st := s.qstate q
  if v = 0 then s
  else if popCount 3 v ≠ 1 then badQueueCmd s q
  else
    let ok := fun (s : State) => s.fset F.Q_STATUS_CAUSE q 0
    if v = 1 then
      if st == qsUnconf then badQueueCmd s q
      else if st == qsRunning then ok (s.fset F.Q_STATUS_STATE q qsStopping)
      else ok s
    else if st != qsStopped then badQueueCmd s q
    else if v = 2 then
      let s := if (s.queue q).changed then zeroIndices (adoptConfig s q) q else adoptConfig s q
      ok (queueRun s q)
    else ok (zeroIndices s q)

def execQueueStop (a : Agent) (q : Fin 256) (w : Word) (s : State) : Out :=
  done (s.access a (queueOff q) fun s => queueCtrl s q (w ||| 1))
def execQueueStart (a : Agent) (q : Fin 256) (w : Word) (s : State) : Out :=
  done (s.access a (queueOff q) fun s => queueCtrl s q (w ||| 2))
def execQueueClear (a : Agent) (q : Fin 256) (w : Word) (s : State) : Out :=
  done (s.access a (queueOff q) fun s => queueCtrl s q (w ||| 4))

def execQueueStopped (q : Fin 256) (s : State) : Out := done (queueStoppedNow s q)

end Sys2Proof.Machine
end

