-- ==== Sys2Proof/Machine/Links.lean ====
section
/-! DEFINITION. Worina Link: port states, training, degrade, routes, arriving packets with their checks and answers, held
marker sets, host pushes and discovery (R330 to R334, R367 to R391). -/
namespace Sys2Proof.Machine
open Sys2Proof

def lnkOff (p : Nat) : Nat := 0x04000000 + p * 0x10000

/-! Fence drops (R333, R447). -/

/-- A set is dropped: count, cause, record, and the step fault of the panels that wait for it. -/
def fenceDrop (s : State) (id : Nat) : State :=
  let s := (s.finc F.MK_REMOTE_COUNTS_FENCE_DROP 0 1).raise 1490
  if id < 0x10000 then
    let p := (s.liveOf (id / 64)).bind fun c => s.ownerOf c
    let s := s.errRec ⟨0x0302, 0, p, 0, 3, faultLoc s p 0, (p.map s.faultStep).getD 0, 0⟩
    match p with | some p => s.panelFault p | none => s
  else
    let s := s.errRec ⟨0x0302, 0, none, 0, 3, 0, 0, 0⟩
    ((List.range 64).filter fun p => s.isTraining p).foldl (fun s p => s.stepFault p) s

def setIdIn (q : Packet) : Nat := q.w1.toNat % 2 ^ 17

/-- A retrain or stop of a port discards its held sets and open tags. -/
def dropSets (s : State) (p : Nat) : State :=
  let gone := s.heldSets.filter fun h => h.1 == p
  let s := { s with heldSets := s.heldSets.filter (fun h => h.1 != p), openTags := s.openTags.filter fun t => t.port != p }
  gone.foldl (fun s h => fenceDrop s (setIdIn h.2)) s

/-! Answers. -/

/-- A request that always, or on RSP, receives an answer (R379). -/
def wantsAnswer (q : Packet) : Bool :=
  q.typ == 3 || q.typ == 8 || q.typ == 9 || ((q.typ == 1 || q.typ == 2 || q.typ == 0x10) && q.rsp)

/-- Type of the answer to a request type. -/
def answerType (t : Nat) : Nat := if t = 3 then 4 else if t = 9 then 0x0A else 5

def badPacket (s : State) (p : Nat) : State := (s.finc F.LNK_PKT_COUNTS_BAD_PACKET p 1).lnkEvt p 3

def answer (s : State) (q : Packet) (st : Nat) : State := respond s q (answerType q.typ.toNat) st []

/-- A packet that finds no way on: counted, and answered when it wants an answer (R384). -/
def deny (s : State) (p : Nat) (q : Packet) (f : Fld) (st : Nat) : State :=
  let s := s.finc f (s.countPort q p) 1
  if wantsAnswer q then answer s q st else s

/-! Port transitions (R371 to R376). -/

/-- A request of a host context is answered: it no longer awaits a response (R381). -/
def dropRequest (s : State) (q : Packet) : State :=
  if q.host && s.isMaster && wantsAnswer q then
    { s with requests := s.requests.eraseP fun r => r.tag == q.tag.toNat && r.hctx == q.hctx.toNat }
  else s

/-- What a port has queued when it goes down completes with NO_ROUTE, and the tags of this device's sets among it return
(R331, R376, R381); what is in the retry buffer is lost. -/
def flushPort (s : State) (p : Nat) : State :=
  let qs := (s.port p).egress
  let s := (s.setPort p noPort).returnTags (ownTags s qs)
  qs.foldl (fun s q => deny (dropRequest s q) p q F.LNK_PKT_COUNTS_NO_ROUTE rsNoRoute) s

/-- Entry into FAILED: cause, event, claim source, record 0x0301 (R375, R391). -/
def enterFailed (s : State) (p cause : Nat) : State :=
  let s := ((s.fset F.LNK_STATUS_STATE p lsFailed).fset F.LNK_STATUS_CAUSE p cause).fset F.LNK_STATUS_WIDTH p 0
  let s := ((s.setBit .LNK_EVENT p 0).raise (1441 + p)).errRec ⟨0x0301, 0, none, p, 3, 0, 0, 0⟩
  flushPort (dropSets s p) p

def enterStoppedPort (s : State) (p : Nat) : State :=
  let s := { s with coldPorts := s.coldPorts.filter (· != p) }
  flushPort (dropSets ((s.fset F.LNK_STATUS_STATE p lsStopped).fset F.LNK_STATUS_WIDTH p 0) p) p

/-- Entry into RETRAINING keeps the retry buffer and the sequence numbers, and discards held sets and tags (R371). -/
def enterRetraining (s : State) (p : Nat) : State :=
  dropSets (((s.fset F.LNK_STATUS_STATE p lsRetraining).finc F.LNK_LINK_COUNTS_RETRAINS p 1).lnkEvt p 1) p

/-- A fault that an UP port mends by retraining; a STOPPING one stops (R371, R374). -/
def linkFault (s : State) (p : Nat) : State :=
  if s.lstate p == lsUp then enterRetraining s p else if s.lstate p == lsStopping then enterStoppedPort s p else s

def execLinkSilenceTimeout (port : Fin 16) (s : State) : Out := done (linkFault s port)

/-- Every flit not acknowledged goes out again, the first one first (R370 to R372). -/
def resend (x : Port) : Port := { x with line := x.retry.map fun e => (e.1, e.2.2) }

def execRetrainTimeout (port : Fin 16) (s : State) : Out :=
  done (if s.lstate port == lsRetraining then enterFailed s port 5 else s)

/-! Lanes (R372). -/

/-- Legal widths of a role, widest first. -/
def legalWidths (role : Nat) : List Nat := if role = roleHost then [8, 4, 2, 1] else [8, 4, 2]

/-- Active lanes: the lowest good lanes, as many as the width. -/
def activeLanes (good width : Nat) : List Nat := ((List.range 8).filter fun i => bitOf good i).take width

/-- Lanes turn bad: the port drops to the next smaller width that the good lanes carry, or fails. -/
def degrade (s : State) (p : Nat) (lost : List Nat) : State :=
  let good := s.fget F.LNK_STATUS_GOOD_LANES p
  let width := s.fget F.LNK_STATUS_WIDTH p
  let hit := (activeLanes good width).any fun i => lost.contains i
  let left := maskOf ((List.range 8).filter fun i => bitOf good i && !lost.contains i)
  let s := s.fset F.LNK_STATUS_GOOD_LANES p left
  if !hit then s
  else
    match (legalWidths (s.fget F.LNK_STATUS_ROLE p)).find? fun w => decide (w < width) && decide (w ≤ popCount 8 left) with
    | some w =>
      let s := ((s.fset F.LNK_STATUS_WIDTH p w).finc F.LNK_LINK_COUNTS_DEGRADES p 1).lnkEvt p 2
      s.setPort p (resend (s.port p))
    | none => if s.lstate p == lsStopping then enterStoppedPort s p else enterFailed s p 2

/-- Symbols that each active lane carries of the codewords of the flits last put on the line, two flits a codeword, an idle
flit filling the last (R367, R368). The alignment bits are free (log entry 148). -/
def laneSymbols (s : State) (p : Nat) : List (Nat × List Nat) :=
  let x := s.port p
  let fs := x.line.map flitBytes ++ (if x.line.length % 2 = 1 then [flitBytes (flitHead true x, [])] else [])
  let act := activeLanes (s.fget F.LNK_STATUS_GOOD_LANES p) (s.fget F.LNK_STATUS_WIDTH p)
  let cws := (List.range (fs.length / 2)).map fun i =>
    codewordOf (Config.freeNat (s.freeNum + i)) (fs.getD (2 * i) []) (fs.getD (2 * i + 1) [])
  (List.range act.length).map fun k => (act.getD k 0, cws.flatMap (laneShare act.length k))

def execLaneLoss (port : Fin 16) (lane : Fin 8) (s : State) : Out :=
  done (if s.lstate port == lsUp || s.lstate port == lsStopping then degrade s port [lane] else s)

/-- A window of 65,536 codewords ends: corrected symbols by lane (R370, R372). -/
def execDegradeWindowEnd (port : Fin 16) (counts : List Nat) (s : State) : Out :=
  if s.lstate port != lsUp && s.lstate port != lsStopping then done s
  else
    let act := activeLanes (s.fget F.LNK_STATUS_GOOD_LANES port) (s.fget F.LNK_STATUS_WIDTH port)
    let s := s.finc F.LNK_FEC_CORR_COUNT port ((act.map fun i => counts.getD i 0).foldl (· + ·) 0)
    let bad := act.filter fun i => decide (s.fget F.LNK_CONFIG_DEG_LIMIT port < counts.getD i 0)
    done (if bad.isEmpty then s else degrade s port bad)

/-! Training (R375, R386, R387). -/

def hostPorts (s : State) : List Nat :=
  (List.range 16).filter fun p => s.fget F.LNK_STATUS_ROLE p == roleHost && s.lstate p != lsFailed && s.lstate p != lsOff

/-- Contexts of the HOST ports other than the given ones. -/
def usedContexts (s : State) (ps : List Nat) : List Nat :=
  ((hostPorts s).filter fun p => !ps.contains p).map fun p => s.fget F.LNK_CONFIG_HCTX p

/-- The free contexts, lowest first. -/
def freeContexts (s : State) (ps : List Nat) : List Nat := (List.range 8).filter fun k => !(usedContexts s ps).contains k

/-- Host contexts of the ports that train at cold reset: the lowest free ones, in increasing port number (R387). A port that
becomes HOST later keeps its own context, or takes the lowest free one when another HOST port holds that (R386; DESIGN CHOICE,
log entry 160). -/
def giveContexts (s : State) (p : Nat) : State :=
  if s.coldPorts.contains p then
    let hs := (hostPorts s).filter fun q => s.coldPorts.contains q
    let ks := freeContexts s hs
    (List.range hs.length).foldl (fun s k => s.fset F.LNK_CONFIG_HCTX (hs.getD k 0) (ks.getD k 0)) s
  else if s.fget F.LNK_STATUS_ROLE p == roleHost && (usedContexts s [p]).contains (s.fget F.LNK_CONFIG_HCTX p) then
    s.fset F.LNK_CONFIG_HCTX p ((freeContexts s [p]).headD 0)
  else s

/-- Role that a far end gives a port on its own (R387). -/
def foundRole : FarEnd → Nat
  | .adapter => roleHost | .masterDevice => roleCascade | .device => rolePeer

/-- The role that the pattern asks of a listed port agrees with the far end. -/
def roleAgrees (want : Nat) : FarEnd → Bool
  | .adapter => want == roleHost
  | _ => want == rolePeer || want == roleCascade

def listedPort (s : State) (p : Nat) : Bool :=
  match s.links with | some l => l.ports.any fun x => x.port == p | none => false

def trainPort (s : State) (p : Nat) (far : FarEnd) (farWidth good : Nat) : State :=
  let want := s.fget F.LNK_CONFIG_ROLE p
  let role := if listedPort s p then want else foundRole far
  if far = .adapter && !s.isMaster then enterFailed s p 3
  else if listedPort s p && !roleAgrees want far then enterFailed s p 1
  else if role = roleHost && decide (8 ≤ ((hostPorts s).filter (· != p)).length) then enterFailed s p 6
  else
    match (legalWidths role).find? fun w =>
        decide (w ≤ farWidth) && decide (w ≤ s.fget F.LNK_CONFIG_MAX_WIDTH p) && decide (w ≤ popCount 8 good) with
    | none => enterFailed s p 2
    | some w =>
      let s := ((s.fset F.LNK_STATUS_STATE p lsUp).fset F.LNK_STATUS_WIDTH p w).fset F.LNK_STATUS_ROLE p role
      let s := (s.fset F.LNK_STATUS_GOOD_LANES p good).fset F.LNK_CONFIG_ROLE p role
      giveContexts (s.setPort p noPort) p

def execTrainingDone (port : Fin 16) (far : FarEnd) (farWidth : Nat) (good : BitVec 8) (s : State) : Out :=
  done (if s.lstate port == lsTraining then trainPort s port far farWidth good.toNat else s)

def execTrainingTimeout (port : Fin 16) (s : State) : Out :=
  done (if s.lstate port == lsTraining then enterFailed s port 1 else s)

/-! Stop and start (R374). -/

def badPortCmd (s : State) (p : Nat) : State := (s.finc F.LNK_LINK_COUNTS_BAD_CMD p 1).fset F.LNK_STATUS_CAUSE p 0x20

/-- The port that carries a write. -/
def carries (a : Agent) (p : Nat) : Bool := match a with | .link q _ _ _ => q.val == p | _ => false

def startPort (s : State) (p : Nat) : State :=
  let s := { s with coldPorts := s.coldPorts.filter (· != p) }
  if s.fget F.LNK_CONFIG_ROLE p = 0 then s.fset F.LNK_STATUS_STATE p lsOff else s.fset F.LNK_STATUS_STATE p lsTraining

def stopPort (s : State) (p : Nat) : State :=
  let st := s.lstate p
  if st == lsUp then s.fset F.LNK_STATUS_STATE p lsStopping
  else if st == lsStopping || st == lsStopped then s
  else enterStoppedPort s p

/-- A write to LNK_CTRL; one that sets both bits is ignored and counted (log entry 21). -/
def portCtrl (s : State) (a : Agent) (p : Nat) (w : Word) : State :=
  let stop := bitOf w.toNat 0
  let start := bitOf w.toNat 1
  let st := s.lstate p
  if !stop && !start then s
  else if stop && start then badPortCmd s p
  else if stop then (if st == lsOff || carries a p then badPortCmd s p else stopPort s p)
  else if st == lsOff || st == lsStopped || st == lsFailed then startPort s p
  else badPortCmd s p

def execPortStop (a : Agent) (port : Fin 16) (w : Word) (s : State) : Out :=
  done (s.access a (lnkOff port) fun s => portCtrl s a port (w ||| 1))
def execPortStart (a : Agent) (port : Fin 16) (w : Word) (s : State) : Out :=
  done (s.access a (lnkOff port) fun s => portCtrl s a port (w ||| 2))

/-- STOPPING ends when everything has drained, or after 1 ms (R375). -/
def execPortDrained (port : Fin 16) (s : State) : Out :=
  if s.lstate port == lsStopping && (s.port port).retry.isEmpty && (s.port port).egress.isEmpty then
    done (enterStoppedPort s port)
  else done s
def execPortDrainTimeout (port : Fin 16) (s : State) : Out :=
  done (if s.lstate port == lsStopping then enterStoppedPort s port else s)

/-! Checks of an arriving packet (R379). -/

/-- Lowest and highest LEN of a type. -/
def lenRange (t : Nat) : Nat × Nat :=
  match t with
  | 0x01 | 0x02 | 0x03 | 0x10 => (1, 64)
  | 0x04 => (0, 64)
  | _ => (0, 0)

/-- Reserved bits of word 1 are 0 and the address space is one the type takes. -/
def word1Ok (t w1 : Nat) : Bool :=
  let sp := bits w1 62 2
  match t with
  | 0x00 | 0x20 | 0x24 => w1 == 0
  | 0x01 | 0x02 | 0x03 => (sp == 0 && bits w1 39 23 == 0) || (sp == 1 && bits w1 60 2 == 0)
  | 0x04 | 0x05 => w1 < 256
  | 0x08 => sp == 2 && !bitOf w1 61
  | 0x09 => sp == 2 && bits w1 29 33 == 0
  | 0x0A => bits w1 8 24 == 0
  | 0x10 => sp == 3 && bits w1 8 8 == 0 && bits w1 33 29 == 0
  | 0x11 => bits w1 8 8 == 0 && w1 < 2 ^ 32
  | 0x18 => bits w1 17 15 == 0
  | 0x19 => w1 < 2 ^ 19
  | 0x1A => bits w1 13 19 == 0
  | 0x21 => w1 < 2 ^ 19
  | 0x22 => w1 < 2 ^ 12
  | 0x23 => bits w1 40 22 == 0
  | _ => false

def packetOk (q : Packet) : Bool :=
  let t := q.typ.toNat
  let len := q.len.toNat
  (t == 0 || q.vl.toNat == vlOf t) && (lenRange t).1 ≤ len && len ≤ (lenRange t).2 && !q.rsv47 && word1Ok t q.w1.toNat &&
    q.data.length == (if t = 3 then 0 else 64 * len)

/-- Packets arrive on a port that is UP or whose last flits drain. -/
def portHears (s : State) (p : Nat) : Bool := s.lstate p == lsUp || s.lstate p == lsStopping

/-- A response type. -/
def isAnswer (q : Packet) : Bool := q.typ == 4 || q.typ == 5 || q.typ == 0x0A

/-- Send a packet on: ordered packets to an ID whose route changes wait (R385). -/
def passOn (s : State) (p : Nat) (q : Packet) : State :=
  if s.routeChange.any (fun h => h.1 == q.dst.toNat) && q.vl == 0 then { s with routeHold := s.routeHold ++ [q] }
  else
    match s.egressOf q with
    | some e => s.enqueue e q
    | none => deny s p q F.LNK_PKT_COUNTS_NO_ROUTE rsNoRoute

/-- A packet for another device, or for a host context of this master (R384, R386). A master times the requests of its
hosts: at most 4,096 await an answer, and an answer that nobody awaits is discarded (R381). -/
def forward (s : State) (p : Nat) (fromHost : Bool) (q : Packet) : State :=
  if 8 ≤ q.hops.toNat then deny s p q F.LNK_PKT_COUNTS_HOP_LIMIT rsHop
  else if fromHost && wantsAnswer q then
    if 4096 ≤ s.requests.length then { s with reqWait := s.reqWait ++ [q] }
    else
      match s.egressOf q with
      | some e => passOn { s with requests := s.requests ++ [⟨q.tag.toNat, q.typ.toNat, q.hctx.toNat, e⟩] } p q
      | none => passOn s p q
  else if q.host && s.isMaster && q.dst.toNat == s.ownId && isAnswer q then
    if s.requests.any fun r => r.tag == q.tag.toNat && r.hctx == q.hctx.toNat then
      passOn { s with requests := s.requests.eraseP fun r => r.tag == q.tag.toNat && r.hctx == q.hctx.toNat } p q
    else s
  else passOn s p q

/-- A request that waited takes a free place. -/
def nextRequest (s : State) : State :=
  match s.reqWait with
  | q :: rest => if s.requests.length < 4096 then forward { s with reqWait := rest } (s.countPort q 0) true q else s
  | [] => s

/-- The fence tag that a packet names at a port (R382). -/
def sameTag (p : Nat) (q : Packet) (t : OpenTag) : Bool :=
  t.port == p && t.src == q.src.toNat && t.host == q.host && (!q.host || t.hctx == q.hctx.toNat) && t.tag == q.tag.toNat

def freshTag (p : Nat) (q : Packet) : OpenTag :=
  ⟨p, q.src.toNat, q.host, if q.host then q.hctx.toNat else 0, q.tag.toNat, 0, false, false⟩

def tagIn (s : State) (p : Nat) (q : Packet) : OpenTag := (s.openTags.find? (sameTag p q)).getD (freshTag p q)

/-- The packet is for this device itself. -/
def isHere (s : State) (p : Nat) (q : Packet) : Bool :=
  q.dst.toNat == s.ownId && !(q.host && s.isMaster && s.fget F.LNK_STATUS_ROLE p != roleHost)

/-- A port at its limit of sets takes no further one, and at its limit of open tags no write under a new one (R332). -/
def overLimit (s : State) (p : Nat) (q : Packet) : Bool :=
  isHere s p q &&
    ((q.typ == 0x18 && decide (64 ≤ s.heldSets.countP fun h => h.1 == p)) ||
     (q.typ == 0x01 && q.fenced && !s.openTags.any (fun t => sameTag p q t && !t.closed) &&
       decide (1024 ≤ s.openTags.countP fun t => t.port == p && !t.closed)))

/-- The flits of a packet leave the receive buffer of its lane. -/
def freeFlits (s : State) (p : Nat) (q : Packet) : State :=
  s.setPort p { s.port p with owed := assocPut (s.port p).owed q.vl.toNat (assocGet (s.port p).owed q.vl.toNat + flitsOf q) }

/-- A DISCOVER that its group's master sends past this member (R389). -/
def discPast (s : State) (p : Nat) (q : Packet) : Bool :=
  q.typ == 0x20 && s.idValid && !s.isMaster && q.src.toNat / 32 == s.ownId / 32 && q.dst.toNat != s.ownId &&
    (match s.routeEntry q.dst.toNat with | some e => e != p | none => false)

/-- The DISCOVER_RSP of a master or of a device of another group makes the link a CASCADE at this end too (R389). -/
def cascadeRsp (s : State) (q : Packet) : Bool :=
  let id := bits q.w1.toNat 7 12
  q.typ == 0x21 && !(bitOf q.w1.toNat 6 && id == s.masterId) &&
    (bitOf q.w1.toNat 5 || (bitOf q.w1.toNat 6 && id / 32 != s.ownId / 32))

def makeCascade (s : State) (p : Nat) : State := s.fset F.LNK_STATUS_ROLE p roleCascade

/-- An ordered packet must wait in its receive buffer: one before it waits, or a limit of R332 holds it. -/
def mustWait (s : State) (p : Nat) (q : Packet) : Bool :=
  q.vl == 0 && q.typ != 0 && (!(s.port p).rxWait.isEmpty || overLimit s p q)

/-- A packet leaves its receive buffer: to `here` when it is for this device, else on. -/
def deliver (s : State) (p : Nat) (q : Packet) (here : State → Packet → State) : State :=
  let s := freeFlits s p q
  if q.typ == 0 then s
  else if (q.typ == 0x20 && !discPast s p q) || (q.typ == 0x22 && !s.idValid) || isHere s p q then here s q
  else nextRequest (forward (if cascadeRsp s q then makeCascade s p else s) p
    (s.isMaster && s.fget F.LNK_STATUS_ROLE p == roleHost) q)

/-- A packet arrives: checks, identity, host overwriting, then `here` when it is for this device (R379, R384 to R388). -/
def arrive (s : State) (p : Nat) (q : Packet) (here : State → Packet → State) : State :=
  if !portHears s p then s
  else
    if !packetOk q then badPacket (freeFlits s p q) p
    else if s.bootHalted && !(q.typ == 9 && decide (q.w1.toNat % 2 ^ 29 < 0x01000000)) then freeFlits s p q
    else if !s.idValid && q.typ != 0x20 && q.typ != 0x22 then badPacket (freeFlits s p q) p
    else
      let fromHost := s.isMaster && s.fget F.LNK_STATUS_ROLE p == roleHost
      let q := if fromHost then
          { q with src := BitVec.ofNat 12 s.ownId, hctx := BitVec.ofNat 3 (s.fget F.LNK_CONFIG_HCTX p), host := true }
        else { q with hops := BitVec.ofNat 4 (min 15 (q.hops.toNat + 1)) }
      if mustWait s p q then s.setPort p { s.port p with rxWait := (s.port p).rxWait ++ [q] }
      else deliver s p q here

/-! Writes and reads (R292, R330, R332, R380). -/

/-- The place that word 1 names. -/
def wordPlace (w1 : Nat) : Place :=
  if bits w1 62 2 = 0 then .phys (w1 % 2 ^ 39) else .tensor (bits w1 40 20) (w1 % 2 ^ 40)

/-- A gradient tile on the link: its data joins the window through the contribution's own arrival (log entry 159). -/
def tileWrite (s : State) (h off : Nat) : Bool :=
  decide (2 ^ 39 ≤ off) && (dKind ((s.desc h).getD []) == kWindow || dKind ((s.desc h).getD []) == kParam)

/-- A fenced write has landed or failed; the first one after a tag was closed opens it anew (R332). -/
def fenceCount (s : State) (p : Nat) (q : Packet) (st : Nat) : State :=
  if !q.fenced then s
  else
    let t := tagIn s p q
    let t := if t.closed then freshTag p q else t
    let t := if st = rsOk then { t with count := t.count + q.len.toNat } else { t with failed := true }
    { s with openTags := s.openTags.filter (fun x => !sameTag p q x) ++ [t] }

def writeHere (p : Nat) (s : State) (q : Packet) : State :=
  let (s, st) := match wordPlace q.w1.toNat with
    | .phys a => s.physWrite a q.data
    | .tensor h off => if tileWrite s h off then (s, rsOk) else s.tensorWrite h off q.data
  let s := fenceCount s p q st
  if q.rsp then answer s q st else if st = rsOk then s else badPacket s p

def readHere (s : State) (q : Packet) : State :=
  let n := 64 * q.len.toNat
  let (s, st, bs) := match wordPlace q.w1.toNat with
    | .phys a => s.physRead a n
    | .tensor h off => s.tensorRead h off n
  respond s q 4 st bs

def execWriteBulk (port : Fin 16) (pkt : Packet) (s : State) : Out :=
  done (arrive s port { pkt with typ := 0x02 } (writeHere port))
def execRead (port : Fin 16) (pkt : Packet) (s : State) : Out :=
  done (arrive s port { pkt with typ := 0x03 } readHere)

/-! Marker sets (R332 to R334). -/

/-- Sets of one sender at one port. -/
def sameSender (a b : Nat × Packet) : Bool :=
  a.1 == b.1 && a.2.src == b.2.src && a.2.host == b.2.host && (!a.2.host || a.2.hctx == b.2.hctx)

/-- A held set may go: its tag has failed, or its count is reached. -/
def setReady (s : State) (h : Nat × Packet) : Bool :=
  let t := tagIn s h.1 h.2
  !h.2.fenced || t.failed || decide (h.2.w1.toNat / 2 ^ 32 ≤ t.count)

/-- Apply or drop a set and close its tag, whose count and failure stay for the other sets that share it (log entry 161). -/
def applySet (s : State) (h : Nat × Packet) : State :=
  let t := tagIn s h.1 h.2
  let id := setIdIn h.2
  let s := if h.2.fenced then { s with openTags := s.openTags.filter (fun x => !sameTag h.1 h.2 x) ++ [{ t with closed := true }] } else s
  if h.2.fenced && t.failed then fenceDrop s id
  else if id < 0x10000 && 60 ≤ id % 64 then (s.finc F.MK_REMOTE_COUNTS_RESERVED 0 1).raise 1490
  else if 0x11FFF < id then (s.finc F.MK_REMOTE_COUNTS_UNMAPPED 0 1).raise 1490
  else s.setId id

/-- Position of the first held set of a port that may go and has no earlier set of its sender before it. -/
def readyAt (s : State) (p : Nat) : Option Nat :=
  (List.range s.heldSets.length).find? fun i =>
    match s.heldSets[i]? with
    | some h => h.1 == p && setReady s h && !(s.heldSets.take i).any (sameSender h)
    | none => false

/-- Apply every set that may go. -/
def drainSets : Nat → State → Nat → State
  | 0, s, _ => s
  | n + 1, s, p =>
    match readyAt s p with
    | some i =>
      (match s.heldSets[i]? with
       | some h => drainSets n (applySet { s with heldSets := s.heldSets.eraseIdx i } h) p
       | none => s)
    | none => s

def markerHere (p : Nat) (s : State) (q : Packet) : State :=
  drainSets (s.heldSets.length + 1) { s with heldSets := s.heldSets ++ [(p, q)] } p

/-! Host pushes (R355, R383). -/

/-- An item of a host context that still lacks parts. -/
def isHostPush (hctx : Nat) (x : Push) : Bool :=
  match x.src with | .host _ _ h _ _ => h == hctx && !x.whole | _ => false

/-- Add a part to the item in progress. -/
def addPart (l : List Push) (hctx : Nat) (src : PushSrc) (last : Bool) (bs : List Byte) : List Push :=
  updWhere (isHostPush hctx) (fun x => { x with bytes := x.bytes ++ bs, whole := last, src := if last then src else x.src }) l

/-- A part of an item: part index, length and LAST as the item size gives them. -/
def partOk (s : State) (q ix : Nat) (last : Bool) (n : Nat) : Bool :=
  let size := qItem s q
  let parts := cdiv size 4096
  ix < parts && last == (ix + 1 == parts) && n == min 4096 (size - 4096 * ix)

def pushHere (p : Nat) (s : State) (k : Packet) : State :=
  let w1 := k.w1.toNat
  let q := w1 % 256
  let ix := bits w1 16 16
  let last := bitOf w1 32
  let hctx := k.hctx.toNat
  let src := PushSrc.host p k.src.toNat hctx k.tag.toNat k.rsp
  if s.qstate q == qsUnconf || !k.host || !permits s q .host then
    if k.rsp then answer s k rsAccess else badPacket s p
  else
    let s := if s.qstate q == qsRunning then s.checkQueue q else s
    let x := s.queue q
    let open_ := (x.acc ++ x.stalled).filter fun y => match y.src with | .host .. => !y.whole | _ => false
    if !partOk s q ix last k.data.length then badPacket s p
    else if ix = 0 then
      if !open_.isEmpty || x.granted = 0 then badPacket s p
      else
        let s := s.setQueue q { x with granted := x.granted - 1 }
        let s := grantCredits (pushArrive s q ⟨src, k.data, last⟩) q
        if !last && k.rsp then answer s k rsOk else s
    else
      match open_.find? (fun y => isHostPush hctx y && y.bytes.length == 4096 * ix) with
      | none => badPacket s p
      | some _ =>
        let s := s.setQueue q { x with acc := addPart x.acc hctx src last k.data, stalled := addPart x.stalled hctx src last k.data }
        if !last && k.rsp then answer s k rsOk else s

/-! Ordered packets that wait in a receive buffer (R332). -/

/-- What this device does with an ordered packet for itself. -/
def orderedHere (p : Nat) (s : State) (q : Packet) : State :=
  match q.typ.toNat with
  | 0x01 => writeHere p s q
  | 0x10 => pushHere p s q
  | _ => markerHere p s q

/-- Waiting packets go on, first first, until one must wait on. -/
def resume : Nat → State → Nat → State
  | 0, s, _ => s
  | n + 1, s, p =>
    match (s.port p).rxWait with
    | [] => s
    | q :: rest =>
      if overLimit s p q then s
      else resume n (deliver (s.setPort p { s.port p with rxWait := rest }) p q (orderedHere p)) p

/-- The same, for as many as wait; then what the port may send. -/
def resumeAll (s : State) (p : Nat) : State := if (s.port p).rxWait.isEmpty then s else (resume (s.port p).rxWait.length s p).pump p

def execWrite (port : Fin 16) (pkt : Packet) (s : State) : Out :=
  done (resumeAll (arrive s port { pkt with typ := 0x01 } (writeHere port)) port)

def execMarkerSetPacket (port : Fin 16) (pkt : Packet) (s : State) : Out :=
  done (resumeAll (arrive s port { pkt with typ := 0x18 } (markerHere port)) port)

def execFenceSetApply (port : Fin 16) (s : State) : Out := done (resumeAll (drainSets s.heldSets.length s port) port)

def execQueuePush (port : Fin 16) (pkt : Packet) (s : State) : Out :=
  done (resumeAll (arrive s port { pkt with typ := 0x10 } (pushHere port)) port)

/-- RETRAINING goes back to UP: what is not acknowledged goes out again, then the rest (R371, R375). -/
def execRetrainDone (port : Fin 16) (s : State) : Out :=
  if s.lstate port != lsRetraining then done s
  else
    let s := (((s.fset F.LNK_STATUS_STATE port lsUp).raise (1441 + port)).setPort port
      { s.port port with resends := 0, nakOwed := false, nakSent := false }).pump port
    done (resumeAll (s.setPort port (resend (s.port port))) port)

/-! Forwarding, timeouts, routes. -/

def execPacketForward (port : Fin 16) (pkt : Packet) (s : State) : Out := done (arrive s port pkt fun s _ => s)

/-- The attention summary of a device travels to its host context (R396). -/
def execAttn (port : Fin 16) (pkt : Packet) (s : State) : Out :=
  done (arrive s port { pkt with typ := 0x23 } fun s _ => s)

/-- Ordered packets to an ID that a port has not seen acknowledged. -/
def orderedLeft (s : State) (id p : Nat) : Bool :=
  (s.port p).retry.any (fun e => e.2.1 == id + 1) || (s.port p).egress.any fun q => q.vl == 0 && q.dst.toNat == id

/-- Route changes whose old packets are all acknowledged let their held packets go (R385). -/
def releaseRoutes (s : State) : State :=
  let fin := s.routeChange.filter fun c => !orderedLeft s c.1 c.2
  if fin.isEmpty then s
  else
    let ids := fin.map (·.1)
    let go := s.routeHold.filter fun q => ids.contains q.dst.toNat
    let s := { s with
      routeChange := s.routeChange.filter fun c => !ids.contains c.1
      routeHold := s.routeHold.filter fun q => !ids.contains q.dst.toNat }
    go.foldl (fun s q => passOn s (s.countPort q 0) q) s

/-- Give an ID a route: a port and a valid bit. -/
def setRoute (s : State) (id : Nat) (e : Nat × Bool) : State :=
  let old := s.routeEntry id
  let s := { s with routes := spSet (routeDefault s) s.routes id e }
  match old with
  | some p =>
    if old ≠ s.routeEntry id && orderedLeft s id p then { s with routeChange := s.routeChange ++ [(id, p)] } else s
  | none => s

def routeData (s : State) (w : Word) : State := setRoute s (s.fget F.LNK_ROUTE_SEL_ID 0) (bits w.toNat 0 4, bitOf w.toNat 4)

def execRouteWrite (a : Agent) (w : Word) (s : State) : Out := done (s.access a 0x00040018 fun s => routeData s w)

/-! Discovery (R388 to R390). The manual gives the packets of a visit and what the master does about each device found, not how
it reaches a port of a member: the model asks for the port's status, and opens a route past the member for a free ID of the
group (DESIGN CHOICE, log entry 162). -/

/-- A CTRL_WRITE and a CTRL_READ of this device. -/
def ctrlWriteTo (s : State) (dst off : Nat) (w : Nat) : State :=
  s.sendPkt (mkPacket s 0x08 dst 0 (off + w % 2 ^ 32 * 2 ^ 29 + 2 ^ 63) [])
def ctrlReadTo (s : State) (dst off : Nat) : State := s.sendPkt (mkPacket s 0x09 dst 0 (off + 2 ^ 63) [])

/-- Give an ID a route in a member's table, or in this device's own. -/
def routeAt (s : State) (dev id : Nat) (e : Nat × Bool) : State :=
  if dev = s.ownId then setRoute s id e
  else ctrlWriteTo (ctrlWriteTo s dev 0x00040014 id) dev 0x00040018 (e.1 + 16 * b2n e.2)

/-- The link by which discovery found a device, and the links of the path to it from this master, the last first. -/
def foundBy (s : State) (d : Nat) : Option (Nat × Nat × Nat) := s.discLinks.find? fun e => e.2.2 == d
def pathTo (s : State) : Nat → Nat → List (Nat × Nat)
  | 0, _ => []
  | n + 1, d =>
    if d = s.ownId then []
    else match foundBy s d with | some e => (e.1, e.2.1) :: pathTo s n e.1 | none => []

/-- A slot is taken. -/
def slotTaken (s : State) (k : Nat) : Bool := bitOf (s.rd .LNK_DISC_MEMBERS 0).toNat k

/-- The ID under which a member passes a DISCOVER on: the lowest free one of the group. -/
def probeId (s : State) : Nat := s.masterId + ((List.range 31).find? fun k => !slotTaken s (k + 1)).getD 30 + 1

/-- Devices within n links of x. -/
def hopsTo (es : List (Nat × Nat × Nat)) (x : Nat) : Nat → List Nat
  | 0 => [x]
  | n + 1 => let l := hopsTo es x n; es.foldl (fun a e => if l.contains e.2.2 then addTo a e.1 else a) l

/-- Egress port of m toward x on a shortest path, the lowest of several (R385). -/
def nextPort (es : List (Nat × Nat × Nat)) (m x : Nat) : Option Nat :=
  (List.range 32).findSome? fun n =>
    let l := hopsTo es x n
    ((es.filter fun e => e.1 == m && l.contains e.2.2).map (·.2.1)).foldl (fun b p => match b with
      | some q => some (min q p) | none => some p) none

/-- Discovery ends: every device of the group has the shortest routes to the others. -/
def finishDisc (s : State) : State :=
  let ids := s.ownId :: (List.range 31).filterMap fun k => if slotTaken s (k + 1) then some (s.masterId + k + 1) else none
  let s := ids.foldl (fun s m => ids.foldl (fun s x =>
    if m = x then s
    else match nextPort s.discLinks m x with | some p => routeAt s m x (p, true) | none => s) s) s
  s.fset F.LNK_DISC_STATUS_STATE 0 2

/-- Visit the next link, or end. A port of this device is asked at once, a member's after its status. -/
def discNext (s : State) : State :=
  match s.discTodo with
  | [] => finishDisc s
  | (d, p) :: _ =>
    if d = s.ownId then { s with discAsked := false }.enqueue p (mkPacket s 0x20 0 0 0 [])
    else
      let port := (s.routeEntry d).getD 0
      ctrlReadTo { s with discAsked := true, requests := s.requests ++ [⟨0, 9, 8, port⟩] } d (lnkOff p + 4)

/-- The visit of the first link ends. -/
def discSkip (s : State) : State := discNext { s with discTodo := s.discTodo.drop 1, discAsked := false }

/-- The status of a member's port has come: an UP PEER port is visited, another is not. -/
def discStatus (s : State) (d p : Nat) (st w : Nat) : State :=
  if st = rsOk && bits w 0 3 = lsUp && bits w 7 2 = rolePeer then
    let id := probeId s
    let s := routeAt { s with discAsked := false } d id (p, true)
    match s.routeEntry d with
    | some e => s.enqueue e (mkPacket s 0x20 id 0 0 [])
    | none => discSkip s
  else discSkip s

/-- An answer for this device itself: that of discovery's own request, or one that nobody awaits (R381). -/
def answerHere (s : State) (q : Packet) : State :=
  match s.discTodo.head? with
  | some (d, p) =>
    if q.typ == 0x0A && s.discAsked && q.src.toNat == d && !q.host then
      discStatus { s with requests := s.requests.eraseP fun r => r.hctx == 8 } d p (bits q.w1.toNat 0 8) (bits q.w1.toNat 32 32)
    else s
  | none => s

def execReadData (port : Fin 16) (pkt : Packet) (s : State) : Out :=
  done (arrive s port { pkt with typ := 0x04 } answerHere)
def execCompletion (port : Fin 16) (pkt : Packet) (s : State) : Out :=
  done (arrive s port { pkt with typ := 0x05 } answerHere)
def execCtrlData (port : Fin 16) (pkt : Packet) (s : State) : Out :=
  done (arrive s port { pkt with typ := 0x0A } answerHere)

/-- LNK_RSP_TIMEOUT passes: the request completes with TIMEOUT for its host context (R381), or the visit ends whose request this
device made. -/
def execResponseTimeout (tag : BitVec 12) (s : State) : Out :=
  match s.requests.find? fun r => r.tag == tag.toNat with
  | none => done s
  | some r =>
    let s := { s with requests := s.requests.eraseP fun r => r.tag == tag.toNat }.finc F.LNK_PKT_COUNTS_TIMEOUT r.port 1
    let s := if r.hctx = 8 then discSkip s
      else s.sendPkt { mkPacket s (answerType r.typ) s.ownId r.tag rsTimeout [] with host := true, hctx := BitVec.ofNat 3 r.hctx }
    done (nextRequest s)

/-- A write to LNK_DISC_CTRL (log entry 22: the port that an ignored START counts on). -/
def discCtrl (s : State) (a : Agent) (w : Word) : State :=
  if !bitOf w.toNat 0 then s
  else if !s.isMaster || s.fget F.LNK_DISC_STATUS_STATE 0 = 1 then
    s.finc F.LNK_LINK_COUNTS_BAD_CMD (match a with | .link p _ _ _ => p.val | _ => 0) 1
  else
    let s := (s.fset F.LNK_DISC_STATUS_STATE 0 1).fset F.LNK_DISC_STATUS_MEMBERS 0
      (popCount 32 (s.rd .LNK_DISC_MEMBERS 0).toNat)
    let ps := (List.range 16).filter fun p => s.lstate p == lsUp && s.fget F.LNK_STATUS_ROLE p == rolePeer
    discNext { s with discStarted := true, discLinks := [], discTodo := ps.map fun p => (s.ownId, p) }

def execDiscoveryStart (a : Agent) (w : Word) (s : State) : Out :=
  done (s.access a 0x00040008 fun s => discCtrl s a (w ||| 1))

/-- This device's answer to DISCOVER and to a late ASSIGN_ID, on the port that asked. -/
def tellId (s : State) (p : Nat) (q : Packet) : State :=
  s.enqueue p (mkPacket s 0x21 q.src.toNat q.tag.toNat
    (s.fget F.LNK_FABRIC_SLOT_ID 0 + b2n s.isMaster * 2 ^ 5 + b2n s.idValid * 2 ^ 6 + s.ownId * 2 ^ 7) [])

/-- A DISCOVER of another group makes the link a CASCADE at this end (R389); one that has come back to its own master does not. -/
def discoverHere (p : Nat) (s : State) (q : Packet) : State :=
  let s := if (s.isMaster && q.src.toNat != s.ownId) || (s.idValid && s.ownId / 32 != q.src.toNat / 32) then makeCascade s p else s
  tellId s p q

/-- The word that tells a member that a port of its is FAILED with cause DUP_SLOT. -/
def dupWord : Nat := lsFailed + 4 * 2 ^ 17

/-- A device at a link of device d, port p, may not have its SLOT: that port goes to FAILED. -/
def dupSlot (s : State) (d p : Nat) : State :=
  let s := s.fset F.LNK_DISC_STATUS_CONFLICT 0 1
  if d = s.ownId then enterFailed s p 4 else ctrlWriteTo s d (lnkOff p + 4) dupWord

/-- A new device gets its ID; the devices on the path route to it, and its links will be visited. -/
def discAssign (s : State) (d p slot : Nat) : State :=
  let id := s.masterId + slot
  let s := (s.setBit .LNK_DISC_MEMBERS 0 slot).fset F.LNK_DISC_STATUS_MEMBERS 0 (s.fget F.LNK_DISC_STATUS_MEMBERS 0 + 1)
  let s := { s with
    discLinks := s.discLinks ++ [(d, p, id)], discTodo := s.discTodo ++ (List.range 16).map fun k => (id, k) }
  let s := (pathTo s 32 id).foldl (fun s e => routeAt s e.1 id (e.2, true)) s
  match s.routeEntry id with
  | some e => s.enqueue e (mkPacket s 0x22 id 0 id [])
  | none => s

/-- The answer to the DISCOVER of the visit in progress, on port q of this device. -/
def discoverRspHere (q : Nat) (s : State) (k : Packet) : State :=
  match s.discTodo.head? with
  | none => s
  | some (d, p) =>
    if !s.isMaster || s.fget F.LNK_DISC_STATUS_STATE 0 != 1 || s.discAsked || (d == s.ownId && p != q) then s
    else
      let w1 := k.w1.toNat
      let slot := w1 % 32
      let probe := probeId s
      let s :=
        if cascadeRsp s k then (if d = s.ownId then makeCascade s p else s)
        else if bitOf w1 6 then { s with discLinks := s.discLinks ++ [(d, p, bits w1 7 12)] }
        else if slot = 0 || slotTaken s slot then dupSlot s d p
        else discAssign s d p slot
      let s := if d = s.ownId || slotTaken s (probe % 32) then s else routeAt s d probe (0, false)
      discSkip s

/-- The first ASSIGN_ID gives a member its ID; it routes to its master by the port it came on. -/
def assignHere (p : Nat) (s : State) (q : Packet) : State :=
  if s.isMaster || s.idValid then tellId s p q
  else
    let id := q.w1.toNat % 4096
    let s := ((s.fset F.LNK_FABRIC_DEVICE_ID 0 id).fset F.LNK_FABRIC_ID_VALID 0 1).fset F.LNK_GROUP_GROUP 0 (id / 32)
    let s := { s with uplink := some p }
    { s with routes := spSet (routeDefault s) s.routes s.masterId (p, true) }

def execDiscover (port : Fin 16) (pkt : Packet) (s : State) : Out :=
  done (arrive s port { pkt with typ := 0x20 } (discoverHere port))
def execDiscoverRsp (port : Fin 16) (pkt : Packet) (s : State) : Out :=
  done (arrive s port { pkt with typ := 0x21 } (discoverRspHere port))
def execAssignId (port : Fin 16) (pkt : Packet) (s : State) : Out :=
  done (arrive s port { pkt with typ := 0x22 } (assignHere port))

end Sys2Proof.Machine
end

