-- ==== Sys2Proof/Machine/Attention.lean ====
section
/-! DEFINITION. Interrupts and attention: release of ATTN_N, attention messages, the claim controller, and the vectors of
a core with their handlers (R392 to R410). -/
namespace Sys2Proof.Machine
open Sys2Proof

/-! The pin and the messages. -/

/-- ATTN_N rises when its condition has been false for 200 ns (R392). -/
def execAttnRelease (s : State) : Out :=
  if attnActive s != 0 then done s else done { s with pins := { s.pins with attnLow := false } }

/-- Values that a message carries: ATTN_SUMMARY without the masked groups, and HOSTPEND (R396). -/
def attnValues (s : State) : Nat × Nat := (attnActive s, hostPend s)

/-- Send the present values to every enabled host context. -/
def sendAttn (s : State) : State :=
  let v := attnValues s
  let cs := (List.range 8).filter fun c => bitOf (s.fget F.ATTN_MSG_CTRL_EN 0) c
  let s := cs.foldl (fun s c =>
    s.sendPkt { mkPacket s 0x23 s.masterId 0 (v.1 + v.2 * 2 ^ 32) [] with host := true, hctx := BitVec.ofNat 3 c }) s
  if cs.isEmpty then s else { s with attnSent := v }

/-- A value has changed since the last message and the hold-off has passed. -/
def execAttnMessage (s : State) : Out :=
  if s.idValid && attnValues s != s.attnSent then done (sendAttn s) else done s

/-- ATTN_MSG_PERIOD: a message with a value that is not zero is repeated. -/
def execAttnMessageRepeat (s : State) : Out :=
  if s.idValid && attnValues s != (0, 0) then done (sendAttn s) else done s

/-! Claims (R399 to R401). -/

def clmOff (t : Nat) : Nat := 0x01020000 + t * 0x100

/-- A read of CLM_CLAIM: the winner, claimed in the same operation. -/
def claimRead (s : State) (t : Nat) : State × Word :=
  let n := claimWinner s t
  if n = 0 then (s, 0)
  else
    (((s.fset F.CLM_SRC_PENDING n 0).fset F.CLM_SRC_ACTIVE n 1).fset F.CLM_SRC_CLAIMED_BY n t, BitVec.ofNat 32 n)

/-- A write of CLM_COMPLETE: only an active source that this target claimed completes. -/
def completeSrc (s : State) (t n : Nat) : State :=
  if n ≠ 0 && n < 2048 && srcActive s n && s.fget F.CLM_SRC_CLAIMED_BY n == t then s.fset F.CLM_SRC_ACTIVE n 0
  else s.finc F.CLM_BAD_COMPLETE_COUNT 0 1

/-- Sources that a target has claimed. -/
def claimedBy (s : State) (t : Nat) : List Nat :=
  (s.listed .CLM_SRC).filter fun n => srcActive s n && s.fget F.CLM_SRC_CLAIMED_BY n == t

/-- RELEASE_ALL: every active source of the target is PENDING again. -/
def releaseSrcs (s : State) (t : Nat) : State :=
  (claimedBy s t).foldl (fun s n => (s.fset F.CLM_SRC_ACTIVE n 0).fset F.CLM_SRC_PENDING n 1) s

def clmCtrl (s : State) (t : Nat) (w : Word) : State := if bitOf w.toNat 0 then releaseSrcs s t else s

def execClmClaim (a : Agent) (t : Fin 14) (s : State) : Out :=
  done (s.readInto a (clmOff t + 4) fun s => claimRead s t)

def execClmComplete (a : Agent) (t : Fin 14) (w : Word) (s : State) : Out :=
  done (s.access a (clmOff t + 8) fun s => completeSrc s t w.toNat)

def execReleaseAll (a : Agent) (t : Fin 14) (w : Word) (s : State) : Out :=
  done (s.access a (clmOff t + 0xC) fun s => clmCtrl s t (w ||| 1))

/-! Vectors (R403 to R408). -/

/-- A write of VEC_SOFT raises vectors 16 to 31; they have no event register and no claim source. -/
def softRaise (s : State) (c : Nat) (w : Word) : State :=
  (List.range 16).foldl (fun s i => if bitOf w.toNat (16 + i) then s.raiseVec c (16 + i) else s) s

def execVecSoft (a : Agent) (c : Fin 1056) (w : Word) (s : State) : Out :=
  done (s.access a (coreOff c + 0x610C) fun s => softRaise s c w)

def vecPrio (s : State) (c v : Nat) : Nat := bits (s.rd .VEC_PRIO (c * 4 + v / 8)).toNat (4 * (v % 8)) 3

/-- The pending enabled vector of highest priority, the lowest of equal ones. -/
def nextVector (s : State) (c : Nat) : Option Nat :=
  let on := (List.range 32).filter fun v => vecPending s c v && bitOf (s.rd .VEC_EN c).toNat v
  on.foldl (fun best v =>
    match best with
    | none => some v
    | some b => if vecPrio s c b < vecPrio s c v then some v else some b) none

/-- The fence tags that an entry's remote sets need are free (R331). -/
def tagsFree (s : State) (m : List Byte) : Bool := (freeTags s (remoteDevs m).length).length == (remoteDevs m).length

def badHandler (s : State) (c : Nat) : State := (s.fincw F.VEC_COUNTS_BAD_HANDLER c 1).wr .VEC_STATUS c 0

/-- Run the handler entry of the vector just taken (R406). -/
def runHandler (s : State) (p c : Nat) : State :=
  let m := handlerEntry s p c
  let op := miOpcode m
  let plain := miStream m == 0 && miScope m && !(List.range 4).any fun k => waitValid (miWait m k)
  if op = 0 then s.wr .VEC_STATUS c 0
  else if !plain then badHandler s c
  else if op = 0x30 then
    if rejectCause opMarker s p c .F m = 0 then handlerEnd (clearMask s c (miOpx m 0 8)) p c else badHandler s c
  else if op = 0x38 && isPush m then
    if rejectCause (opRead true) s p c .F m ≠ 0 then badHandler s c
    else
      let q := miOpx m 0 1
      let h := hHandle (miSrc m 0)
      let n := opN m
      let s := if s.qstate q == qsRunning then s.checkQueue q else s
      match badIn s h 0 (n * qItem s q) with
      | some k => (uncorrCore s c k none).wr .VEC_STATUS c 0
      | none => pushItems s (fun _ => .handler c) h n q
  else badHandler s c

/-- H has taken a vector and its handler has not begun: a handler that has begun and not ended has a push that has not landed. -/
def handlerDue (s : State) (c : Nat) : Bool :=
  s.fbit F.VEC_STATUS_ACTIVE_VALID c && s.queues.all fun e => noPushes e.2 fun y => y == .handler c

/-- The handler takes the fence tags of its remote sets and runs; while the pool has too few it waits in H (R331, R406). -/
def startHandler (s : State) (p c : Nat) : State :=
  let m := handlerEntry s p c
  if !tagsFree s m then s
  else
    let ts := freeTags s (remoteDevs m).length
    let s := if ts.isEmpty then s else
      ({ s with fenceUsed := s.fenceUsed ++ ts.map (·, p) }).setCore c { s.core c with hTags := ts }
    let t := runHandler s p c
    if t.fbit F.VEC_STATUS_ACTIVE_VALID c then t else t.dropHandlers [c]

/-- H takes a vector when it is free, on a core of a panel, which wakes for it (R405, R407, R498); a handler that waits for tags
goes on. -/
def execHandlerDispatch (c : Fin 1056) (s : State) : Out :=
  match s.ownerOf c with
  | none => done s
  | some p =>
    if s.fbit F.VEC_STATUS_ACTIVE_VALID c then (if handlerDue s c then done (startHandler s p c) else done s)
    else
      match nextVector s c with
      | none => done s
      | some v =>
        let s := s.wake c
        let s := s.wr .VEC_PEND c (BitVec.ofNat 32 (putBits (s.rd .VEC_PEND c).toNat v 1 0))
        let s := ((s.fset F.VEC_STATUS_ACTIVE c v).fset F.VEC_STATUS_ACTIVE_VALID c 1).fincw F.VEC_COUNTS_DELIVERED c 1
        done (startHandler s p c)

end Sys2Proof.Machine
end

