-- ==== Sys2Proof/Machine/Loads.lean ====
section
/-! DEFINITION. Pattern loads: the header, directory and content checks, the steps of a load, and what an accepted pattern
changes; and the measurement log that it extends (R44 to R54, R63, R65, R303, R364, R387, R475). -/
namespace Sys2Proof.Machine
open Sys2Proof

/-! Measurement (R475). -/

/-- M, 32 bytes. -/
def measBytes (s : State) : List Byte := (List.range 8).flatMap fun i => leBytes 4 (s.rd .SEC_MEAS i).toNat

/-- An entry of the log. -/
def measEntry (s : State) (typ index count : Nat) (digest : List Byte) : List Byte :=
  leBytes 2 typ ++ leBytes 2 index ++ leBytes 4 count ++ leBytes 8 (s.icnt 0) ++ List.replicate 16 0 ++ sliceB digest 0 32

/-- Same TYPE, INDEX and DIGEST. -/
def sameEvent (typ index : Nat) (digest e : List Byte) : Bool :=
  leAt e 0 2 == typ && leAt e 2 2 == index && sliceB e 32 32 == sliceB digest 0 32

def setMeas (s : State) (m : List Byte) : State :=
  (List.range 8).foldl (fun s i => s.wr .SEC_MEAS i (BitVec.ofNat 32 (leAt m (4 * i) 4))) s

/-- Add an event to the log: the first of its kind extends M; past 4,096 entries it is not kept. -/
def State.measure (s : State) (typ index : Nat) (digest : List Byte) : State :=
  if s.sec.log.any (sameEvent typ index digest) then
    let bump := fun (e : List Byte) => sliceB e 0 4 ++ leBytes 4 (leAt e 4 4 + 1) ++ sliceB e 8 56
    { s with sec := { s.sec with log := updWhere (sameEvent typ index digest) bump s.sec.log } }
  else
    let e0 := measEntry s typ index 0 digest
    let s := setMeas s (sha256 (measBytes s ++ e0))
    if s.sec.log.length < 4096 then
      { s with sec := { s.sec with log := s.sec.log ++ [measEntry s typ index 1 digest] } }
    else (s.finc F.SEC_LOG_COUNT_OVERFLOW 0 1).fset F.SEC_STATUS_LOG_OVERFLOW 0 1

/-! The staged bytes. -/

def patBytes (s : State) (off n : Nat) : List Byte := s.dramRead (s.load.addr + off) n
def patWord (s : State) (off n : Nat) : Nat := leNat (patBytes s off n)

/-- Bytes of the trailer. -/
def trailerLen (s : State) : Nat := if bitOf (patWord s 6 2) 1 then 16256 else 32

/-- Check 2 of R48. -/
def headerOk (s : State) : Bool :=
  let flags := patWord s 6 2
  64 ≤ s.load.len && patWord s 0 4 == 0x54415057 && patWord s 4 2 == 1 && decide (flags < 4) && bitOf flags 0 == s.load.isPart &&
  patWord s 8 4 == s.load.len && (if s.load.isPart then decide (patWord s 16 1 < 64) else patWord s 16 1 == 0xFF) &&
  patWord s 17 1 == 0 && patWord s 24 4 == 0x7100 && (patBytes s 28 36).all (· == 0)

/-- Check 3: a bad block of the buffer fails it too (R445). -/
def digestOk (s : State) : Bool :=
  let t := trailerLen s
  decide (64 + t ≤ s.load.len) && (badAmong s.badPhys s.load.addr s.load.len).isEmpty &&
    sha256 (patBytes s 0 (s.load.len - t)) == patBytes s (s.load.len - t) 32

/-- The digest in the trailer. -/
def patDigest (s : State) : List Byte := patBytes s (s.load.len - trailerLen s) 32

def signatureOk (s : State) (key : List Byte) : Bool :=
  Config.slhVerify key (patDigest s) (patBytes s (s.load.len - 16224) 16224)

/-! Check 6: directory and content. -/

/-- A directory entry: TYPE, PANEL, OFFSET, SIZE, and whether its reserved fields are 0. -/
def dirEntry (s : State) (i : Nat) : Nat × Nat × Nat × Nat × Bool :=
  let b := patBytes s (64 + 16 * i) 16
  (leAt b 0 2, leAt b 2 1, leAt b 4 4, leAt b 8 4, leAt b 3 1 == 0 && leAt b 12 4 == 0)

/-- Offset and size of a section in the staged pattern. -/
def sectionSpan (s : State) (typ pan : Nat) : Option (Nat × Nat) :=
  (((List.range (patWord s 18 2)).map (dirEntry s)).find? fun e => e.1 == typ && e.2.1 == pan).map fun e => (e.2.2.1, e.2.2.2.1)

def dirEntries (s : State) : List (Nat × Nat × Nat × Nat × Bool) := (List.range (patWord s 18 2)).map (dirEntry s)

/-- PANEL agrees with the Scope column (R46). -/
def scopeOk (typ pan : Nat) : Bool :=
  match typ with
  | 0x02 | 0x08 | 0x0B => pan == 0xFF
  | 0x07 => pan < 64 || pan == 0xFF
  | _ => pan < 64

/-- Sections that a content holds, as (TYPE, PANEL). -/
def sectionKeys (img : PatternImage) : List (Nat × Nat) :=
  let has := fun (t p : Nat) (b : Bool) => if b then [(t, p)] else []
  img.panels.flatMap (fun x =>
    has 1 x.panel x.entry.isSome ++ has 3 x.panel x.policy.isSome ++ has 4 x.panel x.markers.isSome ++
    has 5 x.panel x.descriptors.isSome ++ has 6 x.panel x.streams.isSome ++ has 7 x.panel x.queues.isSome ++
    has 9 x.panel x.residency.isSome ++ has 0xA x.panel x.seed.isSome ++ has 0xC x.panel x.seam.isSome) ++
  has 2 0xFF img.coreMap.isSome ++ has 8 0xFF img.links.isSome ++ has 0xB 0xFF img.feltRules.isSome ++
  has 7 0xFF img.devQueues.isSome

/-- The staged CORE_MAP section spells this map: 1,024 entries of 2 bytes (R46). -/
def mapSpelt (s : State) (m : List Nat) : Bool :=
  match sectionSpan s 2 0xFF with
  | some (off, size) => size == 2048 && patBytes s off 2048 == m.flatMap (leBytes 2)
  | none => false

/-- The staged DESCRIPTORS section of a panel spells these descriptors: 128 bytes each, by handle, and 0 for a handle without
one (R46; log entry 10). -/
def descsSpelt (s : State) (p : Nat) (ds : List (Nat × List Byte)) : Bool :=
  match sectionSpan s 5 p with
  | some (off, size) =>
    size % 128 == 0 && ds.all (fun d => decide (128 * d.1 < size)) &&
      (List.range (size / 128)).all fun i =>
        patBytes s (off + 128 * i) 128 == ((ds.find? (·.1 == i)).map (·.2)).getD (List.replicate 128 0)
  | none => false

/-- The content is what the staged bytes spell, for the sections whose layout the manual gives. -/
def contentSpelt (s : State) (img : PatternImage) : Bool :=
  (match img.coreMap with | some m => mapSpelt s m | none => true) &&
    img.panels.all fun x => match x.descriptors with | some ds => descsSpelt s x.panel ds | none => true

def distinct [DecidableEq α] : List α → Bool
  | [] => true
  | x :: xs => !xs.contains x && distinct xs

/-- R46 and R47 on the staged directory, and the content spells the same sections (log entry 10). A partial pattern without a
PANELS section for a panel that has none in force fails here, before the check of its state: DESIGN CHOICE (log entry 169). -/
def directoryOk (s : State) (img : PatternImage) : Bool :=
  let es := dirEntries s
  let n := es.length
  let keys := es.map fun e => (e.1, e.2.1)
  let top := s.load.len - trailerLen s
  1 ≤ n && n ≤ 1024 && s.load.len % 64 == 0 && decide (64 + 16 * n ≤ top) &&
  es.all (fun e => e.2.2.2.2 && 1 ≤ e.1 && e.1 ≤ 0xC && scopeOk e.1 e.2.1 && e.2.2.1 % 64 == 0 &&
    decide (64 + 16 * n ≤ e.2.2.1) && decide (e.2.2.1 + e.2.2.2.1 ≤ top)) &&
  (List.range n).all (fun i => (List.range n).all fun j =>
    let a := es.getD i (0, 0, 0, 0, true); let b := es.getD j (0, 0, 0, 0, true)
    i == j || decide (a.2.2.1 + a.2.2.2.1 ≤ b.2.2.1) || decide (b.2.2.1 + b.2.2.2.1 ≤ a.2.2.1)) &&
  distinct keys && distinct (img.panels.map (·.panel)) &&
  keys.all (fun k => (sectionKeys img).contains k) && (sectionKeys img).all (fun k => keys.contains k) &&
  (if s.load.isPart then
    keys.all (fun k => k.2 == s.load.panel) && ((s.entryOf s.load.panel).isSome || keys.contains (1, s.load.panel))
  else
    keys.contains (2, 0xFF) && keys.contains (8, 0xFF) && keys.any (fun k => k.1 == 1) &&
    keys.all fun k => k.2 == 0xFF || keys.contains (1, k.2))

/-- Training fields of a PANELS entry (R251); shares of R52. One share above 64 breaks the content of its section and fails
check 6, not check 11: DESIGN CHOICE (log entry 165). -/
def panelOk (s : State) (p : Nat) (e : PanelEntry) : Bool :=
  let pairOk := fun (m : Nat × Nat) => decide (m.1 < 4096) && decide (m.2 < 64)
  e.cores.all (fun l => l < 1024) && distinct e.cores && e.shares.length == 8 && e.shares.all (fun n => n ≤ 64) &&
  (e.inference ||
    (e.firstStep < 2 ^ 32 && 1 ≤ e.voteSet.length && e.voteSet.length ≤ 256 && e.voteSet.all pairOk &&
     1 ≤ e.replicas.length && e.replicas.length ≤ 256 && e.replicas.all (fun m => e.voteSet.contains m) &&
     e.replicas.contains (s.ownId, p) && e.stepQueues.length ≤ 16 && e.stepQueues.all (fun q => q < 256) &&
     1 ≤ e.stragglerTicks && e.stragglerTicks < 2 ^ 32 && 26000 ≤ e.voteSettle && e.voteSettle < 2 ^ 32 &&
     2 ^ 20 ≤ e.voteTimeout && e.voteTimeout < 2 ^ 32 && 1 ≤ e.repeatLimit && e.repeatLimit ≤ 15))

/-- Slot entries of a SEAM section (R165) of a panel that owns these logical cores. -/
def seamOk (own : List Nat) (x : Seam) : Bool :=
  x.slots.all fun e => own.contains e.core && decide (e.index < 16) && decide (e.handle < 2 ^ 20) && decide (1 ≤ e.w) &&
    decide (e.w ≤ 16) && decide (e.margin ≤ 3) && decide (1 ≤ e.n) && decide (e.n ≤ 16) && decide (e.theta < 2 ^ 24) &&
    decide (e.k ≤ 255) && decide (-127 ≤ e.eInit) && decide (e.eInit ≤ 127)

/-- FP32 bits of a finite value. -/
def finite32 (w : Nat) : Bool := bits w 23 8 != 255

/-- Rule slots and microcode (R271, R314). -/
def slotOk (b : List Byte) : Bool :=
  b.length == 64 && bits (leAt b 2 1) 5 3 == 0 && (slRule b != 8 || decide (slPlanes b ≤ 4)) && (List.range 8).all (fun i => finite32 (leAt b (4 + 4 * i) 4)) &&
    (sliceB b 36 28).all (· == 0)
def opDefined (op : Nat) : Bool :=
  (1 ≤ op && op ≤ 5) || (8 ≤ op && op ≤ 0xD) || (0x10 ≤ op && op ≤ 0x14) || op == 0x18 || op == 0x19 || op == 0x3F
def programOk (ws : List Word) : Bool :=
  ws.length ≤ 64 && ws.all fun w => bits w.toNat 26 6 == 0 && opDefined (bits w.toNat 0 6)
def rulesOk (r : FeltRules) : Bool :=
  r.slots.all (fun e => decide (e.1 < 256) && slotOk e.2) && r.programs.all fun e => decide (e.1 < 256) && programOk e.2

/-- Ring of a queue (R348), the ranges of its fields (Q_CONFIG), and a context queue's consumer, priority and target (R425). -/
def ringOk (s : State) (c : QueueCfg) : Bool :=
  (match c.eseries with | some e => c.kind == 2 && decide (e.1 < 4) && decide (e.2 < 256) | none => true) &&
  decide (c.queue < 256) && c.itemLog2 ≤ 10 && c.capLog2 ≤ 24 && c.kind < 3 && c.producer < 4 && c.base % 2 ^ 21 == 0 &&
    s.inFixed c.base (2 ^ (6 + c.itemLog2 + c.capLog2))

/-- Every trained WEIGHT or PARAM names a defined rule slot (R254). -/
def ruleSlotsOk (rules : FeltRules) (ds : List (Nat × List Byte)) : Bool :=
  ds.all fun e => !banked e.2 || (slotIn rules (dRule e.2)).isSome

/-! The device as it would stand after the load. -/

def mergeSecs (old new : PanelSecs) : PanelSecs where
  panel := new.panel
  entry := new.entry.or old.entry
  policy := new.policy.or old.policy
  markers := new.markers.or old.markers
  descriptors := new.descriptors.or old.descriptors
  streams := new.streams.or old.streams
  queues := new.queues.or old.queues
  residency := new.residency.or old.residency
  seed := new.seed.or old.seed
  seam := new.seam.or old.seam

def emptySecs (p : Nat) : PanelSecs := ⟨p, none, none, none, none, none, none, none, none, none⟩

/-- Sections in force after the load (R47). -/
def withSecs (s : State) (img : PatternImage) : State :=
  if s.load.isPart then
    let p := s.load.panel
    let old := (s.secsOf p).getD (emptySecs p)
    let new := (img.panels.find? (·.panel == p)).getD (emptySecs p)
    { s with secs := spSet (fun _ => none) s.secs p (some (mergeSecs old new)) }
  else
    { s with
      secs := img.panels.foldl (fun m x => spSet (fun _ => none) m x.panel (some x)) []
      coreMap := img.coreMap.getD []
      live := []
      links := img.links
      devQueues := img.devQueues
      rules0 := img.feltRules.getD ⟨[], []⟩ }

/-- Panels that the load defines. -/
def loadPanels (s : State) (img : PatternImage) : List Nat := if s.load.isPart then [s.load.panel] else img.panels.map (·.panel)

/-- Queue configurations that the load gives, the device-wide section first. -/
def loadQueues (img : PatternImage) : List QueueCfg :=
  img.devQueues.getD [] ++ img.panels.flatMap fun x => x.queues.getD []

/-- Checks of the content under R46, R47 and the rules that name BAD_SECTION; `t` is the device after the load. -/
def contentOk (s t : State) (img : PatternImage) : Bool :=
  img.panels.all (fun x =>
    (match x.entry with | some e => panelOk s x.panel e | none => true) &&
    (match x.policy with | some y => y.tables.length ≤ 4 | none => true) &&
    (match x.markers with | some m => m.barriers.all (fun b => b.1 ≤ 62) | none => true) &&
    (match x.descriptors with
     | some ds => ds.all (fun d => decide (d.1 < 2 ^ 14) && d.2.length == 128) && distinct (ds.map (·.1))
     | none => true) &&
    (match x.streams with
     | some y => [y.f, y.b, y.u].all (fun l => l.length % 64 == 0) && y.vecPrio.all (fun v => v < 2 ^ 32)
     | none => true)) &&
  (loadQueues img).all (ringOk s) &&
  (match img.feltRules with | some r => rulesOk r | none => true) &&
  (loadPanels s img).all fun p =>
    ruleSlotsOk t.rules0 (((t.secsOf p).bind (·.descriptors)).getD []) &&
    (match (t.secsOf p).bind (·.seam) with | some x => seamOk (t.logicals p) x | none => true)

/-! Checks 7 to 15. -/

/-- Panels whose binding a queue configuration has. -/
def cfgPanels (c : QueueCfg) : List Nat :=
  (if c.kind = 0 then [c.consumer] else []) ++ (if c.producer = 2 || c.producer = 3 then [c.prodPanel] else [])

/-- Panels to which a configured queue is bound now. -/
def boundPanels (s : State) (q : Nat) : List Nat :=
  if s.qstate q == qsUnconf then []
  else (consPanel s q).toList ++
    (if qFld s F.Q_CONFIG_PRODUCER q = 2 || qFld s F.Q_CONFIG_PRODUCER q = 3 then [qFld s F.Q_CONFIG_PROD_PANEL q] else [])

def queueConflict (s : State) (img : PatternImage) : Bool :=
  let qs := loadQueues img
  qs.any (fun a => qs.any fun b => a.queue == b.queue && a.kind == 0 && b.kind == 0 && a.consumer != b.consumer) ||
  (s.load.isPart && qs.any fun c => (cfgPanels c ++ boundPanels s c.queue).any fun p => p != s.load.panel)

/-- Settings of a port as a LINKS entry holds them (R387). -/
def portNow (s : State) (p : Nat) : PortCfg :=
  ⟨p, s.fget F.LNK_CONFIG_ROLE p, s.fget F.LNK_CONFIG_MAX_WIDTH p, s.fget F.LNK_CONFIG_DEG_LIMIT p, s.fget F.LNK_CONFIG_HCTX p⟩
def portThen (s : State) (l : Links) (p : Nat) : PortCfg := (l.ports.find? (·.port == p)).getD (portNow s p)

def roleConflict (s : State) (l : Links) : Bool :=
  let hosts := ((List.range 16).map (portThen s l)).filter fun x => x.role == roleHost
  l.master != s.isMaster || decide (8 < hosts.length) || !distinct (hosts.map (·.hctx)) ||
  (match s.load.port with | some p => portThen s l p != portNow s p | none => false)

def mapOk (m : List Nat) : Bool :=
  m.length == 1024 && m.all (fun c => c < 528) && distinct (m.take 512) && distinct (m.drop 512)

/-- Logical cores of the panels other than p. -/
def othersCores (s : State) (p : Nat) : List Nat := ((List.range 64).filter (· != p)).flatMap s.logicals

def shareSum (s : State) (n : Nat) : Nat := ((List.range 64).map fun p => shareOf s p n).foldl (· + ·) 0

/-- The first check of 6 to 15 that fails; 0 when none. Check 15 asks of each panel by itself whether its cores find spares, so
two panels that need the same last spare both pass: DESIGN CHOICE (log entry 166). -/
def structuralError (s : State) (img : PatternImage) : Nat :=
  let t := withSecs s img
  let ps := loadPanels s img
  if !directoryOk s img || !contentSpelt s img || !contentOk s t img then 0x06
  else if s.load.isPart && (s.load.scopeBad || (t.logicals s.load.panel).any fun l => (othersCores s s.load.panel).contains l) then 0x07
  else if !s.load.isPart && (List.range 64).any (fun p => decide (2 ≤ s.pstate p)) then 0x08
  else if !s.load.isPart && !mapOk t.coreMap then 0x09
  else if ps.any (fun p => (t.logicals p).isEmpty) || !distinct (allLogicals t) then 0x0A
  else if (List.range 8).any (fun n => decide (64 < shareSum t n)) then 0x0B
  else if img.panels.any (fun x => ((x.markers.map (·.alloc)).getD []).any fun m => 60 ≤ m) then 0x0C
  else if queueConflict s img then 0x0D
  else if (match img.links with | some l => !s.load.isPart && roleConflict s l | none => false) then 0x0E
  else if ps.any (fun p => (buildMap t p).isNone) then 0x0F
  else 0

/-! Steps of a load. -/

def badPatCmd (s : State) : State := s.finc F.PAT_COUNTS_BAD_CMD 0 1

/-- The loaded panel leaves LOADING (R63). -/
def leaveLoading (s : State) : State :=
  let p := s.load.panel
  if s.load.isPart && s.pstate p == psLoading then
    ((s.fset F.PAT_PANEL_STATUS_STATE p psStopped).fset F.PAT_PANEL_STATUS_STOP_DONE p 1).raise (1057 + p)
  else s

/-- A load ends (R48, R65). -/
def endLoad (s : State) (code : Nat) : State :=
  let s := leaveLoading s
  let s := (((s.fset F.PAT_STATUS_PARTIAL 0 (b2n s.load.isPart)).fset F.PAT_STATUS_LOADER 0 0).fset F.PAT_STATUS_ERROR 0 code).fset
    F.PAT_STATUS_DONE 0 1
  let s := if code = 0 then s else s.fset F.PAT_STATUS_FAILED 0 1
  let s := if code = 4 || code = 5 then s.secEvt 1 else s
  { s with load := noLoad }.raise 1518

/-- A write of LOAD or LOAD_PARTIAL: checks 1 and 2, and the sample of the target panel (R48, R63). PAT_STATUS.PANEL follows
the header of a partial pattern only when check 2 passes: DESIGN CHOICE (log entry 171). -/
def startLoad (s : State) (a : Agent) (isPart : Bool) : State :=
  let addr := s.fget F.PAT_LOAD_ADDR_LO_ADDR_LO 0 * 2 ^ 21 + s.fget F.PAT_LOAD_ADDR_HI_ADDR_HI 0 * 2 ^ 32
  let len := s.fget F.PAT_LOAD_LEN_BYTES 0
  let port := match a with | .link p _ _ _ => some p.val | _ => none
  let s := { s with load := ⟨true, isPart, addr, len, 64, port, 0, false, false, none⟩ }.fset F.PAT_STATUS_LOADER 0 1
  if len ≠ 0 && !s.inFixed addr len then endLoad s 1
  else if !headerOk s then endLoad s 2
  else if !isPart then s
  else
    let p := patWord s 16 1
    let stopped := s.pstate p == psStopped
    let s := { s with load := { s.load with panel := p, scopeBad := !stopped } }.fset F.PAT_STATUS_PANEL 0 p
    if stopped then s.fset F.PAT_PANEL_STATUS_STATE p psLoading else s

/-- A write to PAT_CTRL (R65, R468). -/
def patCtrl (s : State) (a : Agent) (w : Word) : State :=
  let v := w.toNat % 8
  if v = 0 then s
  else if popCount 3 v ≠ 1 then badPatCmd s
  else if v = 4 then (if s.load.busy && s.load.stage < 3 then endLoad s 0x10 else s)
  else if s.load.busy || s.fget F.HUB_BOOT_STATUS_PHASE 0 ≠ 4 then badPatCmd s
  else startLoad s a (v == 2)

def execLoad (a : Agent) (w : Word) (s : State) : Out := done (s.access a 0x00010000 fun s => patCtrl s a (w ||| 1))
def execLoadPartial (a : Agent) (w : Word) (s : State) : Out :=
  done (s.access a 0x00010000 fun s => patCtrl s a (w ||| 2))
def execAbort (a : Agent) (w : Word) (s : State) : Out := done (s.access a 0x00010000 fun s => patCtrl s a (w ||| 4))

def setStage (s : State) (n : Nat) : State := { s with load := { s.load with stage := n } }

/-- The digest is checked; without a registered key no signature is (R49). -/
def execDigestChecked (s : State) : Out :=
  if !(s.load.busy && s.load.stage == 0) then done s
  else
    match badAmong s.badPhys s.load.addr s.load.len with
    | k :: _ => done (endLoad (uncorrOther s (s.load.addr / 2 ^ 36) (64 * k)) 3)
    | [] =>
      if !digestOk s then done (endLoad s 3)
      else done (setStage s (if s.sec.key.isSome then 1 else 2))

def execSignatureChecked (s : State) : Out :=
  if !(s.load.busy && s.load.stage == 1) then done s
  else if !bitOf (patWord s 6 2) 1 then done (endLoad s 4)
  else if !signatureOk s (s.sec.key.getD []) then done (endLoad s 5)
  else done { s with load := { s.load with stage := 2, sig := true } }

/-- The structural checks end: LOADER reads APPLYING, or the load fails. -/
def execStructuralChecksDone (img : PatternImage) (s : State) : Out :=
  if !(s.load.busy && s.load.stage == 2) then done s
  else
    let code := structuralError s img
    if code ≠ 0 then done (endLoad s code)
    else done ({ s with load := { s.load with stage := 3, img := some img } }.fset F.PAT_STATUS_LOADER 0 2)

/-! Application. -/

/-- What a descriptor must keep for its pages to stay (R303). -/
def descKey (d : Desc) : List Nat :=
  [dKind d, dFormat d, dBlock d, dRank d, dCodeOff d, dScaleOff d, dTableOff d, dStrideC2 d, dStrideC3 d, dStrideS2 d,
   dStrideS3 d, b2n (dStr2 d), b2n (dStr3 d)] ++ (List.range 6).map (dDim d)

/-- Descriptor of a handle before the load; after a warm reset, the one that its kept pages were placed under (R303). -/
def formerDesc (s : State) (h : Nat) : Option Desc := (s.desc h).or ((s.keptDescs.find? (·.1 == h)).map (·.2))

def keepsPages (s t : State) (h : Nat) : Bool :=
  match formerDesc s h, t.desc h with
  | some a, some b => descKey a == descKey b
  | _, _ => false

/-- Free some pages; what is wrong with their blocks stays at their place. -/
def dropPages (s : State) (gone : Page → Bool) : State :=
  let s := (s.pages.filter gone).foldl releaseBad s
  { s with pages := s.pages.filter fun x => !gone x }

/-- Free the pages and contents of handles that the load changes; system areas are no handles. -/
def freePages (s t : State) (hit : Nat → Bool) : State :=
  let gone := fun h => decide (h < 2 ^ 20) && hit (handlePanel h) && !keepsPages s t h
  let t := dropPages t fun x => gone x.handle
  { t with
    tens := t.tens.filter fun (c : Host.Cell) => !gone (c.1 / 2 ^ 40)
    badTens := t.badTens.filter fun k => !gone (64 * k / 2 ^ 40) }

/-- The hint PIN of a handle. -/
def pinHint (d : Option Desc) : Bool := match d with | some d => hPin d | none => false

/-- The pages that a load keeps take the pin of their new descriptors, up to half a quota on each felt; a page that loses its
pin or does not get it counts (R304, R305). `hinted`: handles whose former descriptor asked for one. -/
def repin (hinted : Nat → Bool) (t : State) : State :=
  t.pages.foldl (fun t x =>
    let want := pinHint (t.desc x.handle)
    let held := (t.pages.takeWhile fun y => !(y.handle == x.handle && y.index == x.index)).countP fun y =>
      y.panel == x.panel && y.felt == x.felt && y.pinned
    let pin := want && decide (held < quotaOf t x.panel x.felt / 2)
    let t := if want && !pin && (x.pinned || !hinted x.handle) then
        t.finc F.FELT_PLC_COUNTS_HINT_IGNORED x.felt 1 else t
    let this := fun (y : Page) => y.handle == x.handle && y.index == x.index
    { t with pages := updWhere this (fun y => { y with pinned := pin }) t.pages }) t

/-- Channel ownership and privileged marks (R229). -/
def ownedChans (s : State) : List (Nat × Nat × Bool) :=
  let all := (List.range 64).flatMap fun p =>
    match (s.secsOf p).bind (·.policy) with
    | some y => if ((s.entryOf p).map (·.inference)).getD false then y.channels.map fun c => (c.1, p, c.2) else []
    | none => []
  (List.range 1024).filterMap fun k => all.find? (·.1 == k)

def setChans (s : State) : State :=
  let own := ownedChans s
  let marked := ((own.filter (·.2.2)).map (·.1)).take 16
  let lost := (s.chans.filter fun e => !own.any fun o => o.1 == e.1 && o.2.1 == e.2.panel && e.2.owned).map (·.1)
  let s := lost.foldl (fun s k => (dropChan s k).setChan k noChan) s
  own.foldl (fun s o => s.setChan o.1 { s.chan o.1 with owned := true, panel := o.2.1, priv := marked.contains o.1 }) s

/-- A panel that the load leaves EMPTY loses its system areas (R178, R303). -/
def dropAreas (s : State) (p : Nat) : State :=
  let s := dropPages s fun x => x.handle == skeinArea p || x.handle == trackArea p
  { s with
    trackers := s.trackers.filter fun (t : Tracker) => handlePanel t.handle != p
    trkSaved := s.trkSaved.filter fun (t : Tracker) => handlePanel t.handle != p
    tree := s.tree.filter fun e => handlePanel e.pool != p
    groups := s.groups.filter fun g => handlePanel g.pool != p
    secs := spSet (fun _ => none) s.secs p none }

/-- Identity of a core reads 0 until its panel starts (R41). -/
def unmapCore (s : State) (c : Nat) : State := clearCore s c

/-- KIND and CORES of a panel. -/
def panelFields (s : State) (p : Nat) : State :=
  (s.fset F.PAT_PANEL_STATUS_KIND p (b2n (((s.entryOf p).map (·.inference)).getD false))).fset F.PAT_PANEL_STATUS_CORES p
    (s.logicals p).length

/-- Step fields of a panel after a full load (R250, R290). -/
def stepFields (s : State) (p : Nat) : State :=
  let s := (s.wr .HUB_STEP_COMMITTED p 0).fset F.HUB_STEP_STATUS_STATE p vsIdle
  let s := (s.fset F.HUB_STEP_STATUS_FAILS p 0).fset F.HUB_STEP_STATUS_UPDATED p 0
  let x := s.panel p
  let s := s.setPanel p { x with owed := false, fault := false, nextFault := none, forceStep := false, remapStart := false, resident := [] }
  let s := s.setPanel p { s.panel p with residents := 0, spilled := 0 }
  match s.entryOf p with
  | some e =>
    if e.inference then s
    else
      (((s.wr .HUB_STEP_NUM p (BitVec.ofNat 32 e.firstStep)).fset F.HUB_STEP_STATUS_BANK p (b2n e.startBank)).fset
        F.HUB_STEP_STATUS_SINGLE p (b2n (!e.dualBank))).fset F.HUB_STEP_STATUS_ROOT p (b2n (rootHere s e.voteSet))
  | none => s

/-- A panel under a full load: defined ones are STOPPED, the others EMPTY (R63). One that is STOPPED already does not enter
STOPPED again, so it has no STOP_DONE of the load: DESIGN CHOICE (log entry 170). -/
def fullPanel (s : State) (p : Nat) : State :=
  let s := stepFields (panelFields s p) p
  if (s.entryOf p).isNone then (dropAreas s p).fset F.PAT_PANEL_STATUS_STATE p psEmpty
  else if s.pstate p == psEmpty then
    ((s.fset F.PAT_PANEL_STATUS_STATE p psStopped).fset F.PAT_PANEL_STATUS_STOP_DONE p 1).raise (1057 + p)
  else s

/-- A queue's configuration in force, and in its registers, is this one. -/
def sameConfig (s : State) (c : QueueCfg) : Bool :=
  let q := c.queue
  let x := s.queue q
  x.config == s.rd .Q_CONFIG q && x.baseLo == s.rd .Q_BASE_LO q && x.baseHi == s.rd .Q_BASE_HI q &&
  s.fget F.Q_CONFIG_ITEM_LOG2 q == c.itemLog2 && s.fget F.Q_CONFIG_CAP_LOG2 q == c.capLog2 &&
  s.fget F.Q_CONFIG_CONSUMER q == c.consumer && s.fget F.Q_CONFIG_CONS_KIND q == c.kind &&
  s.fget F.Q_CONFIG_PRODUCER q == c.producer && s.fget F.Q_CONFIG_PROD_PANEL q == c.prodPanel &&
  s.fbit F.Q_CONFIG_ARRIVE q == c.arrive && qBase s q == c.base

def putConfig (s : State) (c : QueueCfg) : State :=
  let q := c.queue
  let s := (((s.fset F.Q_CONFIG_ITEM_LOG2 q c.itemLog2).fset F.Q_CONFIG_CAP_LOG2 q c.capLog2).fset F.Q_CONFIG_CONSUMER q
    c.consumer).fset F.Q_CONFIG_CONS_KIND q c.kind
  let s := ((s.fset F.Q_CONFIG_PRODUCER q c.producer).fset F.Q_CONFIG_PROD_PANEL q c.prodPanel).fset F.Q_CONFIG_ARRIVE q
    (b2n c.arrive)
  adoptConfig ((s.fset F.Q_BASE_LO_BASE_LO q (c.base / 2 ^ 21)).fset F.Q_BASE_HI_BASE_HI q (c.base / 2 ^ 32)) q

/-- Every accepted push of a queue leaves it with one status. -/
def endPushes (s : State) (q st : Nat) : State :=
  let xs := (s.queue q).acc
  let s := s.setQueue q { s.queue q with acc := [] }
  xs.foldl (fun s x => pushDone s q x.src st) s

/-- The load leaves the queue as it is (R364). -/
def keepsQueue (s : State) (c : QueueCfg) : Bool := s.qstate c.queue != qsUnconf && sameConfig s c

/-- An accepted push that must land before its queue changes (R364). One that waits for the end of the load itself (R51) cannot:
it ends with the contents (log entry 164). -/
def mustLand (s : State) (q : Nat) : Bool :=
  match (s.queue q).acc with
  | [] => false
  | x :: _ => !(x.whole && stagingHeld s (qSlot s q (s.qix q .prod)) (qItem s q))

/-- Queues that the load changes and whose stop still waits. -/
def stoppingQueues (s : State) (img : PatternImage) : List Nat :=
  ((loadQueues img).filter fun c => !keepsQueue s c && mustLand s c.queue).map (·.queue)

def stopQueue (s : State) (q : Nat) : State := if s.qstate q == qsRunning then s.fset F.Q_STATUS_STATE q qsStopping else s

/-- R364: the same configuration changes nothing; another is a stop, change and restart. -/
def loadQueue (s : State) (c : QueueCfg) : State :=
  let q := c.queue
  let keep := keepsQueue s c
  let s := s.setQueue q { s.queue q with hctx := c.hctx, eseries := c.eseries }
  if keep then s
  else
    let s := zeroIndices (putConfig (endPushes s q rsOk) c) q
    let s := s.setQueue q { s.queue q with changed := false, heldMark := false, heldRewind := false, granted := 0 }
    queueRun (s.fset F.Q_CREDITS_POOL q 0) q

/-- A queue that a full load does not name. -/
def dropQueue (s : State) (q : Nat) : State :=
  let s := endPushes s q rsAccess
  let xs := (s.queue q).stalled
  let s := s.setQueue q noQueue
  let s := xs.foldl (fun s x => pushDone s q x.src rsAccess) s
  ((((zeroIndices s q).wr .Q_CONFIG q 0).wr .Q_BASE_LO q 0).wr .Q_BASE_HI q 0).fset F.Q_CREDITS_POOL q 0 |>.fset
    F.Q_STATUS_STATE q qsUnconf

def applyQueues (s : State) (img : PatternImage) : State :=
  let qs := loadQueues img
  let s :=
    if s.load.isPart then s
    else ((List.range 256).filter fun q => s.qstate q != qsUnconf && !qs.any fun c => c.queue == q).foldl dropQueue s
  qs.foldl loadQueue s

/-- A listed port whose settings change stops, changes and restarts; routes of other groups take effect (R387, R384). -/
def applyPort (s : State) (x : PortCfg) : State :=
  if x == portNow s x.port then s
  else
    let p := x.port
    let s := if s.lstate p == lsOff then s else enterStoppedPort s p
    let s := ((s.fset F.LNK_CONFIG_ROLE p x.role).fset F.LNK_CONFIG_MAX_WIDTH p x.maxWidth).fset F.LNK_CONFIG_HCTX p x.hctx
    startPort (s.fset F.LNK_CONFIG_DEG_LIMIT p x.degLimit) p

def applyLinks (s : State) (l : Links) : State :=
  let s := l.routes.foldl (fun s r => (List.range 32).foldl (fun s i => setRoute s (r.1 * 32 + i) (r.2, true)) s) s
  l.ports.foldl applyPort s

/-- Votes and arrivals of this device's own panels end with a full load: their step numbers are set anew. -/
def dropVotes (s : State) : State :=
  { s with
    votes := s.votes.filter fun v => !v.members.any fun m => m.1 == s.ownId
    arrivals := s.arrivals.filter fun a => match a.src with | .member d _ => d.val != s.ownId | _ => true
    voteOut := []
    masks := [] }

def applyFull (s : State) (img : PatternImage) : State :=
  let t := repin (fun h => pinHint (formerDesc s h)) { freePages s (withSecs s img) (fun _ => true) with keptDescs := [] }
  let t := (t.listed .CORE_STATUS).foldl unmapCore t
  let t := (List.range 64).foldl fullPanel (dropVotes t)
  let t := { t with rules := t.rules0, rulesOn := t.rules0 }
  let t := (t.fset F.FELT_RULE_STATUS_STATE 0 0).fset F.FELT_RULE_STATUS_GEN 0 0
  let t := (t.wr .PAT_ID 0 (BitVec.ofNat 32 (patWord s 12 4))).fset F.PAT_STATUS_LOADED 0 1
  match img.links with | some l => applyLinks t l | none => t

/-- A partial load. Until the panel's next start its logical cores count at their CORE_MAP places, so that the spares they held
read free: DESIGN CHOICE (log entry 168). -/
def applyPart (s : State) (img : PatternImage) : State :=
  let p := s.load.panel
  let old := s.coresOf p
  let t := repin (fun h => pinHint (formerDesc s h)) (freePages s (withSecs s img) (fun q => q == p))
  let t := old.foldl unmapCore t
  let t := panelFields { t with live := t.live.filter fun e => !(s.logicals p).contains e.1 } p
  match (img.panels.find? (·.panel == p)).bind (·.entry) with
  | some e =>
    let t := t.setPanel p { t.panel p with forceStep := e.forceStep && !e.inference }
    if e.inference then t
    else (t.fset F.HUB_STEP_STATUS_SINGLE p (b2n (!e.dualBank))).fset F.HUB_STEP_STATUS_ROOT p (b2n (rootHere t e.voteSet))
  | none => t

/-- Every section takes effect at once, and the load ends. -/
def applyLoad (s : State) (img : PatternImage) : State :=
  let digest := patDigest s
  let index := if s.load.isPart then s.load.panel else 0xFF
  let t := if s.load.isPart then applyPart s img else applyFull s img
  let t := applyQueues (setChans t) img
  let t := (List.range 8).foldl (fun t i => t.wr .PAT_DIGEST i (BitVec.ofNat 32 (leAt digest (4 * i) 4))) t
  let t := (t.fincw F.PAT_GENERATION_LOADS 0 1).fset F.PAT_STATUS_SIGNED 0 (b2n s.load.sig)
  endLoad (t.measure 0x0020 index digest) 0

/-- Application: queues that change stop first, and the load applies when their accepted pushes have landed (R364). -/
def execLoadApplied (s : State) : Out :=
  if !(s.load.busy && s.load.stage == 3) then done s
  else
    match s.load.img with
    | none => done s
    | some img =>
      match stoppingQueues s img with
      | [] => done (applyLoad s img)
      | qs => done (qs.foldl stopQueue s)

end Sys2Proof.Machine
end

