-- ==== Sys2Proof/Machine/Stewards.lean ====
section
/-! DEFINITION. Stewards: signals, staging and its checks, the steward states with crash, restart, takeover and activation,
error records and the log (R411 to R428). -/
namespace Sys2Proof.Machine
open Sys2Proof

/-! States (STW_STATUS.STATE) and offsets. -/
def swOff : Nat := 0
def swRunning : Nat := 1
def swStopped : Nat := 2
def swCrashed : Nat := 3
def swHeld : Nat := 4
def State.swState (s : State) (i : Nat) : Nat := s.fget F.STW_STATUS_STATE i
def stwOff (i : Nat) : Nat := 0x03000000 + i * 0x100

/-- Native role of a steward (R412). -/
def nativeRole (i : Nat) : Nat := match i with | 0 | 1 => 0 | 2 => 1 | 3 => 2 | 4 => 3 | _ => 4

/-! STW_SIGNAL (R413). -/

/-- Only a steward may write it: m63 of one logical core, or of every core of a panel. -/
def signalWrite (s : State) (a : Agent) (w : Word) : State :=
  match a with
  | .steward _ =>
    let v := w.toNat
    if bitOf v 16 then (s.coresOf (bits v 10 6)).foldl (fun s c => s.setMarker c 63) s
    else match s.liveOf (bits v 0 10) with | some c => s.setMarker c 63 | none => s
  | _ => s.outOfRange a 0x03001060

def execStwSignal (a : Agent) (w : Word) (s : State) : Out := done (s.access a 0x03001060 fun s => signalWrite s a w)

/-! Staging (R415, R416). -/

/-- An activation is under way. -/
def actBusy (s : State) : Bool := s.fget F.STW_ACT_STATUS_STATE 0 == 1 || s.fget F.STW_ACT_STATUS_STATE 0 == 2

/-- The staging area takes no write. -/
def stageLocked (s : State) : Bool := s.fget F.STW_STAGE_STATUS_STATE 0 == 1 || actBusy s

def stageEmpty (s : State) : State := (s.fset F.STW_STAGE_STATUS_STATE 0 0).fset F.STW_STAGE_STATUS_ROLE 0 0

/-- A write to the window or to STW_STAGE_LEN. -/
def stageWrite (s : State) (a : Agent) (off : Nat) (w : Word) : State :=
  if off % 4 ≠ 0 then s.outOfRange a off
  else if stageLocked s then (s.finc F.STW_ACT_COUNTS_STAGE_WRITE 0 1).outOfRange a off
  else if off = 0x03001000 then stageEmpty (s.fset F.STW_STAGE_LEN_BYTES 0 (w.toNat % 2 ^ 24))
  else if 0x03800000 ≤ off && off < 0x04000000 then
    stageEmpty { s with staging := memWrite s.staging (off - 0x03800000) (leBytes 4 w.toNat) }
  else s

def execStageWrite (a : Agent) (off : BitVec 29) (w : Word) (s : State) : Out :=
  done (s.access a off.toNat fun s => stageWrite s a off.toNat w)

/-- Bytes of the staged image. -/
def stageBytes (s : State) (off n : Nat) : List Byte := memRead s.staging off n
def stageWord (s : State) (off n : Nat) : Nat := leNat (stageBytes s off n)
def stageLen (s : State) : Nat := s.fget F.STW_STAGE_LEN_BYTES 0

/-- Digest that the trailer of the staged image holds. -/
def stageDigest (s : State) : List Byte := stageBytes s (stageLen s - 16256) 32

/-- The first staging check that fails, 0 when none. -/
def stageError (s : State) : Nat :=
  let n := stageLen s
  let body := n - 16256
  if n % 64 ≠ 0 || n < 16320 || 2 ^ 23 < n then 1
  else if stageWord s 0 4 ≠ 0x57545357 || stageWord s 4 2 ≠ 1 || 4 < stageWord s 6 1 || stageWord s 7 1 ≠ 0 ||
      stageWord s 8 4 ≠ n || body ≤ stageWord s 16 4 || stageWord s 20 4 ≠ 0x7100 || !(stageBytes s 24 40).all (· == 0) then 2
  else if sha256 (stageBytes s 0 body) ≠ stageDigest s then 3
  else if !Config.slhVerify ((List.range 48).map Config.firmwareKey) (stageDigest s) (stageBytes s (body + 32) 16224) then 4
  else 0

/-- A write to STW_STAGE_CTRL. -/
def verifyWrite (s : State) (w : Word) : State :=
  if !bitOf w.toNat 0 then s
  else if s.fget F.STW_STAGE_STATUS_STATE 0 = 1 then s.finc F.STW_ACT_COUNTS_STAGE_WRITE 0 1
  else s.fset F.STW_STAGE_STATUS_STATE 0 1

def execVerify (a : Agent) (w : Word) (s : State) : Out := done (s.access a 0x03001004 fun s => verifyWrite s (w ||| 1))

def execVerifyDone (s : State) : Out :=
  if s.fget F.STW_STAGE_STATUS_STATE 0 ≠ 1 then done s
  else
    let e := stageError s
    let s := s.fset F.STW_STAGE_STATUS_ERROR 0 e
    if e = 0 then done ((s.fset F.STW_STAGE_STATUS_STATE 0 2).fset F.STW_STAGE_STATUS_ROLE 0 (stageWord s 6 1))
    else
      let s := s.fset F.STW_STAGE_STATUS_STATE 0 3
      done (if e = 4 then s.secEvt 1 else s)

/-! Context queues (R425). -/

/-- The steward that runs S2's role, when it runs. -/
def dispatcher (s : State) : Option Nat :=
  if s.swState 2 == swRunning then some 2
  else if (s.stw 5).taken == some 2 && s.swState 5 == swRunning then some 5
  else none

/-- S2 has given an item to a target queue and waits for it to land. -/
def dispatching (s : State) : Bool :=
  s.queues.any fun e => (e.2.acc ++ e.2.stalled).any fun x => match x.src with | .dispatch _ => true | _ => false

/-- The steward that ran S2's role forgets its push: the item lands, and MARK does not follow it. -/
def forgetPushes (s : State) : State :=
  let plain := fun (x : Push) => match x.src with | .dispatch _ => { x with src := .steward 2 } | _ => x
  if !dispatching s then s
  else { s with queues := s.queues.map fun (e : Nat × QCtx) =>
    (e.1, { e.2 with acc := e.2.acc.map plain, stalled := e.2.stalled.map plain }) }

/-- Priority and target of a context queue with an item that S2 may take now. -/
def servable (s : State) (q : Nat) : Option (Nat × Nat) :=
  match (s.queue q).eseries with
  | none => none
  | some (pr, t) =>
    if s.qstate q == qsRunning && qFld s F.Q_CONFIG_CONS_KIND q == 2 && decide (0 < qCount s q) && s.qstate t != qsUnconf &&
        permits s t .steward && (badAmong s.badPhys (qSlot s q (s.qix q .cons)) (qItem s q)).isEmpty then some (pr, t)
    else none

/-- The queue that S2 serves next: of the highest priority, the first after the one served last (DESIGN CHOICE that 3 is the
highest, log entry 173). -/
def nextContext (s : State) (i : Nat) : Option (Nat × Nat × Nat) :=
  let qs := s.queues.filterMap fun e => (servable s e.1).map fun x => (e.1, x.1, x.2)
  let best := qs.foldl (fun n x => max n x.2.1) 0
  let at_ := qs.filter fun x => x.2.1 == best
  match ((s.stw i).served.find? (·.1 == best)).map (·.2) with
  | none => at_.head?
  | some last => (at_.find? fun x => decide (last < x.1)).or at_.head?

/-- S2 takes one item of a context queue, converts it and pushes it into the target queue (log entry 173). -/
def dispatchItem (s : State) : State :=
  match dispatcher s with
  | none => s
  | some i =>
    if dispatching s then s
    else match nextContext s i with
      | none => s
      | some (q, pr, t) =>
        let s := s.checkQueue q
        if qCount s q = 0 then s
        else
          let bs := s.dramRead (qSlot s q (s.qix q .cons)) (qItem s q)
          let s := (qAdvance s q 1).setStw i { s.stw i with served := (s.stw i).served.filter (·.1 != pr) ++ [(pr, q)] }
          let s := if s.qstate t == qsRunning then s.checkQueue t else s
          pushArrive s t ⟨.dispatch q, (List.range (qItem s t)).map (Config.eConvert bs), true⟩

/-- After a restart of S2's role every context queue goes back to MARK. -/
def rewindContexts (s : State) : State :=
  (s.queues.filter fun e => e.2.eseries.isSome).foldl (fun s e => s.repeatQueue e.1) s

/-- Time passes with no command: interval counters advance, and S2 dispatches an item. -/
def State.idle (s : State) : State := dispatchItem s.tick

/-! The restart sequence (R420). -/

/-- Role that a steward runs: S5 runs the role it has taken. -/
def roleOf (s : State) (i : Nat) : Nat :=
  match (s.stw i).taken with | some t => nativeRole t | none => nativeRole i

/-- A held record goes back to the head of the FIFO (R423). -/
def returnRecord (s : State) (i : Nat) : State :=
  match (s.stw i).held with
  | some r => { s.setStw i { s.stw i with held := none } with recFifo := r :: s.recFifo }
  | none => s

/-- Copy the staged image into a slot. -/
def copyImage (s : State) (i : Nat) : State :=
  let n := stageLen s
  let s := s.setStw i { s.stw i with image := s.staging.filter fun (c : Nat × Byte) => c.1 < n, len := n }
  s.wr .STW_FW_VERSION i (BitVec.ofNat 32 (stageWord s 12 4))

/-- The restart sequence of steward i, with the copy step of an activation. -/
def restartStw (s : State) (i : Nat) (copy : Bool) : State :=
  let s := s.setStw i { s.stw i with data := [], served := [] }
  let s := if roleOf s i = 1 then rewindContexts (forgetPushes s) else s
  let s := if copy then copyImage s i else s
  let s := returnRecord (releaseSrcs s (8 + i)) i
  let payload := match (s.stw i).taken with | some t => [i, nativeRole t] | none => [i]
  let s := (s.logRec 0xFC03 6 0 0 0 payload).finc F.STW_COUNTS_RESTARTS i 1
  (s.fset F.STW_STATUS_STATE i swRunning).fset F.STW_STATUS_ROLE i (roleOf s i)

/-! Activation (R424). -/

def stActivating : Nat := 2
def stDone : Nat := 3
def stCancelled : Nat := 4
def stFailed : Nat := 5

/-- An activation ends: state and cause, END, the steward's event, and the log record. -/
def endActivation (s : State) (state cause : Nat) : State :=
  let i := s.fget F.STW_ACT_STATUS_TARGET 0
  let s := ((s.fset F.STW_ACT_STATUS_STATE 0 state).fset F.STW_ACT_STATUS_CAUSE 0 cause).fset F.STW_ACT_STATUS_END 0 1
  (s.stwEvt i 1).logRec 0xFC04 6 0 0 0 [i, state, cause, (s.rd .STW_FW_VERSION i).toNat]

/-- ACTIVATING begins: the restart sequence with the copy; the image's digest enters the measurement log (R417). -/
def beginActivating (s : State) : State :=
  let i := s.fget F.STW_ACT_STATUS_TARGET 0
  (restartStw ((s.fset F.STW_ACT_STATUS_STATE 0 stActivating).fset F.STW_ACT_STATUS_CAUSE 0 0) i true).measure 0x0010 i (stageDigest s)

/-- ACTIVATE on a steward while no other activation is under way. -/
def activate (s : State) (i : Nat) : State :=
  let s := s.fset F.STW_ACT_STATUS_TARGET 0 i
  if s.fget F.STW_STAGE_STATUS_STATE 0 ≠ 2 then endActivation s stFailed 4
  else if s.fget F.STW_STAGE_STATUS_ROLE 0 ≠ nativeRole i then endActivation s stFailed 3
  else if s.fbit F.PWR_STATUS_EMERGENCY 0 then (s.fset F.STW_ACT_STATUS_STATE 0 1).fset F.STW_ACT_STATUS_CAUSE 0 0
  else beginActivating s

def execActivationDone (s : State) : Out :=
  if s.fget F.STW_ACT_STATUS_STATE 0 = stActivating then done (endActivation s stDone 0) else done s

def execEmergencyTimeout (s : State) : Out :=
  if s.fget F.STW_ACT_STATUS_STATE 0 = 1 then done (endActivation s stCancelled 1) else done s

/-! STW_CTRL (R418, R422). -/

def badStwCmd (s : State) (i : Nat) : State := (s.finc F.STW_COUNTS_BAD_CMD i 1).fset F.STW_STATUS_CAUSE i 0x20

/-- S5 may take a role now. -/
def mayTake (s : State) (a : Agent) (t : Nat) : Bool :=
  a == .steward 5 && s.swState 5 == swRunning && (s.stw 5).taken.isNone && s.fget F.STW_STATUS_ROLE 5 == 4 && t < 5 &&
    (s.swState t == swCrashed || s.swState t == swStopped)

def takeRole (s : State) (t : Nat) : State :=
  let s := s.fset F.STW_STATUS_STATE t swHeld
  restartStw (s.setStw 5 { s.stw 5 with taken := some t }) 5 false

def giveBack (s : State) (t : Nat) : State :=
  restartStw (restartStw (s.setStw 5 { s.stw 5 with taken := none }) 5 false) t false

/-- A command that a steward's state takes. -/
def stwLegal (s : State) (a : Agent) (i v : Nat) : Bool :=
  let st := s.swState i
  let held := st == swHeld
  if bitOf v 0 then !held
  else if bitOf v 1 then !held && (st == swStopped || st == swCrashed)
  else if bitOf v 2 then !held && st != swOff
  else if bitOf v 3 then !held && !actBusy s
  else if bitOf v 6 then mayTake s a (bits v 8 3)
  else (s.stw 5).taken.isSome && s.swState 5 == swRunning

def stwRun (s : State) (i v : Nat) : State :=
  let st := s.swState i
  if bitOf v 0 then
    (if st == swRunning || st == swCrashed then (if roleOf s i = 1 then forgetPushes s else s).fset F.STW_STATUS_STATE i swStopped
     else s)
  else if bitOf v 1 || bitOf v 2 then restartStw s i false
  else if bitOf v 3 then activate s i
  else if bitOf v 6 then takeRole s (bits v 8 3)
  else match (s.stw 5).taken with | some t => giveBack s t | none => s

/-- A write to STW_CTRL of steward i. TAKE and GIVE_BACK exist in S5's block only; of the six commands one write gives at
most one. -/
def stwCtrl (s : State) (a : Agent) (i : Nat) (w : Word) : State :=
  let v := if i = 5 then w.toNat else putBits w.toNat 6 2 0
  let n := popCount 4 v + popCount 2 (bits v 6 2)
  let keep := fun (s : State) => s.fset F.STW_CTRL_AUTO i (b2n (bitOf v 5))
  let cancel := fun (s : State) =>
    if bitOf v 4 && s.fget F.STW_ACT_STATUS_STATE 0 == 1 && s.fget F.STW_ACT_STATUS_TARGET 0 == i then
      endActivation s stCancelled 2
    else s
  if n = 0 then cancel (keep s)
  else if n ≠ 1 || !stwLegal s a i v then badStwCmd s i
  else stwRun (cancel (keep s)) i v

def execStewardStop (a : Agent) (i : Fin 6) (w : Word) (s : State) : Out :=
  done (s.access a (stwOff i) fun s => stwCtrl s a i (w ||| 1))
def execStewardStart (a : Agent) (i : Fin 6) (w : Word) (s : State) : Out :=
  done (s.access a (stwOff i) fun s => stwCtrl s a i (w ||| 2))
def execStewardRestart (a : Agent) (i : Fin 6) (w : Word) (s : State) : Out :=
  done (s.access a (stwOff i) fun s => stwCtrl s a i (w ||| 4))
def execActivate (a : Agent) (i : Fin 6) (w : Word) (s : State) : Out :=
  done (s.access a (stwOff i) fun s => stwCtrl s a i (w ||| 8))
def execCancel (a : Agent) (i : Fin 6) (w : Word) (s : State) : Out :=
  done (s.access a (stwOff i) fun s => stwCtrl s a i (w ||| 0x10))
def execTake (a : Agent) (w : Word) (s : State) : Out :=
  done (s.access a (stwOff 5) fun s => stwCtrl s a 5 (w ||| 0x40))
def execGiveBack (a : Agent) (w : Word) (s : State) : Out :=
  done (s.access a (stwOff 5) fun s => stwCtrl s a 5 (w ||| 0x80))

/-! Crashes (R419, R421, R422). -/

/-- A running steward crashes; S5 in a taken role restarts in it. -/
def crash (s : State) (i cause : Nat) : State :=
  if s.swState i != swRunning then s
  else
    let s := if roleOf s i = 1 then forgetPushes s else s
    let s := (s.fset F.STW_STATUS_STATE i swCrashed).fset F.STW_STATUS_CAUSE i cause
    let s := ((s.stwEvt i 0).finc F.STW_COUNTS_CRASHES i 1).logRec 0xFC02 6 0 0 0 [i, cause]
    let s := s.errRec ⟨0x0601, 0, none, i, 3, 0, 0, 0⟩
    if i = 5 && (s.stw 5).taken.isSome then restartStw s 5 false else s

def execWdog (i : Fin 6) (s : State) : Out := done (crash s i 1)
def execFatalTrap (i : Fin 6) (s : State) : Out := done (crash s i 2)
def execStewardEcc (i : Fin 6) (s : State) : Out := done (crash s i 3)

def execAutoRestart (i : Fin 6) (s : State) : Out :=
  if s.swState i == swCrashed && s.fbit F.STW_CTRL_AUTO i then done (restartStw s i false) else done s

/-- A kick starts the watchdog's count anew; the count is time, which the commands carry. -/
def execStwKick (a : Agent) (i : Fin 6) (_w : Word) (s : State) : Out :=
  done (s.access a (stwOff i + 0x10) fun s => s)

/-! Error records (R423). -/

def recData (s : State) (i : Nat) (r : List Word) : State :=
  (List.range 8).foldl (fun s k => s.wr .STW_REC_DATA (8 * i + k) (r.getD k 0)) s

/-- A pop: the held record again, else the head of the FIFO, else zeros. -/
def recPop (s : State) (i : Nat) : State :=
  match (s.stw i).held with
  | some r => recData s i r
  | none =>
    match s.recFifo with
    | r :: rest => recData ({ s with recFifo := rest }.setStw i { s.stw i with held := some r }) i r
    | [] => recData s i []

def recAck (s : State) (i : Nat) : State := s.setStw i { s.stw i with held := none }

def execStwRecPop (a : Agent) (i : Fin 6) (_w : Word) (s : State) : Out :=
  done (s.access a (stwOff i + 0x20) fun s => recPop s i)
def execStwRecAck (a : Agent) (i : Fin 6) (_w : Word) (s : State) : Out :=
  done (s.access a (stwOff i + 0x24) fun s => recAck s i)

/-! The log (R426). -/

/-- A steward's record: the eight payload words and the trace ID. -/
def logSubmit (s : State) (i : Nat) (w : Word) : State :=
  s.logRec (w.toNat % 2 ^ 16) i 0 0 0 ((List.range 8).map fun k => (s.rd .STW_LOG_SUBMIT (8 * i + k)).toNat)

def execStwLogSubmitId (a : Agent) (i : Fin 6) (w : Word) (s : State) : Out :=
  done (s.access a (stwOff i + 0x80) fun s => logSubmit s i w)

end Sys2Proof.Machine
end

