-- ==== Sys2Proof/Machine/Power.lean ====
section
/-! DEFINITION. The package power controller, thermal and alert emergencies, the pins, resets and start-up (R454 to R471,
R490, R492). -/
namespace Sys2Proof.Machine
open Sys2Proof

/-! VCORE commands: codes of 5 mV above 0.60 V (PWR_VCORE.CMD0, CMD1). -/

def vcmd (s : State) (d : Nat) : Nat := s.fget (if d = 0 then F.PWR_VCORE_CMD0 else F.PWR_VCORE_CMD1) 0
def setVcmd (s : State) (d v : Nat) : State := s.fset (if d = 0 then F.PWR_VCORE_CMD0 else F.PWR_VCORE_CMD1) 0 v
/-- No command yet. -/
def vcmdNone : Nat := 0xFF
/-- 0.635 V and 0.615 V. -/
def vcmdLow : Nat := 7
def vcmdEmergency : Nat := 3

def vlim (s : State) (d : Nat) : Nat := s.power.lims.getD d 37
/-- The command of VSET, and the lower of it and the limiter's (R457). -/
def vnormal (s : State) (d : Nat) : Nat := s.power.vset.getD d 13 + 7
def vtarget (s : State) (d : Nat) : Nat := min (vnormal s d) (vlim s d)

def emergency (s : State) : Bool := s.fbit F.PWR_STATUS_EMERGENCY 0

/-- A condition of R462 is set. -/
def alarm (s : State) : Bool := s.fbit F.PWR_STATUS_ALERT 0 || s.fbit F.PWR_STATUS_TRIP 0 || s.fbit F.PWR_STATUS_CRIT 0

/-- PWR_LIMIT and PWR_VCORE as written take effect (R460). -/
def takePower (s : State) : State :=
  { s with power := { s.power with
      limit := s.fget F.PWR_LIMIT_WATTS 0
      vset := [s.fget F.PWR_VCORE_VSET0 0, s.fget F.PWR_VCORE_VSET1 0] } }

/-- P is above the limit (R458): VCORE first, then the duty. -/
def limitDown (s : State) : State :=
  let lower := fun (d : Nat) => max vcmdLow (min (vlim s d) (vnormal s d) - 1)
  if vtarget s 0 = vcmdLow && vtarget s 1 = vcmdLow then
    let d := s.fget F.PWR_STATUS_DUTY 0
    if 12 ≤ d then s
    else
      let s := s.fset F.PWR_STATUS_DUTY 0 (d + 1)
      if d = 0 then s.pwrEvt 4 else s
  else { s with power := { s.power with lims := [lower 0, lower 1] } }

/-- P is below 98% of the limit: the duty first, then VCORE towards VSET. -/
def limitUp (s : State) : State :=
  let d := s.fget F.PWR_STATUS_DUTY 0
  if d ≠ 0 then s.fset F.PWR_STATUS_DUTY 0 (d - 1)
  else { s with power := { s.power with lims := [min 37 (vlim s 0 + 1), min 37 (vlim s 1 + 1)] } }

/-- A command falls to its target in one step; raises are steps of their own. -/
def lowerCmd (s : State) (d : Nat) : State :=
  if vcmd s d ≠ vcmdNone && decide (vtarget s d < vcmd s d) then setVcmd s d (vtarget s d) else s

def powerInterval (s : State) (watts : Nat) : State :=
  let s := if emergency s then s else takePower s
  let s := s.fset F.PWR_POWER_WATTS 0 (min 65535 watts)
  let s :=
    if s.power.limit < watts then limitDown s
    else if watts * 100 < 98 * s.power.limit then limitUp s else s
  if emergency s then s else lowerCmd (lowerCmd s 0) 1

def execPowerInterval (watts : Nat) (s : State) : Out := done (powerInterval s watts)

def execVcoreRampStep (d : Fin 2) (s : State) : Out :=
  if !emergency s && vcmd s d ≠ vcmdNone && decide (vcmd s d < vtarget s d) then done (setVcmd s d (vcmd s d + 1)) else done s

/-- A fault bit of STATUS_WORD (R456). -/
def execVrStatusPoll (bad0 bad1 : Bool) (s : State) : Out :=
  let s := if bad0 then s.pwrEvt 7 else s
  done (if bad1 then s.pwrEvt 7 else s)

/-- A transaction failed `fails` times: three retries at most, the fourth failure is an event (R456). -/
def execPmbusTransaction (_reg : Fin 2) (_cmd : PmCmd) (fails : Nat) (s : State) : Out :=
  let s := s.finc F.PWR_COUNTS_VR_RETRY 0 (min fails 3)
  done (if 4 ≤ fails then s.pwrEvt 6 else s)

/-! Emergencies (R461 to R463). -/

/-- A condition set: the emergency is active, issue is gated, and 0.615 V is commanded in one step. -/
def enterEmergency (s : State) : State :=
  let s := (s.fset F.PWR_STATUS_EMERGENCY 0 1).fset F.PWR_STATUS_GATED 0 1
  let s := if vcmd s 0 = vcmdNone then s else setVcmd s 0 vcmdEmergency
  if vcmd s 1 = vcmdNone then s else setVcmd s 1 vcmdEmergency

/-- Highest report of the eleven dies; below 0 it reads 0. -/
def tjMax (ts : List Int) : Nat := (ts.foldl max (ts.headD 0)).toNat

/-- Temperatures with one die's report; a die that has not reported holds 0 (log entry 6). -/
def putTemp (ts : List Int) (d : Nat) (t : Int) : List Int :=
  (List.range 11).map fun i => if i = d then t else ts.getD i 0

/-- Warning: a condition with an event and no emergency. -/
def warnCheck (s : State) (tj : Nat) : State :=
  let w := s.fget F.PWR_THERM_WARN 0
  if !s.fbit F.PWR_STATUS_WARN 0 && w ≤ tj then (s.fset F.PWR_STATUS_WARN 0 1).pwrEvt 3
  else if s.fbit F.PWR_STATUS_WARN 0 && tj + 2 < w then s.fset F.PWR_STATUS_WARN 0 0
  else s

def tripCheck (s : State) (tj : Nat) : State :=
  if !s.fbit F.PWR_STATUS_TRIP 0 && 108 ≤ tj then
    enterEmergency (((s.fset F.PWR_STATUS_TRIP 0 1).finc F.PWR_COUNTS_TRIPS 0 1).pwrEvt 1)
  else if tj ≤ 103 then s.fset F.PWR_STATUS_TRIP 0 0
  else s

def critCheck (s : State) (tj : Nat) : State :=
  if !s.fbit F.PWR_STATUS_CRIT 0 && 115 ≤ tj then enterEmergency ((s.fset F.PWR_STATUS_CRIT 0 1).pwrEvt 2)
  else if tj ≤ 100 then s.fset F.PWR_STATUS_CRIT 0 0
  else s

def thermalReport (s : State) (d : Nat) (t : Int) : State :=
  let ts := putTemp s.power.temps d t
  let tj := tjMax ts
  let s := { s with power := { s.power with temps := ts } }.fset F.PWR_THERM_TJ_MAX 0 (min 255 tj)
  critCheck (tripCheck (warnCheck s tj) tj) tj

def execThermalReport (die : Fin 11) (celsius : Int) (s : State) : Out := done (thermalReport s die celsius)

def execPwrAlertAssert (s : State) : Out :=
  if s.fbit F.PWR_STATUS_ALERT 0 then done s
  else done (enterEmergency (((s.fset F.PWR_STATUS_ALERT 0 1).finc F.PWR_COUNTS_ALERTS 0 1).pwrEvt 0))

def execPwrAlertDeassert (s : State) : Out := done (s.fset F.PWR_STATUS_ALERT 0 0)

/-- The gate lifts 10 µs after the last condition, unless VR_BUS holds it (R456, R463). -/
def execGateLift (s : State) : Out :=
  done (if alarm s || bitOf (s.rd .PWR_EVENT 0).toNat 6 then s else s.fset F.PWR_STATUS_GATED 0 0)

/-- The emergency ends: deferred writes take effect and a deferred activation proceeds (R424, R460, R462). -/
def emergencyEnd (s : State) : State :=
  let s := ((s.fset F.PWR_STATUS_EMERGENCY 0 0).fset F.PWR_STATUS_GATED 0 0).pwrEvt 5
  let s := takePower s
  if s.fget F.STW_ACT_STATUS_STATE 0 = 1 then beginActivating s else s

def execEmergencyEnd (s : State) : Out := done (if emergency s && !alarm s then emergencyEnd s else s)

/-! REFCLK (R492). -/

def execRefclkLoss (s : State) : Out := done { s with power := { s.power with refclkLost := true } }
def execRefclkReturn (s : State) : Out := done { s with power := { s.power with refclkLost := false } }

/-! Pins (R470). -/

/-- A filtered pulse of RESET_N or PWR_ALERT_N counts; on the other pins it is only ignored. -/
def execPinGlitch (pin : FPin) (s : State) : Out :=
  match pin with
  | .resetN | .pwrAlertN => done ((s.finc F.HUB_INCHK_COUNTS_GLITCH 0 1).inchkEvt 1)
  | .trstN | .i3c => done s

/-- A strap change after sampling is ignored and counts. -/
def execStrapChange (_master : Bool) (_slot : BitVec 5) (s : State) : Out :=
  done ((s.finc F.HUB_INCHK_COUNTS_STRAP 0 1).inchkEvt 2)

/-! Resets (R465, R466). -/

/-- Fields that carry a running emergency through every reset (R466). -/
def emergencyFields : List Fld :=
  [F.PWR_STATUS_EMERGENCY, F.PWR_STATUS_ALERT, F.PWR_STATUS_TRIP, F.PWR_STATUS_CRIT, F.PWR_STATUS_GATED,
   F.PWR_VCORE_CMD0, F.PWR_VCORE_CMD1, F.PWR_THERM_TJ_MAX]

def copyFields (s t : State) (fs : List Fld) : State := fs.foldl (fun t f => t.fset f 0 (s.fget f 0)) t

/-- A cold reset with RESET_N low: the module record and a running emergency stay; the commands that wait, the numbering of
free values and the JTAG port are outside it. -/
def coldState (s : State) : State :=
  let t := { State.reset with
    pending := s.pending, free := s.free, modrec := s.modrec, jtag := s.jtag
    power := { noPower with temps := if emergency s then s.power.temps else [], refclkLost := s.power.refclkLost } }
  if emergency s then copyFields s t emergencyFields else t

def execColdReset (s : State) : Out := done (coldState s)
def execVauxLoss (s : State) : Out := done (coldState s)

/-- Registers that a warm reset keeps whole (R41, R290, R303, R391, R428, R453, R465, R483). -/
def warmRegs : List Reg :=
  [.PAT_EXCLUDED_DIE0, .PAT_EXCLUDED_DIE1, .PAT_GENERATION, .FELT_FIXED, .ICNT_LO, .ICNT_HI, .DIE_ID, .LNK_CONFIG,
   .LNK_STATUS, .PWR_LIMIT, .PWR_VCORE, .PWR_THERM, .PWR_EVENT_EN, .FLT_CTRL, .FLT_CORE_WINDOW, .STW_LOG_WR, .SEC_MEAS]

def keepRegs (s : State) (rs : List Reg) : List (Nat × Word) :=
  s.regs.filter fun (e : Nat × Word) => rs.any fun r => e.1 % 512 == r.idx

/-- Fields of copy 0 that a warm reset keeps beside them. -/
def warmFields : List Fld :=
  [F.PWR_STATUS_EMERGENCY, F.PWR_STATUS_ALERT, F.PWR_STATUS_TRIP, F.PWR_STATUS_CRIT, F.PWR_STATUS_WARN,
   F.PWR_STATUS_GATED, F.SEC_STATUS_KEY_REGISTERED, F.SEC_STATUS_DEBUG, F.SEC_STATUS_LOG_OVERFLOW,
   F.SEC_LOG_COUNT_OVERFLOW, F.LNK_FABRIC_MASTER, F.LNK_FABRIC_SLOT_ID, F.HUB_BOOT_STATUS_DRAM_DONE,
   F.HUB_BOOT_STATUS_REPAIR_EMPTY]

/-- Trims stay applied. -/
def keepTrims (s t : State) : State :=
  (List.range 11).foldl (fun t d => (t.fset F.ICNT_STATUS_TRIMMED d (s.fget F.ICNT_STATUS_TRIMMED d)).fset F.ICNT_STATUS_TRIM d
    (s.fget F.ICNT_STATUS_TRIM d)) t

/-- The master's own ID is valid from reset (R388). -/
def masterIdentity (s : State) : State :=
  if s.isMaster then (s.fset F.LNK_FABRIC_DEVICE_ID 0 s.masterId).fset F.LNK_FABRIC_ID_VALID 0 1 else s

/-- Cores lose what they hold: words that something was kept of take free values. -/
def warmCores (s : State) : List (Nat × Core) :=
  s.cores.map fun (e : Nat × Core) => (e.1, { noCore with lost := s.freeNum + 1 })

/-- Descriptors of the handles whose pages a warm reset keeps, for the load that follows (R303). -/
def descsToKeep (s : State) : List (Nat × List Byte) :=
  ((s.pages.map (·.handle)).foldl addTo []).filterMap fun h => (formerDesc s h).map fun d => (h, d)

/-- The state after a warm reset. -/
def warmState (s : State) : State :=
  let n := s.sec.warms + 1
  let t := { State.reset with
    pending := s.pending, free := s.free + 1, readback := s.readback
    regs := keepRegs s warmRegs
    dram := s.dram, tens := s.tens, badPhys := s.badPhys, badTens := s.badTens
    pages := s.pages.map fun (x : Page) => { x with moving := none }
    keptDescs := descsToKeep s, coldPorts := s.coldPorts
    repair := s.repair, modrec := s.modrec, trkSaved := s.trkSaved, cores := warmCores s, ports := s.ports
    power := s.power
    sec := { noSec with log := s.sec.log, key := s.sec.key, warms := n }
    jtag := s.jtag, pins := { s.pins with attnLow := false } }
  let t := masterIdentity (keepTrims s (copyFields s t warmFields))
  let t := (t.fset F.HUB_BOOT_STATUS_WARM 0 1).fset F.HUB_BOOT_STATUS_WARM_COUNT 0 n
  t.measure 0x0050 0 (sha256 (leBytes 4 n))

/-- A WARM_RESET packet: from a host or from the ID of the group's master, and only once start-up has ended (R466). -/
def warmHere (p : Nat) (s : State) (q : Packet) : State :=
  let allowed := q.host || (s.idValid && q.src.toNat == s.masterId)
  if !allowed || s.fget F.HUB_BOOT_STATUS_PHASE 0 ≠ 4 then badPacket s p else warmState s

def execWarmReset (port : Fin 16) (pkt : Packet) (s : State) : Out :=
  done (arrive s port { pkt with typ := 0x24 } (warmHere port))

/-! Start-up (R467, R468, R471). -/

def bootPhase (s : State) : Nat := s.fget F.HUB_BOOT_STATUS_PHASE 0
def setPhase (s : State) (n : Nat) : State := s.fset F.HUB_BOOT_STATUS_PHASE 0 n
def halted (s : State) (code : Nat) : State := (setPhase s 5).fset F.HUB_BOOT_STATUS_ERROR 0 code

/-- The rising edge of RESET_N samples the straps. -/
def execResetNRelease (master : Bool) (slot : BitVec 5) (s : State) : Out :=
  if !s.pins.resetLow then done s
  else
    let s := { s with
      pins := { s.pins with resetLow := false, strapMaster := master, strapSlot := slot }
      jtag := { s.jtag with driven := false, floating := false } }
    done (masterIdentity ((s.fset F.LNK_FABRIC_MASTER 0 (b2n master)).fset F.LNK_FABRIC_SLOT_ID 0 slot.toNat))

/-- The boot ROM has checked itself; a warm reset skips RECORD. -/
def execRomDone (s : State) : Out :=
  if s.pins.resetLow || bootPhase s ≠ 0 then done s
  else if s.fbit F.HUB_BOOT_STATUS_WARM 0 then done (setPhase s 2)
  else done (setPhase (s.measure 0x0001 0 ((List.range 32).map Config.romDigest)) 1)

/-- A repair region is valid (R471). -/
def repairSeq (b : List Byte) : Nat := leAt b 4 4
def repairCount (b : List Byte) : Nat := leAt b 8 4
def repairValid (b : List Byte) : Bool :=
  b.length == 65536 && leAt b 0 4 == 0x52505257 && repairCount b ≤ 8000 && sha256 (b.take 65504) == b.drop 65504

/-- Physical cores that the entries of kind 0x01 name. -/
def repairCores (b : List Byte) : List Nat :=
  (List.range (repairCount b)).filterMap fun i =>
    let e := sliceB b (16 + 8 * i) 8
    let d := leAt e 1 1
    let r := leAt e 2 1
    let k := leAt e 3 1
    if leAt e 0 1 = 1 && d < 2 && r < 16 && k < 33 then some (d * 528 + r * 33 + k) else none

/-- The valid copy with the higher SEQ. -/
def chosenRepair (m : ModRec) : Option (List Byte) :=
  if repairValid m.repairA && repairValid m.repairB then
    some (if repairSeq m.repairA < repairSeq m.repairB then m.repairB else m.repairA)
  else if repairValid m.repairA then some m.repairA
  else if repairValid m.repairB then some m.repairB
  else none

/-- Trims and stepping of the factory region reach every die. -/
def applyTrims (s : State) : State :=
  (List.range 11).foldl (fun s d => ((s.fset F.ICNT_STATUS_TRIMMED d 1).fset F.ICNT_STATUS_TRIM d
    (s.modrec.trims.getD d 0x80).toNat).fset F.DIE_ID_STEPPING d s.modrec.stepping.toNat) s

/-- The repair copy in use, and its measurement. -/
def applyRepair (s : State) : State :=
  match chosenRepair s.modrec with
  | some b => { s with repair := repairCores b }.measure 0x0003 0 (sha256 b)
  | none => s.fset F.HUB_BOOT_STATUS_REPAIR_EMPTY 0 1

/-- The first commands of both regulators. -/
def firstCmd (s : State) (d : Nat) : State := setVcmd s d (if emergency s then vcmdEmergency else vnormal s d)

def recordDone (s : State) (voutModeOk : Bool) : State :=
  if !s.modrec.factoryOk then halted s 1
  else
    let s := (applyTrims s).measure 0x0002 0 ((List.range 32).map Config.factoryDigest)
    if !s.modrec.identityOk then halted s 5
    else
      let s := applyRepair s
      if !voutModeOk then halted s 3
      else
        let s := (List.range 16).foldl startPort (firstCmd (firstCmd s 0) 1)
        setPhase { s with coldPorts := List.range 16 } 2

def execRecordDone (voutModeOk : Bool) (s : State) : Out :=
  done (if bootPhase s = 1 then recordDone s voutModeOk else s)

/-- DRAM training starts at the end of RECORD and runs beside the later phases. -/
def execDramTrainingDone (ok : Bool) (s : State) : Out :=
  if bootPhase s < 2 || bootPhase s = 5 || s.fbit F.HUB_BOOT_STATUS_DRAM_DONE 0 then done s
  else done (if ok then s.fset F.HUB_BOOT_STATUS_DRAM_DONE 0 1 else halted s 4)

/-- Every port has come up or failed. -/
def portsSettled (s : State) : Bool :=
  (List.range 16).all fun p => s.lstate p != lsTraining && s.lstate p != lsRetraining

def execLinksDone (s : State) : Out := done (if bootPhase s = 2 && portsSettled s then setPhase s 3 else s)

def execReady (s : State) : Out :=
  done (if bootPhase s = 3 && s.fbit F.HUB_BOOT_STATUS_DRAM_DONE 0 && s.swState 0 == swRunning then setPhase s 4 else s)

end Sys2Proof.Machine
end

