-- ==== Sys2Proof/Machine/Security.lean ====
section
/-! DEFINITION. The security block, the I3C common command codes and the JTAG port but for its control accesses (R472 to
R482). -/
namespace Sys2Proof.Machine
open Sys2Proof

/-- A host context over the links (R477, R478). -/
def fromHost : Agent → Bool
  | .link _ _ h _ => h
  | _ => false

/-- A refused SEC_ command: out of range, and counted. -/
def secRefuse (s : State) (a : Agent) (off : Nat) : State := (s.outOfRange a off).finc F.SEC_COUNTS_REFUSED 0 1

/-! Attestation (R476). -/

def attBusy (s : State) : Bool := s.fget F.SEC_STATUS_ATTEST 0 == 1

def wordsBytes (s : State) (r : Reg) (n : Nat) : List Byte := (List.range n).flatMap fun i => leBytes 4 (s.rd r i).toNat

/-- The report without its signature. -/
def reportBody (s : State) : List Byte :=
  leBytes 4 0x54544157 ++ leBytes 4 1 ++ leBytes 8 s.modrec.serial.toNat ++ (List.range 48).map Config.deviceKey ++
    wordsBytes s .SEC_NONCE 8 ++ measBytes s ++ leBytes 4 s.sec.log.length ++
    leBytes 4 (s.fget F.SEC_LOG_COUNT_OVERFLOW 0) ++ leBytes 8 (s.icnt 0) ++ List.replicate 48 0 ++ s.sec.log.flatten

def attestNow (s : State) : State :=
  { s with sec := { s.sec with snap := reportBody s } }.fset F.SEC_STATUS_ATTEST 0 1

def execAttestDone (s : State) : Out :=
  if !attBusy s then done s
  else
    let x := s.sec.snap
    let sig := (List.range 16224).map (Config.slhSign (sha256 x))
    let s := { s with sec := { s.sec with snap := [], report := x ++ sig } }
    done (((s.fset F.SEC_STATUS_ATTEST 0 2).finc F.SEC_COUNTS_ATTESTS 0 1).secEvt 0)

/-- A word of the report window: 0 while a report is being made. -/
def reportWord (s : State) (off : Nat) : Word := if attBusy s then 0 else BitVec.ofNat 32 (leAt s.sec.report off 4)

/-! SEC_CTRL (R476 to R478). -/

def mayRegister (s : State) (a : Agent) : Bool := fromHost a && s.rd .PAT_GENERATION 0 == 0 && s.sec.key.isNone

def registerNow (s : State) : State :=
  let k := wordsBytes s .SEC_PKEY 12
  ({ s with sec := { s.sec with key := some k } }.fset F.SEC_STATUS_KEY_REGISTERED 0 1).measure 0x0030 0 (sha256 k)

def debugNow (s : State) : State := ((s.fset F.SEC_STATUS_DEBUG 0 1).secEvt 2).measure 0x0040 0 []

/-- A write to SEC_CTRL: one refused command refuses the write (R469). -/
def secCtrl (s : State) (a : Agent) (w : Word) : State :=
  let b := bitOf w.toNat
  if (b 0 && attBusy s) || (b 1 && !mayRegister s a) || (b 2 && !fromHost a) then secRefuse s a 0x00070000
  else
    let s := if b 0 then attestNow s else s
    let s := if b 1 then registerNow s else s
    if b 2 then debugNow s else s

def execAttest (a : Agent) (w : Word) (s : State) : Out := done (s.access a 0x00070000 fun s => secCtrl s a (w ||| 1))
def execRegisterKey (a : Agent) (w : Word) (s : State) : Out :=
  done (s.access a 0x00070000 fun s => secCtrl s a (w ||| 2))
def execDebugEn (a : Agent) (w : Word) (s : State) : Out := done (s.access a 0x00070000 fun s => secCtrl s a (w ||| 4))

/-- A write to a key word: refused once a key is registered. -/
def pkeyWrite (s : State) (a : Agent) (i : Nat) (w : Word) : State :=
  if s.sec.key.isSome then secRefuse s a (0x00070060 + 4 * i) else s.wr .SEC_PKEY i w

/-! The repair write (R472). -/

def setArmed (s : State) (v : Bool) : State := { s with sec := { s.sec with armed := v } }

def recKey (s : State) (w : Word) : State := if w = 0x4E50 then setArmed s true else s

def execSecRecKey (a : Agent) (w : Word) (s : State) : Out := done (s.access a 0x00070090 fun s => recKey s w)

def recBusy (s : State) : Bool := s.fget F.SEC_STATUS_REC 0 == 1

/-- A write to SEC_REC_CTRL: only an armed WRITE starts; the unlock serves one write. -/
def recCtrl (s : State) (a : Agent) (w : Word) : State :=
  if !(s.sec.armed && bitOf w.toNat 0) || recBusy s then secRefuse (setArmed s false) a 0x00070094
  else
    let ok := !s.fbit F.PAT_STATUS_LOADED 0 && (fromHost a || a == .jtag)
    { s with sec := { s.sec with armed := false, recSrc := bits w.toNat 1 18 * 2 ^ 21, recOk := ok } }.fset F.SEC_STATUS_REC 0 1

def execRecWrite (a : Agent) (w : Word) (s : State) : Out := done (s.access a 0x00070094 fun s => recCtrl s a (w ||| 1))

def execRecUnlockExpire (s : State) : Out := done (setArmed s false)

/-- The copy that a new image replaces: the invalid one, else that with the lower SEQ. -/
def writeRepair (m : ModRec) (b : List Byte) : ModRec :=
  if !repairValid m.repairA || (repairValid m.repairB && repairSeq m.repairA ≤ repairSeq m.repairB) then { m with repairA := b }
  else { m with repairB := b }

def execRecWriteDone (s : State) : Out :=
  if !recBusy s then done s
  else
    let b := s.dramRead s.sec.recSrc 65536
    let clean := s.inFixed s.sec.recSrc 65536 && (badAmong s.badPhys s.sec.recSrc 65536).isEmpty
    let s :=
      if s.sec.recOk && clean && repairValid b then
        { s with modrec := writeRepair s.modrec b }.fset F.SEC_STATUS_REC 0 2
      else s.fset F.SEC_STATUS_REC 0 3
    done ((s.secEvt 3).measure 0x0041 0 (sha256 b))

/-! I3C common command codes (R479). -/

def slotId (s : State) : Nat := s.fget F.LNK_FABRIC_SLOT_ID 0
def i3cAnswer (s : State) (b : List Byte) : State := { s with i3c := { s.i3c with resp := b } }

def execEntdaa (addr : BitVec 7) (s : State) : Out :=
  done (if s.i3c.dyn.isNone then { s with i3c := { s.i3c with dyn := some addr } } else s)

/-- Only the target with this static address, and no dynamic one yet, takes it. -/
def execSetdasa (static addr : BitVec 7) (s : State) : Out :=
  done (if s.i3c.dyn.isNone && static.toNat == 0x40 + slotId s then { s with i3c := { s.i3c with dyn := some addr } } else s)

def execRstdaa (s : State) : Out := done { s with i3c := { s.i3c with dyn := none } }

/-- Enabling interrupts while ATTN_N is asserted raises one. -/
def execEnec (s : State) : Out :=
  let now := s.pins.attnLow && attnActive s != 0
  done { s with i3c := { s.i3c with
    ibiEn := true, ibi := if now then some (BitVec.ofNat 8 (lowBit (attnActive s))) else s.i3c.ibi } }

def execDisec (s : State) : Out := done { s with i3c := { s.i3c with ibiEn := false } }

/-- The Provisional ID, most significant byte first (log entry 23). -/
def execGetpid (s : State) : Out :=
  done (i3cAnswer s (leBytes 6 (Config.mipiPid (BitVec.ofNat 5 (slotId s))).toNat).reverse)
def execGetbcr (s : State) : Out := done (i3cAnswer s [0x06])
def execGetdcr (s : State) : Out := done (i3cAnswer s [0x00])

/-- Contents that the manual does not give; the lengths are those of I3C Basic (log entry 23). -/
def execGetstatus (s : State) : Out := done (i3cAnswer s [Config.cccAnswer 0 0, Config.cccAnswer 0 1])
def execGetmwl (s : State) : Out := done (i3cAnswer s [Config.cccAnswer 1 0, Config.cccAnswer 1 1])
def execGetmrl (s : State) : Out :=
  done (i3cAnswer s [Config.cccAnswer 2 0, Config.cccAnswer 2 1, Config.cccAnswer 2 2])

/-! JTAG (R481, R482). -/

/-- Select an instruction; pins are driven or floated only by EXTEST and HIGHZ. -/
def setIr (s : State) (x : JtagIr) : State :=
  { s with jtag := { s.jtag with ir := x, driven := x == .extest, floating := x == .highz } }

def execBypass (s : State) : Out := done { setIr s .bypass with jtag := { (setIr s .bypass).jtag with bypassBit := false } }

def idWord (s : State) : Word :=
  BitVec.ofNat 32 (1 + Config.jedecId.toNat * 2 ^ 1 + 0x7100 * 2 ^ 12 + s.modrec.stepping.toNat % 16 * 2 ^ 28)

def execIdcode (s : State) : Out := done { setIr s .idcode with jtag := { (setIr s .idcode).jtag with idcode := idWord s } }

/-- The scan register captures the pins, whose levels are free. -/
def execSamplePreload (s : State) : Out :=
  let x := (List.range Config.scanLen).map (Config.scanBit s.freeNum)
  done ({ setIr s .sample with jtag := { (setIr s .sample).jtag with scan := x } }.useFree 1)

/-- EXTEST and HIGHZ act only while RESET_N is low; else as BYPASS. -/
def execExtest (s : State) : Out := done (setIr s (if s.pins.resetLow then .extest else .bypass))
def execHighz (s : State) : Out := done (setIr s (if s.pins.resetLow then .highz else .bypass))

def execTapReset (s : State) : Out := done (setIr s .idcode)

/-- Fields of the debug register. -/
def drCore (dr : BitVec 128) : Nat := bits dr.toNat 2 11
def drAddr (dr : BitVec 128) : Nat := bits dr.toNat 13 29
def drData (dr : BitVec 128) : DWord := BitVec.ofNat 64 (dr.toNat / 2 ^ 64)

/-- What the next Capture-DR returns: data, and bit 2 on an error. -/
def setCapture (s : State) (data : DWord) (err : Bool) : State :=
  { s with jtag := { s.jtag with capture := BitVec.ofNat 128 (data.toNat * 2 ^ 64 + b2n err * 4) } }

/-- A debug operation: while DEBUG is 0 it acts as BYPASS and counts. -/
def debugOp (s : State) (f : State → State) : State :=
  if !s.fbit F.SEC_STATUS_DEBUG 0 then (setIr s .bypass).finc F.SEC_COUNTS_REFUSED 0 1 else f (setIr s .debug)

/-- Words of a local store (R309); unwritten ones hold 0 after reset and free values after a stop. -/
def storeWord (s : State) (c i : Nat) : DWord :=
  let x := s.core c
  (spGet (fun _ => none) x.store i).getD (if x.lost = 0 then 0 else Config.lostWord x.lost i)

/-- The core and the word exist. -/
def lsOk (dr : BitVec 128) : Bool := drCore dr < 1056 && drAddr dr < 98304

/-- The streams of a panel that runs use the local stores of its cores: what they hold is free. -/
def storeInUse (s : State) (c : Nat) : Bool :=
  match s.ownerOf c with | some p => s.pstate p == psRunning || s.pstate p == psStopping | none => false

def debugRead (s : State) (dr : BitVec 128) : State :=
  if !lsOk dr then setCapture s 0 true
  else if storeInUse s (drCore dr) then
    (setCapture s (Config.lostWord (s.freeNum + 1) (drAddr dr)) false).useFree 1
  else setCapture s (storeWord s (drCore dr) (drAddr dr)) false

def execDebugLsRead (dr : BitVec 128) (s : State) : Out := done (debugOp s fun s => debugRead s dr)

def debugWrite (s : State) (dr : BitVec 128) : State :=
  if !lsOk dr then setCapture s 0 true
  else
    let c := drCore dr
    let x := s.core c
    let s := setCapture (s.setCore c { x with
      store := spSet (fun _ => none) x.store (drAddr dr) (some (drData dr))
      ded := updWhere (·.1 == drAddr dr) (fun e => (e.1, true)) x.ded }) 0 false
    match s.ownerOf c with
    | some p => if storeInUse s c then s.panelFault p else s
    | none => s

def execDebugLsWrite (dr : BitVec 128) (s : State) : Out := done (debugOp s fun s => debugWrite s dr)

end Sys2Proof.Machine
end

