-- ==== Sys2Proof/Machine/Units.lean ====
section
/-! DEFINITION. The walk of units on a core: fetch from the skein, records, the arrays and their arbitration, completion and
delivery (R203, R204, R207, R208, R212, R213). -/
namespace Sys2Proof.Machine
open Sys2Proof

/-! Units of every operation that walks. -/

def isProduct (op : Nat) : Bool := decide (1 ≤ op) && decide (op ≤ 4)

/-- An operation whose units cores take from the skein one by one. -/
def walks (op : Nat) : Bool := isProduct op || op == 0x08 || op == 0x09 || op == 0x10 || op == 0x11 || op == 0x18 || op == 0x19

/-- Place of unit t. -/
def unitSpot (s : State) (f : Flight) (t : Nat) : Spot :=
  match miOpcode f.mi with
  | 0x08 | 0x09 => attSpot s f t
  | 0x18 | 0x19 => gatherSpot s f t
  | 0x11 => if isRowFn (vecFn f.mi) then rowSpot f t (dDim (descOf s (miSrc f.mi 0)) 2) (shp f 1) (shp f 0) else spotOf s f t
  | _ => spotOf s f t

/-- No row of the unit lies within the run-time shape. -/
def rowsEmpty (f : Flight) (x : Spot) : Bool := decide (x.r1 ≤ x.r0) || decide (shp f 3 ≤ x.f2) || decide (shp f 4 ≤ x.f3)

/-- A unit of the KV phase is empty without live keys, or without a live query head of its key head. -/
def keysEmpty (s : State) (f : Flight) (x : Spot) : Bool :=
  let dq := descOf s (miSrc f.mi 0); let dk := descOf s (miSrc f.mi 1)
  decide (x.r1 ≤ x.r0) || decide (shp f 4 ≤ x.f3) || !(List.range (shp f 3)).any fun h => keyHead (dDim dq 2) (dDim dk 2) h == x.f2

/-- The unit lies wholly outside the run-time shape (R194, R203). -/
def unitEmpty (s : State) (f : Flight) (x : Spot) : Bool :=
  match miOpcode f.mi with
  | 0x08 => rowsEmpty f x
  | 0x09 => if bwPhase f.mi = 1 then keysEmpty s f x else rowsEmpty f x
  | 0x18 | 0x19 => decide (x.r1 ≤ x.r0) || decide (x.c1 ≤ x.c0)
  | 0x11 => if isRowFn (vecFn f.mi) then rowsEmpty f x else spotEmpty f x
  | _ => spotEmpty f x

/-- The array of a unit that is no product's: the scores of ATTEND run on Gauze, diverted ones on Tweed (R219, R223); an
ATTEND_BWD unit holds Tweed for the whole unit, its DOT the vector unit (R226, R227). -/
def arrOf (s : State) (f : Flight) : Arr :=
  match miOpcode f.mi with
  | 0x08 => if attDiverts s f.mi then .tweed else .gauze
  | 0x09 => if bwPhase f.mi = 0 then .vector else .tweed
  | 0x11 => .vector
  | _ => .other

/-- What a unit of an operation other than a product does. -/
def unitOut (s : State) (f : Flight) (x : Spot) : UnitOut :=
  match miOpcode f.mi with
  | 0x08 => attendOut s f x
  | 0x09 => match bwPhase f.mi with | 0 => dotOut s f x | 1 => bwKvOut s f x | _ => bwQOut s f x
  | 0x10 => convertOut s f x
  | 0x11 => vectorOut s f x
  | k => rowsOut (k == 0x18) s f x

/-! Arrays (R212). -/

/-- Streams by the start of their last tile on an array, the least recent first. -/
def Core.order (x : Core) : Arr → List Strm
  | .gauze => x.gzOrder | .tweed => x.twOrder | .vector => x.vecOrder | .other => []

def Core.setOrder (x : Core) (l : List Strm) : Arr → Core
  | .gauze => { x with gzOrder := l } | .tweed => { x with twOrder := l } | .vector => { x with vecOrder := l } | .other => x

/-- A fetched unit that waits for an array. -/
def UnitRec.waits (u : UnitRec) (a : Arr) : Bool := u.arr == a && !u.running && !u.acc.isEmpty

/-- An idle array starts the waiting tile of the stream that least recently started one on it; streams that have started
none come first, F before B before U (DESIGN CHOICE, log entry 158). -/
def pumpArr (s : State) (c : Nat) (a : Arr) : State :=
  let x := s.core c
  if [Strm.F, .B, .U].any fun st => (x.stream st).units.any fun u => u.arr == a && u.running then s
  else
    let old := x.order a
    match (([Strm.F, .B, .U].filter fun st => !old.contains st) ++ old).find? fun st => (x.stream st).units.any (·.waits a) with
    | none => s
    | some st =>
      let y := x.stream st
      let us := match y.units.findIdx? (·.waits a) with
        | some i => (List.range y.units.length).filterMap fun k =>
            (y.units[k]?).map fun u => if k == i then { u with running := true } else u
        | none => y.units
      s.setCore c ((x.setStream st { y with units := us }).setOrder (old.filter (· != st) ++ [st]) a)

def pumpArrays (s : State) (c : Nat) : State := [Arr.gauze, .tweed, .vector].foldl (fun s a => pumpArr s c a) s

/-! Fetch and completion. -/

/-- Stage unit t on core c. A product's operands are read now; those of the other operations when the unit completes (log
entry 25). -/
def stageUnit (s : State) (c : Nat) (st : Strm) (f : Flight) (t : Nat) (put : State → UnitRec → State) (replay : Bool) : State :=
  if isProduct (miOpcode f.mi) then runUnit s c st f t put replay
  else
    let a := arrOf s f
    put s ⟨f.id, t, replay, a == .other, miRef f.mi, a, [[]], Cnt.none⟩

/-- The next unit of a stream: a replay that is due first; else a new index while fewer than two are recorded. -/
def fetchNext (s : State) (c : Nat) (st : Strm) : State :=
  let x := (s.core c).stream st
  match x.units.findIdx? (fun u => u.acc.isEmpty) with
  | some i =>
    match x.units[i]? with
    | none => s
    | some u =>
      match s.flight u.flight with
      | none => setUnits s c st (x.units.eraseIdx i)
      | some f => stageUnit s c st f u.unit (fun s r => setUnits s c st (((s.core c).stream st).units.set i r)) true
  | none =>
    match x.flight.bind s.flight with
    | none => s
    | some f =>
      if !walks (miOpcode f.mi) || 2 ≤ x.units.length || s.excluded c then s
      else if f.plan.units ≤ f.next then s.walkEnd f.id c
      else
        let t := f.next
        let s := s.updFlight f.id fun f => { f with next := t + 1 }
        if unitEmpty s f (unitSpot s f t) then deliverEmpty s f t
        else stageUnit s c st f t (fun s r => setUnits s c st (((s.core c).stream st).units ++ [r])) false

def fetchUnit (s : State) (c : Nat) (st : Strm) : State := pumpArrays (fetchNext (pumpArrays s c) c st) c

/-- Deliver a computed tile, partial or slice of a product. -/
def finishProduct (s : State) (c : Nat) (st : Strm) (f : Flight) (r : UnitRec) (bad : Bool) : State :=
  let x := spotOf s f r.unit
  if bad && f.claims.contains r.unit then s.coreStepFault 0x0109 c (some st) 0
  else if miOpcode f.mi = opTdw then deliverSlice s c st f r x
  else if f.plan.split = 1 then deliverTile s c st f r x
  else deliverPart s c st f r x bad

/-- A unit used free values. -/
def UnitOut.open_ (o : UnitOut) : Bool := o.tally.any fun t => match t with | .free n => n != 0 | _ => false

/-- Write what a unit gives, by handle. -/
def landOut (s : State) (c : Nat) (f : Flight) (o : UnitOut) : State :=
  o.puts.foldl (fun s x => let y := s.corePut c x.1 x.2; y.1.writeFail f.panel y.2) s

/-- Run and deliver a unit of another operation under its claim bit. A second result with free values is the first one. -/
def finishOther (s : State) (c : Nat) (st : Strm) (f : Flight) (t : Nat) : State :=
  let x := unitSpot s f t
  let s := if miOpcode f.mi = 0x08 then attChannel s c f x else s
  let o := unitOut s f x
  match o.bad s with
  | some k => uncorrCore s c k (some st)
  | none =>
    let ws := o.puts.flatMap fun y => y.2.map fun z => (BitVec.ofNat 32 z.2.2 : Word)
    let s := o.tally.foldl (State.tally c f.panel f.id t) (o.touch s c)
    if f.claims.contains t then duplicate s c st (o.open_ || firstResult f t == ws)
    else landOut (claim s f t ws) c f o

/-- The unit that UNIT_COMPLETE acts on: the first that an array runs; a core whose slice stalls drains nothing from its
Tweed array (R150). -/
def runningUnit (s : State) (c : Nat) (st : Strm) : Option UnitRec :=
  ((s.core c).stream st).units.find? fun u =>
    u.running && !u.acc.isEmpty && !(u.arr == .tweed && s.stalledSlices.any (fun y => y.core == c))

/-- The unit is checked, drained and delivered, or meets the fault of its check. -/
def completeNow (s : State) (c : Nat) (st : Strm) (chk : UnitCheck) : State :=
  match runningUnit s c st with
  | none => s
  | some r =>
    let us := ((s.core c).stream st).units.filter (· != r)
    match s.flight r.flight with
    | none => setUnits s c st us
    | some f =>
      let s := if isProduct (miOpcode f.mi) then s.countPass c (r.arr == .tweed) r.cnt else s
      let s := match chk with | .corrected n => s.finc F.LS_ECC_CORRECTED c n | _ => s
      match chk with
      | .pass | .combineFault | .corrected _ =>
        let s := (setUnits s c st us).finc F.NDL_UNITS_COUNT c 1
        let s := if isProduct (miOpcode f.mi) then finishProduct s c st f r (chk == .combineFault)
          else finishOther s c st f r.unit
        replayDone s c r.replay
      | _ => unitFault s c st r chk

def completeUnit (s : State) (c : Nat) (st : Strm) (chk : UnitCheck) : State :=
  pumpArrays (completeNow (pumpArrays s c) c st chk) c

def execSkeinFetch (c : Fin 1056) (st : Strm) (s : State) : Out := done (fetchUnit s c st)

def execUnitComplete (c : Fin 1056) (st : Strm) (chk : UnitCheck) (s : State) : Out := done (completeUnit s c st chk)

end Sys2Proof.Machine
end

