-- ==== Sys2Proof/Machine/Replicas.lean ====
section
/-! DEFINITION. Gradients and their reduction across replicas: SLICE_SEND, REDUCE, masks, the straggler window and the late
store (R261 to R268, R270). -/
namespace Sys2Proof.Machine
open Sys2Proof

/-! Gradients of a window or a parameter. -/

/-- Sizes K and N of a weight's master or of its window (R261); a parameter has N = 1. -/
def gradK (d : Desc) : Nat := if dKind d = kParam then dCols d else dK d
def gradN (d : Desc) : Nat := if dKind d = kParam then 1 else dN d

/-- Tiles in which a gradient travels (R261, R264). -/
def gradTiles (d : Desc) : Nat :=
  if dKind d = kParam then cdiv (dCols d) 4096 else cdiv (gradK d) 64 * cdiv (gradN d) 64 * dFolds d

/-- Felt of a tile: that of its window tile, or of the parameter's master in CUR. -/
def gradFelt (s : State) (h t : Nat) : Nat :=
  let d := (s.desc h).getD []
  if dKind d = kParam then
    feltAt s h (readBase s (bankMask s) h d + (bankLayout s d).master + 4096 * t * (if slMaster16 (ruleOf s d) then 2 else 4))
  else tileFelt s (bankMask s) h t

/-- A parameter of an INT4 activation: an activation descriptor of its panel names it (R254, R264). -/
def isActParam (s : State) (h : Nat) : Bool :=
  ((((s.secsOf (handlePanel h)).bind (·.descriptors)).getD []).any fun e =>
    dFormat e.2 == 0x12 && hPresent (dParam e.2) && hHandle (dParam e.2) == h)

/-- The side sums of a parameter are rounded when they are first read (R264). -/
def roundSums (s : State) (h : Nat) : State :=
  let mine := fun (y : SideSum) => y.handle == h && y.rounded.isNone
  let l := updWhere mine (fun y => { y with rounded := some (rne32 y.sum) }) s.sideSums
  let sat := (s.sideSums.filter mine).countP fun y => sat32 y.sum
  { s.winSat (gradFelt s h 0) sat with sideSums := l }

def sideAt (s : State) (h i : Nat) : Word :=
  match s.sideSums.find? fun y => y.handle == h && y.elem == i with
  | some y => y.rounded.getD (rne32 y.sum)
  | none => 0

def winTile (s : State) (h t : Nat) : Option WinTile := s.windows.find? fun w => w.handle == h && w.tile == t

/-- −s × ΣR_z of the parameter of an INT4 activation, exactly (R264). -/
def zeroGrad (s : State) (h : Nat) : FV :=
  let d := (s.desc h).getD []
  (f32 (masterAt s h (readBase s (bankMask s) h d) d 0)).neg.mul (f32 (sideAt s h 1))

/-- This replica's gradient of element i of a parameter. -/
def paramGrad (s : State) (h i : Nat) : Word := if isActParam s h && i = 1 then rne32 (zeroGrad s h) else sideAt s h i

/-- The saturation of g_z when tile t of a parameter is formed (R93; log entry 97). -/
def countGrad (s : State) (h t : Nat) : State :=
  if t = 0 && isActParam s h && sat32 (zeroGrad s h) then s.winSat (gradFelt s h 0) 1 else s

/-- This replica's own tile. A tile that no slice reached reads +0 (log entry 28). -/
def ownTile (s : State) (h t : Nat) : List Word :=
  let d := (s.desc h).getD []
  if dKind d = kParam then
    (List.range 4096).map fun i => if 4096 * t + i < dCols d then paramGrad s h (4096 * t + i) else 0
  else ((winTile s h t).map (·.vals)).getD (List.replicate 4096 0)

/-- Set the values of a tile, allocated when it is not held. -/
def putTile (s : State) (h t : Nat) (vs : List Word) : State :=
  match winTile s h t with
  | some _ =>
    let ws := updWhere (fun w : WinTile => w.handle == h && w.tile == t) (fun w => { w with vals := vs, reduced := true }) s.windows
    { s with windows := ws }
  | none => { s with windows := s.windows ++ [⟨handlePanel h, h, t, gradFelt s h t, vs, true⟩] }

/-! Replicas. -/

def replicasOf (s : State) (p : Nat) : List (Nat × Nat) := ((s.entryOf p).map (·.replicas)).getD []
def replicaIx (s : State) (p : Nat) : Nat := (replicasOf s p).findIdx (· == (s.ownId, p))
def isOwner (s : State) (p t : Nat) : Bool := t % (replicasOf s p).length == replicaIx s p

/-- A handle in the numbering of another replica's panel (log entry 29). -/
def handleFor (q h : Nat) : Nat := q * 2 ^ 14 + h % 2 ^ 14

/-- Address of 4 KiB part i of a gradient tile in a WRITE packet: offset 2^39 of the handle's space and on, which holds no
byte of any tensor (DESIGN CHOICE, log entry 159). -/
def tileAddr (h t i : Nat) : Nat := 2 ^ 62 + h * 2 ^ 40 + 2 ^ 39 + t * 2 ^ 14 + 4096 * i

/-- Put a tile on the link to another device: four ordered writes under the flight's fence tag for that device, whose count
of 64-byte blocks grows (R329, R330). -/
def writeTile (s : State) (fid dev : Nat) (x : Contribution) : State :=
  let tag := (s.flight fid).bind fun f => (f.tags.find? (·.1 == dev)).map (·.2.1)
  let bs := x.vals.flatMap fun w => leBytes 4 w.toNat
  let s := (List.range 4).foldl (fun s i =>
    s.sendPkt { mkPacket s 0x01 dev (tag.getD 0) (tileAddr x.handle x.tile i) (sliceB bs (4096 * i) 4096) with
      fenced := tag.isSome }) s
  s.updFlight fid fun f => { f with tags := f.tags.map fun y => if y.1 == dev then (y.1, y.2.1, y.2.2 + 256) else y }

/-- Send a tile of macro-instruction fid to a replica. -/
def sendTile (s : State) (fid : Nat) (dest : Nat × Nat) (h t step : Nat) (vs : List Word) : State :=
  let x : Contribution := ⟨handleFor dest.2 h, t, step, replicaIx s (handlePanel h), vs⟩
  let s := if dest.1 = s.ownId then s else writeTile s fid dest.1 x
  { s with sentTiles := s.sentTiles ++ [(dest, x)] }

def stepOf (s : State) (p : Nat) : Nat := s.fget F.HUB_STEP_NUM_S p

def dropLate (s : State) (n : Nat) : State := (s.finc F.FELT_LATE_COUNTS_DROPPED n 1).trainEvt n 3

def maskAt (s : State) (h t step : Nat) : Option Mask :=
  s.masks.find? fun m => m.handle == h && m.tile == t && m.step == step
def setMask (s : State) (m : Mask) : State :=
  { s with masks := s.masks.filter (fun x => !(x.handle == m.handle && x.tile == m.tile && x.step == m.step)) ++ [m] }

/-- Replicas whose contribution of a step to a tile is held on time, the owner's own among them. -/
def arrived (s : State) (h t step : Nat) : List Nat :=
  let p := handlePanel h
  (List.range (replicasOf s p).length).filter fun r =>
    r == replicaIx s p || s.helds.any fun y => !y.late && y.x.handle == h && y.x.tile == t && y.x.step == step && y.x.replica == r

/-- Is the tile of this step reduced? -/
def reducedNow (s : State) (h t : Nat) : Bool := match winTile s h t with | some w => w.reduced | none => false

/-- The REDUCE of a panel in flight on a handle. -/
def reduceFlight (s : State) (h : Nat) : Nat :=
  ((s.flights.find? fun f => f.panel == handlePanel h && !f.done && miOpcode f.mi == 0x21 && hHandle (miDst f.mi) == h).map
    (·.id)).getD s.freshId

/-- A macro-instruction in flight that still adds to the gradient of a handle: to a window, or by side records to a PARAM. -/
def feeds (s : State) (h : Nat) (f : Flight) : Bool :=
  let dst := descOf s (miDst f.mi)
  let param := fun (fld : Nat) => hPresent fld && hPresent (dParam (descOf s fld)) && hHandle (dParam (descOf s fld)) == h
  f.panel == handlePanel h && !f.done &&
    ((miOpcode f.mi == opTdw && (hHandle (miDst f.mi) == h || param (dPartner dst))) ||
      (miOpcode f.mi == opTdx && param (dLscale dst)))

/-- This replica's own contribution to a handle is complete (R267). -/
def ownDone (s : State) (h : Nat) : Bool := !s.flights.any (feeds s h)

/-- REDUCE_TILE with a mask: on-time contributions in replica order, then held late ones of the step before (R266). -/
def reduceTile (s : State) (h t : Nat) (reps : List Nat) : State :=
  let p := handlePanel h
  let step := stepOf s p
  let n := gradFelt s h t
  let s := countGrad (roundSums s h) h t
  let own := ownTile s h t
  let rs := List.range (replicasOf s p).length
  let onTime := rs.filterMap fun r =>
    if !reps.contains r then none
    else if r == replicaIx s p then some own
    else (s.helds.find? fun y => !y.late && y.x.handle == h && y.x.tile == t && y.x.step == step && y.x.replica == r).map (·.x.vals)
  let prev := (step + 2 ^ 32 - 1) % 2 ^ 32
  let isLate := fun (y : Held) => y.late && y.x.handle == h && y.x.tile == t && y.x.step == prev
  let fold := ((s.entryOf p).map (·.fold)).getD false
  let late := if fold then rs.filterMap fun r => (s.helds.find? fun y => isLate y && y.x.replica == r).map (·.x.vals) else []
  let r := (onTime ++ late).foldl (fun (a : List Word × Nat) c => let y := addTiles a.1 c; (y.1, a.2 + y.2)) (own.map fun _ => (0 : Word), 0)
  let s := (s.winSat n r.2).finc F.FELT_LATE_COUNTS_FOLDED n late.length
  let hs := if fold then updWhere isLate (fun y : Held => { y with folded := true }) s.helds else s.helds
  let s := putTile { s with helds := hs } h t r.1
  let s := setMask s ⟨p, h, t, step, reps, false, true, true, true⟩
  let fid := reduceFlight s h
  ((replicasOf s p).filter (· != (s.ownId, p))).foldl (fun s dest => sendTile s fid dest h t step r.1) s

/-- Reduce when everything that the tile waits for has arrived: this replica's own contribution, and every replica, or
exactly those of a mask kept from a failed attempt (R267). -/
def tryReduce (s : State) (h t : Nat) : State :=
  let p := handlePanel h
  let step := stepOf s p
  let have_ := arrived s h t step
  match maskAt s h t step with
  | none => s
  | some m =>
    if m.reduced || !ownDone s h then s
    else if m.fixed then (if m.reps.all (have_.contains ·) then reduceTile s h t m.reps else s)
    else if have_.length = (replicasOf s p).length then reduceTile s h t have_
    else s

/-- The straggler window of a tile starts when REDUCE has issued and this replica's own contribution is complete; on a
repeat there is none (R267). -/
def startWindow (s : State) (h t : Nat) : State :=
  match maskAt s h t (stepOf s (handlePanel h)) with
  | none => s
  | some m =>
    let s := if m.fixed || m.reduced || !ownDone s h then s
      else setMask s { m with running := ((s.entryOf (handlePanel h)).map (·.stragglerTicks)).getD 0 != 0xFFFFFFFF }
    tryReduce s h t

/-- REDUCE issues on an owner. -/
def openTile (s : State) (h t : Nat) : State :=
  let p := handlePanel h
  let step := stepOf s p
  let s := match maskAt s h t step with
    | some _ => s
    | none => setMask s ⟨p, h, t, step, [], false, false, false, false⟩
  startWindow s h t

/-- Tiles whose REDUCE has issued start their windows, or reduce, once this replica's contribution is complete. -/
def startWindows (s : State) (p : Nat) : State :=
  s.masks.foldl (fun s m => if m.panel == p && m.step == stepOf s p && !m.running then startWindow s m.handle m.tile else s) s

/-- Room in the late store of a felt: an eighth of the panel's window space (R268). -/
def lateRoom (s : State) (p n : Nat) : Bool :=
  let used := s.helds.countP fun y => y.late && y.panel == p && gradFelt s y.x.handle y.x.tile == n
  decide (used < windowRoom s p n / 8) && decide (windowUsed s p n < windowRoom s p n)

/-- A late contribution: kept under FOLD while there is room, else discarded and counted (R268). -/
def keepLate (s : State) (x : Contribution) : State :=
  let p := handlePanel x.handle
  let n := gradFelt s x.handle x.tile
  if ((s.entryOf p).map (·.fold)).getD false && lateRoom s p n then { s with helds := s.helds ++ [⟨p, x, true, false⟩] }
  else dropLate s n

/-- A contribution reaches its owner (R266 to R268). -/
def contribute (s : State) (x : Contribution) : State :=
  let p := handlePanel x.handle
  let d := (s.desc x.handle).getD []
  let s := { s with sentTiles := s.sentTiles.erase ((s.ownId, p), x) }
  if !s.isTraining p || !(dKind d == kWindow || dKind d == kParam) || gradTiles d ≤ x.tile || !isOwner s p x.tile ||
      (replicasOf s p).length ≤ x.replica || x.replica == replicaIx s p then s
  else
    let step := stepOf s p
    let hold := fun (s : State) => { s with helds := s.helds ++ [⟨p, x, false, false⟩] }
    if x.step = step then
      match maskAt s x.handle x.tile step with
      | some m => if m.fixed && !m.reps.contains x.replica then keepLate s x else tryReduce (hold s) x.handle x.tile
      | none => hold s
    else if (x.step + 1) % 2 ^ 32 = step then
      if ((maskAt s x.handle x.tile step).map (·.spent)).getD false then dropLate s (gradFelt s x.handle x.tile)
      else keepLate s x
    else if x.step = (step + 1) % 2 ^ 32 then hold s
    else dropLate s (gradFelt s x.handle x.tile)

/-- The straggler window of a tile expires: the mask holds what arrived (R267). -/
def expireTile (s : State) (h t : Nat) : State :=
  let step := stepOf s (handlePanel h)
  match maskAt s h t step with
  | some m => if m.running && !m.fixed then reduceTile s h t (arrived s h t step) else s
  | none => s

/-- A reduced tile arrives from its owner (R265, R266). -/
def takeReduced (s : State) (x : Contribution) : State :=
  let p := handlePanel x.handle
  let d := (s.desc x.handle).getD []
  let s := { s with sentTiles := s.sentTiles.erase ((s.ownId, p), x) }
  if !s.isTraining p || !(dKind d == kWindow || dKind d == kParam) || gradTiles d ≤ x.tile || isOwner s p x.tile ||
      x.replica != x.tile % (replicasOf s p).length || x.step != stepOf s p then s
  else putTile s x.handle x.tile x.vals

/-! SLICE_SEND and REDUCE. -/

def gradKind (d : Desc) : Bool := dKind d == kWindow || dKind d == kParam

def opSlices (reduce : Bool) : OpSpec :=
  { OpSpec.base (if reduce then 0x21 else 0x20) with
    fieldOk := fun _ _ m => miOpx m 0 8 == 0 && miOpx m 8 8 == 0
    req := [if reduce then 0 else 1]
    late := fun s p _ m _ =>
      if !gradKind (descOf s (if reduce then miDst m else miSrc m 0)) then 0x10
      else if !s.isTraining p then 0x12
      else 0 }

/-- Every tile of a window to its owner, unless that is this replica. -/
def sendWindow (s : State) (fid h : Nat) : State :=
  let p := handlePanel h
  let rs := replicasOf s p
  let s := roundSums s h
  (List.range (gradTiles ((s.desc h).getD []))).foldl (fun s t =>
    if isOwner s p t then s
    else sendTile (countGrad s h t) fid (rs.getD (t % rs.length) (0, 0)) h t (stepOf s p) (ownTile s h t)) s

/-- The owner opens its tiles. -/
def reduceWindow (s : State) (h : Nat) : State :=
  (List.range (gradTiles ((s.desc h).getD []))).foldl (fun s t => if isOwner s (handlePanel h) t then openTile s h t else s) s

def slicesOp (reduce : Bool) (s : State) (c : Nat) (st : Strm) : State :=
  issue (opSlices reduce) s c st fun s id f first =>
    let h := hHandle (if reduce then miDst f.mi else miSrc f.mi 0)
    takeAll s id c f first ((replicasOf s f.panel).length ≤ 1) none fun s => if reduce then reduceWindow s h else sendWindow s id h

def execSliceSend (c : Fin 1056) (st : Strm) (s : State) : Out := done (slicesOp false s c st)

def execReduce (c : Fin 1056) (st : Strm) (s : State) : Out := done (slicesOp true s c st)

/-- A contribution that a checker of its felt stops is lost with the step (R431). -/
def execReplicaContribution (x : Contribution) (chk : FeltCheck) (s : State) : Out :=
  match chk with
  | .pass => done (contribute s x)
  | _ => done (s.feltChecked (tileFelt s (bankMask s) x.handle x.tile) (handlePanel x.handle) chk)

def execStragglerExpire (handle tile : Nat) (s : State) : Out := done (expireTile s handle tile)

def execReducedTileArrive (x : Contribution) (s : State) : Out := done (takeReduced s x)

/-- Every tile of a window is reduced on this replica. -/
def allReduced (s : State) (h : Nat) : Bool := (List.range (gradTiles ((s.desc h).getD []))).all fun t => reducedNow s h t

end Sys2Proof.Machine
end

