-- ==== Sys2Proof/Machine/Micro.lean ====
section
/-! DEFINITION. Rules of the felt update engine on one element: the built-in rules and felt microcode (R272, R273, R314,
R315). -/
namespace Sys2Proof.Machine
open Sys2Proof

/-- SQRT of R272, with the saturations so far. -/
def vSqrt (a : Sv) : Sv := (romSqrt a.1, a.2)
def vMin (a b : Sv) : Sv := (fmin a.1 b.1, a.2 + b.2)

/-- FP32 fields of a rule slot by K of LDC (R271). -/
def slField (b : List Byte) (k : Nat) : Word := slWord b (4 + 4 * k)
def slGscale (b : List Byte) : Word := slField b 0
def slBeta1 (b : List Byte) : Word := slField b 1
def slBeta2 (b : List Byte) : Word := slField b 2
def slEps (b : List Byte) : Word := slField b 3
def slLambda (b : List Byte) : Word := slField b 4
def slPhiMax (b : List Byte) : Word := slField b 5
def slRatioLo (b : List Byte) : Word := slField b 6
def slRatioHi (b : List Byte) : Word := slField b 7

/-- The header words T, W, U, ρ that the tensor values take. -/
structure Header where
  t : Nat
  w : Word
  u : Word
  rho : Word
  deriving DecidableEq, Repr

/-- TENSOR_VALUES (R272): η, c1, c2, b1c, b2c, t as words, and the saturations. -/
def tensorValues (b : List Byte) (x : Header) (lr : Word) : List Word × Nat :=
  let phi0 : Sv := (fOne, 0)
  let phi : Sv :=
    if slRule b = 3 && 0 < x.t && FV.zero.lt (f32 x.u) then
      let y := vMin (slPhiMax b, 0) (vSqrt (vMul (x.w, 0) (vRom 0x12 (x.u, 0))))
      if (f32 (slRatioHi b)).lt (f32 x.rho) then vMul y (vMul (slRatioHi b, 0) (vRom 0x12 (x.rho, 0))) else y
    else phi0
  let eta := vMul (lr, 0) phi
  let t := rne32 (.fin false (x.t + 1) 0)
  let corr := fun (beta : Word) => vRom 0x12 (vSub (fOne, 0) (vRom 0x10 (vMul (t, 0) (vRom 0x11 (beta, 0)))))
  let c1 := corr (slBeta1 b)
  let c2 := corr (slBeta2 b)
  let b1 := vSub (fOne, 0) (slBeta1 b, 0)
  let b2 := vSub (fOne, 0) (slBeta2 b, 0)
  ([eta.1, c1.1, c2.1, b1.1, b2.1, t], eta.2 + c1.2 + c2.2 + b1.2 + b2.2)

/-- What a rule makes of an element: new master, new state planes, Δ, u, and the saturations. -/
structure Elt where
  w : Word
  st : List Word
  delta : Word
  u : Word
  sat : Nat
  deriving DecidableEq, Repr

/-- UPDATE_ELEMENT (R273); `v` are the tensor values. -/
def updateElement (b : List Byte) (v : List Word) (w : Word) (st : List Word) (g0 : Word) : Elt :=
  let g := vMul (g0, 0) (slGscale b, 0)
  let decay := vMul (slLambda b, 0) (w, 0)
  let k := fun (i : Nat) => ((v.getD i 0, 0) : Sv)
  let (u, st') : Sv × List Sv :=
    if slRule b = 2 then
      let m := vAdd (vMul (slBeta1 b, 0) (st.getD 0 0, 0)) g
      (vAdd (m.1, 0) decay, [m])
    else
      let m := vAdd (vMul (slBeta1 b, 0) (st.getD 0 0, 0)) (vMul (k 3) (g.1, 0))
      let y := vAdd (vMul (slBeta2 b, 0) (st.getD 1 0, 0)) (vMul (vMul (k 4) (g.1, 0)) (g.1, 0))
      let d := vAdd (vSqrt (vMul (y.1, 0) (k 2))) (slEps b, 0)
      (vAdd (vMul (vMul (m.1, 0) (k 1)) (vRom 0x12 d)) decay, [m, (y.1, y.2 + g.2)])
  let dl := vMul (k 0) (u.1, 0)
  let w' := vSub (w, 0) (dl.1, 0)
  ⟨w'.1, st'.map (·.1), dl.1, u.1, u.2 + (st'.map (·.2)).foldl (· + ·) 0 + dl.2 + w'.2⟩

/-- State of a microcode run: registers, new master and whether it was stored, new state planes, saturations, and whether
END was reached. -/
structure Mc where
  f : List Word
  w : Option Word
  st : List Word
  sat : Nat
  ended : Bool
  deriving DecidableEq, Repr

/-- Operand fields of an instruction (R314). -/
def mcField (x : Word) (lsb : Nat) : Nat := bits x.toNat lsb 4

/-- One microcode instruction on an element with master w, gradient g and state planes st (R314). -/
def mcStep (b : List Byte) (v : List Word) (w g : Word) (st : List Word) (m : Mc) (x : Word) : Mc :=
  if m.ended then m
  else
    let a : Sv := (m.f.getD (mcField x 10) 0, 0)
    let c : Sv := (m.f.getD (mcField x 14) 0, 0)
    let e := m.f.getD (mcField x 18) 0
    let k := mcField x 22
    let op := bits x.toNat 0 6
    let put := fun (r : Sv) => { m with f := m.f.set (mcField x 6) r.1, sat := m.sat + r.2 }
    let free := ((Config.microField op k, 0) : Sv)
    match op with
    | 0x01 => put (w, 0)
    | 0x02 => put (g, 0)
    | 0x03 => put (if k < st.length then (st.getD k 0, 0) else free)
    | 0x04 => put (if k < 8 then (slField b k, 0) else free)
    | 0x05 => put (if k < 6 then (v.getD k 0, 0) else free)
    | 0x08 => put (vAdd a c)
    | 0x09 => put (vSub a c)
    | 0x0A => put (vMul a c)
    | 0x0B => put (round32 (((f32 a.1).mul (f32 c.1)).add (f32 e)) 0)
    | 0x0C => put (fmax a.1 c.1, 0)
    | 0x0D => put (fmin a.1 c.1, 0)
    | 0x10 => put (vRom 0x12 a)
    | 0x11 => put (vRom 0x13 a)
    | 0x12 => put (vSqrt a)
    | 0x13 => put (vRom 0x10 a)
    | 0x14 => put (vRom 0x11 a)
    | 0x18 => { m with w := some a.1 }
    | 0x19 => if k < m.st.length then { m with st := m.st.set k a.1 } else m
    | 0x3F => { m with ended := true }
    | _ => m

/-- A MICRO program on an element (R314, R315): Δ = RNE32(w − w') and u is f15. -/
def microElement (b : List Byte) (prog : List Word) (v : List Word) (w : Word) (st : List Word) (g : Word) : Elt :=
  let m := prog.foldl (mcStep b v w g st) ⟨List.replicate 16 0, none, st, 0, false⟩
  let w' := m.w.getD w
  let dl := vSub (w, 0) (w', 0)
  ⟨w', m.st, dl.1, m.f.getD 15 0, m.sat + dl.2⟩

end Sys2Proof.Machine
end

