-- ==== Sys2Proof/Machine/Update.lean ====
section
/-! DEFINITION. The felt update engine: UPDATE and MATERIALISE, bands, weight copies, drain entries, tensor sums and ratio
entries (R254 to R260, R269 to R278), and when a macro-instruction of any opcode is complete (R211). -/
namespace Sys2Proof.Machine
open Sys2Proof

/-! Geometry of a master and its bands (R254, R269). -/

/-- Matrices of a weight's or parameter's master. -/
def gradFolds (d : Desc) : Nat := if dKind d = kParam then 1 else dFolds d

/-- Index of a master element: K is dimension 0. -/
def masterIx (d : Desc) (fold k n : Nat) : Nat := (fold * gradN d + n) * gradK d + k

def bandRows (d : Desc) : Nat := max 64 (twillSize d)
def bandsK (d : Desc) : Nat := cdiv (gradK d) (bandRows d)
def bandsN (d : Desc) : Nat := cdiv (gradN d) 64
def bandCount (d : Desc) : Nat := gradFolds d * bandsK d * bandsN d

/-- A band: fold, rows of K, columns of N. -/
structure Band where
  fold : Nat
  k0 : Nat
  k1 : Nat
  n0 : Nat
  n1 : Nat
  deriving DecidableEq, Repr

def bandAt (d : Desc) (t : Nat) : Band :=
  let per := bandsK d * bandsN d
  let kb := t % per / bandsN d
  let nb := t % bandsN d
  ⟨t / per, kb * bandRows d, min (kb * bandRows d + bandRows d) (gradK d), nb * 64, min (nb * 64 + 64) (gradN d)⟩

/-- The band that holds an element. -/
def bandOf (d : Desc) (fold k n : Nat) : Nat := (fold * bandsK d + k / bandRows d) * bandsN d + n / 64

/-- Elements of a band as (k, n). -/
def Band.cells (b : Band) : List (Nat × Nat) :=
  (List.range (b.n1 - b.n0)).flatMap fun j => (List.range (b.k1 - b.k0)).map fun i => (b.k0 + i, b.n0 + j)

/-- The banks in which NEW of panel p is current (R255). -/
def newMask (s : State) (p : Nat) : Nat := bankMask s ^^^ 2 ^ p

def masterWidth (s : State) (d : Desc) : Nat := if slMaster16 (ruleOf s d) then 2 else 4
def planeWidth (s : State) (d : Desc) (i : Nat) : Nat := if slState16 (ruleOf s d) && i ≠ 3 then 2 else 4
def planeCount (s : State) (d : Desc) : Nat := (bankLayout s d).planes.length
def masterOff (s : State) (d : Desc) (base i : Nat) : Nat := base + (bankLayout s d).master + masterWidth s d * i
def planeOff (s : State) (d : Desc) (base j i : Nat) : Nat := base + (bankLayout s d).planes.getD j 0 + planeWidth s d j * i

/-- Felt of a band: that of its first master page in the bank it is written to; a frozen weight has its code plane. -/
def bandFelt (s : State) (h mask : Nat) (d : Desc) (t : Nat) : Nat :=
  let b := bandAt d t
  if dKind d = kWeight && dFrozen d then
    feltAt s h ((viewAt h 0 d).codeBit (if dRed d then b.n0 else b.k0) (if dRed d then b.k0 else b.n0)
      (b.fold % max 1 (dDim d 2)) (b.fold / max 1 (dDim d 2)) / 8)
  else feltAt s h (masterOff s d (readBase s mask h d) (masterIx d b.fold b.k0 b.n0))

/-! Reading CUR. -/

/-- State plane j at element i, widened. -/
def planeAt (s : State) (h base : Nat) (d : Desc) (j i : Nat) : Word :=
  let w := planeWidth s d j
  BitVec.ofNat 32 (leNat (s.tRead h (planeOff s d base j i) w) * 2 ^ (32 - 8 * w))

/-- Reduced gradient of an element (R261, R264, R269); a tile that no slice reached reads +0 (log entry 28). -/
def gradAt (s : State) (h : Nat) (d : Desc) (fold k n : Nat) : Word :=
  if dKind d = kParam then
    match winTile s h (k / 4096) with
    | some w => w.vals.getD (k % 4096) 0
    | none => paramGrad s h k
  else
    let ct := cdiv (gradN d) 64
    match winTile s (hHandle (dPartner d)) ((fold * cdiv (gradK d) 64 + k / 64) * ct + n / 64) with
    | some w => w.vals.getD (k % 64 * 64 + n % 64) 0
    | none => 0

/-- Word i of a state header. -/
def headerWord (s : State) (h base : Nat) (d : Desc) (i : Nat) : Word :=
  BitVec.ofNat 32 (leNat (s.tRead h (base + (bankLayout s d).header + 4 * i) 4))

def headerOf (s : State) (h base : Nat) (d : Desc) : Header :=
  ⟨(headerWord s h base d 0).toNat, headerWord s h base d 1, headerWord s h base d 2, headerWord s h base d 3⟩

/-- A bad block among the masters and state planes that a band reads (R445). -/
def bandBad (s : State) (h base : Nat) (d : Desc) (b : Band) : Option Nat :=
  (List.range (b.n1 - b.n0)).findSome? fun j =>
    let i := masterIx d b.fold b.k0 (b.n0 + j)
    let n := b.k1 - b.k0
    match badIn s h (masterOff s d base i) (masterWidth s d * n) with
    | some k => some k
    | none => (List.range (planeCount s d)).findSome? fun p => badIn s h (planeOff s d base p i) (planeWidth s d p * n)

/-! Copies (R101, R124, R139, R140, R274). -/

/-- Where copies come from: the value of a master element, its format's largest value, the rule slot, whether it selects
SR for the Gauze and the Tweed copy, and the banks of the learned values. -/
structure CopySrc where
  val : Nat → Nat → Nat → FV
  top : FV
  srG : Bool
  srT : Bool
  mask : Nat

/-- Value of a Gauze copy element before quantisation, rotated under R101 over whole twill blocks, and the saturations of
its twill block, counted at its first element. -/
def rotated (d : Desc) (val : Nat → Nat → Nat → FV) (fold k n : Nat) : FV × Nat :=
  let w := twillSize d
  let b := k / w * w
  if w = 0 || gradK d < b + w then (val fold k n, 0)
  else
    let xs := (List.range w).map fun j => val fold (b + j) n
    let ys := xs.map fun x => match x with | .inf s => (if s then maxB16.neg else maxB16) | _ => x
    let r := rotate (twillSigns (BitVec.ofNat 64 (dSeed d)) b w) (w.log2 / 2) ys
    ((r.map fun y => f32 y.1).getD (k - b) FV.nan, if k = b then xs.countP FV.isInf + r.countP (·.2) else 0)

/-- Codes of the blocks or elements of a rectangle of a copy; a block is written when every element of it is `ready`. -/
def copyPuts (v : View) (src : FV) (k : Nat) (learned : Nat → Nat → Learned) (rnd : Nat → Nat → Rnd) (ready : Nat → Nat → Bool)
    (val : Nat → Nat → FV) (c0 c1 r0 r1 f2 f3 : Nat) : List Put × Evs :=
  if v.blk = 0 then
    let cells := (List.range (r1 - r0)).flatMap fun j => (List.range (c1 - c0)).map fun i => (c0 + i, r0 + j)
    let rs := cells.map fun x =>
      let y := learnedConv v.el (learned x.1 x.2) (rnd x.1 x.2) (val x.1 x.2)
      ((v.codeBit x.1 x.2 f2 f3, v.el.bits, y.code), y)
    (rs.map (·.1), ⟨rs.countP (·.2.sat), rs.countP (·.2.unf), rs.countP (·.2.nan), 0, 0⟩)
  else
    (blockCorners v c0 c1 r0 r1).foldl (fun acc b =>
      let cells := blockCells v b.1 b.2
      if cells.all fun x => ready x.1 x.2 then
        let r := blockPuts v src k f2 f3 cells (cells.map fun x => (val x.1 x.2, rnd x.1 x.2))
        (acc.1 ++ r.1, acc.2.plus r.2)
      else acc) ([], Evs.none)

/-- Counts of copy writes on a felt (R274, R317). -/
def State.copyEvents (s : State) (n : Nat) (e : Evs) : State :=
  let s := (s.finc F.FELT_COPY_COUNTS_SAT n e.sat).finc F.FELT_COPY_COUNTS_UNF n e.unf
  let s := (s.finc F.FELT_COPY_BLOCKS_NAN_BLOCK n e.nanb).finc F.FELT_COPY_BLOCKS_CRUSHED n e.crushed
  if e.nanb = 0 then s else s.memEvt n 2

/-- Learned activation scale of a weight's drain entries (R124, R275). -/
def actScale (s : State) (mask : Nat) (d : Desc) : FV :=
  let a := descOf s (dLscale d)
  if hPresent (dLscale d) && dFormat a == 0x12 then f32 (paramAt s mask (dParam a) 0) else FV.one

/-- Learned weight scale of a channel. -/
def weightScale (s : State) (mask : Nat) (d : Desc) (n : Nat) : FV :=
  if 0x13 ≤ dFormat d then f32 (paramAt s mask (dParam d) n) else FV.one

/-- Drain entries that a band writes: those of its channels, once, with the first rows. -/
def drainPuts (s : State) (base : Nat) (d : Desc) (mask : Nat) (b : Band) : List Put × Nat :=
  if b.k0 ≠ 0 || b.fold ≠ 0 then ([], 0)
  else
    let rs := (List.range (b.n1 - b.n0)).map fun j =>
      let e := encodeSigma (weightScale s mask d (b.n0 + j)) (actScale s mask d)
      ((8 * (base + (bankLayout s d).drain + 4 * (b.n0 + j)), 32, e.1.toNat), e.2)
    (rs.map (·.1), rs.countP (·.2))

/-- Write the copies of band t of a weight at a bank, from a source; `done` are the bands whose masters are written. -/
def writeCopies (s : State) (h base : Nat) (d : Desc) (x : CopySrc) (t n : Nat) (done : List Nat) : State :=
  let p := handlePanel h
  let b := bandAt d t
  let f2 := b.fold % max 1 (dDim d 2)
  let f3 := b.fold / max 1 (dDim d 2)
  let k := ((seamSecOf s p).map (·.defaultK)).getD 0
  let how := fun (sr : Bool) (purpose : Nat) => (⟨sr, purpose, seedOf s p, convStep s p⟩ : HowTo)
  let ready := fun (k n : Nat) => done.contains (bandOf d b.fold k n)
  let vg := viewAt h base d
  let kn := fun (c r : Nat) => if dRed d then (r, c) else (c, r)
  let gsrc := if twillSize d = 0 then x.top else maxF32
  let g := copyPuts vg gsrc k (fun c r => vg.learnedAt s x.mask d c r)
    (fun c r => (how x.srG 0x4).rnd h (masterIx d b.fold (kn c r).1 (kn c r).2)) (fun c r => ready (kn c r).1 (kn c r).2)
    (fun c r => (rotated d x.val b.fold (kn c r).1 (kn c r).2).1)
    (if dRed d then b.n0 else b.k0) (if dRed d then b.n1 else b.k1) (if dRed d then b.k0 else b.n0)
    (if dRed d then b.k1 else b.n1) f2 f3
  let rot := (b.cells.map fun c => (rotated d x.val b.fold c.1 c.2).2).foldl (· + ·) 0
  let vt := tweedView s h base d
  let w := copyPuts vt x.top k (fun _ _ => noLearned) (fun c r => (how x.srT 0x5).rnd h (masterIx d b.fold r c))
    (fun c r => ready r c) (fun c r => x.val b.fold r c) b.n0 b.n1 b.k0 b.k1 f2 f3
  let e := drainPuts s base d x.mask b
  let (s, ok) := s.put h (g.1 ++ w.1 ++ e.1)
  (s.writeFail p ok).copyEvents n ({ (g.2.plus w.2) with sat := g.2.sat + w.2.sat + rot + e.2 })

/-- The masters of a bank as a copy source. -/
def fromMasters (s : State) (h mask : Nat) (d : Desc) : CopySrc :=
  let base := readBase s mask h d
  let slot := ruleOf s d
  ⟨fun fold k n => f32 (masterAt s h base d (masterIx d fold k n)), if slMaster16 slot then maxB16 else maxF32,
    slSr slot 2, slSr slot 3, mask⟩

/-! One band of an update (R273, R276). -/

/-- What a band makes: codes to write, Δ², w² and u² exactly, saturations, whether a NaN was produced. -/
structure BandOut where
  puts : List Put
  sums : List FV
  sat : Nat
  nan : Bool
  deriving DecidableEq, Repr

def sq (w : Word) : FV := (f32 w).mul (f32 w)

/-- The code of a value in FP32 or BF16, and its saturation. -/
def narrow (bytes : Nat) (r : Rnd) (w : Word) : Nat × Bool :=
  if bytes = 2 then let c := bf16.convert r (f32 w); (c.code, c.sat) else (w.toNat, false)

/-- Codes of one updated element in NEW. -/
def eltPuts (s : State) (slot : List Byte) (h base : Nat) (d : Desc) (i : Nat) (e : Elt) : List Put × Nat :=
  let p := handlePanel h
  let micro := slRule slot = 8
  let rnd := fun (sr : Bool) (purpose : Nat) => (⟨sr, purpose, seedOf s p, convStep s p⟩ : HowTo).rnd h i
  let m := narrow (masterWidth s d) (rnd (slSr slot 0) (if micro then 0xC else 0x6)) e.w
  let ps := (List.range (min e.st.length (planeCount s d))).map fun j =>
    let c := narrow (planeWidth s d j) (rnd (slSr slot 1) (if micro then 0xD + j else 0x7)) (e.st.getD j 0)
    ((8 * planeOff s d base j i, 8 * planeWidth s d j, c.1), c.2)
  ((8 * masterOff s d base i, 8 * masterWidth s d, m.1) :: ps.map (·.1), b2n m.2 + ps.countP (·.2))

/-- Update the elements of a band from CUR at `base0` into NEW at `base1`. -/
def bandPass (s : State) (slot : List Byte) (vals : List Word) (h base0 base1 : Nat) (d : Desc) (b : Band) : BandOut :=
  let prog := ((s.rulesOn.programs.find? (·.1 == slEntry slot)).map (·.2)).getD []
  b.cells.foldl (fun (o : BandOut) c =>
    let i := masterIx d b.fold c.1 c.2
    let w := masterAt s h base0 d i
    let st := (List.range (slPlanes slot)).map fun j => if j < planeCount s d then planeAt s h base0 d j i else 0
    let g := gradAt s h d b.fold c.1 c.2
    let e := if slRule slot = 8 then microElement slot prog vals w st g else updateElement slot vals w st g
    let p := eltPuts s slot h base1 d i e
    let add := [sq e.delta, sq w, sq e.u]
    ⟨o.puts ++ p.1, (o.sums.zip add).map fun y => y.1.add y.2, o.sat + e.sat + p.2,
      o.nan || (f32 e.w).isNan || e.st.any fun w => (f32 w).isNan⟩) ⟨[], [FV.zero, FV.zero, FV.zero], 0, false⟩

/-- Write the masters and planes of band t on felt n and count it; the sums. -/
def writeBand (s : State) (slot : List Byte) (vals : List Word) (h : Nat) (d : Desc) (t n : Nat) : State × List FV :=
  let p := handlePanel h
  let o := bandPass s slot vals h (readBase s (bankMask s) h d) (readBase s (newMask s p) h d) d (bandAt d t)
  let s := if dKind d = kParam && (bandAt d t).k0 = 0 && (winTile s h 0).isNone then countGrad s h 0 else s
  let (s, ok) := s.put h o.puts
  let s := (s.writeFail p ok).fset F.HUB_STEP_STATUS_UPDATED p 1
  let s := (s.finc F.FELT_UPD_BANDS_COUNT n 1).finc F.FELT_UPD_COUNTS_SAT n o.sat
  (if o.nan then (s.finc F.FELT_UPD_COUNTS_NAN_BANDS n 1).trainEvt n 4 else s, o.sums)

/-! The end of an update (R277, R278). -/

/-- The update-to-weight ratio, and the saturations of its steps. -/
def ratioOf (dd ww : Word) : Sv :=
  if (f32 dd).isZero then (0, 0)
  else if (f32 ww).isZero && FV.zero.lt (f32 dd) then (fFmax, 0)
  else vSqrt (vMul (dd, 0) (vRom 0x12 (ww, 0)))

/-- The pending entry of an update in its home felt's table. -/
def pendRatio (s : State) (h : Nat) (ws : List Word) : State :=
  if s.ratios.any (·.handle == h) then
    let l := updWhere (fun r : Ratio => r.handle == h) (fun r => { r with pend := some ws }) s.ratios
    { s with ratios := l }
  else if 16384 ≤ s.ratios.countP (fun r => r.handle % 8 == h % 8) then s.trainEvt (h % 8) 5
  else { s with ratios := s.ratios ++ [⟨h, none, some ws, 0, 0⟩] }

/-- All bands are written: sums, ratio, header of NEW, table entry. T is the count in CUR. Saturations of the sums and of the
ratio count on the home felt (R93; log entry 97). -/
def finishSums (s : State) (slot : List Byte) (h : Nat) (d : Desc) (t : Nat) (sums : List FV) : State :=
  let p := handlePanel h
  let ws := sums.map rne32
  let dd := ws.getD 0 0
  let ww := ws.getD 1 0
  let uu := ws.getD 2 0
  let rho := (ratioOf dd ww).1
  let s := s.finc F.FELT_UPD_COUNTS_SAT (h % 8) (sums.countP sat32 + (ratioOf dd ww).2)
  let base := readBase s (newMask s p) h d
  let step := stepOf s p
  let hd := [BitVec.ofNat 32 (t + 1), ww, uu, rho, BitVec.ofNat 32 step] ++ List.replicate 11 (0 : Word)
  let (s, ok) := s.put h (bytePuts (base + (bankLayout s d).header) (hd.flatMap fun w => leBytes 4 w.toNat))
  let s := s.writeFail p ok
  let lo := (f32 rho).lt (f32 (slRatioLo slot))
  let hi := (f32 (slRatioHi slot)).lt (f32 rho)
  let s := if lo then s.trainEvt (h % 8) 0 else s
  let s := if hi then s.trainEvt (h % 8) 1 else s
  let s := pendRatio s h [BitVec.ofNat 32 (t + 1), rho, dd, ww, uu, slRatioLo slot, slRatioHi slot,
    BitVec.ofNat 32 (b2n (lo || hi)), BitVec.ofNat 32 step]
  { s with updDone := addTo s.updDone h }

/-! Tensor values at issue (R272). -/

/-- The schedule's learning rate for T. -/
def scheduleAt (s : State) (mask fld t : Nat) : Word :=
  let h := hHandle fld
  match s.desc h with
  | some d => rne32 ((viewAt h (readBase s mask h d) d).get s 0 (min t (dCols d - 1)) 0 0 0)
  | none => 0

def scheduleBad (s : State) (mask fld t : Nat) : Option Nat :=
  let h := hHandle fld
  match s.desc h with
  | some d => (viewAt h (readBase s mask h d) d).badRect s (min t (dCols d - 1)) (min t (dCols d - 1) + 1) 0 1 0 0
  | none => none

/-- Values of a tensor with T appended, their saturations counted on its home felt. -/
def tensorStart (s : State) (slot : List Byte) (h : Nat) (d : Desc) (sched : Nat) : State × List Word :=
  let hd := headerOf s h (readBase s (bankMask s) h d) d
  let v := tensorValues slot hd (scheduleAt s (bankMask s) sched hd.t)
  (s.finc F.FELT_UPD_COUNTS_SAT (h % 8) v.2, v.1 ++ [BitVec.ofNat 32 hd.t])

/-! UPDATE. -/

def updSlot (m : List Byte) : Nat := miOpx m 0 1
def updMaterialise (m : List Byte) : Bool := bitOf (miOpx m 1 1) 0
def updSched (m : List Byte) : Nat := miOpx m 4 4

def opUpdate (materialise : Bool) : OpSpec :=
  { OpSpec.base 0x22 with
    mine := fun m => miOpcode m == 0x22 && updMaterialise m == materialise
    fieldOk := fun _ _ m => bits (miOpx m 1 1) 1 7 == 0 && miOpx m 2 2 == 0 && miOpx m 8 8 == 0 && hRsvOk (updSched m)
    req := [0]
    more := fun m => [updSched m]
    needs := fun s _ m =>
      (if materialise then [] else [updSched m]) ++
      (if materialise && dKind (descOf s (miDst m)) == kWeight && dFrozen (descOf s (miDst m)) then [miSrc m 0] else [])
    check := fun s _ m =>
      let d := descOf s (miDst m)
      if !(materialise && dKind d == kWeight && dFrozen d) then 0
      else
        let a := descOf s (miSrc m 0)
        if dCols a != dK d || dRows a != dN d || !foldsMatch a d then 0x06
        else if (storeGeo a).elem == .f32 || (storeGeo a).elem == .b16 then 0 else 0x07
    late := fun s p _ m _ =>
      let d := descOf s (miDst m)
      let frozen := dKind d == kWeight && dFrozen d
      if !(dKind d == kWeight || dKind d == kParam) || (frozen && !materialise) then 0x10
      else if (match slotIn s.rulesOn (updSlot m) with
          | none => true
          | some b => !(slRule b == 1 || slRule b == 2 || slRule b == 3 || slRule b == 8) || updSlot m != dRule d) then 0x11
      else if !materialise && !s.isTraining p then 0x12
      else 0
    ready := fun s _ _ _ => s.fget F.FELT_RULE_STATUS_STATE 0 == 0 }

/-- The scale parameter that an UPDATE of a weight updates first (R275). -/
def firstParam (d : Desc) : Option Nat :=
  if dKind d = kWeight && 0x13 ≤ dFormat d && dFormat d ≤ 0x16 && hPresent (dParam d) then some (hHandle (dParam d)) else none

/-- An uncorrectable block among what the tensor values of a tensor read. -/
def tensorBad (s : State) (h sched : Nat) : Option Nat :=
  let d := (s.desc h).getD []
  let base := readBase s (bankMask s) h d
  match badIn s h (base + (bankLayout s d).header) 20 with
  | some k => some k
  | none => scheduleBad s (bankMask s) sched (headerOf s h base d).t

/-- The first core of an UPDATE computes the tensor values at issue, those of the scale parameter with them (R272, R275); the
others find no unit. -/
def startUpdate (s : State) (id c : Nat) (f : Flight) (first : Bool) : State :=
  let h := hHandle (miDst f.mi)
  let d := descOf s (miDst f.mi)
  let sched := updSched f.mi
  let ph := firstParam d
  let bad := match tensorBad s h sched with
    | some k => some k
    | none => ph.bind fun q => tensorBad s q sched
  match (if first then bad else none) with
  | some k => uncorrEngine s f.panel k
  | none => takeAll s id c f first false none fun s =>
    let (s, pv) := match ph with
      | some q => tensorStart s (ruleOf s d) q ((s.desc q).getD []) sched
      | none => (s, [])
    let (s, vs) := tensorStart s (ruleOf s d) h d sched
    { s with updates := s.updates ++ [⟨id, f.panel, h, vs, pv, bandCount d, [], [FV.zero, FV.zero, FV.zero], []⟩] }

/-- Update a parameter whole, in the weight's rule slot, with the tensor values of its issue. -/
def updateParam (s : State) (slot : List Byte) (h : Nat) (vs : List Word) : State :=
  match s.desc h with
  | none => s
  | some d =>
    let s := roundSums s h
    let r := (List.range (bandCount d)).foldl (fun (a : State × List FV) t =>
      let n := bandFelt a.1 h (newMask a.1 (handlePanel h)) d t
      let y := writeBand a.1 slot vs h d t n
      (y.1, (a.2.zip y.2).map fun z => z.1.add z.2)) (s, [FV.zero, FV.zero, FV.zero])
    finishSums { r.1 with windows := r.1.windows.filter fun w => w.handle != h } slot h d (vs.getD 6 0).toNat r.2

/-- A weight's drain entries wait for the parameter of its INT4 activation (R275). -/
def bandWaits (s : State) (d : Desc) : Bool :=
  let a := descOf s (dLscale d)
  dKind d == kWeight && hPresent (dLscale d) && dFormat a == 0x12 && hPresent (dParam a) &&
    !s.updDone.contains (hHandle (dParam a))

/-- A macro-instruction of an inference panel that issued while the bank now written was current is in flight (R256). -/
def bankHeld (s : State) (p : Nat) : Bool :=
  !s.fbit F.HUB_STEP_STATUS_SINGLE p && s.flights.any fun f =>
    !f.done && s.isInference f.panel && bitOf f.bank p != s.fbit F.HUB_STEP_STATUS_BANK p

/-- Window tiles of a band are free once it is consumed; a tile of a parameter holds 64 bands, and is free with the last of
them (R260). -/
def freeTiles (s : State) (h : Nat) (d : Desc) (b : Band) (done : List Nat) : State :=
  if dKind d = kParam then
    let gone := fun (t : Nat) => (List.range 64).all fun i => bandCount d ≤ 64 * t + i || done.contains (64 * t + i)
    { s with windows := s.windows.filter fun w => !(w.handle == h && gone w.tile) }
  else
    let ct := cdiv (gradN d) 64
    let rt := cdiv (gradK d) 64
    let mine := fun (w : WinTile) => w.handle == hHandle (dPartner d) && w.tile / (rt * ct) == b.fold &&
      decide (b.k0 ≤ w.tile % (rt * ct) / ct * 64) && decide (w.tile % (rt * ct) / ct * 64 < b.k1) && w.tile % ct * 64 == b.n0
    { s with windows := s.windows.filter fun w => !mine w }

/-- Perform band t of an update on felt n: masters and planes, then copies; the last band ends it. An update that a failed
write has abandoned stays so. -/
def runBand (s : State) (u : Upd) (t n : Nat) : State :=
  match s.desc u.handle with
  | none => s
  | some d =>
    let slot := ruleOf s d
    match bandBad s u.handle (readBase s (bankMask s) u.handle d) d (bandAt d t) with
    | some k => uncorrEngine s u.panel k
    | none =>
      let s := match firstParam d with
        | some h => if u.done.isEmpty then updateParam s slot h u.pvals else s
        | none => s
      let (s, sums) := writeBand (roundSums s u.handle) slot u.vals u.handle d t n
      let done := u.done ++ [t]
      let sums := (u.sums.zip sums).map fun y => y.1.add y.2
      let mask := newMask s u.panel
      let s := if dKind d = kParam then s
        else writeCopies s u.handle (readBase s mask u.handle d) d (fromMasters s u.handle mask d) t n done
      let s := freeTiles s u.handle d (bandAt d t) done
      let rest := s.updates.filter fun y => y.flight != u.flight
      let u' : Upd := { u with done := done, sums := sums, held := u.held.filter fun x => x.1 != t }
      if done.length = u.bands then finishSums { s with updates := rest } slot u.handle d (u.vals.getD 6 0).toNat sums
      else
        let l := updWhere (fun y : Upd => y.flight == u.flight) (fun _ => u') s.updates
        { s with updates := l }

/-- A felt takes a band: a failed check writes nothing and faults the step (R431, R432); a wait of R275 leaves it; a held
bank keeps it back (R256). -/
def takeBand (s : State) (id t : Nat) (chk : FeltCheck) : State :=
  match s.updates.find? (·.flight == id) with
  | none => s
  | some u =>
    let d := (s.desc u.handle).getD []
    let n := bandFelt s u.handle (newMask s u.panel) d t
    if u.bands ≤ t || u.done.contains t || (u.held.any fun x => x.1 == t) || bandWaits s d then s
    else if chk != .pass then s.feltChecked n u.panel chk
    else if bankHeld s u.panel then
      let l := updWhere (fun y : Upd => y.flight == id) (fun y => { y with held := y.held ++ [(t, n)] }) s.updates
      { s with updates := l }
    else runBand s u t n

/-- The held writes of an update go ahead once nothing holds the bank. -/
def releaseHeld (s : State) (id : Nat) : State :=
  match s.updates.find? (·.flight == id) with
  | none => s
  | some u =>
    if bankHeld s u.panel then s
    else u.held.foldl (fun s x =>
      match s.updates.find? (·.flight == id) with
      | some u => if u.held.contains x then runBand s u x.1 x.2 else s
      | none => s) s

/-! MATERIALISE (R259). -/

/-- SRC0 as the source of a frozen weight's copies; SR as its rule slot selects it (R259, R274). -/
def fromFrozen (s : State) (d : Desc) (mask fld : Nat) : CopySrc :=
  let h := hHandle fld
  let a := descOf s fld
  let v := viewAt h (readBase s mask h a) a
  ⟨fun fold k n => v.get s 0 k n (fold % max 1 (dDim a 2)) (fold / max 1 (dDim a 2)),
    if (storeGeo a).elem == .b16 then maxB16 else maxF32, slSr (ruleOf s d) 2, slSr (ruleOf s d) 3, mask⟩

/-- Copies of CUR from its masters or from SRC0; T becomes 0 for a trained tensor. -/
def materialiseAll (s : State) (f : Flight) : State :=
  let h := hHandle (miDst f.mi)
  let d := descOf s (miDst f.mi)
  let p := handlePanel h
  let mask := bankMask s
  let base := readBase s mask h d
  let frozen := dFrozen d && dKind d == kWeight
  let s := if dKind d = kParam then s
    else
      let x := if frozen then fromFrozen s d mask (miSrc f.mi 0) else fromMasters s h mask d
      (List.range (bandCount d)).foldl (fun s t =>
        let n := bandFelt s h mask d t
        writeCopies (s.finc F.FELT_UPD_BANDS_COUNT n 1) h base d x t n (List.range (t + 1))) s
  if frozen then s
  else
    let (s, ok) := s.put h (bytePuts (base + (bankLayout s d).header) [0, 0, 0, 0])
    s.writeFail p ok

/-- A bad block among what MATERIALISE reads. -/
def materialiseBad (s : State) (f : Flight) : Option Nat :=
  let h := hHandle (miDst f.mi)
  let d := descOf s (miDst f.mi)
  if dKind d = kParam then none
  else if dFrozen d then
    let a := descOf s (miSrc f.mi 0)
    (viewAt (hHandle (miSrc f.mi 0)) (readBase s (bankMask s) (hHandle (miSrc f.mi 0)) a) a).bad s (dCols a) (dRows a) (dDim a 2) (dDim a 3)
  else badIn s h (masterOff s d (readBase s (bankMask s) h d) 0) (masterWidth s d * masterCount d)

def startMaterialise (s : State) (id c : Nat) (f : Flight) (first : Bool) : State :=
  match (if first then materialiseBad s f else none) with
  | some k => uncorrEngine s f.panel k
  | none => takeAll s id c f first false none fun s => materialiseAll s f

/-! Commands. -/

def execUpdate (c : Fin 1056) (st : Strm) (s : State) : Out :=
  done (issue (opUpdate false) s c st fun s id f first => startUpdate s id c f first)

def execMaterialise (c : Fin 1056) (st : Strm) (s : State) : Out :=
  done (issue (opUpdate true) s c st fun s id f first => startMaterialise s id c f first)

def execUpdateBand (id band : Nat) (chk : FeltCheck) (s : State) : Out := done (takeBand s id band chk)

def execUpdateWriteRelease (id : Nat) (s : State) : Out := done (releaseHeld s id)

/-! Completion (R211). -/

/-- Every unit is claimed, and a product's slices and side records have landed. -/
def landed (s : State) (f : Flight) : Bool :=
  decide (f.plan.units ≤ f.claims.length) && !s.slices.any (fun x => x.flight == f.id) &&
  !s.stalledSlices.any (fun x => x.flight == f.id) && !s.sideRecs.any fun x => x.flight == f.id

/-- Everything that a macro-instruction does has been done. -/
def allDone (s : State) (f : Flight) : Bool :=
  match miOpcode f.mi with
  | 0x01 | 0x02 | 0x03 | 0x04 | 0x08 | 0x09 | 0x10 | 0x11 | 0x18 | 0x19 | 0x20 | 0x28 | 0x29 | 0x2A => landed s f
  | 0x21 => landed s f && allReduced s (hHandle (miDst f.mi))
  | 0x22 => landed s f && !s.updates.any fun u => u.flight == f.id
  | _ => false

def execMacroComplete (id : Nat) (s : State) : Out :=
  match s.flight id with
  | some f => done (if !f.done && allDone s f then startWindows (s.complete id) f.panel else s)
  | none => done s

end Sys2Proof.Machine
end

