-- ==== Sys2Proof/Machine/Steps.lean ====
section
/-! DEFINITION. The end of a training step: SETTLING, arrivals, outcomes, commit, repeat, pauses and RESUME (R250, R279 to
R288, R442); the update rules' STOP and START (R316); the ratio snapshot (R289). -/
namespace Sys2Proof.Machine
open Sys2Proof

/-! Into SETTLING and VOTING. -/

/-- Every stream of every non-excluded core waits at the entry boundary. -/
def allAtEntry (s : State) (p : Nat) : Bool :=
  (barCores s p).all fun c => [Strm.F, .B, .U].all fun st => s.sstate c st == stEntry

/-- COMPUTING goes to SETTLING once every END has completed and all has landed (R279). -/
def execSettling (p : Fin 64) (s : State) : Out :=
  if s.isTraining p && s.vstate p == vsComputing && !(s.panel p).aborting && allAtEntry s p && drained s p then
    done (s.fset F.HUB_STEP_STATUS_STATE p vsSettling)
  else done s

/-- Nothing of an aborted step is in flight: the abort counts as every END (R442). -/
def execAbortDrained (p : Fin 64) (s : State) : Out :=
  if s.isTraining p && (s.panel p).aborting && drained s p then
    let s := s.setPanel p { s.panel p with aborting := false }
    done (if s.vstate p == vsComputing then s.fset F.HUB_STEP_STATUS_STATE p vsSettling else s)
  else done s

/-- VOTE_SETTLE ticks after SETTLING: the arrival leaves with S and the fault bit, which a stop in mode 0 sets
(R57, R279); an automatic stop of R441 acts now as a stop in mode 0. -/
def execVoteArrival (p : Fin 64) (s : State) : Out :=
  if s.isTraining p && s.vstate p == vsSettling then
    let cut := s.pstate p == psStopping && !(s.panel p).mode1
    let s := (s.fset F.HUB_STEP_STATUS_STATE p vsVoting).sendVote p ((s.panel p).fault || cut)
    let s := s.setPanel p { s.panel p with fault := false }
    done (if (s.panel p).remap && s.pstate p == psRunning then s.beginStop p false else s)
  else done s

/-! At the vote root. -/

/-- VOTE_TIMEOUT after the first arrival with a member missing: the arrived members pause (R281, R449). -/
def timeoutVote (s : State) (p : Nat) : State :=
  let l := voteSetOf s p
  let key := l.headD (0, 0)
  match s.votes.find? (·.key == key) with
  | none => s
  | some v =>
    if !rootHere s l || v.timedOut || v.arrived.isEmpty then s
    else
      let s := voteRecord s v.members ((v.arrived.head?.map (·.2.2.1)).getD 0)
      let s := releaseVotes s .pauseTimeout v.members (v.arrived.map fun a => (a.1, a.2.1))
      { s with votes := s.votes.filter (·.key != key) ++ [{ v with timedOut := true }] }

def execVoteTimeout (p : Fin 64) (s : State) : Out := done (timeoutVote s p)

/-! Outcomes at a member. -/

def stepQueuesOf (s : State) (p : Nat) : List Nat := ((s.entryOf p).map (·.stepQueues)).getD []

/-- Commit of one ratio-table entry (R278): the out-of-bounds event joins the count. -/
def commitRatio (r : Ratio) : Ratio :=
  match r.pend with
  | none => r
  | some ws => { r with
      vals := some (ws.take 7), pend := none, oob := satAdd (2 ^ 32 - 1) r.oob (ws.getD 7 0).toNat, step := (ws.getD 8 0).toNat }

/-- The ratio-table entries of a panel commit. -/
def State.commitRatios (s : State) (p : Nat) : State :=
  { s with ratios := updWhere (fun r : Ratio => handlePanel r.handle == p) commitRatio s.ratios }

/-- A failed vote discards pending ratios. -/
def State.failRatios (s : State) (p : Nat) : State :=
  let l := updWhere (fun r : Ratio => handlePanel r.handle == p) (fun r => { r with pend := none }) s.ratios
  { s with ratios := l.filter fun r => r.vals.isSome || r.pend.isSome }

/-- What both outcomes free: windows, reduced tiles, sums, checksums, products by window, what was sent (R282, R283). -/
def State.freeStep (s : State) (p : Nat) : State :=
  { s with
    windows := s.windows.filter (·.panel != p)
    micros := s.micros.filter fun x => handlePanel x.1 != p
    sliceSums := s.sliceSums.filter fun x => handlePanel x.1.1 != p
    sideSums := s.sideSums.filter (·.panel != p)
    sentTiles := s.sentTiles.filter fun x => !(replicasOf s p).contains x.1
    updDone := s.updDone.filter fun h => handlePanel h != p }

/-- Action 4 of R282: the masks of S and the late contributions of S − 1 go; those of S stay for S + 1. -/
def State.commitHelds (s : State) (p : Nat) : State :=
  let step := stepOf s p
  { s with
    masks := s.masks.filter fun (m : Mask) => !(m.panel == p && m.step == step)
    helds := s.helds.filter fun (x : Held) => !(x.panel == p &&
      (if x.late then x.x.step != step else x.x.step == step)) }

/-- Action 4 of R283: contributions of S go, those of S − 1 are folded again; decided masks stay. -/
def State.repeatHelds (s : State) (p : Nat) : State :=
  let step := stepOf s p
  let ms := s.masks.filter fun (m : Mask) => !(m.panel == p && !m.fixed)
  let hs := s.helds.filter fun (x : Held) => !(x.panel == p && x.x.step == step)
  { s with
    masks := updWhere (fun m : Mask => m.panel == p) (fun m => { m with reduced := false, running := false }) ms
    helds := updWhere (fun x : Held => x.panel == p) (fun x => { x with folded := false }) hs }

/-- An outcome: LAST, VOTE_DONE, the claim source (R288). -/
def voteDone (s : State) (p last : Nat) : State :=
  ((s.fset F.HUB_STEP_STATUS_LAST p last).fset F.HUB_STEP_STATUS_VOTE_DONE p 1).raise (1121 + p)

/-- The streams leave the entry boundary and the panel computes; page moves of its weights are abandoned (R308). -/
def State.computeAgain (s : State) (p : Nat) : State :=
  ((s.toEntry p stWait).fset F.HUB_STEP_STATUS_STATE p vsComputing).abandonMoves p

/-- A stop takes effect at the entry boundary: at once when it is forced (R287). -/
def State.stopAtEntry (s : State) (p : Nat) : State :=
  let s := (s.eachStream p fun s c st => s.setSstate c st stIdle).fset F.HUB_STEP_STATUS_STATE p vsIdle
  if (s.panel p).waitForce then s.enterStopped p else s

/-- Pause with a cause; a stop in force takes effect at once (R284, R287). -/
def State.pause (s : State) (p cause : Nat) : State :=
  let s := (s.fset F.HUB_STEP_STATUS_CAUSE p cause).fset F.HUB_STEP_STATUS_STATE p vsPaused
  if s.pstate p == psStopping then (s.eachStream p fun s c st => s.setSstate c st stIdle).enterStopped p else s

/-- Actions 1 to 5 of R282. -/
def State.commitActions (s : State) (p : Nat) : State :=
  let step := stepOf s p
  let s := if s.fbit F.HUB_STEP_STATUS_SINGLE p then s
    else s.fset F.HUB_STEP_STATUS_BANK p (1 - s.fget F.HUB_STEP_STATUS_BANK p)
  let s := (stepQueuesOf s p).foldl State.commitQueue s
  let s := ((s.commitTrackers p step).commitRatios p).commitHelds p
  let s := (s.freeStep p).wr .HUB_STEP_NUM p (BitVec.ofNat 32 (step + 1))
  let s := (s.fincw F.HUB_STEP_COMMITTED_COUNT p 1).fset F.HUB_STEP_STATUS_FAILS p 0
  (s.fset F.HUB_STEP_STATUS_UPDATED p 0).fset F.HUB_STEP_STATUS_CAUSE p 0

/-- Actions 1 to 4 of R283. -/
def State.repeatActions (s : State) (p : Nat) : State :=
  let s := (stepQueuesOf s p).foldl State.repeatQueue s
  (((s.failTrackers p).failRatios p).repeatHelds p).freeStep p

/-- COMMITTING (R282, R287). -/
def State.commit (s : State) (p : Nat) : State :=
  let s := (voteDone s p 1).commitActions p
  if s.pstate p == psStopping then s.stopAtEntry p else (s.computeAgain p).dueFault p

/-- REPEATING (R283, R284, R287). -/
def State.repeatStep (s : State) (p : Nat) : State :=
  let s := s.finc F.HUB_STEP_REPEATS_REPEATS p 1
  let s := s.finc F.HUB_STEP_STATUS_FAILS p 1
  if s.fbit F.HUB_STEP_STATUS_SINGLE p && s.fbit F.HUB_STEP_STATUS_UPDATED p then (voteDone s p 3).pause p 5
  else
    let s := s.repeatActions p
    let limit := ((s.entryOf p).map (·.repeatLimit)).getD 15
    if limit ≤ s.fget F.HUB_STEP_STATUS_FAILS p then (voteDone s p 3).pause p 4
    else
      let s := (voteDone s p 2).fset F.HUB_STEP_STATUS_CAUSE p 1
      if s.pstate p == psStopping && !(s.panel p).mode1 then s.stopAtEntry p else s.computeAgain p

/-- What an outcome does to a panel that stopped with its arrival sent: LAST and CAUSE; a panel that runs again abandons what
it has begun of the step, and repeats it or pauses; a stopped one stays IDLE (R287). -/
def State.lateEnd (s : State) (p last cause : Nat) (acts : Bool) : State :=
  let s := (voteDone s p last).fset F.HUB_STEP_STATUS_CAUSE p cause
  let run := s.vstate p == vsComputing
  let s := if run then s.dropWork p else s
  let s := if acts then s.repeatActions p else s
  if !run then s
  else if last = 2 then s.computeAgain p
  else (s.toEntry p stEntry).fset F.HUB_STEP_STATUS_STATE p vsPaused

/-- An outcome that meets a panel which stopped with its arrival sent (R57): the step repeats when the panel runs, under the
limits of R283 and R284. -/
def State.lateOutcome (s : State) (p : Nat) (o : VoteOutcome) : State :=
  match o with
  | .pauseTimeout => s.lateEnd p 3 2 true
  | .pauseSkew => s.lateEnd p 3 3 true
  | _ =>
    let s := (s.finc F.HUB_STEP_REPEATS_REPEATS p 1).finc F.HUB_STEP_STATUS_FAILS p 1
    if s.fbit F.HUB_STEP_STATUS_SINGLE p && s.fbit F.HUB_STEP_STATUS_UPDATED p then s.lateEnd p 3 5 false
    else if ((s.entryOf p).map (·.repeatLimit)).getD 15 ≤ s.fget F.HUB_STEP_STATUS_FAILS p then s.lateEnd p 3 4 true
    else s.lateEnd p 2 1 true

/-- An outcome reaches a member panel; it wakes the panel's parked cores (R498). -/
def takeOutcome (s : State) (p : Nat) (o : VoteOutcome) : State :=
  let s := (s.coresOf p).foldl (fun s c => s.wake c) s
  let v := s.vstate p
  let s := s.setPanel p { s.panel p with owed := false }
  if v == vsVoting then
    match o with
    | .commit => s.commit p
    | .repeatStep => s.repeatStep p
    | .pauseTimeout => (voteDone s p 3).pause p 2
    | .pauseSkew => (voteDone s p 3).pause p 3
  else if (v == vsIdle || v == vsComputing) && o ≠ .commit then s.lateOutcome p o
  else s

/-- The release of the step-vote barrier reaches panel p (R281): the outcome of this device's root, or of a root
elsewhere (`remote`) while the panel's arrival awaits one. -/
def releaseVote (s : State) (p : Nat) (remote : VoteOutcome) : State :=
  if !s.isTraining p || !(s.panel p).owed then s
  else match s.voteOut.find? (·.1 == p) with
    | some x => takeOutcome { s with voteOut := s.voteOut.eraseP (·.1 == p) } p x.2
    | none => if rootHere s (voteSetOf s p) then s else takeOutcome s p remote

def execVoteRelease (p : Fin 64) (remote : VoteOutcome) (s : State) : Out := done (releaseVote s p remote)

/-! RESUME (R285, R286). -/

def stepOff (p : Nat) : Nat := 0x00020000 + 0x20 * p

/-- A write to HUB_STEP_CTRL. -/
def stepCtrl (s : State) (p : Nat) (w : Word) : State :=
  let bad := fun (s : State) => s.finc F.HUB_STEP_REPEATS_BAD_CMD p 1
  if !bitOf w.toNat 0 then s
  else if s.vstate p != vsPaused then (bad s).fset F.HUB_STEP_STATUS_CAUSE p 0x20
  else
    let lost := s.fget F.HUB_STEP_STATUS_CAUSE p == 5
    if lost && !bitOf w.toNat 1 then bad s
    else
      let s := if lost then s.fset F.HUB_STEP_STATUS_UPDATED p 0 else s
      ((s.repeatActions p).fset F.HUB_STEP_STATUS_FAILS p 0).computeAgain p

def execResume (a : Agent) (p : Fin 64) (w : Word) (s : State) : Out :=
  done (s.access a (stepOff p + 0xC) fun s => stepCtrl s p (w ||| 1))

/-! FELT_RULE_ (R316). -/

def ruleState (s : State) : Nat := s.fget F.FELT_RULE_STATUS_STATE 0
def badRule (s : State) : State := s.finc F.FELT_RULE_STATUS_BAD_CMD 0 1

/-- Slots that a loaded WEIGHT or PARAM descriptor names. -/
def slotNamed (s : State) (k : Nat) : Bool :=
  (List.range 64).any fun p => (((s.secsOf p).bind (·.descriptors)).getD []).any fun e =>
    (dKind e.2 == kWeight || dKind e.2 == kParam) && dRule e.2 == k

/-- A START would change RULE or FORMATS of a slot in use since the last full load. -/
def ruleMoves (s : State) : Bool :=
  let look := fun (r : FeltRules) (k : Nat) => (slotIn r k).map fun b => (slRule b, slFormats b)
  ((s.rules.slots ++ s.rules0.slots).map (·.1)).any fun k => slotNamed s k && look s.rules k != look s.rules0 k

/-- A write to FELT_RULE_CTRL: each bit is judged against the state at the write. -/
def ruleCtrl (s : State) (w : Word) : State :=
  let st := ruleState s
  let s := if !bitOf w.toNat 0 then s else if st = 0 then s.fset F.FELT_RULE_STATUS_STATE 0 1 else badRule s
  if !bitOf w.toNat 1 then s
  else if st ≠ 2 || !rulesOk s.rules || ruleMoves s then badRule s
  else
    let s := if s.rulesOn == s.rules then s else s.fincw F.FELT_RULE_STATUS_GEN 0 1
    { (s.fset F.FELT_RULE_STATUS_STATE 0 0) with rulesOn := s.rules }

def execRuleStop (a : Agent) (w : Word) (s : State) : Out :=
  done (s.access a (feltOff 0 + 0x10040) fun s => ruleCtrl s (w ||| 1))

def execRuleStart (a : Agent) (w : Word) (s : State) : Out :=
  done (s.access a (feltOff 0 + 0x10040) fun s => ruleCtrl s (w ||| 2))

/-- No UPDATE is in flight on any felt. -/
def execRulesStopped (s : State) : Out :=
  if ruleState s = 1 && s.updates.isEmpty && !s.flights.any (fun f => !f.done && miOpcode f.mi == 0x22) then
    done (s.fset F.FELT_RULE_STATUS_STATE 0 2)
  else done s

/-! FELT_RATIO_SEL (R289). -/

/-- The ten items of a ratio-table entry; zeros where there is none. -/
def ratioItems (s : State) (h : Nat) : List Word :=
  match s.ratios.find? (·.handle == h) with
  | none => List.replicate 10 0
  | some r =>
    let v := r.vals.getD (List.replicate 7 0)
    [BitVec.ofNat 32 (b2n r.pend.isSome * 2 ^ 30 + b2n r.vals.isSome * 2 ^ 31)] ++ v ++
      [BitVec.ofNat 32 r.oob, BitVec.ofNat 32 r.step]

def ratioSel (s : State) (n : Nat) (w : Word) : State :=
  let h := bits w.toNat 0 20
  let s := (s.fset F.FELT_RATIO_SEL_HANDLE n h).fset F.FELT_RATIO_SEL_ITEM n (bits w.toNat 20 4)
  { s with ratioSnap := s.ratioSnap.filter (fun (x : Nat × List Word) => x.1 != n) ++
      [(n, if h % 8 = n then ratioItems s h else List.replicate 10 0)] }

/-- FELT_RATIO_DATA of felt n. -/
def ratioData (s : State) (n : Nat) : Word :=
  (((s.ratioSnap.find? (·.1 == n)).map (·.2)).getD []).getD (s.fget F.FELT_RATIO_SEL_ITEM n) 0

def execFeltRatioSelWrite (a : Agent) (n : Fin 8) (w : Word) (s : State) : Out :=
  done (s.access a (feltOff n + 0x50030) fun s => ratioSel s n w)

end Sys2Proof.Machine
end

