-- ==== Sys2Proof/Machine/Views.lean ====
section
/-! DEFINITION. Where every register sits in control space (R37 to R42 and the offset tables), and what a read of it returns:
the stored word, or the view of the machine that its table gives. -/
namespace Sys2Proof.Machine
open Sys2Proof

/-! Offsets to registers. -/

/-- Register and index of a slot list that sits at an offset of its block; the index counts copies within the block. -/
def slotAt (l : List Slot) (off : Nat) : Option (Reg × Nat × Nat) :=
  (l.find? fun x => x.off ≤ off && (off - x.off) % x.stride == 0 && (off - x.off) / x.stride < x.count).map
    fun x => (x.reg, (off - x.off) / x.stride, x.count)

/-- Copy number of index i of count registers in block b. -/
def inBlock (b : Nat) : Option (Reg × Nat × Nat) → Option (Reg × Nat)
  | some (r, i, n) => some (r, b * n + i)
  | none => none

/-- The die's own registers: DIE_BEAT only on C-dies. -/
def dieAt (die : Nat) (beat : Bool) (off : Nat) : Option (Reg × Nat) :=
  match slotAt dieSlots off with
  | some (.DIE_BEAT, _, _) => if beat then some (.DIE_BEAT, die) else none
  | some (r, _, _) => some (r, die)
  | none => none

def orElse (a b : Option (Reg × Nat)) : Option (Reg × Nat) := match a with | some x => some x | none => b

/-- The blocks of the control space below 0x0800_0000 (R37). -/
def hubAt (off : Nat) : Option (Reg × Nat) :=
  if off < 0x01000000 then orElse (dieAt 0 false off) (inBlock 0 (slotAt hubSlots off))
  else if off < 0x02000000 then inBlock 0 (slotAt attnSlots (off - 0x01000000))
  else if off < 0x03000000 then
    let x := off - 0x02000000
    if x / 0x1000 < 256 then inBlock (x / 0x1000) (slotAt qSlots (x % 0x1000)) else none
  else if off < 0x04000000 then
    let x := off - 0x03000000
    if x / 0x100 < 6 then inBlock (x / 0x100) (slotAt stwbSlots (x % 0x100)) else inBlock 0 (slotAt stwSlots x)
  else
    let x := off - 0x04000000
    if x / 0x10000 < 16 then inBlock (x / 0x10000) (slotAt lnkSlots (x % 0x10000)) else none

/-- A C-die's half: its core windows, then its die level. -/
def cdieAt (d x : Nat) : Option (Reg × Nat) :=
  if x < 0x03000000 then
    if x / 0x10000 < 528 then inBlock (d * 528 + x / 0x10000) (slotAt coreSlots (x % 0x10000)) else none
  else orElse (dieAt (1 + d) true (x - 0x03000000)) (inBlock d (slotAt cdieSlots (x - 0x03000000)))

/-- The register at an offset, and its copy number. -/
def regAt (off : Nat) : Option (Reg × Nat) :=
  if off < 0x08000000 then hubAt off
  else if off < 0x10000000 then
    let x := off - 0x08000000
    let n := x / 0x100000
    if n < 8 then orElse (dieAt (3 + n) false (x % 0x100000)) (inBlock n (slotAt feltSlots (x % 0x100000))) else none
  else if off < 0x14000000 then cdieAt 0 (off - 0x10000000)
  else if off < 0x18000000 then cdieAt 1 (off - 0x14000000)
  else none

/-! Views of a core. -/

/-- Macro-instructions in flight on a core: walked by a stream, or with a unit recorded. -/
def flightsOn (s : State) (c : Nat) : List Flight :=
  let x := s.core c
  let ids := [x.f, x.b, x.u].flatMap fun y => y.flight.toList ++ y.units.map (·.flight)
  s.flights.filter fun f => ids.contains f.id

/-- Recorded units that an array runs, with their macro-instructions. -/
def unitsOn (s : State) (c : Nat) : List (Flight × UnitRec) :=
  let x := s.core c
  ([x.f, x.b, x.u].flatMap (·.units)).filterMap fun r =>
    if r.running then (s.flight r.flight).map fun f => (f, r) else none

/-- The Gauze macro-instruction in flight. -/
def gzFlight (s : State) (c : Nat) : Option Flight := (flightsOn s c).find? fun f => miOpcode f.mi == opG

def gzStatus (s : State) (c : Nat) : Nat :=
  let us := (unitsOn s c).filter fun u => miOpcode u.1.mi == opG
  b2n (gzFlight s c).isSome + 2 * b2n (us.any fun u => u.2.exact) + 4 * b2n (us.any fun u => u.2.arr == .tweed)

def divertCode : Divert → Nat
  | .none => 0 | .fp8 => 1 | .bf16 => 2

/-- GZ_MODE (R128). -/
def gzMode (s : State) (c : Nat) : Nat :=
  match gzFlight s c with
  | none => 0
  | some f =>
    let ly := layerIn s f
    miRun f.mi + b2n (miRef f.mi) * 2 ^ 5 + b2n ly.fallback * 2 ^ 6 + divertCode ly.divert * 2 ^ 7 + ly.picotSlots * 2 ^ 9 +
      dTwill (descOf s (miSrc f.mi 0)) * 2 ^ 11 + b2n (miSr f.mi) * 2 ^ 14 + ly.tau.toNat * 2 ^ 16

def gzLimits (s : State) (c : Nat) : Nat :=
  match gzFlight s c with
  | none => 0
  | some f => let ly := layerIn s f; ly.alignLimit + ly.picotLimit * 2 ^ 16

/-- The tile in flight on the Tweed array. -/
def twUnit (s : State) (c : Nat) : Option (Flight × UnitRec) := (unitsOn s c).find? fun u => u.2.arr == .tweed

/-- Work of Gauze that runs on Tweed: a diverted MATMUL or ATTEND (R80, R112, R223). -/
def gauzeWork (f : Flight) : Bool := miOpcode f.mi == opG || miOpcode f.mi == 0x08

def twStatus (s : State) (c : Nat) : Nat :=
  let wait := 8 * b2n (s.stalledSlices.any fun x => x.core == c)
  match twUnit s c with
  | none => wait
  | some (f, _) => 1 + 2 * b2n (miRef f.mi) + 4 * b2n (gauzeWork f) + wait

/-- Elements of the pair that the array multiplies; work of R112 is a pair of E4M3 or of BF16 with the weight. -/
def twElems (s : State) (f : Flight) : List Elem :=
  let a := (multGeo (miOpcode f.mi) (descOf s (miSrc f.mi 0))).elem
  let b := (multGeo (miOpcode f.mi) (descOf s (miSrc f.mi 1))).elem
  if miOpcode f.mi == opG && !fmtDiverts s f.mi && (layerIn s f).divert == .bf16 then [.b16, b] else [a, b]

def twBlocks (s : State) (f : Flight) : Nat :=
  let blk := fun k => (multGeo (miOpcode f.mi) (descOf s (miSrc f.mi k))).blk
  if miOpcode f.mi == opG && !fmtDiverts s f.mi then
    tweedLen (if (layerIn s f).divert == .fp8 then 32 else 0) (blk 1)
  else tweedLen (blk 0) (blk 1)

/-- TW_MODE (R156). -/
def twMode (s : State) (c : Nat) : Nat :=
  match twUnit s c with
  | none => 0
  | some (f, _) =>
    let op := miOpcode f.mi
    let form := if op == opTdx then 1 else if op == opTdw then 2 else if gauzeWork f then 3 else 0
    let addend := (op == opT || op == opTdx) && hPresent (miSrc f.mi 2)
    let es := twElems s f
    let pair := if es.contains .b16 then 1 else if es.contains .f16 then 2 else 0
    form + b2n (miRef f.mi) * 2 ^ 2 + pair * 2 ^ 3 + b2n (twBlocks s f == 8) * 2 ^ 5 + derivCode s f.panel f.mi % 16 * 2 ^ 6 +
      b2n addend * 2 ^ 10 + b2n (isProduct op && redA s f) * 2 ^ 11 + b2n (isProduct op && redB s f) * 2 ^ 12 +
      b2n (miSr f.mi) * 2 ^ 13

/-- 2^j as FP32 bits. -/
def pow2Word (j : Int) : Word := rne32 (FV.fin false 1 j)

/-- TW_TBL_DATA: the tables of the core's panel (R146, R147). -/
def tblData (s : State) (c : Nat) : Word :=
  let g := fun (f : Fld) => s.fget f c
  let ts := match s.ownerOf c with | some p => (s.panel p).tables | none => []
  match storedTable ts (g F.TW_TBL_SEL_TABLE) with
  | none => 0
  | some t =>
    if g F.TW_TBL_SEL_HEAD = 0 then t.coef (g F.TW_TBL_SEL_SEG) (g F.TW_TBL_SEL_COEF)
    else match g F.TW_TBL_SEL_COEF with
      | 0 => t.zLo | 1 => pow2Word t.j | 2 => t.left | _ => t.right

/-- The attention unit in flight on a core, by its macro-instruction. -/
def attStatus (s : State) (c : Nat) : Nat :=
  match (unitsOn s c).find? fun u => miOpcode u.1.mi == 0x08 || miOpcode u.1.mi == 0x09 with
  | none => 0
  | some (f, _) => 1 + 2 * b2n (attDiverts s f.mi) + 4 * b2n (isPool s f.mi) +
      (if miOpcode f.mi == 0x09 then bwPhase f.mi % 4 * 8 else 0)

/-- A conversion or a side reduction is in flight on a core (R158, R172 to R174): a unit of CONVERT, the drain of a Tweed
product into another format than FP32 or with a side reduction, or a side record on its way. -/
def seamBusy (s : State) (c : Nat) : Bool :=
  let drains := fun (f : Flight) =>
    let d := descOf s (miDst f.mi)
    let op := miOpcode f.mi
    op == 0x10 || ((op == opT || op == opTdx) && ((storeGeo d).elem != .f32 || hPresent (dLscale d)))
  (unitsOn s c).any (fun u => drains u.1) || s.slices.any (fun x => x.core == c && x.side.isSome) ||
    s.sideRecs.any fun x => match s.flight x.flight with | some f => f.issued.contains c | none => false

def seamStatus (s : State) (c : Nat) : Nat :=
  (s.trackers.filter fun t => s.liveOf t.core == some c).length % 32 +
    32 * b2n (seamBusy s c) + 64 * s.fget F.SEAM_STATUS_RESTORED c

def selStream (s : State) (c : Nat) : Strm :=
  match s.fget F.NDL_SEL_STREAM c with | 1 => .B | 2 => .U | _ => .F

/-- NDL_WALK: the plan of the selected stream. -/
def ndlWalk (s : State) (c : Nat) : Nat :=
  let st := selStream s c
  if s.sstate c st != stWalk then 0
  else match ((s.core c).stream st).flight.bind s.flight with
    | some f => f.plan.kc / 32 % 1024 + f.plan.split % 128 * 2 ^ 10 + f.plan.order % 4 * 2 ^ 17
    | none => 0

/-- NDL_SHP_DATA: a shape register entry never written reads 0xFFFF_FFFF (R193). -/
def shpData (s : State) (c : Nat) : Word :=
  let e := s.fget F.NDL_SEL_ENTRY c
  if 6 ≤ e then 0
  else spGet (fun _ => 0xFFFFFFFF) (s.core c).shp (strmNo (selStream s c) * 96 + s.fget F.NDL_SEL_SHP c * 6 + e)

/-- NDL_STREAM_STATUS with WAIT_PENDING of the macro-instruction that waits. -/
def streamStatus (s : State) (i : Nat) : Nat :=
  let c := i / 3
  let st := match i % 3 with | 0 => Strm.F | 1 => .B | _ => .U
  let w := match s.ownerOf c with
    | some p => if s.sstate c st == stWait then openWaits s c st (s.miAt p st (s.pc c st)) else 0
    | none => 0
  putBits (s.rd .NDL_STREAM_STATUS i).toNat 4 4 w

/-! Views of a felt and of the hub. -/

def chanData (s : State) (n : Nat) : Nat :=
  let ch := s.fget F.ATT_CHAN_SEL_CHANNEL n
  let x := s.chan ch
  if ch % 8 ≠ n then 0
  else match s.fget F.ATT_CHAN_SEL_ITEM n with
    | 0 => x.error % 16 + b2n x.priv * 16 + b2n x.owned * 32 + x.panel % 64 * 64 + b2n x.held * 4096
    | 1 => x.len (s.fget F.ATT_CHAN_SEL_LAYER n) % 2 ^ 21
    | 2 => x.groups.length % 2 ^ 15
    | _ => x.pool % 2 ^ 20

/-- Late contributions held on a felt. -/
def lateTiles (s : State) (n : Nat) : Nat :=
  s.helds.countP fun h => h.late && tileFelt s (bankMask s) h.x.handle h.x.tile == n

def winStatus (s : State) (n : Nat) : Nat :=
  let late := lateTiles s n
  ((s.windows.countP fun w => w.felt == n) + late) % 2 ^ 13 + late % 2 ^ 13 * 2 ^ 13

/-- The word that FELT_RULE_SEL selects; only felt 0 holds the rules (R316). -/
def ruleData (s : State) : Word :=
  let ix := s.fget F.FELT_RULE_SEL_INDEX 0
  let w := s.fget F.FELT_RULE_SEL_WORD 0
  if s.fbit F.FELT_RULE_SEL_PROG 0 then (((s.rules.programs.find? (·.1 == ix)).map (·.2)).getD []).getD w 0
  else if w < 16 then slWord ((slotIn s.rules ix).getD []) (4 * w)
  else 0

def dieId (i : Nat) (stepping : Nat) : Nat :=
  let (t, n) := if i = 0 then (2, 0) else if i < 3 then (1, i - 1) else (3, i - 3)
  t + 16 * n + 256 * stepping

/-- A claim source word of CLM_PEND. -/
def pendWord (s : State) (w : Nat) : Nat := groupOf s F.CLM_SRC_PENDING (32 * w)

def routeWord (s : State) : Nat :=
  let e := s.routeWordOf (s.fget F.LNK_ROUTE_SEL_ID 0)
  e.1 % 16 + 16 * b2n e.2

/-- An epoch rooted on this device is open: of a barrier, or a step vote of one of its roots (R281, R346). -/
def rootOpen (s : State) : Bool := s.openEpochs.any (fun e => barRootHere s e.id) || s.votes.any fun v => v.decided.isNone

/-- What a read of a register returns, before the side effects of the read. -/
def viewReg (s : State) (r : Reg) (i : Nat) : Word :=
  let w := (s.rd r i).toNat
  let n := fun (v : Nat) => BitVec.ofNat 32 v
  match r with
  | .DIE_ID => n (dieId i (s.fget F.DIE_ID_STEPPING i))
  | .GZ_STATUS => n (gzStatus s i)
  | .GZ_MODE => n (gzMode s i)
  | .GZ_LIMITS => n (gzLimits s i)
  | .TW_STATUS => n (twStatus s i)
  | .TW_MODE => n (twMode s i)
  | .TW_TBL_DATA => tblData s i
  | .ATT_STATUS => n (attStatus s i)
  | .SEAM_STATUS => n (seamStatus s i)
  | .SEAM_TRK_DATA => (s.core i).trkSnap.getD (s.fget F.SEAM_TRK_SEL_ITEM i) 0
  | .NDL_SEL => if w % 4 = 3 then n (w - 3) else n w
  | .NDL_WALK => n (ndlWalk s i)
  | .NDL_SHP_DATA => shpData s i
  | .NDL_STREAM_STATUS => n (streamStatus s i)
  | .CORE_ATTN => n (coreAttn s i)
  | .ATT_TREE_USED => n ((s.tree.countP fun e => feltOfKey e.key == i) % 2 ^ 23)
  | .ATT_CHAN_DATA => n (chanData s i)
  | .FELT_WIN_STATUS => n (winStatus s i)
  | .FELT_RATIO_DATA => ratioData s i
  | .FELT_RULE_DATA => if i = 0 then ruleData s else 0
  | .PAT_SPARE_FREE => n (spareWord s 0 + spareWord s 1 * 2 ^ 16)
  | .CH_STATUS => n (putBits w 12 1 (b2n (rootOpen s)))
  | .ATTN_SUMMARY => n (attnSummary s)
  | .ATTN_GRP => n (attnGrp s i)
  | .ATTN_CORE_ROW_LO => n (attnRow s (i / 16) (i % 16))
  | .ATTN_CORE_ROW_HI => n (attnRow s (i / 16) (i % 16) / 2 ^ 32)
  | .CLM_PEND => n (pendWord s i)
  | .CLM_CLAIM => n (claimWinner s i)
  | .CLM_TARGET_STATUS => n (claimWinner s i + (claimedBy s i).length * 2 ^ 16)
  | .Q_STATUS => n (putBits w 3 1 (b2n (s.qstate i != qsUnconf && qUsed s i == qCap s i)))
  | .Q_COUNT => n (qCount s i)
  | .LNK_ROUTE_DATA => n (routeWord s)
  | .SEC_STATUS => n (putBits w 8 8 Config.romVersion.toNat)
  | .SEC_LOG_COUNT => n (putBits w 0 13 s.sec.log.length)
  | .STW_REC_STATUS => n (putBits w 0 13 s.recFifo.length)
  | _ => s.rd r i

end Sys2Proof.Machine
end

