-- ==== Sys2Proof/Machine/Access.lean ====
section
/-! DEFINITION. Control-space reads and writes of every register (R9 to R14, R37, R38, R55, R404, R469), the commands that
make them from a steward, a core, the I3C port and the JTAG port (R480, R482), and the commands of a die: parking,
DIE_BEAT and the drift check. -/
namespace Sys2Proof.Machine
open Sys2Proof

/-! Fields of a written word (R11, R14). -/

/-- What a field holds after a write of w over the word v. -/
def writeFld (w v : Nat) (f : Fld) : Nat :=
  let x := bits w f.lsb f.width
  let y := bits v f.lsb f.width
  match f.acc with
  | .rw => putBits v f.lsb f.width x
  | .w1c => putBits v f.lsb f.width (y - (y &&& x))
  | .w1s => putBits v f.lsb f.width (y ||| x)
  | _ => v

/-- The word that a plain write leaves. -/
def written (r : Reg) (v w : Nat) : Nat := r.fields.foldl (writeFld w) v

def plainWrite (s : State) (r : Reg) (i : Nat) (w : Word) : State :=
  s.wr r i (BitVec.ofNat 32 (written r (s.rd r i).toNat w.toNat))

/-- A bit of a W1C field. -/
def isW1c (r : Reg) (b : Nat) : Bool := r.fields.any fun f => f.acc == .w1c && f.lsb ≤ b && b < f.lsb + f.width

/-- Hardware sets an event bit. -/
def hwEvt (s : State) (r : Reg) (i b : Nat) : State :=
  match r with
  | .NDL_EVENT => if b = 0 then s.haltEvt i .F else if b = 1 then s.haltEvt i .B else if b = 2 then s.haltEvt i .U else s.ndlEvt i b
  | .GZ_EVENT => s.gzEvt i b
  | .TW_EVENT => s.twEvt i b
  | .SEAM_EVENT => s.seamEvt i b
  | .ATT_EVENT => s.attEvt i b
  | .CORE_FLT => s.fltEvt i b
  | .MK_STATUS => s.mkEvt i b (if b = 0 then 0 else if b = 4 then 2 else 1)
  | .FELT_MEM_EVENT => s.memEvt i b
  | .ATT_FELT_EVENT => s.attFeltEvt i b
  | .FELT_TRAIN_EVENT => s.trainEvt i b
  | .FELT_FLT => s.feltFlt i b
  | .DIE_FLT => s.dieFlt i b
  | .CH_EVENT => s.chEvt b
  | .LNK_EVENT => s.lnkEvt i b
  | .PWR_EVENT => s.pwrEvt b
  | .SEC_EVENT => s.secEvt b
  | .STW_EVENT => s.stwEvt i b
  | .HUB_INCHK_EVENT => s.inchkEvt b
  | .ICNT_STATUS => (s.setBit r i b).raise (1507 + i)
  | .PAT_PANEL_STATUS => (s.setBit r i b).raise (1057 + i)
  | .HUB_STEP_STATUS => (s.setBit r i b).raise (1121 + i)
  | .Q_STATUS => (s.setBit r i b).raise (1185 + i)
  | _ => s.setBit r i b

/-- Bits that hardware sets in the instant of a write: the bit stays set (R12). -/
def hwSets (s : State) (r : Reg) (i : Nat) (hw : Word) : State :=
  (List.range 32).foldl (fun s b => if bitOf hw.toNat b && isW1c r b then hwEvt s r i b else s) s

/-! Enables of a core (R404). -/

/-- Event register of a core's enable register, and its vector. -/
def coreEnable : Reg → Option (Reg × Nat)
  | .NDL_EVENT_EN => some (.NDL_EVENT, 1)
  | .GZ_EVENT_EN => some (.GZ_EVENT, 2)
  | .TW_EVENT_EN => some (.TW_EVENT, 3)
  | .SEAM_EVENT_EN => some (.SEAM_EVENT, 4)
  | .ATT_EVENT_EN => some (.ATT_EVENT, 5)
  | .MK_EVENT_EN => some (.MK_STATUS, 6)
  | .CORE_FLT_EN => some (.CORE_FLT, 7)
  | _ => none

/-- Event bits that enable bit b covers. -/
def enabledBits (r : Reg) (ev b : Nat) : Bool :=
  if r = .MK_EVENT_EN then (if b = 0 then bitOf ev 0 else if b = 1 then bits ev 1 3 != 0 else bitOf ev 4) else bitOf ev b

/-- After a write that set enable bits of set event bits, the vector and the source are raised once; stream halts have the
vector 0 of their own. -/
def raiseEnabled (s : State) (r : Reg) (i : Nat) (old : Nat) : State :=
  match coreEnable r with
  | none => s
  | some (e, v) =>
    let new := (s.rd r i).toNat
    let ev := (s.rd e i).toNat
    let hit := (List.range 8).filter fun b => bitOf new b && !bitOf old b && enabledBits r ev b
    let halts := r = .NDL_EVENT_EN && hit.any (· < 3)
    let s := if halts then s.raiseCore i 0 else s
    if hit.any (fun b => !(r = .NDL_EVENT_EN && b < 3)) then s.raiseCore i v else s

/-! Legal values and restart-bound fields (R55, R469). -/

/-- A queue's function runs. -/
def queueRuns (s : State) (q : Nat) : Bool := s.qstate q == qsRunning || s.qstate q == qsStopping

/-- A port's function runs. -/
def portRuns (s : State) (p : Nat) : Bool := !(s.lstate p == lsOff || s.lstate p == lsStopped || s.lstate p == lsFailed)

/-- LNK_CONFIG of a port takes w. -/
def portConfigOk (s : State) (p w : Nat) : Bool :=
  let role := bits w 0 2
  let width := bits w 2 4
  let host := role == roleHost
  (width == 8 || width == 4 || width == 2 || (width == 1 && host)) &&
  !(host && (List.range 16).any fun q => q != p && s.fget F.LNK_CONFIG_ROLE q == roleHost &&
      s.fget F.LNK_CONFIG_HCTX q == bits w 6 3)

/-- The log ring with one half of its base replaced lies inside a fixed region. -/
def logBaseOk (s : State) (r : Reg) (w : Nat) : Bool :=
  let t := plainWrite s r 0 (BitVec.ofNat 32 w)
  !s.fbit F.STW_LOG_CTRL_ENABLE 0 && t.inFixed (logBase t) (262144 * 64)

/-- A write of w to a register is out of range. -/
def illegal (s : State) (r : Reg) (i w : Nat) : Bool :=
  match r with
  | .MK_WAIT_TIMEOUT => w != 0 && decide (w < 0x10000)
  | .FELT_FIXED => let n := bits w 0 14
      !(decide (16 ≤ n) && decide (n ≤ 8192)) || s.fbit F.PAT_STATUS_LOADED 0 || s.pages.any fun x => x.felt == i
  | .FELT_SCRUB_CTRL => let n := bits w 0 5; !(decide (1 ≤ n) && decide (n ≤ 24))
  | .FELT_MIG_INTERVAL => decide (w < 0x4000)
  | .PAT_LOAD_LEN => w % 64 != 0 || decide (w < 0x40) || decide (0x10000000 < w)
  | .PAT_DRAIN_TIMEOUT | .CH_TIMEOUT | .LNK_RSP_TIMEOUT | .FLT_CORE_WINDOW | .ATTN_MSG_PERIOD => decide (w < 0x10000)
  | .LNK_GROUP => s.discStarted
  | .LNK_CONFIG => portRuns s i || !portConfigOk s i w
  | .FLT_CTRL => bits w 4 4 == 0
  | .ATTN_MSG_CTRL => decide (bits w 8 24 < 0x200)
  | .CLM_SRC => i == 0 || decide (13 < bits w 4 4)
  | .Q_CONFIG => queueRuns s i || decide (10 < bits w 0 4) || decide (24 < bits w 4 5) || bits w 15 2 == 3
  | .Q_BASE_LO | .Q_BASE_HI => queueRuns s i
  | .STW_WDOG => decide (w < 0x10000) || decide (0x493E00 < w)
  | .STW_LOG_BASE_LO | .STW_LOG_BASE_HI => !logBaseOk s r w
  | .PWR_LIMIT => let n := bits w 0 11; !(decide (800 ≤ n) && decide (n ≤ 1800))
  | .PWR_VCORE => decide (0x1E < bits w 0 6) || decide (0x1E < bits w 8 6)
  | .PWR_THERM => let n := bits w 0 8; !(decide (60 ≤ n) && decide (n ≤ 105))
  | .FELT_RULE_DATA => ruleState s != 2 || (!s.fbit F.FELT_RULE_SEL_PROG 0 && decide (16 ≤ s.fget F.FELT_RULE_SEL_WORD 0))
  | _ => false

/-- The word that a register takes from a written word: bits that ignore writes keep their value. -/
def maskWrite (r : Reg) (w : Word) : Word :=
  match r with
  | .VEC_EN => w &&& 0xFFFF00FF
  | .VEC_PRIO => w &&& 0x77777777
  | .STW_TRACE_EN_LO => w ||| 1
  | .STW_TRACE_EN_HI => w ||| 0x80000000
  | _ => w

/-! Writes with an effect of their own. -/

/-- FELT_RULE_DATA: put the selected word (R316). -/
def ruleWrite (s : State) (w : Word) : State :=
  let ix := s.fget F.FELT_RULE_SEL_INDEX 0
  let k := s.fget F.FELT_RULE_SEL_WORD 0
  let r := s.rules
  let rules : FeltRules :=
    if s.fbit F.FELT_RULE_SEL_PROG 0 then
      let old := ((r.programs.find? (·.1 == ix)).map (·.2)).getD []
      let new := (List.range (max old.length (k + 1))).map fun j => if j = k then w else old.getD j 0
      { r with programs := r.programs.filter (·.1 != ix) ++ [(ix, new)] }
    else
      let old := ((r.slots.find? (·.1 == ix)).map (·.2)).getD []
      let new := sliceB old 0 (4 * k) ++ leBytes 4 w.toNat ++ sliceB old (4 * k + 4) (60 - 4 * k)
      { r with slots := r.slots.filter (·.1 != ix) ++ [(ix, new)] }
  { s with rules := rules }

/-- LNK_GROUP on a master names its own ID; on a member it changes nothing. -/
def groupWrite (s : State) (w : Word) : State :=
  if s.isMaster then (s.fset F.LNK_GROUP_GROUP 0 (bits w.toNat 0 7)).fset F.LNK_FABRIC_DEVICE_ID 0 (bits w.toNat 0 7 * 32) else s

/-- A configuration word of a queue: a change since the stop is kept in mind (R363). -/
def queueConfig (s : State) (r : Reg) (q : Nat) (w : Word) : State :=
  let t := plainWrite s r q w
  if t.rd r q = s.rd r q then t else t.setQueue q { t.queue q with changed := true }

/-- Q_PUSH_SRC_LO of a steward that may push here (R355). -/
def pushSrcLo (s : State) (a : Agent) (q : Nat) (w : Word) (off : Nat) : State :=
  match a with
  | .steward _ =>
    if s.qstate q == qsUnconf || !permits s q .steward then s.outOfRange a off
    else s.setQueue q { s.queue q with srcLo := w &&& ~~~(0x3F : Word) }
  | _ => s.outOfRange a off

/-- A legal write by the field table, with what hardware sets in the same instant and the raises of enables. -/
def tableWrite (s : State) (r : Reg) (i : Nat) (w hw : Word) : State :=
  let old := (s.rd r i).toNat
  raiseEnabled (hwSets (plainWrite s r i (maskWrite r w)) r i hw) r i old

/-- A 32-bit write of an agent to a register. -/
def writeReg (s : State) (a : Agent) (off : Nat) (r : Reg) (i : Nat) (w hw : Word) : State :=
  let check := fun (f : State) => if illegal s r i w.toNat then s.outOfRange a off else f
  match r with
  | .PAT_CTRL => patCtrl s a w
  | .PAT_PANEL_CTRL => panelCtrl s i w
  | .PAT_LOAD_ADDR_LO | .PAT_LOAD_ADDR_HI | .PAT_LOAD_LEN =>
    if s.load.busy then badPatCmd s else check (tableWrite s r i w hw)
  | .HUB_STEP_CTRL => stepCtrl s i w
  | .FELT_RULE_CTRL => ruleCtrl s w
  | .FELT_RULE_DATA => check (ruleWrite s w)
  | .FELT_RATIO_SEL => ratioSel s i w
  | .SEAM_TRK_SEL => trkSel s i w
  | .SEAM_TRK_CTRL => trkCtrl s i w []
  | .VEC_SOFT => softRaise s i w
  | .MK_FORCE_KEY => forceKey s a i w
  | .MK_FORCE => forceWrite s a i w
  | .MK_EP_STATE => epClear s i w hw
  | .LNK_CTRL => portCtrl s a i w
  | .LNK_CONFIG =>
    if carries a i && written .LNK_CONFIG (s.rd .LNK_CONFIG i).toNat w.toNat != (s.rd .LNK_CONFIG i).toNat then badPortCmd s i
    else check (tableWrite s r i w hw)
  | .LNK_GROUP => check (groupWrite s w)
  | .LNK_DISC_CTRL => discCtrl s a w
  | .LNK_ROUTE_DATA => routeData s w
  | .CLM_COMPLETE => completeSrc s i w.toNat
  | .CLM_TARGET_CTRL => clmCtrl s i w
  | .Q_CTRL => queueCtrl s i w
  | .Q_CONFIG | .Q_BASE_LO | .Q_BASE_HI => check (queueConfig s r i w)
  | .Q_CMD => queueCmd s a i w
  | .Q_PUSH_SRC_LO => pushSrcLo s a i w off
  | .Q_PUSH_SRC_HI => stewardPushWrite s a i w
  | .STW_CTRL => stwCtrl s a i w
  | .STW_KICK => s
  | .STW_REC_POP => recPop s i
  | .STW_REC_ACK => recAck s i
  | .STW_LOG_SUBMIT => s.wr .STW_LOG_SUBMIT i w
  | .STW_LOG_SUBMIT_ID => logSubmit s i w
  | .STW_STAGE_LEN => stageWrite s a off w
  | .STW_STAGE_CTRL => verifyWrite s w
  | .STW_SIGNAL => signalWrite s a w
  | .SEC_CTRL => secCtrl s a w
  | .SEC_NONCE => s.wr .SEC_NONCE i w
  | .SEC_PKEY => pkeyWrite s a i w
  | .SEC_REC_KEY => recKey s w
  | .SEC_REC_CTRL => recCtrl s a w
  | _ => check (tableWrite s r i w hw)

/-- Only felt 0 has the registers of the update rules (R316). -/
def absent (r : Reg) (i : Nat) : Bool :=
  i != 0 && (r == .FELT_RULE_CTRL || r == .FELT_RULE_STATUS || r == .FELT_RULE_SEL || r == .FELT_RULE_DATA)

/-- The register that an access at an offset meets. -/
def accessAt (off : Nat) : Option (Reg × Nat) :=
  match regAt off with
  | some (r, i) => if absent r i then none else some (r, i)
  | none => none

/-- A 32-bit aligned write at an offset: a register, the staging window, the read-only report window, or nothing. -/
def writeOff (s : State) (a : Agent) (off : Nat) (w hw : Word) : State :=
  if 0x03800000 ≤ off && off < 0x04000000 then stageWrite s a off w
  else if 0x00800000 ≤ off && off < 0x00880000 then s
  else match accessAt off with
    | some (r, i) => writeReg s a off r i w hw
    | none => s.outOfRange a off

/-- A control-space write of an agent (R10, R37, R38). -/
def State.ctrlStore (s : State) (a : Agent) (off : Nat) (w : Word) (width : Nat) (hw : Word) : State :=
  s.access a off fun s => if width ≠ 32 || off % 4 ≠ 0 then s.outOfRange a off else writeOff s a off w hw

/-! Reads (R9, R11, R13). -/

/-- High word of a 64-bit register. -/
def highOf : Reg → Option Reg
  | .ICNT_LO => some .ICNT_HI
  | .MK_STATE_LO => some .MK_STATE_HI
  | .ATTN_CORE_ROW_LO => some .ATTN_CORE_ROW_HI
  | .STW_TRACE_EN_LO => some .STW_TRACE_EN_HI
  | _ => none

def isHigh (r : Reg) : Bool := r == .ICNT_HI || r == .MK_STATE_HI || r == .ATTN_CORE_ROW_HI || r == .STW_TRACE_EN_HI

/-- The requester as latches tell them apart: a link requester is its SRC_ID and, for host traffic, its HCTX. -/
def requester : Agent → Agent
  | .link _ src true h => .link 0 src true h
  | .link _ src false _ => .link 0 src false 0
  | a => a

def latchOf (s : State) (a : Agent) (r : Reg) (i : Nat) : Option Word :=
  (s.latches.find? fun x => x.1 == requester a && x.2.1 == regKey r i).map (·.2.2)

def setLatch (s : State) (a : Agent) (r : Reg) (i : Nat) (w : Word) : State :=
  let keep := s.latches.filter fun x => !(x.1 == requester a && x.2.1 == regKey r i)
  { s with latches := keep ++ [(requester a, regKey r i, w)] }

/-- A read clears RC fields and leaves what arrives in the same instant. -/
def rcClear (s : State) (r : Reg) (i : Nat) (inc : Word) : State :=
  r.fields.foldl (fun s f => if f.acc = .rc then s.fset f i (bits inc.toNat f.lsb f.width) else s) s

/-- A read of a register: its word, and the state with the side effects of the read. -/
def readReg (s : State) (a : Agent) (r : Reg) (i : Nat) (inc : Word) : State × Word :=
  if r = .CLM_CLAIM then claimRead s i
  else
    let v := if isHigh r then (latchOf s a r i).getD (viewReg s r i) else viewReg s r i
    let s := match highOf r with
      | some h => setLatch s a h i (viewReg s h i)
      | none => s
    let s := rcClear s r i inc
    (if r = .STW_REC_STATUS then { s with recLostMark := false } else s, v)

/-- A read at an offset: what holds no register reads 0. -/
def readOff (s : State) (a : Agent) (off : Nat) (inc : Word) : State × Word :=
  if off % 4 ≠ 0 then (s, 0)
  else if 0x00800000 ≤ off && off < 0x00880000 then (s, reportWord s (off - 0x00800000))
  else match accessAt off with
    | some (r, i) => readReg s a r i inc
    | none => (s, 0)

/-- A control-space read of an agent into the model's read port (log entry 3). -/
def State.ctrlLoad (s : State) (a : Agent) (off : Nat) (inc : Word) : State := s.readInto a off fun s => readOff s a off inc

/-! Commands: accesses of an agent. -/

def execRegisterWrite (a : Agent) (off : BitVec 29) (val : Word) (width : Nat) (hwSet : Word) (s : State) : Out :=
  done (s.ctrlStore a off.toNat val width hwSet)

def execLowWordRead (a : Agent) (off : BitVec 29) (s : State) : Out := done (s.ctrlLoad a off.toNat 0)

def execRcRead (a : Agent) (off : BitVec 29) (inc : Word) (s : State) : Out := done (s.ctrlLoad a off.toNat inc)

/-! Commands: parking, DIE_BEAT and the drift check. -/

/-- A stream that lets its core park (R498). -/
def parkable (s : State) (c : Nat) (st : Strm) : Bool := s.sstate c st != stWalk && ((s.core c).stream st).units.isEmpty

/-- The pushes that a core issued are none. -/
def noCorePush (s : State) (c : Nat) : Bool :=
  let mine := fun (x : PushSrc) => match x with
    | .core id _ => match s.flight id with | some f => f.issued.contains c | none => false
    | .handler d => d == c
    | _ => false
  s.queues.all fun q => noPushes q.2 mine

/-- Every condition of R498 holds. -/
def mayPark (s : State) (c : Nat) : Bool :=
  [Strm.F, .B, .U].all (parkable s c) && !s.fbit F.VEC_STATUS_ACTIVE_VALID c &&
  !s.slices.any (fun x => x.core == c) && !s.stalledSlices.any (fun x => x.core == c) &&
  !s.sideRecs.any (fun x => match s.flight x.flight with | some f => f.issued.contains c | none => false) && noCorePush s c

def execCorePark (c : Fin 1056) (s : State) : Out :=
  done (if mayPark s c then s.fset F.CORE_STATUS_PARKED c 1 else s)

def execDieBeatWindowEnd (d : Fin 2) (beats : BitVec 16) (s : State) : Out :=
  done (s.fset F.DIE_BEAT_BEATS (1 + d) beats.toNat)

/-- One die of the drift check: its ticks in 1 ms of REFCLK against 500,000 (R33). -/
def driftDie (s : State) (d t : Nat) : State :=
  if 475000 ≤ t && t ≤ 525000 then s
  else
    let s := if s.fbit F.ICNT_STATUS_DRIFT d then s else s.errRec ⟨0x0701, d, none, 0, 3, 0, 0, 0⟩
    (s.fset F.ICNT_STATUS_DRIFT d 1).raise (1507 + d)

def execDriftCheck (ticks : List Nat) (s : State) : Out :=
  if s.power.refclkLost then done s
  else done ((List.range 11).foldl (fun s d => driftDie s d (ticks.getD d 500000)) s)

/-! Commands: I3C transactions (R480). -/

/-- A transaction of another length has no effect and counts RANGE. -/
def execI3cWrite (bytes : List Byte) (s : State) : Out :=
  if bytes.length ≠ 8 then done (s.outOfRange .i3c (leAt bytes 0 4 % 2 ^ 29))
  else
    let off := leAt bytes 0 4
    done (if 2 ^ 29 ≤ off then s.outOfRange .i3c (off % 2 ^ 29) else s.ctrlStore .i3c off (BitVec.ofNat 32 (leAt bytes 4 4)) 32 0)

def execI3cRead (bytes : List Byte) (s : State) : Out :=
  if bytes.length ≠ 4 then done (s.outOfRange .i3c (leAt bytes 0 4 % 2 ^ 29))
  else
    let s := s.ctrlLoad .i3c (leAt bytes 0 4) 0
    done (i3cAnswer s (leBytes 4 s.readback.toNat))

/-! Commands: control accesses of the debug register (R482). -/

/-- A core above 1,055 makes the operation fail. -/
def execDebugControlRead (dr : BitVec 128) (s : State) : Out :=
  done (debugOp s fun s =>
    if 1055 < drCore dr then setCapture s 0 true
    else let s := s.ctrlLoad .jtag (drAddr dr) 0; setCapture s (BitVec.ofNat 64 s.readback.toNat) false)

def execDebugControlWrite (dr : BitVec 128) (s : State) : Out :=
  done (debugOp s fun s =>
    if 1055 < drCore dr then setCapture s 0 true
    else setCapture (s.ctrlStore .jtag (drAddr dr) (BitVec.ofNat 32 (drData dr).toNat) 32 0) 0 false)

end Sys2Proof.Machine
end

