-- ==== Sys2Proof/Machine/Faults.lean ====
section
/-! DEFINITION. Handshake timeouts and the fault window of a core (R433, R435, R438). -/
namespace Sys2Proof.Machine
open Sys2Proof

/-- The receiving block abandons the transfer: tile replay on a core, step faults for a felt or a die-level block. While
issue is gated the timeouts of the C-dies are held (R464). -/
def timeoutAt (s : State) : HsTarget → State
  | .core c owner =>
    if s.fbit F.PWR_STATUS_GATED 0 then s
    else s.replayFault 0x0102 1 c owner 0 false fun st _ => match owner with | some o => st == o | none => true
  | .felt n p => (s.feltFlt n 4).feltStepFault 0x0205 n (p.map (·.val)) 0
  | .dieLevel d _ => if s.fbit F.PWR_STATUS_GATED 0 then s else (s.dieFlt d 4).dieStepFault d

def execHandshakeTimeout (x : HsTarget) (s : State) : Out := done (timeoutAt s x)

/-- FLT_CORE_WINDOW ticks have passed since the first fault of the window. -/
def execCoreFaultWindowExpire (c : Fin 1056) (s : State) : Out :=
  if (s.core c).windowOpen then
    done ((s.fset F.CORE_FLT_COUNTS_WINDOW c 0).setCore c { s.core c with windowOpen := false })
  else done s

end Sys2Proof.Machine
end

