-- ==== Sys2Proof/Machine/Packets.lean ====
section
/-! DEFINITION. Control packets (R379, R380) and the receipt of flits: CRC and sequence, acknowledgement, resends and
credits, and the packets that a flit completes (R368, R370, R371, R377). -/
namespace Sys2Proof.Machine
open Sys2Proof

/-! CTRL_WRITE and CTRL_READ. -/

/-- The requester of a control packet. -/
def packetAgent (port : Fin 16) (q : Packet) : Agent := .link port (Fin.ofNat 4096 q.src.toNat) q.host (Fin.ofNat 8 q.hctx.toNat)

/-- The write counts as out of range: the status that its answer carries (R380). -/
def refused (s : State) (a : Agent) (off : Nat) (w : Word) : Bool :=
  ((s.fset F.HUB_INCHK_COUNTS_RANGE 0 0).ctrlStore a off w 32 0).fget F.HUB_INCHK_COUNTS_RANGE 0 != 0

/-- The port of this member that its master's word of R389 puts into FAILED (log entry 162). -/
def dupTold (s : State) (q : Packet) (off : Nat) (w : Word) : Option Nat :=
  if !s.isMaster && !q.host && q.src.toNat == s.masterId && w.toNat == dupWord then
    (List.range 16).find? fun p => off == lnkOff p + 4
  else none

def ctrlWriteHere (port : Fin 16) (s : State) (q : Packet) : State :=
  let a := packetAgent port q
  let off := bits q.w1.toNat 0 29
  let w := BitVec.ofNat 32 (bits q.w1.toNat 29 32)
  match dupTold s q off w with
  | some p => answer (enterFailed s p 4) q rsOk
  | none => answer (s.ctrlStore a off w 32 0) q (if refused s a off w then rsAccess else rsOk)

def ctrlReadHere (port : Fin 16) (s : State) (q : Packet) : State :=
  let s := s.ctrlLoad (packetAgent port q) (bits q.w1.toNat 0 29) 0
  respond s q 0x0A (rsOk + s.readback.toNat * 2 ^ 32) []

def execCtrlWrite (port : Fin 16) (pkt : Packet) (s : State) : Out :=
  done (arrive s port { pkt with typ := 0x08 } (ctrlWriteHere port))

def execCtrlRead (port : Fin 16) (pkt : Packet) (s : State) : Out :=
  done (arrive s port { pkt with typ := 0x09 } (ctrlReadHere port))

/-! Chain packets. -/

/-- CHAIN_ARRIVE of a member: the packet has no place for S, which is therefore free at the root. -/
def chainArriveHere (s : State) (q : Packet) : State :=
  let w := q.w1.toNat
  let x := ChainSrc.member (Fin.ofNat 4096 q.src.toNat) (Fin.ofNat 64 (bits w 13 6))
  chainArrive (s.useFree 1) x (bits w 0 12) (bitOf w 12) (Config.freeNat s.freeNum % 2 ^ 32)

/-- CHAIN_RELEASE: of a barrier, or of the step-vote barrier of a panel, whose FAULT says repeat. -/
def chainReleaseHere (s : State) (q : Packet) : State :=
  let w := q.w1.toNat
  let id := bits w 0 12
  if 4032 ≤ id then { s with voteOut := s.voteOut ++ [(id - 4032, if bitOf w 12 then .repeatStep else .commit)] }
  else chainRelease s id (w / 2 ^ 32) (bitOf w 12)

/-- What this device does with a packet for itself, by type. -/
def packetHere (port : Fin 16) (s : State) (q : Packet) : State :=
  match q.typ.toNat with
  | 0x01 | 0x02 => writeHere port s q
  | 0x03 => readHere s q
  | 0x08 => ctrlWriteHere port s q
  | 0x09 => ctrlReadHere port s q
  | 0x10 => pushHere port s q
  | 0x18 => markerHere port s q
  | 0x19 => chainArriveHere s q
  | 0x1A => chainReleaseHere s q
  | 0x20 => discoverHere port s q
  | 0x21 => discoverRspHere port s q
  | 0x22 => assignHere port s q
  | 0x24 => warmHere port s q
  | _ => answerHere s q

/-! Packets in the packet space. -/

/-- Bytes of a packet by its first word: a READ carries none of the data that its LEN names. -/
def spanOf (b : List Byte) : Nat := 16 + if leAt b 0 1 = 3 then 0 else 64 * bits (leAt b 0 8) 40 7

/-- A packet from its bytes. -/
def packetFrom (b : List Byte) : Packet :=
  let w := leAt b 0 8
  let f := fun (lsb n : Nat) => bits w lsb n
  { typ := BitVec.ofNat 8 (f 0 8), vl := BitVec.ofNat 2 (f 8 2), fenced := bitOf w 10, host := bitOf w 11
    hctx := BitVec.ofNat 3 (f 12 3), rsp := bitOf w 15, dst := BitVec.ofNat 12 (f 16 12), src := BitVec.ofNat 12 (f 28 12)
    len := BitVec.ofNat 7 (f 40 7), rsv47 := bitOf w 47, tag := BitVec.ofNat 12 (f 48 12), hops := BitVec.ofNat 4 (f 60 4)
    w1 := BitVec.ofNat 64 (leAt b 8 8), data := sliceB b 16 (spanOf b - 16) }

/-- Cut complete packets off the front of received packet space: the packets and the rest. -/
def cutPackets : Nat → List Byte → List Packet × List Byte
  | 0, b => ([], b)
  | n + 1, b =>
    if b.length < 16 || b.length < spanOf b then ([], b)
    else
      let r := cutPackets n (b.drop (spanOf b))
      (packetFrom b :: r.1, r.2)

/-- One packet of a flit: filler is dropped. -/
def takePacket (port : Fin 16) (s : State) (q : Packet) : State :=
  if q.typ == 0 then (if packetOk q then s else badPacket s port) else arrive s port q (packetHere port)

/-! Headers. -/

def flitHdr (b : List Byte) (lsb n : Nat) : Nat := bits (leAt b 0 8) lsb n

def flitCrcOk (b : List Byte) : Bool := b.length == 320 && crc64 (b.take 312) == BitVec.ofNat 64 (leAt b 312 8)

/-- ACK: every flit up to that number leaves the retry buffer; a new first flit has no resends. -/
def acknowledge (x : Port) (ack : Nat) : Port :=
  match x.retry.findIdx? fun e => bits e.1 0 12 == ack with
  | some i => { x with retry := x.retry.drop (i + 1), resends := 0 }
  | none => x

/-- CREDITS: flits of a lane that the far end has freed. -/
def takeCredits (x : Port) (vl n : Nat) : Port := { x with credits := assocPut x.credits vl (assocGet x.credits vl - n) }

/-- NAK: resend from the first flit not acknowledged, before what else the port may send; when eight resends of it in a row have failed, the port retrains, or
stops when it was STOPPING (R370, R371, R374). -/
def takeNak (s : State) (p : Nat) : State :=
  let x := s.port p
  if x.retry.isEmpty then s.pump p
  else if 8 ≤ x.resends then linkFault s p
  else
    let s := ((s.finc F.LNK_ERR_COUNTS_RETRIES p 1).setPort p { x with resends := x.resends + 1 }).pump p
    s.setPort p (resend (s.port p))

/-- The header of a good flit. -/
def takeHeader (s : State) (p : Nat) (b : List Byte) : State :=
  let x := takeCredits (acknowledge (s.port p) (flitHdr b 12 12)) (flitHdr b 25 2) (flitHdr b 27 12)
  let s := releaseRoutes (s.setPort p x)
  if flitHdr b 24 1 = 1 then takeNak s p else s.pump p

/-- A flit is discarded with those behind it, and a NAK goes to the sender (R370): one for the gap, as the flits behind the
first are those that it asks for again (log entry 147). -/
def discardFlit (s : State) (p : Nat) : State :=
  let x := s.port p
  if x.nakSent then s else (s.setPort p { x with nakOwed := true, nakSent := true }).pump p

/-- A flit arrives at a port. -/
def flitIn (s : State) (port : Fin 16) (b : List Byte) : State :=
  if !portHears s port then s
  else if !flitCrcOk b then discardFlit (s.finc F.LNK_ERR_COUNTS_CRC_ERR port 1) port
  else if flitHdr b 0 12 ≠ (s.port port).rxSeq then discardFlit s port
  else
    let x := s.port port
    let space := x.partials ++ (b.drop 8).take 304
    let (qs, rest) := cutPackets (space.length / 16) space
    let s := s.setPort port { x with rxSeq := (x.rxSeq + 1) % 4096, partials := rest, nakSent := false }
    resumeAll (takeHeader (qs.foldl (takePacket port) s) port b) port

def execFlitReceive (port : Fin 16) (flit : List Byte) (s : State) : Out := done (flitIn s port flit)

end Sys2Proof.Machine
end

