-- ==== Sys2Proof/Machine/Dispatch.lean ====
section
/-! DEFINITION. What each command does to everything but the queue: one arm per row of the opcode table. -/
namespace Sys2Proof.Machine
open Sys2Proof

def exec (i : Instr) (s : State) : Host.Outcome State Fault Refusal :=
  match i with
  | .registerWrite a off val width hwSet => Sys2Proof.Machine.execRegisterWrite a off val width hwSet s
  | .lowWordRead a off => Sys2Proof.Machine.execLowWordRead a off s
  | .rcRead a off inc => Sys2Proof.Machine.execRcRead a off inc s
  | .corePark c => Sys2Proof.Machine.execCorePark c s
  | .dieBeatWindowEnd d beats => Sys2Proof.Machine.execDieBeatWindowEnd d beats s
  | .driftCheck ticks => Sys2Proof.Machine.execDriftCheck ticks s
  | .load a w => Sys2Proof.Machine.execLoad a w s
  | .loadPartial a w => Sys2Proof.Machine.execLoadPartial a w s
  | .abort a w => Sys2Proof.Machine.execAbort a w s
  | .digestChecked => Sys2Proof.Machine.execDigestChecked s
  | .signatureChecked => Sys2Proof.Machine.execSignatureChecked s
  | .structuralChecksDone img => Sys2Proof.Machine.execStructuralChecksDone img s
  | .loadApplied => Sys2Proof.Machine.execLoadApplied s
  | .panelStop a p w => Sys2Proof.Machine.execPanelStop a p w s
  | .panelStart a p w => Sys2Proof.Machine.execPanelStart a p w s
  | .panelForce a p w => Sys2Proof.Machine.execPanelForce a p w s
  | .panelStarted p => Sys2Proof.Machine.execPanelStarted p s
  | .panelDrained p => Sys2Proof.Machine.execPanelDrained p s
  | .panelDrainTimeout p => Sys2Proof.Machine.execPanelDrainTimeout p s
  | .matmulG c st => Sys2Proof.Machine.execMatmulG c st s
  | .matmulT c st => Sys2Proof.Machine.execMatmulT c st s
  | .matmulTdx c st => Sys2Proof.Machine.execMatmulTdx c st s
  | .matmulTdw c st => Sys2Proof.Machine.execMatmulTdw c st s
  | .skeinFetch c st => Sys2Proof.Machine.execSkeinFetch c st s
  | .unitComplete c st chk => Sys2Proof.Machine.execUnitComplete c st chk s
  | .sliceAccepted c => Sys2Proof.Machine.execSliceAccepted c s
  | .sliceArrive k chk => Sys2Proof.Machine.execSliceArrive k chk s
  | .sideRecordArrive k => Sys2Proof.Machine.execSideRecordArrive k s
  | .macroComplete id => Sys2Proof.Machine.execMacroComplete id s
  | .activationCheckpoint c st => Sys2Proof.Machine.execActivationCheckpoint c st s
  | .fp8Activation c st => Sys2Proof.Machine.execFp8Activation c st s
  | .gradientConversion c st => Sys2Proof.Machine.execGradientConversion c st s
  | .plainConversion c st => Sys2Proof.Machine.execPlainConversion c st s
  | .trackerObservation k ded => Sys2Proof.Machine.execTrackerObservation k ded s
  | .seamTrkSelWrite a c w => Sys2Proof.Machine.execSeamTrkSelWrite a c w s
  | .clearCounts a c w inc => Sys2Proof.Machine.execClearCounts a c w inc s
  | .resnap a c w => Sys2Proof.Machine.execResnap a c w s
  | .add c st => Sys2Proof.Machine.execAdd c st s
  | .sub c st => Sys2Proof.Machine.execSub c st s
  | .mul c st => Sys2Proof.Machine.execMul c st s
  | .max c st => Sys2Proof.Machine.execMax c st s
  | .min c st => Sys2Proof.Machine.execMin c st s
  | .scale c st => Sys2Proof.Machine.execScale c st s
  | .copy c st => Sys2Proof.Machine.execCopy c st s
  | .exp c st => Sys2Proof.Machine.execExp c st s
  | .log c st => Sys2Proof.Machine.execLog c st s
  | .recip c st => Sys2Proof.Machine.execRecip c st s
  | .rsqrt c st => Sys2Proof.Machine.execRsqrt c st s
  | .tanh c st => Sys2Proof.Machine.execTanh c st s
  | .sigmoid c st => Sys2Proof.Machine.execSigmoid c st s
  | .geluT c st => Sys2Proof.Machine.execGeluT c st s
  | .geluE c st => Sys2Proof.Machine.execGeluE c st s
  | .silu c st => Sys2Proof.Machine.execSilu c st s
  | .rowsum c st => Sys2Proof.Machine.execRowsum c st s
  | .rowmax c st => Sys2Proof.Machine.execRowmax c st s
  | .softmax c st => Sys2Proof.Machine.execSoftmax c st s
  | .rmsnorm c st => Sys2Proof.Machine.execRmsnorm c st s
  | .layernorm c st => Sys2Proof.Machine.execLayernorm c st s
  | .gather c st => Sys2Proof.Machine.execGather c st s
  | .scatter c st => Sys2Proof.Machine.execScatter c st s
  | .attend c st => Sys2Proof.Machine.execAttend c st s
  | .attendBwdDot c st => Sys2Proof.Machine.execAttendBwdDot c st s
  | .attendBwdKv c st => Sys2Proof.Machine.execAttendBwdKv c st s
  | .attendBwdQ c st => Sys2Proof.Machine.execAttendBwdQ c st s
  | .kvAppend c st => Sys2Proof.Machine.execKvAppend c st s
  | .attach c st => Sys2Proof.Machine.execAttach c st s
  | .releaseChannel c st => Sys2Proof.Machine.execReleaseChannel c st s
  | .kvFork c st => Sys2Proof.Machine.execKvFork c st s
  | .sliceSend c st => Sys2Proof.Machine.execSliceSend c st s
  | .reduce c st => Sys2Proof.Machine.execReduce c st s
  | .replicaContribution x chk => Sys2Proof.Machine.execReplicaContribution x chk s
  | .stragglerExpire handle tile => Sys2Proof.Machine.execStragglerExpire handle tile s
  | .reducedTileArrive x => Sys2Proof.Machine.execReducedTileArrive x s
  | .update c st => Sys2Proof.Machine.execUpdate c st s
  | .materialise c st => Sys2Proof.Machine.execMaterialise c st s
  | .updateBand id band chk => Sys2Proof.Machine.execUpdateBand id band chk s
  | .updateWriteRelease id => Sys2Proof.Machine.execUpdateWriteRelease id s
  | .settling p => Sys2Proof.Machine.execSettling p s
  | .voteArrival p => Sys2Proof.Machine.execVoteArrival p s
  | .voteTimeout p => Sys2Proof.Machine.execVoteTimeout p s
  | .voteRelease p remote => Sys2Proof.Machine.execVoteRelease p remote s
  | .resume a p w => Sys2Proof.Machine.execResume a p w s
  | .abortDrained p => Sys2Proof.Machine.execAbortDrained p s
  | .feltRead who at_ ecc => Sys2Proof.Machine.execFeltRead who at_ ecc s
  | .feltWrite who at_ data => Sys2Proof.Machine.execFeltWrite who at_ data s
  | .scrubStep n ecc => Sys2Proof.Machine.execScrubStep n ecc s
  | .migrationInterval n => Sys2Proof.Machine.execMigrationInterval n s
  | .pageMoveDone n handle page => Sys2Proof.Machine.execPageMoveDone n handle page s
  | .ruleStop a w => Sys2Proof.Machine.execRuleStop a w s
  | .ruleStart a w => Sys2Proof.Machine.execRuleStart a w s
  | .rulesStopped => Sys2Proof.Machine.execRulesStopped s
  | .feltRatioSelWrite a n w => Sys2Proof.Machine.execFeltRatioSelWrite a n w s
  | .marker c st => Sys2Proof.Machine.execMarker c st s
  | .waitTimeout c st => Sys2Proof.Machine.execWaitTimeout c st s
  | .barrier c st => Sys2Proof.Machine.execBarrier c st s
  | .chainArrive x id fault step => Sys2Proof.Machine.execChainArrive x id fault step s
  | .chainRelease id epoch fault => Sys2Proof.Machine.execChainRelease id epoch fault s
  | .barrierTimeout id => Sys2Proof.Machine.execBarrierTimeout id s
  | .markerSetPacket port pkt => Sys2Proof.Machine.execMarkerSetPacket port pkt s
  | .fenceSetApply port => Sys2Proof.Machine.execFenceSetApply port s
  | .mkForceKey a d w => Sys2Proof.Machine.execMkForceKey a d w s
  | .forcedSet a d w => Sys2Proof.Machine.execForcedSet a d w s
  | .forcedClear a d w => Sys2Proof.Machine.execForcedClear a d w s
  | .forceArmExpire d => Sys2Proof.Machine.execForceArmExpire d s
  | .mkEpStateClear a ix w hwSet => Sys2Proof.Machine.execMkEpStateClear a ix w hwSet s
  | .queueRead c st => Sys2Proof.Machine.execQueueRead c st s
  | .queueReadSatisfied c st => Sys2Proof.Machine.execQueueReadSatisfied c st s
  | .corePush c st => Sys2Proof.Machine.execCorePush c st s
  | .queueMark c st => Sys2Proof.Machine.execQueueMark c st s
  | .queueRewind c st => Sys2Proof.Machine.execQueueRewind c st s
  | .queueRelease c st => Sys2Proof.Machine.execQueueRelease c st s
  | .land q => Sys2Proof.Machine.execLand q s
  | .stalledPushAccept q => Sys2Proof.Machine.execStalledPushAccept q s
  | .stewardPush n q w => Sys2Proof.Machine.execStewardPush n q w s
  | .pushTimeout q => Sys2Proof.Machine.execPushTimeout q s
  | .advance a q w => Sys2Proof.Machine.execAdvance a q w s
  | .mark a q w => Sys2Proof.Machine.execMark a q w s
  | .rewind a q w => Sys2Proof.Machine.execRewind a q w s
  | .release a q w => Sys2Proof.Machine.execRelease a q w s
  | .queueStop a q w => Sys2Proof.Machine.execQueueStop a q w s
  | .queueStart a q w => Sys2Proof.Machine.execQueueStart a q w s
  | .queueClear a q w => Sys2Proof.Machine.execQueueClear a q w s
  | .queueStopped q => Sys2Proof.Machine.execQueueStopped q s
  | .flitReceive port flit => Sys2Proof.Machine.execFlitReceive port flit s
  | .linkSilenceTimeout port => Sys2Proof.Machine.execLinkSilenceTimeout port s
  | .retrainDone port => Sys2Proof.Machine.execRetrainDone port s
  | .retrainTimeout port => Sys2Proof.Machine.execRetrainTimeout port s
  | .laneLoss port lane => Sys2Proof.Machine.execLaneLoss port lane s
  | .degradeWindowEnd port counts => Sys2Proof.Machine.execDegradeWindowEnd port counts s
  | .trainingDone port far farWidth good => Sys2Proof.Machine.execTrainingDone port far farWidth good s
  | .trainingTimeout port => Sys2Proof.Machine.execTrainingTimeout port s
  | .portStop a port w => Sys2Proof.Machine.execPortStop a port w s
  | .portStart a port w => Sys2Proof.Machine.execPortStart a port w s
  | .portDrained port => Sys2Proof.Machine.execPortDrained port s
  | .portDrainTimeout port => Sys2Proof.Machine.execPortDrainTimeout port s
  | .write port pkt => Sys2Proof.Machine.execWrite port pkt s
  | .writeBulk port pkt => Sys2Proof.Machine.execWriteBulk port pkt s
  | .read port pkt => Sys2Proof.Machine.execRead port pkt s
  | .readData port pkt => Sys2Proof.Machine.execReadData port pkt s
  | .completion port pkt => Sys2Proof.Machine.execCompletion port pkt s
  | .ctrlWrite port pkt => Sys2Proof.Machine.execCtrlWrite port pkt s
  | .ctrlRead port pkt => Sys2Proof.Machine.execCtrlRead port pkt s
  | .ctrlData port pkt => Sys2Proof.Machine.execCtrlData port pkt s
  | .queuePush port pkt => Sys2Proof.Machine.execQueuePush port pkt s
  | .packetForward port pkt => Sys2Proof.Machine.execPacketForward port pkt s
  | .responseTimeout tag => Sys2Proof.Machine.execResponseTimeout tag s
  | .routeWrite a w => Sys2Proof.Machine.execRouteWrite a w s
  | .discoveryStart a w => Sys2Proof.Machine.execDiscoveryStart a w s
  | .discover port pkt => Sys2Proof.Machine.execDiscover port pkt s
  | .discoverRsp port pkt => Sys2Proof.Machine.execDiscoverRsp port pkt s
  | .assignId port pkt => Sys2Proof.Machine.execAssignId port pkt s
  | .attn port pkt => Sys2Proof.Machine.execAttn port pkt s
  | .warmReset port pkt => Sys2Proof.Machine.execWarmReset port pkt s
  | .refclkLoss => Sys2Proof.Machine.execRefclkLoss s
  | .refclkReturn => Sys2Proof.Machine.execRefclkReturn s
  | .attnRelease => Sys2Proof.Machine.execAttnRelease s
  | .attnMessage => Sys2Proof.Machine.execAttnMessage s
  | .attnMessageRepeat => Sys2Proof.Machine.execAttnMessageRepeat s
  | .clmClaim a t => Sys2Proof.Machine.execClmClaim a t s
  | .clmComplete a t w => Sys2Proof.Machine.execClmComplete a t w s
  | .releaseAll a t w => Sys2Proof.Machine.execReleaseAll a t w s
  | .vecSoft a c w => Sys2Proof.Machine.execVecSoft a c w s
  | .handlerDispatch c => Sys2Proof.Machine.execHandlerDispatch c s
  | .stwSignal a w => Sys2Proof.Machine.execStwSignal a w s
  | .stageWrite a off w => Sys2Proof.Machine.execStageWrite a off w s
  | .verify a w => Sys2Proof.Machine.execVerify a w s
  | .verifyDone => Sys2Proof.Machine.execVerifyDone s
  | .stewardStop a n w => Sys2Proof.Machine.execStewardStop a n w s
  | .stewardStart a n w => Sys2Proof.Machine.execStewardStart a n w s
  | .stewardRestart a n w => Sys2Proof.Machine.execStewardRestart a n w s
  | .activate a n w => Sys2Proof.Machine.execActivate a n w s
  | .cancel a n w => Sys2Proof.Machine.execCancel a n w s
  | .take a w => Sys2Proof.Machine.execTake a w s
  | .giveBack a w => Sys2Proof.Machine.execGiveBack a w s
  | .activationDone => Sys2Proof.Machine.execActivationDone s
  | .emergencyTimeout => Sys2Proof.Machine.execEmergencyTimeout s
  | .stwKick a n w => Sys2Proof.Machine.execStwKick a n w s
  | .wdog n => Sys2Proof.Machine.execWdog n s
  | .fatalTrap n => Sys2Proof.Machine.execFatalTrap n s
  | .stewardEcc n => Sys2Proof.Machine.execStewardEcc n s
  | .autoRestart n => Sys2Proof.Machine.execAutoRestart n s
  | .stwRecPop a n w => Sys2Proof.Machine.execStwRecPop a n w s
  | .stwRecAck a n w => Sys2Proof.Machine.execStwRecAck a n w s
  | .stwLogSubmitId a n w => Sys2Proof.Machine.execStwLogSubmitId a n w s
  | .handshakeTimeout x => Sys2Proof.Machine.execHandshakeTimeout x s
  | .autoRemapStart p => Sys2Proof.Machine.execAutoRemapStart p s
  | .powerInterval watts => Sys2Proof.Machine.execPowerInterval watts s
  | .vcoreRampStep d => Sys2Proof.Machine.execVcoreRampStep d s
  | .vrStatusPoll bad0 bad1 => Sys2Proof.Machine.execVrStatusPoll bad0 bad1 s
  | .pmbusTransaction reg cmd fails => Sys2Proof.Machine.execPmbusTransaction reg cmd fails s
  | .thermalReport die celsius => Sys2Proof.Machine.execThermalReport die celsius s
  | .pwrAlertAssert => Sys2Proof.Machine.execPwrAlertAssert s
  | .pwrAlertDeassert => Sys2Proof.Machine.execPwrAlertDeassert s
  | .gateLift => Sys2Proof.Machine.execGateLift s
  | .emergencyEnd => Sys2Proof.Machine.execEmergencyEnd s
  | .coldReset => Sys2Proof.Machine.execColdReset s
  | .pinGlitch pin => Sys2Proof.Machine.execPinGlitch pin s
  | .strapChange master slot => Sys2Proof.Machine.execStrapChange master slot s
  | .vauxLoss => Sys2Proof.Machine.execVauxLoss s
  | .romDone => Sys2Proof.Machine.execRomDone s
  | .recordDone voutModeOk => Sys2Proof.Machine.execRecordDone voutModeOk s
  | .dramTrainingDone ok => Sys2Proof.Machine.execDramTrainingDone ok s
  | .linksDone => Sys2Proof.Machine.execLinksDone s
  | .ready => Sys2Proof.Machine.execReady s
  | .attest a w => Sys2Proof.Machine.execAttest a w s
  | .attestDone => Sys2Proof.Machine.execAttestDone s
  | .registerKey a w => Sys2Proof.Machine.execRegisterKey a w s
  | .debugEn a w => Sys2Proof.Machine.execDebugEn a w s
  | .secRecKey a w => Sys2Proof.Machine.execSecRecKey a w s
  | .recWrite a w => Sys2Proof.Machine.execRecWrite a w s
  | .recUnlockExpire => Sys2Proof.Machine.execRecUnlockExpire s
  | .recWriteDone => Sys2Proof.Machine.execRecWriteDone s
  | .i3cWrite bytes => Sys2Proof.Machine.execI3cWrite bytes s
  | .i3cRead bytes => Sys2Proof.Machine.execI3cRead bytes s
  | .entdaa addr => Sys2Proof.Machine.execEntdaa addr s
  | .setdasa static addr => Sys2Proof.Machine.execSetdasa static addr s
  | .rstdaa => Sys2Proof.Machine.execRstdaa s
  | .enec => Sys2Proof.Machine.execEnec s
  | .disec => Sys2Proof.Machine.execDisec s
  | .getpid => Sys2Proof.Machine.execGetpid s
  | .getbcr => Sys2Proof.Machine.execGetbcr s
  | .getdcr => Sys2Proof.Machine.execGetdcr s
  | .getstatus => Sys2Proof.Machine.execGetstatus s
  | .getmwl => Sys2Proof.Machine.execGetmwl s
  | .getmrl => Sys2Proof.Machine.execGetmrl s
  | .bypass => Sys2Proof.Machine.execBypass s
  | .idcode => Sys2Proof.Machine.execIdcode s
  | .samplePreload => Sys2Proof.Machine.execSamplePreload s
  | .extest => Sys2Proof.Machine.execExtest s
  | .highz => Sys2Proof.Machine.execHighz s
  | .debugControlRead dr => Sys2Proof.Machine.execDebugControlRead dr s
  | .debugControlWrite dr => Sys2Proof.Machine.execDebugControlWrite dr s
  | .debugLsRead dr => Sys2Proof.Machine.execDebugLsRead dr s
  | .debugLsWrite dr => Sys2Proof.Machine.execDebugLsWrite dr s
  | .tapReset => Sys2Proof.Machine.execTapReset s
  | .resetNRelease master slot => Sys2Proof.Machine.execResetNRelease master slot s
  | .coreFaultWindowExpire c => Sys2Proof.Machine.execCoreFaultWindowExpire c s

end Sys2Proof.Machine
end

