-- ==== Sys2Proof/Safety.lean ====
section
/-! DEFINITION. What counts as a sound state and a safe run, and which registers and parts of State each command may
change: the terms the statements use. A block has no fault: every step must answer a next state whose register file and
memories stay canonical, with ATTN_N asserted while its condition holds (R392). -/
namespace Sys2Proof
open Machine

/-- The register file and both memories list their entries in the one canonical form. -/
def canonical (s : State) : Prop :=
  spWf regDefault s.regs = true ∧ Memory.wf s.dram = true ∧ Memory.wf s.tens = true

/-- ATTN_N is asserted while a group of the attention tree is active and unmasked (R392). -/
def attnDriven (s : State) : Prop := attnActive s ≠ 0 → s.pins.attnLow = true

/-- An agent's write reaches an offset now: the device has not halted in start-up, the JTAG port has debug, and the
offset is within the agent's reach (R38, R468, R480, R482). -/
def Allowed (a : Agent) (off : Nat) (s : State) : Prop :=
  s.bootHalted = false ∧ (a = .jtag → s.fbit F.SEC_STATUS_DEBUG 0 = true) ∧ reaches a off = true

/-- An agent's read reaches an offset now (R38, R468, R480, R482). -/
def ReadAllowed (a : Agent) (off : Nat) (s : State) : Prop :=
  (s.bootHalted = false ∨ a = .i3c ∨ off < 0x01000000) ∧ (a = .jtag → s.fbit F.SEC_STATUS_DEBUG 0 = true) ∧
  (∀ c, a = .core c → coreOff c ≤ off ∧ off < coreOff c + 0x10000) ∧ (a = .i3c → i3cReads off = true)

/-- The state in which a write at an offset acts: an access to a core's window wakes the core first (R27). -/
def woken (s : State) (off : Nat) : State := match coreAt off with | some c => s.wake c | none => s

/-- A register whose write has no effect of its own: its fields take the written word by their access codes (R11). -/
def ordinary (r : Reg) : Bool :=
  !List.contains [.PAT_CTRL, .PAT_PANEL_CTRL, .PAT_LOAD_ADDR_LO, .PAT_LOAD_ADDR_HI, .PAT_LOAD_LEN, .HUB_STEP_CTRL,
    .FELT_RULE_CTRL, .FELT_RULE_DATA, .FELT_RATIO_SEL, .SEAM_TRK_SEL, .SEAM_TRK_CTRL, .VEC_SOFT, .MK_FORCE_KEY, .MK_FORCE,
    .MK_EP_STATE, .LNK_CTRL, .LNK_CONFIG, .LNK_GROUP, .LNK_DISC_CTRL, .LNK_ROUTE_DATA, .CLM_COMPLETE, .CLM_TARGET_CTRL,
    .Q_CTRL, .Q_CONFIG, .Q_BASE_LO, .Q_BASE_HI, .Q_CMD, .Q_PUSH_SRC_LO, .Q_PUSH_SRC_HI, .STW_CTRL, .STW_KICK, .STW_REC_POP,
    .STW_REC_ACK, .STW_LOG_SUBMIT, .STW_LOG_SUBMIT_ID, .STW_STAGE_LEN, .STW_STAGE_CTRL, .STW_SIGNAL, .SEC_CTRL, .SEC_NONCE,
    .SEC_PKEY, .SEC_REC_KEY, .SEC_REC_CTRL] r

/-- What a field that holds y holds after a write of the word w (R11, R14). -/
def fieldAfter (f : Fld) (w y : Nat) : Nat :=
  let x := bits w f.lsb f.width
  match f.acc with
  | .rw => x
  | .w1c => y - (y &&& x)
  | .w1s => y ||| x
  | _ => y

/-- Every register but those listed, in every copy, is as before. -/
def Frame (rs : List Reg) (s t : State) : Prop := ∀ r, r ∉ rs → ∀ i, t.rd r i = s.rd r i

/-- The parts of State beside the queue of commands and the register file. -/
inductive Part where
  | free | readback | status | latches | dram | tens | badPhys | badTens | pages | keptDescs | scrubBlock | load
  | secs | coreMap | links | devQueues | rules | rulesOn | rules0 | live | repair | modrec | panels | cores
  | flights | nextFlight | trackers | trkSaved | obs | windows | micros | sliceSums | slices | stalledSlices
  | sideRecs | sideSums | masks | helds | sentTiles | updates | updDone | ratios | ratioSnap | epochs | openEpochs
  | arrivals | releases | votes | voteOut | forceArmed | fenceUsed | openTags | heldSets | queues | ports
  | requests | reqWait | routes | uplink | routeChange | routeHold | discTodo | discAsked | discLinks | discStarted
  | coldPorts | chans | groups | tree | attnSent | stewards | staging | recFifo | recLostMark | power | sec | i3c
  | jtag | pins
  deriving DecidableEq, Repr

/-- The part is as before; of the pins all but ATTN_N and the interrupt inputs of stewards, of the I3C port all but the
interrupt in band, which follow the attention tree and the claim targets after every command (R392, R402, R479). -/
def Part.same (s t : State) : Part → Prop
  | .free => t.free = s.free
  | .readback => t.readback = s.readback
  | .status => t.status = s.status
  | .latches => t.latches = s.latches
  | .dram => t.dram = s.dram
  | .tens => t.tens = s.tens
  | .badPhys => t.badPhys = s.badPhys
  | .badTens => t.badTens = s.badTens
  | .pages => t.pages = s.pages
  | .keptDescs => t.keptDescs = s.keptDescs
  | .scrubBlock => t.scrubBlock = s.scrubBlock
  | .load => t.load = s.load
  | .secs => t.secs = s.secs
  | .coreMap => t.coreMap = s.coreMap
  | .links => t.links = s.links
  | .devQueues => t.devQueues = s.devQueues
  | .rules => t.rules = s.rules
  | .rulesOn => t.rulesOn = s.rulesOn
  | .rules0 => t.rules0 = s.rules0
  | .live => t.live = s.live
  | .repair => t.repair = s.repair
  | .modrec => t.modrec = s.modrec
  | .panels => t.panels = s.panels
  | .cores => t.cores = s.cores
  | .flights => t.flights = s.flights
  | .nextFlight => t.nextFlight = s.nextFlight
  | .trackers => t.trackers = s.trackers
  | .trkSaved => t.trkSaved = s.trkSaved
  | .obs => t.obs = s.obs
  | .windows => t.windows = s.windows
  | .micros => t.micros = s.micros
  | .sliceSums => t.sliceSums = s.sliceSums
  | .slices => t.slices = s.slices
  | .stalledSlices => t.stalledSlices = s.stalledSlices
  | .sideRecs => t.sideRecs = s.sideRecs
  | .sideSums => t.sideSums = s.sideSums
  | .masks => t.masks = s.masks
  | .helds => t.helds = s.helds
  | .sentTiles => t.sentTiles = s.sentTiles
  | .updates => t.updates = s.updates
  | .updDone => t.updDone = s.updDone
  | .ratios => t.ratios = s.ratios
  | .ratioSnap => t.ratioSnap = s.ratioSnap
  | .epochs => t.epochs = s.epochs
  | .openEpochs => t.openEpochs = s.openEpochs
  | .arrivals => t.arrivals = s.arrivals
  | .releases => t.releases = s.releases
  | .votes => t.votes = s.votes
  | .voteOut => t.voteOut = s.voteOut
  | .forceArmed => t.forceArmed = s.forceArmed
  | .fenceUsed => t.fenceUsed = s.fenceUsed
  | .openTags => t.openTags = s.openTags
  | .heldSets => t.heldSets = s.heldSets
  | .queues => t.queues = s.queues
  | .ports => t.ports = s.ports
  | .requests => t.requests = s.requests
  | .reqWait => t.reqWait = s.reqWait
  | .routes => t.routes = s.routes
  | .uplink => t.uplink = s.uplink
  | .routeChange => t.routeChange = s.routeChange
  | .routeHold => t.routeHold = s.routeHold
  | .discTodo => t.discTodo = s.discTodo
  | .discAsked => t.discAsked = s.discAsked
  | .discLinks => t.discLinks = s.discLinks
  | .discStarted => t.discStarted = s.discStarted
  | .coldPorts => t.coldPorts = s.coldPorts
  | .chans => t.chans = s.chans
  | .groups => t.groups = s.groups
  | .tree => t.tree = s.tree
  | .attnSent => t.attnSent = s.attnSent
  | .stewards => t.stewards = s.stewards
  | .staging => t.staging = s.staging
  | .recFifo => t.recFifo = s.recFifo
  | .recLostMark => t.recLostMark = s.recLostMark
  | .power => t.power = s.power
  | .sec => t.sec = s.sec
  | .i3c => t.i3c = { s.i3c with ibi := t.i3c.ibi }
  | .jtag => t.jtag = s.jtag
  | .pins => t.pins = { s.pins with attnLow := t.pins.attnLow, stwIrq := t.pins.stwIrq }

/-- Every part but those listed is as before. -/
def FrameParts (ps : List Part) (s t : State) : Prop := ∀ x, x ∉ ps → x.same s t

/-! Which registers and parts each command may change. -/

/-- An access to control space by an agent that may be refused, and the wake of the core whose window it names (R27, R38). -/
def accessRegs : List Reg :=
  [.CORE_STATUS, .VEC_PEND, .VEC_COUNTS, .VEC_LATCH, .SEC_COUNTS, .HUB_INCHK_EVENT, .HUB_INCHK_COUNTS,
   .HUB_INCHK_LAST, .CLM_MERGED, .CLM_SRC]
/-- Raising a vector of a core and a claim source (R399, R404, R408). -/
def vectorRegs : List Reg :=
  [.CORE_STATUS, .VEC_PEND, .VEC_COUNTS, .VEC_LATCH, .CLM_MERGED, .CLM_SRC]
/-- Raising a claim source (R399). -/
def claimRegs : List Reg :=
  [.CLM_MERGED, .CLM_SRC]
/-- An error record and a log record (R423, R426). -/
def recordRegs : List Reg :=
  [.FLT_LAST, .STW_LOG_WR, .STW_LOG_DROPPED, .STW_REC_STATUS]
/-- Markers of a core and of the endpoint (R322, R323). -/
def markRegs : List Reg :=
  [.MK_STATE_LO, .MK_STATE_HI, .MK_STATUS, .MK_DOUBLE_SET, .MK_EP_DOUBLE_SET, .MK_EP_STATE]
/-- Where a stream stands (R213). -/
def streamRegs : List Reg :=
  [.NDL_STREAM_STATUS, .NDL_STREAM_PC]
/-- Issue of a macro-instruction (R180, R196). -/
def issueRegs : List Reg :=
  [.NDL_STREAM_STATUS, .NDL_STREAM_PC, .NDL_STREAM_SEQ, .NDL_EVENT]
/-- An uncorrectable block found (R294). -/
def uncorrRegs : List Reg :=
  [.FELT_MEM_COUNTS, .FELT_ECC_ADDR_LO, .FELT_ECC_ADDR_HI, .FELT_MEM_EVENT]
/-- The registers of a queue that runs (R347, R350, R363). -/
def queueRegs : List Reg :=
  [.Q_CONS, .Q_COUNTS, .Q_CREDITS, .Q_MARK, .Q_PROD, .Q_REL, .Q_STATUS]
/-- Counts of a conversion (R166). -/
def seamRegs : List Reg :=
  [.SEAM_EVENT, .SEAM_UNT_BLOCK, .SEAM_UNT_ELEM]
/-- Counts of a Gauze array. -/
def gauzeRegs : List Reg :=
  [.GZ_ALIGN_LOSS, .GZ_EVENT, .GZ_MISC_COUNTS, .GZ_SAT, .GZ_SCALE_OVF, .GZ_SCALE_UNF, .GZ_TILE_COUNTS]
/-- Counts of a Tweed array. -/
def tweedRegs : List Reg :=
  [.TW_ALIGN_LOSS, .TW_EVENT, .TW_MISC_COUNTS, .TW_SAT]
/-- A packet received (R383). -/
def packetRegs : List Reg :=
  [.CLM_MERGED, .CLM_SRC, .LNK_EVENT, .LNK_PKT_COUNTS]

/-- What a panel has in flight, which a fault of the step drops (log entry 17). -/
def workParts : List Part :=
  [.panels, .cores, .flights, .obs, .slices, .stalledSlices, .sideRecs, .updates, .arrivals, .fenceUsed, .queues,
   .chans]
/-- Gradient windows and their sums. -/
def trainParts : List Part :=
  [.windows, .micros, .sideSums, .helds, .sentTiles, .updDone, .ratios]
/-- Error records, and the ring of log records in device DRAM. -/
def recordParts : List Part :=
  [.dram, .recFifo, .recLostMark]
/-- Contents and pages of tensors. -/
def tensorParts : List Part :=
  [.tens, .badTens, .pages]
/-- Packets sent. -/
def sendParts : List Part :=
  [.ports, .routeHold]
/-- A packet received. -/
def packetParts : List Part :=
  [.ports, .routeHold, .requests, .reqWait]
/-- Ordered packets (R332). -/
def orderParts : List Part :=
  [.openTags, .heldSets]

/-- Commands that carry a read or write of any register, or reset the device. -/
def anyRegister : Instr → Bool
  | .registerWrite .. | .lowWordRead .. | .rcRead .. | .flitReceive .. | .ctrlWrite .. | .ctrlRead .. | .warmReset ..
    | .coldReset | .vauxLoss | .i3cWrite .. | .i3cRead .. | .debugControlRead .. | .debugControlWrite .. => true
  | _ => false

/-- The registers a command may write, beside those of anyRegister. -/
def mayWrite : Instr → List Reg
  | .registerWrite .. | .lowWordRead .. | .rcRead .. | .sideRecordArrive .. | .reducedTileArrive .. |
    .migrationInterval .. | .forceArmExpire .. | .flitReceive .. | .ctrlWrite .. | .ctrlRead .. | .warmReset .. |
    .refclkLoss | .refclkReturn | .attnRelease | .coldReset | .vauxLoss | .recUnlockExpire | .i3cWrite .. | .i3cRead
    .. | .entdaa .. | .setdasa .. | .rstdaa | .enec | .disec | .getpid | .getbcr | .getdcr | .getstatus | .getmwl |
    .getmrl | .bypass | .idcode | .samplePreload | .extest | .highz | .debugControlRead .. | .debugControlWrite .. |
    .tapReset => []
  | .corePark .. => [.CORE_STATUS]
  | .dieBeatWindowEnd .. => [.DIE_BEAT]
  | .driftCheck .. => .flatten [recordRegs, claimRegs, [.ICNT_STATUS, .PAT_COUNTS]]
  | .load .. | .loadPartial .. | .abort .. =>
      .flatten [accessRegs, [.PAT_STATUS, .PAT_COUNTS, .PAT_PANEL_STATUS, .SEC_EVENT]]
  | .digestChecked =>
      .flatten [recordRegs, uncorrRegs, claimRegs, [.PAT_STATUS, .PAT_COUNTS, .PAT_PANEL_STATUS, .SEC_EVENT]]
  | .signatureChecked | .structuralChecksDone .. =>
      .flatten [claimRegs, [.PAT_STATUS, .PAT_PANEL_STATUS, .SEC_EVENT]]
  | .loadApplied =>
      .flatten [queueRegs, vectorRegs, markRegs, recordRegs, streamRegs, [.CORE_ID, .VEC_STATUS, .FELT_PLC_COUNTS,
       .FELT_RULE_STATUS, .PAT_STATUS, .PAT_DIGEST, .PAT_ID, .PAT_GENERATION, .PAT_COUNTS, .PAT_PANEL_STATUS,
       .HUB_STEP_NUM, .HUB_STEP_COMMITTED, .HUB_STEP_STATUS, .MK_REMOTE_COUNTS, .FLT_COUNTS, .SEC_STATUS, .SEC_EVENT,
       .SEC_LOG_COUNT, .SEC_MEAS, .Q_CONFIG, .Q_BASE_LO, .Q_BASE_HI, .LNK_STATUS, .LNK_CONFIG, .LNK_PKT_COUNTS]]
  | .panelStop .. | .panelStart .. | .panelForce .. =>
      .flatten [accessRegs, recordRegs, streamRegs, [.CORE_ID, .CORE_FLT, .CORE_FLT_COUNTS, .SEAM_STATUS,
       .MK_STATE_LO, .MK_STATE_HI, .MK_CHAIN, .VEC_BASE, .VEC_STATUS, .NDL_STREAM_SEQ, .VEC_PRIO, .FELT_RES_STATUS,
       .PAT_COUNTS, .PAT_PANEL_CTRL, .PAT_PANEL_STATUS, .HUB_STEP_NUM, .HUB_STEP_STATUS, .LNK_PKT_COUNTS]]
  | .panelStarted .. =>
      .flatten [streamRegs, [.CORE_STATUS, .VEC_PEND, .VEC_COUNTS, .VEC_LATCH, .FELT_PLC_COUNTS, .PAT_PANEL_STATUS,
       .HUB_STEP_STATUS, .FLT_COUNTS]]
  | .panelDrained .. =>
      .flatten [vectorRegs, recordRegs, [.MK_CHAIN, .PAT_COUNTS, .PAT_PANEL_STATUS, .HUB_STEP_STATUS,
       .LNK_PKT_COUNTS]]
  | .panelDrainTimeout .. =>
      .flatten [vectorRegs, recordRegs, [.MK_CHAIN, .VEC_STATUS, .NDL_STREAM_STATUS, .PAT_COUNTS, .PAT_PANEL_STATUS,
       .HUB_STEP_STATUS, .LNK_PKT_COUNTS]]
  | .matmulG .. | .matmulT .. | .matmulTdx .. | .matmulTdw .. =>
      .flatten [vectorRegs, markRegs, issueRegs, [.GZ_EVENT, .GZ_MISC_COUNTS, .MK_REMOTE_COUNTS, .LNK_PKT_COUNTS]]
  | .skeinFetch .. =>
      .flatten [vectorRegs, recordRegs, uncorrRegs, seamRegs, streamRegs, [.CORE_FLT, .GZ_EVENT, .GZ_PICOT_OVF,
       .GZ_SAT, .GZ_TILE_COUNTS, .FELT_PLC_COUNTS, .PAT_COUNTS, .FLT_COUNTS]]
  | .unitComplete .. =>
      .flatten [gauzeRegs, vectorRegs, recordRegs, uncorrRegs, tweedRegs, seamRegs, streamRegs, [.LS_ECC, .CORE_FLT,
       .CORE_FLT_COUNTS, .NDL_EVENT, .NDL_DUP, .NDL_UNITS, .TW_SLICES, .ATT_EVENT, .ATT_ROWS, .VEC_GS_COUNTS,
       .MK_STATE_LO, .MK_STATE_HI, .MK_STATUS, .MK_DOUBLE_SET, .MK_CHAIN, .VEC_STATUS, .FELT_PLC_COUNTS,
       .ATT_FELT_EVENT, .FELT_WIN_COUNTS, .PAT_COUNTS, .PAT_EXCLUDED_DIE0, .PAT_EXCLUDED_DIE1, .PAT_PANEL_STATUS,
       .HUB_STEP_STATUS, .FLT_COUNTS, .FLT_EXCLUSIONS, .LNK_PKT_COUNTS]]
  | .sliceAccepted .. => [.TW_SLICES]
  | .sliceArrive .. =>
      .flatten [vectorRegs, recordRegs, streamRegs, [.NDL_EVENT, .NDL_DUP, .FELT_MEM_EVENT, .FELT_PLC_COUNTS,
       .FELT_WIN_COUNTS, .FELT_TRAIN_EVENT, .FELT_FLT, .FELT_FLT_COUNT, .PAT_COUNTS, .FLT_COUNTS]]
  | .macroComplete .. =>
      .flatten [vectorRegs, markRegs, streamRegs, [.FELT_WIN_COUNTS, .FELT_LATE_COUNTS, .FELT_TRAIN_EVENT,
       .MK_REMOTE_COUNTS, .LNK_PKT_COUNTS]]
  | .activationCheckpoint .. | .fp8Activation .. | .gradientConversion .. | .plainConversion .. | .add .. | .sub .. |
    .mul .. | .max .. | .min .. | .scale .. | .copy .. | .exp .. | .log .. | .recip .. | .rsqrt .. | .tanh .. |
    .sigmoid .. | .geluT .. | .geluE .. | .silu .. | .rowsum .. | .rowmax .. | .softmax .. | .rmsnorm .. | .layernorm
    .. | .gather .. | .scatter .. | .marker .. =>
      .flatten [vectorRegs, markRegs, issueRegs, [.MK_REMOTE_COUNTS, .LNK_PKT_COUNTS]]
  | .trackerObservation .. =>
      .flatten [vectorRegs, recordRegs, streamRegs, [.CORE_FLT, .SEAM_EVENT, .SEAM_STALE, .PAT_COUNTS, .FLT_COUNTS]]
  | .seamTrkSelWrite .. => .flatten [accessRegs, [.SEAM_TRK_SEL]]
  | .clearCounts .. | .resnap .. | .routeWrite .. | .clmClaim .. | .releaseAll .. | .vecSoft .. | .stwKick .. |
    .stwRecAck .. | .secRecKey .. => accessRegs
  | .attend .. =>
      .flatten [vectorRegs, markRegs, issueRegs, uncorrRegs, [.ATT_EVENT, .ATT_DIVERT, .ATT_FELT_EVENT,
       .MK_REMOTE_COUNTS, .LNK_PKT_COUNTS]]
  | .attendBwdDot .. | .attendBwdKv .. | .attendBwdQ .. =>
      .flatten [vectorRegs, markRegs, issueRegs, [.ATT_EVENT, .ATT_DIVERT, .MK_REMOTE_COUNTS, .LNK_PKT_COUNTS]]
  | .kvAppend .. =>
      .flatten [vectorRegs, markRegs, recordRegs, issueRegs, uncorrRegs, [.CORE_FLT, .NDL_UNITS, .ATT_EVENT,
       .ATT_ROWS, .FELT_PLC_COUNTS, .ATT_TREE_COUNTS, .ATT_PUB_DUP, .ATT_KV_ELEM, .ATT_KV_BLOCK, .ATT_FELT_EVENT,
       .PAT_COUNTS, .MK_REMOTE_COUNTS, .FLT_COUNTS, .LNK_PKT_COUNTS]]
  | .attach .. | .releaseChannel .. =>
      .flatten [vectorRegs, markRegs, recordRegs, issueRegs, uncorrRegs, [.CORE_FLT, .NDL_UNITS, .ATT_EVENT,
       .ATT_ROWS, .FELT_PLC_COUNTS, .ATT_TREE_HITS, .ATT_TREE_MISSES, .ATT_TREE_COUNTS, .ATT_FELT_EVENT, .PAT_COUNTS,
       .MK_REMOTE_COUNTS, .FLT_COUNTS, .LNK_PKT_COUNTS]]
  | .kvFork .. =>
      .flatten [vectorRegs, markRegs, recordRegs, issueRegs, uncorrRegs, [.CORE_FLT, .NDL_UNITS, .ATT_EVENT,
       .ATT_ROWS, .FELT_PLC_COUNTS, .ATT_FELT_EVENT, .PAT_COUNTS, .MK_REMOTE_COUNTS, .FLT_COUNTS, .LNK_PKT_COUNTS]]
  | .sliceSend .. | .reduce .. =>
      .flatten [vectorRegs, markRegs, recordRegs, issueRegs, uncorrRegs, [.CORE_FLT, .NDL_UNITS, .FELT_PLC_COUNTS,
       .FELT_WIN_COUNTS, .FELT_LATE_COUNTS, .FELT_TRAIN_EVENT, .PAT_COUNTS, .MK_REMOTE_COUNTS, .FLT_COUNTS,
       .LNK_PKT_COUNTS]]
  | .replicaContribution .. =>
      .flatten [vectorRegs, recordRegs, streamRegs, [.FELT_WIN_COUNTS, .FELT_LATE_COUNTS, .FELT_TRAIN_EVENT,
       .FELT_FLT, .FELT_FLT_COUNT, .PAT_COUNTS, .FLT_COUNTS, .LNK_PKT_COUNTS]]
  | .stragglerExpire .. =>
      .flatten [vectorRegs, [.FELT_WIN_COUNTS, .FELT_LATE_COUNTS, .FELT_TRAIN_EVENT, .LNK_PKT_COUNTS]]
  | .update .. =>
      .flatten [vectorRegs, markRegs, recordRegs, issueRegs, uncorrRegs, [.CORE_FLT, .NDL_UNITS, .FELT_PLC_COUNTS,
       .FELT_UPD_COUNTS, .PAT_COUNTS, .MK_REMOTE_COUNTS, .FLT_COUNTS, .LNK_PKT_COUNTS]]
  | .materialise .. =>
      .flatten [vectorRegs, markRegs, recordRegs, issueRegs, uncorrRegs, [.CORE_FLT, .NDL_UNITS, .FELT_PLC_COUNTS,
       .FELT_COPY_COUNTS, .FELT_COPY_BLOCKS, .FELT_UPD_BANDS, .PAT_COUNTS, .MK_REMOTE_COUNTS, .FLT_COUNTS,
       .LNK_PKT_COUNTS]]
  | .updateBand .. =>
      .flatten [vectorRegs, recordRegs, uncorrRegs, streamRegs, [.FELT_PLC_COUNTS, .FELT_COPY_COUNTS,
       .FELT_COPY_BLOCKS, .FELT_WIN_COUNTS, .FELT_UPD_BANDS, .FELT_UPD_COUNTS, .FELT_TRAIN_EVENT, .FELT_FLT,
       .FELT_FLT_COUNT, .PAT_COUNTS, .HUB_STEP_STATUS, .FLT_COUNTS]]
  | .updateWriteRelease .. =>
      .flatten [vectorRegs, recordRegs, uncorrRegs, streamRegs, [.FELT_PLC_COUNTS, .FELT_COPY_COUNTS,
       .FELT_COPY_BLOCKS, .FELT_WIN_COUNTS, .FELT_UPD_BANDS, .FELT_UPD_COUNTS, .FELT_TRAIN_EVENT, .PAT_COUNTS,
       .HUB_STEP_STATUS, .FLT_COUNTS]]
  | .settling .. | .abortDrained .. => [.HUB_STEP_STATUS]
  | .voteArrival .. =>
      .flatten [vectorRegs, [.MK_CHAIN, .NDL_STREAM_STATUS, .PAT_PANEL_STATUS, .HUB_STEP_STATUS, .LNK_PKT_COUNTS]]
  | .voteTimeout .. =>
      .flatten [recordRegs, [.CORE_STATUS, .VEC_PEND, .VEC_COUNTS, .VEC_LATCH, .PAT_COUNTS, .LNK_PKT_COUNTS]]
  | .voteRelease .. =>
      .flatten [queueRegs, vectorRegs, markRegs, recordRegs, streamRegs, [.SEAM_EVENT, .SEAM_CALIB_PENDING, .MK_CHAIN,
       .VEC_STATUS, .FELT_MEM_EVENT, .FELT_PLC_COUNTS, .PAT_COUNTS, .PAT_PANEL_STATUS, .HUB_STEP_NUM,
       .HUB_STEP_COMMITTED, .HUB_STEP_STATUS, .HUB_STEP_REPEATS, .MK_REMOTE_COUNTS, .FLT_COUNTS, .LNK_PKT_COUNTS]]
  | .resume .. =>
      .flatten [accessRegs, queueRegs, markRegs, recordRegs, streamRegs, [.VEC_STATUS, .FELT_PLC_COUNTS, .PAT_COUNTS,
       .HUB_STEP_STATUS, .HUB_STEP_REPEATS, .MK_REMOTE_COUNTS, .FLT_COUNTS, .LNK_PKT_COUNTS]]
  | .feltRead .. => .flatten [vectorRegs, recordRegs, uncorrRegs, streamRegs, [.PAT_COUNTS, .FLT_COUNTS]]
  | .feltWrite .. =>
      .flatten [vectorRegs, streamRegs, [.FELT_MEM_COUNTS, .FELT_MEM_EVENT, .FELT_PLC_COUNTS, .PAT_COUNTS,
       .FLT_COUNTS]]
  | .scrubStep .. => .flatten [recordRegs, uncorrRegs, claimRegs, [.FELT_SCRUB_STATUS, .PAT_COUNTS]]
  | .pageMoveDone .. => .flatten [recordRegs, uncorrRegs, claimRegs, [.FELT_PLC_COUNTS, .PAT_COUNTS]]
  | .ruleStop .. | .ruleStart .. => .flatten [accessRegs, [.FELT_RULE_STATUS]]
  | .rulesStopped => [.FELT_RULE_STATUS]
  | .feltRatioSelWrite .. => .flatten [accessRegs, [.FELT_RATIO_SEL]]
  | .waitTimeout .. => .flatten [vectorRegs, [.MK_STATUS]]
  | .barrier .. =>
      .flatten [vectorRegs, [.NDL_EVENT, .MK_STATE_LO, .MK_STATE_HI, .MK_CHAIN, .NDL_STREAM_STATUS, .NDL_STREAM_SEQ]]
  | .chainArrive .. =>
      .flatten [vectorRegs, markRegs, recordRegs, streamRegs, [.PAT_COUNTS, .CH_EVENT, .CH_COUNTS, .MK_REMOTE_COUNTS,
       .LNK_PKT_COUNTS]]
  | .chainRelease .. =>
      .flatten [vectorRegs, [.MK_STATE_LO, .MK_STATE_HI, .MK_STATUS, .MK_DOUBLE_SET, .MK_CHAIN, .MK_CHAIN_EPOCH]]
  | .barrierTimeout .. => .flatten [claimRegs, [.CH_STATUS, .CH_EVENT]]
  | .markerSetPacket .. | .fenceSetApply .. | .retrainDone .. | .write .. | .queuePush .. =>
      .flatten [queueRegs, vectorRegs, markRegs, recordRegs, streamRegs, [.VEC_STATUS, .FELT_MEM_COUNTS,
       .FELT_MEM_EVENT, .FELT_PLC_COUNTS, .PAT_COUNTS, .MK_REMOTE_COUNTS, .FLT_COUNTS, .LNK_STATUS, .LNK_EVENT,
       .LNK_PKT_COUNTS]]
  | .mkForceKey .. => .flatten [accessRegs, [.MK_FORCE_COUNT]]
  | .forcedSet .. | .forcedClear .. =>
      .flatten [accessRegs, markRegs, recordRegs, streamRegs, [.MK_FORCED, .MK_FORCE_COUNT, .PAT_COUNTS, .FLT_COUNTS]]
  | .mkEpStateClear .. => .flatten [accessRegs, [.MK_EP_DOUBLE_SET, .MK_EP_STATE]]
  | .queueRead .. =>
      .flatten [queueRegs, vectorRegs, markRegs, recordRegs, issueRegs, uncorrRegs, [.NDL_UNITS, .VEC_STATUS,
       .FELT_PLC_COUNTS, .PAT_COUNTS, .MK_REMOTE_COUNTS, .FLT_COUNTS, .LNK_PKT_COUNTS]]
  | .queueReadSatisfied .. =>
      .flatten [queueRegs, vectorRegs, markRegs, recordRegs, uncorrRegs, streamRegs, [.VEC_STATUS, .FELT_PLC_COUNTS,
       .PAT_COUNTS, .MK_REMOTE_COUNTS, .FLT_COUNTS, .LNK_PKT_COUNTS]]
  | .corePush .. =>
      .flatten [queueRegs, vectorRegs, markRegs, recordRegs, issueRegs, uncorrRegs, [.CORE_FLT, .NDL_UNITS,
       .VEC_STATUS, .FELT_PLC_COUNTS, .PAT_COUNTS, .MK_REMOTE_COUNTS, .FLT_COUNTS, .LNK_PKT_COUNTS]]
  | .queueMark .. | .queueRewind .. | .queueRelease .. =>
      .flatten [queueRegs, vectorRegs, markRegs, recordRegs, issueRegs, [.NDL_UNITS, .VEC_STATUS, .FELT_MEM_EVENT,
       .FELT_PLC_COUNTS, .PAT_COUNTS, .MK_REMOTE_COUNTS, .FLT_COUNTS, .LNK_PKT_COUNTS]]
  | .land .. | .stalledPushAccept .. =>
      .flatten [queueRegs, vectorRegs, markRegs, recordRegs, streamRegs, [.VEC_STATUS, .PAT_COUNTS, .MK_REMOTE_COUNTS,
       .FLT_COUNTS, .LNK_PKT_COUNTS]]
  | .stewardPush .. =>
      .flatten [accessRegs, queueRegs, markRegs, recordRegs, uncorrRegs, streamRegs, [.VEC_STATUS, .PAT_COUNTS,
       .MK_REMOTE_COUNTS, .FLT_COUNTS, .LNK_PKT_COUNTS]]
  | .pushTimeout .. =>
      .flatten [vectorRegs, markRegs, streamRegs, [.VEC_STATUS, .MK_REMOTE_COUNTS, .Q_PROD, .Q_CONS, .Q_MARK, .Q_REL,
       .Q_COUNTS, .LNK_PKT_COUNTS]]
  | .advance .. | .mark .. | .rewind .. | .release .. | .queueStop .. | .queueStart .. | .queueClear .. =>
      .flatten [accessRegs, queueRegs, markRegs, recordRegs, streamRegs, [.VEC_STATUS, .PAT_COUNTS, .MK_REMOTE_COUNTS,
       .FLT_COUNTS, .LNK_PKT_COUNTS]]
  | .queueStopped .. => [.CORE_STATUS, .VEC_PEND, .VEC_COUNTS, .VEC_LATCH, .NDL_STREAM_STATUS, .Q_STATUS]
  | .linkSilenceTimeout .. | .laneLoss .. =>
      .flatten [vectorRegs, recordRegs, streamRegs, [.PAT_COUNTS, .MK_REMOTE_COUNTS, .FLT_COUNTS, .LNK_STATUS,
       .LNK_EVENT, .LNK_PKT_COUNTS, .LNK_LINK_COUNTS]]
  | .retrainTimeout .. | .trainingTimeout .. =>
      .flatten [vectorRegs, recordRegs, streamRegs, [.PAT_COUNTS, .MK_REMOTE_COUNTS, .FLT_COUNTS, .LNK_STATUS,
       .LNK_EVENT, .LNK_PKT_COUNTS]]
  | .degradeWindowEnd .. =>
      .flatten [vectorRegs, recordRegs, streamRegs, [.PAT_COUNTS, .MK_REMOTE_COUNTS, .FLT_COUNTS, .LNK_STATUS,
       .LNK_EVENT, .LNK_FEC_CORR, .LNK_PKT_COUNTS, .LNK_LINK_COUNTS]]
  | .trainingDone .. =>
      .flatten [vectorRegs, recordRegs, streamRegs, [.PAT_COUNTS, .MK_REMOTE_COUNTS, .FLT_COUNTS, .LNK_STATUS,
       .LNK_CONFIG, .LNK_EVENT, .LNK_PKT_COUNTS]]
  | .portStop .. | .portStart .. =>
      .flatten [accessRegs, recordRegs, streamRegs, [.PAT_COUNTS, .MK_REMOTE_COUNTS, .FLT_COUNTS, .LNK_STATUS,
       .LNK_PKT_COUNTS, .LNK_LINK_COUNTS]]
  | .portDrained .. | .portDrainTimeout .. =>
      .flatten [vectorRegs, recordRegs, streamRegs, [.PAT_COUNTS, .MK_REMOTE_COUNTS, .FLT_COUNTS, .LNK_STATUS,
       .LNK_PKT_COUNTS]]
  | .writeBulk .. =>
      .flatten [vectorRegs, streamRegs, [.FELT_MEM_COUNTS, .FELT_MEM_EVENT, .FELT_PLC_COUNTS, .PAT_COUNTS,
       .FLT_COUNTS, .LNK_STATUS, .LNK_EVENT, .LNK_PKT_COUNTS]]
  | .read .. =>
      .flatten [vectorRegs, recordRegs, uncorrRegs, [.PAT_COUNTS, .LNK_STATUS, .LNK_EVENT, .LNK_PKT_COUNTS]]
  | .readData .. | .completion .. | .ctrlData .. =>
      .flatten [vectorRegs, [.LNK_DISC_STATUS, .LNK_STATUS, .LNK_EVENT, .LNK_PKT_COUNTS]]
  | .packetForward .. | .discover .. | .attn .. => .flatten [vectorRegs, [.LNK_STATUS, .LNK_EVENT, .LNK_PKT_COUNTS]]
  | .responseTimeout .. => [.CORE_STATUS, .VEC_PEND, .VEC_COUNTS, .VEC_LATCH, .LNK_DISC_STATUS, .LNK_PKT_COUNTS]
  | .discoveryStart .. => .flatten [accessRegs, [.LNK_DISC_STATUS, .LNK_PKT_COUNTS, .LNK_LINK_COUNTS]]
  | .discoverRsp .. =>
      .flatten [vectorRegs, recordRegs, streamRegs, [.PAT_COUNTS, .MK_REMOTE_COUNTS, .LNK_DISC_STATUS,
       .LNK_DISC_MEMBERS, .FLT_COUNTS, .LNK_STATUS, .LNK_EVENT, .LNK_PKT_COUNTS]]
  | .assignId .. => .flatten [vectorRegs, [.LNK_FABRIC, .LNK_GROUP, .LNK_STATUS, .LNK_EVENT, .LNK_PKT_COUNTS]]
  | .attnMessage | .attnMessageRepeat => [.CORE_STATUS, .VEC_PEND, .VEC_COUNTS, .VEC_LATCH, .LNK_PKT_COUNTS]
  | .clmComplete .. => .flatten [accessRegs, [.CLM_BAD_COMPLETE]]
  | .handlerDispatch .. =>
      .flatten [queueRegs, vectorRegs, markRegs, recordRegs, uncorrRegs, streamRegs, [.CORE_FLT, .VEC_STATUS,
       .PAT_COUNTS, .MK_REMOTE_COUNTS, .FLT_COUNTS, .LNK_PKT_COUNTS]]
  | .stwSignal .. => .flatten [accessRegs, [.MK_STATE_LO, .MK_STATE_HI, .MK_STATUS, .MK_DOUBLE_SET]]
  | .stageWrite .. => .flatten [accessRegs, [.STW_STAGE_LEN, .STW_STAGE_STATUS, .STW_ACT_COUNTS]]
  | .verify .. => .flatten [accessRegs, [.STW_STAGE_STATUS, .STW_ACT_COUNTS]]
  | .verifyDone => .flatten [claimRegs, [.SEC_EVENT, .STW_STAGE_STATUS]]
  | .stewardStop .. | .stewardStart .. | .stewardRestart .. | .activate .. | .cancel .. | .take .. | .giveBack .. =>
      .flatten [accessRegs, queueRegs, markRegs, recordRegs, streamRegs, [.VEC_STATUS, .PAT_COUNTS, .MK_REMOTE_COUNTS,
       .FLT_COUNTS, .SEC_STATUS, .SEC_LOG_COUNT, .SEC_MEAS, .STW_CTRL, .STW_STATUS, .STW_FW_VERSION, .STW_COUNTS,
       .STW_EVENT, .STW_ACT_STATUS, .LNK_PKT_COUNTS]]
  | .activationDone | .emergencyTimeout =>
      .flatten [claimRegs, [.PAT_COUNTS, .STW_EVENT, .STW_ACT_STATUS, .STW_LOG_WR, .STW_LOG_DROPPED]]
  | .wdog .. | .fatalTrap .. | .stewardEcc .. =>
      .flatten [queueRegs, vectorRegs, markRegs, recordRegs, streamRegs, [.VEC_STATUS, .PAT_COUNTS, .MK_REMOTE_COUNTS,
       .FLT_COUNTS, .STW_STATUS, .STW_FW_VERSION, .STW_COUNTS, .STW_EVENT, .LNK_PKT_COUNTS]]
  | .autoRestart .. =>
      .flatten [queueRegs, vectorRegs, markRegs, recordRegs, streamRegs, [.VEC_STATUS, .PAT_COUNTS, .MK_REMOTE_COUNTS,
       .FLT_COUNTS, .STW_STATUS, .STW_FW_VERSION, .STW_COUNTS, .LNK_PKT_COUNTS]]
  | .stwRecPop .. => .flatten [accessRegs, [.STW_REC_DATA]]
  | .stwLogSubmitId .. => .flatten [accessRegs, [.PAT_COUNTS, .STW_LOG_WR, .STW_LOG_DROPPED]]
  | .handshakeTimeout .. =>
      .flatten [vectorRegs, recordRegs, streamRegs, [.CORE_FLT, .CORE_FLT_COUNTS, .MK_CHAIN, .VEC_STATUS, .DIE_FLT,
       .DIE_FLT_COUNT, .FELT_FLT, .FELT_FLT_COUNT, .PAT_COUNTS, .PAT_EXCLUDED_DIE0, .PAT_EXCLUDED_DIE1,
       .PAT_PANEL_STATUS, .HUB_STEP_STATUS, .FLT_COUNTS, .FLT_EXCLUSIONS, .LNK_PKT_COUNTS]]
  | .autoRemapStart .. =>
      .flatten [vectorRegs, streamRegs, [.CORE_ID, .CORE_FLT, .CORE_FLT_COUNTS, .SEAM_STATUS, .MK_STATE_LO,
       .MK_STATE_HI, .VEC_BASE, .VEC_STATUS, .NDL_STREAM_SEQ, .VEC_PRIO, .FELT_RES_STATUS, .PAT_PANEL_STATUS,
       .HUB_STEP_NUM]]
  | .powerInterval .. => .flatten [claimRegs, [.PWR_VCORE, .PWR_STATUS, .PWR_EVENT, .PWR_POWER]]
  | .vcoreRampStep .. => [.PWR_VCORE]
  | .vrStatusPoll .. => .flatten [claimRegs, [.PWR_EVENT]]
  | .pmbusTransaction .. => .flatten [claimRegs, [.PWR_EVENT, .PWR_COUNTS]]
  | .thermalReport .. => .flatten [claimRegs, [.PWR_VCORE, .PWR_STATUS, .PWR_THERM, .PWR_EVENT, .PWR_COUNTS]]
  | .pwrAlertAssert => .flatten [claimRegs, [.PWR_VCORE, .PWR_STATUS, .PWR_EVENT, .PWR_COUNTS]]
  | .pwrAlertDeassert | .gateLift => [.PWR_STATUS]
  | .emergencyEnd =>
      .flatten [queueRegs, vectorRegs, markRegs, recordRegs, streamRegs, [.VEC_STATUS, .PAT_COUNTS, .MK_REMOTE_COUNTS,
       .FLT_COUNTS, .PWR_STATUS, .PWR_EVENT, .SEC_STATUS, .SEC_LOG_COUNT, .SEC_MEAS, .STW_STATUS, .STW_FW_VERSION,
       .STW_COUNTS, .STW_ACT_STATUS, .LNK_PKT_COUNTS]]
  | .pinGlitch .. | .strapChange .. => .flatten [claimRegs, [.HUB_INCHK_EVENT, .HUB_INCHK_COUNTS]]
  | .romDone => [.SEC_STATUS, .SEC_LOG_COUNT, .SEC_MEAS, .HUB_BOOT_STATUS]
  | .recordDone .. =>
      [.DIE_ID, .ICNT_STATUS, .PWR_VCORE, .SEC_STATUS, .SEC_LOG_COUNT, .SEC_MEAS, .HUB_BOOT_STATUS, .LNK_STATUS]
  | .dramTrainingDone .. | .linksDone | .ready => [.HUB_BOOT_STATUS]
  | .attest .. | .registerKey .. | .debugEn .. =>
      .flatten [accessRegs, [.SEC_STATUS, .SEC_EVENT, .SEC_LOG_COUNT, .SEC_MEAS]]
  | .attestDone => .flatten [claimRegs, [.SEC_STATUS, .SEC_EVENT, .SEC_COUNTS]]
  | .recWrite .. => .flatten [accessRegs, [.SEC_STATUS]]
  | .recWriteDone => .flatten [claimRegs, [.SEC_STATUS, .SEC_EVENT, .SEC_LOG_COUNT, .SEC_MEAS]]
  | .debugLsRead .. => [.SEC_COUNTS]
  | .debugLsWrite .. =>
      .flatten [streamRegs, [.CORE_STATUS, .VEC_PEND, .VEC_COUNTS, .VEC_LATCH, .FLT_COUNTS, .SEC_COUNTS]]
  | .resetNRelease .. => [.LNK_FABRIC]
  | .coreFaultWindowExpire .. => [.CORE_FLT_COUNTS]

/-- The parts of State a command may change. -/
def mayTouch : Instr → List Part
  | .registerWrite .. | .i3cWrite .. =>
      .flatten [workParts, trainParts, recordParts, sendParts, orderParts, [.free, .badPhys, .pages, .load, .rules,
       .rulesOn, .live, .trackers, .sliceSums, .masks, .ratioSnap, .epochs, .openEpochs, .forceArmed, .requests,
       .routes, .routeChange, .discTodo, .discAsked, .discLinks, .discStarted, .coldPorts, .groups, .tree, .stewards,
       .staging, .sec]]
  | .lowWordRead .. | .rcRead .. => [.readback, .latches, .recLostMark]
  | .corePark .. | .dieBeatWindowEnd .. | .settling .. | .rulesStopped | .waitTimeout .. | .barrierTimeout .. |
    .mkEpStateClear .. | .queueStopped .. | .clmComplete .. | .releaseAll .. | .vecSoft .. | .verify .. | .verifyDone
    | .stwKick .. | .vcoreRampStep .. | .vrStatusPoll .. | .pmbusTransaction .. | .pwrAlertAssert | .pwrAlertDeassert
    | .gateLift | .pinGlitch .. | .strapChange .. | .dramTrainingDone .. | .linksDone | .ready => []
  | .driftCheck .. => .flatten [recordParts, [.badPhys]]
  | .load .. | .loadPartial .. | .abort .. | .signatureChecked | .structuralChecksDone .. => [.load]
  | .digestChecked => .flatten [recordParts, [.badPhys, .load]]
  | .loadApplied =>
      .flatten [workParts, recordParts, tensorParts, sendParts, orderParts, [.badPhys, .keptDescs, .load, .secs,
       .coreMap, .links, .devQueues, .rules, .rulesOn, .rules0, .live, .trackers, .trkSaved, .masks, .votes, .voteOut,
       .requests, .routes, .routeChange, .coldPorts, .groups, .tree, .sec]]
  | .panelStop .. | .panelStart .. | .panelForce .. =>
      .flatten [workParts, trainParts, recordParts, sendParts, [.free, .badPhys, .live, .trackers, .sliceSums, .masks,
       .epochs, .openEpochs, .groups, .tree]]
  | .panelStarted .. => .flatten [workParts, [.pages]]
  | .panelDrained .. =>
      .flatten [trainParts, recordParts, sendParts, [.free, .badPhys, .panels, .cores, .flights, .trackers,
       .sliceSums, .slices, .stalledSlices, .sideRecs, .masks, .updates, .openEpochs, .arrivals, .fenceUsed, .chans]]
  | .panelDrainTimeout .. =>
      .flatten [workParts, trainParts, recordParts, sendParts, [.free, .badPhys, .trackers, .sliceSums, .masks,
       .openEpochs]]
  | .matmulG .. | .matmulT .. | .matmulTdx .. | .matmulTdw .. =>
      .flatten [sendParts, [.cores, .flights, .nextFlight, .micros, .fenceUsed, .chans]]
  | .skeinFetch .. => .flatten [workParts, recordParts, [.free, .badPhys, .badTens, .pages]]
  | .unitComplete .. =>
      .flatten [workParts, trainParts, recordParts, tensorParts, sendParts, [.free, .badPhys, .trackers, .sliceSums,
       .masks, .epochs, .openEpochs, .releases]]
  | .sliceAccepted .. => [.slices, .stalledSlices]
  | .sliceArrive .. => .flatten [workParts, recordParts, [.free, .badPhys, .badTens, .pages, .windows, .sliceSums]]
  | .sideRecordArrive .. => [.sideRecs, .sideSums]
  | .macroComplete .. =>
      .flatten [sendParts, [.cores, .flights, .windows, .sideSums, .masks, .helds, .sentTiles, .fenceUsed, .chans]]
  | .activationCheckpoint .. | .fp8Activation .. | .gradientConversion .. | .plainConversion .. | .add .. | .sub .. |
    .mul .. | .max .. | .min .. | .scale .. | .copy .. | .exp .. | .log .. | .recip .. | .rsqrt .. | .tanh .. |
    .sigmoid .. | .geluT .. | .geluE .. | .silu .. | .rowsum .. | .rowmax .. | .softmax .. | .rmsnorm .. | .layernorm
    .. | .gather .. | .scatter .. | .attend .. | .attendBwdDot .. | .attendBwdKv .. | .attendBwdQ .. | .marker .. =>
      .flatten [sendParts, [.cores, .flights, .nextFlight, .fenceUsed, .chans]]
  | .trackerObservation .. => .flatten [workParts, recordParts, [.badPhys, .trackers]]
  | .seamTrkSelWrite .. | .stwSignal .. | .coreFaultWindowExpire .. => [.cores]
  | .clearCounts .. | .resnap .. => [.cores, .trackers]
  | .kvAppend .. | .attach .. | .releaseChannel .. =>
      .flatten [workParts, recordParts, tensorParts, sendParts, [.free, .badPhys, .nextFlight, .groups, .tree]]
  | .kvFork .. => .flatten [workParts, recordParts, tensorParts, sendParts, [.free, .badPhys, .nextFlight, .groups]]
  | .sliceSend .. | .reduce .. =>
      .flatten [workParts, recordParts, sendParts, [.free, .badPhys, .badTens, .pages, .nextFlight, .windows,
       .sideSums, .masks, .helds, .sentTiles]]
  | .replicaContribution .. =>
      .flatten [workParts, recordParts, sendParts, [.badPhys, .windows, .sideSums, .masks, .helds, .sentTiles]]
  | .stragglerExpire .. =>
      .flatten [sendParts, [.flights, .windows, .sideSums, .masks, .helds, .sentTiles, .fenceUsed]]
  | .reducedTileArrive .. => [.windows, .sentTiles]
  | .update .. | .corePush .. | .queueMark .. | .queueRewind .. | .queueRelease .. =>
      .flatten [workParts, recordParts, sendParts, [.free, .badPhys, .badTens, .pages, .nextFlight]]
  | .materialise .. | .queueRead .. =>
      .flatten [workParts, recordParts, tensorParts, sendParts, [.free, .badPhys, .nextFlight]]
  | .updateBand .. | .updateWriteRelease .. =>
      .flatten [workParts, recordParts, tensorParts, [.free, .badPhys, .windows, .sideSums, .updDone, .ratios]]
  | .voteArrival .. =>
      .flatten [trainParts, sendParts, [.free, .panels, .cores, .flights, .trackers, .sliceSums, .slices,
       .stalledSlices, .sideRecs, .masks, .updates, .openEpochs, .arrivals, .fenceUsed, .chans]]
  | .voteTimeout .. => .flatten [recordParts, sendParts, [.badPhys, .epochs, .votes, .voteOut, .fenceUsed]]
  | .voteRelease .. =>
      .flatten [workParts, trainParts, recordParts, sendParts, [.free, .badPhys, .badTens, .pages, .trackers,
       .trkSaved, .sliceSums, .masks, .openEpochs, .voteOut]]
  | .resume .. =>
      .flatten [workParts, trainParts, recordParts, sendParts, [.badPhys, .pages, .trackers, .sliceSums, .masks]]
  | .abortDrained .. => [.panels]
  | .feltRead .. => .flatten [workParts, recordParts, [.status, .badPhys, .badTens, .pages]]
  | .feltWrite .. => .flatten [workParts, tensorParts, [.free, .status, .dram, .badPhys]]
  | .scrubStep .. => .flatten [recordParts, [.badPhys, .badTens, .scrubBlock]]
  | .migrationInterval .. => [.pages]
  | .pageMoveDone .. => .flatten [recordParts, [.free, .badPhys, .pages]]
  | .ruleStop .. | .ruleStart .. => [.rulesOn]
  | .feltRatioSelWrite .. => [.ratioSnap]
  | .barrier .. => [.cores, .flights, .nextFlight, .arrivals, .fenceUsed]
  | .chainArrive .. =>
      .flatten [recordParts, sendParts, [.badPhys, .cores, .flights, .epochs, .openEpochs, .arrivals, .releases,
       .votes, .voteOut, .fenceUsed, .chans]]
  | .chainRelease .. => [.cores, .flights, .epochs, .openEpochs, .arrivals, .releases]
  | .markerSetPacket .. | .fenceSetApply .. | .retrainDone .. | .write .. | .queuePush .. =>
      .flatten [workParts, packetParts, recordParts, tensorParts, orderParts, [.free, .badPhys]]
  | .mkForceKey .. | .forceArmExpire .. => [.forceArmed]
  | .forcedSet .. | .forcedClear .. => .flatten [workParts, recordParts, [.badPhys, .forceArmed]]
  | .queueReadSatisfied .. => .flatten [workParts, recordParts, tensorParts, sendParts, [.free, .badPhys]]
  | .land .. | .stalledPushAccept .. | .stewardPush .. | .advance .. | .mark .. | .rewind .. | .release .. |
    .queueStop .. | .queueStart .. | .queueClear .. | .handlerDispatch .. =>
      .flatten [workParts, recordParts, sendParts, [.badPhys]]
  | .pushTimeout .. => .flatten [sendParts, [.cores, .flights, .fenceUsed, .queues, .chans]]
  | .flitReceive .. =>
      .flatten [workParts, trainParts, packetParts, recordParts, tensorParts, orderParts, [.free, .readback, .status,
       .latches, .badPhys, .keptDescs, .scrubBlock, .load, .secs, .coreMap, .links, .devQueues, .rules, .rulesOn,
       .rules0, .live, .nextFlight, .trackers, .sliceSums, .masks, .ratioSnap, .epochs, .openEpochs, .releases,
       .votes, .voteOut, .forceArmed, .routes, .uplink, .routeChange, .discTodo, .discAsked, .discLinks, .discStarted,
       .coldPorts, .groups, .tree, .attnSent, .stewards, .staging, .sec, .i3c, .pins]]
  | .linkSilenceTimeout .. | .laneLoss .. | .degradeWindowEnd .. | .portStop .. | .portStart .. | .portDrained .. |
    .portDrainTimeout .. =>
      .flatten [workParts, recordParts, sendParts, orderParts, [.badPhys, .requests, .coldPorts]]
  | .retrainTimeout .. | .trainingDone .. | .trainingTimeout .. =>
      .flatten [workParts, recordParts, sendParts, orderParts, [.badPhys, .requests]]
  | .writeBulk .. => .flatten [workParts, packetParts, tensorParts, [.free, .dram, .badPhys, .openTags]]
  | .read .. => .flatten [packetParts, recordParts, [.badPhys, .fenceUsed]]
  | .readData .. | .completion .. | .ctrlData .. | .responseTimeout .. =>
      .flatten [packetParts, [.fenceUsed, .routes, .routeChange, .discTodo, .discAsked]]
  | .ctrlWrite .. =>
      .flatten [workParts, trainParts, packetParts, recordParts, orderParts, [.free, .badPhys, .pages, .load, .rules,
       .rulesOn, .live, .trackers, .sliceSums, .masks, .ratioSnap, .epochs, .openEpochs, .forceArmed, .routes,
       .routeChange, .discTodo, .discAsked, .discLinks, .discStarted, .coldPorts, .groups, .tree, .stewards, .staging,
       .sec]]
  | .ctrlRead .. => .flatten [packetParts, [.readback, .latches, .fenceUsed, .recLostMark]]
  | .packetForward .. | .discover .. | .attn .. => .flatten [packetParts, [.fenceUsed]]
  | .routeWrite .. => [.routes, .routeChange]
  | .discoveryStart .. =>
      .flatten [sendParts, [.fenceUsed, .requests, .routes, .routeChange, .discTodo, .discAsked, .discLinks,
       .discStarted]]
  | .discoverRsp .. =>
      .flatten [workParts, packetParts, recordParts, orderParts, [.badPhys, .routes, .routeChange, .discTodo,
       .discAsked, .discLinks]]
  | .assignId .. => .flatten [packetParts, [.fenceUsed, .routes, .uplink]]
  | .warmReset .. =>
      .flatten [workParts, trainParts, packetParts, orderParts, [.free, .status, .latches, .pages, .keptDescs,
       .scrubBlock, .load, .secs, .coreMap, .links, .devQueues, .rules, .rulesOn, .rules0, .live, .nextFlight,
       .trackers, .sliceSums, .masks, .ratioSnap, .epochs, .openEpochs, .releases, .votes, .voteOut, .forceArmed,
       .routes, .uplink, .routeChange, .discTodo, .discAsked, .discLinks, .discStarted, .groups, .tree, .attnSent,
       .stewards, .staging, .recFifo, .recLostMark, .sec, .i3c, .pins]]
  | .refclkLoss | .refclkReturn | .powerInterval .. | .thermalReport .. => [.power]
  | .attnRelease => [.pins]
  | .attnMessage | .attnMessageRepeat => .flatten [sendParts, [.fenceUsed, .attnSent]]
  | .clmClaim .. => [.readback]
  | .stageWrite .. => [.staging]
  | .stewardStop .. | .stewardStart .. | .stewardRestart .. | .activate .. | .cancel .. | .take .. | .giveBack .. =>
      .flatten [workParts, recordParts, sendParts, [.badPhys, .stewards, .sec]]
  | .activationDone | .emergencyTimeout | .stwLogSubmitId .. => [.dram, .badPhys]
  | .wdog .. | .fatalTrap .. | .stewardEcc .. | .autoRestart .. =>
      .flatten [workParts, recordParts, sendParts, [.badPhys, .stewards]]
  | .stwRecPop .. => [.stewards, .recFifo]
  | .stwRecAck .. => [.stewards]
  | .handshakeTimeout .. =>
      .flatten [workParts, trainParts, recordParts, sendParts, [.free, .badPhys, .trackers, .sliceSums, .masks,
       .epochs, .openEpochs, .releases]]
  | .autoRemapStart .. =>
      [.live, .panels, .cores, .flights, .trackers, .epochs, .fenceUsed, .queues, .chans, .groups, .tree]
  | .emergencyEnd => .flatten [workParts, recordParts, sendParts, [.badPhys, .stewards, .power, .sec]]
  | .coldReset | .vauxLoss =>
      .flatten [workParts, trainParts, packetParts, recordParts, tensorParts, orderParts, [.readback, .status,
       .latches, .badPhys, .keptDescs, .scrubBlock, .load, .secs, .coreMap, .links, .devQueues, .rules, .rulesOn,
       .rules0, .live, .repair, .nextFlight, .trackers, .trkSaved, .sliceSums, .masks, .ratioSnap, .epochs,
       .openEpochs, .releases, .votes, .voteOut, .forceArmed, .routes, .uplink, .routeChange, .discTodo, .discAsked,
       .discLinks, .discStarted, .coldPorts, .groups, .tree, .attnSent, .stewards, .staging, .power, .sec, .i3c,
       .pins]]
  | .romDone | .attest .. | .attestDone | .registerKey .. | .debugEn .. | .secRecKey .. | .recWrite .. |
    .recUnlockExpire => [.sec]
  | .recordDone .. => [.repair, .coldPorts, .sec]
  | .recWriteDone => [.modrec, .sec]
  | .i3cRead .. => [.readback, .latches, .recLostMark, .i3c]
  | .entdaa .. | .setdasa .. | .rstdaa | .enec | .disec | .getpid | .getbcr | .getdcr | .getstatus | .getmwl | .getmrl
    => [.i3c]
  | .bypass | .idcode | .extest | .highz | .tapReset => [.jtag]
  | .samplePreload | .debugLsRead .. => [.free, .jtag]
  | .debugControlRead .. => [.readback, .latches, .recLostMark, .jtag]
  | .debugControlWrite .. =>
      .flatten [workParts, trainParts, recordParts, sendParts, orderParts, [.free, .badPhys, .pages, .load, .rules,
       .rulesOn, .live, .trackers, .sliceSums, .masks, .ratioSnap, .epochs, .openEpochs, .forceArmed, .requests,
       .routes, .routeChange, .discTodo, .discAsked, .discLinks, .discStarted, .coldPorts, .groups, .tree, .stewards,
       .staging, .sec, .jtag]]
  | .debugLsWrite .. => .flatten [workParts, [.jtag]]
  | .resetNRelease .. => [.jtag, .pins]

/-! Issue of a macro-instruction (R180, R196 to R206). -/

/-- The commands that issue a macro-instruction: the operation, the core and the stream. -/
def issuer : Instr → Option (OpSpec × Nat × Strm)
  | .matmulG c st => some (opProduct opG, c, st)
  | .matmulT c st => some (opProduct opT, c, st)
  | .matmulTdx c st => some (opProduct opTdx, c, st)
  | .matmulTdw c st => some (opProduct opTdw, c, st)
  | .activationCheckpoint c st => some (opConvert 1, c, st)
  | .fp8Activation c st => some (opConvert 2, c, st)
  | .gradientConversion c st => some (opConvert 3, c, st)
  | .plainConversion c st => some (opConvert 8, c, st)
  | .add c st => some (opVector 0x01, c, st)
  | .sub c st => some (opVector 0x02, c, st)
  | .mul c st => some (opVector 0x03, c, st)
  | .max c st => some (opVector 0x04, c, st)
  | .min c st => some (opVector 0x05, c, st)
  | .scale c st => some (opVector 0x06, c, st)
  | .copy c st => some (opVector 0x07, c, st)
  | .exp c st => some (opVector 0x10, c, st)
  | .log c st => some (opVector 0x11, c, st)
  | .recip c st => some (opVector 0x12, c, st)
  | .rsqrt c st => some (opVector 0x13, c, st)
  | .tanh c st => some (opVector 0x14, c, st)
  | .sigmoid c st => some (opVector 0x15, c, st)
  | .geluT c st => some (opVector 0x16, c, st)
  | .geluE c st => some (opVector 0x17, c, st)
  | .silu c st => some (opVector 0x18, c, st)
  | .rowsum c st => some (opVector 0x20, c, st)
  | .rowmax c st => some (opVector 0x21, c, st)
  | .softmax c st => some (opVector 0x22, c, st)
  | .rmsnorm c st => some (opVector 0x23, c, st)
  | .layernorm c st => some (opVector 0x24, c, st)
  | .gather c st => some (opRows true, c, st)
  | .scatter c st => some (opRows false, c, st)
  | .attend c st => some (opAttend, c, st)
  | .attendBwdDot c st => some (opBwd 0, c, st)
  | .attendBwdKv c st => some (opBwd 1, c, st)
  | .attendBwdQ c st => some (opBwd 2, c, st)
  | .kvAppend c st => some (opAppend, c, st)
  | .attach c st => some (opLookup 0, c, st)
  | .releaseChannel c st => some (opLookup 1, c, st)
  | .kvFork c st => some (opFork, c, st)
  | .sliceSend c st => some (opSlices false, c, st)
  | .reduce c st => some (opSlices true, c, st)
  | .update c st => some (opUpdate false, c, st)
  | .materialise c st => some (opUpdate true, c, st)
  | .marker c st => some (opMarker, c, st)
  | .barrier c st => some (opBarrier, c, st)
  | .queueRead c st => some (opRead false, c, st)
  | .corePush c st => some (opRead true, c, st)
  | .queueMark c st => some (opIndex 0x39, c, st)
  | .queueRewind c st => some (opIndex 0x3A, c, st)
  | .queueRelease c st => some (opIndex 0x3B, c, st)
  | _ => none

/-- A stream's sequence number for its next macro-instruction. -/
def nextSeq (s : State) (c : Nat) (st : Strm) : Nat := s.fget F.NDL_STREAM_SEQ_SEQ (strmIx c st) + 1

/-- A macro-instruction that one core runs by itself. -/
def coreScoped (o : OpSpec) (m : List Byte) : Bool := miScope m || o.own

/-- Macro-instruction m stands at the head of a stream that may issue, and the operation is its own, or nobody's. -/
def standsAt (o : OpSpec) (s : State) (c : Nat) (st : Strm) (p : Nat) (m : List Byte) : Prop :=
  s.ownerOf c = some p ∧ mayIssue s p c st = true ∧ m = s.miAt p st (s.pc c st) ∧
  (o.mine m = true ∨ opStreams (miOpcode m) = [])

/-- It stands there with no wait open and the slot of its sequence number free. -/
def atHead (o : OpSpec) (s : State) (c : Nat) (st : Strm) (p : Nat) (m : List Byte) : Prop :=
  standsAt o s c st p m ∧ openWaits s c st m = 0 ∧ (coreScoped o m = true ∨ slotFree s p st (nextSeq s c st) = true)

/-- Its checks pass and nothing else keeps it waiting. -/
def enters (o : OpSpec) (s : State) (c : Nat) (st : Strm) (p : Nat) (m : List Byte) : Prop :=
  atHead o s c st p m ∧ o.mine m = true ∧ rejectCause o s p c st m = 0 ∧ o.ready s p c m = true ∧
  (remoteDevs m).length ≤ (freeTags s (remoteDevs m).length).length

/-- No other core of the panel has issued it. -/
def isFirst (o : OpSpec) (s : State) (c : Nat) (st : Strm) (p : Nat) (m : List Byte) : Prop :=
  coreScoped o m = true ∨
  ∀ f ∈ s.flights, ¬(f.panel = p ∧ f.strm = st ∧ f.core = none ∧ f.seq = nextSeq s c st % 2 ^ 32)

/-- The macro-instruction in flight that its first core makes of it. -/
def newFlight (o : OpSpec) (s : State) (c : Nat) (st : Strm) (p : Nat) (m : List Byte) : Flight :=
  { id := s.freshId, panel := p, strm := st, core := if coreScoped o m then some c else none
    seq := nextSeq s c st % 2 ^ 32, pc := s.pc c st, mi := m
    plan := o.plan s (if coreScoped o m then 1 else (s.logicals p).length) m
    shape := shapeOf s c st m (o.planned s m), next := 0, claims := [], issued := [c], ended := [], parts := []
    results := []
    tags := (remoteDevs m).zip ((freeTags s (remoteDevs m).length).zip ((remoteDevs m).map fun _ => 0))
    step := s.fget F.HUB_STEP_NUM_S p, micro := 0, bank := bankMask s, chans := [], waiting := false, done := false }

/-! Units of operations other than products. -/

/-- Run-time entries of a walking operation other than a product; it walks when none of them is 0 (R194). -/
def liveEntries (s : State) (m : List Byte) : List Nat :=
  match miOpcode m with
  | 0x18 | 0x19 => [1]
  | 0x08 => if isPool s m then [1, 3, 4] else [0, 1, 3, 4]
  | 0x09 => if bwPhase m = 0 then [1, 3, 4] else [0, 1, 3, 4]
  | _ => [0, 1, 3, 4]

/-- Codes put into tensors one after another, and whether each write was OK (R295, R302). -/
def putAll (s : State) (l : List (Nat × List Put)) : State × Bool :=
  l.foldl (fun x y => let z := x.1.put y.1 y.2; (z.1, x.2 && z.2 == rsOk)) (s, true)

/-- Flight and unit of each record. -/
def unitKeys (l : List UnitRec) : List (Nat × Nat) := l.map fun u => (u.flight, u.unit)
end Sys2Proof
end

