-- ==== Sys2Proof/Certificates/Slice0/Obligations.lean ====
section
/-! DEFINITION. The statements for the provers. Each docstring names the rules it formalises; the facts are about the next
state the command answers. -/
open Sys2Proof Sys2Proof.Machine

/-! The machine as a whole. -/

/-- A step takes the command at the front of the queue and answers what exec answers on the queue's rest. -/
def Obligations.StepRunsFrontCommand : Prop :=
  ∀ (c : Instr) (rest : List Instr) (s : State), s.pending = c :: rest → step s = exec c { s with pending := rest }

/-- On an empty queue a step is one tick of every interval counter, a 64-bit count (R31; that time passes on an empty queue
is the model's choice, log entry 1, and so is that the dispatcher then moves an item, log entry 173), and the answer keeps the
queue empty. -/
def Obligations.EmptyQueueTicks : Prop :=
  ∀ (s : State), s.pending = [] → ∃ t, step s = .next t ∧ t.pending = [] ∧
    (∀ d, d < 11 → t.icnt d = (s.icnt d + 1) % 2 ^ 64)

/-- No step faults or refuses: it answers a next state whose queue is the rest of the queue. -/
def Obligations.EveryStepAnswers : Prop :=
  ∀ (s : State), ∃ t, step s = .next t ∧ t.pending = s.pending.tail

/-- Every step keeps the register file and both memories in their one canonical form. -/
def Obligations.StepKeepsCanonicalForm : Prop :=
  ∀ (s t : State), canonical s → step s = .next t → canonical t

/-- After every step ATTN_N is asserted while its condition holds (R392). -/
def Obligations.StepDrivesAttention : Prop :=
  ∀ (s t : State), step s = .next t → attnDriven t

/-- The reset state is canonical, its queue is empty, and ATTN_N is not asserted: no group is active. -/
def Obligations.ResetIsSound : Prop :=
  canonical State.reset ∧ State.reset.pending = [] ∧ attnDriven State.reset ∧ State.reset.pins.attnLow = false

/-- What reset leaves: every register copy at its reset value, no pattern, no panel, empty queues and buffers, memories
with nothing listed, start-up in its first phase with RESET_N low (R15, R467). -/
def Obligations.ResetState : Prop :=
  (∀ r i, State.reset.rd r i = regDefault (regKey r i)) ∧ State.reset.fget F.HUB_BOOT_STATUS_PHASE 0 = 0 ∧
  State.reset.pins.resetLow = true ∧ State.reset.load.busy = false ∧
  (∀ p, p < 64 → State.reset.pstate p = psEmpty ∧ State.reset.secsOf p = none) ∧
  (∀ c st, c < 1056 → State.reset.sstate c st = stIdle ∧ State.reset.core c = noCore) ∧
  (∀ q, q < 256 → State.reset.queue q = noQueue) ∧ (∀ a, memGet State.reset.dram a = 0 ∧ memGet State.reset.tens a = 0)

/-- Which registers a command may write: all others, in every copy, are as before. The list of each command is mayWrite. -/
def Obligations.CommandFrameRegisters : Prop :=
  ∀ (i : Instr) (s t : State), exec i s = .next t → anyRegister i = false → Frame (mayWrite i) s t

/-- Which other parts of State a command may change; mayTouch lists them. Every other part, the memories among them, is as
before, byte by byte. -/
def Obligations.CommandFrameParts : Prop :=
  ∀ (i : Instr) (s t : State), exec i s = .next t → FrameParts (mayTouch i) s t

/-! Registers and dies. -/

/-- R10: a write narrower than 32 bits or not aligned changes no register but those of the input check, where it counts as
out of range with its offset and its agent. -/
def Obligations.NarrowOrUnalignedWrite : Prop :=
  ∀ (a : Agent) (off : BitVec 29) (w hw : Word) (width : Nat) (s : State), Allowed a off.toNat s →
    (width ≠ 32 ∨ off.toNat % 4 ≠ 0) → ∃ t, exec (.registerWrite a off w width hw) s = .next t ∧
      t.fget F.HUB_INCHK_COUNTS_RANGE 0 = min (2 ^ F.HUB_INCHK_COUNTS_RANGE.width - 1) (s.fget F.HUB_INCHK_COUNTS_RANGE 0 + 1) ∧
      t.fget F.HUB_INCHK_LAST_OFFSET 0 = off.toNat ∧ t.fget F.HUB_INCHK_LAST_AGENT 0 = agentCode a ∧
      bitOf (t.rd .HUB_INCHK_EVENT 0).toNat 0 = true ∧ Frame accessRegs s t ∧ FrameParts [] s t

/-- A write of an ordinary register: every field of the copy takes the word by its access code (R11), RO, WO and RC fields
keep their value, and of the other registers only those of the wake and of a raised vector can change. -/
def Obligations.RegisterWriteTakesFields : Prop :=
  ∀ (a : Agent) (off : BitVec 29) (w : Word) (r : Reg) (i : Nat) (s : State), Allowed a off.toNat s → off.toNat % 4 = 0 →
    ¬(0x03800000 ≤ off.toNat ∧ off.toNat < 0x04000000) → ¬(0x00800000 ≤ off.toNat ∧ off.toNat < 0x00880000) →
    accessAt off.toNat = some (r, i) → ordinary r = true → r ∉ vectorRegs → illegal (woken s off.toNat) r i w.toNat = false →
    ∃ t, exec (.registerWrite a off w 32 0) s = .next t ∧
      (∀ f ∈ r.fields, t.fget f i = fieldAfter f (maskWrite r w).toNat (s.fget f i)) ∧
      (∀ j, j ≠ i → t.rd r j = s.rd r j) ∧ Frame (r :: vectorRegs) s t ∧ FrameParts [] s t

/-- It comes from a host of this master. -/
def fromHostPort (s : State) (p : Nat) : Bool := s.isMaster && s.fget F.LNK_STATUS_ROLE p == roleHost

/-- A packet as this device takes it: a master overwrites the identity of its hosts' packets, every other hop counts (R384,
R386). -/
def asTaken (s : State) (p : Nat) (q : Packet) : Packet :=
  if fromHostPort s p then
    { q with src := BitVec.ofNat 12 s.ownId, hctx := BitVec.ofNat 3 (s.fget F.LNK_CONFIG_HCTX p), host := true }
  else { q with hops := BitVec.ofNat 4 (min 15 (q.hops.toNat + 1)) }

/-- A port hears a well-formed packet, which a device in operation takes. -/
def accepted (s : State) (p : Nat) (q : Packet) : Prop :=
  portHears s p = true ∧ packetOk q = true ∧ s.bootHalted = false ∧ s.idValid = true ∧ q.typ ≠ 0

/-- It takes a packet that need not wait in its receive buffer (R332). -/
def hears (s : State) (p : Nat) (q : Packet) : Prop := accepted s p q ∧ mustWait s p (asTaken s p q) = false

/-- The packet is for this device itself. -/
def forThis (s : State) (p : Nat) (q : Packet) : Prop :=
  hears s p q ∧ q.dst.toNat = s.ownId ∧ ((asTaken s p q).host && s.isMaster && !fromHostPort s p) = false

/-- R9: a read of the low word of a 64-bit register latches the high word for its requester; the requester's later read of
the high word returns the latched value, and the current one when it has latched none; what other requesters read in between
leaves the latch. A cold or warm reset clears every latch; a panel restart, a steward restart, a tile replay and a step
repeat leave each. -/
def Obligations.LowThenHighRead : Prop :=
  (∀ (a : Agent) (off : BitVec 29) (r h : Reg) (i : Nat) (s : State), ReadAllowed a off.toNat s → off.toNat % 4 = 0 →
    ¬(0x00800000 ≤ off.toNat ∧ off.toNat < 0x00880000) →
    accessAt off.toNat = some (r, i) → highOf r = some h → ∃ t, exec (.lowWordRead a off) s = .next t ∧
      t.readback = viewReg s r i ∧ latchOf t a h i = some (viewReg s h i)) ∧
  (∀ (a : Agent) (off : BitVec 29) (h : Reg) (i : Nat) (inc : Word) (s : State), ReadAllowed a off.toNat s →
    off.toNat % 4 = 0 → ¬(0x00800000 ≤ off.toNat ∧ off.toNat < 0x00880000) →
    accessAt off.toNat = some (h, i) → isHigh h = true → ∃ t, exec (.rcRead a off inc) s = .next t ∧
      (∀ v, latchOf s a h i = some v → t.readback = v ∧ latchOf t a h i = some v) ∧
      (latchOf s a h i = none → t.readback = viewReg s h i)) ∧
  (∀ (a b : Agent) (off : BitVec 29) (h : Reg) (i : Nat) (s t : State), requester b ≠ requester a →
    exec (.lowWordRead b off) s = .next t → latchOf t a h i = latchOf s a h i) ∧
  (∀ s : State, ∃ t, exec .coldReset s = .next t ∧ t.latches = []) ∧
  (∀ (p : Fin 16) (pkt : Packet) (s : State), forThis s p { pkt with typ := 0x24 } →
    (asTaken s p { pkt with typ := 0x24 }).host = true ∨ (asTaken s p { pkt with typ := 0x24 }).src.toNat = s.masterId →
    s.fget F.HUB_BOOT_STATUS_PHASE 0 = 4 → ∃ t, exec (.warmReset p pkt) s = .next t ∧ t.latches = []) ∧
  (∀ (a : Agent) (p : Fin 64) (k : Fin 6) (c : Fin 1056) (st : Strm) (o : VoteOutcome) (chk : UnitCheck) (w : Word) (s : State),
    ∀ i ∈ [Instr.panelStart a p w, .panelStarted p, .autoRemapStart p, .stewardStart a k w, .stewardRestart a k w,
        .autoRestart k, .skeinFetch c st, .unitComplete c st chk, .voteRelease p o],
      ∃ t, exec i s = .next t ∧ t.latches = s.latches)

/-- R13: a read of an RC counter in the instant of an increment returns the value before it and leaves the increment. What a
parked core has latched, which a read of its VEC_COUNTS wakes, would count on top: the last hypothesis. -/
def Obligations.ReadClearKeepsIncrement : Prop :=
  ∀ (a : Agent) (off : BitVec 29) (inc : Word) (r : Reg) (i : Nat) (s : State), ReadAllowed a off.toNat s →
    off.toNat % 4 = 0 → ¬(0x00800000 ≤ off.toNat ∧ off.toNat < 0x00880000) →
    accessAt off.toNat = some (r, i) → (∃ f ∈ r.fields, f.acc = .rc) → (r = .VEC_COUNTS → s.rd .VEC_LATCH i = 0) →
    ∃ t, exec (.rcRead a off inc) s = .next t ∧ t.readback = viewReg s r i ∧
      ∀ f ∈ r.fields, f.acc = .rc → t.fget f i = bits inc.toNat f.lsb f.width

/-- The commands of a die: a core parks when every condition of R498 holds; the end of a window stores its beats; the drift
check marks every die that deviates by more than 5 % (R33), and does nothing while REFCLK is missing (R492). -/
def Obligations.DieCommands : Prop :=
  (∀ (c : Fin 1056) (s : State), mayPark s c = true → ∃ t, exec (.corePark c) s = .next t ∧
    t.fget F.CORE_STATUS_PARKED c = 1 ∧ (∀ f i, f.reg ≠ .CORE_STATUS ∨ i ≠ c.val → t.fget f i = s.fget f i) ∧
    FrameParts [] s t) ∧
  (∀ (d : Fin 2) (beats : BitVec 16) (s : State), ∃ t, exec (.dieBeatWindowEnd d beats) s = .next t ∧
    t.fget F.DIE_BEAT_BEATS (1 + d.val) = beats.toNat ∧ FrameParts [] s t) ∧
  (∀ (ticks : List Nat) (s : State), s.power.refclkLost = false → ∃ t, exec (.driftCheck ticks) s = .next t ∧
    ∀ d, d < 11 → t.fbit F.ICNT_STATUS_DRIFT d =
      (s.fbit F.ICNT_STATUS_DRIFT d || !(475000 ≤ ticks.getD d 500000 && ticks.getD d 500000 ≤ 525000))) ∧
  (∀ (ticks : List Nat) (s : State), s.power.refclkLost = true → ∃ t, exec (.driftCheck ticks) s = .next t ∧
    Frame [] s t ∧ FrameParts [] s t)

/-! Patterns and panels. -/

/-- The context of a load that an agent starts now. -/
def loadStarted (s : State) (a : Agent) (isPart : Bool) : State :=
  { s with load := ⟨true, isPart, s.fget F.PAT_LOAD_ADDR_LO_ADDR_LO 0 * 2 ^ 21 + s.fget F.PAT_LOAD_ADDR_HI_ADDR_HI 0 * 2 ^ 32,
    s.fget F.PAT_LOAD_LEN_BYTES 0, 64, match a with | .link p _ _ _ => some p.val | _ => none, 0, false, false, none⟩ }

/-- LOAD and LOAD_PARTIAL with no load in progress, start-up ended and the buffer in a fixed region: the load is in
progress, LOADER reads CHECKING, and a partial load takes its STOPPED panel to LOADING (R48, R63, R65). Before READY, or
while a load is in progress, the command has no effect and counts BAD_CMD (R65, R468). -/
def Obligations.LoadStarts : Prop :=
  (∀ (a : Agent) (w : Word) (s : State), Allowed a 0x00010000 s → (w ||| 1).toNat % 8 = 1 → s.load.busy = false →
    s.fget F.HUB_BOOT_STATUS_PHASE 0 = 4 → s.inFixed (loadStarted s a false).load.addr (loadStarted s a false).load.len = true →
    headerOk (loadStarted s a false) = true →
    ∃ t, exec (.load a w) s = .next t ∧ t.load = (loadStarted s a false).load ∧ t.fget F.PAT_STATUS_LOADER 0 = 1 ∧
      (∀ g ∈ Reg.PAT_STATUS.fields, g ≠ F.PAT_STATUS_LOADER → t.fget g 0 = s.fget g 0) ∧
      Frame [.PAT_STATUS] s t ∧ FrameParts [.load] s t) ∧
  (∀ (a : Agent) (w : Word) (s : State), Allowed a 0x00010000 s → (w ||| 2).toNat % 8 = 2 → s.load.busy = false →
    s.fget F.HUB_BOOT_STATUS_PHASE 0 = 4 → s.inFixed (loadStarted s a true).load.addr (loadStarted s a true).load.len = true →
    headerOk (loadStarted s a true) = true → s.pstate (patWord (loadStarted s a true) 16 1) = psStopped →
    ∃ t, exec (.loadPartial a w) s = .next t ∧ t.load.busy = true ∧ t.load.isPart = true ∧
      t.load.panel = patWord (loadStarted s a true) 16 1 ∧ t.load.stage = 0 ∧ t.fget F.PAT_STATUS_LOADER 0 = 1 ∧
      t.pstate (patWord (loadStarted s a true) 16 1) = psLoading ∧
      Frame [.PAT_STATUS, .PAT_PANEL_STATUS] s t ∧ FrameParts [.load] s t) ∧
  (∀ (a : Agent) (w : Word) (s : State), Allowed a 0x00010000 s → (s.fget F.HUB_BOOT_STATUS_PHASE 0 ≠ 4 ∨ s.load.busy = true) →
      ((w ||| 1).toNat % 8 = 1 → ∃ t, exec (.load a w) s = .next t ∧
        t.fget F.PAT_COUNTS_BAD_CMD 0 = min (2 ^ F.PAT_COUNTS_BAD_CMD.width - 1) (s.fget F.PAT_COUNTS_BAD_CMD 0 + 1) ∧
        Frame [.PAT_COUNTS] s t ∧ FrameParts [] s t) ∧
      ((w ||| 2).toNat % 8 = 2 → ∃ t, exec (.loadPartial a w) s = .next t ∧
        t.fget F.PAT_COUNTS_BAD_CMD 0 = min (2 ^ F.PAT_COUNTS_BAD_CMD.width - 1) (s.fget F.PAT_COUNTS_BAD_CMD 0 + 1) ∧
        Frame [.PAT_COUNTS] s t ∧ FrameParts [] s t))

/-- A load that ends with a code: DONE and FAILED set, ERROR holds the code, LOADER IDLE, no load in progress, and nothing
else of the device or of a panel is changed: only the status words and the sources that tell of the end (R48). -/
def loadFailed (code : Nat) (s t : State) : Prop :=
  t.fget F.PAT_STATUS_ERROR 0 = code ∧ t.fget F.PAT_STATUS_DONE 0 = 1 ∧ t.fget F.PAT_STATUS_FAILED 0 = 1 ∧
  t.fget F.PAT_STATUS_LOADER 0 = 0 ∧ t.load = noLoad ∧
  Frame [.PAT_STATUS, .PAT_PANEL_STATUS, .SEC_EVENT, .CLM_MERGED, .CLM_SRC] s t ∧ FrameParts [.load] s t

/-- The steps of a load (R48, R49, R65): each passes to the next stage or ends the load with its code; ABORT ends it with
code 0x10 before it applies. -/
def Obligations.LoadSteps : Prop :=
  (∀ (a : Agent) (w : Word) (s : State), Allowed a 0x00010000 s → (w ||| 4).toNat % 8 = 4 → s.load.busy = true →
    s.load.stage < 3 → ∃ t, exec (.abort a w) s = .next t ∧ loadFailed 0x10 s t) ∧
  (∀ (s : State), s.load.busy = true → s.load.stage = 0 → badAmong s.badPhys s.load.addr s.load.len = [] →
    (digestOk s = true → ∃ t, exec .digestChecked s = .next t ∧
      t.load = { s.load with stage := if s.sec.key.isSome then 1 else 2 } ∧ Frame [] s t ∧ FrameParts [.load] s t) ∧
    (digestOk s = false → ∃ t, exec .digestChecked s = .next t ∧ loadFailed 3 s t)) ∧
  (∀ (s : State) (k : List Byte), s.load.busy = true → s.load.stage = 1 → s.sec.key = some k →
    (bitOf (patWord s 6 2) 1 = false → ∃ t, exec .signatureChecked s = .next t ∧ loadFailed 4 s t) ∧
    (bitOf (patWord s 6 2) 1 = true → signatureOk s k = false → ∃ t, exec .signatureChecked s = .next t ∧ loadFailed 5 s t) ∧
    (bitOf (patWord s 6 2) 1 = true → signatureOk s k = true → ∃ t, exec .signatureChecked s = .next t ∧
      t.load = { s.load with stage := 2, sig := true } ∧ Frame [] s t ∧ FrameParts [.load] s t)) ∧
  (∀ (s : State) (img : PatternImage), s.load.busy = true → s.load.stage = 2 →
    (structuralError s img = 0 → ∃ t, exec (.structuralChecksDone img) s = .next t ∧
      t.load = { s.load with stage := 3, img := some img } ∧ t.fget F.PAT_STATUS_LOADER 0 = 2 ∧
      Frame [.PAT_STATUS] s t ∧ FrameParts [.load] s t) ∧
    (structuralError s img ≠ 0 → ∃ t, exec (.structuralChecksDone img) s = .next t ∧ loadFailed (structuralError s img) s t))

/-- The end of a load that applies: DONE without error, the load counted in PAT_GENERATION, its digest in PAT_DIGEST, and
PAT_STATUS.SIGNED says whether its signature was verified (R49). While accepted pushes of a queue that it changes have not landed,
the load waits, and those queues that ran are STOPPING (R364). -/
def Obligations.LoadApplies : Prop :=
  ∀ (s : State) (img : PatternImage), s.load.busy = true → s.load.stage = 3 → s.load.img = some img →
    (stoppingQueues s img = [] → ∃ t, exec .loadApplied s = .next t ∧ t.load = noLoad ∧
      t.fget F.PAT_STATUS_DONE 0 = 1 ∧ t.fget F.PAT_STATUS_ERROR 0 = 0 ∧ t.fget F.PAT_STATUS_LOADER 0 = 0 ∧
      t.fget F.PAT_STATUS_SIGNED 0 = b2n s.load.sig ∧
      t.fget F.PAT_GENERATION_LOADS 0 = (s.fget F.PAT_GENERATION_LOADS 0 + 1) % 2 ^ F.PAT_GENERATION_LOADS.width ∧
      (∀ i, i < 8 → t.rd .PAT_DIGEST i = BitVec.ofNat 32 (leAt (patDigest s) (4 * i) 4))) ∧
    (stoppingQueues s img ≠ [] → ∃ t, exec .loadApplied s = .next t ∧ t.load = s.load ∧
      (∀ q, t.qstate q = if q ∈ stoppingQueues s img ∧ s.qstate q = qsRunning then qsStopping else s.qstate q) ∧
      Frame [.Q_STATUS] s t ∧ FrameParts [] s t)

/-- START of a STOPPED panel whose cores all find a place: STARTING with no cause, every placed core with its 64 markers
clear (R61), its macro-instructions gone; and STARTING goes to RUNNING, a training panel's step to COMPUTING (R63, R290).
Without a place for a core the panel stays STOPPED with CAUSE 0x0F (R52, R64). STOP of a RUNNING panel leaves it STOPPING, or STOPPED at once when its step is PAUSED (R56, R287); FORCE outside
VOTING, the drain's end and a drain timeout leave it STOPPED with STOP_DONE set (R56, R58, R64). A fault held against the step that a
training panel starts with aborts it as it begins (R443). -/
def Obligations.PanelsStartAndStop : Prop :=
  (∀ (a : Agent) (p : Fin 64) (w : Word) (s : State) (m : List (Nat × Nat)), Allowed a (patPanelOff p) s →
    (w ||| 2).toNat % 8 = 2 → s.pstate p = psStopped →
    buildMap (s.fset F.PAT_PANEL_CTRL_STOP_MODE p (b2n (bitOf (w ||| 2).toNat 3))) p = some m →
    ∃ t, exec (.panelStart a p w) s = .next t ∧ t.pstate p = psStarting ∧ t.fget F.PAT_PANEL_STATUS_CAUSE p = 0 ∧
      t.fget F.PAT_PANEL_STATUS_FORCED p = 0 ∧ (∀ x ∈ m, t.rd .MK_STATE_LO x.2 = 0 ∧ t.rd .MK_STATE_HI x.2 = 0) ∧
      (∀ f ∈ t.flights, f.panel ≠ p.val)) ∧
  (∀ (a : Agent) (p : Fin 64) (w : Word) (s : State), Allowed a (patPanelOff p) s →
    (w ||| 2).toNat % 8 = 2 → s.pstate p = psStopped →
    buildMap (s.fset F.PAT_PANEL_CTRL_STOP_MODE p (b2n (bitOf (w ||| 2).toNat 3))) p = none →
    ∃ t, exec (.panelStart a p w) s = .next t ∧ t.pstate p = psStopped ∧ t.fget F.PAT_PANEL_STATUS_CAUSE p = 0x0F ∧
      t.fget F.PAT_PANEL_STATUS_STOP_DONE p = 1 ∧ t.fget F.PAT_PANEL_STATUS_FORCED p = 0) ∧
  (∀ (p : Fin 64) (s : State) (m : List (Nat × Nat)), s.pstate p = psStopped → (s.panel p).remapStart = true →
    buildMap (s.setPanel p { s.panel p with remapStart := false }) p = some m →
    ∃ t, exec (.autoRemapStart p) s = .next t ∧ t.pstate p = psStarting ∧
      (∀ x ∈ m, t.rd .MK_STATE_LO x.2 = 0 ∧ t.rd .MK_STATE_HI x.2 = 0)) ∧
  (∀ (p : Fin 64) (s : State), s.pstate p = psStarting → ∃ t, exec (.panelStarted p) s = .next t ∧
    t.pstate p = psRunning ∧ (s.isInference p = false → t.vstate p = vsComputing) ∧
    (s.isInference p = false → (s.panel p).nextFault = some (s.fget F.HUB_STEP_NUM_S p) →
      (t.panel p).fault = true ∧ (t.panel p).aborting = true ∧ (t.panel p).nextFault = none)) ∧
  (∀ (a : Agent) (p : Fin 64) (w : Word) (s : State), Allowed a (patPanelOff p) s → (w ||| 1).toNat % 8 = 1 →
    s.pstate p = psRunning → ∃ t, exec (.panelStop a p w) s = .next t ∧
      (¬(s.isInference p = false ∧ s.vstate p = vsPaused) → t.pstate p = psStopping ∧ (t.panel p).mode1 = bitOf (w ||| 1).toNat 3) ∧
      (s.isInference p = false → s.vstate p = vsPaused → t.pstate p = psStopped ∧ t.fget F.PAT_PANEL_STATUS_STOP_DONE p = 1)) ∧
  (∀ (a : Agent) (p : Fin 64) (w : Word) (s : State), Allowed a (patPanelOff p) s → (w ||| 4).toNat % 8 = 4 →
    (s.pstate p = psRunning ∨ s.pstate p = psStopping) → ¬(s.isInference p = false ∧ s.vstate p = vsVoting) →
    ∃ t, exec (.panelForce a p w) s = .next t ∧ t.pstate p = psStopped ∧ t.fget F.PAT_PANEL_STATUS_STOP_DONE p = 1 ∧
      t.fget F.PAT_PANEL_STATUS_FORCED p = 1) ∧
  (∀ (p : Fin 64) (s : State), s.pstate p = psStopping → ¬(s.isInference p = false ∧ s.vstate p = vsVoting) →
    drained s p = true → allIdle s p = true → ∃ t, exec (.panelDrained p) s = .next t ∧ t.pstate p = psStopped ∧
      t.fget F.PAT_PANEL_STATUS_STOP_DONE p = 1) ∧
  (∀ (p : Fin 64) (s : State), s.pstate p = psStopping → (s.panel p).mode1 = false →
    ¬(s.isInference p = false ∧ s.vstate p = vsVoting) → ∃ t, exec (.panelDrainTimeout p) s = .next t ∧
      t.pstate p = psStopped ∧ t.fget F.PAT_PANEL_STATUS_FORCED p = 1 ∧ t.fget F.PAT_PANEL_STATUS_STOP_DONE p = 1)

/-! Streams: every issuing command (issuer lists them with their operations). -/

/-- R180, R213: while a wait of the macro-instruction at its head is open, the stream stays in WAIT; with no wait open, a taken
slot, a missing fence tag or another condition of the operation holds it in SLOT_WAIT. Nothing else changes, but that the
core is awake. -/
def Obligations.StreamsWait : Prop :=
  ∀ (i : Instr) (o : OpSpec) (c : Nat) (st : Strm) (s : State) (p : Nat) (m : List Byte), issuer i = some (o, c, st) →
    (standsAt o s c st p m → openWaits s c st m ≠ 0 → ∃ t, exec i s = .next t ∧ t.sstate c st = stWait ∧
      (∀ g ∈ Reg.NDL_STREAM_STATUS.fields, ∀ j, g ≠ F.NDL_STREAM_STATUS_STATE ∨ j ≠ strmIx c st → t.fget g j = s.fget g j) ∧
      Frame [.NDL_STREAM_STATUS, .CORE_STATUS, .VEC_PEND, .VEC_COUNTS, .VEC_LATCH] s t ∧ FrameParts [] s t) ∧
    (standsAt o s c st p m → openWaits s c st m = 0 →
      (coreScoped o m = false ∧ slotFree s p st (nextSeq s c st) = false) ∨
        (rejectCause o s p c st m = 0 ∧
          (o.ready s p c m = false ∨ (freeTags s (remoteDevs m).length).length < (remoteDevs m).length)) →
      ∃ t, exec i s = .next t ∧ t.sstate c st = stSlot ∧
      (∀ g ∈ Reg.NDL_STREAM_STATUS.fields, ∀ j, g ≠ F.NDL_STREAM_STATUS_STATE ∨ j ≠ strmIx c st → t.fget g j = s.fget g j) ∧
      Frame [.NDL_STREAM_STATUS, .CORE_STATUS, .VEC_PEND, .VEC_COUNTS, .VEC_LATCH] s t ∧ FrameParts [] s t)

/-- R196, R197: a macro-instruction that fails a check enters no slot and starts nothing: its stream goes to HALTED with the
cause of the first failing check and the stream's event bit, its index and sequence number stay, and no flight, tensor,
queue, channel or window changes; its waits have consumed their markers (R325). -/
def Obligations.StreamsHalt : Prop :=
  ∀ (i : Instr) (o : OpSpec) (c : Nat) (st : Strm) (s : State) (p : Nat) (m : List Byte), issuer i = some (o, c, st) →
    atHead o s c st p m → rejectCause o s p c st m ≠ 0 → ∃ t, exec i s = .next t ∧ t.sstate c st = stHalted ∧
      t.fget F.NDL_STREAM_STATUS_CAUSE (strmIx c st) =
        rejectCause o s p c st m % 2 ^ F.NDL_STREAM_STATUS_CAUSE.width ∧
      bitOf (t.rd .NDL_EVENT c).toNat (strmNo st) = true ∧
      (∀ k, k < 4 → waitValid (miWait m k) = true → waitClear (miWait m k) = true →
        markerOn t c (waitIndex (miWait m k)) = false) ∧
      Frame ([.NDL_STREAM_STATUS, .NDL_EVENT, .MK_STATE_LO, .MK_STATE_HI] ++ vectorRegs) s t ∧ FrameParts [.cores] s t

/-- The products enter: the first core makes the macro-instruction in flight with its plan (R200, R501) and run-time shape
(R193), a MATMUL_TDW numbered among the products of its window (R262), and the stream walks; another core joins it. -/
def Obligations.ProductsEnter : Prop :=
  ∀ (c : Fin 1056) (st : Strm) (op : Nat) (i : Instr), (op, i) ∈ [(opG, Instr.matmulG c st), (opT, .matmulT c st),
      (opTdx, .matmulTdx c st), (opTdw, .matmulTdw c st)] →
    ∀ (s : State) (p : Nat) (m : List Byte), enters (opProduct op) s c st p m →
      (∀ k, k < 5 → (shapeOf s c st m (productPlanned s m)).getD k 0 ≠ 0) →
      (isFirst (opProduct op) s c st p m → ∃ t, exec i s = .next t ∧
        t.flights = s.flights ++ [{ newFlight (opProduct op) s c st p m with
          micro := if op = opTdw then ((s.micros.find? (·.1 == hHandle (miDst m))).map (·.2)).getD 0 else 0 }] ∧
        t.sstate c st = stWalk ∧ ((t.core c).stream st).flight = some s.freshId ∧
        (miScope m = false → t.fget F.NDL_STREAM_SEQ_SEQ (strmIx c st) = nextSeq s c st % 2 ^ 32)) ∧
      (∀ f, miScope m = false → s.flight f.id = some f → f.mi = m → f.shape = shapeOf s c st m (productPlanned s m) →
        (s.flights.find? fun g => g.panel == p && g.strm == st && g.core.isNone && g.seq == nextSeq s c st % 2 ^ 32) = some f →
        ∃ t, exec i s = .next t ∧
          t.flights = updWhere (·.id == f.id) (fun g => { g with issued := addTo g.issued c }) s.flights ∧
          t.sstate c st = stWalk ∧ ((t.core c).stream st).flight = some f.id)

/-- Every page of the skein area that a unit's claim bit (and its partial) needs is there, or finds room (R207, R299). -/
def skeinRoom (s : State) (f : Flight) (t : Nat) (part : Bool) : Bool :=
  ((skeinPages f t part).foldl (fun (x : State × Bool) i =>
    let y := x.1.ensureArea f.panel (skeinArea f.panel) i; (y.1, x.2 && y.2)) (s, true)).2

/-- The state in which a unit of an operation other than a product computes: a pool ATTEND looks at its channel first. -/
def unitSees (s : State) (c : Nat) (f : Flight) (t : Nat) : State :=
  if miOpcode f.mi = 0x08 then attChannel s c f (unitSpot s f t) else s

/-- What it gives: the writes, reads and counts of its rows (R83, R158, R187, R188, R222, R226 to R228, R313). -/
def unitGives (s : State) (c : Nat) (f : Flight) (t : Nat) : UnitOut := unitOut (unitSees s c f t) f (unitSpot s f t)

/-- The state in which it is claimed: its reads and its events are counted. -/
def unitCounted (s : State) (c : Nat) (f : Flight) (t : Nat) : State :=
  (unitGives s c f t).tally.foldl (State.tally c f.panel f.id t) ((unitGives s c f t).touch (unitSees s c f t) c)

/-- What a second delivery of the unit is compared with. -/
def unitWords (o : UnitOut) : List Word := o.puts.flatMap fun y => y.2.map fun z => BitVec.ofNat 32 z.2.2

/-- Conversions, VECTOR, GATHER, SCATTER, ATTEND and ATTEND_BWD: the first core makes the macro-instruction in flight and its
stream walks (R203); an empty run-time shape completes at once (R194). A unit that its array has run is delivered under its
claim bit (R207): every code of its writes lands in its tensor, and a second delivery of it writes nothing (R208). -/
def Obligations.WholeTensorCommands : Prop :=
  (∀ (i : Instr) (o : OpSpec) (c : Nat) (st : Strm) (s : State) (p : Nat) (m : List Byte), issuer i = some (o, c, st) →
    enters o s c st p m → isFirst o s c st p m → Machine.walks (miOpcode m) = true → isProduct (miOpcode m) = false →
    ((∀ k ∈ liveEntries s m, shp (newFlight o s c st p m) k ≠ 0) → ∃ t, exec i s = .next t ∧ t.tens = s.tens ∧
      t.sstate c st = stWalk ∧ ((t.core c).stream st).flight = some s.freshId ∧
      (∃ g ∈ t.flights, g.id = s.freshId ∧ g.mi = m ∧ g.plan = (newFlight o s c st p m).plan ∧
        g.shape = (newFlight o s c st p m).shape ∧ g.next = 0 ∧ g.claims = []) ∧
      (¬(miOpcode m = 0x08 ∧ isPool s m = true) → t.flights = s.flights ++ [newFlight o s c st p m])) ∧
    ((∃ k ∈ liveEntries s m, shp (newFlight o s c st p m) k = 0) → ∃ t, exec i s = .next t ∧ t.tens = s.tens ∧
      ((t.core c).stream st).flight = none ∧ ∀ g ∈ t.flights, g.id = s.freshId → g.done = true)) ∧
  (∀ (c : Fin 1056) (st : Strm) (s : State) (f : Flight) (r : UnitRec), runningUnit (pumpArrays s c) c st = some r →
    s.flight r.flight = some f → isProduct (miOpcode f.mi) = false →
    (unitGives s c f r.unit).bad (unitSees s c f r.unit) = none →
    (r.unit ∉ f.claims → skeinRoom (unitCounted s c f r.unit) f r.unit false = true →
      ∀ v, v = claim (unitCounted s c f r.unit) f r.unit (unitWords (unitGives s c f r.unit)) →
      (putAll v (unitGives s c f r.unit).puts).2 = true → ∃ t, exec (.unitComplete c st .pass) s = .next t ∧
        t.tens = (putAll v (unitGives s c f r.unit).puts).1.tens ∧ (∃ g ∈ t.flights, g.id = f.id ∧ r.unit ∈ g.claims) ∧
        unitKeys ((t.core c).stream st).units =
          unitKeys ((((pumpArrays s c).core c).stream st).units.filter (· != r))) ∧
    (r.unit ∈ f.claims → ∃ t, exec (.unitComplete c st .pass) s = .next t ∧ t.tens = s.tens ∧
      (firstResult f r.unit = unitWords (unitGives s c f r.unit) → t.flights = s.flights ∧
        t.fget F.NDL_DUP_MATCH c = min (2 ^ F.NDL_DUP_MATCH.width - 1) (s.fget F.NDL_DUP_MATCH c + 1))))

/-- R187, R188: element and row functions of VECTOR, at row j and column i of a unit. Every source value is an FP32 word
(rounded once where it is none); an element function gives its result at each position, a row function reduces the row. -/
def Obligations.VectorElements : Prop :=
  ∀ (s : State) (f : Flight) (x : Spot) (j i : Nat), j < x.r1 - x.r0 → i < x.c1 - x.c0 →
    let at_ := fun (fld col : Nat) => rne32 (sourceAt s f fld (x.c0 + col) (x.r0 + j) x.f2 x.f3)
    let imm := BitVec.ofNat 32 (miOpx f.mi 4 4)
    let row := (List.range (x.c1 - x.c0)).map (at_ (miSrc f.mi 0))
    let y := ((vectorTile s f x).1.getD j []).getD i 0
    (isRowFn (vecFn f.mi) = false → twoOperands (vecFn f.mi) = true →
      y = (elemFn (vecFn f.mi) imm (at_ (miSrc f.mi 0) i) (at_ (miSrc f.mi 1) i)).1) ∧
    (isRowFn (vecFn f.mi) = false → twoOperands (vecFn f.mi) = false →
      y = (elemFn (vecFn f.mi) imm (at_ (miSrc f.mi 0) i) 0).1) ∧
    (vecFn f.mi = 0x20 → y = (rowSum row).1) ∧ (vecFn f.mi = 0x21 → y = rowMax row) ∧
    (vecFn f.mi = 0x22 → y = fmul (romFn 0x10 (fsub (row.getD i 0) (rowMax row)))
      (romFn 0x12 (rowSum (row.map fun v => romFn 0x10 (fsub v (rowMax row)))).1))

/-! Units, slices and side records. -/

/-- The record of unit t: for a product what staging and the array make of it (R113 to R123, R131 to R137), for another
operation its array alone, as its operands are read when it completes (log entry 25); R204, R212. -/
def unitRecord (s : State) (f : Flight) (t : Nat) (again : Bool) : UnitRec :=
  if isProduct (miOpcode f.mi) then
    let y := if miOpcode f.mi = opG then gauzeUnit s f (spotOf s f t) else tweedUnit s f (spotOf s f t)
    ⟨f.id, t, again, false, y.exact, if y.onTweed then .tweed else .gauze, y.acc, y.cnt⟩
  else ⟨f.id, t, again, arrOf s f == .other, miRef f.mi, arrOf s f, [[]], Cnt.none⟩

/-- Nothing that a product's staging reads of unit t is uncorrectable (R445). -/
def stagesClean (s : State) (f : Flight) (t : Nat) : Prop :=
  isProduct (miOpcode f.mi) = true → unitBad s f (spotOf s f t) = none

/-- The macro-instruction that a stream walks. -/
def walksHere (s : State) (c : Nat) (st : Strm) (f : Flight) : Prop :=
  ((s.core c).stream st).flight = some f.id ∧ s.flight f.id = some f ∧ f.strm = st ∧ Machine.walks (miOpcode f.mi) = true

/-- Records without the arrays that run them. -/
def calm (l : List UnitRec) : List UnitRec := l.map fun u => { u with running := false }

/-- R212: an idle array of a core starts the waiting tile of the stream that least recently started one on it, and holds it
until UNIT_COMPLETE; a running one starts none. A stream that has started none on it comes before those that have (the
model's choice: log entry 158). -/
def arbitrates (s : State) (c : Nat) (a : Arr) : Prop :=
  ((∃ st, ∃ u ∈ ((s.core c).stream st).units, u.arr = a ∧ u.running = true) → pumpArr s c a = s) ∧
  (∀ st, (∀ st', ∀ u ∈ ((s.core c).stream st').units, u.arr = a → u.running = false) →
    (∃ u ∈ ((s.core c).stream st).units, u.waits a = true) →
    (∀ st', st' ≠ st → (∃ u ∈ ((s.core c).stream st').units, u.waits a = true) →
      st' ∈ (s.core c).order a ∧ (st ∉ (s.core c).order a ∨
        ((s.core c).order a).findIdx (· == st) < ((s.core c).order a).findIdx (· == st'))) →
    (∃ u ∈ (((pumpArr s c a).core c).stream st).units, u.arr = a ∧ u.running = true) ∧
    (∀ st', st' ≠ st → (((pumpArr s c a).core c).stream st').units = ((s.core c).stream st').units) ∧
    calm (((pumpArr s c a).core c).stream st).units = calm ((s.core c).stream st).units ∧
    ((pumpArr s c a).core c).order a = ((s.core c).order a).filter (· != st) ++ [st]) ∧
  Frame [] s (pumpArr s c a) ∧ FrameParts [.cores] s (pumpArr s c a)

/-- SKEIN_FETCH: a replay that is due comes first and runs its unit again (R435); else the stream takes the next unit: an
empty one delivers its claim bit alone (R194, R207), another is staged and computed, with at most two recorded (R203,
R204); past the last unit the walk ends on this core and the stream goes on to its next macro-instruction (R203). Fetched units
wait for their array, which takes one at a time (R212). -/
def Obligations.UnitsFetched : Prop :=
  ∀ (c : Fin 1056) (st : Strm) (s : State),
    (∀ a, a ≠ .other → arbitrates s c a) ∧
    (∀ (i : Nat) (u : UnitRec) (f : Flight), ((s.core c).stream st).units.findIdx? (fun u => u.acc.isEmpty) = some i →
      ((s.core c).stream st).units[i]? = some u → s.flight u.flight = some f →
      stagesClean s f u.unit → ∃ t, exec (.skeinFetch c st) s = .next t ∧
        calm ((t.core c).stream st).units = calm (((s.core c).stream st).units.set i (unitRecord s f u.unit true)) ∧
        FrameParts [.cores, .obs, .pages] s t) ∧
    (∀ f : Flight, walksHere s c st f → (∀ u ∈ ((s.core c).stream st).units, u.acc ≠ []) →
      ((s.core c).stream st).units.length < 2 → s.excluded c = false →
      (f.next < f.plan.units → unitEmpty s f (unitSpot s f f.next) = true → skeinRoom s f f.next false = true →
        ∃ t, exec (.skeinFetch c st) s = .next t ∧
        t.flights = updWhere (·.id == f.id) (fun g => { g with next := f.next + 1, claims := addTo g.claims f.next }) s.flights ∧
        Frame [] s t ∧ FrameParts [.flights, .cores, .pages, .badPhys, .badTens, .free] s t) ∧
      (f.next < f.plan.units → unitEmpty s f (unitSpot s f f.next) = false → stagesClean s f f.next →
        ∃ t, exec (.skeinFetch c st) s = .next t ∧
          t.flights = updWhere (·.id == f.id) (fun g => { g with next := f.next + 1 }) s.flights ∧
          calm ((t.core c).stream st).units = calm (((s.core c).stream st).units ++ [unitRecord s f f.next false]) ∧
          FrameParts [.flights, .cores, .obs, .pages] s t) ∧
      (f.plan.units ≤ f.next → ∃ t, exec (.skeinFetch c st) s = .next t ∧
        ((t.core c).stream st).flight = none ∧ (∀ g ∈ t.flights, g.id = f.id → c.val ∈ g.ended) ∧
        (miEnd f.mi = false → ¬(s.pstate f.panel = psStopping ∧ (s.panel f.panel).mode1 = false) →
          t.sstate c st = stWait ∧ t.pc c st = (s.pc c st + 1) % 2 ^ F.NDL_STREAM_PC_INDEX.width) ∧
        Frame [.NDL_STREAM_STATUS, .NDL_STREAM_PC, .CORE_STATUS, .VEC_PEND, .VEC_COUNTS, .VEC_LATCH] s t ∧
        FrameParts [.flights, .cores] s t))

/-- A unit of a product that its array has run (R212), on a core that can drain it (R150). -/
def delivers (s : State) (c : Nat) (st : Strm) (f : Flight) (r : UnitRec) : Prop :=
  runningUnit (pumpArrays s c) c st = some r ∧ s.flight r.flight = some f ∧ isProduct (miOpcode f.mi) = true

/-- The record has left the stream, the others stay. -/
def recordLeft (s t : State) (c : Nat) (st : Strm) (r : UnitRec) : Prop :=
  unitKeys ((t.core c).stream st).units = unitKeys ((((pumpArrays s c).core c).stream st).units.filter (· != r))

/-- What a tile writes into the destination: the array's accumulators drained (R124 to R126, R144) and converted (R148, R158). -/
def tileWrites (s : State) (f : Flight) (x : Spot) (acc : List (List Word)) : Wrote :=
  outputTile s f x (if miOpcode f.mi = opG then (drainG s f x acc).1 else (drainOf s f x acc).2.1)

/-- Accumulators of the segments of a tile, added in segment order (R209). -/
def splitSum (ws : List Word) (parts : List (List Word)) : List Word :=
  parts.foldl (fun a p => (addTiles a p).1) (ws.map fun _ => 0)

/-- What a delivery of a unit is compared by: the codes of its tile, or its partial (R208, R209). -/
def deliveredWords (s : State) (f : Flight) (r : UnitRec) : List Word :=
  if f.plan.split = 1 then codeWords (tileWrites s f (spotOf s f r.unit) r.acc) else r.acc.flatten

/-- The state in which a tile is claimed: the fetches and counts of its drain are made. -/
def tileCounted (s : State) (c : Nat) (f : Flight) (r : UnitRec) (acc : List (List Word)) : State :=
  (drainTile (drainTouch s c f (spotOf s f r.unit)) c f r.unit (spotOf s f r.unit) acc).1

/-- The state after a partial is claimed and kept (R207, R209). -/
def partKept (s : State) (f : Flight) (r : UnitRec) : State :=
  (skeinPut (claim s f r.unit r.acc.flatten) f r.unit true).updFlight f.id fun g =>
    { g with parts := g.parts ++ [(r.unit, r.acc.flatten)] }

/-- The first delivery of a unit that its array's checks pass: the record leaves the stream, NDL_UNITS counts, the unit is
claimed (R207), and its tile is drained, converted and written whole (R148), or kept as a partial until the last segment
of its tile combines them (R209), or sent as a slice with its side record, stalled when its felt has no room (R149, R150). A
second delivery of a claimed unit writes nothing: it counts as a match, or as a mismatch (R208). -/
def Obligations.UnitsDelivered : Prop :=
  (∀ (c : Fin 1056) (st : Strm) (s : State) (f : Flight) (r : UnitRec), delivers s c st f r → r.unit ∉ f.claims →
      ∃ t, exec (.unitComplete c st .pass) s = .next t ∧
        (miOpcode f.mi ≠ opTdw → f.plan.split = 1 → drainBad s f (spotOf s f r.unit) = none →
          skeinRoom (tileCounted s c f r r.acc) f r.unit false = true →
          ∀ w v, w = tileWrites s f (spotOf s f r.unit) r.acc → v = claim (tileCounted s c f r r.acc) f r.unit (codeWords w) →
          (v.put (hHandle (miDst f.mi)) w.puts).2 = rsOk →
          recordLeft s t c st r ∧ t.tens = (v.put (hHandle (miDst f.mi)) w.puts).1.tens ∧
          t.flights = updWhere (·.id == f.id) (fun g => { g with claims := addTo g.claims r.unit, results := g.results ++ [(r.unit, codeWords w)] }) s.flights) ∧
        (miOpcode f.mi ≠ opTdw → f.plan.split ≠ 1 → skeinRoom s f r.unit false = true →
          skeinRoom (claim s f r.unit r.acc.flatten) f r.unit true = true → ∀ parts, parts = (liveSegs f).filterMap (fun j =>
            ((f.parts ++ [(r.unit, r.acc.flatten)]).find? (·.1 == r.unit / f.plan.split * f.plan.split + j)).map (·.2)) →
          (parts.length < (liveSegs f).length →
            recordLeft s t c st r ∧ t.tens = s.tens ∧
            t.flights = updWhere (·.id == f.id) (fun g => { g with claims := addTo g.claims r.unit, results := g.results ++ [(r.unit, r.acc.flatten)], parts := g.parts ++ [(r.unit, r.acc.flatten)] }) s.flights) ∧
          (parts.length = (liveSegs f).length → drainBad (partKept s f r) f (spotOf s f r.unit) = none → ∀ acc v ps,
            acc = rowsOf ((spotOf s f r.unit).c1 - (spotOf s f r.unit).c0) (splitSum r.acc.flatten parts) →
            v = tileCounted (partKept s f r) c f r acc → ps = (tileWrites s f (spotOf s f r.unit) acc).puts →
            (v.put (hHandle (miDst f.mi)) ps).2 = rsOk → t.tens = (v.put (hHandle (miDst f.mi)) ps).1.tens)) ∧
        (miOpcode f.mi = opTdw → ∀ y : Slice, y = ⟨f.panel, hHandle (miDst f.mi), (spotOf s f r.unit).tile,
            tileFelt s f.bank (hHandle (miDst f.mi)) (spotOf s f r.unit).tile, c, st, f.id, r.unit, f.micro, sliceVals r.acc,
            (sideTdw s f (spotOf s f r.unit) r.acc).map fun z => ⟨f.panel, z.1, z.2.1, f.id, z.2.2⟩⟩ →
          recordLeft s t c st r ∧ t.flights = s.flights ∧ t.tens = s.tens ∧
          ((∀ z ∈ s.stalledSlices, z.core ≠ c) → sliceFits s y = true →
            t.slices = s.slices ++ [y] ∧ t.stalledSlices = s.stalledSlices) ∧
          ((∃ z ∈ s.stalledSlices, z.core = c) ∨ sliceFits s y = false →
            t.slices = s.slices ∧ t.stalledSlices = s.stalledSlices ++ [y]))) ∧
  (∀ (c : Fin 1056) (st : Strm) (s : State) (f : Flight) (r : UnitRec), delivers s c st f r → r.unit ∈ f.claims →
      miOpcode f.mi ≠ opTdw → (f.plan.split = 1 → drainBad s f (spotOf s f r.unit) = none) →
      ∃ t, exec (.unitComplete c st .pass) s = .next t ∧ t.tens = s.tens ∧
        (firstResult f r.unit = deliveredWords s f r → t.flights = s.flights ∧ recordLeft s t c st r ∧
          t.fget F.NDL_DUP_MATCH c = min (2 ^ F.NDL_DUP_MATCH.width - 1) (s.fget F.NDL_DUP_MATCH c + 1)) ∧
        (firstResult f r.unit ≠ deliveredWords s f r →
          t.fget F.NDL_DUP_MISMATCH c = min (2 ^ F.NDL_DUP_MISMATCH.width - 1) (s.fget F.NDL_DUP_MISMATCH c + 1)))

/-- Slices at their felt: a stalled slice moves on when there is room (R150); the first slice of a tile writes the window,
a later one adds to it in the order of arrival (R263), both under the claim bit of their unit, with the slice's checksum kept and
its side record sent on (R207, R208); a slice of a claimed unit changes no window, and is compared by its checksum (R208). -/
def Obligations.SlicesLand : Prop :=
  (∀ (c : Fin 1056) (s : State) (x : Slice), s.stalledSlices.find? (fun y => y.core == c.val) = some x → sliceFits s x = true →
    ∃ t, exec (.sliceAccepted c) s = .next t ∧ t.stalledSlices = s.stalledSlices.erase x ∧ t.slices = s.slices ++ [x] ∧
      t.fget F.TW_SLICES_SENT c = min (2 ^ F.TW_SLICES_SENT.width - 1) (s.fget F.TW_SLICES_SENT c + 1) ∧
      Frame [.TW_SLICES] s t ∧ FrameParts [.slices, .stalledSlices] s t) ∧
  (∀ (k : Nat) (s : State) (x : Slice) (f : Flight), s.slices[k]? = some x → s.flight x.flight = some f →
    ∃ t, exec (.sliceArrive k .pass) s = .next t ∧
      (x.unit ∉ f.claims → skeinRoom s f x.unit false = true → t.slices = s.slices.eraseIdx k ∧
        t.flights = updWhere (·.id == f.id) (fun g => { g with claims := addTo g.claims x.unit, results := g.results ++ [(x.unit, [])] })
          s.flights ∧
        t.sliceSums = s.sliceSums ++ [((x.handle, x.tile, x.micro), Config.sliceCheck x.vals)] ∧
        t.sideRecs = s.sideRecs ++ x.side.toList ∧
        (s.windows.find? (fun w => w.handle == x.handle && w.tile == x.tile) = none →
          t.windows = s.windows ++ [⟨x.panel, x.handle, x.tile, x.felt, x.vals, false⟩]) ∧
        (∀ w, s.windows.find? (fun w => w.handle == x.handle && w.tile == x.tile) = some w →
          t.windows = updWhere (fun y => y.handle == x.handle && y.tile == x.tile)
            (fun y => { y with vals := (addTiles w.vals x.vals).1 }) s.windows ∧
          ((addTiles w.vals x.vals).2 ≠ 0 → t.fget F.FELT_WIN_COUNTS_SAT w.felt =
            min (2 ^ F.FELT_WIN_COUNTS_SAT.width - 1) (s.fget F.FELT_WIN_COUNTS_SAT w.felt + (addTiles w.vals x.vals).2)))) ∧
      (x.unit ∈ f.claims → t.windows = s.windows ∧ t.sliceSums = s.sliceSums ∧
        ((s.sliceSums.find? (·.1 == (x.handle, x.tile, x.micro))).map (·.2) = some (Config.sliceCheck x.vals) →
          t.slices = s.slices.eraseIdx k ∧
          t.fget F.NDL_DUP_MATCH x.core = min (2 ^ F.NDL_DUP_MATCH.width - 1) (s.fget F.NDL_DUP_MATCH x.core + 1)))) ∧
  (∀ (k : Nat) (s : State) (x : SideRec), s.sideRecs[k]? = some x →
    let sumAt := fun (u : State) (e : Nat) => ((u.sideSums.find? fun y => y.handle == x.handle && y.elem == e).map (·.sum)).getD FV.zero
    ∃ t, exec (.sideRecordArrive k) s = .next t ∧ t.sideRecs = s.sideRecs.eraseIdx k ∧
      (∀ i, i < x.vals.length → sumAt t (x.elem + i) = (sumAt s (x.elem + i)).add (f32 (x.vals.getD i 0))) ∧
      Frame [] s t ∧ FrameParts [.sideRecs, .sideSums] s t)

/-- Completion of a macro-instruction whose units have all landed: it is done, or gone once every core has ended it (R206,
R211), and each set field of target CORE sets its marker on every participant (R322). Before that nothing happens. -/
def Obligations.MacroCompletes : Prop :=
  ∀ (id : Nat) (s : State) (f : Flight), s.flight id = some f →
    (f.done = false → allDone s f = true → ∃ t, exec (.macroComplete id) s = .next t ∧
      (∀ g ∈ t.flights, g.id = id → g.done = true) ∧
      (∀ k, k < 4 → setTarget (miSet f.mi k) = 1 → ∀ c ∈ participants s f,
        markerOn t c (setIdOf (miSet f.mi k) % 64) = true)) ∧
    (f.done = true ∨ allDone s f = false → exec (.macroComplete id) s = .next (settle s))

/-! Tension trackers. -/

/-- Observations and the tracker commands (R166, R167, R177, R446): an observation of the current or the next step adds to
its home slot, whose panel says which steps those are, another is stale; a state error found there is a fault of the core; SEAM_TRK_SEL takes a snapshot of the
selected slot, CLEAR leaves the counters with the events of that instant, RESNAP takes the snapshot again. -/
def Obligations.TrackersObserve : Prop :=
  (∀ (k : Nat) (s : State) (o : Obs) (tr : Tracker) (c : Nat), s.obs[k]? = some o → trackerOf s o.handle = some tr →
    s.liveOf tr.core = some c →
    (o.step = convStep s (handlePanel o.handle) ∨ o.step = (convStep s (handlePanel o.handle) + 1) % 2 ^ 32 →
      ∃ t, exec (.trackerObservation k false) s = .next t ∧ t.obs = s.obs.eraseIdx k ∧
        trackerOf t o.handle = some { tr with
          counts := addCounts tr.counts o.counts
          pend := addPend tr.pend o.step o.amax (o.counts.getD 0 0) (o.counts.getD 5 0) } ∧
        Frame (.SEAM_EVENT :: vectorRegs) s t ∧ FrameParts [.obs, .trackers] s t) ∧
    (o.step ≠ convStep s (handlePanel o.handle) → o.step ≠ (convStep s (handlePanel o.handle) + 1) % 2 ^ 32 →
      ∃ t, exec (.trackerObservation k false) s = .next t ∧ t.obs = s.obs.eraseIdx k ∧
        t.fget F.SEAM_STALE_COUNT c = min (2 ^ F.SEAM_STALE_COUNT.width - 1) (s.fget F.SEAM_STALE_COUNT c + 1) ∧
        Frame (.SEAM_STALE :: .SEAM_EVENT :: vectorRegs) s t ∧ FrameParts [.obs] s t) ∧
    (∃ t, exec (.trackerObservation k true) s = .next t ∧ bitOf (t.rd .CORE_FLT c).toNat 3 = true ∧
      t.trackers = s.trackers)) ∧
  (∀ (a : Agent) (c : Fin 1056) (w : Word) (s : State), Allowed a (coreOff c + 0x4020) s →
    ∃ t, exec (.seamTrkSelWrite a c w) s = .next t ∧ t.fget F.SEAM_TRK_SEL_SLOT c = bits w.toNat 0 4 ∧
      t.fget F.SEAM_TRK_SEL_ITEM c = bits w.toNat 4 6 ∧ (t.core c).trkSnap = slotItems s c (bits w.toNat 0 4) ∧
      FrameParts [.cores] s t) ∧
  (∀ (a : Agent) (c : Fin 1056) (w : Word) (inc : List Nat) (s : State) (tr : Tracker), Allowed a (coreOff c + 0x4028) s →
    trackerAt s c (s.fget F.SEAM_TRK_SEL_SLOT c) = some tr →
    ∃ t, exec (.clearCounts a c w inc) s = .next t ∧
      t.trackers = updWhere (·.handle == tr.handle) (fun y => { y with counts := addCounts [] inc }) s.trackers ∧
      FrameParts [.cores, .trackers] s t) ∧
  (∀ (a : Agent) (c : Fin 1056) (w : Word) (s : State), Allowed a (coreOff c + 0x4028) s → bitOf (w ||| 2).toNat 0 = false →
    ∃ t, exec (.resnap a c w) s = .next t ∧ (t.core c).trkSnap = slotItems s c (s.fget F.SEAM_TRK_SEL_SLOT c) ∧
      FrameParts [.cores] s t)

/-! KV channels. -/

/-- Free groups of a pool: neither held by a channel nor by the prefix tree (R236). -/
def freeGroups (s : State) (q : Pool) : Nat :=
  (List.range q.g).countP fun g => !(s.groups.any fun x => x.pool == q.h && x.group == g) &&
    !s.tree.any fun e => e.pool == q.h && e.group == g

/-- A channel that no command holds, without an error. -/
def chanReady (s : State) (ch : Nat) : Prop := (s.chan ch).held = false ∧ (s.chan ch).error = 0

/-- A write found no page: the felt of the handle has its event (R302, R317). -/
def noPage (t : State) (h : Nat) : Prop := bitOf (t.rd .FELT_MEM_EVENT (h % 8)).toNat 1 = true

/-- KV_APPEND (R232 to R238, R302): on each fold's channel the layer grows by the appended positions, or the pool has no group
for them and the channel takes NO_GROUP with its length as before, or a write finds no page and the length stays; other layers
stay. With enough free groups one fold takes no error. -/
def Obligations.KvAppends : Prop :=
  ∀ (c : Fin 1056) (st : Strm) (s : State) (p : Nat) (m : List Byte), enters opAppend s c st p m → isFirst opAppend s c st p m →
    ∀ (f : Flight) (q : Pool) (l base : Nat), f = newFlight opAppend s c st p m → q = poolOf s (miSrc m 1) → l = miOpx m 4 2 →
    base = valueAt m f.shape 1 → shp f 0 ≠ 0 → shp f 2 ≠ 0 → s.badTens = [] → s.badPhys = [] → skeinRoom s f 0 false = true →
    (∀ b, b < shp f 2 → chanReady s (base + b) ∧ (s.chan (base + b)).len l + shp f 0 ≤ 2 ^ 20) →
    ∃ t, exec (.kvAppend c st) s = .next t ∧
      (∀ b, b < shp f 2 →
        ((t.chan (base + b)).error = 0 ∧ (t.chan (base + b)).len l = (s.chan (base + b)).len l + shp f 0 ∨
          (t.chan (base + b)).error = 2 ∧ (t.chan (base + b)).len l = (s.chan (base + b)).len l ∨
          (t.chan (base + b)).error = 0 ∧ (t.chan (base + b)).len l = (s.chan (base + b)).len l ∧ noPage t q.h) ∧
        ∀ k, k ≠ l → (t.chan (base + b)).len k = (s.chan (base + b)).len k) ∧
      (shp f 2 = 1 → (targetBlocks ((s.chan base).len l) (shp f 0)).length ≤ freeGroups s q → (t.chan base).error = 0)

/-- Blocks of a prompt that the prefix tree holds, from its first on (R239 to R241). -/
def treeHits (tree : List TreeEntry) : DWord → List (List Nat) → Nat
  | _, [] => 0
  | parent, toks :: rest =>
    match tree.find? fun e => e.key == blockKey parent toks with
    | some e => if sameBlock e parent toks then 1 + treeHits tree (blockKey parent toks) rest else 0
    | none => 0

/-- Positions that KV_LOOKUP attaches for fold b: none on a privileged channel (R241, R245). -/
def attachedLen (s : State) (f : Flight) (b : Nat) : Nat :=
  if (s.chan (valueAt f.mi f.shape 1 + b)).priv then 0
  else 64 * treeHits s.tree (key0 (valueAt f.mi f.shape 3) (hHandle (miSrc f.mi 1)))
    ((List.range (shp f 0 / 64)).map fun n => (List.range 64).map fun i =>
      (plainView s f (miSrc f.mi 0)).code' s (64 * n + i) b 0 0)

/-- KV_LOOKUP (R241): each fold's channel is released, and in mode ATTACH holds the blocks of its prompt that the tree
has, as far as the first miss; their length is the channel's on every layer and the command's value, and its least over
the folds goes into the shape entry the command names on every core of the panel. Mode RELEASE leaves the channels empty, and
0 in that entry. KV_FORK (R244): the second privileged channel holds the lengths, groups and tokens of the first, which keeps
its own; or a write finds no page, and it is empty. -/
def Obligations.KvLookupsAndForks : Prop :=
  (∀ (c : Fin 1056) (st : Strm) (s : State) (p : Nat) (m : List Byte), enters (opLookup 0) s c st p m →
    isFirst (opLookup 0) s c st p m → ∀ (f : Flight) (base : Nat), f = newFlight (opLookup 0) s c st p m →
    base = valueAt m f.shape 1 → shp f 0 ≠ 0 → shp f 2 ≠ 0 → s.badTens = [] → s.badPhys = [] → skeinRoom s f 0 false = true →
    (∀ b, b < shp f 2 → (s.chan (base + b)).held = false) →
    ∃ t, exec (.attach c st) s = .next t ∧
      (∀ b, b < shp f 2 → (t.chan (base + b)).error = 0 ∧ (t.chan (base + b)).owned = (s.chan (base + b)).owned ∧
        ∀ l, l < (poolOf s (miSrc m 1)).ly → (t.chan (base + b)).len l = attachedLen s f b) ∧
      t.tens = ((skeinPut s f 0 false).put (hHandle (miDst m)) ((List.range (shp f 2)).map fun b =>
        ((plainView s f (miDst m)).codeBit b 0 0 0, 32, (rne32 (.fin false (attachedLen s f b) 0)).toNat))).1.tens ∧
      (lkShp m ≠ 0 → ∀ k ∈ s.coresOf p, spGet (fun _ => (0xFFFFFFFF : Word)) (t.core k).shp
        (strmNo st * 96 + (lkShp m - 1) * 6 + lkEntry m) =
          BitVec.ofNat 32 (((List.range (shp f 2)).map (attachedLen s f)).foldl min (attachedLen s f 0)))) ∧
  (∀ (c : Fin 1056) (st : Strm) (s : State) (p : Nat) (m : List Byte), enters (opLookup 1) s c st p m →
    isFirst (opLookup 1) s c st p m → ∀ (f : Flight) (base : Nat), f = newFlight (opLookup 1) s c st p m →
    base = valueAt m f.shape 1 → shp f 2 ≠ 0 → skeinRoom s f 0 false = true →
    (∀ b, b < shp f 2 → (s.chan (base + b)).held = false) →
    ∃ t, exec (.releaseChannel c st) s = .next t ∧ t.tens = s.tens ∧
      (∀ b, b < shp f 2 → (t.chan (base + b)).error = 0 ∧ (t.chan (base + b)).owned = (s.chan (base + b)).owned ∧
        (t.chan (base + b)).lens = [] ∧ (t.chan (base + b)).groups = [] ∧ (t.chan (base + b)).keys = [] ∧
        (t.chan (base + b)).tokens = []) ∧
      (lkShp m ≠ 0 → ∀ k ∈ s.coresOf p, spGet (fun _ => (0xFFFFFFFF : Word)) (t.core k).shp
        (strmNo st * 96 + (lkShp m - 1) * 6 + lkEntry m) = 0)) ∧
  (∀ (c : Fin 1056) (st : Strm) (s : State) (p : Nat) (m : List Byte), enters opFork s c st p m → isFirst opFork s c st p m →
      ∀ (f : Flight) (a b : Nat), f = newFlight opFork s c st p m → a = valueAt m f.shape 0 → b = valueAt m f.shape 1 →
      chanReady s a → chanReady s b → s.badTens = [] → s.badPhys = [] → skeinRoom s f 0 false = true →
      ∃ t, exec (.kvFork c st) s = .next t ∧
        ((t.chan b).lens = (s.chan a).lens ∧ (t.chan b).groups = (s.chan a).groups ∧ (t.chan b).tokens = (s.chan a).tokens ∨
          (t.chan b).lens = [] ∧ (t.chan b).groups = [] ∧ noPage t (poolOf s (miSrc m 1)).h) ∧
        (t.chan b).keys = [] ∧ (t.chan b).error = 0 ∧ (t.chan a).lens = (s.chan a).lens ∧ (t.chan a).groups = (s.chan a).groups ∧
        (t.chan a).tokens = (s.chan a).tokens)

/-! Reduction over replicas. -/

/-- REDUCE_TILE (R266): the contributions of the replicas of a mask in replica order, this replica's own tile at its place,
then under FOLD the late ones held of the step before, added from +0. -/
def reducedVals (s : State) (h k : Nat) (reps : List Nat) : List Word :=
  let q := handlePanel h
  let rs := List.range (replicasOf s q).length
  let held := fun (late : Bool) (step r : Nat) =>
    (s.helds.find? fun y => y.late == late && y.x.handle == h && y.x.tile == k && y.x.step == step && y.x.replica == r).map (·.x.vals)
  let onTime := rs.filterMap fun r =>
    if !reps.contains r then none else if r == replicaIx s q then some (ownTile s h k) else held false (stepOf s q) r
  let late := if ((s.entryOf q).map (·.fold)).getD false then rs.filterMap (held true ((stepOf s q + 2 ^ 32 - 1) % 2 ^ 32)) else []
  (onTime ++ late).foldl (fun a y => (addTiles a y).1) ((ownTile s h k).map fun _ => 0)

/-- A tile that is reduced, with its mask. -/
def isReduced (s t : State) (h k : Nat) (reps : List Nat) : Prop :=
  reducedNow t h k = true ∧ (winTile t h k).map (·.vals) = some (reducedVals s h k reps) ∧
  (maskAt t h k (stepOf s (handlePanel h))).map (fun m => (m.reps, m.fixed, m.reduced)) = some (reps, true, true)

/-- A mask that a tile has on the first attempt of REDUCE: its window runs once this replica's own contribution is complete
(R267). -/
def openMask (s : State) (h k : Nat) : Mask :=
  ⟨handlePanel h, h, k, stepOf s (handlePanel h), [],
    ownDone s h && ((s.entryOf (handlePanel h)).map (·.stragglerTicks)).getD 0 != 0xFFFFFFFF, false, false, false⟩

/-- Place of the replica that owns tile k of a handle: device and panel (R265). -/
def ownerOfTile (s : State) (h k : Nat) : Nat × Nat :=
  (replicasOf s (handlePanel h)).getD (k % (replicasOf s (handlePanel h)).length) (0, 0)

/-- SLICE_SEND sends every tile of the window or parameter that another replica owns to that owner (R265, R266), and its
fence tag for another device counts the 64-byte blocks of the tiles that go there (R330); REDUCE opens each owned tile, which
waits for the other replicas and for this replica's own contribution, or is reduced at once when all are here (R266, R267). -/
def Obligations.SlicesTravel : Prop :=
  (∀ (c : Fin 1056) (st : Strm) (s : State) (p : Nat) (m : List Byte), enters (opSlices false) s c st p m →
    isFirst (opSlices false) s c st p m → 1 < (replicasOf s p).length →
    skeinRoom s (newFlight (opSlices false) s c st p m) 0 false = true → ∀ (h : Nat), h = hHandle (miSrc m 0) →
    ∃ t, exec (.sliceSend c st) s = .next t ∧
      (t.sentTiles = s.sentTiles ++ ((List.range (gradTiles ((s.desc h).getD []))).filter fun k => !isOwner s (handlePanel h) k).map fun k =>
        (ownerOfTile s h k, ⟨handleFor (ownerOfTile s h k).2 h, k, stepOf s (handlePanel h), replicaIx s (handlePanel h), ownTile s h k⟩)) ∧
      ∃ g ∈ t.flights, g.id = s.freshId ∧ ∀ y ∈ g.tags, y.1 ≠ s.ownId → y.2.2 = 256 *
        ((List.range (gradTiles ((s.desc h).getD []))).filter fun k =>
          !isOwner s (handlePanel h) k && (ownerOfTile s h k).1 == y.1).length) ∧
  (∀ (c : Fin 1056) (st : Strm) (s : State) (p : Nat) (m : List Byte), enters (opSlices true) s c st p m →
    isFirst (opSlices true) s c st p m → 1 < (replicasOf s p).length →
    skeinRoom s (newFlight (opSlices true) s c st p m) 0 false = true → ∀ (h : Nat), h = hHandle (miDst m) →
    ∃ t, exec (.reduce c st) s = .next t ∧ ∀ k, k < gradTiles ((s.desc h).getD []) → isOwner s (handlePanel h) k = true →
      maskAt s h k (stepOf s (handlePanel h)) = none →
      (ownDone s h = false ∨ (arrived s h k (stepOf s (handlePanel h))).length < (replicasOf s (handlePanel h)).length →
        maskAt t h k (stepOf s (handlePanel h)) = some (openMask s h k) ∧ winTile t h k = winTile s h k) ∧
      (ownDone s h = true → (arrived s h k (stepOf s (handlePanel h))).length = (replicasOf s (handlePanel h)).length →
        isReduced s t h k (arrived s h k (stepOf s (handlePanel h)))))

/-- A contribution that its owner takes: it names another replica of the owning panel and a tile that this one owns. -/
def takesContribution (s : State) (x : Contribution) : Prop :=
  s.isTraining (handlePanel x.handle) = true ∧ gradKind ((s.desc x.handle).getD []) = true ∧
  x.tile < gradTiles ((s.desc x.handle).getD []) ∧ isOwner s (handlePanel x.handle) x.tile = true ∧
  x.replica < (replicasOf s (handlePanel x.handle)).length ∧ x.replica ≠ replicaIx s (handlePanel x.handle)

/-- Contributions at their owner (R266 to R268): one of this step or the next is held, and the last one awaited reduces
the tile when this replica's own is complete; one of the step before is kept under FOLD while there is room and its tile has
not been reduced, else dropped and counted, as an older one is; at
the end of the straggler window the tile is reduced with what has arrived; a reduced tile becomes the replica's own. -/
def Obligations.ContributionsReduce : Prop :=
  (∀ (x : Contribution) (s : State), takesContribution s x →
    ∃ t, exec (.replicaContribution x .pass) s = .next t ∧
      (x.step = stepOf s (handlePanel x.handle) → maskAt s x.handle x.tile x.step = none →
        t.helds = s.helds ++ [⟨handlePanel x.handle, x, false, false⟩]) ∧
      (∀ m, x.step = stepOf s (handlePanel x.handle) → maskAt s x.handle x.tile x.step = some m → m.reduced = false →
        m.fixed = false → ownDone s x.handle = true → ∀ u, u = { s with helds := s.helds ++ [⟨handlePanel x.handle, x, false, false⟩] } →
        (arrived u x.handle x.tile x.step).length = (replicasOf s (handlePanel x.handle)).length →
        isReduced u t x.handle x.tile (arrived u x.handle x.tile x.step)) ∧
      (x.step ≠ stepOf s (handlePanel x.handle) → (x.step + 1) % 2 ^ 32 ≠ stepOf s (handlePanel x.handle) →
        (x.step = (stepOf s (handlePanel x.handle) + 1) % 2 ^ 32 →
          t.helds = s.helds ++ [⟨handlePanel x.handle, x, false, false⟩]) ∧
        (x.step ≠ (stepOf s (handlePanel x.handle) + 1) % 2 ^ 32 → t.helds = s.helds ∧
          t.fget F.FELT_LATE_COUNTS_DROPPED (gradFelt s x.handle x.tile) =
            min (2 ^ F.FELT_LATE_COUNTS_DROPPED.width - 1) (s.fget F.FELT_LATE_COUNTS_DROPPED (gradFelt s x.handle x.tile) + 1))) ∧
      (x.step ≠ stepOf s (handlePanel x.handle) → (x.step + 1) % 2 ^ 32 = stepOf s (handlePanel x.handle) →
        maskAt s x.handle x.tile (stepOf s (handlePanel x.handle)) = none →
        t.helds = s.helds ++ (if ((s.entryOf (handlePanel x.handle)).map (·.fold)).getD false &&
          lateRoom s (handlePanel x.handle) (gradFelt s x.handle x.tile) then [⟨handlePanel x.handle, x, true, false⟩] else [])) ∧
      (∀ m, x.step ≠ stepOf s (handlePanel x.handle) → (x.step + 1) % 2 ^ 32 = stepOf s (handlePanel x.handle) →
        maskAt s x.handle x.tile (stepOf s (handlePanel x.handle)) = some m → m.spent = true → t.helds = s.helds ∧
        t.fget F.FELT_LATE_COUNTS_DROPPED (gradFelt s x.handle x.tile) =
          min (2 ^ F.FELT_LATE_COUNTS_DROPPED.width - 1) (s.fget F.FELT_LATE_COUNTS_DROPPED (gradFelt s x.handle x.tile) + 1))) ∧
  (∀ (h k : Nat) (s : State) (m : Mask), maskAt s h k (stepOf s (handlePanel h)) = some m → m.running = true → m.fixed = false →
    ∃ t, exec (.stragglerExpire h k) s = .next t ∧ isReduced s t h k (arrived s h k (stepOf s (handlePanel h)))) ∧
  (∀ (x : Contribution) (s : State), s.isTraining (handlePanel x.handle) = true → gradKind ((s.desc x.handle).getD []) = true →
    x.tile < gradTiles ((s.desc x.handle).getD []) → isOwner s (handlePanel x.handle) x.tile = false →
    x.replica = x.tile % (replicasOf s (handlePanel x.handle)).length → x.step = stepOf s (handlePanel x.handle) →
    ∃ t, exec (.reducedTileArrive x) s = .next t ∧ reducedNow t x.handle x.tile = true ∧
      (winTile t x.handle x.tile).map (·.vals) = some x.vals ∧ Frame [] s t ∧ FrameParts [.windows, .sentTiles] s t)

/-! The felt update engine. -/

/-- UPDATE_ELEMENT (R273): every step of ADAMW, TRUST and SGD rounds once by RNE into FP32. v holds η, c1, c2, b1c, b2c. -/
def Obligations.UpdateElements : Prop :=
  ∀ (slot : List Byte) (v st : List Word) (w grad : Word),
    let e := updateElement slot v w st grad
    let g := fmul grad (slGscale slot)
    let decay := fmul (slLambda slot) w
    e.delta = fmul (v.getD 0 0) e.u ∧ e.w = fsub w e.delta ∧
    (slRule slot = 1 ∨ slRule slot = 3 →
      let m := fadd (fmul (slBeta1 slot) (st.getD 0 0)) (fmul (v.getD 3 0) g)
      let y := fadd (fmul (slBeta2 slot) (st.getD 1 0)) (fmul (fmul (v.getD 4 0) g) g)
      e.st = [m, y] ∧ e.u = fadd (fmul (fmul m (v.getD 1 0))
        (romFn 0x12 (fadd (romSqrt (fmul y (v.getD 2 0))) (slEps slot)))) decay) ∧
    (slRule slot = 2 → let b := fadd (fmul (slBeta1 slot) (st.getD 0 0)) g
      e.st = [b] ∧ e.u = fadd b decay)

/-- The values that an UPDATE computes of a tensor at its issue, with T of CUR after them (R272). -/
def valuesAt (s : State) (slot : List Byte) (h sched : Nat) : List Word :=
  let d := (s.desc h).getD []
  let hd := headerOf s h (readBase s (bankMask s) h d) d
  (tensorValues slot hd (scheduleAt s (bankMask s) sched hd.t)).1 ++ [BitVec.ofNat 32 hd.t]

/-- UPDATE computes at its issue the values of the tensor from the header of CUR, and those of the scale parameter that it
updates first (R272, R275), and changes no tensor; MATERIALISE writes the copies of CUR from its masters, or from SRC0 for a
frozen weight, and T = 0 (R259). -/
def Obligations.UpdatesStart : Prop :=
  (∀ (c : Fin 1056) (st : Strm) (s : State) (p : Nat) (m : List Byte), enters (opUpdate false) s c st p m →
    isFirst (opUpdate false) s c st p m → skeinRoom s (newFlight (opUpdate false) s c st p m) 0 false = true →
    ∀ (h : Nat) (d : Desc), h = hHandle (miDst m) → d = descOf s (miDst m) →
    tensorBad s h (updSched m) = none → (∀ q, firstParam d = some q → tensorBad s q (updSched m) = none) →
    ∃ t, exec (.update c st) s = .next t ∧
      t.updates = s.updates ++ [⟨s.freshId, p, h, valuesAt s (ruleOf s d) h (updSched m),
        (match firstParam d with | some q => valuesAt s (ruleOf s d) q (updSched m) | none => []),
        bandCount d, [], [FV.zero, FV.zero, FV.zero], []⟩] ∧ t.tens = s.tens) ∧
  (∀ (c : Fin 1056) (st : Strm) (s : State) (p : Nat) (m : List Byte), enters (opUpdate true) s c st p m →
    isFirst (opUpdate true) s c st p m → ∀ f : Flight, f = newFlight (opUpdate true) s c st p m → materialiseBad s f = none →
    skeinRoom s f 0 false = true →
    ∃ t, exec (.materialise c st) s = .next t ∧ t.tens = (materialiseAll (skeinPut s f 0 false) f).tens ∧
      (dKind (descOf s (miDst m)) = kParam → t.tens = ((skeinPut s f 0 false).put (hHandle (miDst m)) (bytePuts
        (readBase s (bankMask s) (hHandle (miDst m)) (descOf s (miDst m)) + (bankLayout s (descOf s (miDst m))).header)
        [0, 0, 0, 0])).1.tens))

/-- Band t of an update that may run now: it is neither done nor held, waits for no parameter, and reads no bad block. -/
def bandRuns (s : State) (id band : Nat) (u : Upd) (d : Desc) : Prop :=
  s.updates.find? (·.flight == id) = some u ∧ s.desc u.handle = some d ∧ band < u.bands ∧ band ∉ u.done ∧
  (∀ x ∈ u.held, x.1 ≠ band) ∧ bandWaits s d = false ∧
  bandBad s u.handle (readBase s (bankMask s) u.handle d) d (bandAt d band) = none

/-- A band of an UPDATE (R256, R269, R274 to R278): a bank that an inference macro-instruction still reads keeps it back;
else its elements go from CUR to NEW, then for a weight the copies of NEW, the band counts on its felt, and the last band
ends the update with its sums, its ratio and its table entry. The scale parameter of a weight is updated before its first
band (R275). Held writes go ahead once nothing holds the bank. -/
def Obligations.BandsUpdate : Prop :=
  (∀ (id band : Nat) (s : State) (u : Upd) (d : Desc), bandRuns s id band u d →
    ∃ t, exec (.updateBand id band .pass) s = .next t ∧
      (bankHeld s u.panel = true → t.updates = updWhere (·.flight == id) (fun y =>
          { y with held := y.held ++ [(band, bandFelt s u.handle (newMask s u.panel) d band)] }) s.updates ∧
        Frame [] s t ∧ FrameParts [.updates] s t) ∧
      (∀ hp, bankHeld s u.panel = false → firstParam d = some hp → u.done = [] → s.desc hp ≠ none → hp ∈ t.updDone) ∧
      (bankHeld s u.panel = false → firstParam d = none ∨ u.done ≠ [] →
        ∀ (n : Nat) (o : BandOut) (w : State), n = bandFelt s u.handle (newMask s u.panel) d band →
          o = bandPass (roundSums s u.handle) (ruleOf s d) u.vals u.handle (readBase s (bankMask s) u.handle d)
            (readBase s (newMask s (handlePanel u.handle)) u.handle d) d (bandAt d band) →
          w = (writeBand (roundSums s u.handle) (ruleOf s d) u.vals u.handle d band n).1 →
        w.tens = (s.put u.handle o.puts).1.tens ∧ t.fbit F.HUB_STEP_STATUS_UPDATED (handlePanel u.handle) = true ∧
        t.fget F.FELT_UPD_BANDS_COUNT n = min (2 ^ F.FELT_UPD_BANDS_COUNT.width - 1) (s.fget F.FELT_UPD_BANDS_COUNT n + 1) ∧
        (u.done.length + 1 ≠ u.bands → t.tens = if dKind d = kParam then w.tens else
          (writeCopies w u.handle (readBase w (newMask w u.panel) u.handle d) d
            (fromMasters w u.handle (newMask w u.panel) d) band n (u.done ++ [band])).tens) ∧
        (u.done.length + 1 = u.bands → u.handle ∈ t.updDone ∧ (∀ y ∈ t.updates, y.flight ≠ u.flight) ∧
          ∀ ws, ws = ((u.sums.zip o.sums).map fun y => rne32 (y.1.add y.2)) → s.ratios.any (·.handle == u.handle) = true →
            ∀ r ∈ t.ratios, r.handle = u.handle → r.pend.map (·.take 5) = some [BitVec.ofNat 32 ((u.vals.getD 6 0).toNat + 1),
              (ratioOf (ws.getD 0 0) (ws.getD 1 0)).1, ws.getD 0 0, ws.getD 1 0, ws.getD 2 0]))) ∧
  (∀ (id : Nat) (s : State) (u : Upd) (d : Desc), s.updates.find? (·.flight == id) = some u → s.desc u.handle = some d →
    s.badTens = [] → s.badPhys = [] → ∃ t, exec (.updateWriteRelease id) s = .next t ∧
      (bankHeld s u.panel = true → t = settle s) ∧
      (bankHeld s u.panel = false → ∀ y, t.updates.find? (·.flight == id) = some y →
        ∀ x ∈ u.held, x.1 ∈ y.done ∧ x ∉ y.held))

/-! The step vote. -/

/-- The panel's arrival has left: it awaits the outcome, and the arrival is on its way to this root, or has been sent to
another (R279). -/
def arrivalSent (s t : State) (p : Nat) (fault : Bool) : Prop :=
  (t.panel p).owed = true ∧
  (rootHere s (voteSetOf s p) = true → t.arrivals = s.arrivals ++ [⟨.member (BitVec.ofNat 12 s.ownId).toFin (Fin.ofNat 64 p), voteId p,
    fault, s.fget F.HUB_STEP_NUM_S p, 0⟩])

/-- The end of a step (R279, R442): with every stream at its entry and everything landed COMPUTING goes to SETTLING, as it
does when an aborted step has drained; then the arrival leaves with S and the fault bit, which a stop in mode 0 sets, and
the panel is VOTING. -/
def Obligations.StepsSettle : Prop :=
  (∀ (p : Fin 64) (s : State), s.isTraining p = true → s.vstate p = vsComputing → (s.panel p).aborting = false →
    allAtEntry s p = true → drained s p = true → ∃ t, exec (.settling p) s = .next t ∧ t.vstate p = vsSettling ∧
      (∀ g ∈ Reg.HUB_STEP_STATUS.fields, ∀ i, g ≠ F.HUB_STEP_STATUS_STATE ∨ i ≠ p.val → t.fget g i = s.fget g i) ∧
      Frame [.HUB_STEP_STATUS] s t ∧ FrameParts [] s t) ∧
  (∀ (p : Fin 64) (s : State), s.isTraining p = true → (s.panel p).aborting = true → drained s p = true →
    ∃ t, exec (.abortDrained p) s = .next t ∧ t.panel p = { s.panel p with aborting := false } ∧
      (s.vstate p = vsComputing → t.vstate p = vsSettling) ∧ FrameParts [.panels] s t) ∧
  (∀ (p : Fin 64) (s : State), s.isTraining p = true → s.vstate p = vsSettling →
    ∃ t, exec (.voteArrival p) s = .next t ∧ t.vstate p = vsVoting ∧ (t.panel p).fault = false ∧
      arrivalSent s t p ((s.panel p).fault || (s.pstate p == psStopping && !(s.panel p).mode1)))

/-- An arrival of a member at this vote root, the last that is missing, decides the outcome of every member panel of this
device: PAUSE_SKEW for unequal steps, else REPEAT with any fault bit, else COMMIT (R281). -/
def Obligations.VotesDecide : Prop :=
  (∀ (d : Fin 4096) (q : Fin 64) (id : Fin 4096) (fault : Bool) (step : Word) (s : State) (l : List (Nat × Nat)), 4032 ≤ id.val →
    voteSetWith s (d.val, q.val) = some l →
    (∀ v, s.votes.find? (fun v => v.key == l.headD (0, 0)) = some v → v.members = l ∧ v.timedOut = false ∧
      v.decided = none ∧ ∀ a ∈ v.arrived, (a.1, a.2.1) ≠ (d.val, q.val)) →
    ∀ (fa : Bool) (no : Nat), (fa, no) = (match s.arrivals.find? (fun a => a.src == .member d q && a.id == id.val) with
      | some a => (a.fault, a.step) | none => (fault, step.toNat)) →
    ∀ (old : List (Nat × Nat × Nat × Bool)), old = (((s.votes.find? fun v => v.key == l.headD (0, 0)).map (·.arrived)).getD []) →
    (∀ x ∈ l, x = (d.val, q.val) ∨ ∃ a ∈ old, (a.1, a.2.1) = x) →
    ∃ t, exec (.chainArrive (.member d q) id fault step) s = .next t ∧
      t.voteOut = s.voteOut ++ (l.filter (·.1 = s.ownId)).map (fun x => (x.2,
        if (old ++ [(d.val, q.val, no, fa)]).any (fun a => a.2.2.1 != ((old ++ [(d.val, q.val, no, fa)]).head?.map
            (·.2.2.1)).getD 0) then VoteOutcome.pauseSkew
        else if (old ++ [(d.val, q.val, no, fa)]).any (·.2.2.2) then .repeatStep else .commit)) ∧
      ∀ v ∈ t.votes, v.key ≠ l.headD (0, 0)) ∧
  (∀ (p : Fin 64) (s : State) (v : Vote), s.votes.find? (fun v => v.key == (voteSetOf s p).headD (0, 0)) = some v →
    rootHere s (voteSetOf s p) = true → v.timedOut = false → v.arrived ≠ [] →
    ∃ t, exec (.voteTimeout p) s = .next t ∧
      t.voteOut = s.voteOut ++ (v.arrived.filter (·.1 = s.ownId)).map (fun a => (a.2.1, VoteOutcome.pauseTimeout)) ∧
      { v with timedOut := true } ∈ t.votes)

/-- The outcome that a panel takes: its root's on this device, else the one of a root elsewhere. -/
def outcomeOf (s : State) (p : Nat) (remote : VoteOutcome) : Option VoteOutcome :=
  match s.voteOut.find? (·.1 == p) with
  | some x => some x.2
  | none => if rootHere s (voteSetOf s p) then none else some remote

/-- COMMIT (R282): the bank flips in dual-bank mode, S and the commit count advance, FAILS, UPDATED and CAUSE are cleared,
and the panel computes again unless it stops. REPEAT (R283, R284): S stays, FAILS and REPEATS count, and the panel computes
again, or pauses at its limit, or when a single bank has been updated. The pauses keep the panel PAUSED with their cause. An
outcome other than COMMIT that finds the panel stopped, or started again, since its arrival is held to the same limits; a stopped
one stays IDLE (R57, R287). -/
def Obligations.VotesTakeEffect : Prop :=
  (∀ (p : Fin 64) (remote : VoteOutcome) (s : State), s.isTraining p = true → (s.panel p).owed = true → s.vstate p = vsVoting →
    (outcomeOf s p remote = some .commit → ∃ t, exec (.voteRelease p remote) s = .next t ∧
      t.fget F.HUB_STEP_NUM_S p = (s.fget F.HUB_STEP_NUM_S p + 1) % 2 ^ 32 ∧
      t.fget F.HUB_STEP_COMMITTED_COUNT p = (s.fget F.HUB_STEP_COMMITTED_COUNT p + 1) % 2 ^ F.HUB_STEP_COMMITTED_COUNT.width ∧
      t.fbit F.HUB_STEP_STATUS_BANK p = (s.fbit F.HUB_STEP_STATUS_BANK p != !s.fbit F.HUB_STEP_STATUS_SINGLE p) ∧
      t.fget F.HUB_STEP_STATUS_FAILS p = 0 ∧ t.fget F.HUB_STEP_STATUS_UPDATED p = 0 ∧ t.fget F.HUB_STEP_STATUS_CAUSE p = 0 ∧
      t.fget F.HUB_STEP_STATUS_LAST p = 1 ∧ t.fget F.HUB_STEP_STATUS_VOTE_DONE p = 1 ∧
      (s.pstate p ≠ psStopping → t.vstate p = vsComputing ∧ (t.panel p).owed = false)) ∧
    (outcomeOf s p remote = some .repeatStep → ¬(s.fbit F.HUB_STEP_STATUS_SINGLE p = true ∧ s.fbit F.HUB_STEP_STATUS_UPDATED p = true) →
      ∃ t, exec (.voteRelease p remote) s = .next t ∧ t.fget F.HUB_STEP_NUM_S p = s.fget F.HUB_STEP_NUM_S p ∧
      t.fget F.HUB_STEP_STATUS_BANK p = s.fget F.HUB_STEP_STATUS_BANK p ∧
      (min 15 (s.fget F.HUB_STEP_STATUS_FAILS p + 1) < ((s.entryOf p).map (·.repeatLimit)).getD 15 →
        t.fget F.HUB_STEP_STATUS_LAST p = 2 ∧ t.fget F.HUB_STEP_STATUS_CAUSE p = 1 ∧
        t.fget F.HUB_STEP_STATUS_FAILS p = min 15 (s.fget F.HUB_STEP_STATUS_FAILS p + 1) ∧
        (s.pstate p ≠ psStopping → t.vstate p = vsComputing)) ∧
      (((s.entryOf p).map (·.repeatLimit)).getD 15 ≤ min 15 (s.fget F.HUB_STEP_STATUS_FAILS p + 1) →
        t.fget F.HUB_STEP_STATUS_LAST p = 3 ∧ t.fget F.HUB_STEP_STATUS_CAUSE p = 4 ∧
        (s.pstate p ≠ psStopping → t.vstate p = vsPaused))) ∧
    (outcomeOf s p remote = some .repeatStep → s.fbit F.HUB_STEP_STATUS_SINGLE p = true → s.fbit F.HUB_STEP_STATUS_UPDATED p = true →
      ∃ t, exec (.voteRelease p remote) s = .next t ∧ t.fget F.HUB_STEP_NUM_S p = s.fget F.HUB_STEP_NUM_S p ∧
      t.fget F.HUB_STEP_STATUS_LAST p = 3 ∧ t.fget F.HUB_STEP_STATUS_CAUSE p = 5 ∧
      (s.pstate p ≠ psStopping → t.vstate p = vsPaused)) ∧
    (∀ o ∈ [VoteOutcome.pauseTimeout, .pauseSkew], outcomeOf s p remote = some o → ∃ t, exec (.voteRelease p remote) s = .next t ∧
      t.fget F.HUB_STEP_NUM_S p = s.fget F.HUB_STEP_NUM_S p ∧ t.fget F.HUB_STEP_STATUS_LAST p = 3 ∧
      t.fget F.HUB_STEP_STATUS_CAUSE p = (if o = .pauseTimeout then 2 else 3) ∧
      (s.pstate p ≠ psStopping → t.vstate p = vsPaused))) ∧
  (∀ (p : Fin 64) (remote o : VoteOutcome) (s : State), s.isTraining p = true → (s.panel p).owed = true →
    s.vstate p = vsIdle ∨ s.vstate p = vsComputing → outcomeOf s p remote = some o → o ≠ .commit →
    ∀ x : Nat × Nat, x = (match o with
      | .pauseTimeout => (3, 2)
      | .pauseSkew => (3, 3)
      | _ => if s.fbit F.HUB_STEP_STATUS_SINGLE p && s.fbit F.HUB_STEP_STATUS_UPDATED p then (3, 5)
        else if ((s.entryOf p).map (·.repeatLimit)).getD 15 ≤ min 15 (s.fget F.HUB_STEP_STATUS_FAILS p + 1) then (3, 4) else (2, 1)) →
    ∃ t, exec (.voteRelease p remote) s = .next t ∧ (t.panel p).owed = false ∧
      t.fget F.HUB_STEP_NUM_S p = s.fget F.HUB_STEP_NUM_S p ∧ t.fget F.HUB_STEP_STATUS_LAST p = x.1 ∧
      t.fget F.HUB_STEP_STATUS_CAUSE p = x.2 ∧
      t.vstate p = (if s.vstate p = vsIdle then vsIdle else if x.1 = 2 then vsComputing else vsPaused))

/-- RESUME (R285, R286): a PAUSED panel computes its step again with FAILS = 0; paused for an updated single bank it needs
RESTORED with it, else the write counts BAD_CMD, as it does on a panel that is not PAUSED, with CAUSE 0x20. -/
def Obligations.PausedResumes : Prop :=
  ∀ (a : Agent) (p : Fin 64) (w : Word) (s : State), Allowed a (stepOff p + 0xC) s →
    (s.vstate p = vsPaused → s.fget F.HUB_STEP_STATUS_CAUSE p ≠ 5 ∨ bitOf (w ||| 1).toNat 1 = true →
      ∃ t, exec (.resume a p w) s = .next t ∧ t.vstate p = vsComputing ∧ t.fget F.HUB_STEP_STATUS_FAILS p = 0 ∧
        t.fget F.HUB_STEP_NUM_S p = s.fget F.HUB_STEP_NUM_S p) ∧
    (s.vstate p = vsPaused → s.fget F.HUB_STEP_STATUS_CAUSE p = 5 → bitOf (w ||| 1).toNat 1 = false →
      ∃ t, exec (.resume a p w) s = .next t ∧ t.vstate p = vsPaused ∧
        t.fget F.HUB_STEP_REPEATS_BAD_CMD p = min (2 ^ F.HUB_STEP_REPEATS_BAD_CMD.width - 1) (s.fget F.HUB_STEP_REPEATS_BAD_CMD p + 1) ∧
        Frame [.HUB_STEP_REPEATS] s t ∧ FrameParts [] s t) ∧
    (s.vstate p ≠ vsPaused → ∃ t, exec (.resume a p w) s = .next t ∧ t.vstate p = s.vstate p ∧
      t.fget F.HUB_STEP_STATUS_CAUSE p = 0x20 ∧
      t.fget F.HUB_STEP_REPEATS_BAD_CMD p = min (2 ^ F.HUB_STEP_REPEATS_BAD_CMD.width - 1) (s.fget F.HUB_STEP_REPEATS_BAD_CMD p + 1) ∧
      Frame [.HUB_STEP_REPEATS, .HUB_STEP_STATUS] s t ∧ FrameParts [] s t)

/-! Felts and memory. -/

/-- A count of one more, saturating. -/
def countedOnce (f : Fld) (i : Nat) (s t : State) : Prop := t.fget f i = min (2 ^ f.width - 1) (s.fget f i + 1)

/-- A few error records find room, or no log record is written of one that is lost (R423, R426). -/
def recordsFit (s : State) : Prop := s.recFifo.length + 4 ≤ 4096 ∨ s.fbit F.STW_LOG_CTRL_ENABLE 0 = false

/-- Requests to a felt (R292, R294, R295, R302, R306, R411): a read of a placed page counts as near or far by the requester's
C-die, a corrected symbol counts CORRECTED, an uncorrectable block counts UNCORR with its address and stays bad; a write into
a fixed region, or into a tensor's placed or resident page, stores exactly its bytes; a physical write outside the fixed
regions stores nothing and counts REFUSED; a steward reaches no tensor space. Each answers with its status (R380). -/
def Obligations.FeltRequests : Prop :=
  (∀ (who : Asker) (h off : Nat) (e : Ecc) (s : State) (x : Page), outOfReach who (.tensor h off) = false →
    isResident s h = false → pageOf s h (off / 2 ^ 21) = some x →
    tkey h off / 64 ∉ s.badTens → e ≠ .uncorrectable → ∃ t, exec (.feltRead who (.tensor h off) e) s = .next t ∧
      t.status = rsOk ∧ (e = .oneSymbol → countedOnce F.FELT_MEM_COUNTS_CORRECTED x.felt s t) ∧
      (∀ d, askerDie s who = some d → (pageOf t h (off / 2 ^ 21)).map (fun y => (y.near, y.far)) = some
        (if x.felt / 4 = d then (min 65535 (x.near + 1), x.far) else (x.near, min 65535 (x.far + 1)))) ∧
      Frame [.FELT_MEM_COUNTS] s t ∧ FrameParts [.pages, .status] s t) ∧
  (∀ (who : Asker) (a : Nat) (s : State), s.inFixed a 64 = true → recordsFit s →
    ∃ t, exec (.feltRead who (.phys a) .uncorrectable) s = .next t ∧ t.status = rsUncorr ∧
    a / 64 ∈ t.badPhys ∧ countedOnce F.FELT_MEM_COUNTS_UNCORR (a / 2 ^ 36) s t ∧
    t.fget F.FELT_ECC_ADDR_LO_ADDR_LO (a / 2 ^ 36) = a % 2 ^ 32 ∧ bitOf (t.rd .FELT_MEM_EVENT (a / 2 ^ 36)).toNat 0 = true) ∧
  (∀ (who : Asker) (a : Nat) (data : List Byte) (s : State), s.inFixed a data.length = true → stagingHeld s a data.length = false →
    badAmong s.badPhys a data.length = [] → ∃ t, exec (.feltWrite who (.phys a) data) s = .next t ∧ t.status = rsOk ∧
      t.dramRead a data.length = data ∧ (∀ b, b < a ∨ a + data.length ≤ b → memGet t.dram b = memGet s.dram b) ∧
      Frame [] s t ∧ FrameParts [.dram, .badPhys, .status] s t) ∧
  (∀ (who : Asker) (a : Nat) (data : List Byte) (s : State), s.inFixed a data.length = false →
    ∃ t, exec (.feltWrite who (.phys a) data) s = .next t ∧ t.status = rsAccess ∧
      countedOnce F.FELT_MEM_COUNTS_REFUSED (a / 2 ^ 36 % 8) s t ∧ Frame [.FELT_MEM_COUNTS] s t ∧ FrameParts [.status] s t) ∧
  (∀ (who : Asker) (h off : Nat) (data : List Byte) (s : State), outOfReach who (.tensor h off) = false →
    s.desc h ≠ none → s.badTens = [] →
    isResident s h = true ∨ pageOf s h (off / 2 ^ 21) ≠ none → off % 2 ^ 21 + data.length ≤ 2 ^ 21 →
    ∃ t, exec (.feltWrite who (.tensor h off) data) s = .next t ∧ t.status = rsOk ∧ t.tRead h off data.length = data ∧
      (∀ b, b < tkey h off ∨ tkey h off + data.length ≤ b → memGet t.tens b = memGet s.tens b) ∧
      Frame [] s t ∧ FrameParts [.tens, .pages, .status] s t) ∧
  (∀ (h off : Nat) (e : Ecc) (data : List Byte) (who : Asker) (s : State), outOfReach who (.tensor h off) = true →
    ∀ i ∈ [Instr.feltRead who (.tensor h off) e, .feltWrite who (.tensor h off) data],
      ∃ t, exec i s = .next t ∧ t.status = rsAccess ∧ Frame [] s t ∧ FrameParts [.status] s t)

/-- The block that the scrub of a felt is at (R296). -/
def scrubAddr (s : State) (n : Nat) : Nat :=
  n * 2 ^ 36 + s.fget F.FELT_SCRUB_STATUS_PAGE n * 2 ^ 21 + assocGet s.scrubBlock n * 64

/-- The scrub, page moves and the rule and ratio registers (R289, R296, R306 to R308, R316): the scrub goes block by block and
page by page, over fixed and placed regions, and counts what it finds; an interval halves the access counters of its felt's pages and starts the move of
a candidate; a move that ends switches the page's felt unless its panel's step holds it; STOP, its end and START of the
rules, each refused in another state; FELT_RATIO_SEL selects an entry of this felt's table. -/
def Obligations.FeltUpkeep : Prop :=
  (∀ (n : Fin 8) (e : Ecc) (s : State), ∃ t, exec (.scrubStep n e) s = .next t ∧
    (assocGet s.scrubBlock n + 1 < 32768 → assocGet t.scrubBlock n = assocGet s.scrubBlock n + 1 ∧
      t.fget F.FELT_SCRUB_STATUS_PAGE n = s.fget F.FELT_SCRUB_STATUS_PAGE n) ∧
    (assocGet s.scrubBlock n + 1 = 32768 → assocGet t.scrubBlock n = 0 ∧
      t.fget F.FELT_SCRUB_STATUS_PAGE n = (s.fget F.FELT_SCRUB_STATUS_PAGE n + 1) % 32768) ∧
    (badAt s (scrubAddr s n) = true ∨ e = .uncorrectable → countedOnce F.FELT_MEM_COUNTS_UNCORR n s t ∧
      (recordsFit s → badAt t (scrubAddr s n) = true)) ∧
    (badAt s (scrubAddr s n) = false → e = .oneSymbol → countedOnce F.FELT_MEM_COUNTS_CORRECTED n s t)) ∧
  (∀ (n : Fin 8) (s : State), ∃ t, exec (.migrationInterval n) s = .next t ∧
    t.pages.map (fun x => { x with moving := none }) = s.pages.map (fun x => if x.felt = n.val then
      { x with near := x.near / 2, far := x.far / 2, moving := none } else { x with moving := none }) ∧
    (s.fbit F.FELT_MIG_LIMITS_ENABLE n = false → t.pages.map (·.moving) = s.pages.map (·.moving)) ∧
    (∀ x m, s.fbit F.FELT_MIG_LIMITS_ENABLE n = true → s.pages.filter (migCandidate s n) = [x] →
      s.fget F.FELT_MIG_LIMITS_MAX n ≠ 0 → moveTarget s n x = some m →
      ∀ y ∈ t.pages, y.handle = x.handle → y.index = x.index → y.moving = some m) ∧
    Frame [] s t ∧ FrameParts [.pages] s t) ∧
  (∀ (n : Fin 8) (h i m : Nat) (s : State) (x : Page),
    s.pages.find? (fun y => y.handle == h && y.index == i && y.felt == n.val) = some x → x.moving = some m →
    badAmong s.badTens (tkey h (i * 2 ^ 21)) (2 ^ 21) = [] → ∃ t, exec (.pageMoveDone n h i) s = .next t ∧
      (pageHeld s x = false → countedOnce F.FELT_PLC_COUNTS_MIGRATED n s t ∧
        ∀ y ∈ t.pages, y.handle = h → y.index = i → y.felt = m ∧ y.moving = none) ∧
      (pageHeld s x = true → countedOnce F.FELT_PLC_COUNTS_ABANDONED n s t ∧
        ∀ y ∈ t.pages, y.handle = h → y.index = i → y.moving = none) ∧
      Frame [.FELT_PLC_COUNTS] s t ∧ FrameParts [.pages, .badPhys, .free] s t) ∧
  (∀ (a : Agent) (w : Word) (s : State), Allowed a (feltOff 0 + 0x10040) s →
    (bitOf (w ||| 1).toNat 1 = false → ∃ t, exec (.ruleStop a w) s = .next t ∧
      (ruleState s = 0 → ruleState t = 1) ∧
      (ruleState s ≠ 0 → ruleState t = ruleState s ∧ countedOnce F.FELT_RULE_STATUS_BAD_CMD 0 s t) ∧
      Frame [.FELT_RULE_STATUS] s t ∧ FrameParts [] s t) ∧
    (bitOf (w ||| 2).toNat 0 = false → ∃ t, exec (.ruleStart a w) s = .next t ∧
      (ruleState s = 2 → rulesOk s.rules = true → ruleMoves s = false → ruleState t = 0 ∧ t.rulesOn = s.rules ∧
        t.fget F.FELT_RULE_STATUS_GEN 0 = (if s.rulesOn = s.rules then s.fget F.FELT_RULE_STATUS_GEN 0
          else (s.fget F.FELT_RULE_STATUS_GEN 0 + 1) % 2 ^ F.FELT_RULE_STATUS_GEN.width)) ∧
      (ruleState s ≠ 2 ∨ rulesOk s.rules = false ∨ ruleMoves s = true → ruleState t = ruleState s ∧ t.rulesOn = s.rulesOn ∧
        countedOnce F.FELT_RULE_STATUS_BAD_CMD 0 s t) ∧
      Frame [.FELT_RULE_STATUS] s t ∧ FrameParts [.rulesOn] s t)) ∧
  (∀ s : State, ruleState s = 1 → s.updates = [] → (∀ f ∈ s.flights, f.done = true ∨ miOpcode f.mi ≠ 0x22) →
    ∃ t, exec .rulesStopped s = .next t ∧ ruleState t = 2 ∧ Frame [.FELT_RULE_STATUS] s t ∧ FrameParts [] s t) ∧
  (∀ (a : Agent) (n : Fin 8) (w : Word) (s : State), Allowed a (feltOff n + 0x50030) s →
    ∃ t, exec (.feltRatioSelWrite a n w) s = .next t ∧ t.fget F.FELT_RATIO_SEL_HANDLE n = bits w.toNat 0 20 ∧
      t.fget F.FELT_RATIO_SEL_ITEM n = bits w.toNat 20 4 ∧
      ratioData t n = (if bits w.toNat 0 20 % 8 = n then ratioItems s (bits w.toNat 0 20) else List.replicate 10 0).getD
        (bits w.toNat 20 4) 0)

/-! Markers and the chain. -/

/-- Another core of the panel has issued the macro-instruction, which is flight f. -/
def joins (o : OpSpec) (s : State) (c : Nat) (st : Strm) (p : Nat) (m : List Byte) (f : Flight) : Prop :=
  coreScoped o m = false ∧ f.mi = m ∧ s.flight f.id = some f ∧
  (s.flights.find? fun g => g.panel == p && g.strm == st && g.core.isNone && g.seq == nextSeq s c st % 2 ^ 32) = some f

/-- A forced operation that MK_FORCE takes: the interface is armed, the reserved bits are 0 and the ID is mapped (R344). -/
def forceTaken (s : State) (d : Nat) (w : Word) : Prop :=
  d ∈ s.forceArmed ∧ bits w.toNat 0 17 ≤ 0x11FFF ∧ w.toNat / 2 ^ 19 = 0 ∧
  (bits w.toNat 0 17 < 0x10000 → s.liveOf (bits w.toNat 0 17 / 64) ≠ none)

/-- State of a marker by its device ID, through the live map (R320). -/
def idOn (s : State) (id : Nat) : Option Bool :=
  if id < 0x10000 then (s.liveOf (id / 64)).map fun c => markerOn s c (id % 64) else some (epOn s (id - 0x10000))

/-- MARKER (R326, R328): the markers of CLEAR_MASK are cleared on the issuing core, and then its SELF targets are SET there
(R322; that each core makes them at its own issue is log entry 151); a stream whose macro-instruction carries no END goes on. A wait of MK_WAIT_TIMEOUT ticks on a marker below m61 sets the stream's bit of MK_STATUS.
Forced operations and endpoint clears (R323, R324, R344, R345): the key arms the interface for one write, another value
or a bad write disarms it, counts REFUSED and is out of range; a forced set or clear leaves the marker SET or CLEAR and
counts DONE; the arming expires. A write of 1s to MK_EP_STATE clears endpoint markers, and a set in the same instant wins. -/
def Obligations.MarkersChange : Prop :=
  (∀ (c : Fin 1056) (st : Strm) (s : State) (p : Nat) (m : List Byte), enters opMarker s c st p m →
    isFirst opMarker s c st p m ∨ (∃ f, joins opMarker s c st p m f) → ∃ t, exec (.marker c st) s = .next t ∧
      ((∀ k, k < 4 → setTarget (miSet m k) = 0) → ∀ j, j < 60 → bitOf (miOpx m 0 8) j = true → markerOn t c j = false) ∧
      (∀ k, k < 4 → setTarget (miSet m k) = 1 → markerOn t c (setIdOf (miSet m k) % 64) = true) ∧
      ((∀ k, k < 4 → setTarget (miSet m k) ≤ 1) → ∀ x, x ≠ c.val → ∀ j, markerOn t x j = markerOn s x j) ∧
      (c.val ∈ s.coresOf p → miEnd m = false → ¬(s.pstate p = psStopping ∧ (s.panel p).mode1 = false) →
        t.sstate c st = stWait ∧ t.pc c st = (s.pc c st + 1) % 2 ^ F.NDL_STREAM_PC_INDEX.width)) ∧
  (∀ (c : Fin 1056) (st : Strm) (s : State) (p k : Nat), s.ownerOf c = some p → s.sstate c st = stWait → s.rd .MK_WAIT_TIMEOUT c ≠ 0 →
    k < 4 → bitOf (openWaits s c st (s.miAt p st (s.pc c st))) k = true → waitIndex (miWait (s.miAt p st (s.pc c st)) k) < 61 →
    ∃ t, exec (.waitTimeout c st) s = .next t ∧ bitOf (t.rd .MK_STATUS c).toNat (1 + strmNo st) = true ∧
      Frame (.MK_STATUS :: vectorRegs) s t ∧ FrameParts [] s t) ∧
  (∀ (a : Agent) (d : Fin 2) (w : Word) (s : State), Allowed a (dieOff d + 0x1000) s →
    ∃ t, exec (.mkForceKey a d w) s = .next t ∧
      (w = 0x5EED → d.val ∈ t.forceArmed ∧ Frame [] s t ∧ FrameParts [.forceArmed] s t) ∧
      (w ≠ 0x5EED → d.val ∉ t.forceArmed ∧ countedOnce F.MK_FORCE_COUNT_REFUSED d s t ∧
        countedOnce F.HUB_INCHK_COUNTS_RANGE 0 s t)) ∧
  (∀ (a : Agent) (d : Fin 2) (w : Word) (s : State), Allowed a (dieOff d + 0x1004) s →
    (forceTaken s d (w ||| 0x20000) → ∃ t, exec (.forcedSet a d w) s = .next t ∧ d.val ∉ t.forceArmed ∧
      countedOnce F.MK_FORCE_COUNT_DONE d s t ∧ idOn t (bits (w ||| 0x20000).toNat 0 17) = some true) ∧
    (forceTaken s d (w &&& ~~~(0x20000 : Word)) → ∃ t, exec (.forcedClear a d w) s = .next t ∧ d.val ∉ t.forceArmed ∧
      countedOnce F.MK_FORCE_COUNT_DONE d s t ∧ idOn t (bits (w &&& ~~~(0x20000 : Word)).toNat 0 17) = some false) ∧
    (¬forceTaken s d (w ||| 0x20000) → ∃ t, exec (.forcedSet a d w) s = .next t ∧ d.val ∉ t.forceArmed ∧
      countedOnce F.MK_FORCE_COUNT_REFUSED d s t ∧ (∀ x j, markerOn t x j = markerOn s x j) ∧ ∀ i, epOn t i = epOn s i)) ∧
  (∀ (d : Fin 2) (s : State), ∃ t, exec (.forceArmExpire d) s = .next t ∧ d.val ∉ t.forceArmed ∧
    (∀ x, x ≠ d.val → (x ∈ t.forceArmed ↔ x ∈ s.forceArmed)) ∧ Frame [] s t ∧ FrameParts [.forceArmed] s t) ∧
  (∀ (a : Agent) (i : Fin 256) (w hw : Word) (s : State), Allowed a (0x00038000 + 4 * i) s →
    ∃ t, exec (.mkEpStateClear a i w hw) s = .next t ∧ t.rd .MK_EP_STATE i = (s.rd .MK_EP_STATE i &&& ~~~w) ||| hw ∧
      (∀ j, j ≠ i.val → t.rd .MK_EP_STATE j = s.rd .MK_EP_STATE j) ∧
      Frame [.MK_EP_STATE, .MK_EP_DOUBLE_SET] s t ∧ FrameParts [] s t)

/-- Cores that have arrived in the open epoch of an ID. -/
def arrivedAt (s : State) (id : Nat) : List Nat := (openEpoch s id).cores.map (·.1)

/-- BARRIER and the chain (R336 to R342): the arrival leaves at once, or waits for the outstanding one; it counts at the
core's leaf, and the last one of a panel barrier releases the epoch, which then advances; a second one counts as DOUBLE; the
last member of a group barrier releases every member panel of this device with one epoch, each under its own ID (log entry 150);
a release tells every counted core of the panel barrier, epoch and fault bit and sets m61; CH_TIMEOUT reports an open
epoch at its root. -/
def Obligations.BarriersRelease : Prop :=
  (∀ (c : Fin 1056) (st : Strm) (s : State) (p : Nat) (m : List Byte), enters opBarrier s c st p m →
    ∃ t, exec (.barrier c st) s = .next t ∧
      (s.fbit F.MK_CHAIN_ARRIVED c = false → t.fbit F.MK_CHAIN_ARRIVED c = true ∧
        t.fget F.MK_CHAIN_ARRIVED_ID c = (p * 63 + miOpx m 0 1) % 2 ^ F.MK_CHAIN_ARRIVED_ID.width ∧
        t.arrivals = s.arrivals ++ [⟨.core c, p * 63 + miOpx m 0 1, bitOf (miOpx m 1 1) 0, 0, s.freshId⟩]) ∧
      (s.fbit F.MK_CHAIN_ARRIVED c = true → t.arrivals = s.arrivals ∧ ∃ g ∈ t.flights, g.id = s.freshId ∧ g.waiting = true)) ∧
  (∀ (c : Fin 1056) (id : Fin 4096) (fault : Bool) (step : Word) (s : State), barScope s id = some .panel →
    c.val ∈ s.coresOf (id / 63) → ∀ fa, fa = ((s.arrivals.find? fun a => a.src == .core c && a.id == id.val).map (·.fault)).getD fault →
    ∃ t, exec (.chainArrive (.core c) id fault step) s = .next t ∧
      (c.val ∉ arrivedAt s id → (∀ x ∈ barCores s (id / 63), x ∈ arrivedAt s id ∨ x = c.val) →
        t.releases = s.releases ++ [(id.val, epochOf s id, (openEpoch s id).again || (openEpoch s id).cores.any (·.2) || fa)] ∧
        epochOf t id = (epochOf s id + 1) % 2 ^ 32 ∧ ∀ e ∈ t.openEpochs, e.id ≠ id.val) ∧
      (c.val ∉ arrivedAt s id → (∃ x ∈ barCores s (id / 63), x ∉ arrivedAt s id ∧ x ≠ c.val) →
        t.releases = s.releases ∧ openEpoch t id = { openEpoch s id with cores := (openEpoch s id).cores ++ [(c.val, fa)] }) ∧
      (c.val ∈ arrivedAt s id → t.releases = s.releases ∧ (openEpoch t id).again = true ∧
        countedOnce F.CH_COUNTS_DOUBLE_ARRIVE 0 s t)) ∧
  (∀ (d : Fin 4096) (q : Fin 64) (id : Fin 4096) (fault : Bool) (step : Word) (s : State) (l : List (Nat × Nat)), id.val < 4032 →
    listWith s (d.val, q.val) (id % 63) = some l → id.val = memberId (d.val, q.val) (id % 63) →
    ∀ n fa, n = nodeId s (id % 63) l →
    fa = ((s.arrivals.find? fun a => a.src == .member d q && a.id == id.val).map (·.fault)).getD fault →
    (∀ y ∈ (openEpoch s n).members, y.1 ≠ (d.val, q.val)) →
    (∀ m ∈ l, m = (d.val, q.val) ∨ ∃ y ∈ (openEpoch s n).members, y.1 = m) →
    ∃ t, exec (.chainArrive (.member d q) id fault step) s = .next t ∧ epochOf t n = (epochOf s n + 1) % 2 ^ 32 ∧
      ∀ m ∈ l, m.1 = s.ownId → (memberId m (id % 63), epochOf s n,
        (openEpoch s n).fault || (openEpoch s n).members.any (·.2) || fa) ∈ t.releases) ∧
  (∀ (id : Fin 4096) (epoch : Word) (fault : Bool) (s : State) (x : Nat × Nat × Bool), s.releases.find? (·.1 == id.val) = some x →
    ∃ t, exec (.chainRelease id epoch fault) s = .next t ∧ t.releases = s.releases.eraseP (·.1 == id.val) ∧
      ∀ c ∈ barCores s (id / 63), t.fget F.MK_CHAIN_LAST_ID c = id.val % 2 ^ F.MK_CHAIN_LAST_ID.width ∧
        t.fbit F.MK_CHAIN_FAULT c = x.2.2 ∧ t.fget F.MK_CHAIN_EPOCH_EPOCH c = x.2.1 % 2 ^ 32 ∧ markerOn t c 61 = true ∧
        ((∀ f ∈ s.flights, f.core = some c → f.waiting = false) → t.fbit F.MK_CHAIN_ARRIVED c = false)) ∧
  (∀ (id : Fin 4096) (s : State), barRootHere s id = true → (∃ e ∈ s.openEpochs, e.id = id.val) →
    ∃ t, exec (.barrierTimeout id) s = .next t ∧ t.fget F.CH_STATUS_TIMEOUT_ID 0 = id.val ∧
      bitOf (t.rd .CH_EVENT 0).toNat 0 = true ∧ Frame (.CH_STATUS :: .CH_EVENT :: claimRegs) s t ∧ FrameParts [] s t)

/-! Exchange queues. -/

/-- The indices of a queue after a release of n items (R353): REL moves up to CONS, and MARK with it when it was below. -/
def releasedTo (s t : State) (q n : Nat) : Prop :=
  let moved := min n (diff32 (s.qix q .cons) (s.qix q .rel))
  t.qix q .rel = (s.qix q .rel + moved) % 2 ^ 32 ∧ t.qix q .cons = s.qix q .cons ∧ t.qix q .prod = s.qix q .prod ∧
  t.qix q .mark = (if diff32 (s.qix q .mark) (s.qix q .rel) < moved then (s.qix q .rel + moved) % 2 ^ 32 else s.qix q .mark) ∧
  (moved ≠ 0 → epOn t (16 * q) = true)

/-- The count of Q_CMD: 0xFFFFFF means all (R362). -/
def cmdCount (w : Word) : Nat := if bits w.toNat 8 24 = 0xFFFFFF then 2 ^ 32 else bits w.toNat 8 24

/-- Q_CMD and Q_CTRL (R353, R362, R363): the consumer moves the indices of a running queue whose copies agree, each within
the others; a command of another agent, or on a queue that does not run, moves none and counts BAD_CMD. STOP of a running
queue, its end once nothing is reserved, START of a stopped one, which puts the configuration that its registers hold in
force (R55), and CLEAR of a stopped one. -/
def Obligations.QueuesAreDriven : Prop :=
  (∀ (a : Agent) (q : Fin 256) (w : Word) (s : State), Allowed a (queueOff q + 0x28) s →
    (s.qstate q = qsRunning → isConsumer s a q = true → copiesAgree s q = true →
      (∃ t, exec (.advance a q w) s = .next t ∧ t.qix q .cons = (s.qix q .cons + min (cmdCount w) (qCount s q)) % 2 ^ 32 ∧
        (∀ i, i ≠ .cons → t.qix q i = s.qix q i) ∧ copiesAgree t q = true ∧ Frame [.Q_CONS] s t ∧ FrameParts [.queues] s t) ∧
      (∃ t, exec (.mark a q w) s = .next t ∧ t.qix q .mark = s.qix q .cons ∧
        (∀ i, i ≠ .mark → t.qix q i = s.qix q i) ∧ copiesAgree t q = true ∧ Frame [.Q_MARK] s t ∧ FrameParts [.queues] s t) ∧
      (∃ t, exec (.rewind a q w) s = .next t ∧ t.qix q .cons = s.qix q .mark ∧
        (∀ i, i ≠ .cons → t.qix q i = s.qix q i) ∧ copiesAgree t q = true ∧ Frame [.Q_CONS] s t ∧ FrameParts [.queues] s t) ∧
      (∃ t, exec (.release a q w) s = .next t ∧ releasedTo s t q (cmdCount w) ∧ copiesAgree t q = true)) ∧
    (s.qstate q ≠ qsRunning ∨ isConsumer s a q = false →
      ∀ i ∈ [Instr.advance a q w, .mark a q w, .rewind a q w, .release a q w], ∃ t, exec i s = .next t ∧
        countedOnce F.Q_COUNTS_BAD_CMD q s t ∧ Frame [.Q_COUNTS] s t ∧ FrameParts [] s t)) ∧
  (∀ (a : Agent) (q : Fin 256) (w : Word) (s : State), Allowed a (queueOff q) s →
    ((w ||| 1).toNat % 8 = 1 → s.qstate q ≠ qsUnconf → ∃ t, exec (.queueStop a q w) s = .next t ∧
      t.qstate q = (if s.qstate q = qsRunning then qsStopping else s.qstate q) ∧ t.fget F.Q_STATUS_CAUSE q = 0 ∧
      Frame [.Q_STATUS] s t ∧ FrameParts [] s t) ∧
    ((w ||| 2).toNat % 8 = 2 → s.qstate q = qsStopped → ∃ t, exec (.queueStart a q w) s = .next t ∧
      t.qstate q = qsRunning ∧ (t.queue q).changed = false ∧ (t.queue q).config = s.rd .Q_CONFIG q ∧
      (t.queue q).baseLo = s.rd .Q_BASE_LO q ∧ (t.queue q).baseHi = s.rd .Q_BASE_HI q) ∧
    ((w ||| 4).toNat % 8 = 4 → s.qstate q = qsStopped → ∃ t, exec (.queueClear a q w) s = .next t ∧
      t.qstate q = qsStopped ∧ (∀ i, t.qix q i = 0) ∧ copiesAgree t q = true) ∧
    ((w ||| 1).toNat % 8 = 1 → s.qstate q = qsUnconf → ∃ t, exec (.queueStop a q w) s = .next t ∧ t.qstate q = qsUnconf ∧
      countedOnce F.Q_COUNTS_BAD_CMD q s t ∧ t.fget F.Q_STATUS_CAUSE q = 0x20)) ∧
  (∀ (q : Fin 256) (s : State), s.qstate q = qsStopping → (s.queue q).acc = [] → ∃ t, exec (.queueStopped q) s = .next t ∧
    t.qstate q = qsStopped ∧ Frame [.Q_STATUS, .NDL_STREAM_STATUS] s t ∧ FrameParts [] s t)

/-- A push has taken a slot: the pool of host credits follows the free slots (R355). -/
def poolFollows (t : State) (q : Nat) : Prop :=
  t.qstate q = qsRunning → permits t q .host = true → t.fget F.Q_CREDITS_POOL q = min 64 (qFree t q)

/-- Pushes (R354 to R356, R425): the head of the reserved slots lands whole in the slot of PROD, which advances, and an arrival
in an empty queue with ARRIVE sets m62 on the consumer panel; the head of the stalled pushes takes a free slot; a steward's
push reads its item and takes a slot, or stalls when none is free; a stalled steward push gives up and is counted. An item of
a context queue that has landed is marked there, one whose push has given up is taken again. -/
def Obligations.PushesLand : Prop :=
  (∀ (q : Fin 256) (s : State) (x : Push) (rest : List Push), s.qstate q = qsRunning ∨ s.qstate q = qsStopping →
    copiesAgree s q = true → (s.queue q).acc = x :: rest → x.whole = true →
    stagingHeld s (qSlot s q (s.qix q .prod)) (qItem s q) = false → ∃ t, exec (.land q) s = .next t ∧
      t.dram = memWrite s.dram (qSlot s q (s.qix q .prod)) (sliceB x.bytes 0 (qItem s q)) ∧
      t.qix q .prod = (s.qix q .prod + 1) % 2 ^ 32 ∧ (t.queue q).acc = rest ∧
      (∀ k, x.src = .dispatch k → t.qix k .mark = s.qix k .cons) ∧
      (qFld s F.Q_CONFIG_ARRIVE q = 1 → qCount s q = 0 → ∀ p, consPanel s q = some p →
        ∀ c ∈ s.coresOf p, markerOn t c 62 = true)) ∧
  (∀ (q : Fin 256) (s : State) (x : Push) (rest : List Push), s.qstate q = qsRunning → copiesAgree s q = true →
    (s.queue q).stalled = x :: rest → 0 < qFree s q → ∃ t, exec (.stalledPushAccept q) s = .next t ∧
      (t.queue q).acc = (s.queue q).acc ++ [x] ∧ (t.queue q).stalled = rest ∧ poolFollows t q ∧
      (permits s q .host = false → Frame (.NDL_STREAM_STATUS :: vectorRegs) s t ∧ FrameParts [.queues] s t)) ∧
  (∀ (i : Fin 6) (q : Fin 256) (w : Word) (s : State) (addr : Nat), Allowed (.steward i) (queueOff q + 0x30) s →
    s.qstate q ≠ qsUnconf → permits s q .steward = true → addr = bits w.toNat 0 7 * 2 ^ 32 + (s.queue q).srcLo.toNat →
    s.inFixed addr (qItem s q) = true → badAmong s.badPhys addr (qItem s q) = [] →
    (s.qstate q = qsRunning → copiesAgree s q = true) → ∃ t, exec (.stewardPush i q w) s = .next t ∧
      (s.qstate q = qsRunning ∧ (s.queue q).stalled = [] ∧ 0 < qFree s q →
        (t.queue q).acc = (s.queue q).acc ++ [⟨.steward i, s.dramRead addr (qItem s q), true⟩] ∧ (t.queue q).stalled = [] ∧
        poolFollows t q) ∧
      (¬(s.qstate q = qsRunning ∧ (s.queue q).stalled = [] ∧ 0 < qFree s q) →
        t.queue q = { s.queue q with stalled := (s.queue q).stalled ++ [⟨.steward i, s.dramRead addr (qItem s q), true⟩] } ∧
        Frame [] s t ∧ FrameParts [.queues] s t) ∧
      (∀ j, t.qix q j = s.qix q j) ∧ (permits s q .host = false → Frame [] s t ∧ FrameParts [.queues] s t)) ∧
  (∀ (q : Fin 256) (s : State) (x : Push), (s.queue q).stalled.find? (fun y => isSteward y.src) = some x →
    ∃ t, exec (.pushTimeout q) s = .next t ∧
    (t.queue q).stalled = (s.queue q).stalled.eraseP (fun x => isSteward x.src) ∧ countedOnce F.Q_COUNTS_PUSH_TIMEOUT q s t ∧
    (∀ k, x.src = .dispatch k → t.qix k .cons = s.qix k .mark ∧ Frame [.Q_COUNTS, .Q_CONS] s t ∧ FrameParts [.queues] s t) ∧
    (∀ k, x.src = .steward k → Frame [.Q_COUNTS] s t ∧ FrameParts [.queues] s t))

/-- A read of n items of queue q into handle h may go: they have landed, no load holds the ring, and no block is bad. -/
def readGoes (s : State) (q n : Nat) : Prop :=
  s.qstate q = qsRunning ∧ copiesAgree s q = true ∧ n ≤ qCount s q ∧
  stagingHeld s (qBase s q) (qCap s q * qItem s q) = false ∧ s.badPhys = []

/-- What a read moves: CONS, and the items from the old CONS on into the destination, as the pages stand in v (R353, R359). -/
def itemsRead (v s t : State) (q n h : Nat) : Prop :=
  t.qix q .cons = (s.qix q .cons + n) % 2 ^ 32 ∧ (∀ i, i ≠ .cons → t.qix q i = s.qix q i) ∧
  t.tens = (v.put h (bytePuts 0 ((List.range n).flatMap fun j => s.dramRead (qSlot s q (s.qix q .cons + j)) (qItem s q)))).1.tens

/-- The queue macro-instructions (R358 to R361, R363): QUEUE_READ takes its items, or waits until enough have landed; a push
gives each item a slot while there is one and none stalls, the rest stall in order; MARK, REWIND and RELEASE move the
indices of a running queue, and wait while it does not run. -/
def Obligations.QueueInstructions : Prop :=
  (∀ (c : Fin 1056) (st : Strm) (s : State) (p : Nat) (m : List Byte), enters (opRead false) s c st p m →
    isFirst (opRead false) s c st p m → skeinRoom s (newFlight (opRead false) s c st p m) 0 false = true → (∀ f ∈ s.flights, waitsRead (miOpx m 0 1) f = false) →
    ∃ t, exec (.queueRead c st) s = .next t ∧
      (readGoes s (miOpx m 0 1) (opN m) → itemsRead (skeinPut s (newFlight (opRead false) s c st p m) 0 false) s t (miOpx m 0 1) (opN m) (hHandle (miDst m))) ∧
      (s.qstate (miOpx m 0 1) = qsRunning → copiesAgree s (miOpx m 0 1) = true → qCount s (miOpx m 0 1) < opN m →
        t.qix (miOpx m 0 1) .cons = s.qix (miOpx m 0 1) .cons ∧ t.tens = s.tens ∧
        ∃ g ∈ t.flights, g.id = s.freshId ∧ g.waiting = true)) ∧
  (∀ (c : Fin 1056) (st : Strm) (s : State) (f : Flight), (s.flights.find? fun f => f.strm == st && some f.panel == s.ownerOf c &&
      (f.core == none || f.core == some c.val) && waitsRead (opQueue f) f) = some f → s.flight f.id = some f →
    s.flights.find? (waitsRead (opQueue f)) = some f → readGoes s (opQueue f) (opN f.mi) →
    ∃ t, exec (.queueReadSatisfied c st) s = .next t ∧ itemsRead s s t (opQueue f) (opN f.mi) (hHandle (miDst f.mi))) ∧
  (∀ (c : Fin 1056) (st : Strm) (s : State) (p : Nat) (m : List Byte) (q k : Nat) (items : List Push),
    enters (opRead true) s c st p m → isFirst (opRead true) s c st p m →
    skeinRoom s (newFlight (opRead true) s c st p m) 0 false = true → q = miOpx m 0 1 → s.badTens = [] →
    (s.qstate q = qsRunning → copiesAgree s q = true) →
    k = (if s.qstate q = qsRunning ∧ (s.queue q).stalled = [] then min (opN m) (qFree s q) else 0) →
    items = (List.range (opN m)).map (fun j => ⟨.core s.freshId j, s.tRead (hHandle (miSrc m 0)) (j * qItem s q) (qItem s q), true⟩) →
    ∃ t, exec (.corePush c st) s = .next t ∧ (t.queue q).acc = (s.queue q).acc ++ items.take k ∧
      (t.queue q).stalled = (s.queue q).stalled ++ items.drop k) ∧
  (∀ (c : Fin 1056) (st : Strm) (op : Nat) (i : Instr), (op, i) ∈ [(0x39, Instr.queueMark c st), (0x3A, .queueRewind c st),
      (0x3B, .queueRelease c st)] →
    ∀ (s : State) (p : Nat) (m : List Byte) (q : Nat), enters (opIndex op) s c st p m → isFirst (opIndex op) s c st p m →
    skeinRoom s (newFlight (opIndex op) s c st p m) 0 false = true → q = miOpx m 0 1 → ∃ t, exec i s = .next t ∧
      (s.qstate q = qsRunning → copiesAgree s q = true →
        (op = 0x39 → t.qix q .mark = s.qix q .cons ∧ ∀ j, j ≠ .mark → t.qix q j = s.qix q j) ∧
        (op = 0x3A → t.qix q .cons = s.qix q .mark ∧ ∀ j, j ≠ .cons → t.qix q j = s.qix q j) ∧
        (op = 0x3B → releasedTo s t q (if opN m = 0xFFFFFFFF then 2 ^ 32 else opN m))) ∧
      (s.qstate q ≠ qsRunning → (∀ j, t.qix q j = s.qix q j) ∧ ∃ g ∈ t.flights, g.id = s.freshId ∧ g.waiting = true))

/-! Links. -/

/-- A port that has failed: its cause, no width, and nothing queued or held on it (R375). -/
def portFailed (t : State) (p cause : Nat) : Prop :=
  t.lstate p = lsFailed ∧ t.fget F.LNK_STATUS_CAUSE p = cause ∧ t.fget F.LNK_STATUS_WIDTH p = 0 ∧ t.port p = noPort ∧
  (∀ h ∈ t.heldSets, h.1 ≠ p) ∧ ∀ x ∈ t.openTags, x.port ≠ p

/-- A port that has stopped: nothing is queued or held on it (R374). -/
def portStopped (t : State) (p : Nat) : Prop :=
  t.lstate p = lsStopped ∧ t.port p = noPort ∧ (∀ h ∈ t.heldSets, h.1 ≠ p) ∧ ∀ x ∈ t.openTags, x.port ≠ p

/-- Lanes that a port loses (R372): bad lanes stay bad; when an active one is lost the port drops to the next legal width that
the good lanes carry, or fails; a STOPPING one then stops (R374). -/
def lanesLost (s t : State) (p : Nat) (lost : List Nat) : Prop :=
  let good := s.fget F.LNK_STATUS_GOOD_LANES p
  let left := maskOf ((List.range 8).filter fun i => bitOf good i && !lost.contains i)
  let next := (legalWidths (s.fget F.LNK_STATUS_ROLE p)).find? fun w =>
    decide (w < s.fget F.LNK_STATUS_WIDTH p) && decide (w ≤ popCount 8 left)
  t.fget F.LNK_STATUS_GOOD_LANES p = left ∧
  ((∀ i ∈ activeLanes good (s.fget F.LNK_STATUS_WIDTH p), i ∉ lost) → t.fget F.LNK_STATUS_WIDTH p = s.fget F.LNK_STATUS_WIDTH p ∧
    t.lstate p = s.lstate p) ∧
  ((∃ i ∈ activeLanes good (s.fget F.LNK_STATUS_WIDTH p), i ∈ lost) →
    (∀ w, next = some w → t.fget F.LNK_STATUS_WIDTH p = w ∧ t.lstate p = s.lstate p ∧
      countedOnce F.LNK_LINK_COUNTS_DEGRADES p s t ∧ (t.port p).line = (s.port p).retry.map fun e => (e.1, e.2.2)) ∧
    (next = none → (s.lstate p ≠ lsStopping → portFailed t p 2) ∧ (s.lstate p = lsStopping → portStopped t p)))

/-- Port states (R371 to R376): silence retrains, or stops a STOPPING port; retraining ends UP, with the flits not acknowledged
on the line again, or in FAILED with cause 5; lost lanes and windows over the limit degrade; the drain of STOPPING ends
STOPPED. -/
def Obligations.PortsRetrain : Prop :=
  ∀ (p : Fin 16) (s : State),
    (s.lstate p = lsUp → ∃ t, exec (.linkSilenceTimeout p) s = .next t ∧ t.lstate p = lsRetraining ∧
      countedOnce F.LNK_LINK_COUNTS_RETRAINS p s t ∧ bitOf (t.rd .LNK_EVENT p).toNat 1 = true ∧
      (t.port p).retry = (s.port p).retry ∧ (t.port p).txSeq = (s.port p).txSeq ∧ (t.port p).rxSeq = (s.port p).rxSeq ∧
      (∀ h ∈ t.heldSets, h.1 ≠ p.val) ∧ ∀ x ∈ t.openTags, x.port ≠ p.val) ∧
    (s.lstate p = lsStopping → ∃ t, exec (.linkSilenceTimeout p) s = .next t ∧ portStopped t p) ∧
    (s.lstate p = lsRetraining → (∃ t, exec (.retrainDone p) s = .next t ∧ t.lstate p = lsUp ∧ (t.port p).rxSeq = (s.port p).rxSeq ∧
        (t.port p).resends = 0 ∧ (s.port p).retry <+: (t.port p).retry ∧
        ((s.port p).rxWait = [] → (t.port p).line = (t.port p).retry.map fun e => (e.1, e.2.2))) ∧
      ∃ t, exec (.retrainTimeout p) s = .next t ∧ portFailed t p 5) ∧
    (∀ lane : Fin 8, s.lstate p = lsUp ∨ s.lstate p = lsStopping →
      ∃ t, exec (.laneLoss p lane) s = .next t ∧ lanesLost s t p [lane.val]) ∧
    (∀ counts bad, s.lstate p = lsUp ∨ s.lstate p = lsStopping →
      bad = (activeLanes (s.fget F.LNK_STATUS_GOOD_LANES p) (s.fget F.LNK_STATUS_WIDTH p)).filter
        (fun i => decide (s.fget F.LNK_CONFIG_DEG_LIMIT p < counts.getD i 0)) →
      ∃ t, exec (.degradeWindowEnd p counts) s = .next t ∧
        t.fget F.LNK_FEC_CORR_COUNT p = min (2 ^ F.LNK_FEC_CORR_COUNT.width - 1) (s.fget F.LNK_FEC_CORR_COUNT p +
          ((activeLanes (s.fget F.LNK_STATUS_GOOD_LANES p) (s.fget F.LNK_STATUS_WIDTH p)).map fun i => counts.getD i 0).foldl (· + ·) 0) ∧
        (bad ≠ [] → lanesLost s t p bad)) ∧
    (s.lstate p = lsStopping → ((s.port p).retry = [] → (s.port p).egress = [] →
        ∃ t, exec (.portDrained p) s = .next t ∧ portStopped t p) ∧
      ∃ t, exec (.portDrainTimeout p) s = .next t ∧ portStopped t p)

/-- Training and the port commands (R374, R375, R386, R387): a port in TRAINING comes UP with the role that the pattern or the
far end gives it and the widest legal width, and no HOST port shares its context, or fails with its cause; STOP and START by state, a command that does not
fit counting BAD_CMD with CAUSE 0x20. -/
def Obligations.PortsTrain : Prop :=
  (∀ (p : Fin 16) (far : FarEnd) (fw : Nat) (good : BitVec 8) (s : State) (role : Nat), s.lstate p = lsTraining →
    role = (if listedPort s p then s.fget F.LNK_CONFIG_ROLE p else foundRole far) →
    ∃ t, exec (.trainingDone p far fw good) s = .next t ∧
      (far = .adapter → s.isMaster = false → portFailed t p 3) ∧
      (¬(far = .adapter ∧ s.isMaster = false) → listedPort s p = true → roleAgrees (s.fget F.LNK_CONFIG_ROLE p) far = false →
        portFailed t p 1) ∧
      (¬(far = .adapter ∧ s.isMaster = false) → (listedPort s p = true → roleAgrees (s.fget F.LNK_CONFIG_ROLE p) far = true) →
        (role = roleHost → 8 ≤ ((hostPorts s).filter (· != p.val)).length → portFailed t p 6) ∧
        (¬(role = roleHost ∧ 8 ≤ ((hostPorts s).filter (· != p.val)).length) → ∀ next,
          next = ((legalWidths role).find? fun w => decide (w ≤ fw) && decide (w ≤ s.fget F.LNK_CONFIG_MAX_WIDTH p) &&
            decide (w ≤ popCount 8 good.toNat)) →
          (next = none → portFailed t p 2) ∧
          ∀ w, next = some w → t.lstate p = lsUp ∧ t.fget F.LNK_STATUS_WIDTH p = w ∧
            t.fget F.LNK_STATUS_ROLE p = role % 4 ∧ t.port p = noPort ∧
            (role = roleHost → ∀ q ∈ hostPorts t, q ≠ p.val → t.fget F.LNK_CONFIG_HCTX q ≠ t.fget F.LNK_CONFIG_HCTX p)))) ∧
  (∀ (p : Fin 16) (s : State), s.lstate p = lsTraining → ∃ t, exec (.trainingTimeout p) s = .next t ∧ portFailed t p 1) ∧
  (∀ (a : Agent) (p : Fin 16) (w : Word) (s : State), Allowed a (lnkOff p) s →
    (bitOf (w ||| 1).toNat 1 = false → ∃ t, exec (.portStop a p w) s = .next t ∧
      (s.lstate p = lsUp → carries a p = false → t.lstate p = lsStopping ∧ Frame [.LNK_STATUS] s t ∧ FrameParts [] s t) ∧
      (s.lstate p ∈ [lsTraining, lsRetraining, lsFailed] → carries a p = false → portStopped t p) ∧
      (s.lstate p = lsOff ∨ carries a p = true → t.lstate p = s.lstate p ∧ t.fget F.LNK_STATUS_CAUSE p = 0x20 ∧
        countedOnce F.LNK_LINK_COUNTS_BAD_CMD p s t)) ∧
    (bitOf (w ||| 2).toNat 0 = false → ∃ t, exec (.portStart a p w) s = .next t ∧
      (s.lstate p ∈ [lsOff, lsStopped, lsFailed] → t.lstate p = (if s.fget F.LNK_CONFIG_ROLE p = 0 then lsOff else lsTraining) ∧
        Frame [.LNK_STATUS] s t ∧ FrameParts [.coldPorts] s t) ∧
      (s.lstate p ∉ [lsOff, lsStopped, lsFailed] → t.lstate p = s.lstate p ∧ t.fget F.LNK_STATUS_CAUSE p = 0x20 ∧
        countedOnce F.LNK_LINK_COUNTS_BAD_CMD p s t)))

/-- A packet has been heard on a port: its flits are owed back to the sender by lane (R377). -/
def heard (s : State) (p : Nat) (q : Packet) : State :=
  s.setPort p { s.port p with owed := assocPut (s.port p).owed q.vl.toNat (assocGet (s.port p).owed q.vl.toNat + flitsOf q) }

/-- Packets for this device (R330 to R334, R354, R355, R379 to R383): writes store and reads answer with what stands there, a
fenced write counts under its tag; control packets write and read registers; a push of a whole item takes a slot or stalls;
a set that its fence lets go is applied, else it is held until it may; an ordered packet that a full port may not take waits in
its receive buffer; answers that this device itself does not await, and attention messages, are discarded. The data of a
gradient tile joins its window with its contribution (the model's choice: log entry 159). -/
def Obligations.PacketsActHere : Prop :=
  ∀ (p : Fin 16) (pkt : Packet) (s : State),
    (∀ (typ : BitVec 8) (i : Instr), (typ, i) ∈ [((1 : BitVec 8), Instr.write p pkt), (2, .writeBulk p pkt)] →
      ∀ r, r = asTaken s p { pkt with typ := typ } → forThis s p { pkt with typ := typ } →
      (∀ a, wordPlace r.w1.toNat = .phys a → s.inFixed a r.data.length = true → stagingHeld s a r.data.length = false → s.badPhys = [] →
        ∃ t, exec i s = .next t ∧ t.dram = memWrite s.dram a r.data ∧
          (r.fenced = false → t = settle (let u := { heard s p { pkt with typ := typ } with dram := memWrite s.dram a r.data }
            if r.rsp then respond u r 5 rsOk [] else u)) ∧
          (r.fenced = true → ∃ x ∈ t.openTags, sameTag p r x = true ∧ x.count = (tagIn s p r).count + r.len.toNat)) ∧
      (∀ h off, wordPlace r.w1.toNat = .tensor h off → s.desc h ≠ none → s.badTens = [] → ∃ t, exec i s = .next t ∧
        (tileWrite s h off = false → t.tens = (s.put h (bytePuts off r.data)).1.tens) ∧
        (tileWrite s h off = true → t.tens = s.tens))) ∧
    (∀ r, r = asTaken s p { pkt with typ := 3 } → forThis s p { pkt with typ := 3 } →
      (∀ a, wordPlace r.w1.toNat = .phys a → s.inFixed a (64 * r.len.toNat) = true → badAmong s.badPhys a (64 * r.len.toNat) = [] →
        exec (.read p pkt) s = .next (settle (respond (heard s p { pkt with typ := 3 }) r 4 rsOk (s.dramRead a (64 * r.len.toNat))))) ∧
      (∀ h off, wordPlace r.w1.toNat = .tensor h off → s.desc h ≠ none → s.badTens = [] →
        exec (.read p pkt) s = .next (settle (respond (heard s p { pkt with typ := 3 }) r 4 rsOk (s.tRead h off (64 * r.len.toNat)))))) ∧
    (∀ r off w, r = asTaken s p { pkt with typ := 8 } → forThis s p { pkt with typ := 8 } → off = bits r.w1.toNat 0 29 →
      w = BitVec.ofNat 32 (bits r.w1.toNat 29 32) → ∀ u, u = heard s p { pkt with typ := 8 } →
      (dupTold s r off w = none → exec (.ctrlWrite p pkt) s = .next (settle (respond (u.ctrlStore (packetAgent p r) off w 32 0) r 5
        (if refused u (packetAgent p r) off w then rsAccess else rsOk) []))) ∧
      (∀ k, dupTold s r off w = some k → ∃ t, exec (.ctrlWrite p pkt) s = .next t ∧ portFailed t k 4)) ∧
    (∀ r u, r = asTaken s p { pkt with typ := 9 } → forThis s p { pkt with typ := 9 } →
      u = (heard s p { pkt with typ := 9 }).ctrlLoad (packetAgent p r) (bits r.w1.toNat 0 29) 0 →
      exec (.ctrlRead p pkt) s = .next (settle (respond u r 0x0A (rsOk + u.readback.toNat * 2 ^ 32) []))) ∧
    (∀ r q, r = asTaken s p { pkt with typ := 0x10 } → forThis s p { pkt with typ := 0x10 } → q = r.w1.toNat % 256 →
      s.qstate q ≠ qsUnconf → r.host = true → permits s q .host = true → (s.qstate q = qsRunning → copiesAgree s q = true) →
      (∀ x ∈ (s.queue q).acc ++ (s.queue q).stalled, x.whole = true) → qItem s q ≤ 4096 →
      partOk s q (bits r.w1.toNat 16 16) (bitOf r.w1.toNat 32) r.data.length = true → (s.queue q).granted ≠ 0 →
      ∃ t, exec (.queuePush p pkt) s = .next t ∧ ∀ y, y = ⟨.host p r.src.toNat r.hctx.toNat r.tag.toNat r.rsp, r.data, true⟩ →
        (s.qstate q = qsRunning ∧ (s.queue q).stalled = [] ∧ 0 < qFree s q → (t.queue q).acc = (s.queue q).acc ++ [y]) ∧
        (¬(s.qstate q = qsRunning ∧ (s.queue q).stalled = [] ∧ 0 < qFree s q) → (t.queue q).stalled = (s.queue q).stalled ++ [y])) ∧
    (∀ r, r = asTaken s p { pkt with typ := 0x18 } → forThis s p { pkt with typ := 0x18 } → (∀ h ∈ s.heldSets, h.1 ≠ p.val) →
      ∃ t, exec (.markerSetPacket p pkt) s = .next t ∧
        (setReady s (p.val, r) = false → t.heldSets = s.heldSets ++ [(p.val, r)] ∧ FrameParts [.ports, .heldSets] s t ∧ Frame [] s t) ∧
        (∀ c, setReady s (p.val, r) = true → (r.fenced = true → (tagIn s p r).failed = false) → setIdIn r < 0x10000 → setIdIn r % 64 < 60 →
          s.liveOf (setIdIn r / 64) = some c → markerOn t c (setIdIn r % 64) = true)) ∧
    (∀ (typ : BitVec 8) (i : Instr), (typ, i) ∈ [((1 : BitVec 8), Instr.write p pkt), (0x10, .queuePush p pkt),
        (0x18, .markerSetPacket p pkt)] → ∀ r, r = asTaken s p { pkt with typ := typ } → accepted s p { pkt with typ := typ } →
      overLimit s p (((s.port p).rxWait ++ [r]).headD r) = true →
      exec i s = .next (settle ((s.setPort p { s.port p with rxWait := (s.port p).rxWait ++ [r] }).pump p))) ∧
    (∀ i h c, readyAt s p = some i → (s.port p).rxWait = [] → s.heldSets[i]? = some h → (h.2.fenced = true → (tagIn s h.1 h.2).failed = false) →
      setIdIn h.2 < 0x10000 → setIdIn h.2 % 64 < 60 → s.liveOf (setIdIn h.2 / 64) = some c →
      ∃ t, exec (.fenceSetApply p) s = .next t ∧ markerOn t c (setIdIn h.2 % 64) = true) ∧
    (∀ (typ : BitVec 8) (i : Instr), (typ, i) ∈ [((4 : BitVec 8), Instr.readData p pkt), (5, .completion p pkt), (0x0A, .ctrlData p pkt),
        (0x23, .attn p pkt)] → forThis s p { pkt with typ := typ } → (typ = 0x0A → s.discAsked = false) → exec i s = .next (settle (heard s p { pkt with typ := typ })))

/-- A flit is discarded (R370): the sequence stays, and one NAK for the gap, with the number of the last good flit, goes out at
once when the port has nothing else to send. -/
def flitDropped (s t : State) (p : Nat) : Prop :=
  (t.port p).rxSeq = (s.port p).rxSeq ∧ (t.port p).partials = (s.port p).partials ∧ (t.port p).nakSent = true ∧
  ((s.port p).nakSent = true → t.port p = s.port p) ∧
  ((s.port p).nakSent = false → (s.port p).egress = [] → (s.port p).retry.length < 2048 → (s.port p).txSeq < 4096 →
    ∃ h, (s.port p).retry ++ [(h, 0, [])] <+: (t.port p).retry ∧ bits h 0 12 = (s.port p).txSeq ∧
      bits h 12 12 = ((s.port p).rxSeq + 4095) % 4096 ∧ bitOf h 24 = true)

/-- Packets for others, and the flits that carry packets (R368, R370, R377, R381, R384, R386): a packet for another device
leaves on the port of its route, counted in NO_ROUTE without one; an answer that a host awaits ends its request, and an attention message leaves for its host context; a request
not answered in time completes with TIMEOUT. A flit with a bad CRC or out of sequence is discarded and answered by a
NAK; a good one advances the sequence, and one with NAK has every flit not acknowledged go out again. A port that is UP sends a packet at once when its lane has credits. -/
def Obligations.PacketsTravel : Prop :=
  (∀ (p e : Fin 16) (pkt : Packet) (s : State), hears s p pkt → pkt.typ ≠ 0x20 → pkt.dst.toNat ≠ s.ownId →
    fromHostPort s p = false → pkt.hops.toNat < 7 → s.routeChange = [] → s.reqWait = [] → cascadeRsp s pkt = false →
    (s.routeTo pkt.dst.toNat = some e.val →
      exec (.packetForward p pkt) s = .next (settle ((heard s p pkt).enqueue e (asTaken s p pkt)))) ∧
    (s.routeTo pkt.dst.toNat = none → wantsAnswer pkt = false → ∃ t, exec (.packetForward p pkt) s = .next t ∧
      countedOnce F.LNK_PKT_COUNTS_NO_ROUTE (s.countPort pkt p) s t)) ∧
  (∀ (p e : Fin 16) (pkt : Packet) (s : State) (typ : BitVec 8) (i : Instr), (typ, i) ∈ [((4 : BitVec 8), Instr.readData p pkt),
      (5, .completion p pkt), (0x0A, .ctrlData p pkt)] → hears s p { pkt with typ := typ } → pkt.dst.toNat = s.ownId → s.isMaster = true →
    fromHostPort s p = false → pkt.host = true → pkt.hops.toNat < 7 → s.reqWait = [] → s.routeChange = [] →
    s.hostPort pkt.hctx.toNat = some e.val → (∃ x ∈ s.requests, x.tag = pkt.tag.toNat ∧ x.hctx = pkt.hctx.toNat) →
    ∃ t, exec i s = .next t ∧ t.requests = s.requests.eraseP (fun x => x.tag == pkt.tag.toNat && x.hctx == pkt.hctx.toNat) ∧
      t.ports = ((heard s p { pkt with typ := typ }).enqueue e (asTaken s p { pkt with typ := typ })).ports) ∧
  (∀ (p e : Fin 16) (pkt q : Packet) (s : State), q = { pkt with typ := 0x23 } → hears s p q → fromHostPort s p = false →
    q.hops.toNat < 7 → s.reqWait = [] →
    (q.dst.toNat ≠ s.ownId ∧ s.routeTo q.dst.toNat = some e.val ∨
      q.dst.toNat = s.ownId ∧ s.isMaster = true ∧ q.host = true ∧ s.hostPort q.hctx.toNat = some e.val) →
    exec (.attn p pkt) s = .next (settle ((heard s p q).enqueue e (asTaken s p q)))) ∧
  (∀ (tag : BitVec 12) (s : State) (x : Request), s.requests.find? (fun y => y.tag == tag.toNat) = some x → s.reqWait = [] →
    ∃ t, exec (.responseTimeout tag) s = .next t ∧
      (x.hctx ≠ 8 → t.requests = s.requests.eraseP (fun y => y.tag == tag.toNat)) ∧
      (x.hctx = 8 → t.discTodo = s.discTodo.drop 1) ∧
      countedOnce F.LNK_PKT_COUNTS_TIMEOUT x.port s t) ∧
  (∀ (p : Fin 16) (b : List Byte) (s : State), portHears s p = true →
    (flitCrcOk b = false → ∃ t, exec (.flitReceive p b) s = .next t ∧ countedOnce F.LNK_ERR_COUNTS_CRC_ERR p s t ∧
      flitDropped s t p) ∧
    (flitCrcOk b = true → flitHdr b 0 12 ≠ (s.port p).rxSeq → ∃ t, exec (.flitReceive p b) s = .next t ∧ flitDropped s t p) ∧
    (flitCrcOk b = true → flitHdr b 0 12 = (s.port p).rxSeq → flitHdr b 24 1 = 0 → ∀ space,
      space = (s.port p).partials ++ (b.drop 8).take 304 → cutPackets (space.length / 16) space = ([], space) →
      ∃ t, exec (.flitReceive p b) s = .next t ∧ (t.port p).rxSeq = ((s.port p).rxSeq + 1) % 4096 ∧ (t.port p).partials = space) ∧
    (flitCrcOk b = true → flitHdr b 0 12 = (s.port p).rxSeq → flitHdr b 24 1 = 1 → ∀ x, x = acknowledge (s.port p) (flitHdr b 12 12) →
      x.retry ≠ [] → x.resends < 8 → (s.port p).rxWait = [] → (∀ space, space = (s.port p).partials ++ (b.drop 8).take 304 →
        cutPackets (space.length / 16) space = ([], space)) → ∃ t, exec (.flitReceive p b) s = .next t ∧
      countedOnce F.LNK_ERR_COUNTS_RETRIES p s t ∧ x.retry <+: (t.port p).retry ∧
      (t.port p).line = (t.port p).retry.map fun e => (e.1, e.2.2))) ∧
  (∀ (p : Fin 16) (q : Packet) (s : State), s.lstate p = lsUp → (s.port p).egress = [] →
    assocGet (s.port p).credits q.vl.toNat + flitsOf q ≤ vlBuffer q.vl.toNat → (s.port p).retry.length + flitsOf q ≤ 2048 →
    ((s.enqueue p q).port p).egress = [] ∧
    (s.port p).retry.map (·.2.2) ++ flitChunks q <+: ((s.enqueue p q).port p).retry.map (·.2.2) ∧
    ((s.port p).nakOwed = false → (∀ x ∈ (s.port p).owed, x.2 = 0) →
      ((s.enqueue p q).port p).retry.map (·.2.2) = (s.port p).retry.map (·.2.2) ++ flitChunks q ∧
      ((s.enqueue p q).port p).line.map (·.2) = flitChunks q ∧
      ((s.enqueue p q).port p).txSeq = ((s.port p).txSeq + flitsOf q) % 4096))

/-- Routes, discovery and identities (R384, R385, R388 to R390): LNK_ROUTE_DATA sets the entry of the selected ID; a master's
START begins a discovery, first of its own PEER ports, which ends DONE without one; a device that no DISCOVER passes answers DISCOVER with its slot and identity;
a new member's slot joins the group with a route, a slot taken twice fails the port with cause 4; the first ASSIGN_ID
gives a member its ID. -/
def Obligations.DevicesDiscovered : Prop :=
  (∀ (a : Agent) (w : Word) (s : State), Allowed a 0x00040018 s → ∃ t, exec (.routeWrite a w) s = .next t ∧
    t.routeWordOf (s.fget F.LNK_ROUTE_SEL_ID 0) = (bits w.toNat 0 4, bitOf w.toNat 4) ∧
    (∀ d, d ≠ s.fget F.LNK_ROUTE_SEL_ID 0 → t.routeWordOf d = s.routeWordOf d) ∧ Frame [] s t ∧ FrameParts [.routes, .routeChange] s t) ∧
  (∀ (a : Agent) (w : Word) (s : State), Allowed a 0x00040008 s →
    (s.isMaster = true → s.fget F.LNK_DISC_STATUS_STATE 0 ≠ 1 → ∀ ps,
      ps = ((List.range 16).filter fun p => s.lstate p == lsUp && s.fget F.LNK_STATUS_ROLE p == rolePeer) →
      ∃ t, exec (.discoveryStart a w) s = .next t ∧ t.discTodo = ps.map (fun k => (s.ownId, k)) ∧ t.discStarted = true ∧
        t.fget F.LNK_DISC_STATUS_STATE 0 = (if ps = [] then 2 else 1)) ∧
    (s.isMaster = false ∨ s.fget F.LNK_DISC_STATUS_STATE 0 = 1 → ∃ t, exec (.discoveryStart a w) s = .next t ∧
      t.discTodo = s.discTodo ∧ t.fget F.LNK_DISC_STATUS_STATE 0 = s.fget F.LNK_DISC_STATUS_STATE 0 ∧
      Frame [.LNK_LINK_COUNTS] s t ∧ FrameParts [] s t)) ∧
  (∀ (p : Fin 16) (pkt : Packet) (s : State), portHears s p = true → packetOk { pkt with typ := 0x20 } = true → s.bootHalted = false →
    s.isMaster = false → (s.idValid = true → s.ownId / 32 = pkt.src.toNat / 32) →
    discPast s p { pkt with typ := 0x20 } = false →
    exec (.discover p pkt) s = .next (settle ((heard s p { pkt with typ := 0x20 }).enqueue p (mkPacket s 0x21 pkt.src.toNat pkt.tag.toNat
      (s.fget F.LNK_FABRIC_SLOT_ID 0 + b2n s.idValid * 2 ^ 6 + s.ownId * 2 ^ 7) [])))) ∧
  (∀ (p : Fin 16) (pkt : Packet) (s : State) (slot : Nat), forThis s p { pkt with typ := 0x21 } → s.isMaster = true →
    s.fget F.LNK_DISC_STATUS_STATE 0 = 1 → slot = pkt.w1.toNat % 32 → bitOf pkt.w1.toNat 5 = false → bitOf pkt.w1.toNat 6 = false →
    s.discTodo.head? = some (s.ownId, p.val) → (s.ownId, p.val) ∉ s.discTodo.drop 1 → s.discAsked = false → s.ownId = s.masterId →
    (∀ e ∈ s.discLinks, e.2.2 ≠ s.masterId + slot) →
    ∃ t, exec (.discoverRsp p pkt) s = .next t ∧
      (slot ≠ 0 → bitOf (s.rd .LNK_DISC_MEMBERS 0).toNat slot = false → bitOf (t.rd .LNK_DISC_MEMBERS 0).toNat slot = true ∧
        t.fget F.LNK_DISC_STATUS_MEMBERS 0 = (s.fget F.LNK_DISC_STATUS_MEMBERS 0 + 1) % 2 ^ F.LNK_DISC_STATUS_MEMBERS.width ∧
        t.routeEntry (s.masterId + slot) = some p.val) ∧
      (slot = 0 ∨ bitOf (s.rd .LNK_DISC_MEMBERS 0).toNat slot = true → portFailed t p 4 ∧ t.fget F.LNK_DISC_STATUS_CONFLICT 0 = 1)) ∧
  (∀ (p : Fin 16) (pkt : Packet) (s : State), portHears s p = true → packetOk { pkt with typ := 0x22 } = true → s.bootHalted = false →
    s.isMaster = false → s.idValid = false → ∃ t, exec (.assignId p pkt) s = .next t ∧
      t.ownId = pkt.w1.toNat % 4096 ∧ t.idValid = true ∧ t.fget F.LNK_GROUP_GROUP 0 = pkt.w1.toNat % 4096 / 32 ∧
      t.uplink = some p.val ∧ t.routeEntry (pkt.w1.toNat % 4096 / 32 * 32) = some p.val)

/-! Attention, claims and vectors. -/

/-- The attention message to host context c: ATTN_SUMMARY without the masked groups and HOSTPEND (R396). -/
def attnPacket (s : State) (v : Nat × Nat) (c : Nat) : Packet :=
  { mkPacket s 0x23 s.masterId 0 (v.1 + v.2 * 2 ^ 32) [] with host := true, hctx := BitVec.ofNat 3 c }

/-- ATTN_N, its messages and the claims (R392, R396, R399 to R401): the pin rises when no unmasked group is active; a change
of the values, or the period while they are not both 0, sends them to every enabled host context; a claim returns the
winner and makes it ACTIVE for the target, 0 when there is none; COMPLETE ends an active source of the target and else
counts BAD_COMPLETE; RELEASE_ALL makes the target's active sources PENDING again and leaves every other source. -/
def Obligations.AttentionIsClaimed : Prop :=
  (∀ s : State, (attnActive s = 0 → ∃ t, exec .attnRelease s = .next t ∧ t.pins.attnLow = false ∧ Frame [] s t ∧ FrameParts [] s t) ∧
    (attnActive s ≠ 0 → ∃ t, exec .attnRelease s = .next t ∧ t.pins.attnLow = true ∧ Frame [] s t ∧ FrameParts [] s t)) ∧
  (∀ (s : State) (cs : List Nat), s.idValid = true → cs = (List.range 8).filter (fun c => bitOf (s.fget F.ATTN_MSG_CTRL_EN 0) c) →
    cs ≠ [] → ∀ u, u = cs.foldl (fun u c => u.sendPkt (attnPacket u (attnActive s, hostPend s) c)) s →
    ((attnActive s, hostPend s) ≠ s.attnSent →
      exec .attnMessage s = .next (settle { u with attnSent := (attnActive s, hostPend s) })) ∧
    ((attnActive s, hostPend s) = s.attnSent → exec .attnMessage s = .next (settle s)) ∧
    ((attnActive s, hostPend s) ≠ (0, 0) →
      exec .attnMessageRepeat s = .next (settle { u with attnSent := (attnActive s, hostPend s) }))) ∧
  (∀ (a : Agent) (t : Fin 14) (s : State), ReadAllowed a (clmOff t + 4) s → ∀ n, n = claimWinner s t →
    (n ≠ 0 → ∃ u, exec (.clmClaim a t) s = .next u ∧ u.readback = BitVec.ofNat 32 n ∧ srcPending u n = false ∧
      srcActive u n = true ∧ u.fget F.CLM_SRC_CLAIMED_BY n = t ∧ (∀ k, k ≠ n → u.rd .CLM_SRC k = s.rd .CLM_SRC k) ∧
      Frame [.CLM_SRC] s u ∧ FrameParts [.readback] s u) ∧
    (n = 0 → ∃ u, exec (.clmClaim a t) s = .next u ∧ u.readback = 0 ∧ Frame [] s u ∧ FrameParts [.readback] s u)) ∧
  (∀ (a : Agent) (t : Fin 14) (w : Word) (s : State), Allowed a (clmOff t + 8) s → ∀ n, n = w.toNat →
    (n ≠ 0 → n < 2048 → srcActive s n = true → s.fget F.CLM_SRC_CLAIMED_BY n = t → ∃ u, exec (.clmComplete a t w) s = .next u ∧
      srcActive u n = false ∧ (∀ f ∈ Reg.CLM_SRC.fields, ∀ k, f ≠ F.CLM_SRC_ACTIVE ∨ k ≠ n → u.fget f k = s.fget f k) ∧
      Frame [.CLM_SRC] s u ∧ FrameParts [] s u) ∧
    (n = 0 ∨ 2048 ≤ n ∨ srcActive s n = false ∨ s.fget F.CLM_SRC_CLAIMED_BY n ≠ t → ∃ u, exec (.clmComplete a t w) s = .next u ∧
      countedOnce F.CLM_BAD_COMPLETE_COUNT 0 s u ∧ Frame [F.CLM_BAD_COMPLETE_COUNT.reg] s u ∧ FrameParts [] s u)) ∧
  (∀ (a : Agent) (t : Fin 14) (w : Word) (s : State), Allowed a (clmOff t + 0xC) s →
    ∃ u, exec (.releaseAll a t w) s = .next u ∧
      (∀ n, srcActive s n = true → s.fget F.CLM_SRC_CLAIMED_BY n = t → srcActive u n = false ∧ srcPending u n = true) ∧
      (∀ n, srcActive s n = false ∨ s.fget F.CLM_SRC_CLAIMED_BY n ≠ t → u.rd .CLM_SRC n = s.rd .CLM_SRC n) ∧
      Frame [.CLM_SRC] s u ∧ FrameParts [] s u)

/-- Vector v of core c is the one that H takes now, with the entry m of panel p's stream F (R405 to R407). -/
def takes (s : State) (c p v : Nat) (m : List Byte) : Prop :=
  s.ownerOf c = some p ∧ nextVector s c = some v ∧ s.fbit F.VEC_STATUS_ACTIVE_VALID c = false ∧
  (s.core c).hTags = [] ∧ m = s.miAt p .F ((s.rd .VEC_BASE c).toNat + v)

/-- An entry that a handler may run: scope CORE, stream F, no waits (R406). -/
def plainEntry (m : List Byte) : Bool :=
  miStream m == 0 && miScope m && !(List.range 4).any fun k => waitValid (miWait m k)

/-- The vector has left VEC_PEND of its core, which is awake (R498), and is counted; the count wraps (R15). -/
def vectorTaken (s t : State) (c v : Nat) : Prop :=
  vecPending t c v = false ∧ t.fget F.VEC_COUNTS_DELIVERED c = (s.fget F.VEC_COUNTS_DELIVERED c + 1) % 2 ^ 16 ∧
  ∀ k, k < 32 → k ≠ v → vecPending t c k = vecPending (s.wake c) c k

/-- Registers of the vectors of a core that wakes. -/
def handlerRegs : List Reg := [.VEC_PEND, .VEC_STATUS, .VEC_COUNTS, .VEC_LATCH, .CORE_STATUS]

/-- Vectors (R403 to R408): VEC_SOFT raises its vectors 16 to 31, and counts those already pending as merged; H takes the
pending enabled vector of highest priority, clears its pending bit and counts it; a NOP entry ends it at once, a MARKER
clears its mask and sets its CORE targets, a push puts its items on the queue and the vector stays active until they have
landed; another entry counts BAD_HANDLER and ends the vector. A handler whose remote sets find no fence tags waits in H (R331). -/
def Obligations.VectorsRun : Prop :=
  (∀ (a : Agent) (c : Fin 1056) (w : Word) (s : State), Allowed a (coreOff c + 0x610C) s →
    ∃ t, exec (.vecSoft a c w) s = .next t ∧
      (∀ v, v < 32 → vecPending t c v = (vecPending (s.wake c) c v || (decide (16 ≤ v) && bitOf w.toNat v))) ∧
      t.fget F.VEC_COUNTS_MERGED c = ((s.wake c).fget F.VEC_COUNTS_MERGED c +
        (List.range 16).countP fun i => bitOf w.toNat (16 + i) && vecPending (s.wake c) c (16 + i)) % 256 ∧
      Frame [.CORE_STATUS, .VEC_PEND, .VEC_COUNTS, .VEC_LATCH] s t ∧ FrameParts [] s t) ∧
  (∀ (c : Fin 1056) (s : State) (p v : Nat) (m : List Byte), takes s c p v m →
    ∃ t, exec (.handlerDispatch c) s = .next t ∧ vectorTaken s t c v ∧
      (tagsFree s m = false → t.fget F.VEC_STATUS_ACTIVE c = v ∧ t.fbit F.VEC_STATUS_ACTIVE_VALID c = true ∧
        Frame handlerRegs s t ∧ FrameParts [] s t) ∧
      (tagsFree s m = true → miOpcode m = 0 → t.rd .VEC_STATUS c = 0 ∧
        (remoteDevs m = [] → Frame handlerRegs s t ∧ FrameParts [.queues] s t)) ∧
      (tagsFree s m = true → miOpcode m ≠ 0 →
        plainEntry m = false ∨ miOpcode m ∉ [0x30, 0x38] ∨ (miOpcode m = 0x38 ∧ isPush m = false) → t.rd .VEC_STATUS c = 0 ∧
        t.fget F.VEC_COUNTS_BAD_HANDLER c = (s.fget F.VEC_COUNTS_BAD_HANDLER c + 1) % 2 ^ 8 ∧
        (remoteDevs m = [] → Frame handlerRegs s t ∧ FrameParts [.queues] s t)) ∧
      (tagsFree s m = true → miOpcode m = 0x30 → plainEntry m = true → rejectCause opMarker s p c .F m = 0 → t.rd .VEC_STATUS c = 0 ∧
        ((∀ k, k < 4 → setTarget (miSet m k) = 0) → ∀ j, j < 60 → bitOf (miOpx m 0 8) j = true → markerOn t c j = false) ∧
        (∀ k, k < 4 → setTarget (miSet m k) = 1 → markerOn t c (setIdOf (miSet m k) % 64) = true)) ∧
      (tagsFree s m = true → miOpcode m = 0x38 → isPush m = true → plainEntry m = true → rejectCause (opRead true) s p c .F m = 0 →
        s.badTens = [] →
        ∀ q k items, q = miOpx m 0 1 → (s.qstate q = qsRunning → copiesAgree s q = true) →
        k = (if s.qstate q = qsRunning ∧ (s.queue q).stalled = [] then min (opN m) (qFree s q) else 0) →
        items = (List.range (opN m)).map (fun j => ⟨.handler c, s.tRead (hHandle (miSrc m 0)) (j * qItem s q) (qItem s q), true⟩) →
        (t.queue q).acc = (s.queue q).acc ++ items.take k ∧ (t.queue q).stalled = (s.queue q).stalled ++ items.drop k ∧
        t.fget F.VEC_STATUS_ACTIVE c = v ∧ t.fbit F.VEC_STATUS_ACTIVE_VALID c = true))

/-! Stewards. -/

/-- A class of log records is enabled; classes 0 and 63 always are (R426). -/
def classOn (s : State) (k : Nat) : Bool :=
  k == 0 || k == 63 || bitOf (s.rd (if k < 32 then .STW_TRACE_EN_LO else .STW_TRACE_EN_HI) 0).toNat (k % 32)

/-- What a steward does for others (R413, R415, R416, R423, R426): its signal sets m63 of a core or of every core of a panel;
a write to the staging area empties its status, or is refused while it is checked or activated; the check ends with the
first error or with the image's role; a pop returns the held record, else the head of the FIFO, which it then holds, else
zeros; an acknowledge lets the record go; a record submitted goes into the log ring, but for a class
that is off, a ring that is not enabled, which counts it as dropped, and a slot that a load holds (R51; that the record's number
is used up then is the model's choice, log entry 142). A kick writes no register; the
watchdog's count is time, which the commands carry (log entry 31). -/
def Obligations.StewardsServe : Prop :=
  (∀ (i : Fin 6) (w : Word) (s : State), Allowed (.steward i) 0x03001060 s → ∃ t, exec (.stwSignal (.steward i) w) s = .next t ∧
    (bitOf w.toNat 16 = false → ∀ c, s.liveOf (bits w.toNat 0 10) = some c → markerOn t c 63 = true) ∧
    (bitOf w.toNat 16 = true → ∀ c ∈ s.coresOf (bits w.toNat 10 6), markerOn t c 63 = true)) ∧
  (∀ (a : Agent) (w : Word) (s : State), Allowed a 0x03001060 s → (∀ i, a ≠ .steward i) → ∃ t, exec (.stwSignal a w) s = .next t ∧
    countedOnce F.HUB_INCHK_COUNTS_RANGE 0 s t ∧ Frame accessRegs s t ∧ FrameParts [] s t) ∧
  (∀ (a : Agent) (off : BitVec 29) (w : Word) (s : State), Allowed a off.toNat s → off.toNat % 4 = 0 →
    0x03800000 ≤ off.toNat → off.toNat < 0x04000000 → (stageLocked s = false → ∃ t, exec (.stageWrite a off w) s = .next t ∧
      t.staging = memWrite s.staging (off.toNat - 0x03800000) (leBytes 4 w.toNat) ∧ t.fget F.STW_STAGE_STATUS_STATE 0 = 0 ∧
      t.fget F.STW_STAGE_STATUS_ROLE 0 = 0 ∧ Frame [.STW_STAGE_STATUS] s t ∧ FrameParts [.staging] s t) ∧
    (stageLocked s = true → ∃ t, exec (.stageWrite a off w) s = .next t ∧ countedOnce F.STW_ACT_COUNTS_STAGE_WRITE 0 s t ∧
      countedOnce F.HUB_INCHK_COUNTS_RANGE 0 s t ∧ Frame (.STW_ACT_COUNTS :: accessRegs) s t ∧ FrameParts [] s t)) ∧
  (∀ (a : Agent) (w : Word) (s : State), Allowed a 0x03001004 s → ∃ t, exec (.verify a w) s = .next t ∧
    t.fget F.STW_STAGE_STATUS_STATE 0 = 1 ∧ (s.fget F.STW_STAGE_STATUS_STATE 0 = 1 → countedOnce F.STW_ACT_COUNTS_STAGE_WRITE 0 s t) ∧
    Frame [.STW_STAGE_STATUS, .STW_ACT_COUNTS] s t ∧ FrameParts [] s t) ∧
  (∀ s : State, s.fget F.STW_STAGE_STATUS_STATE 0 = 1 → ∃ t, exec .verifyDone s = .next t ∧
    t.fget F.STW_STAGE_STATUS_ERROR 0 = stageError s ∧
    (stageError s = 0 → t.fget F.STW_STAGE_STATUS_STATE 0 = 2 ∧ t.fget F.STW_STAGE_STATUS_ROLE 0 = stageWord s 6 1 % 8 ∧
      Frame [.STW_STAGE_STATUS] s t) ∧
    (stageError s ≠ 0 → t.fget F.STW_STAGE_STATUS_STATE 0 = 3) ∧
    (stageError s = 4 → bitOf (t.rd .SEC_EVENT 0).toNat 1 = true) ∧ FrameParts [] s t) ∧
  (∀ (a : Agent) (i : Fin 6) (w : Word) (s : State),
    (Allowed a (stwOff i + 0x10) s → ∃ t, exec (.stwKick a i w) s = .next t ∧ Frame [] s t ∧ FrameParts [] s t) ∧
    (Allowed a (stwOff i + 0x20) s → ∃ t, exec (.stwRecPop a i w) s = .next t ∧ ∀ r,
      r = ((s.stw i).held.getD (s.recFifo.headD [])) → (∀ k, k < 8 → t.rd .STW_REC_DATA (8 * i + k) = r.getD k 0) ∧
      ((s.stw i).held ≠ none → (t.stw i).held = (s.stw i).held ∧ t.recFifo = s.recFifo) ∧
      ((s.stw i).held = none → (t.stw i).held = s.recFifo.head? ∧ t.recFifo = s.recFifo.tail) ∧
      Frame [.STW_REC_DATA] s t ∧ FrameParts [.recFifo, .stewards] s t) ∧
    (Allowed a (stwOff i + 0x24) s → ∃ t, exec (.stwRecAck a i w) s = .next t ∧ t.stw i = { s.stw i with held := none } ∧
      Frame [] s t ∧ FrameParts [.stewards] s t) ∧
    (Allowed a (stwOff i + 0x80) s → ∃ t, exec (.stwLogSubmitId a i w) s = .next t ∧ ∀ id words,
      id = w.toNat % 2 ^ 16 → words = (List.range 8).map (fun k => (s.rd .STW_LOG_SUBMIT (8 * i + k)).toNat) →
      (s.fbit F.STW_LOG_CTRL_ENABLE 0 = false → countedOnce F.STW_LOG_DROPPED_COUNT 0 s t ∧
        Frame [F.STW_LOG_DROPPED_COUNT.reg] s t ∧ FrameParts [] s t) ∧
      (s.fbit F.STW_LOG_CTRL_ENABLE 0 = true → classOn s (id / 1024) = false → Frame [] s t ∧ FrameParts [] s t) ∧
      (s.fbit F.STW_LOG_CTRL_ENABLE 0 = true → classOn s (id / 1024) = true → ∀ a,
        a = logBase s + (s.rd .STW_LOG_WR 0).toNat % 262144 * 64 → t.rd .STW_LOG_WR 0 = s.rd .STW_LOG_WR 0 + 1 ∧
        (stagingHeld s a 64 = false → s.badPhys = [] →
          t.dram = memWrite s.dram a
            (leBytes 2 id ++ leBytes 1 i ++ leBytes 1 8 ++ leBytes 4 (s.rd .STW_LOG_WR 0).toNat ++ leBytes 8 (s.icnt 0) ++
              leBytes 4 0 ++ leBytes 4 0 ++ leBytes 8 0 ++ words.flatMap (leBytes 4)) ∧
          Frame [.STW_LOG_WR] s t ∧ FrameParts [.dram] s t) ∧
        (stagingHeld s a 64 = true → countedOnce F.PAT_COUNTS_STAGE_WRITE 0 s t ∧
          Frame [.STW_LOG_WR, .PAT_COUNTS] s t ∧ FrameParts [] s t))))

/-- Steward i has gone through the restart sequence (R420): it runs with empty data memory, counted in RESTARTS; a record it
held is at the head of the FIFO again, and the sources that its target had claimed are PENDING. In S2's role its context
queues go back to MARK (R425); a queue whose index copies differ would be reset and recorded. -/
def restarted (s t : State) (i : Nat) : Prop :=
  t.swState i = swRunning ∧ t.fget F.STW_STATUS_ROLE i = roleOf t i ∧ countedOnce F.STW_COUNTS_RESTARTS i s t ∧
  (t.stw i).data = [] ∧ (t.stw i).held = none ∧
  ((∀ e ∈ s.queues, copiesAgree s e.1 = true) → t.recFifo = (s.stw i).held.toList ++ s.recFifo) ∧
  (roleOf t i = 1 → ∀ q x, (s.queue q).eseries = some x → s.qstate q = qsRunning → copiesAgree s q = true →
    t.qix q .cons = s.qix q .mark) ∧
  ∀ n, srcActive s n = true → s.fget F.CLM_SRC_CLAIMED_BY n = 8 + i → srcActive t n = false ∧ srcPending t n = true

/-- An activation has ended: state, cause, END, and the event of its target (R424). -/
def actEnded (t : State) (i state cause : Nat) : Prop :=
  t.fget F.STW_ACT_STATUS_STATE 0 = state ∧ t.fget F.STW_ACT_STATUS_CAUSE 0 = cause ∧ t.fget F.STW_ACT_STATUS_END 0 = 1 ∧
  bitOf (t.rd .STW_EVENT i).toNat 1 = true

/-- A word of STW_CTRL whose only command is bit b, with AUTO as it may be; bits 6 and 7 are commands of S5 alone (R418). -/
def onlyCmd (i b : Nat) (w : Word) : Prop := w.toNat % 32 = 2 ^ b % 32 ∧ (i = 5 → bits w.toNat 6 2 = 2 ^ b / 64)

/-- Commands and events of the stewards (R418 to R422, R424): STOP, START and RESTART by state, ACTIVATE with its four
outcomes, CANCEL of a deferred activation, TAKE and GIVE_BACK of a role by S5, the ends of an activation, the three
crashes, and the restart on its own. A command that the state does not take counts BAD_CMD with CAUSE 0x20. -/
def Obligations.StewardsRun : Prop :=
  (∀ (a : Agent) (i : Fin 6) (w : Word) (s : State), Allowed a (stwOff i) s →
    (onlyCmd i 0 (w ||| 1) → s.swState i ≠ swHeld → ∃ t, exec (.stewardStop a i w) s = .next t ∧
      t.swState i = (if s.swState i = swRunning ∨ s.swState i = swCrashed then swStopped else s.swState i) ∧
      t.fget F.STW_CTRL_AUTO i = b2n (bitOf w.toNat 5) ∧ Frame [.STW_STATUS, .STW_CTRL] s t ∧ FrameParts [.queues] s t) ∧
    (onlyCmd i 1 (w ||| 2) → (s.swState i = swStopped ∨ s.swState i = swCrashed →
        ∃ t, exec (.stewardStart a i w) s = .next t ∧ restarted s t i) ∧
      (s.swState i ≠ swStopped → s.swState i ≠ swCrashed → ∃ t, exec (.stewardStart a i w) s = .next t ∧
        countedOnce F.STW_COUNTS_BAD_CMD i s t ∧ t.fget F.STW_STATUS_CAUSE i = 0x20 ∧ t.swState i = s.swState i ∧
        Frame [.STW_STATUS, .STW_COUNTS] s t ∧ FrameParts [] s t)) ∧
    (onlyCmd i 2 (w ||| 4) → s.swState i ≠ swOff → s.swState i ≠ swHeld →
      ∃ t, exec (.stewardRestart a i w) s = .next t ∧ restarted s t i) ∧
    (onlyCmd i 3 (w ||| 8) → s.swState i ≠ swHeld → actBusy s = false → ∃ t, exec (.activate a i w) s = .next t ∧
      t.fget F.STW_ACT_STATUS_TARGET 0 = i ∧
      (s.fget F.STW_STAGE_STATUS_STATE 0 ≠ 2 → actEnded t i stFailed 4 ∧ t.swState i = s.swState i) ∧
      (s.fget F.STW_STAGE_STATUS_STATE 0 = 2 → s.fget F.STW_STAGE_STATUS_ROLE 0 ≠ nativeRole i → actEnded t i stFailed 3 ∧
        t.swState i = s.swState i) ∧
      (s.fget F.STW_STAGE_STATUS_STATE 0 = 2 → s.fget F.STW_STAGE_STATUS_ROLE 0 = nativeRole i →
        s.fbit F.PWR_STATUS_EMERGENCY 0 = true → t.fget F.STW_ACT_STATUS_STATE 0 = 1 ∧ t.swState i = s.swState i) ∧
      (s.fget F.STW_STAGE_STATUS_STATE 0 = 2 → s.fget F.STW_STAGE_STATUS_ROLE 0 = nativeRole i →
        s.fbit F.PWR_STATUS_EMERGENCY 0 = false → t.fget F.STW_ACT_STATUS_STATE 0 = stActivating ∧ restarted s t i ∧
        (t.stw i).len = stageLen s ∧ (t.stw i).image = s.staging.filter (fun c => c.1 < stageLen s) ∧
        t.rd .STW_FW_VERSION i = BitVec.ofNat 32 (stageWord s 12 4))) ∧
    ((w ||| 0x10).toNat % 16 = 0 → (i.val = 5 → bits w.toNat 6 2 = 0) → ∃ t, exec (.cancel a i w) s = .next t ∧
      (s.fget F.STW_ACT_STATUS_STATE 0 = 1 → s.fget F.STW_ACT_STATUS_TARGET 0 = i → actEnded t i stCancelled 2) ∧
      (s.fget F.STW_ACT_STATUS_STATE 0 ≠ 1 ∨ s.fget F.STW_ACT_STATUS_TARGET 0 ≠ i → Frame [.STW_CTRL] s t ∧ FrameParts [] s t))) ∧
  (∀ (w : Word) (s : State), Allowed (.steward 5) (stwOff 5) s → onlyCmd 5 6 (w ||| 0x40) →
    mayTake s (.steward 5) (bits (w ||| 0x40).toNat 8 3) = true → ∃ t, exec (.take (.steward 5) w) s = .next t ∧
      t.swState (bits (w ||| 0x40).toNat 8 3) = swHeld ∧ (t.stw 5).taken = some (bits (w ||| 0x40).toNat 8 3) ∧
      t.fget F.STW_STATUS_ROLE 5 = nativeRole (bits (w ||| 0x40).toNat 8 3) ∧ restarted s t 5) ∧
  (∀ (a : Agent) (w : Word) (s : State) (j : Nat), Allowed a (stwOff 5) s → onlyCmd 5 7 (w ||| 0x80) → (s.stw 5).taken = some j →
    j < 5 → s.swState 5 = swRunning → ∃ t, exec (.giveBack a w) s = .next t ∧ (t.stw 5).taken = none ∧ t.swState 5 = swRunning ∧
      t.swState j = swRunning ∧ t.fget F.STW_STATUS_ROLE 5 = nativeRole 5 ∧ t.fget F.STW_STATUS_ROLE j = roleOf t j ∧
      countedOnce F.STW_COUNTS_RESTARTS 5 s t ∧ countedOnce F.STW_COUNTS_RESTARTS j s t) ∧
  (∀ s : State, s.fget F.STW_ACT_STATUS_STATE 0 = stActivating → ∃ t, exec .activationDone s = .next t ∧
    actEnded t (s.fget F.STW_ACT_STATUS_TARGET 0) stDone 0) ∧
  (∀ s : State, s.fget F.STW_ACT_STATUS_STATE 0 = 1 → ∃ t, exec .emergencyTimeout s = .next t ∧
    actEnded t (s.fget F.STW_ACT_STATUS_TARGET 0) stCancelled 1) ∧
  (∀ (i : Fin 6) (cause : Nat) (x : Instr), (cause, x) ∈ [(1, Instr.wdog i), (2, .fatalTrap i), (3, .stewardEcc i)] → ∀ s : State,
    s.swState i = swRunning → ∃ t, exec x s = .next t ∧ t.fget F.STW_STATUS_CAUSE i = cause ∧
      countedOnce F.STW_COUNTS_CRASHES i s t ∧ bitOf (t.rd .STW_EVENT i).toNat 0 = true ∧
      (i.val ≠ 5 ∨ (s.stw 5).taken = none → t.swState i = swCrashed) ∧
      (i.val = 5 → (s.stw 5).taken ≠ none → t.swState 5 = swRunning ∧ countedOnce F.STW_COUNTS_RESTARTS 5 s t)) ∧
  (∀ (i : Fin 6) (s : State), s.swState i = swCrashed → s.fbit F.STW_CTRL_AUTO i = true →
    ∃ t, exec (.autoRestart i) s = .next t ∧ restarted s t i)

/-! Faults, power, resets and start-up. -/

/-- Handshake timeouts (R433, R435, R442, R464): on a core the recorded units of the stream are replayed and counted, within
the fault window; a felt's is its leaf bit and a step fault of the panel, which in COMPUTING abandons the step and sends
every stream to its entry; a die-level one is the die's leaf bit; while issue is gated those of the C-dies are held.
The fault window of a core ends with its count at 0. -/
def Obligations.HandshakesTimeOut : Prop :=
  (∀ (c : Fin 1056) (o : Option Strm) (s : State), s.fbit F.PWR_STATUS_GATED 0 = false → s.excluded c = false →
    (∀ st, ∀ u ∈ ((s.core c).stream st).units, u.replay = false) →
    s.fget F.CORE_FLT_COUNTS_WINDOW c + 1 < s.fget F.FLT_CTRL_CORE_LIMIT 0 →
    ∃ t, exec (.handshakeTimeout (.core c o)) s = .next t ∧ bitOf (t.rd .CORE_FLT c).toNat 1 = true ∧
      t.fget F.CORE_FLT_COUNTS_WINDOW c = s.fget F.CORE_FLT_COUNTS_WINDOW c + 1 ∧ (t.core c).windowOpen = true ∧
      (∀ st, o = none ∨ o = some st →
        ((t.core c).stream st).units = ((s.core c).stream st).units.map fun u => { u with replay := true, running := false, acc := [] }) ∧
      (∀ st, o ≠ none → o ≠ some st → ((t.core c).stream st).units = ((s.core c).stream st).units)) ∧
  (∀ (n : Fin 8) (s : State), ∃ t, exec (.handshakeTimeout (.felt n none)) s = .next t ∧
    bitOf (t.rd .FELT_FLT n).toNat 4 = true ∧ countedOnce F.FELT_FLT_COUNT_COUNT n s t ∧ t.flights = s.flights) ∧
  (∀ (n : Fin 8) (p : Fin 64) (s : State), s.isTraining p = true → s.vstate p = vsComputing → (s.panel p).fault = false →
    ∃ t, exec (.handshakeTimeout (.felt n (some p))) s = .next t ∧ bitOf (t.rd .FELT_FLT n).toNat 4 = true ∧
      countedOnce F.FLT_COUNTS_STEP_FAULTS 0 s t ∧ countedOnce F.FLT_COUNTS_ABORTS 0 s t ∧ (t.panel p).fault = true ∧
      (t.panel p).aborting = true ∧ (∀ f ∈ t.flights, f.panel ≠ p.val) ∧
      ∀ c ∈ s.coresOf p, ∀ st, s.excluded c = false → t.sstate c st = stEntry) ∧
  (∀ (d : Fin 2) (u : Fin 5) (s : State),
    (s.fbit F.PWR_STATUS_GATED 0 = false → ∃ t, exec (.handshakeTimeout (.dieLevel d u)) s = .next t ∧
      bitOf (t.rd .DIE_FLT d).toNat 4 = true ∧ countedOnce F.DIE_FLT_COUNT_COUNT d s t) ∧
    (s.fbit F.PWR_STATUS_GATED 0 = true → exec (.handshakeTimeout (.dieLevel d u)) s = .next (settle s) ∧
      ∀ c o, exec (.handshakeTimeout (.core c o)) s = .next (settle s))) ∧
  (∀ (c : Fin 1056) (s : State), (s.core c).windowOpen = true → ∃ t, exec (.coreFaultWindowExpire c) s = .next t ∧
    t.fget F.CORE_FLT_COUNTS_WINDOW c = 0 ∧ t.core c = { s.core c with windowOpen := false } ∧
    (∀ f ∈ Reg.CORE_FLT_COUNTS.fields, ∀ i, f ≠ F.CORE_FLT_COUNTS_WINDOW ∨ i ≠ c.val → t.fget f i = s.fget f i) ∧
    Frame [.CORE_FLT_COUNTS] s t ∧ FrameParts [.cores] s t)

/-- The limiter's commands after an interval in which the power is above the limit, below 98 % of it, or between (R458). -/
def limiterAfter (u : State) (watts : Nat) : List Nat × Nat :=
  let d := u.fget F.PWR_STATUS_DUTY 0
  let down := fun (i : Nat) => max 7 (min (vlim u i) (vnormal u i) - 1)
  if u.power.limit < watts then
    if vtarget u 0 = 7 ∧ vtarget u 1 = 7 then (u.power.lims, if d < 12 then d + 1 else d) else ([down 0, down 1], d)
  else if watts * 100 < 98 * u.power.limit then
    if d ≠ 0 then (u.power.lims, d - 1) else ([min 37 (vlim u 0 + 1), min 37 (vlim u 1 + 1)], d)
  else (u.power.lims, d)

/-- A condition with hysteresis: it sets at one temperature and clears at another (R461, R463). -/
def heldWith (was : Bool) (on off : Bool) : Bool := if !was && on then true else if off then false else was

/-- An emergency has begun: issue is gated, and both regulators that have a command are at 0.615 V (R462, R463). -/
def inEmergency (s t : State) : Prop :=
  t.fbit F.PWR_STATUS_EMERGENCY 0 = true ∧ t.fbit F.PWR_STATUS_GATED 0 = true ∧
  ∀ d, d < 2 → vcmd t d = if vcmd s d = 0xFF then 0xFF else 3

/-- The package power controller (R454 to R464, R492): an interval stores the power and moves the limiter, and the commands
fall to their targets; a ramp step raises a command by one; regulator faults and failed transactions set their events;
temperatures, PWR_ALERT_N and the ends of an emergency change its conditions; REFCLK's loss is kept. -/
def Obligations.PowerIsControlled : Prop :=
  (∀ (watts : Nat) (s u : State), u = (if emergency s then s else takePower s) →
    ∃ t, exec (.powerInterval watts) s = .next t ∧ t.fget F.PWR_POWER_WATTS 0 = min 65535 watts ∧
      (t.power.lims, t.fget F.PWR_STATUS_DUTY 0) = limiterAfter u watts ∧ t.power.limit = u.power.limit ∧
      t.power.vset = u.power.vset ∧ (∀ d, d < 2 → vcmd t d =
        if emergency s = true ∨ vcmd s d = 0xFF then vcmd s d else min (vcmd s d) (vtarget t d)) ∧
      Frame (.PWR_POWER :: .PWR_STATUS :: .PWR_VCORE :: .PWR_EVENT :: claimRegs) s t ∧ FrameParts [.power] s t) ∧
  (∀ (d : Fin 2) (s : State), emergency s = false → vcmd s d ≠ 0xFF → vcmd s d < vtarget s d →
    ∃ t, exec (.vcoreRampStep d) s = .next t ∧ vcmd t d = vcmd s d + 1 ∧ Frame [.PWR_VCORE] s t ∧ FrameParts [] s t) ∧
  (∀ (b0 b1 : Bool) (s : State), ∃ t, exec (.vrStatusPoll b0 b1) s = .next t ∧
    (b0 = true ∨ b1 = true → bitOf (t.rd .PWR_EVENT 0).toNat 7 = true) ∧ (b0 = false → b1 = false → Frame [] s t) ∧
    Frame (.PWR_EVENT :: claimRegs) s t ∧ FrameParts [] s t) ∧
  (∀ (r : Fin 2) (cmd : PmCmd) (fails : Nat) (s : State), ∃ t, exec (.pmbusTransaction r cmd fails) s = .next t ∧
    t.fget F.PWR_COUNTS_VR_RETRY 0 = min 255 (s.fget F.PWR_COUNTS_VR_RETRY 0 + min fails 3) ∧
    (4 ≤ fails → bitOf (t.rd .PWR_EVENT 0).toNat 6 = true) ∧ (fails < 4 → Frame [.PWR_COUNTS] s t) ∧
    Frame (.PWR_COUNTS :: .PWR_EVENT :: claimRegs) s t ∧ FrameParts [] s t) ∧
  (∀ (die : Fin 11) (c : Int) (s : State) (ts : List Int) (tj : Nat), ts = putTemp s.power.temps die c → tj = tjMax ts →
    ∃ t, exec (.thermalReport die c) s = .next t ∧ t.power.temps = ts ∧ t.fget F.PWR_THERM_TJ_MAX 0 = min 255 tj ∧
      t.fbit F.PWR_STATUS_WARN 0 = heldWith (s.fbit F.PWR_STATUS_WARN 0) (decide (s.fget F.PWR_THERM_WARN 0 ≤ tj))
        (decide (tj + 2 < s.fget F.PWR_THERM_WARN 0)) ∧
      t.fbit F.PWR_STATUS_TRIP 0 = heldWith (s.fbit F.PWR_STATUS_TRIP 0) (decide (108 ≤ tj)) (decide (tj ≤ 103)) ∧
      t.fbit F.PWR_STATUS_CRIT 0 = heldWith (s.fbit F.PWR_STATUS_CRIT 0) (decide (115 ≤ tj)) (decide (tj ≤ 100)) ∧
      (s.fbit F.PWR_STATUS_TRIP 0 = false → 108 ≤ tj → inEmergency s t ∧ countedOnce F.PWR_COUNTS_TRIPS 0 s t) ∧
      (s.fbit F.PWR_STATUS_CRIT 0 = false → 115 ≤ tj → inEmergency s t) ∧
      (tj < 108 → t.fbit F.PWR_STATUS_EMERGENCY 0 = s.fbit F.PWR_STATUS_EMERGENCY 0) ∧ FrameParts [.power] s t) ∧
  (∀ s : State, s.fbit F.PWR_STATUS_ALERT 0 = false → ∃ t, exec .pwrAlertAssert s = .next t ∧ inEmergency s t ∧
    t.fbit F.PWR_STATUS_ALERT 0 = true ∧ countedOnce F.PWR_COUNTS_ALERTS 0 s t ∧ bitOf (t.rd .PWR_EVENT 0).toNat 0 = true ∧
    FrameParts [] s t) ∧
  (∀ s : State, ∃ t, exec .pwrAlertDeassert s = .next t ∧ t.fbit F.PWR_STATUS_ALERT 0 = false ∧
    (∀ f ∈ Reg.PWR_STATUS.fields, f ≠ F.PWR_STATUS_ALERT → t.fget f 0 = s.fget f 0) ∧ Frame [.PWR_STATUS] s t ∧ FrameParts [] s t) ∧
  (∀ s : State, ∃ t, exec .gateLift s = .next t ∧ t.fbit F.PWR_STATUS_GATED 0 =
      (s.fbit F.PWR_STATUS_GATED 0 && (alarm s || bitOf (s.rd .PWR_EVENT 0).toNat 6)) ∧
    (∀ f ∈ Reg.PWR_STATUS.fields, f ≠ F.PWR_STATUS_GATED → t.fget f 0 = s.fget f 0) ∧ Frame [.PWR_STATUS] s t ∧ FrameParts [] s t) ∧
  (∀ s : State, emergency s = true → alarm s = false → ∃ t, exec .emergencyEnd s = .next t ∧ emergency t = false ∧
    t.fbit F.PWR_STATUS_GATED 0 = false ∧ bitOf (t.rd .PWR_EVENT 0).toNat 5 = true ∧ t.power = (takePower s).power ∧
    (s.fget F.STW_ACT_STATUS_STATE 0 = 1 → t.fget F.STW_ACT_STATUS_STATE 0 = 2)) ∧
  (∀ s : State, (∃ t, exec .refclkLoss s = .next t ∧ t.power = { s.power with refclkLost := true } ∧ Frame [] s t ∧
      FrameParts [.power] s t) ∧
    ∃ t, exec .refclkReturn s = .next t ∧ t.power = { s.power with refclkLost := false } ∧ Frame [] s t ∧ FrameParts [.power] s t)

/-- The device is as after a cold reset of s (R465, R466): registers at their reset values, memories empty, RESET_N low; a
running emergency keeps the fields of its conditions, and the module record stays. -/
def coldFrom (s t : State) : Prop :=
  (emergency s = false → ∀ r i, t.rd r i = regDefault (regKey r i)) ∧
  (emergency s = true → (∀ f ∈ emergencyFields, t.fget f 0 = s.fget f 0) ∧
    ∀ r i, r ∉ [.PWR_STATUS, .PWR_VCORE, .PWR_THERM] ∨ i ≠ 0 → t.rd r i = regDefault (regKey r i)) ∧
  t.dram = [] ∧ t.tens = [] ∧ t.flights = [] ∧ t.panels = State.reset.panels ∧ t.queues = State.reset.queues ∧
  t.sec = noSec ∧ t.modrec = s.modrec ∧ t.pins.resetLow = true

/-- Registers of which a warm reset leaves some part, or that it writes. -/
def warmTouched : List Reg :=
  warmRegs ++ [.PWR_STATUS, .SEC_STATUS, .SEC_LOG_COUNT, .LNK_FABRIC, .HUB_BOOT_STATUS, .ICNT_STATUS]

/-- Pins, resets and start-up (R465 to R471): a cold reset, a loss of VAUX, a warm reset, which its packet's sender must be
allowed to ask for, once start-up has ended; RESET_N's rise samples the straps; and the phases ROM, RECORD, LINKS and
READY, each going on when its condition holds and RECORD or the training halting with their codes. -/
def Obligations.DeviceStarts : Prop :=
  (∀ s : State, (∃ t, exec .coldReset s = .next t ∧ coldFrom s t) ∧ ∃ t, exec .vauxLoss s = .next t ∧ coldFrom s t) ∧
  (∀ (p : Fin 16) (pkt : Packet) (s : State), forThis s p { pkt with typ := 0x24 } → ∀ r, r = asTaken s p { pkt with typ := 0x24 } →
    (r.host = true ∨ r.src.toNat = s.masterId → s.fget F.HUB_BOOT_STATUS_PHASE 0 = 4 → ∃ t, exec (.warmReset p pkt) s = .next t ∧
      t.fget F.HUB_BOOT_STATUS_PHASE 0 = 0 ∧ t.fget F.HUB_BOOT_STATUS_WARM 0 = 1 ∧
      t.fget F.HUB_BOOT_STATUS_WARM_COUNT 0 = (s.sec.warms + 1) % 256 ∧ t.dram = s.dram ∧ t.tens = s.tens ∧
      t.sec.key = s.sec.key ∧ t.modrec = s.modrec ∧ t.flights = [] ∧ t.panels = State.reset.panels ∧
      (∀ x ∈ warmRegs, x ≠ .SEC_MEAS → ∀ i, t.rd x i = s.rd x i) ∧
      ∀ x i, x ∉ warmTouched → t.rd x i = regDefault (regKey x i)) ∧
    (r.host = false → r.src.toNat ≠ s.masterId → ∃ t, exec (.warmReset p pkt) s = .next t ∧
      countedOnce F.LNK_PKT_COUNTS_BAD_PACKET p s t ∧ bitOf (t.rd .LNK_EVENT p).toNat 3 = true) ∧
    (s.fget F.HUB_BOOT_STATUS_PHASE 0 ≠ 4 → ∃ t, exec (.warmReset p pkt) s = .next t ∧
      countedOnce F.LNK_PKT_COUNTS_BAD_PACKET p s t ∧ bitOf (t.rd .LNK_EVENT p).toNat 3 = true)) ∧
  (∀ (master : Bool) (slot : BitVec 5) (s : State), s.pins.resetLow = true → ∃ t, exec (.resetNRelease master slot) s = .next t ∧
    t.pins.resetLow = false ∧ t.pins.strapMaster = master ∧ t.pins.strapSlot = slot ∧ t.isMaster = master ∧
    t.fget F.LNK_FABRIC_SLOT_ID 0 = slot.toNat ∧ (master = true → t.idValid = true ∧ t.ownId = s.masterId) ∧
    Frame [.LNK_FABRIC] s t ∧ FrameParts [.pins, .jtag] s t) ∧
  (∀ s : State, s.pins.resetLow = false → s.fget F.HUB_BOOT_STATUS_PHASE 0 = 0 → ∃ t, exec .romDone s = .next t ∧
    t.fget F.HUB_BOOT_STATUS_PHASE 0 = if s.fbit F.HUB_BOOT_STATUS_WARM 0 then 2 else 1) ∧
  (∀ (ok : Bool) (s : State), s.fget F.HUB_BOOT_STATUS_PHASE 0 = 1 → ∃ t, exec (.recordDone ok) s = .next t ∧
    (∀ code, code ∈ (if s.modrec.factoryOk then if s.modrec.identityOk then if ok then [] else [3] else [5] else [1]) →
      t.fget F.HUB_BOOT_STATUS_PHASE 0 = 5 ∧ t.fget F.HUB_BOOT_STATUS_ERROR 0 = code) ∧
    (s.modrec.factoryOk = true → s.modrec.identityOk = true → ok = true → t.fget F.HUB_BOOT_STATUS_PHASE 0 = 2 ∧
      (∀ d, d < 11 → t.fget F.ICNT_STATUS_TRIM d = (s.modrec.trims.getD d 0x80).toNat ∧ t.fbit F.ICNT_STATUS_TRIMMED d = true) ∧
      (∀ p, p < 16 → t.lstate p = if s.fget F.LNK_CONFIG_ROLE p = 0 then lsOff else lsTraining) ∧
      (∀ d, d < 2 → vcmd t d = if emergency s then 3 else vnormal s d % 256) ∧
      (∀ b, chosenRepair s.modrec = some b → t.repair = repairCores b) ∧
      (chosenRepair s.modrec = none → t.fbit F.HUB_BOOT_STATUS_REPAIR_EMPTY 0 = true))) ∧
  (∀ (ok : Bool) (s : State), 2 ≤ s.fget F.HUB_BOOT_STATUS_PHASE 0 → s.fget F.HUB_BOOT_STATUS_PHASE 0 ≠ 5 →
    s.fbit F.HUB_BOOT_STATUS_DRAM_DONE 0 = false → ∃ t, exec (.dramTrainingDone ok) s = .next t ∧
      (ok = true → t.fbit F.HUB_BOOT_STATUS_DRAM_DONE 0 = true ∧ t.fget F.HUB_BOOT_STATUS_PHASE 0 = s.fget F.HUB_BOOT_STATUS_PHASE 0) ∧
      (ok = false → t.fget F.HUB_BOOT_STATUS_PHASE 0 = 5 ∧ t.fget F.HUB_BOOT_STATUS_ERROR 0 = 4) ∧
      Frame [.HUB_BOOT_STATUS] s t ∧ FrameParts [] s t) ∧
  (∀ s : State, s.fget F.HUB_BOOT_STATUS_PHASE 0 = 2 → (∀ p, p < 16 → s.lstate p ≠ lsTraining ∧ s.lstate p ≠ lsRetraining) →
    ∃ t, exec .linksDone s = .next t ∧ t.fget F.HUB_BOOT_STATUS_PHASE 0 = 3 ∧ Frame [.HUB_BOOT_STATUS] s t ∧ FrameParts [] s t) ∧
  (∀ s : State, s.fget F.HUB_BOOT_STATUS_PHASE 0 = 3 → s.fbit F.HUB_BOOT_STATUS_DRAM_DONE 0 = true → s.swState 0 = swRunning →
    ∃ t, exec .ready s = .next t ∧ t.fget F.HUB_BOOT_STATUS_PHASE 0 = 4 ∧ Frame [.HUB_BOOT_STATUS] s t ∧ FrameParts [] s t) ∧
  (∀ (pin : FPin) (s : State), ∃ t, exec (.pinGlitch pin) s = .next t ∧
    (pin = .resetN ∨ pin = .pwrAlertN → countedOnce F.HUB_INCHK_COUNTS_GLITCH 0 s t ∧ bitOf (t.rd .HUB_INCHK_EVENT 0).toNat 1 = true) ∧
    (pin = .trstN ∨ pin = .i3c → Frame [] s t) ∧ Frame accessRegs s t ∧ FrameParts [] s t) ∧
  (∀ (m : Bool) (slot : BitVec 5) (s : State), ∃ t, exec (.strapChange m slot) s = .next t ∧ countedOnce F.HUB_INCHK_COUNTS_STRAP 0 s t ∧
    bitOf (t.rd .HUB_INCHK_EVENT 0).toNat 2 = true ∧ Frame accessRegs s t ∧ FrameParts [] s t)

/-! Security, I3C and JTAG. -/

/-- A command of the security block that is refused: counted there, and out of range (R469, R476). -/
def secRefused (s t : State) : Prop := countedOnce F.SEC_COUNTS_REFUSED 0 s t ∧ countedOnce F.HUB_INCHK_COUNTS_RANGE 0 s t

/-- Attestation, the payload key, debug and the repair write (R472, R474 to R478): each command of SEC_CTRL acts or is
refused; a finished attestation puts the report and its signature into the window; the key word arms one repair write,
which ends with the record's copy replaced or with FAILED. -/
def Obligations.SecurityCommands : Prop :=
  (∀ (a : Agent) (w : Word) (s : State), Allowed a 0x00070000 s →
    ((w ||| 1).toNat % 8 = 1 → (attBusy s = false → ∃ t, exec (.attest a w) s = .next t ∧ t.fget F.SEC_STATUS_ATTEST 0 = 1 ∧
        t.sec = { s.sec with snap := reportBody s } ∧ Frame [.SEC_STATUS] s t ∧ FrameParts [.sec] s t) ∧
      (attBusy s = true → ∃ t, exec (.attest a w) s = .next t ∧ secRefused s t ∧ FrameParts [] s t)) ∧
    ((w ||| 2).toNat % 8 = 2 →
      (fromHost a = true → s.rd .PAT_GENERATION 0 = 0 → s.sec.key = none → ∃ t, exec (.registerKey a w) s = .next t ∧
        t.sec.key = some (wordsBytes s .SEC_PKEY 12) ∧ t.fbit F.SEC_STATUS_KEY_REGISTERED 0 = true) ∧
      (fromHost a = false ∨ s.rd .PAT_GENERATION 0 ≠ 0 ∨ s.sec.key ≠ none → ∃ t, exec (.registerKey a w) s = .next t ∧
        secRefused s t ∧ FrameParts [] s t)) ∧
    ((w ||| 4).toNat % 8 = 4 → (fromHost a = true → ∃ t, exec (.debugEn a w) s = .next t ∧ t.fbit F.SEC_STATUS_DEBUG 0 = true ∧
        bitOf (t.rd .SEC_EVENT 0).toNat 2 = true) ∧
      (fromHost a = false → ∃ t, exec (.debugEn a w) s = .next t ∧ secRefused s t ∧ FrameParts [] s t))) ∧
  (∀ s : State, s.fget F.SEC_STATUS_ATTEST 0 = 1 → ∃ t, exec .attestDone s = .next t ∧ t.fget F.SEC_STATUS_ATTEST 0 = 2 ∧
    t.sec = { s.sec with snap := [], report := s.sec.snap ++ (List.range 16224).map (Config.slhSign (sha256 s.sec.snap)) } ∧
    countedOnce F.SEC_COUNTS_ATTESTS 0 s t ∧ bitOf (t.rd .SEC_EVENT 0).toNat 0 = true ∧
    Frame (.SEC_STATUS :: .SEC_COUNTS :: .SEC_EVENT :: claimRegs) s t ∧ FrameParts [.sec] s t) ∧
  (∀ (a : Agent) (w : Word) (s : State), Allowed a 0x00070090 s → ∃ t, exec (.secRecKey a w) s = .next t ∧
    t.sec = (if w = 0x4E50 then { s.sec with armed := true } else s.sec) ∧ Frame [] s t ∧ FrameParts [.sec] s t) ∧
  (∀ (a : Agent) (w : Word) (s : State), Allowed a 0x00070094 s →
    (s.sec.armed = true → s.fget F.SEC_STATUS_REC 0 ≠ 1 → ∃ t, exec (.recWrite a w) s = .next t ∧ t.fget F.SEC_STATUS_REC 0 = 1 ∧
      t.sec = { s.sec with armed := false, recSrc := bits w.toNat 1 18 * 2 ^ 21, recOk :=
        (!s.fbit F.PAT_STATUS_LOADED 0 && (fromHost a || a == .jtag)) } ∧ Frame [.SEC_STATUS] s t ∧ FrameParts [.sec] s t) ∧
    (s.sec.armed = false ∨ s.fget F.SEC_STATUS_REC 0 = 1 → ∃ t, exec (.recWrite a w) s = .next t ∧ secRefused s t ∧
      t.sec = { s.sec with armed := false } ∧ FrameParts [.sec] s t)) ∧
  (∀ s : State, ∃ t, exec .recUnlockExpire s = .next t ∧ t.sec = { s.sec with armed := false } ∧ Frame [] s t ∧ FrameParts [.sec] s t) ∧
  (∀ s : State, s.fget F.SEC_STATUS_REC 0 = 1 → ∃ t, exec .recWriteDone s = .next t ∧ bitOf (t.rd .SEC_EVENT 0).toNat 3 = true ∧
    ∀ b good, b = s.dramRead s.sec.recSrc 65536 →
    good = (s.sec.recOk && s.inFixed s.sec.recSrc 65536 && (badAmong s.badPhys s.sec.recSrc 65536).isEmpty && repairValid b) →
      t.fget F.SEC_STATUS_REC 0 = (if good then 2 else 3) ∧
      t.modrec = (if good then writeRepair s.modrec b else s.modrec) ∧ FrameParts [.modrec, .sec] s t)

/-- A bus takes an access: it answers the state that the agent's own access answers. -/
def sameNext (x y : Instr) (s : State) : Prop := ∃ t, exec x s = .next t ∧ exec y s = .next t

/-- The I3C port and the JTAG port (R479 to R482): I3C accesses of the right length are the agent's own, another counts as out
of range; the common command codes change the address, the interrupt enable or the answer; the JTAG instructions select
their register; the debug register makes accesses and reads and writes local stores while debug is enabled, fails for a
core or a word that does not exist, and acts as BYPASS, counted, while debug is off. -/
def Obligations.PortsServe : Prop :=
  (∀ (b : List Byte) (s : State),
    (b.length = 8 → leAt b 0 4 < 2 ^ 29 → sameNext (.i3cWrite b)
      (.registerWrite .i3c (BitVec.ofNat 29 (leAt b 0 4)) (BitVec.ofNat 32 (leAt b 4 4)) 32 0) s) ∧
    (b.length ≠ 8 → ∃ t, exec (.i3cWrite b) s = .next t ∧ countedOnce F.HUB_INCHK_COUNTS_RANGE 0 s t ∧
      Frame accessRegs s t ∧ FrameParts [] s t) ∧
    (b.length = 4 → leAt b 0 4 < 2 ^ 29 → ∃ t u, exec (.i3cRead b) s = .next t ∧
      exec (.lowWordRead .i3c (BitVec.ofNat 29 (leAt b 0 4))) s = .next u ∧ t.i3c.resp = leBytes 4 u.readback.toNat ∧
      Frame [] u t) ∧
    (b.length ≠ 4 → ∃ t, exec (.i3cRead b) s = .next t ∧ countedOnce F.HUB_INCHK_COUNTS_RANGE 0 s t ∧
      Frame accessRegs s t ∧ FrameParts [] s t)) ∧
  (∀ (x st : BitVec 7) (s : State),
    (∃ t, exec (.entdaa x) s = .next t ∧ t.i3c.dyn = some (s.i3c.dyn.getD x) ∧ Frame [] s t ∧ FrameParts [.i3c] s t) ∧
    (∃ t, exec (.setdasa st x) s = .next t ∧ t.i3c.dyn =
      (if s.i3c.dyn = none ∧ st.toNat = 0x40 + s.fget F.LNK_FABRIC_SLOT_ID 0 then some x else s.i3c.dyn) ∧
      Frame [] s t ∧ FrameParts [.i3c] s t)) ∧
  (∀ s : State,
    (∃ t, exec .rstdaa s = .next t ∧ t.i3c.dyn = none ∧ Frame [] s t ∧ FrameParts [.i3c] s t) ∧
    (∃ t, exec .enec s = .next t ∧ t.i3c.ibiEn = true ∧
      (attnActive s ≠ 0 → t.i3c.ibi = some (BitVec.ofNat 8 (lowBit (attnActive s)))) ∧ Frame [] s t ∧ FrameParts [.i3c] s t) ∧
    (∃ t, exec .disec s = .next t ∧ t.i3c.ibiEn = false ∧ Frame [] s t ∧ FrameParts [.i3c] s t) ∧
    (∃ t, exec .getpid s = .next t ∧ t.i3c.resp =
      (leBytes 6 (Config.mipiPid (BitVec.ofNat 5 (s.fget F.LNK_FABRIC_SLOT_ID 0))).toNat).reverse ∧ Frame [] s t ∧ FrameParts [.i3c] s t) ∧
    (∀ (i : Instr) (n : Nat), (i, n) ∈ [(Instr.getbcr, 1), (.getdcr, 1), (.getstatus, 2), (.getmwl, 2), (.getmrl, 3)] →
      ∃ t, exec i s = .next t ∧ t.i3c.resp.length = n ∧ (i = .getbcr → t.i3c.resp = [0x06]) ∧ (i = .getdcr → t.i3c.resp = [0x00]) ∧
        Frame [] s t ∧ FrameParts [.i3c] s t)) ∧
  (∀ s : State,
    (∃ t, exec .bypass s = .next t ∧ t.jtag.ir = .bypass ∧ t.jtag.bypassBit = false ∧ Frame [] s t ∧ FrameParts [.jtag] s t) ∧
    (∃ t, exec .idcode s = .next t ∧ t.jtag.ir = .idcode ∧ t.jtag.idcode = BitVec.ofNat 32
      (1 + Config.jedecId.toNat * 2 ^ 1 + 0x7100 * 2 ^ 12 + s.modrec.stepping.toNat % 16 * 2 ^ 28) ∧ Frame [] s t ∧
      FrameParts [.jtag] s t) ∧
    (∃ t, exec .samplePreload s = .next t ∧ t.jtag.ir = .sample ∧ t.jtag.scan.length = Config.scanLen ∧ t.jtag.driven = false ∧
      Frame [] s t ∧ FrameParts [.jtag, .free] s t) ∧
    (∃ t, exec .extest s = .next t ∧ t.jtag.ir = (if s.pins.resetLow then .extest else .bypass) ∧
      t.jtag.driven = s.pins.resetLow ∧ Frame [] s t ∧ FrameParts [.jtag] s t) ∧
    (∃ t, exec .highz s = .next t ∧ t.jtag.ir = (if s.pins.resetLow then .highz else .bypass) ∧
      t.jtag.floating = s.pins.resetLow ∧ Frame [] s t ∧ FrameParts [.jtag] s t) ∧
    (∃ t, exec .tapReset s = .next t ∧ t.jtag.ir = .idcode ∧ t.jtag.driven = false ∧ t.jtag.floating = false ∧ Frame [] s t ∧
      FrameParts [.jtag] s t)) ∧
  (∀ (dr : BitVec 128) (s : State),
    (s.fbit F.SEC_STATUS_DEBUG 0 = false → ∀ i ∈ [Instr.debugControlRead dr, .debugControlWrite dr, .debugLsRead dr, .debugLsWrite dr],
      ∃ t, exec i s = .next t ∧ t.jtag.ir = .bypass ∧ countedOnce F.SEC_COUNTS_REFUSED 0 s t ∧ Frame [.SEC_COUNTS] s t ∧
        FrameParts [.jtag] s t) ∧
    (s.fbit F.SEC_STATUS_DEBUG 0 = true → 1055 < drCore dr →
      ∀ i ∈ [Instr.debugControlRead dr, .debugControlWrite dr, .debugLsRead dr, .debugLsWrite dr], ∃ t, exec i s = .next t ∧
        t.jtag.capture = 4 ∧ Frame [] s t ∧ FrameParts [.jtag] s t) ∧
    (s.fbit F.SEC_STATUS_DEBUG 0 = true → drCore dr ≤ 1055 →
      (∃ t u, exec (.debugControlRead dr) s = .next t ∧ exec (.lowWordRead .jtag (BitVec.ofNat 29 (drAddr dr))) (setIr s .debug) = .next u ∧
        t.jtag.capture = BitVec.ofNat 128 (u.readback.toNat * 2 ^ 64) ∧ Frame [] u t ∧ FrameParts [.jtag] u t) ∧
      (∃ t u, exec (.debugControlWrite dr) s = .next t ∧ exec (.registerWrite .jtag (BitVec.ofNat 29 (drAddr dr))
          (BitVec.ofNat 32 (drData dr).toNat) 32 0) (setIr s .debug) = .next u ∧ t.jtag.capture = 0 ∧ Frame [] u t ∧
        FrameParts [.jtag] u t) ∧
      (drAddr dr < 98304 → storeInUse s (drCore dr) = false → (∃ t, exec (.debugLsRead dr) s = .next t ∧
          t.jtag.capture = BitVec.ofNat 128 ((storeWord s (drCore dr) (drAddr dr)).toNat * 2 ^ 64) ∧ Frame [] s t ∧ FrameParts [.jtag] s t) ∧
        ∃ t, exec (.debugLsWrite dr) s = .next t ∧ (∀ c j, storeWord t c j =
            if c = drCore dr ∧ j = drAddr dr then drData dr else storeWord s c j) ∧ Frame [] s t ∧ FrameParts [.jtag, .cores] s t)))
end

