-- ==== Sys2Proof/Laws/Sparse.lean ====
section
/-! SUPPORT. The laws of sparse maps: read after write, and that a write keeps the canonical form. -/
namespace Sys2Proof.Laws
open Sys2Proof.Machine

variable {α : Type}

theorem spGet_spErase_same (d : Nat → α) (m : List (Nat × α)) (k : Nat) :
    spGet d (spErase m k) k = d k := by
  induction m with
  | nil => rfl
  | cons e m ih =>
    obtain ⟨k', v⟩ := e
    by_cases h : k' = k <;> simp [spErase, spGet, h, ih]

theorem spGet_spErase_ne (d : Nat → α) (m : List (Nat × α)) {k j : Nat} (h : j ≠ k) :
    spGet d (spErase m k) j = spGet d m j := by
  induction m with
  | nil => rfl
  | cons e m ih =>
    obtain ⟨k', v⟩ := e
    by_cases hk : k' = k
    · subst hk; simp [spErase, spGet, ih, Ne.symm h]
    · simp [spErase, spGet, hk, ih]

theorem spGet_spIns_ne (d : Nat → α) (m : List (Nat × α)) {k j : Nat} (v : α) (h : j ≠ k) :
    spGet d (spIns m k v) j = spGet d m j := by
  induction m with
  | nil => simp [spIns, spGet, Ne.symm h]
  | cons e m ih =>
    obtain ⟨k', v'⟩ := e
    by_cases hk : k < k'
    · simp [spIns, spGet, hk, Ne.symm h]
    · simp [spIns, spGet, hk, ih]

theorem spGet_spIns_spErase_same (d : Nat → α) (m : List (Nat × α)) (k : Nat) (v : α) :
    spGet d (spIns (spErase m k) k v) k = v := by
  induction m with
  | nil => simp [spErase, spIns, spGet]
  | cons e m ih =>
    obtain ⟨k', v'⟩ := e
    by_cases hk : k' = k
    · simpa [spErase, hk] using ih
    · by_cases hl : k < k' <;> simp [spErase, spIns, spGet, hk, hl, ih]

/-- A read of the key just written gives the value written. -/
@[simp] theorem spGet_spSet_same [DecidableEq α] (d : Nat → α) (m : List (Nat × α)) (k : Nat) (v : α) :
    spGet d (spSet d m k v) k = v := by
  unfold spSet
  split
  · next h => rw [spGet_spErase_same, h]
  · exact spGet_spIns_spErase_same d m k v

/-- A write leaves every other key alone. -/
theorem spGet_spSet_ne [DecidableEq α] (d : Nat → α) (m : List (Nat × α)) {k j : Nat} (v : α) (h : j ≠ k) :
    spGet d (spSet d m k v) j = spGet d m j := by
  unfold spSet
  split
  · exact spGet_spErase_ne d m h
  · rw [spGet_spIns_ne _ _ _ h, spGet_spErase_ne _ _ h]

/-- Both cases of a read after a write. -/
theorem spGet_spSet [DecidableEq α] (d : Nat → α) (m : List (Nat × α)) (k j : Nat) (v : α) :
    spGet d (spSet d m k v) j = if j = k then v else spGet d m j := by
  by_cases h : j = k
  · subst h; simp
  · simp [h, spGet_spSet_ne d m v h]

theorem spSorted_cons {k : Nat} {v : α} {m : List (Nat × α)} :
    spSorted ((k, v) :: m) = true ↔ (∀ e ∈ m, k < e.1) ∧ spSorted m = true := by
  induction m generalizing k v with
  | nil => simp [spSorted]
  | cons e m ih =>
    obtain ⟨k', v'⟩ := e
    simp only [spSorted, Bool.and_eq_true, decide_eq_true_eq, List.mem_cons, forall_eq_or_imp]
    constructor
    · rintro ⟨h1, h2⟩
      exact ⟨⟨h1, fun e he => Nat.lt_trans h1 ((ih.mp h2).1 e he)⟩, h2⟩
    · rintro ⟨⟨h1, _⟩, h3⟩
      exact ⟨h1, h3⟩

theorem mem_spErase {m : List (Nat × α)} {k : Nat} {e : Nat × α} (h : e ∈ spErase m k) : e ∈ m ∧ e.1 ≠ k := by
  induction m with
  | nil => simp [spErase] at h
  | cons a m ih =>
    obtain ⟨k', v⟩ := a
    by_cases hk : k' = k
    · simp only [spErase, hk, if_true] at h
      exact ⟨List.mem_cons_of_mem _ (ih h).1, (ih h).2⟩
    · simp only [spErase, hk, if_false, List.mem_cons] at h
      rcases h with rfl | h
      · exact ⟨by simp, hk⟩
      · exact ⟨List.mem_cons_of_mem _ (ih h).1, (ih h).2⟩

theorem mem_spIns {m : List (Nat × α)} {k : Nat} {v : α} {e : Nat × α} (h : e ∈ spIns m k v) :
    e = (k, v) ∨ e ∈ m := by
  induction m with
  | nil => simpa [spIns] using h
  | cons a m ih =>
    obtain ⟨k', v'⟩ := a
    by_cases hk : k < k'
    · simp only [spIns, hk, if_true, List.mem_cons] at h
      rcases h with h | h | h
      · exact .inl h
      · exact .inr (by simp [h])
      · exact .inr (by simp [h])
    · simp only [spIns, hk, if_false, List.mem_cons] at h
      rcases h with h | h
      · exact .inr (by simp [h])
      · rcases ih h with h | h
        · exact .inl h
        · exact .inr (by simp [h])

theorem spSorted_spErase {m : List (Nat × α)} (k : Nat) (h : spSorted m = true) : spSorted (spErase m k) = true := by
  induction m with
  | nil => rfl
  | cons a m ih =>
    obtain ⟨k', v⟩ := a
    have h' := spSorted_cons.mp h
    by_cases hk : k' = k
    · simpa [spErase, hk] using ih h'.2
    · simp only [spErase, hk, if_false]
      exact spSorted_cons.mpr ⟨fun e he => h'.1 e (mem_spErase he).1, ih h'.2⟩

theorem spSorted_spIns {m : List (Nat × α)} {k : Nat} (v : α) (h : spSorted m = true) (hk : ∀ e ∈ m, e.1 ≠ k) :
    spSorted (spIns m k v) = true := by
  induction m with
  | nil => rfl
  | cons a m ih =>
    obtain ⟨k', v'⟩ := a
    have h' := spSorted_cons.mp h
    have hne : k' ≠ k := hk (k', v') (by simp)
    by_cases hl : k < k'
    · simp only [spIns, hl, if_true]
      refine spSorted_cons.mpr ⟨?_, h⟩
      intro e he
      rcases List.mem_cons.mp he with rfl | he
      · exact hl
      · exact Nat.lt_trans hl (h'.1 e he)
    · simp only [spIns, hl, if_false]
      refine spSorted_cons.mpr ⟨?_, ih h'.2 (fun e he => hk e (by simp [he]))⟩
      intro e he
      rcases mem_spIns he with rfl | he
      · show k' < k; omega
      · exact h'.1 e he

/-- A write keeps the canonical form. -/
theorem spWf_spSet [DecidableEq α] (d : Nat → α) (m : List (Nat × α)) (k : Nat) (v : α)
    (h : spWf d m = true) : spWf d (spSet d m k v) = true := by
  simp only [spWf, Bool.and_eq_true, List.all_eq_true, decide_eq_true_eq] at h ⊢
  unfold spSet
  split
  · exact ⟨spSorted_spErase k h.1, fun e he => h.2 e (mem_spErase he).1⟩
  · next hv =>
    refine ⟨spSorted_spIns v (spSorted_spErase k h.1) (fun e he => (mem_spErase he).2), ?_⟩
    intro e he
    rcases mem_spIns he with rfl | he
    · exact hv
    · exact h.2 e (mem_spErase he).1

@[simp] theorem spWf_nil [DecidableEq α] (d : Nat → α) : spWf d ([] : List (Nat × α)) = true := rfl

end Sys2Proof.Laws
end

