-- ==== Sys2Proof/Laws/Keeps.lean ====
section
/-! SUPPORT. What an operation leaves alone, said by a mask: bit r.idx of the mask lets it write copies of register r, bit
512 + k lets it write field k of State (in the order of its declaration). `Keeps m s t` says that t has s's queue, that
every register and field the mask does not name is as in s, and that t's memories and register file are canonical when s's
are. One lemma f_keeps per operation f of the model gives its mask. -/
namespace Sys2Proof.Laws
open Sys2Proof Sys2Proof.Machine

/-- Mask m names nothing that M does not. -/
abbrev Within (m M : Nat) : Prop := m ||| M = M

theorem Within.tr {a b c : Nat} (h : Within a b) (k : Within b c) : Within a c := by
  unfold Within at *
  rw [← k, ← Nat.or_assoc, h]

theorem Within.via {a b c : Nat} (k : Within b c) (h : Within a b) : Within a c := h.tr k

theorem Within.bit {m M i : Nat} (h : m.testBit i = true) (k : Within m M) : M.testBit i = true := by
  unfold Within at k
  rw [← k, Nat.testBit_or, h, Bool.true_or]

theorem Within.off {m M i : Nat} (k : Within m M) (h : M.testBit i = false) : m.testBit i = false := by
  cases hm : m.testBit i with
  | false => rfl
  | true => rw [Within.bit hm k] at h; exact absurd h (by decide)

/-- The mask of every register. -/
def allRegs : Nat := 0xffffffffffffffffffffffffffffffffffffffffffffffffffffffffffffffffffffffffffffffffffffffffffffffffffffffffffffffffffffffffffffffff

set_option exponentiation.threshold 600 in
theorem allRegs_eq : allRegs = 2 ^ 512 - 1 := by
  rw [show 512 = 256 + 256 from rfl, Nat.pow_add]; rfl

theorem idx_lt (r : Reg) : r.idx < 512 := by cases r <;> decide

set_option exponentiation.threshold 600 in
theorem all_testBit {M : Nat} (h : Within allRegs M) (r : Reg) : M.testBit r.idx = true :=
  Within.bit (by rw [allRegs_eq, Nat.testBit_two_pow_sub_one]; exact decide_eq_true (idx_lt r)) h

theorem Within.all {m M : Nat} (h : Within allRegs m) (k : Within m M) (r : Reg) : M.testBit r.idx = true := all_testBit (Within.tr h k) r

structure Keeps (m : Nat) (s t : State) : Prop where
  pending : t.pending = s.pending
  reg : ∀ r i, m.testBit r.idx = false → t.rd r i = s.rd r i
  canon : canonical s → canonical t
  free : m.testBit 513 = false → t.free = s.free
  readback : m.testBit 514 = false → t.readback = s.readback
  status : m.testBit 515 = false → t.status = s.status
  latches : m.testBit 517 = false → t.latches = s.latches
  dram : m.testBit 518 = false → t.dram = s.dram
  tens : m.testBit 519 = false → t.tens = s.tens
  badPhys : m.testBit 520 = false → t.badPhys = s.badPhys
  badTens : m.testBit 521 = false → t.badTens = s.badTens
  pages : m.testBit 522 = false → t.pages = s.pages
  keptDescs : m.testBit 523 = false → t.keptDescs = s.keptDescs
  scrubBlock : m.testBit 524 = false → t.scrubBlock = s.scrubBlock
  load : m.testBit 525 = false → t.load = s.load
  secs : m.testBit 526 = false → t.secs = s.secs
  coreMap : m.testBit 527 = false → t.coreMap = s.coreMap
  links : m.testBit 528 = false → t.links = s.links
  devQueues : m.testBit 529 = false → t.devQueues = s.devQueues
  rules : m.testBit 530 = false → t.rules = s.rules
  rulesOn : m.testBit 531 = false → t.rulesOn = s.rulesOn
  rules0 : m.testBit 532 = false → t.rules0 = s.rules0
  live : m.testBit 533 = false → t.live = s.live
  repair : m.testBit 534 = false → t.repair = s.repair
  modrec : m.testBit 535 = false → t.modrec = s.modrec
  panels : m.testBit 536 = false → t.panels = s.panels
  cores : m.testBit 537 = false → t.cores = s.cores
  flights : m.testBit 538 = false → t.flights = s.flights
  nextFlight : m.testBit 539 = false → t.nextFlight = s.nextFlight
  trackers : m.testBit 540 = false → t.trackers = s.trackers
  trkSaved : m.testBit 541 = false → t.trkSaved = s.trkSaved
  obs : m.testBit 542 = false → t.obs = s.obs
  windows : m.testBit 543 = false → t.windows = s.windows
  micros : m.testBit 544 = false → t.micros = s.micros
  sliceSums : m.testBit 545 = false → t.sliceSums = s.sliceSums
  slices : m.testBit 546 = false → t.slices = s.slices
  stalledSlices : m.testBit 547 = false → t.stalledSlices = s.stalledSlices
  sideRecs : m.testBit 548 = false → t.sideRecs = s.sideRecs
  sideSums : m.testBit 549 = false → t.sideSums = s.sideSums
  masks : m.testBit 550 = false → t.masks = s.masks
  helds : m.testBit 551 = false → t.helds = s.helds
  sentTiles : m.testBit 552 = false → t.sentTiles = s.sentTiles
  updates : m.testBit 553 = false → t.updates = s.updates
  updDone : m.testBit 554 = false → t.updDone = s.updDone
  ratios : m.testBit 555 = false → t.ratios = s.ratios
  ratioSnap : m.testBit 556 = false → t.ratioSnap = s.ratioSnap
  epochs : m.testBit 557 = false → t.epochs = s.epochs
  openEpochs : m.testBit 558 = false → t.openEpochs = s.openEpochs
  arrivals : m.testBit 559 = false → t.arrivals = s.arrivals
  releases : m.testBit 560 = false → t.releases = s.releases
  votes : m.testBit 561 = false → t.votes = s.votes
  voteOut : m.testBit 562 = false → t.voteOut = s.voteOut
  forceArmed : m.testBit 563 = false → t.forceArmed = s.forceArmed
  fenceUsed : m.testBit 564 = false → t.fenceUsed = s.fenceUsed
  openTags : m.testBit 565 = false → t.openTags = s.openTags
  heldSets : m.testBit 566 = false → t.heldSets = s.heldSets
  queues : m.testBit 567 = false → t.queues = s.queues
  ports : m.testBit 568 = false → t.ports = s.ports
  requests : m.testBit 569 = false → t.requests = s.requests
  reqWait : m.testBit 570 = false → t.reqWait = s.reqWait
  routes : m.testBit 571 = false → t.routes = s.routes
  uplink : m.testBit 572 = false → t.uplink = s.uplink
  routeChange : m.testBit 573 = false → t.routeChange = s.routeChange
  routeHold : m.testBit 574 = false → t.routeHold = s.routeHold
  discTodo : m.testBit 575 = false → t.discTodo = s.discTodo
  discAsked : m.testBit 576 = false → t.discAsked = s.discAsked
  discLinks : m.testBit 577 = false → t.discLinks = s.discLinks
  discStarted : m.testBit 578 = false → t.discStarted = s.discStarted
  coldPorts : m.testBit 579 = false → t.coldPorts = s.coldPorts
  chans : m.testBit 580 = false → t.chans = s.chans
  groups : m.testBit 581 = false → t.groups = s.groups
  tree : m.testBit 582 = false → t.tree = s.tree
  attnSent : m.testBit 583 = false → t.attnSent = s.attnSent
  stewards : m.testBit 584 = false → t.stewards = s.stewards
  staging : m.testBit 585 = false → t.staging = s.staging
  recFifo : m.testBit 586 = false → t.recFifo = s.recFifo
  recLostMark : m.testBit 587 = false → t.recLostMark = s.recLostMark
  power : m.testBit 588 = false → t.power = s.power
  sec : m.testBit 589 = false → t.sec = s.sec
  i3c : m.testBit 590 = false → t.i3c = s.i3c
  jtag : m.testBit 591 = false → t.jtag = s.jtag
  pins : m.testBit 592 = false → t.pins = s.pins

theorem Keeps.refl {m : Nat} {s : State} : Keeps m s s := by constructor <;> intros <;> first | rfl | assumption

theorem Keeps.trans {m : Nat} {s t u : State} (a : Keeps m s t) (b : Keeps m t u) : Keeps m s u where
  pending := b.pending.trans a.pending
  reg := fun r i h => (b.reg r i h).trans (a.reg r i h)
  canon := fun h => b.canon (a.canon h)
  free := fun h => (b.free h).trans (a.free h)
  readback := fun h => (b.readback h).trans (a.readback h)
  status := fun h => (b.status h).trans (a.status h)
  latches := fun h => (b.latches h).trans (a.latches h)
  dram := fun h => (b.dram h).trans (a.dram h)
  tens := fun h => (b.tens h).trans (a.tens h)
  badPhys := fun h => (b.badPhys h).trans (a.badPhys h)
  badTens := fun h => (b.badTens h).trans (a.badTens h)
  pages := fun h => (b.pages h).trans (a.pages h)
  keptDescs := fun h => (b.keptDescs h).trans (a.keptDescs h)
  scrubBlock := fun h => (b.scrubBlock h).trans (a.scrubBlock h)
  load := fun h => (b.load h).trans (a.load h)
  secs := fun h => (b.secs h).trans (a.secs h)
  coreMap := fun h => (b.coreMap h).trans (a.coreMap h)
  links := fun h => (b.links h).trans (a.links h)
  devQueues := fun h => (b.devQueues h).trans (a.devQueues h)
  rules := fun h => (b.rules h).trans (a.rules h)
  rulesOn := fun h => (b.rulesOn h).trans (a.rulesOn h)
  rules0 := fun h => (b.rules0 h).trans (a.rules0 h)
  live := fun h => (b.live h).trans (a.live h)
  repair := fun h => (b.repair h).trans (a.repair h)
  modrec := fun h => (b.modrec h).trans (a.modrec h)
  panels := fun h => (b.panels h).trans (a.panels h)
  cores := fun h => (b.cores h).trans (a.cores h)
  flights := fun h => (b.flights h).trans (a.flights h)
  nextFlight := fun h => (b.nextFlight h).trans (a.nextFlight h)
  trackers := fun h => (b.trackers h).trans (a.trackers h)
  trkSaved := fun h => (b.trkSaved h).trans (a.trkSaved h)
  obs := fun h => (b.obs h).trans (a.obs h)
  windows := fun h => (b.windows h).trans (a.windows h)
  micros := fun h => (b.micros h).trans (a.micros h)
  sliceSums := fun h => (b.sliceSums h).trans (a.sliceSums h)
  slices := fun h => (b.slices h).trans (a.slices h)
  stalledSlices := fun h => (b.stalledSlices h).trans (a.stalledSlices h)
  sideRecs := fun h => (b.sideRecs h).trans (a.sideRecs h)
  sideSums := fun h => (b.sideSums h).trans (a.sideSums h)
  masks := fun h => (b.masks h).trans (a.masks h)
  helds := fun h => (b.helds h).trans (a.helds h)
  sentTiles := fun h => (b.sentTiles h).trans (a.sentTiles h)
  updates := fun h => (b.updates h).trans (a.updates h)
  updDone := fun h => (b.updDone h).trans (a.updDone h)
  ratios := fun h => (b.ratios h).trans (a.ratios h)
  ratioSnap := fun h => (b.ratioSnap h).trans (a.ratioSnap h)
  epochs := fun h => (b.epochs h).trans (a.epochs h)
  openEpochs := fun h => (b.openEpochs h).trans (a.openEpochs h)
  arrivals := fun h => (b.arrivals h).trans (a.arrivals h)
  releases := fun h => (b.releases h).trans (a.releases h)
  votes := fun h => (b.votes h).trans (a.votes h)
  voteOut := fun h => (b.voteOut h).trans (a.voteOut h)
  forceArmed := fun h => (b.forceArmed h).trans (a.forceArmed h)
  fenceUsed := fun h => (b.fenceUsed h).trans (a.fenceUsed h)
  openTags := fun h => (b.openTags h).trans (a.openTags h)
  heldSets := fun h => (b.heldSets h).trans (a.heldSets h)
  queues := fun h => (b.queues h).trans (a.queues h)
  ports := fun h => (b.ports h).trans (a.ports h)
  requests := fun h => (b.requests h).trans (a.requests h)
  reqWait := fun h => (b.reqWait h).trans (a.reqWait h)
  routes := fun h => (b.routes h).trans (a.routes h)
  uplink := fun h => (b.uplink h).trans (a.uplink h)
  routeChange := fun h => (b.routeChange h).trans (a.routeChange h)
  routeHold := fun h => (b.routeHold h).trans (a.routeHold h)
  discTodo := fun h => (b.discTodo h).trans (a.discTodo h)
  discAsked := fun h => (b.discAsked h).trans (a.discAsked h)
  discLinks := fun h => (b.discLinks h).trans (a.discLinks h)
  discStarted := fun h => (b.discStarted h).trans (a.discStarted h)
  coldPorts := fun h => (b.coldPorts h).trans (a.coldPorts h)
  chans := fun h => (b.chans h).trans (a.chans h)
  groups := fun h => (b.groups h).trans (a.groups h)
  tree := fun h => (b.tree h).trans (a.tree h)
  attnSent := fun h => (b.attnSent h).trans (a.attnSent h)
  stewards := fun h => (b.stewards h).trans (a.stewards h)
  staging := fun h => (b.staging h).trans (a.staging h)
  recFifo := fun h => (b.recFifo h).trans (a.recFifo h)
  recLostMark := fun h => (b.recLostMark h).trans (a.recLostMark h)
  power := fun h => (b.power h).trans (a.power h)
  sec := fun h => (b.sec h).trans (a.sec h)
  i3c := fun h => (b.i3c h).trans (a.i3c h)
  jtag := fun h => (b.jtag h).trans (a.jtag h)
  pins := fun h => (b.pins h).trans (a.pins h)

theorem Keeps.mono {m M : Nat} {s t : State} (a : Keeps m s t) (k : Within m M) : Keeps M s t where
  pending := a.pending
  reg := fun r i h => a.reg r i (k.off h)
  canon := a.canon
  free := fun h => a.free (k.off h)
  readback := fun h => a.readback (k.off h)
  status := fun h => a.status (k.off h)
  latches := fun h => a.latches (k.off h)
  dram := fun h => a.dram (k.off h)
  tens := fun h => a.tens (k.off h)
  badPhys := fun h => a.badPhys (k.off h)
  badTens := fun h => a.badTens (k.off h)
  pages := fun h => a.pages (k.off h)
  keptDescs := fun h => a.keptDescs (k.off h)
  scrubBlock := fun h => a.scrubBlock (k.off h)
  load := fun h => a.load (k.off h)
  secs := fun h => a.secs (k.off h)
  coreMap := fun h => a.coreMap (k.off h)
  links := fun h => a.links (k.off h)
  devQueues := fun h => a.devQueues (k.off h)
  rules := fun h => a.rules (k.off h)
  rulesOn := fun h => a.rulesOn (k.off h)
  rules0 := fun h => a.rules0 (k.off h)
  live := fun h => a.live (k.off h)
  repair := fun h => a.repair (k.off h)
  modrec := fun h => a.modrec (k.off h)
  panels := fun h => a.panels (k.off h)
  cores := fun h => a.cores (k.off h)
  flights := fun h => a.flights (k.off h)
  nextFlight := fun h => a.nextFlight (k.off h)
  trackers := fun h => a.trackers (k.off h)
  trkSaved := fun h => a.trkSaved (k.off h)
  obs := fun h => a.obs (k.off h)
  windows := fun h => a.windows (k.off h)
  micros := fun h => a.micros (k.off h)
  sliceSums := fun h => a.sliceSums (k.off h)
  slices := fun h => a.slices (k.off h)
  stalledSlices := fun h => a.stalledSlices (k.off h)
  sideRecs := fun h => a.sideRecs (k.off h)
  sideSums := fun h => a.sideSums (k.off h)
  masks := fun h => a.masks (k.off h)
  helds := fun h => a.helds (k.off h)
  sentTiles := fun h => a.sentTiles (k.off h)
  updates := fun h => a.updates (k.off h)
  updDone := fun h => a.updDone (k.off h)
  ratios := fun h => a.ratios (k.off h)
  ratioSnap := fun h => a.ratioSnap (k.off h)
  epochs := fun h => a.epochs (k.off h)
  openEpochs := fun h => a.openEpochs (k.off h)
  arrivals := fun h => a.arrivals (k.off h)
  releases := fun h => a.releases (k.off h)
  votes := fun h => a.votes (k.off h)
  voteOut := fun h => a.voteOut (k.off h)
  forceArmed := fun h => a.forceArmed (k.off h)
  fenceUsed := fun h => a.fenceUsed (k.off h)
  openTags := fun h => a.openTags (k.off h)
  heldSets := fun h => a.heldSets (k.off h)
  queues := fun h => a.queues (k.off h)
  ports := fun h => a.ports (k.off h)
  requests := fun h => a.requests (k.off h)
  reqWait := fun h => a.reqWait (k.off h)
  routes := fun h => a.routes (k.off h)
  uplink := fun h => a.uplink (k.off h)
  routeChange := fun h => a.routeChange (k.off h)
  routeHold := fun h => a.routeHold (k.off h)
  discTodo := fun h => a.discTodo (k.off h)
  discAsked := fun h => a.discAsked (k.off h)
  discLinks := fun h => a.discLinks (k.off h)
  discStarted := fun h => a.discStarted (k.off h)
  coldPorts := fun h => a.coldPorts (k.off h)
  chans := fun h => a.chans (k.off h)
  groups := fun h => a.groups (k.off h)
  tree := fun h => a.tree (k.off h)
  attnSent := fun h => a.attnSent (k.off h)
  stewards := fun h => a.stewards (k.off h)
  staging := fun h => a.staging (k.off h)
  recFifo := fun h => a.recFifo (k.off h)
  recLostMark := fun h => a.recLostMark (k.off h)
  power := fun h => a.power (k.off h)
  sec := fun h => a.sec (k.off h)
  i3c := fun h => a.i3c (k.off h)
  jtag := fun h => a.jtag (k.off h)
  pins := fun h => a.pins (k.off h)

section
variable {m : Nat} {s t : State} {α β : Type}

theorem Keeps.bind {a : State} {b : State → State} (h : Keeps m s a) (k : ∀ x, Keeps m s x → Keeps m s (b x)) :
    Keeps m s (let x := a; b x) := k a h

theorem Keeps.bindP {a : State × β} {b : State × β → State} (h : Keeps m s a.1)
    (k : ∀ x : State × β, Keeps m s x.1 → Keeps m s (b x)) : Keeps m s (let x := a; b x) := k a h

theorem Keeps.letv {a : α} {b : α → State} (k : ∀ x, Keeps m s (b x)) : Keeps m s (let x := a; b x) := k a

theorem Keeps.letz {a : α} {b : α → State} (k : Keeps m s (b a)) : Keeps m s (let x := a; b x) := k

theorem Keeps.bind1 {a : State} {b : State → State × β} (h : Keeps m s a) (k : ∀ x, Keeps m s x → Keeps m s (b x).1) :
    Keeps m s (let x := a; b x).1 := k a h

theorem Keeps.bindP1 {γ : Type} {a : State × γ} {b : State × γ → State × β} (h : Keeps m s a.1)
    (k : ∀ x : State × γ, Keeps m s x.1 → Keeps m s (b x).1) : Keeps m s (let x := a; b x).1 := k a h

theorem Keeps.letv1 {a : α} {b : α → State × β} (k : ∀ x, Keeps m s (b x).1) : Keeps m s (let x := a; b x).1 := k a

theorem Keeps.letz1 {a : α} {b : α → State × β} (k : Keeps m s (b a).1) : Keeps m s (let x := a; b x).1 := k

theorem Keeps.mk1 {a : State} {b : β} (h : Keeps m s a) : Keeps m s (a, b).1 := h

theorem Keeps.ite {c : Prop} [Decidable c] {a b : State} (h : Keeps m s a) (k : Keeps m s b) :
    Keeps m s (if c then a else b) := by split <;> assumption

theorem Keeps.ite1 {c : Prop} [Decidable c] {a b : State × β} (h : Keeps m s a.1) (k : Keeps m s b.1) :
    Keeps m s (if c then a else b).1 := by split <;> assumption

theorem Keeps.of_eq {M : Nat} {s : State} {x : State × β} {y : State} {b : β} (e : x = (y, b)) (h : Keeps M s x.1) :
    Keeps M s y := by rw [e] at h; exact h

theorem Keeps.foldl {f : State → α → State} (h : ∀ s x, Keeps m s (f s x)) (l : List α) (s : State) :
    Keeps m s (l.foldl f s) := by
  induction l generalizing s with
  | nil => exact Keeps.refl
  | cons x l ih => exact (h s x).trans (ih (f s x))

theorem Keeps.foldl1 {f : State × β → α → State × β} (h : ∀ s x, Keeps m s.1 (f s x).1) (l : List α) (s : State × β) :
    Keeps m s.1 (l.foldl f s).1 := by
  induction l generalizing s with
  | nil => exact Keeps.refl
  | cons x l ih => exact (h s x).trans (ih (f s x))

/-- The same of an answer: it is a next state, in which ATTN_N has been driven. -/
def OutKeeps (m : Nat) (s : State) (o : Out) : Prop := ∃ u, o = done u ∧ Keeps m s u


theorem OutKeeps.mono {M : Nat} {o : Out} (a : OutKeeps m s o) (k : Within m M) : OutKeeps M s o :=
  a.elim fun t h => ⟨t, h.1, h.2.mono k⟩

theorem OutKeeps.bind {a : State} {b : State → Out} (h : Keeps m s a) (k : ∀ x, Keeps m s x → OutKeeps m s (b x)) :
    OutKeeps m s (let x := a; b x) := k a h

theorem OutKeeps.letv {a : α} {b : α → Out} (k : ∀ x, OutKeeps m s (b x)) : OutKeeps m s (let x := a; b x) := k a

theorem OutKeeps.ite {c : Prop} [Decidable c] {a b : Out} (h : OutKeeps m s a) (k : OutKeeps m s b) :
    OutKeeps m s (if c then a else b) := by split <;> assumption
end

/-! The register file and the memories. -/

theorem rd_wr_same (s : State) (r : Reg) (i : Nat) (w : Word) : (s.wr r i w).rd r i = w := by
  unfold State.rd State.wr; exact spGet_spSet_same ..

theorem regKey_inj {r q : Reg} {i j : Nat} (h : regKey r i = regKey q j) : r.idx = q.idx ∧ i = j := by
  have a := idx_lt r; have b := idx_lt q
  unfold regKey at h; omega

theorem rd_wr_ne (s : State) {r q : Reg} {i j : Nat} (w : Word) (h : r.idx ≠ q.idx ∨ i ≠ j) :
    (s.wr r i w).rd q j = s.rd q j := by
  unfold State.rd State.wr
  exact spGet_spSet_ne _ _ _ fun e => by have := regKey_inj e; omega

theorem State_wr_keeps {m : Nat} {s : State} {r : Reg} {i : Nat} {w : Word} (h : m.testBit r.idx = true) : Keeps m s (s.wr r i w) where
  pending := rfl
  reg := fun q j hq => rd_wr_ne s w (.inl fun e => by rw [e, hq] at h; exact absurd h (by decide))
  canon := fun c => ⟨spWf_spSet _ _ _ _ c.1, c.2.1, c.2.2⟩
  free := fun _ => rfl
  readback := fun _ => rfl
  status := fun _ => rfl
  latches := fun _ => rfl
  dram := fun _ => rfl
  tens := fun _ => rfl
  badPhys := fun _ => rfl
  badTens := fun _ => rfl
  pages := fun _ => rfl
  keptDescs := fun _ => rfl
  scrubBlock := fun _ => rfl
  load := fun _ => rfl
  secs := fun _ => rfl
  coreMap := fun _ => rfl
  links := fun _ => rfl
  devQueues := fun _ => rfl
  rules := fun _ => rfl
  rulesOn := fun _ => rfl
  rules0 := fun _ => rfl
  live := fun _ => rfl
  repair := fun _ => rfl
  modrec := fun _ => rfl
  panels := fun _ => rfl
  cores := fun _ => rfl
  flights := fun _ => rfl
  nextFlight := fun _ => rfl
  trackers := fun _ => rfl
  trkSaved := fun _ => rfl
  obs := fun _ => rfl
  windows := fun _ => rfl
  micros := fun _ => rfl
  sliceSums := fun _ => rfl
  slices := fun _ => rfl
  stalledSlices := fun _ => rfl
  sideRecs := fun _ => rfl
  sideSums := fun _ => rfl
  masks := fun _ => rfl
  helds := fun _ => rfl
  sentTiles := fun _ => rfl
  updates := fun _ => rfl
  updDone := fun _ => rfl
  ratios := fun _ => rfl
  ratioSnap := fun _ => rfl
  epochs := fun _ => rfl
  openEpochs := fun _ => rfl
  arrivals := fun _ => rfl
  releases := fun _ => rfl
  votes := fun _ => rfl
  voteOut := fun _ => rfl
  forceArmed := fun _ => rfl
  fenceUsed := fun _ => rfl
  openTags := fun _ => rfl
  heldSets := fun _ => rfl
  queues := fun _ => rfl
  ports := fun _ => rfl
  requests := fun _ => rfl
  reqWait := fun _ => rfl
  routes := fun _ => rfl
  uplink := fun _ => rfl
  routeChange := fun _ => rfl
  routeHold := fun _ => rfl
  discTodo := fun _ => rfl
  discAsked := fun _ => rfl
  discLinks := fun _ => rfl
  discStarted := fun _ => rfl
  coldPorts := fun _ => rfl
  chans := fun _ => rfl
  groups := fun _ => rfl
  tree := fun _ => rfl
  attnSent := fun _ => rfl
  stewards := fun _ => rfl
  staging := fun _ => rfl
  recFifo := fun _ => rfl
  recLostMark := fun _ => rfl
  power := fun _ => rfl
  sec := fun _ => rfl
  i3c := fun _ => rfl
  jtag := fun _ => rfl
  pins := fun _ => rfl

theorem State_fset_keeps {m : Nat} {s : State} {f : Fld} {i v : Nat} (h : m.testBit f.reg.idx = true) : Keeps m s (s.fset f i v) :=
  State_wr_keeps h
theorem State_finc_keeps {m : Nat} {s : State} {f : Fld} {i v : Nat} (h : m.testBit f.reg.idx = true) : Keeps m s (s.finc f i v) :=
  State_wr_keeps h
theorem State_fincw_keeps {m : Nat} {s : State} {f : Fld} {i v : Nat} (h : m.testBit f.reg.idx = true) : Keeps m s (s.fincw f i v) :=
  State_wr_keeps h
theorem State_setBit_keeps {m : Nat} {s : State} {r : Reg} {i b : Nat} (h : m.testBit r.idx = true) : Keeps m s (s.setBit r i b) :=
  State_wr_keeps h

theorem spWf_filter {α : Type} [DecidableEq α] {d : Nat → α} {m : List (Nat × α)} (p : Nat × α → Bool)
    (h : spWf d m = true) : spWf d (m.filter p) = true := by
  simp only [spWf, Bool.and_eq_true, List.all_eq_true, decide_eq_true_eq] at h ⊢
  refine ⟨?_, fun e he => h.2 e ((List.mem_filter.mp he).1)⟩
  have h1 := h.1
  clear h
  induction m with
  | nil => exact h1
  | cons e m ih =>
    have hc := spSorted_cons.mp h1
    rw [List.filter_cons]
    split
    · exact spSorted_cons.mpr ⟨fun x hx => hc.1 x ((List.mem_filter.mp hx).1), ih hc.2⟩
    · exact ih hc.2

theorem memSet_wf {m : List Host.Cell} {a : Nat} {v : Byte} (h : Memory.wf m = true) : Memory.wf (memSet m a v) = true :=
  spWf_spSet _ _ _ _ h

theorem memWrite_wf {m : List Host.Cell} {a : Nat} {bs : List Byte} (h : Memory.wf m = true) :
    Memory.wf (memWrite m a bs) = true := by
  induction bs generalizing m a with
  | nil => exact h
  | cons b bs ih => exact ih (memSet_wf h)

/-! Updates of the fields. -/

theorem upd_pages {m : Nat} {s : State} {x0} (h0 : m.testBit 522 = true) :
    Keeps m s { s with pages := x0 } where
  pending := rfl
  reg := fun _ _ _ => rfl
  canon := id
  free := fun _ => rfl
  readback := fun _ => rfl
  status := fun _ => rfl
  latches := fun _ => rfl
  dram := fun _ => rfl
  tens := fun _ => rfl
  badPhys := fun _ => rfl
  badTens := fun _ => rfl
  pages := fun h => by rw [h] at h0; exact absurd h0 (by decide)
  keptDescs := fun _ => rfl
  scrubBlock := fun _ => rfl
  load := fun _ => rfl
  secs := fun _ => rfl
  coreMap := fun _ => rfl
  links := fun _ => rfl
  devQueues := fun _ => rfl
  rules := fun _ => rfl
  rulesOn := fun _ => rfl
  rules0 := fun _ => rfl
  live := fun _ => rfl
  repair := fun _ => rfl
  modrec := fun _ => rfl
  panels := fun _ => rfl
  cores := fun _ => rfl
  flights := fun _ => rfl
  nextFlight := fun _ => rfl
  trackers := fun _ => rfl
  trkSaved := fun _ => rfl
  obs := fun _ => rfl
  windows := fun _ => rfl
  micros := fun _ => rfl
  sliceSums := fun _ => rfl
  slices := fun _ => rfl
  stalledSlices := fun _ => rfl
  sideRecs := fun _ => rfl
  sideSums := fun _ => rfl
  masks := fun _ => rfl
  helds := fun _ => rfl
  sentTiles := fun _ => rfl
  updates := fun _ => rfl
  updDone := fun _ => rfl
  ratios := fun _ => rfl
  ratioSnap := fun _ => rfl
  epochs := fun _ => rfl
  openEpochs := fun _ => rfl
  arrivals := fun _ => rfl
  releases := fun _ => rfl
  votes := fun _ => rfl
  voteOut := fun _ => rfl
  forceArmed := fun _ => rfl
  fenceUsed := fun _ => rfl
  openTags := fun _ => rfl
  heldSets := fun _ => rfl
  queues := fun _ => rfl
  ports := fun _ => rfl
  requests := fun _ => rfl
  reqWait := fun _ => rfl
  routes := fun _ => rfl
  uplink := fun _ => rfl
  routeChange := fun _ => rfl
  routeHold := fun _ => rfl
  discTodo := fun _ => rfl
  discAsked := fun _ => rfl
  discLinks := fun _ => rfl
  discStarted := fun _ => rfl
  coldPorts := fun _ => rfl
  chans := fun _ => rfl
  groups := fun _ => rfl
  tree := fun _ => rfl
  attnSent := fun _ => rfl
  stewards := fun _ => rfl
  staging := fun _ => rfl
  recFifo := fun _ => rfl
  recLostMark := fun _ => rfl
  power := fun _ => rfl
  sec := fun _ => rfl
  i3c := fun _ => rfl
  jtag := fun _ => rfl
  pins := fun _ => rfl

theorem upd_status {m : Nat} {s : State} {x0} (h0 : m.testBit 515 = true) :
    Keeps m s { s with status := x0 } where
  pending := rfl
  reg := fun _ _ _ => rfl
  canon := id
  free := fun _ => rfl
  readback := fun _ => rfl
  status := fun h => by rw [h] at h0; exact absurd h0 (by decide)
  latches := fun _ => rfl
  dram := fun _ => rfl
  tens := fun _ => rfl
  badPhys := fun _ => rfl
  badTens := fun _ => rfl
  pages := fun _ => rfl
  keptDescs := fun _ => rfl
  scrubBlock := fun _ => rfl
  load := fun _ => rfl
  secs := fun _ => rfl
  coreMap := fun _ => rfl
  links := fun _ => rfl
  devQueues := fun _ => rfl
  rules := fun _ => rfl
  rulesOn := fun _ => rfl
  rules0 := fun _ => rfl
  live := fun _ => rfl
  repair := fun _ => rfl
  modrec := fun _ => rfl
  panels := fun _ => rfl
  cores := fun _ => rfl
  flights := fun _ => rfl
  nextFlight := fun _ => rfl
  trackers := fun _ => rfl
  trkSaved := fun _ => rfl
  obs := fun _ => rfl
  windows := fun _ => rfl
  micros := fun _ => rfl
  sliceSums := fun _ => rfl
  slices := fun _ => rfl
  stalledSlices := fun _ => rfl
  sideRecs := fun _ => rfl
  sideSums := fun _ => rfl
  masks := fun _ => rfl
  helds := fun _ => rfl
  sentTiles := fun _ => rfl
  updates := fun _ => rfl
  updDone := fun _ => rfl
  ratios := fun _ => rfl
  ratioSnap := fun _ => rfl
  epochs := fun _ => rfl
  openEpochs := fun _ => rfl
  arrivals := fun _ => rfl
  releases := fun _ => rfl
  votes := fun _ => rfl
  voteOut := fun _ => rfl
  forceArmed := fun _ => rfl
  fenceUsed := fun _ => rfl
  openTags := fun _ => rfl
  heldSets := fun _ => rfl
  queues := fun _ => rfl
  ports := fun _ => rfl
  requests := fun _ => rfl
  reqWait := fun _ => rfl
  routes := fun _ => rfl
  uplink := fun _ => rfl
  routeChange := fun _ => rfl
  routeHold := fun _ => rfl
  discTodo := fun _ => rfl
  discAsked := fun _ => rfl
  discLinks := fun _ => rfl
  discStarted := fun _ => rfl
  coldPorts := fun _ => rfl
  chans := fun _ => rfl
  groups := fun _ => rfl
  tree := fun _ => rfl
  attnSent := fun _ => rfl
  stewards := fun _ => rfl
  staging := fun _ => rfl
  recFifo := fun _ => rfl
  recLostMark := fun _ => rfl
  power := fun _ => rfl
  sec := fun _ => rfl
  i3c := fun _ => rfl
  jtag := fun _ => rfl
  pins := fun _ => rfl

theorem upd_masks_helds {m : Nat} {s : State} {x0 x1} (h0 : m.testBit 550 = true) (h1 : m.testBit 551 = true) :
    Keeps m s { s with masks := x0, helds := x1 } where
  pending := rfl
  reg := fun _ _ _ => rfl
  canon := id
  free := fun _ => rfl
  readback := fun _ => rfl
  status := fun _ => rfl
  latches := fun _ => rfl
  dram := fun _ => rfl
  tens := fun _ => rfl
  badPhys := fun _ => rfl
  badTens := fun _ => rfl
  pages := fun _ => rfl
  keptDescs := fun _ => rfl
  scrubBlock := fun _ => rfl
  load := fun _ => rfl
  secs := fun _ => rfl
  coreMap := fun _ => rfl
  links := fun _ => rfl
  devQueues := fun _ => rfl
  rules := fun _ => rfl
  rulesOn := fun _ => rfl
  rules0 := fun _ => rfl
  live := fun _ => rfl
  repair := fun _ => rfl
  modrec := fun _ => rfl
  panels := fun _ => rfl
  cores := fun _ => rfl
  flights := fun _ => rfl
  nextFlight := fun _ => rfl
  trackers := fun _ => rfl
  trkSaved := fun _ => rfl
  obs := fun _ => rfl
  windows := fun _ => rfl
  micros := fun _ => rfl
  sliceSums := fun _ => rfl
  slices := fun _ => rfl
  stalledSlices := fun _ => rfl
  sideRecs := fun _ => rfl
  sideSums := fun _ => rfl
  masks := fun h => by rw [h] at h0; exact absurd h0 (by decide)
  helds := fun h => by rw [h] at h1; exact absurd h1 (by decide)
  sentTiles := fun _ => rfl
  updates := fun _ => rfl
  updDone := fun _ => rfl
  ratios := fun _ => rfl
  ratioSnap := fun _ => rfl
  epochs := fun _ => rfl
  openEpochs := fun _ => rfl
  arrivals := fun _ => rfl
  releases := fun _ => rfl
  votes := fun _ => rfl
  voteOut := fun _ => rfl
  forceArmed := fun _ => rfl
  fenceUsed := fun _ => rfl
  openTags := fun _ => rfl
  heldSets := fun _ => rfl
  queues := fun _ => rfl
  ports := fun _ => rfl
  requests := fun _ => rfl
  reqWait := fun _ => rfl
  routes := fun _ => rfl
  uplink := fun _ => rfl
  routeChange := fun _ => rfl
  routeHold := fun _ => rfl
  discTodo := fun _ => rfl
  discAsked := fun _ => rfl
  discLinks := fun _ => rfl
  discStarted := fun _ => rfl
  coldPorts := fun _ => rfl
  chans := fun _ => rfl
  groups := fun _ => rfl
  tree := fun _ => rfl
  attnSent := fun _ => rfl
  stewards := fun _ => rfl
  staging := fun _ => rfl
  recFifo := fun _ => rfl
  recLostMark := fun _ => rfl
  power := fun _ => rfl
  sec := fun _ => rfl
  i3c := fun _ => rfl
  jtag := fun _ => rfl
  pins := fun _ => rfl

theorem upd_ratios {m : Nat} {s : State} {x0} (h0 : m.testBit 555 = true) :
    Keeps m s { s with ratios := x0 } where
  pending := rfl
  reg := fun _ _ _ => rfl
  canon := id
  free := fun _ => rfl
  readback := fun _ => rfl
  status := fun _ => rfl
  latches := fun _ => rfl
  dram := fun _ => rfl
  tens := fun _ => rfl
  badPhys := fun _ => rfl
  badTens := fun _ => rfl
  pages := fun _ => rfl
  keptDescs := fun _ => rfl
  scrubBlock := fun _ => rfl
  load := fun _ => rfl
  secs := fun _ => rfl
  coreMap := fun _ => rfl
  links := fun _ => rfl
  devQueues := fun _ => rfl
  rules := fun _ => rfl
  rulesOn := fun _ => rfl
  rules0 := fun _ => rfl
  live := fun _ => rfl
  repair := fun _ => rfl
  modrec := fun _ => rfl
  panels := fun _ => rfl
  cores := fun _ => rfl
  flights := fun _ => rfl
  nextFlight := fun _ => rfl
  trackers := fun _ => rfl
  trkSaved := fun _ => rfl
  obs := fun _ => rfl
  windows := fun _ => rfl
  micros := fun _ => rfl
  sliceSums := fun _ => rfl
  slices := fun _ => rfl
  stalledSlices := fun _ => rfl
  sideRecs := fun _ => rfl
  sideSums := fun _ => rfl
  masks := fun _ => rfl
  helds := fun _ => rfl
  sentTiles := fun _ => rfl
  updates := fun _ => rfl
  updDone := fun _ => rfl
  ratios := fun h => by rw [h] at h0; exact absurd h0 (by decide)
  ratioSnap := fun _ => rfl
  epochs := fun _ => rfl
  openEpochs := fun _ => rfl
  arrivals := fun _ => rfl
  releases := fun _ => rfl
  votes := fun _ => rfl
  voteOut := fun _ => rfl
  forceArmed := fun _ => rfl
  fenceUsed := fun _ => rfl
  openTags := fun _ => rfl
  heldSets := fun _ => rfl
  queues := fun _ => rfl
  ports := fun _ => rfl
  requests := fun _ => rfl
  reqWait := fun _ => rfl
  routes := fun _ => rfl
  uplink := fun _ => rfl
  routeChange := fun _ => rfl
  routeHold := fun _ => rfl
  discTodo := fun _ => rfl
  discAsked := fun _ => rfl
  discLinks := fun _ => rfl
  discStarted := fun _ => rfl
  coldPorts := fun _ => rfl
  chans := fun _ => rfl
  groups := fun _ => rfl
  tree := fun _ => rfl
  attnSent := fun _ => rfl
  stewards := fun _ => rfl
  staging := fun _ => rfl
  recFifo := fun _ => rfl
  recLostMark := fun _ => rfl
  power := fun _ => rfl
  sec := fun _ => rfl
  i3c := fun _ => rfl
  jtag := fun _ => rfl
  pins := fun _ => rfl

theorem upd_dram {m : Nat} {s : State} {x0} (h0 : m.testBit 518 = true) (c : canonical s → canonical { s with dram := x0 }) :
    Keeps m s { s with dram := x0 } where
  pending := rfl
  reg := fun _ _ _ => rfl
  canon := c
  free := fun _ => rfl
  readback := fun _ => rfl
  status := fun _ => rfl
  latches := fun _ => rfl
  dram := fun h => by rw [h] at h0; exact absurd h0 (by decide)
  tens := fun _ => rfl
  badPhys := fun _ => rfl
  badTens := fun _ => rfl
  pages := fun _ => rfl
  keptDescs := fun _ => rfl
  scrubBlock := fun _ => rfl
  load := fun _ => rfl
  secs := fun _ => rfl
  coreMap := fun _ => rfl
  links := fun _ => rfl
  devQueues := fun _ => rfl
  rules := fun _ => rfl
  rulesOn := fun _ => rfl
  rules0 := fun _ => rfl
  live := fun _ => rfl
  repair := fun _ => rfl
  modrec := fun _ => rfl
  panels := fun _ => rfl
  cores := fun _ => rfl
  flights := fun _ => rfl
  nextFlight := fun _ => rfl
  trackers := fun _ => rfl
  trkSaved := fun _ => rfl
  obs := fun _ => rfl
  windows := fun _ => rfl
  micros := fun _ => rfl
  sliceSums := fun _ => rfl
  slices := fun _ => rfl
  stalledSlices := fun _ => rfl
  sideRecs := fun _ => rfl
  sideSums := fun _ => rfl
  masks := fun _ => rfl
  helds := fun _ => rfl
  sentTiles := fun _ => rfl
  updates := fun _ => rfl
  updDone := fun _ => rfl
  ratios := fun _ => rfl
  ratioSnap := fun _ => rfl
  epochs := fun _ => rfl
  openEpochs := fun _ => rfl
  arrivals := fun _ => rfl
  releases := fun _ => rfl
  votes := fun _ => rfl
  voteOut := fun _ => rfl
  forceArmed := fun _ => rfl
  fenceUsed := fun _ => rfl
  openTags := fun _ => rfl
  heldSets := fun _ => rfl
  queues := fun _ => rfl
  ports := fun _ => rfl
  requests := fun _ => rfl
  reqWait := fun _ => rfl
  routes := fun _ => rfl
  uplink := fun _ => rfl
  routeChange := fun _ => rfl
  routeHold := fun _ => rfl
  discTodo := fun _ => rfl
  discAsked := fun _ => rfl
  discLinks := fun _ => rfl
  discStarted := fun _ => rfl
  coldPorts := fun _ => rfl
  chans := fun _ => rfl
  groups := fun _ => rfl
  tree := fun _ => rfl
  attnSent := fun _ => rfl
  stewards := fun _ => rfl
  staging := fun _ => rfl
  recFifo := fun _ => rfl
  recLostMark := fun _ => rfl
  power := fun _ => rfl
  sec := fun _ => rfl
  i3c := fun _ => rfl
  jtag := fun _ => rfl
  pins := fun _ => rfl

theorem upd_trackers {m : Nat} {s : State} {x0} (h0 : m.testBit 540 = true) :
    Keeps m s { s with trackers := x0 } where
  pending := rfl
  reg := fun _ _ _ => rfl
  canon := id
  free := fun _ => rfl
  readback := fun _ => rfl
  status := fun _ => rfl
  latches := fun _ => rfl
  dram := fun _ => rfl
  tens := fun _ => rfl
  badPhys := fun _ => rfl
  badTens := fun _ => rfl
  pages := fun _ => rfl
  keptDescs := fun _ => rfl
  scrubBlock := fun _ => rfl
  load := fun _ => rfl
  secs := fun _ => rfl
  coreMap := fun _ => rfl
  links := fun _ => rfl
  devQueues := fun _ => rfl
  rules := fun _ => rfl
  rulesOn := fun _ => rfl
  rules0 := fun _ => rfl
  live := fun _ => rfl
  repair := fun _ => rfl
  modrec := fun _ => rfl
  panels := fun _ => rfl
  cores := fun _ => rfl
  flights := fun _ => rfl
  nextFlight := fun _ => rfl
  trackers := fun h => by rw [h] at h0; exact absurd h0 (by decide)
  trkSaved := fun _ => rfl
  obs := fun _ => rfl
  windows := fun _ => rfl
  micros := fun _ => rfl
  sliceSums := fun _ => rfl
  slices := fun _ => rfl
  stalledSlices := fun _ => rfl
  sideRecs := fun _ => rfl
  sideSums := fun _ => rfl
  masks := fun _ => rfl
  helds := fun _ => rfl
  sentTiles := fun _ => rfl
  updates := fun _ => rfl
  updDone := fun _ => rfl
  ratios := fun _ => rfl
  ratioSnap := fun _ => rfl
  epochs := fun _ => rfl
  openEpochs := fun _ => rfl
  arrivals := fun _ => rfl
  releases := fun _ => rfl
  votes := fun _ => rfl
  voteOut := fun _ => rfl
  forceArmed := fun _ => rfl
  fenceUsed := fun _ => rfl
  openTags := fun _ => rfl
  heldSets := fun _ => rfl
  queues := fun _ => rfl
  ports := fun _ => rfl
  requests := fun _ => rfl
  reqWait := fun _ => rfl
  routes := fun _ => rfl
  uplink := fun _ => rfl
  routeChange := fun _ => rfl
  routeHold := fun _ => rfl
  discTodo := fun _ => rfl
  discAsked := fun _ => rfl
  discLinks := fun _ => rfl
  discStarted := fun _ => rfl
  coldPorts := fun _ => rfl
  chans := fun _ => rfl
  groups := fun _ => rfl
  tree := fun _ => rfl
  attnSent := fun _ => rfl
  stewards := fun _ => rfl
  staging := fun _ => rfl
  recFifo := fun _ => rfl
  recLostMark := fun _ => rfl
  power := fun _ => rfl
  sec := fun _ => rfl
  i3c := fun _ => rfl
  jtag := fun _ => rfl
  pins := fun _ => rfl

theorem upd_chans {m : Nat} {s : State} {x0} (h0 : m.testBit 580 = true) :
    Keeps m s { s with chans := x0 } where
  pending := rfl
  reg := fun _ _ _ => rfl
  canon := id
  free := fun _ => rfl
  readback := fun _ => rfl
  status := fun _ => rfl
  latches := fun _ => rfl
  dram := fun _ => rfl
  tens := fun _ => rfl
  badPhys := fun _ => rfl
  badTens := fun _ => rfl
  pages := fun _ => rfl
  keptDescs := fun _ => rfl
  scrubBlock := fun _ => rfl
  load := fun _ => rfl
  secs := fun _ => rfl
  coreMap := fun _ => rfl
  links := fun _ => rfl
  devQueues := fun _ => rfl
  rules := fun _ => rfl
  rulesOn := fun _ => rfl
  rules0 := fun _ => rfl
  live := fun _ => rfl
  repair := fun _ => rfl
  modrec := fun _ => rfl
  panels := fun _ => rfl
  cores := fun _ => rfl
  flights := fun _ => rfl
  nextFlight := fun _ => rfl
  trackers := fun _ => rfl
  trkSaved := fun _ => rfl
  obs := fun _ => rfl
  windows := fun _ => rfl
  micros := fun _ => rfl
  sliceSums := fun _ => rfl
  slices := fun _ => rfl
  stalledSlices := fun _ => rfl
  sideRecs := fun _ => rfl
  sideSums := fun _ => rfl
  masks := fun _ => rfl
  helds := fun _ => rfl
  sentTiles := fun _ => rfl
  updates := fun _ => rfl
  updDone := fun _ => rfl
  ratios := fun _ => rfl
  ratioSnap := fun _ => rfl
  epochs := fun _ => rfl
  openEpochs := fun _ => rfl
  arrivals := fun _ => rfl
  releases := fun _ => rfl
  votes := fun _ => rfl
  voteOut := fun _ => rfl
  forceArmed := fun _ => rfl
  fenceUsed := fun _ => rfl
  openTags := fun _ => rfl
  heldSets := fun _ => rfl
  queues := fun _ => rfl
  ports := fun _ => rfl
  requests := fun _ => rfl
  reqWait := fun _ => rfl
  routes := fun _ => rfl
  uplink := fun _ => rfl
  routeChange := fun _ => rfl
  routeHold := fun _ => rfl
  discTodo := fun _ => rfl
  discAsked := fun _ => rfl
  discLinks := fun _ => rfl
  discStarted := fun _ => rfl
  coldPorts := fun _ => rfl
  chans := fun h => by rw [h] at h0; exact absurd h0 (by decide)
  groups := fun _ => rfl
  tree := fun _ => rfl
  attnSent := fun _ => rfl
  stewards := fun _ => rfl
  staging := fun _ => rfl
  recFifo := fun _ => rfl
  recLostMark := fun _ => rfl
  power := fun _ => rfl
  sec := fun _ => rfl
  i3c := fun _ => rfl
  jtag := fun _ => rfl
  pins := fun _ => rfl

theorem upd_windows_micros_sliceSums_sideSums_sentTiles_updDone {m : Nat} {s : State} {x0 x1 x2 x3 x4 x5} (h0 : m.testBit 543 = true) (h1 : m.testBit 544 = true) (h2 : m.testBit 545 = true) (h3 : m.testBit 549 = true) (h4 : m.testBit 552 = true) (h5 : m.testBit 554 = true) :
    Keeps m s { s with windows := x0, micros := x1, sliceSums := x2, sideSums := x3, sentTiles := x4, updDone := x5 } where
  pending := rfl
  reg := fun _ _ _ => rfl
  canon := id
  free := fun _ => rfl
  readback := fun _ => rfl
  status := fun _ => rfl
  latches := fun _ => rfl
  dram := fun _ => rfl
  tens := fun _ => rfl
  badPhys := fun _ => rfl
  badTens := fun _ => rfl
  pages := fun _ => rfl
  keptDescs := fun _ => rfl
  scrubBlock := fun _ => rfl
  load := fun _ => rfl
  secs := fun _ => rfl
  coreMap := fun _ => rfl
  links := fun _ => rfl
  devQueues := fun _ => rfl
  rules := fun _ => rfl
  rulesOn := fun _ => rfl
  rules0 := fun _ => rfl
  live := fun _ => rfl
  repair := fun _ => rfl
  modrec := fun _ => rfl
  panels := fun _ => rfl
  cores := fun _ => rfl
  flights := fun _ => rfl
  nextFlight := fun _ => rfl
  trackers := fun _ => rfl
  trkSaved := fun _ => rfl
  obs := fun _ => rfl
  windows := fun h => by rw [h] at h0; exact absurd h0 (by decide)
  micros := fun h => by rw [h] at h1; exact absurd h1 (by decide)
  sliceSums := fun h => by rw [h] at h2; exact absurd h2 (by decide)
  slices := fun _ => rfl
  stalledSlices := fun _ => rfl
  sideRecs := fun _ => rfl
  sideSums := fun h => by rw [h] at h3; exact absurd h3 (by decide)
  masks := fun _ => rfl
  helds := fun _ => rfl
  sentTiles := fun h => by rw [h] at h4; exact absurd h4 (by decide)
  updates := fun _ => rfl
  updDone := fun h => by rw [h] at h5; exact absurd h5 (by decide)
  ratios := fun _ => rfl
  ratioSnap := fun _ => rfl
  epochs := fun _ => rfl
  openEpochs := fun _ => rfl
  arrivals := fun _ => rfl
  releases := fun _ => rfl
  votes := fun _ => rfl
  voteOut := fun _ => rfl
  forceArmed := fun _ => rfl
  fenceUsed := fun _ => rfl
  openTags := fun _ => rfl
  heldSets := fun _ => rfl
  queues := fun _ => rfl
  ports := fun _ => rfl
  requests := fun _ => rfl
  reqWait := fun _ => rfl
  routes := fun _ => rfl
  uplink := fun _ => rfl
  routeChange := fun _ => rfl
  routeHold := fun _ => rfl
  discTodo := fun _ => rfl
  discAsked := fun _ => rfl
  discLinks := fun _ => rfl
  discStarted := fun _ => rfl
  coldPorts := fun _ => rfl
  chans := fun _ => rfl
  groups := fun _ => rfl
  tree := fun _ => rfl
  attnSent := fun _ => rfl
  stewards := fun _ => rfl
  staging := fun _ => rfl
  recFifo := fun _ => rfl
  recLostMark := fun _ => rfl
  power := fun _ => rfl
  sec := fun _ => rfl
  i3c := fun _ => rfl
  jtag := fun _ => rfl
  pins := fun _ => rfl

theorem upd_trackers_windows_micros_sliceSums_slices_stalledSlices_sideRecs_sideSums_masks_helds_sentTiles_updates_updDone_ratios {m : Nat} {s : State} {x0 x1 x2 x3 x4 x5 x6 x7 x8 x9 x10 x11 x12 x13} (h0 : m.testBit 540 = true) (h1 : m.testBit 543 = true) (h2 : m.testBit 544 = true) (h3 : m.testBit 545 = true) (h4 : m.testBit 546 = true) (h5 : m.testBit 547 = true) (h6 : m.testBit 548 = true) (h7 : m.testBit 549 = true) (h8 : m.testBit 550 = true) (h9 : m.testBit 551 = true) (h10 : m.testBit 552 = true) (h11 : m.testBit 553 = true) (h12 : m.testBit 554 = true) (h13 : m.testBit 555 = true) :
    Keeps m s { s with trackers := x0, windows := x1, micros := x2, sliceSums := x3, slices := x4, stalledSlices := x5, sideRecs := x6, sideSums := x7, masks := x8, helds := x9, sentTiles := x10, updates := x11, updDone := x12, ratios := x13 } where
  pending := rfl
  reg := fun _ _ _ => rfl
  canon := id
  free := fun _ => rfl
  readback := fun _ => rfl
  status := fun _ => rfl
  latches := fun _ => rfl
  dram := fun _ => rfl
  tens := fun _ => rfl
  badPhys := fun _ => rfl
  badTens := fun _ => rfl
  pages := fun _ => rfl
  keptDescs := fun _ => rfl
  scrubBlock := fun _ => rfl
  load := fun _ => rfl
  secs := fun _ => rfl
  coreMap := fun _ => rfl
  links := fun _ => rfl
  devQueues := fun _ => rfl
  rules := fun _ => rfl
  rulesOn := fun _ => rfl
  rules0 := fun _ => rfl
  live := fun _ => rfl
  repair := fun _ => rfl
  modrec := fun _ => rfl
  panels := fun _ => rfl
  cores := fun _ => rfl
  flights := fun _ => rfl
  nextFlight := fun _ => rfl
  trackers := fun h => by rw [h] at h0; exact absurd h0 (by decide)
  trkSaved := fun _ => rfl
  obs := fun _ => rfl
  windows := fun h => by rw [h] at h1; exact absurd h1 (by decide)
  micros := fun h => by rw [h] at h2; exact absurd h2 (by decide)
  sliceSums := fun h => by rw [h] at h3; exact absurd h3 (by decide)
  slices := fun h => by rw [h] at h4; exact absurd h4 (by decide)
  stalledSlices := fun h => by rw [h] at h5; exact absurd h5 (by decide)
  sideRecs := fun h => by rw [h] at h6; exact absurd h6 (by decide)
  sideSums := fun h => by rw [h] at h7; exact absurd h7 (by decide)
  masks := fun h => by rw [h] at h8; exact absurd h8 (by decide)
  helds := fun h => by rw [h] at h9; exact absurd h9 (by decide)
  sentTiles := fun h => by rw [h] at h10; exact absurd h10 (by decide)
  updates := fun h => by rw [h] at h11; exact absurd h11 (by decide)
  updDone := fun h => by rw [h] at h12; exact absurd h12 (by decide)
  ratios := fun h => by rw [h] at h13; exact absurd h13 (by decide)
  ratioSnap := fun _ => rfl
  epochs := fun _ => rfl
  openEpochs := fun _ => rfl
  arrivals := fun _ => rfl
  releases := fun _ => rfl
  votes := fun _ => rfl
  voteOut := fun _ => rfl
  forceArmed := fun _ => rfl
  fenceUsed := fun _ => rfl
  openTags := fun _ => rfl
  heldSets := fun _ => rfl
  queues := fun _ => rfl
  ports := fun _ => rfl
  requests := fun _ => rfl
  reqWait := fun _ => rfl
  routes := fun _ => rfl
  uplink := fun _ => rfl
  routeChange := fun _ => rfl
  routeHold := fun _ => rfl
  discTodo := fun _ => rfl
  discAsked := fun _ => rfl
  discLinks := fun _ => rfl
  discStarted := fun _ => rfl
  coldPorts := fun _ => rfl
  chans := fun _ => rfl
  groups := fun _ => rfl
  tree := fun _ => rfl
  attnSent := fun _ => rfl
  stewards := fun _ => rfl
  staging := fun _ => rfl
  recFifo := fun _ => rfl
  recLostMark := fun _ => rfl
  power := fun _ => rfl
  sec := fun _ => rfl
  i3c := fun _ => rfl
  jtag := fun _ => rfl
  pins := fun _ => rfl

theorem upd_badPhys {m : Nat} {s : State} {x0} (h0 : m.testBit 520 = true) :
    Keeps m s { s with badPhys := x0 } where
  pending := rfl
  reg := fun _ _ _ => rfl
  canon := id
  free := fun _ => rfl
  readback := fun _ => rfl
  status := fun _ => rfl
  latches := fun _ => rfl
  dram := fun _ => rfl
  tens := fun _ => rfl
  badPhys := fun h => by rw [h] at h0; exact absurd h0 (by decide)
  badTens := fun _ => rfl
  pages := fun _ => rfl
  keptDescs := fun _ => rfl
  scrubBlock := fun _ => rfl
  load := fun _ => rfl
  secs := fun _ => rfl
  coreMap := fun _ => rfl
  links := fun _ => rfl
  devQueues := fun _ => rfl
  rules := fun _ => rfl
  rulesOn := fun _ => rfl
  rules0 := fun _ => rfl
  live := fun _ => rfl
  repair := fun _ => rfl
  modrec := fun _ => rfl
  panels := fun _ => rfl
  cores := fun _ => rfl
  flights := fun _ => rfl
  nextFlight := fun _ => rfl
  trackers := fun _ => rfl
  trkSaved := fun _ => rfl
  obs := fun _ => rfl
  windows := fun _ => rfl
  micros := fun _ => rfl
  sliceSums := fun _ => rfl
  slices := fun _ => rfl
  stalledSlices := fun _ => rfl
  sideRecs := fun _ => rfl
  sideSums := fun _ => rfl
  masks := fun _ => rfl
  helds := fun _ => rfl
  sentTiles := fun _ => rfl
  updates := fun _ => rfl
  updDone := fun _ => rfl
  ratios := fun _ => rfl
  ratioSnap := fun _ => rfl
  epochs := fun _ => rfl
  openEpochs := fun _ => rfl
  arrivals := fun _ => rfl
  releases := fun _ => rfl
  votes := fun _ => rfl
  voteOut := fun _ => rfl
  forceArmed := fun _ => rfl
  fenceUsed := fun _ => rfl
  openTags := fun _ => rfl
  heldSets := fun _ => rfl
  queues := fun _ => rfl
  ports := fun _ => rfl
  requests := fun _ => rfl
  reqWait := fun _ => rfl
  routes := fun _ => rfl
  uplink := fun _ => rfl
  routeChange := fun _ => rfl
  routeHold := fun _ => rfl
  discTodo := fun _ => rfl
  discAsked := fun _ => rfl
  discLinks := fun _ => rfl
  discStarted := fun _ => rfl
  coldPorts := fun _ => rfl
  chans := fun _ => rfl
  groups := fun _ => rfl
  tree := fun _ => rfl
  attnSent := fun _ => rfl
  stewards := fun _ => rfl
  staging := fun _ => rfl
  recFifo := fun _ => rfl
  recLostMark := fun _ => rfl
  power := fun _ => rfl
  sec := fun _ => rfl
  i3c := fun _ => rfl
  jtag := fun _ => rfl
  pins := fun _ => rfl

theorem upd_cores {m : Nat} {s : State} {x0} (h0 : m.testBit 537 = true) :
    Keeps m s { s with cores := x0 } where
  pending := rfl
  reg := fun _ _ _ => rfl
  canon := id
  free := fun _ => rfl
  readback := fun _ => rfl
  status := fun _ => rfl
  latches := fun _ => rfl
  dram := fun _ => rfl
  tens := fun _ => rfl
  badPhys := fun _ => rfl
  badTens := fun _ => rfl
  pages := fun _ => rfl
  keptDescs := fun _ => rfl
  scrubBlock := fun _ => rfl
  load := fun _ => rfl
  secs := fun _ => rfl
  coreMap := fun _ => rfl
  links := fun _ => rfl
  devQueues := fun _ => rfl
  rules := fun _ => rfl
  rulesOn := fun _ => rfl
  rules0 := fun _ => rfl
  live := fun _ => rfl
  repair := fun _ => rfl
  modrec := fun _ => rfl
  panels := fun _ => rfl
  cores := fun h => by rw [h] at h0; exact absurd h0 (by decide)
  flights := fun _ => rfl
  nextFlight := fun _ => rfl
  trackers := fun _ => rfl
  trkSaved := fun _ => rfl
  obs := fun _ => rfl
  windows := fun _ => rfl
  micros := fun _ => rfl
  sliceSums := fun _ => rfl
  slices := fun _ => rfl
  stalledSlices := fun _ => rfl
  sideRecs := fun _ => rfl
  sideSums := fun _ => rfl
  masks := fun _ => rfl
  helds := fun _ => rfl
  sentTiles := fun _ => rfl
  updates := fun _ => rfl
  updDone := fun _ => rfl
  ratios := fun _ => rfl
  ratioSnap := fun _ => rfl
  epochs := fun _ => rfl
  openEpochs := fun _ => rfl
  arrivals := fun _ => rfl
  releases := fun _ => rfl
  votes := fun _ => rfl
  voteOut := fun _ => rfl
  forceArmed := fun _ => rfl
  fenceUsed := fun _ => rfl
  openTags := fun _ => rfl
  heldSets := fun _ => rfl
  queues := fun _ => rfl
  ports := fun _ => rfl
  requests := fun _ => rfl
  reqWait := fun _ => rfl
  routes := fun _ => rfl
  uplink := fun _ => rfl
  routeChange := fun _ => rfl
  routeHold := fun _ => rfl
  discTodo := fun _ => rfl
  discAsked := fun _ => rfl
  discLinks := fun _ => rfl
  discStarted := fun _ => rfl
  coldPorts := fun _ => rfl
  chans := fun _ => rfl
  groups := fun _ => rfl
  tree := fun _ => rfl
  attnSent := fun _ => rfl
  stewards := fun _ => rfl
  staging := fun _ => rfl
  recFifo := fun _ => rfl
  recLostMark := fun _ => rfl
  power := fun _ => rfl
  sec := fun _ => rfl
  i3c := fun _ => rfl
  jtag := fun _ => rfl
  pins := fun _ => rfl

theorem upd_panels {m : Nat} {s : State} {x0} (h0 : m.testBit 536 = true) :
    Keeps m s { s with panels := x0 } where
  pending := rfl
  reg := fun _ _ _ => rfl
  canon := id
  free := fun _ => rfl
  readback := fun _ => rfl
  status := fun _ => rfl
  latches := fun _ => rfl
  dram := fun _ => rfl
  tens := fun _ => rfl
  badPhys := fun _ => rfl
  badTens := fun _ => rfl
  pages := fun _ => rfl
  keptDescs := fun _ => rfl
  scrubBlock := fun _ => rfl
  load := fun _ => rfl
  secs := fun _ => rfl
  coreMap := fun _ => rfl
  links := fun _ => rfl
  devQueues := fun _ => rfl
  rules := fun _ => rfl
  rulesOn := fun _ => rfl
  rules0 := fun _ => rfl
  live := fun _ => rfl
  repair := fun _ => rfl
  modrec := fun _ => rfl
  panels := fun h => by rw [h] at h0; exact absurd h0 (by decide)
  cores := fun _ => rfl
  flights := fun _ => rfl
  nextFlight := fun _ => rfl
  trackers := fun _ => rfl
  trkSaved := fun _ => rfl
  obs := fun _ => rfl
  windows := fun _ => rfl
  micros := fun _ => rfl
  sliceSums := fun _ => rfl
  slices := fun _ => rfl
  stalledSlices := fun _ => rfl
  sideRecs := fun _ => rfl
  sideSums := fun _ => rfl
  masks := fun _ => rfl
  helds := fun _ => rfl
  sentTiles := fun _ => rfl
  updates := fun _ => rfl
  updDone := fun _ => rfl
  ratios := fun _ => rfl
  ratioSnap := fun _ => rfl
  epochs := fun _ => rfl
  openEpochs := fun _ => rfl
  arrivals := fun _ => rfl
  releases := fun _ => rfl
  votes := fun _ => rfl
  voteOut := fun _ => rfl
  forceArmed := fun _ => rfl
  fenceUsed := fun _ => rfl
  openTags := fun _ => rfl
  heldSets := fun _ => rfl
  queues := fun _ => rfl
  ports := fun _ => rfl
  requests := fun _ => rfl
  reqWait := fun _ => rfl
  routes := fun _ => rfl
  uplink := fun _ => rfl
  routeChange := fun _ => rfl
  routeHold := fun _ => rfl
  discTodo := fun _ => rfl
  discAsked := fun _ => rfl
  discLinks := fun _ => rfl
  discStarted := fun _ => rfl
  coldPorts := fun _ => rfl
  chans := fun _ => rfl
  groups := fun _ => rfl
  tree := fun _ => rfl
  attnSent := fun _ => rfl
  stewards := fun _ => rfl
  staging := fun _ => rfl
  recFifo := fun _ => rfl
  recLostMark := fun _ => rfl
  power := fun _ => rfl
  sec := fun _ => rfl
  i3c := fun _ => rfl
  jtag := fun _ => rfl
  pins := fun _ => rfl

theorem upd_ports {m : Nat} {s : State} {x0} (h0 : m.testBit 568 = true) :
    Keeps m s { s with ports := x0 } where
  pending := rfl
  reg := fun _ _ _ => rfl
  canon := id
  free := fun _ => rfl
  readback := fun _ => rfl
  status := fun _ => rfl
  latches := fun _ => rfl
  dram := fun _ => rfl
  tens := fun _ => rfl
  badPhys := fun _ => rfl
  badTens := fun _ => rfl
  pages := fun _ => rfl
  keptDescs := fun _ => rfl
  scrubBlock := fun _ => rfl
  load := fun _ => rfl
  secs := fun _ => rfl
  coreMap := fun _ => rfl
  links := fun _ => rfl
  devQueues := fun _ => rfl
  rules := fun _ => rfl
  rulesOn := fun _ => rfl
  rules0 := fun _ => rfl
  live := fun _ => rfl
  repair := fun _ => rfl
  modrec := fun _ => rfl
  panels := fun _ => rfl
  cores := fun _ => rfl
  flights := fun _ => rfl
  nextFlight := fun _ => rfl
  trackers := fun _ => rfl
  trkSaved := fun _ => rfl
  obs := fun _ => rfl
  windows := fun _ => rfl
  micros := fun _ => rfl
  sliceSums := fun _ => rfl
  slices := fun _ => rfl
  stalledSlices := fun _ => rfl
  sideRecs := fun _ => rfl
  sideSums := fun _ => rfl
  masks := fun _ => rfl
  helds := fun _ => rfl
  sentTiles := fun _ => rfl
  updates := fun _ => rfl
  updDone := fun _ => rfl
  ratios := fun _ => rfl
  ratioSnap := fun _ => rfl
  epochs := fun _ => rfl
  openEpochs := fun _ => rfl
  arrivals := fun _ => rfl
  releases := fun _ => rfl
  votes := fun _ => rfl
  voteOut := fun _ => rfl
  forceArmed := fun _ => rfl
  fenceUsed := fun _ => rfl
  openTags := fun _ => rfl
  heldSets := fun _ => rfl
  queues := fun _ => rfl
  ports := fun h => by rw [h] at h0; exact absurd h0 (by decide)
  requests := fun _ => rfl
  reqWait := fun _ => rfl
  routes := fun _ => rfl
  uplink := fun _ => rfl
  routeChange := fun _ => rfl
  routeHold := fun _ => rfl
  discTodo := fun _ => rfl
  discAsked := fun _ => rfl
  discLinks := fun _ => rfl
  discStarted := fun _ => rfl
  coldPorts := fun _ => rfl
  chans := fun _ => rfl
  groups := fun _ => rfl
  tree := fun _ => rfl
  attnSent := fun _ => rfl
  stewards := fun _ => rfl
  staging := fun _ => rfl
  recFifo := fun _ => rfl
  recLostMark := fun _ => rfl
  power := fun _ => rfl
  sec := fun _ => rfl
  i3c := fun _ => rfl
  jtag := fun _ => rfl
  pins := fun _ => rfl

theorem upd_queues {m : Nat} {s : State} {x0} (h0 : m.testBit 567 = true) :
    Keeps m s { s with queues := x0 } where
  pending := rfl
  reg := fun _ _ _ => rfl
  canon := id
  free := fun _ => rfl
  readback := fun _ => rfl
  status := fun _ => rfl
  latches := fun _ => rfl
  dram := fun _ => rfl
  tens := fun _ => rfl
  badPhys := fun _ => rfl
  badTens := fun _ => rfl
  pages := fun _ => rfl
  keptDescs := fun _ => rfl
  scrubBlock := fun _ => rfl
  load := fun _ => rfl
  secs := fun _ => rfl
  coreMap := fun _ => rfl
  links := fun _ => rfl
  devQueues := fun _ => rfl
  rules := fun _ => rfl
  rulesOn := fun _ => rfl
  rules0 := fun _ => rfl
  live := fun _ => rfl
  repair := fun _ => rfl
  modrec := fun _ => rfl
  panels := fun _ => rfl
  cores := fun _ => rfl
  flights := fun _ => rfl
  nextFlight := fun _ => rfl
  trackers := fun _ => rfl
  trkSaved := fun _ => rfl
  obs := fun _ => rfl
  windows := fun _ => rfl
  micros := fun _ => rfl
  sliceSums := fun _ => rfl
  slices := fun _ => rfl
  stalledSlices := fun _ => rfl
  sideRecs := fun _ => rfl
  sideSums := fun _ => rfl
  masks := fun _ => rfl
  helds := fun _ => rfl
  sentTiles := fun _ => rfl
  updates := fun _ => rfl
  updDone := fun _ => rfl
  ratios := fun _ => rfl
  ratioSnap := fun _ => rfl
  epochs := fun _ => rfl
  openEpochs := fun _ => rfl
  arrivals := fun _ => rfl
  releases := fun _ => rfl
  votes := fun _ => rfl
  voteOut := fun _ => rfl
  forceArmed := fun _ => rfl
  fenceUsed := fun _ => rfl
  openTags := fun _ => rfl
  heldSets := fun _ => rfl
  queues := fun h => by rw [h] at h0; exact absurd h0 (by decide)
  ports := fun _ => rfl
  requests := fun _ => rfl
  reqWait := fun _ => rfl
  routes := fun _ => rfl
  uplink := fun _ => rfl
  routeChange := fun _ => rfl
  routeHold := fun _ => rfl
  discTodo := fun _ => rfl
  discAsked := fun _ => rfl
  discLinks := fun _ => rfl
  discStarted := fun _ => rfl
  coldPorts := fun _ => rfl
  chans := fun _ => rfl
  groups := fun _ => rfl
  tree := fun _ => rfl
  attnSent := fun _ => rfl
  stewards := fun _ => rfl
  staging := fun _ => rfl
  recFifo := fun _ => rfl
  recLostMark := fun _ => rfl
  power := fun _ => rfl
  sec := fun _ => rfl
  i3c := fun _ => rfl
  jtag := fun _ => rfl
  pins := fun _ => rfl

theorem upd_stewards {m : Nat} {s : State} {x0} (h0 : m.testBit 584 = true) :
    Keeps m s { s with stewards := x0 } where
  pending := rfl
  reg := fun _ _ _ => rfl
  canon := id
  free := fun _ => rfl
  readback := fun _ => rfl
  status := fun _ => rfl
  latches := fun _ => rfl
  dram := fun _ => rfl
  tens := fun _ => rfl
  badPhys := fun _ => rfl
  badTens := fun _ => rfl
  pages := fun _ => rfl
  keptDescs := fun _ => rfl
  scrubBlock := fun _ => rfl
  load := fun _ => rfl
  secs := fun _ => rfl
  coreMap := fun _ => rfl
  links := fun _ => rfl
  devQueues := fun _ => rfl
  rules := fun _ => rfl
  rulesOn := fun _ => rfl
  rules0 := fun _ => rfl
  live := fun _ => rfl
  repair := fun _ => rfl
  modrec := fun _ => rfl
  panels := fun _ => rfl
  cores := fun _ => rfl
  flights := fun _ => rfl
  nextFlight := fun _ => rfl
  trackers := fun _ => rfl
  trkSaved := fun _ => rfl
  obs := fun _ => rfl
  windows := fun _ => rfl
  micros := fun _ => rfl
  sliceSums := fun _ => rfl
  slices := fun _ => rfl
  stalledSlices := fun _ => rfl
  sideRecs := fun _ => rfl
  sideSums := fun _ => rfl
  masks := fun _ => rfl
  helds := fun _ => rfl
  sentTiles := fun _ => rfl
  updates := fun _ => rfl
  updDone := fun _ => rfl
  ratios := fun _ => rfl
  ratioSnap := fun _ => rfl
  epochs := fun _ => rfl
  openEpochs := fun _ => rfl
  arrivals := fun _ => rfl
  releases := fun _ => rfl
  votes := fun _ => rfl
  voteOut := fun _ => rfl
  forceArmed := fun _ => rfl
  fenceUsed := fun _ => rfl
  openTags := fun _ => rfl
  heldSets := fun _ => rfl
  queues := fun _ => rfl
  ports := fun _ => rfl
  requests := fun _ => rfl
  reqWait := fun _ => rfl
  routes := fun _ => rfl
  uplink := fun _ => rfl
  routeChange := fun _ => rfl
  routeHold := fun _ => rfl
  discTodo := fun _ => rfl
  discAsked := fun _ => rfl
  discLinks := fun _ => rfl
  discStarted := fun _ => rfl
  coldPorts := fun _ => rfl
  chans := fun _ => rfl
  groups := fun _ => rfl
  tree := fun _ => rfl
  attnSent := fun _ => rfl
  stewards := fun h => by rw [h] at h0; exact absurd h0 (by decide)
  staging := fun _ => rfl
  recFifo := fun _ => rfl
  recLostMark := fun _ => rfl
  power := fun _ => rfl
  sec := fun _ => rfl
  i3c := fun _ => rfl
  jtag := fun _ => rfl
  pins := fun _ => rfl

theorem upd_flights {m : Nat} {s : State} {x0} (h0 : m.testBit 538 = true) :
    Keeps m s { s with flights := x0 } where
  pending := rfl
  reg := fun _ _ _ => rfl
  canon := id
  free := fun _ => rfl
  readback := fun _ => rfl
  status := fun _ => rfl
  latches := fun _ => rfl
  dram := fun _ => rfl
  tens := fun _ => rfl
  badPhys := fun _ => rfl
  badTens := fun _ => rfl
  pages := fun _ => rfl
  keptDescs := fun _ => rfl
  scrubBlock := fun _ => rfl
  load := fun _ => rfl
  secs := fun _ => rfl
  coreMap := fun _ => rfl
  links := fun _ => rfl
  devQueues := fun _ => rfl
  rules := fun _ => rfl
  rulesOn := fun _ => rfl
  rules0 := fun _ => rfl
  live := fun _ => rfl
  repair := fun _ => rfl
  modrec := fun _ => rfl
  panels := fun _ => rfl
  cores := fun _ => rfl
  flights := fun h => by rw [h] at h0; exact absurd h0 (by decide)
  nextFlight := fun _ => rfl
  trackers := fun _ => rfl
  trkSaved := fun _ => rfl
  obs := fun _ => rfl
  windows := fun _ => rfl
  micros := fun _ => rfl
  sliceSums := fun _ => rfl
  slices := fun _ => rfl
  stalledSlices := fun _ => rfl
  sideRecs := fun _ => rfl
  sideSums := fun _ => rfl
  masks := fun _ => rfl
  helds := fun _ => rfl
  sentTiles := fun _ => rfl
  updates := fun _ => rfl
  updDone := fun _ => rfl
  ratios := fun _ => rfl
  ratioSnap := fun _ => rfl
  epochs := fun _ => rfl
  openEpochs := fun _ => rfl
  arrivals := fun _ => rfl
  releases := fun _ => rfl
  votes := fun _ => rfl
  voteOut := fun _ => rfl
  forceArmed := fun _ => rfl
  fenceUsed := fun _ => rfl
  openTags := fun _ => rfl
  heldSets := fun _ => rfl
  queues := fun _ => rfl
  ports := fun _ => rfl
  requests := fun _ => rfl
  reqWait := fun _ => rfl
  routes := fun _ => rfl
  uplink := fun _ => rfl
  routeChange := fun _ => rfl
  routeHold := fun _ => rfl
  discTodo := fun _ => rfl
  discAsked := fun _ => rfl
  discLinks := fun _ => rfl
  discStarted := fun _ => rfl
  coldPorts := fun _ => rfl
  chans := fun _ => rfl
  groups := fun _ => rfl
  tree := fun _ => rfl
  attnSent := fun _ => rfl
  stewards := fun _ => rfl
  staging := fun _ => rfl
  recFifo := fun _ => rfl
  recLostMark := fun _ => rfl
  power := fun _ => rfl
  sec := fun _ => rfl
  i3c := fun _ => rfl
  jtag := fun _ => rfl
  pins := fun _ => rfl

theorem upd_free {m : Nat} {s : State} {x0} (h0 : m.testBit 513 = true) :
    Keeps m s { s with free := x0 } where
  pending := rfl
  reg := fun _ _ _ => rfl
  canon := id
  free := fun h => by rw [h] at h0; exact absurd h0 (by decide)
  readback := fun _ => rfl
  status := fun _ => rfl
  latches := fun _ => rfl
  dram := fun _ => rfl
  tens := fun _ => rfl
  badPhys := fun _ => rfl
  badTens := fun _ => rfl
  pages := fun _ => rfl
  keptDescs := fun _ => rfl
  scrubBlock := fun _ => rfl
  load := fun _ => rfl
  secs := fun _ => rfl
  coreMap := fun _ => rfl
  links := fun _ => rfl
  devQueues := fun _ => rfl
  rules := fun _ => rfl
  rulesOn := fun _ => rfl
  rules0 := fun _ => rfl
  live := fun _ => rfl
  repair := fun _ => rfl
  modrec := fun _ => rfl
  panels := fun _ => rfl
  cores := fun _ => rfl
  flights := fun _ => rfl
  nextFlight := fun _ => rfl
  trackers := fun _ => rfl
  trkSaved := fun _ => rfl
  obs := fun _ => rfl
  windows := fun _ => rfl
  micros := fun _ => rfl
  sliceSums := fun _ => rfl
  slices := fun _ => rfl
  stalledSlices := fun _ => rfl
  sideRecs := fun _ => rfl
  sideSums := fun _ => rfl
  masks := fun _ => rfl
  helds := fun _ => rfl
  sentTiles := fun _ => rfl
  updates := fun _ => rfl
  updDone := fun _ => rfl
  ratios := fun _ => rfl
  ratioSnap := fun _ => rfl
  epochs := fun _ => rfl
  openEpochs := fun _ => rfl
  arrivals := fun _ => rfl
  releases := fun _ => rfl
  votes := fun _ => rfl
  voteOut := fun _ => rfl
  forceArmed := fun _ => rfl
  fenceUsed := fun _ => rfl
  openTags := fun _ => rfl
  heldSets := fun _ => rfl
  queues := fun _ => rfl
  ports := fun _ => rfl
  requests := fun _ => rfl
  reqWait := fun _ => rfl
  routes := fun _ => rfl
  uplink := fun _ => rfl
  routeChange := fun _ => rfl
  routeHold := fun _ => rfl
  discTodo := fun _ => rfl
  discAsked := fun _ => rfl
  discLinks := fun _ => rfl
  discStarted := fun _ => rfl
  coldPorts := fun _ => rfl
  chans := fun _ => rfl
  groups := fun _ => rfl
  tree := fun _ => rfl
  attnSent := fun _ => rfl
  stewards := fun _ => rfl
  staging := fun _ => rfl
  recFifo := fun _ => rfl
  recLostMark := fun _ => rfl
  power := fun _ => rfl
  sec := fun _ => rfl
  i3c := fun _ => rfl
  jtag := fun _ => rfl
  pins := fun _ => rfl

theorem upd_groups {m : Nat} {s : State} {x0} (h0 : m.testBit 581 = true) :
    Keeps m s { s with groups := x0 } where
  pending := rfl
  reg := fun _ _ _ => rfl
  canon := id
  free := fun _ => rfl
  readback := fun _ => rfl
  status := fun _ => rfl
  latches := fun _ => rfl
  dram := fun _ => rfl
  tens := fun _ => rfl
  badPhys := fun _ => rfl
  badTens := fun _ => rfl
  pages := fun _ => rfl
  keptDescs := fun _ => rfl
  scrubBlock := fun _ => rfl
  load := fun _ => rfl
  secs := fun _ => rfl
  coreMap := fun _ => rfl
  links := fun _ => rfl
  devQueues := fun _ => rfl
  rules := fun _ => rfl
  rulesOn := fun _ => rfl
  rules0 := fun _ => rfl
  live := fun _ => rfl
  repair := fun _ => rfl
  modrec := fun _ => rfl
  panels := fun _ => rfl
  cores := fun _ => rfl
  flights := fun _ => rfl
  nextFlight := fun _ => rfl
  trackers := fun _ => rfl
  trkSaved := fun _ => rfl
  obs := fun _ => rfl
  windows := fun _ => rfl
  micros := fun _ => rfl
  sliceSums := fun _ => rfl
  slices := fun _ => rfl
  stalledSlices := fun _ => rfl
  sideRecs := fun _ => rfl
  sideSums := fun _ => rfl
  masks := fun _ => rfl
  helds := fun _ => rfl
  sentTiles := fun _ => rfl
  updates := fun _ => rfl
  updDone := fun _ => rfl
  ratios := fun _ => rfl
  ratioSnap := fun _ => rfl
  epochs := fun _ => rfl
  openEpochs := fun _ => rfl
  arrivals := fun _ => rfl
  releases := fun _ => rfl
  votes := fun _ => rfl
  voteOut := fun _ => rfl
  forceArmed := fun _ => rfl
  fenceUsed := fun _ => rfl
  openTags := fun _ => rfl
  heldSets := fun _ => rfl
  queues := fun _ => rfl
  ports := fun _ => rfl
  requests := fun _ => rfl
  reqWait := fun _ => rfl
  routes := fun _ => rfl
  uplink := fun _ => rfl
  routeChange := fun _ => rfl
  routeHold := fun _ => rfl
  discTodo := fun _ => rfl
  discAsked := fun _ => rfl
  discLinks := fun _ => rfl
  discStarted := fun _ => rfl
  coldPorts := fun _ => rfl
  chans := fun _ => rfl
  groups := fun h => by rw [h] at h0; exact absurd h0 (by decide)
  tree := fun _ => rfl
  attnSent := fun _ => rfl
  stewards := fun _ => rfl
  staging := fun _ => rfl
  recFifo := fun _ => rfl
  recLostMark := fun _ => rfl
  power := fun _ => rfl
  sec := fun _ => rfl
  i3c := fun _ => rfl
  jtag := fun _ => rfl
  pins := fun _ => rfl

theorem upd_badPhys_badTens {m : Nat} {s : State} {x0 x1} (h0 : m.testBit 520 = true) (h1 : m.testBit 521 = true) :
    Keeps m s { s with badPhys := x0, badTens := x1 } where
  pending := rfl
  reg := fun _ _ _ => rfl
  canon := id
  free := fun _ => rfl
  readback := fun _ => rfl
  status := fun _ => rfl
  latches := fun _ => rfl
  dram := fun _ => rfl
  tens := fun _ => rfl
  badPhys := fun h => by rw [h] at h0; exact absurd h0 (by decide)
  badTens := fun h => by rw [h] at h1; exact absurd h1 (by decide)
  pages := fun _ => rfl
  keptDescs := fun _ => rfl
  scrubBlock := fun _ => rfl
  load := fun _ => rfl
  secs := fun _ => rfl
  coreMap := fun _ => rfl
  links := fun _ => rfl
  devQueues := fun _ => rfl
  rules := fun _ => rfl
  rulesOn := fun _ => rfl
  rules0 := fun _ => rfl
  live := fun _ => rfl
  repair := fun _ => rfl
  modrec := fun _ => rfl
  panels := fun _ => rfl
  cores := fun _ => rfl
  flights := fun _ => rfl
  nextFlight := fun _ => rfl
  trackers := fun _ => rfl
  trkSaved := fun _ => rfl
  obs := fun _ => rfl
  windows := fun _ => rfl
  micros := fun _ => rfl
  sliceSums := fun _ => rfl
  slices := fun _ => rfl
  stalledSlices := fun _ => rfl
  sideRecs := fun _ => rfl
  sideSums := fun _ => rfl
  masks := fun _ => rfl
  helds := fun _ => rfl
  sentTiles := fun _ => rfl
  updates := fun _ => rfl
  updDone := fun _ => rfl
  ratios := fun _ => rfl
  ratioSnap := fun _ => rfl
  epochs := fun _ => rfl
  openEpochs := fun _ => rfl
  arrivals := fun _ => rfl
  releases := fun _ => rfl
  votes := fun _ => rfl
  voteOut := fun _ => rfl
  forceArmed := fun _ => rfl
  fenceUsed := fun _ => rfl
  openTags := fun _ => rfl
  heldSets := fun _ => rfl
  queues := fun _ => rfl
  ports := fun _ => rfl
  requests := fun _ => rfl
  reqWait := fun _ => rfl
  routes := fun _ => rfl
  uplink := fun _ => rfl
  routeChange := fun _ => rfl
  routeHold := fun _ => rfl
  discTodo := fun _ => rfl
  discAsked := fun _ => rfl
  discLinks := fun _ => rfl
  discStarted := fun _ => rfl
  coldPorts := fun _ => rfl
  chans := fun _ => rfl
  groups := fun _ => rfl
  tree := fun _ => rfl
  attnSent := fun _ => rfl
  stewards := fun _ => rfl
  staging := fun _ => rfl
  recFifo := fun _ => rfl
  recLostMark := fun _ => rfl
  power := fun _ => rfl
  sec := fun _ => rfl
  i3c := fun _ => rfl
  jtag := fun _ => rfl
  pins := fun _ => rfl

theorem upd_tree {m : Nat} {s : State} {x0} (h0 : m.testBit 582 = true) :
    Keeps m s { s with tree := x0 } where
  pending := rfl
  reg := fun _ _ _ => rfl
  canon := id
  free := fun _ => rfl
  readback := fun _ => rfl
  status := fun _ => rfl
  latches := fun _ => rfl
  dram := fun _ => rfl
  tens := fun _ => rfl
  badPhys := fun _ => rfl
  badTens := fun _ => rfl
  pages := fun _ => rfl
  keptDescs := fun _ => rfl
  scrubBlock := fun _ => rfl
  load := fun _ => rfl
  secs := fun _ => rfl
  coreMap := fun _ => rfl
  links := fun _ => rfl
  devQueues := fun _ => rfl
  rules := fun _ => rfl
  rulesOn := fun _ => rfl
  rules0 := fun _ => rfl
  live := fun _ => rfl
  repair := fun _ => rfl
  modrec := fun _ => rfl
  panels := fun _ => rfl
  cores := fun _ => rfl
  flights := fun _ => rfl
  nextFlight := fun _ => rfl
  trackers := fun _ => rfl
  trkSaved := fun _ => rfl
  obs := fun _ => rfl
  windows := fun _ => rfl
  micros := fun _ => rfl
  sliceSums := fun _ => rfl
  slices := fun _ => rfl
  stalledSlices := fun _ => rfl
  sideRecs := fun _ => rfl
  sideSums := fun _ => rfl
  masks := fun _ => rfl
  helds := fun _ => rfl
  sentTiles := fun _ => rfl
  updates := fun _ => rfl
  updDone := fun _ => rfl
  ratios := fun _ => rfl
  ratioSnap := fun _ => rfl
  epochs := fun _ => rfl
  openEpochs := fun _ => rfl
  arrivals := fun _ => rfl
  releases := fun _ => rfl
  votes := fun _ => rfl
  voteOut := fun _ => rfl
  forceArmed := fun _ => rfl
  fenceUsed := fun _ => rfl
  openTags := fun _ => rfl
  heldSets := fun _ => rfl
  queues := fun _ => rfl
  ports := fun _ => rfl
  requests := fun _ => rfl
  reqWait := fun _ => rfl
  routes := fun _ => rfl
  uplink := fun _ => rfl
  routeChange := fun _ => rfl
  routeHold := fun _ => rfl
  discTodo := fun _ => rfl
  discAsked := fun _ => rfl
  discLinks := fun _ => rfl
  discStarted := fun _ => rfl
  coldPorts := fun _ => rfl
  chans := fun _ => rfl
  groups := fun _ => rfl
  tree := fun h => by rw [h] at h0; exact absurd h0 (by decide)
  attnSent := fun _ => rfl
  stewards := fun _ => rfl
  staging := fun _ => rfl
  recFifo := fun _ => rfl
  recLostMark := fun _ => rfl
  power := fun _ => rfl
  sec := fun _ => rfl
  i3c := fun _ => rfl
  jtag := fun _ => rfl
  pins := fun _ => rfl

theorem upd_sec {m : Nat} {s : State} {x0} (h0 : m.testBit 589 = true) :
    Keeps m s { s with sec := x0 } where
  pending := rfl
  reg := fun _ _ _ => rfl
  canon := id
  free := fun _ => rfl
  readback := fun _ => rfl
  status := fun _ => rfl
  latches := fun _ => rfl
  dram := fun _ => rfl
  tens := fun _ => rfl
  badPhys := fun _ => rfl
  badTens := fun _ => rfl
  pages := fun _ => rfl
  keptDescs := fun _ => rfl
  scrubBlock := fun _ => rfl
  load := fun _ => rfl
  secs := fun _ => rfl
  coreMap := fun _ => rfl
  links := fun _ => rfl
  devQueues := fun _ => rfl
  rules := fun _ => rfl
  rulesOn := fun _ => rfl
  rules0 := fun _ => rfl
  live := fun _ => rfl
  repair := fun _ => rfl
  modrec := fun _ => rfl
  panels := fun _ => rfl
  cores := fun _ => rfl
  flights := fun _ => rfl
  nextFlight := fun _ => rfl
  trackers := fun _ => rfl
  trkSaved := fun _ => rfl
  obs := fun _ => rfl
  windows := fun _ => rfl
  micros := fun _ => rfl
  sliceSums := fun _ => rfl
  slices := fun _ => rfl
  stalledSlices := fun _ => rfl
  sideRecs := fun _ => rfl
  sideSums := fun _ => rfl
  masks := fun _ => rfl
  helds := fun _ => rfl
  sentTiles := fun _ => rfl
  updates := fun _ => rfl
  updDone := fun _ => rfl
  ratios := fun _ => rfl
  ratioSnap := fun _ => rfl
  epochs := fun _ => rfl
  openEpochs := fun _ => rfl
  arrivals := fun _ => rfl
  releases := fun _ => rfl
  votes := fun _ => rfl
  voteOut := fun _ => rfl
  forceArmed := fun _ => rfl
  fenceUsed := fun _ => rfl
  openTags := fun _ => rfl
  heldSets := fun _ => rfl
  queues := fun _ => rfl
  ports := fun _ => rfl
  requests := fun _ => rfl
  reqWait := fun _ => rfl
  routes := fun _ => rfl
  uplink := fun _ => rfl
  routeChange := fun _ => rfl
  routeHold := fun _ => rfl
  discTodo := fun _ => rfl
  discAsked := fun _ => rfl
  discLinks := fun _ => rfl
  discStarted := fun _ => rfl
  coldPorts := fun _ => rfl
  chans := fun _ => rfl
  groups := fun _ => rfl
  tree := fun _ => rfl
  attnSent := fun _ => rfl
  stewards := fun _ => rfl
  staging := fun _ => rfl
  recFifo := fun _ => rfl
  recLostMark := fun _ => rfl
  power := fun _ => rfl
  sec := fun h => by rw [h] at h0; exact absurd h0 (by decide)
  i3c := fun _ => rfl
  jtag := fun _ => rfl
  pins := fun _ => rfl

theorem upd_forceArmed {m : Nat} {s : State} {x0} (h0 : m.testBit 563 = true) :
    Keeps m s { s with forceArmed := x0 } where
  pending := rfl
  reg := fun _ _ _ => rfl
  canon := id
  free := fun _ => rfl
  readback := fun _ => rfl
  status := fun _ => rfl
  latches := fun _ => rfl
  dram := fun _ => rfl
  tens := fun _ => rfl
  badPhys := fun _ => rfl
  badTens := fun _ => rfl
  pages := fun _ => rfl
  keptDescs := fun _ => rfl
  scrubBlock := fun _ => rfl
  load := fun _ => rfl
  secs := fun _ => rfl
  coreMap := fun _ => rfl
  links := fun _ => rfl
  devQueues := fun _ => rfl
  rules := fun _ => rfl
  rulesOn := fun _ => rfl
  rules0 := fun _ => rfl
  live := fun _ => rfl
  repair := fun _ => rfl
  modrec := fun _ => rfl
  panels := fun _ => rfl
  cores := fun _ => rfl
  flights := fun _ => rfl
  nextFlight := fun _ => rfl
  trackers := fun _ => rfl
  trkSaved := fun _ => rfl
  obs := fun _ => rfl
  windows := fun _ => rfl
  micros := fun _ => rfl
  sliceSums := fun _ => rfl
  slices := fun _ => rfl
  stalledSlices := fun _ => rfl
  sideRecs := fun _ => rfl
  sideSums := fun _ => rfl
  masks := fun _ => rfl
  helds := fun _ => rfl
  sentTiles := fun _ => rfl
  updates := fun _ => rfl
  updDone := fun _ => rfl
  ratios := fun _ => rfl
  ratioSnap := fun _ => rfl
  epochs := fun _ => rfl
  openEpochs := fun _ => rfl
  arrivals := fun _ => rfl
  releases := fun _ => rfl
  votes := fun _ => rfl
  voteOut := fun _ => rfl
  forceArmed := fun h => by rw [h] at h0; exact absurd h0 (by decide)
  fenceUsed := fun _ => rfl
  openTags := fun _ => rfl
  heldSets := fun _ => rfl
  queues := fun _ => rfl
  ports := fun _ => rfl
  requests := fun _ => rfl
  reqWait := fun _ => rfl
  routes := fun _ => rfl
  uplink := fun _ => rfl
  routeChange := fun _ => rfl
  routeHold := fun _ => rfl
  discTodo := fun _ => rfl
  discAsked := fun _ => rfl
  discLinks := fun _ => rfl
  discStarted := fun _ => rfl
  coldPorts := fun _ => rfl
  chans := fun _ => rfl
  groups := fun _ => rfl
  tree := fun _ => rfl
  attnSent := fun _ => rfl
  stewards := fun _ => rfl
  staging := fun _ => rfl
  recFifo := fun _ => rfl
  recLostMark := fun _ => rfl
  power := fun _ => rfl
  sec := fun _ => rfl
  i3c := fun _ => rfl
  jtag := fun _ => rfl
  pins := fun _ => rfl

theorem upd_openEpochs_arrivals {m : Nat} {s : State} {x0 x1} (h0 : m.testBit 558 = true) (h1 : m.testBit 559 = true) :
    Keeps m s { s with openEpochs := x0, arrivals := x1 } where
  pending := rfl
  reg := fun _ _ _ => rfl
  canon := id
  free := fun _ => rfl
  readback := fun _ => rfl
  status := fun _ => rfl
  latches := fun _ => rfl
  dram := fun _ => rfl
  tens := fun _ => rfl
  badPhys := fun _ => rfl
  badTens := fun _ => rfl
  pages := fun _ => rfl
  keptDescs := fun _ => rfl
  scrubBlock := fun _ => rfl
  load := fun _ => rfl
  secs := fun _ => rfl
  coreMap := fun _ => rfl
  links := fun _ => rfl
  devQueues := fun _ => rfl
  rules := fun _ => rfl
  rulesOn := fun _ => rfl
  rules0 := fun _ => rfl
  live := fun _ => rfl
  repair := fun _ => rfl
  modrec := fun _ => rfl
  panels := fun _ => rfl
  cores := fun _ => rfl
  flights := fun _ => rfl
  nextFlight := fun _ => rfl
  trackers := fun _ => rfl
  trkSaved := fun _ => rfl
  obs := fun _ => rfl
  windows := fun _ => rfl
  micros := fun _ => rfl
  sliceSums := fun _ => rfl
  slices := fun _ => rfl
  stalledSlices := fun _ => rfl
  sideRecs := fun _ => rfl
  sideSums := fun _ => rfl
  masks := fun _ => rfl
  helds := fun _ => rfl
  sentTiles := fun _ => rfl
  updates := fun _ => rfl
  updDone := fun _ => rfl
  ratios := fun _ => rfl
  ratioSnap := fun _ => rfl
  epochs := fun _ => rfl
  openEpochs := fun h => by rw [h] at h0; exact absurd h0 (by decide)
  arrivals := fun h => by rw [h] at h1; exact absurd h1 (by decide)
  releases := fun _ => rfl
  votes := fun _ => rfl
  voteOut := fun _ => rfl
  forceArmed := fun _ => rfl
  fenceUsed := fun _ => rfl
  openTags := fun _ => rfl
  heldSets := fun _ => rfl
  queues := fun _ => rfl
  ports := fun _ => rfl
  requests := fun _ => rfl
  reqWait := fun _ => rfl
  routes := fun _ => rfl
  uplink := fun _ => rfl
  routeChange := fun _ => rfl
  routeHold := fun _ => rfl
  discTodo := fun _ => rfl
  discAsked := fun _ => rfl
  discLinks := fun _ => rfl
  discStarted := fun _ => rfl
  coldPorts := fun _ => rfl
  chans := fun _ => rfl
  groups := fun _ => rfl
  tree := fun _ => rfl
  attnSent := fun _ => rfl
  stewards := fun _ => rfl
  staging := fun _ => rfl
  recFifo := fun _ => rfl
  recLostMark := fun _ => rfl
  power := fun _ => rfl
  sec := fun _ => rfl
  i3c := fun _ => rfl
  jtag := fun _ => rfl
  pins := fun _ => rfl

theorem upd_requests {m : Nat} {s : State} {x0} (h0 : m.testBit 569 = true) :
    Keeps m s { s with requests := x0 } where
  pending := rfl
  reg := fun _ _ _ => rfl
  canon := id
  free := fun _ => rfl
  readback := fun _ => rfl
  status := fun _ => rfl
  latches := fun _ => rfl
  dram := fun _ => rfl
  tens := fun _ => rfl
  badPhys := fun _ => rfl
  badTens := fun _ => rfl
  pages := fun _ => rfl
  keptDescs := fun _ => rfl
  scrubBlock := fun _ => rfl
  load := fun _ => rfl
  secs := fun _ => rfl
  coreMap := fun _ => rfl
  links := fun _ => rfl
  devQueues := fun _ => rfl
  rules := fun _ => rfl
  rulesOn := fun _ => rfl
  rules0 := fun _ => rfl
  live := fun _ => rfl
  repair := fun _ => rfl
  modrec := fun _ => rfl
  panels := fun _ => rfl
  cores := fun _ => rfl
  flights := fun _ => rfl
  nextFlight := fun _ => rfl
  trackers := fun _ => rfl
  trkSaved := fun _ => rfl
  obs := fun _ => rfl
  windows := fun _ => rfl
  micros := fun _ => rfl
  sliceSums := fun _ => rfl
  slices := fun _ => rfl
  stalledSlices := fun _ => rfl
  sideRecs := fun _ => rfl
  sideSums := fun _ => rfl
  masks := fun _ => rfl
  helds := fun _ => rfl
  sentTiles := fun _ => rfl
  updates := fun _ => rfl
  updDone := fun _ => rfl
  ratios := fun _ => rfl
  ratioSnap := fun _ => rfl
  epochs := fun _ => rfl
  openEpochs := fun _ => rfl
  arrivals := fun _ => rfl
  releases := fun _ => rfl
  votes := fun _ => rfl
  voteOut := fun _ => rfl
  forceArmed := fun _ => rfl
  fenceUsed := fun _ => rfl
  openTags := fun _ => rfl
  heldSets := fun _ => rfl
  queues := fun _ => rfl
  ports := fun _ => rfl
  requests := fun h => by rw [h] at h0; exact absurd h0 (by decide)
  reqWait := fun _ => rfl
  routes := fun _ => rfl
  uplink := fun _ => rfl
  routeChange := fun _ => rfl
  routeHold := fun _ => rfl
  discTodo := fun _ => rfl
  discAsked := fun _ => rfl
  discLinks := fun _ => rfl
  discStarted := fun _ => rfl
  coldPorts := fun _ => rfl
  chans := fun _ => rfl
  groups := fun _ => rfl
  tree := fun _ => rfl
  attnSent := fun _ => rfl
  stewards := fun _ => rfl
  staging := fun _ => rfl
  recFifo := fun _ => rfl
  recLostMark := fun _ => rfl
  power := fun _ => rfl
  sec := fun _ => rfl
  i3c := fun _ => rfl
  jtag := fun _ => rfl
  pins := fun _ => rfl

theorem upd_masks_arrivals_votes_voteOut {m : Nat} {s : State} {x0 x1 x2 x3} (h0 : m.testBit 550 = true) (h1 : m.testBit 559 = true) (h2 : m.testBit 561 = true) (h3 : m.testBit 562 = true) :
    Keeps m s { s with masks := x0, arrivals := x1, votes := x2, voteOut := x3 } where
  pending := rfl
  reg := fun _ _ _ => rfl
  canon := id
  free := fun _ => rfl
  readback := fun _ => rfl
  status := fun _ => rfl
  latches := fun _ => rfl
  dram := fun _ => rfl
  tens := fun _ => rfl
  badPhys := fun _ => rfl
  badTens := fun _ => rfl
  pages := fun _ => rfl
  keptDescs := fun _ => rfl
  scrubBlock := fun _ => rfl
  load := fun _ => rfl
  secs := fun _ => rfl
  coreMap := fun _ => rfl
  links := fun _ => rfl
  devQueues := fun _ => rfl
  rules := fun _ => rfl
  rulesOn := fun _ => rfl
  rules0 := fun _ => rfl
  live := fun _ => rfl
  repair := fun _ => rfl
  modrec := fun _ => rfl
  panels := fun _ => rfl
  cores := fun _ => rfl
  flights := fun _ => rfl
  nextFlight := fun _ => rfl
  trackers := fun _ => rfl
  trkSaved := fun _ => rfl
  obs := fun _ => rfl
  windows := fun _ => rfl
  micros := fun _ => rfl
  sliceSums := fun _ => rfl
  slices := fun _ => rfl
  stalledSlices := fun _ => rfl
  sideRecs := fun _ => rfl
  sideSums := fun _ => rfl
  masks := fun h => by rw [h] at h0; exact absurd h0 (by decide)
  helds := fun _ => rfl
  sentTiles := fun _ => rfl
  updates := fun _ => rfl
  updDone := fun _ => rfl
  ratios := fun _ => rfl
  ratioSnap := fun _ => rfl
  epochs := fun _ => rfl
  openEpochs := fun _ => rfl
  arrivals := fun h => by rw [h] at h1; exact absurd h1 (by decide)
  releases := fun _ => rfl
  votes := fun h => by rw [h] at h2; exact absurd h2 (by decide)
  voteOut := fun h => by rw [h] at h3; exact absurd h3 (by decide)
  forceArmed := fun _ => rfl
  fenceUsed := fun _ => rfl
  openTags := fun _ => rfl
  heldSets := fun _ => rfl
  queues := fun _ => rfl
  ports := fun _ => rfl
  requests := fun _ => rfl
  reqWait := fun _ => rfl
  routes := fun _ => rfl
  uplink := fun _ => rfl
  routeChange := fun _ => rfl
  routeHold := fun _ => rfl
  discTodo := fun _ => rfl
  discAsked := fun _ => rfl
  discLinks := fun _ => rfl
  discStarted := fun _ => rfl
  coldPorts := fun _ => rfl
  chans := fun _ => rfl
  groups := fun _ => rfl
  tree := fun _ => rfl
  attnSent := fun _ => rfl
  stewards := fun _ => rfl
  staging := fun _ => rfl
  recFifo := fun _ => rfl
  recLostMark := fun _ => rfl
  power := fun _ => rfl
  sec := fun _ => rfl
  i3c := fun _ => rfl
  jtag := fun _ => rfl
  pins := fun _ => rfl

theorem upd_flights_nextFlight_fenceUsed {m : Nat} {s : State} {x0 x1 x2} (h0 : m.testBit 538 = true) (h1 : m.testBit 539 = true) (h2 : m.testBit 564 = true) :
    Keeps m s { s with flights := x0, nextFlight := x1, fenceUsed := x2 } where
  pending := rfl
  reg := fun _ _ _ => rfl
  canon := id
  free := fun _ => rfl
  readback := fun _ => rfl
  status := fun _ => rfl
  latches := fun _ => rfl
  dram := fun _ => rfl
  tens := fun _ => rfl
  badPhys := fun _ => rfl
  badTens := fun _ => rfl
  pages := fun _ => rfl
  keptDescs := fun _ => rfl
  scrubBlock := fun _ => rfl
  load := fun _ => rfl
  secs := fun _ => rfl
  coreMap := fun _ => rfl
  links := fun _ => rfl
  devQueues := fun _ => rfl
  rules := fun _ => rfl
  rulesOn := fun _ => rfl
  rules0 := fun _ => rfl
  live := fun _ => rfl
  repair := fun _ => rfl
  modrec := fun _ => rfl
  panels := fun _ => rfl
  cores := fun _ => rfl
  flights := fun h => by rw [h] at h0; exact absurd h0 (by decide)
  nextFlight := fun h => by rw [h] at h1; exact absurd h1 (by decide)
  trackers := fun _ => rfl
  trkSaved := fun _ => rfl
  obs := fun _ => rfl
  windows := fun _ => rfl
  micros := fun _ => rfl
  sliceSums := fun _ => rfl
  slices := fun _ => rfl
  stalledSlices := fun _ => rfl
  sideRecs := fun _ => rfl
  sideSums := fun _ => rfl
  masks := fun _ => rfl
  helds := fun _ => rfl
  sentTiles := fun _ => rfl
  updates := fun _ => rfl
  updDone := fun _ => rfl
  ratios := fun _ => rfl
  ratioSnap := fun _ => rfl
  epochs := fun _ => rfl
  openEpochs := fun _ => rfl
  arrivals := fun _ => rfl
  releases := fun _ => rfl
  votes := fun _ => rfl
  voteOut := fun _ => rfl
  forceArmed := fun _ => rfl
  fenceUsed := fun h => by rw [h] at h2; exact absurd h2 (by decide)
  openTags := fun _ => rfl
  heldSets := fun _ => rfl
  queues := fun _ => rfl
  ports := fun _ => rfl
  requests := fun _ => rfl
  reqWait := fun _ => rfl
  routes := fun _ => rfl
  uplink := fun _ => rfl
  routeChange := fun _ => rfl
  routeHold := fun _ => rfl
  discTodo := fun _ => rfl
  discAsked := fun _ => rfl
  discLinks := fun _ => rfl
  discStarted := fun _ => rfl
  coldPorts := fun _ => rfl
  chans := fun _ => rfl
  groups := fun _ => rfl
  tree := fun _ => rfl
  attnSent := fun _ => rfl
  stewards := fun _ => rfl
  staging := fun _ => rfl
  recFifo := fun _ => rfl
  recLostMark := fun _ => rfl
  power := fun _ => rfl
  sec := fun _ => rfl
  i3c := fun _ => rfl
  jtag := fun _ => rfl
  pins := fun _ => rfl

theorem upd_pins {m : Nat} {s : State} {x0} (h0 : m.testBit 592 = true) :
    Keeps m s { s with pins := x0 } where
  pending := rfl
  reg := fun _ _ _ => rfl
  canon := id
  free := fun _ => rfl
  readback := fun _ => rfl
  status := fun _ => rfl
  latches := fun _ => rfl
  dram := fun _ => rfl
  tens := fun _ => rfl
  badPhys := fun _ => rfl
  badTens := fun _ => rfl
  pages := fun _ => rfl
  keptDescs := fun _ => rfl
  scrubBlock := fun _ => rfl
  load := fun _ => rfl
  secs := fun _ => rfl
  coreMap := fun _ => rfl
  links := fun _ => rfl
  devQueues := fun _ => rfl
  rules := fun _ => rfl
  rulesOn := fun _ => rfl
  rules0 := fun _ => rfl
  live := fun _ => rfl
  repair := fun _ => rfl
  modrec := fun _ => rfl
  panels := fun _ => rfl
  cores := fun _ => rfl
  flights := fun _ => rfl
  nextFlight := fun _ => rfl
  trackers := fun _ => rfl
  trkSaved := fun _ => rfl
  obs := fun _ => rfl
  windows := fun _ => rfl
  micros := fun _ => rfl
  sliceSums := fun _ => rfl
  slices := fun _ => rfl
  stalledSlices := fun _ => rfl
  sideRecs := fun _ => rfl
  sideSums := fun _ => rfl
  masks := fun _ => rfl
  helds := fun _ => rfl
  sentTiles := fun _ => rfl
  updates := fun _ => rfl
  updDone := fun _ => rfl
  ratios := fun _ => rfl
  ratioSnap := fun _ => rfl
  epochs := fun _ => rfl
  openEpochs := fun _ => rfl
  arrivals := fun _ => rfl
  releases := fun _ => rfl
  votes := fun _ => rfl
  voteOut := fun _ => rfl
  forceArmed := fun _ => rfl
  fenceUsed := fun _ => rfl
  openTags := fun _ => rfl
  heldSets := fun _ => rfl
  queues := fun _ => rfl
  ports := fun _ => rfl
  requests := fun _ => rfl
  reqWait := fun _ => rfl
  routes := fun _ => rfl
  uplink := fun _ => rfl
  routeChange := fun _ => rfl
  routeHold := fun _ => rfl
  discTodo := fun _ => rfl
  discAsked := fun _ => rfl
  discLinks := fun _ => rfl
  discStarted := fun _ => rfl
  coldPorts := fun _ => rfl
  chans := fun _ => rfl
  groups := fun _ => rfl
  tree := fun _ => rfl
  attnSent := fun _ => rfl
  stewards := fun _ => rfl
  staging := fun _ => rfl
  recFifo := fun _ => rfl
  recLostMark := fun _ => rfl
  power := fun _ => rfl
  sec := fun _ => rfl
  i3c := fun _ => rfl
  jtag := fun _ => rfl
  pins := fun h => by rw [h] at h0; exact absurd h0 (by decide)

theorem upd_i3c {m : Nat} {s : State} {x0} (h0 : m.testBit 590 = true) :
    Keeps m s { s with i3c := x0 } where
  pending := rfl
  reg := fun _ _ _ => rfl
  canon := id
  free := fun _ => rfl
  readback := fun _ => rfl
  status := fun _ => rfl
  latches := fun _ => rfl
  dram := fun _ => rfl
  tens := fun _ => rfl
  badPhys := fun _ => rfl
  badTens := fun _ => rfl
  pages := fun _ => rfl
  keptDescs := fun _ => rfl
  scrubBlock := fun _ => rfl
  load := fun _ => rfl
  secs := fun _ => rfl
  coreMap := fun _ => rfl
  links := fun _ => rfl
  devQueues := fun _ => rfl
  rules := fun _ => rfl
  rulesOn := fun _ => rfl
  rules0 := fun _ => rfl
  live := fun _ => rfl
  repair := fun _ => rfl
  modrec := fun _ => rfl
  panels := fun _ => rfl
  cores := fun _ => rfl
  flights := fun _ => rfl
  nextFlight := fun _ => rfl
  trackers := fun _ => rfl
  trkSaved := fun _ => rfl
  obs := fun _ => rfl
  windows := fun _ => rfl
  micros := fun _ => rfl
  sliceSums := fun _ => rfl
  slices := fun _ => rfl
  stalledSlices := fun _ => rfl
  sideRecs := fun _ => rfl
  sideSums := fun _ => rfl
  masks := fun _ => rfl
  helds := fun _ => rfl
  sentTiles := fun _ => rfl
  updates := fun _ => rfl
  updDone := fun _ => rfl
  ratios := fun _ => rfl
  ratioSnap := fun _ => rfl
  epochs := fun _ => rfl
  openEpochs := fun _ => rfl
  arrivals := fun _ => rfl
  releases := fun _ => rfl
  votes := fun _ => rfl
  voteOut := fun _ => rfl
  forceArmed := fun _ => rfl
  fenceUsed := fun _ => rfl
  openTags := fun _ => rfl
  heldSets := fun _ => rfl
  queues := fun _ => rfl
  ports := fun _ => rfl
  requests := fun _ => rfl
  reqWait := fun _ => rfl
  routes := fun _ => rfl
  uplink := fun _ => rfl
  routeChange := fun _ => rfl
  routeHold := fun _ => rfl
  discTodo := fun _ => rfl
  discAsked := fun _ => rfl
  discLinks := fun _ => rfl
  discStarted := fun _ => rfl
  coldPorts := fun _ => rfl
  chans := fun _ => rfl
  groups := fun _ => rfl
  tree := fun _ => rfl
  attnSent := fun _ => rfl
  stewards := fun _ => rfl
  staging := fun _ => rfl
  recFifo := fun _ => rfl
  recLostMark := fun _ => rfl
  power := fun _ => rfl
  sec := fun _ => rfl
  i3c := fun h => by rw [h] at h0; exact absurd h0 (by decide)
  jtag := fun _ => rfl
  pins := fun _ => rfl

theorem upd_power {m : Nat} {s : State} {x0} (h0 : m.testBit 588 = true) :
    Keeps m s { s with power := x0 } where
  pending := rfl
  reg := fun _ _ _ => rfl
  canon := id
  free := fun _ => rfl
  readback := fun _ => rfl
  status := fun _ => rfl
  latches := fun _ => rfl
  dram := fun _ => rfl
  tens := fun _ => rfl
  badPhys := fun _ => rfl
  badTens := fun _ => rfl
  pages := fun _ => rfl
  keptDescs := fun _ => rfl
  scrubBlock := fun _ => rfl
  load := fun _ => rfl
  secs := fun _ => rfl
  coreMap := fun _ => rfl
  links := fun _ => rfl
  devQueues := fun _ => rfl
  rules := fun _ => rfl
  rulesOn := fun _ => rfl
  rules0 := fun _ => rfl
  live := fun _ => rfl
  repair := fun _ => rfl
  modrec := fun _ => rfl
  panels := fun _ => rfl
  cores := fun _ => rfl
  flights := fun _ => rfl
  nextFlight := fun _ => rfl
  trackers := fun _ => rfl
  trkSaved := fun _ => rfl
  obs := fun _ => rfl
  windows := fun _ => rfl
  micros := fun _ => rfl
  sliceSums := fun _ => rfl
  slices := fun _ => rfl
  stalledSlices := fun _ => rfl
  sideRecs := fun _ => rfl
  sideSums := fun _ => rfl
  masks := fun _ => rfl
  helds := fun _ => rfl
  sentTiles := fun _ => rfl
  updates := fun _ => rfl
  updDone := fun _ => rfl
  ratios := fun _ => rfl
  ratioSnap := fun _ => rfl
  epochs := fun _ => rfl
  openEpochs := fun _ => rfl
  arrivals := fun _ => rfl
  releases := fun _ => rfl
  votes := fun _ => rfl
  voteOut := fun _ => rfl
  forceArmed := fun _ => rfl
  fenceUsed := fun _ => rfl
  openTags := fun _ => rfl
  heldSets := fun _ => rfl
  queues := fun _ => rfl
  ports := fun _ => rfl
  requests := fun _ => rfl
  reqWait := fun _ => rfl
  routes := fun _ => rfl
  uplink := fun _ => rfl
  routeChange := fun _ => rfl
  routeHold := fun _ => rfl
  discTodo := fun _ => rfl
  discAsked := fun _ => rfl
  discLinks := fun _ => rfl
  discStarted := fun _ => rfl
  coldPorts := fun _ => rfl
  chans := fun _ => rfl
  groups := fun _ => rfl
  tree := fun _ => rfl
  attnSent := fun _ => rfl
  stewards := fun _ => rfl
  staging := fun _ => rfl
  recFifo := fun _ => rfl
  recLostMark := fun _ => rfl
  power := fun h => by rw [h] at h0; exact absurd h0 (by decide)
  sec := fun _ => rfl
  i3c := fun _ => rfl
  jtag := fun _ => rfl
  pins := fun _ => rfl

theorem upd_openTags {m : Nat} {s : State} {x0} (h0 : m.testBit 565 = true) :
    Keeps m s { s with openTags := x0 } where
  pending := rfl
  reg := fun _ _ _ => rfl
  canon := id
  free := fun _ => rfl
  readback := fun _ => rfl
  status := fun _ => rfl
  latches := fun _ => rfl
  dram := fun _ => rfl
  tens := fun _ => rfl
  badPhys := fun _ => rfl
  badTens := fun _ => rfl
  pages := fun _ => rfl
  keptDescs := fun _ => rfl
  scrubBlock := fun _ => rfl
  load := fun _ => rfl
  secs := fun _ => rfl
  coreMap := fun _ => rfl
  links := fun _ => rfl
  devQueues := fun _ => rfl
  rules := fun _ => rfl
  rulesOn := fun _ => rfl
  rules0 := fun _ => rfl
  live := fun _ => rfl
  repair := fun _ => rfl
  modrec := fun _ => rfl
  panels := fun _ => rfl
  cores := fun _ => rfl
  flights := fun _ => rfl
  nextFlight := fun _ => rfl
  trackers := fun _ => rfl
  trkSaved := fun _ => rfl
  obs := fun _ => rfl
  windows := fun _ => rfl
  micros := fun _ => rfl
  sliceSums := fun _ => rfl
  slices := fun _ => rfl
  stalledSlices := fun _ => rfl
  sideRecs := fun _ => rfl
  sideSums := fun _ => rfl
  masks := fun _ => rfl
  helds := fun _ => rfl
  sentTiles := fun _ => rfl
  updates := fun _ => rfl
  updDone := fun _ => rfl
  ratios := fun _ => rfl
  ratioSnap := fun _ => rfl
  epochs := fun _ => rfl
  openEpochs := fun _ => rfl
  arrivals := fun _ => rfl
  releases := fun _ => rfl
  votes := fun _ => rfl
  voteOut := fun _ => rfl
  forceArmed := fun _ => rfl
  fenceUsed := fun _ => rfl
  openTags := fun h => by rw [h] at h0; exact absurd h0 (by decide)
  heldSets := fun _ => rfl
  queues := fun _ => rfl
  ports := fun _ => rfl
  requests := fun _ => rfl
  reqWait := fun _ => rfl
  routes := fun _ => rfl
  uplink := fun _ => rfl
  routeChange := fun _ => rfl
  routeHold := fun _ => rfl
  discTodo := fun _ => rfl
  discAsked := fun _ => rfl
  discLinks := fun _ => rfl
  discStarted := fun _ => rfl
  coldPorts := fun _ => rfl
  chans := fun _ => rfl
  groups := fun _ => rfl
  tree := fun _ => rfl
  attnSent := fun _ => rfl
  stewards := fun _ => rfl
  staging := fun _ => rfl
  recFifo := fun _ => rfl
  recLostMark := fun _ => rfl
  power := fun _ => rfl
  sec := fun _ => rfl
  i3c := fun _ => rfl
  jtag := fun _ => rfl
  pins := fun _ => rfl

theorem upd_windows {m : Nat} {s : State} {x0} (h0 : m.testBit 543 = true) :
    Keeps m s { s with windows := x0 } where
  pending := rfl
  reg := fun _ _ _ => rfl
  canon := id
  free := fun _ => rfl
  readback := fun _ => rfl
  status := fun _ => rfl
  latches := fun _ => rfl
  dram := fun _ => rfl
  tens := fun _ => rfl
  badPhys := fun _ => rfl
  badTens := fun _ => rfl
  pages := fun _ => rfl
  keptDescs := fun _ => rfl
  scrubBlock := fun _ => rfl
  load := fun _ => rfl
  secs := fun _ => rfl
  coreMap := fun _ => rfl
  links := fun _ => rfl
  devQueues := fun _ => rfl
  rules := fun _ => rfl
  rulesOn := fun _ => rfl
  rules0 := fun _ => rfl
  live := fun _ => rfl
  repair := fun _ => rfl
  modrec := fun _ => rfl
  panels := fun _ => rfl
  cores := fun _ => rfl
  flights := fun _ => rfl
  nextFlight := fun _ => rfl
  trackers := fun _ => rfl
  trkSaved := fun _ => rfl
  obs := fun _ => rfl
  windows := fun h => by rw [h] at h0; exact absurd h0 (by decide)
  micros := fun _ => rfl
  sliceSums := fun _ => rfl
  slices := fun _ => rfl
  stalledSlices := fun _ => rfl
  sideRecs := fun _ => rfl
  sideSums := fun _ => rfl
  masks := fun _ => rfl
  helds := fun _ => rfl
  sentTiles := fun _ => rfl
  updates := fun _ => rfl
  updDone := fun _ => rfl
  ratios := fun _ => rfl
  ratioSnap := fun _ => rfl
  epochs := fun _ => rfl
  openEpochs := fun _ => rfl
  arrivals := fun _ => rfl
  releases := fun _ => rfl
  votes := fun _ => rfl
  voteOut := fun _ => rfl
  forceArmed := fun _ => rfl
  fenceUsed := fun _ => rfl
  openTags := fun _ => rfl
  heldSets := fun _ => rfl
  queues := fun _ => rfl
  ports := fun _ => rfl
  requests := fun _ => rfl
  reqWait := fun _ => rfl
  routes := fun _ => rfl
  uplink := fun _ => rfl
  routeChange := fun _ => rfl
  routeHold := fun _ => rfl
  discTodo := fun _ => rfl
  discAsked := fun _ => rfl
  discLinks := fun _ => rfl
  discStarted := fun _ => rfl
  coldPorts := fun _ => rfl
  chans := fun _ => rfl
  groups := fun _ => rfl
  tree := fun _ => rfl
  attnSent := fun _ => rfl
  stewards := fun _ => rfl
  staging := fun _ => rfl
  recFifo := fun _ => rfl
  recLostMark := fun _ => rfl
  power := fun _ => rfl
  sec := fun _ => rfl
  i3c := fun _ => rfl
  jtag := fun _ => rfl
  pins := fun _ => rfl

theorem upd_sideRecs {m : Nat} {s : State} {x0} (h0 : m.testBit 548 = true) :
    Keeps m s { s with sideRecs := x0 } where
  pending := rfl
  reg := fun _ _ _ => rfl
  canon := id
  free := fun _ => rfl
  readback := fun _ => rfl
  status := fun _ => rfl
  latches := fun _ => rfl
  dram := fun _ => rfl
  tens := fun _ => rfl
  badPhys := fun _ => rfl
  badTens := fun _ => rfl
  pages := fun _ => rfl
  keptDescs := fun _ => rfl
  scrubBlock := fun _ => rfl
  load := fun _ => rfl
  secs := fun _ => rfl
  coreMap := fun _ => rfl
  links := fun _ => rfl
  devQueues := fun _ => rfl
  rules := fun _ => rfl
  rulesOn := fun _ => rfl
  rules0 := fun _ => rfl
  live := fun _ => rfl
  repair := fun _ => rfl
  modrec := fun _ => rfl
  panels := fun _ => rfl
  cores := fun _ => rfl
  flights := fun _ => rfl
  nextFlight := fun _ => rfl
  trackers := fun _ => rfl
  trkSaved := fun _ => rfl
  obs := fun _ => rfl
  windows := fun _ => rfl
  micros := fun _ => rfl
  sliceSums := fun _ => rfl
  slices := fun _ => rfl
  stalledSlices := fun _ => rfl
  sideRecs := fun h => by rw [h] at h0; exact absurd h0 (by decide)
  sideSums := fun _ => rfl
  masks := fun _ => rfl
  helds := fun _ => rfl
  sentTiles := fun _ => rfl
  updates := fun _ => rfl
  updDone := fun _ => rfl
  ratios := fun _ => rfl
  ratioSnap := fun _ => rfl
  epochs := fun _ => rfl
  openEpochs := fun _ => rfl
  arrivals := fun _ => rfl
  releases := fun _ => rfl
  votes := fun _ => rfl
  voteOut := fun _ => rfl
  forceArmed := fun _ => rfl
  fenceUsed := fun _ => rfl
  openTags := fun _ => rfl
  heldSets := fun _ => rfl
  queues := fun _ => rfl
  ports := fun _ => rfl
  requests := fun _ => rfl
  reqWait := fun _ => rfl
  routes := fun _ => rfl
  uplink := fun _ => rfl
  routeChange := fun _ => rfl
  routeHold := fun _ => rfl
  discTodo := fun _ => rfl
  discAsked := fun _ => rfl
  discLinks := fun _ => rfl
  discStarted := fun _ => rfl
  coldPorts := fun _ => rfl
  chans := fun _ => rfl
  groups := fun _ => rfl
  tree := fun _ => rfl
  attnSent := fun _ => rfl
  stewards := fun _ => rfl
  staging := fun _ => rfl
  recFifo := fun _ => rfl
  recLostMark := fun _ => rfl
  power := fun _ => rfl
  sec := fun _ => rfl
  i3c := fun _ => rfl
  jtag := fun _ => rfl
  pins := fun _ => rfl

theorem upd_sideSums {m : Nat} {s : State} {x0} (h0 : m.testBit 549 = true) :
    Keeps m s { s with sideSums := x0 } where
  pending := rfl
  reg := fun _ _ _ => rfl
  canon := id
  free := fun _ => rfl
  readback := fun _ => rfl
  status := fun _ => rfl
  latches := fun _ => rfl
  dram := fun _ => rfl
  tens := fun _ => rfl
  badPhys := fun _ => rfl
  badTens := fun _ => rfl
  pages := fun _ => rfl
  keptDescs := fun _ => rfl
  scrubBlock := fun _ => rfl
  load := fun _ => rfl
  secs := fun _ => rfl
  coreMap := fun _ => rfl
  links := fun _ => rfl
  devQueues := fun _ => rfl
  rules := fun _ => rfl
  rulesOn := fun _ => rfl
  rules0 := fun _ => rfl
  live := fun _ => rfl
  repair := fun _ => rfl
  modrec := fun _ => rfl
  panels := fun _ => rfl
  cores := fun _ => rfl
  flights := fun _ => rfl
  nextFlight := fun _ => rfl
  trackers := fun _ => rfl
  trkSaved := fun _ => rfl
  obs := fun _ => rfl
  windows := fun _ => rfl
  micros := fun _ => rfl
  sliceSums := fun _ => rfl
  slices := fun _ => rfl
  stalledSlices := fun _ => rfl
  sideRecs := fun _ => rfl
  sideSums := fun h => by rw [h] at h0; exact absurd h0 (by decide)
  masks := fun _ => rfl
  helds := fun _ => rfl
  sentTiles := fun _ => rfl
  updates := fun _ => rfl
  updDone := fun _ => rfl
  ratios := fun _ => rfl
  ratioSnap := fun _ => rfl
  epochs := fun _ => rfl
  openEpochs := fun _ => rfl
  arrivals := fun _ => rfl
  releases := fun _ => rfl
  votes := fun _ => rfl
  voteOut := fun _ => rfl
  forceArmed := fun _ => rfl
  fenceUsed := fun _ => rfl
  openTags := fun _ => rfl
  heldSets := fun _ => rfl
  queues := fun _ => rfl
  ports := fun _ => rfl
  requests := fun _ => rfl
  reqWait := fun _ => rfl
  routes := fun _ => rfl
  uplink := fun _ => rfl
  routeChange := fun _ => rfl
  routeHold := fun _ => rfl
  discTodo := fun _ => rfl
  discAsked := fun _ => rfl
  discLinks := fun _ => rfl
  discStarted := fun _ => rfl
  coldPorts := fun _ => rfl
  chans := fun _ => rfl
  groups := fun _ => rfl
  tree := fun _ => rfl
  attnSent := fun _ => rfl
  stewards := fun _ => rfl
  staging := fun _ => rfl
  recFifo := fun _ => rfl
  recLostMark := fun _ => rfl
  power := fun _ => rfl
  sec := fun _ => rfl
  i3c := fun _ => rfl
  jtag := fun _ => rfl
  pins := fun _ => rfl

theorem upd_badTens {m : Nat} {s : State} {x0} (h0 : m.testBit 521 = true) :
    Keeps m s { s with badTens := x0 } where
  pending := rfl
  reg := fun _ _ _ => rfl
  canon := id
  free := fun _ => rfl
  readback := fun _ => rfl
  status := fun _ => rfl
  latches := fun _ => rfl
  dram := fun _ => rfl
  tens := fun _ => rfl
  badPhys := fun _ => rfl
  badTens := fun h => by rw [h] at h0; exact absurd h0 (by decide)
  pages := fun _ => rfl
  keptDescs := fun _ => rfl
  scrubBlock := fun _ => rfl
  load := fun _ => rfl
  secs := fun _ => rfl
  coreMap := fun _ => rfl
  links := fun _ => rfl
  devQueues := fun _ => rfl
  rules := fun _ => rfl
  rulesOn := fun _ => rfl
  rules0 := fun _ => rfl
  live := fun _ => rfl
  repair := fun _ => rfl
  modrec := fun _ => rfl
  panels := fun _ => rfl
  cores := fun _ => rfl
  flights := fun _ => rfl
  nextFlight := fun _ => rfl
  trackers := fun _ => rfl
  trkSaved := fun _ => rfl
  obs := fun _ => rfl
  windows := fun _ => rfl
  micros := fun _ => rfl
  sliceSums := fun _ => rfl
  slices := fun _ => rfl
  stalledSlices := fun _ => rfl
  sideRecs := fun _ => rfl
  sideSums := fun _ => rfl
  masks := fun _ => rfl
  helds := fun _ => rfl
  sentTiles := fun _ => rfl
  updates := fun _ => rfl
  updDone := fun _ => rfl
  ratios := fun _ => rfl
  ratioSnap := fun _ => rfl
  epochs := fun _ => rfl
  openEpochs := fun _ => rfl
  arrivals := fun _ => rfl
  releases := fun _ => rfl
  votes := fun _ => rfl
  voteOut := fun _ => rfl
  forceArmed := fun _ => rfl
  fenceUsed := fun _ => rfl
  openTags := fun _ => rfl
  heldSets := fun _ => rfl
  queues := fun _ => rfl
  ports := fun _ => rfl
  requests := fun _ => rfl
  reqWait := fun _ => rfl
  routes := fun _ => rfl
  uplink := fun _ => rfl
  routeChange := fun _ => rfl
  routeHold := fun _ => rfl
  discTodo := fun _ => rfl
  discAsked := fun _ => rfl
  discLinks := fun _ => rfl
  discStarted := fun _ => rfl
  coldPorts := fun _ => rfl
  chans := fun _ => rfl
  groups := fun _ => rfl
  tree := fun _ => rfl
  attnSent := fun _ => rfl
  stewards := fun _ => rfl
  staging := fun _ => rfl
  recFifo := fun _ => rfl
  recLostMark := fun _ => rfl
  power := fun _ => rfl
  sec := fun _ => rfl
  i3c := fun _ => rfl
  jtag := fun _ => rfl
  pins := fun _ => rfl

theorem upd_badPhys_pages {m : Nat} {s : State} {x0 x1} (h0 : m.testBit 520 = true) (h1 : m.testBit 522 = true) :
    Keeps m s { s with badPhys := x0, pages := x1 } where
  pending := rfl
  reg := fun _ _ _ => rfl
  canon := id
  free := fun _ => rfl
  readback := fun _ => rfl
  status := fun _ => rfl
  latches := fun _ => rfl
  dram := fun _ => rfl
  tens := fun _ => rfl
  badPhys := fun h => by rw [h] at h0; exact absurd h0 (by decide)
  badTens := fun _ => rfl
  pages := fun h => by rw [h] at h1; exact absurd h1 (by decide)
  keptDescs := fun _ => rfl
  scrubBlock := fun _ => rfl
  load := fun _ => rfl
  secs := fun _ => rfl
  coreMap := fun _ => rfl
  links := fun _ => rfl
  devQueues := fun _ => rfl
  rules := fun _ => rfl
  rulesOn := fun _ => rfl
  rules0 := fun _ => rfl
  live := fun _ => rfl
  repair := fun _ => rfl
  modrec := fun _ => rfl
  panels := fun _ => rfl
  cores := fun _ => rfl
  flights := fun _ => rfl
  nextFlight := fun _ => rfl
  trackers := fun _ => rfl
  trkSaved := fun _ => rfl
  obs := fun _ => rfl
  windows := fun _ => rfl
  micros := fun _ => rfl
  sliceSums := fun _ => rfl
  slices := fun _ => rfl
  stalledSlices := fun _ => rfl
  sideRecs := fun _ => rfl
  sideSums := fun _ => rfl
  masks := fun _ => rfl
  helds := fun _ => rfl
  sentTiles := fun _ => rfl
  updates := fun _ => rfl
  updDone := fun _ => rfl
  ratios := fun _ => rfl
  ratioSnap := fun _ => rfl
  epochs := fun _ => rfl
  openEpochs := fun _ => rfl
  arrivals := fun _ => rfl
  releases := fun _ => rfl
  votes := fun _ => rfl
  voteOut := fun _ => rfl
  forceArmed := fun _ => rfl
  fenceUsed := fun _ => rfl
  openTags := fun _ => rfl
  heldSets := fun _ => rfl
  queues := fun _ => rfl
  ports := fun _ => rfl
  requests := fun _ => rfl
  reqWait := fun _ => rfl
  routes := fun _ => rfl
  uplink := fun _ => rfl
  routeChange := fun _ => rfl
  routeHold := fun _ => rfl
  discTodo := fun _ => rfl
  discAsked := fun _ => rfl
  discLinks := fun _ => rfl
  discStarted := fun _ => rfl
  coldPorts := fun _ => rfl
  chans := fun _ => rfl
  groups := fun _ => rfl
  tree := fun _ => rfl
  attnSent := fun _ => rfl
  stewards := fun _ => rfl
  staging := fun _ => rfl
  recFifo := fun _ => rfl
  recLostMark := fun _ => rfl
  power := fun _ => rfl
  sec := fun _ => rfl
  i3c := fun _ => rfl
  jtag := fun _ => rfl
  pins := fun _ => rfl

theorem upd_openEpochs {m : Nat} {s : State} {x0} (h0 : m.testBit 558 = true) :
    Keeps m s { s with openEpochs := x0 } where
  pending := rfl
  reg := fun _ _ _ => rfl
  canon := id
  free := fun _ => rfl
  readback := fun _ => rfl
  status := fun _ => rfl
  latches := fun _ => rfl
  dram := fun _ => rfl
  tens := fun _ => rfl
  badPhys := fun _ => rfl
  badTens := fun _ => rfl
  pages := fun _ => rfl
  keptDescs := fun _ => rfl
  scrubBlock := fun _ => rfl
  load := fun _ => rfl
  secs := fun _ => rfl
  coreMap := fun _ => rfl
  links := fun _ => rfl
  devQueues := fun _ => rfl
  rules := fun _ => rfl
  rulesOn := fun _ => rfl
  rules0 := fun _ => rfl
  live := fun _ => rfl
  repair := fun _ => rfl
  modrec := fun _ => rfl
  panels := fun _ => rfl
  cores := fun _ => rfl
  flights := fun _ => rfl
  nextFlight := fun _ => rfl
  trackers := fun _ => rfl
  trkSaved := fun _ => rfl
  obs := fun _ => rfl
  windows := fun _ => rfl
  micros := fun _ => rfl
  sliceSums := fun _ => rfl
  slices := fun _ => rfl
  stalledSlices := fun _ => rfl
  sideRecs := fun _ => rfl
  sideSums := fun _ => rfl
  masks := fun _ => rfl
  helds := fun _ => rfl
  sentTiles := fun _ => rfl
  updates := fun _ => rfl
  updDone := fun _ => rfl
  ratios := fun _ => rfl
  ratioSnap := fun _ => rfl
  epochs := fun _ => rfl
  openEpochs := fun h => by rw [h] at h0; exact absurd h0 (by decide)
  arrivals := fun _ => rfl
  releases := fun _ => rfl
  votes := fun _ => rfl
  voteOut := fun _ => rfl
  forceArmed := fun _ => rfl
  fenceUsed := fun _ => rfl
  openTags := fun _ => rfl
  heldSets := fun _ => rfl
  queues := fun _ => rfl
  ports := fun _ => rfl
  requests := fun _ => rfl
  reqWait := fun _ => rfl
  routes := fun _ => rfl
  uplink := fun _ => rfl
  routeChange := fun _ => rfl
  routeHold := fun _ => rfl
  discTodo := fun _ => rfl
  discAsked := fun _ => rfl
  discLinks := fun _ => rfl
  discStarted := fun _ => rfl
  coldPorts := fun _ => rfl
  chans := fun _ => rfl
  groups := fun _ => rfl
  tree := fun _ => rfl
  attnSent := fun _ => rfl
  stewards := fun _ => rfl
  staging := fun _ => rfl
  recFifo := fun _ => rfl
  recLostMark := fun _ => rfl
  power := fun _ => rfl
  sec := fun _ => rfl
  i3c := fun _ => rfl
  jtag := fun _ => rfl
  pins := fun _ => rfl

theorem upd_ratioSnap {m : Nat} {s : State} {x0} (h0 : m.testBit 556 = true) :
    Keeps m s { s with ratioSnap := x0 } where
  pending := rfl
  reg := fun _ _ _ => rfl
  canon := id
  free := fun _ => rfl
  readback := fun _ => rfl
  status := fun _ => rfl
  latches := fun _ => rfl
  dram := fun _ => rfl
  tens := fun _ => rfl
  badPhys := fun _ => rfl
  badTens := fun _ => rfl
  pages := fun _ => rfl
  keptDescs := fun _ => rfl
  scrubBlock := fun _ => rfl
  load := fun _ => rfl
  secs := fun _ => rfl
  coreMap := fun _ => rfl
  links := fun _ => rfl
  devQueues := fun _ => rfl
  rules := fun _ => rfl
  rulesOn := fun _ => rfl
  rules0 := fun _ => rfl
  live := fun _ => rfl
  repair := fun _ => rfl
  modrec := fun _ => rfl
  panels := fun _ => rfl
  cores := fun _ => rfl
  flights := fun _ => rfl
  nextFlight := fun _ => rfl
  trackers := fun _ => rfl
  trkSaved := fun _ => rfl
  obs := fun _ => rfl
  windows := fun _ => rfl
  micros := fun _ => rfl
  sliceSums := fun _ => rfl
  slices := fun _ => rfl
  stalledSlices := fun _ => rfl
  sideRecs := fun _ => rfl
  sideSums := fun _ => rfl
  masks := fun _ => rfl
  helds := fun _ => rfl
  sentTiles := fun _ => rfl
  updates := fun _ => rfl
  updDone := fun _ => rfl
  ratios := fun _ => rfl
  ratioSnap := fun h => by rw [h] at h0; exact absurd h0 (by decide)
  epochs := fun _ => rfl
  openEpochs := fun _ => rfl
  arrivals := fun _ => rfl
  releases := fun _ => rfl
  votes := fun _ => rfl
  voteOut := fun _ => rfl
  forceArmed := fun _ => rfl
  fenceUsed := fun _ => rfl
  openTags := fun _ => rfl
  heldSets := fun _ => rfl
  queues := fun _ => rfl
  ports := fun _ => rfl
  requests := fun _ => rfl
  reqWait := fun _ => rfl
  routes := fun _ => rfl
  uplink := fun _ => rfl
  routeChange := fun _ => rfl
  routeHold := fun _ => rfl
  discTodo := fun _ => rfl
  discAsked := fun _ => rfl
  discLinks := fun _ => rfl
  discStarted := fun _ => rfl
  coldPorts := fun _ => rfl
  chans := fun _ => rfl
  groups := fun _ => rfl
  tree := fun _ => rfl
  attnSent := fun _ => rfl
  stewards := fun _ => rfl
  staging := fun _ => rfl
  recFifo := fun _ => rfl
  recLostMark := fun _ => rfl
  power := fun _ => rfl
  sec := fun _ => rfl
  i3c := fun _ => rfl
  jtag := fun _ => rfl
  pins := fun _ => rfl

theorem upd_recFifo {m : Nat} {s : State} {x0} (h0 : m.testBit 586 = true) :
    Keeps m s { s with recFifo := x0 } where
  pending := rfl
  reg := fun _ _ _ => rfl
  canon := id
  free := fun _ => rfl
  readback := fun _ => rfl
  status := fun _ => rfl
  latches := fun _ => rfl
  dram := fun _ => rfl
  tens := fun _ => rfl
  badPhys := fun _ => rfl
  badTens := fun _ => rfl
  pages := fun _ => rfl
  keptDescs := fun _ => rfl
  scrubBlock := fun _ => rfl
  load := fun _ => rfl
  secs := fun _ => rfl
  coreMap := fun _ => rfl
  links := fun _ => rfl
  devQueues := fun _ => rfl
  rules := fun _ => rfl
  rulesOn := fun _ => rfl
  rules0 := fun _ => rfl
  live := fun _ => rfl
  repair := fun _ => rfl
  modrec := fun _ => rfl
  panels := fun _ => rfl
  cores := fun _ => rfl
  flights := fun _ => rfl
  nextFlight := fun _ => rfl
  trackers := fun _ => rfl
  trkSaved := fun _ => rfl
  obs := fun _ => rfl
  windows := fun _ => rfl
  micros := fun _ => rfl
  sliceSums := fun _ => rfl
  slices := fun _ => rfl
  stalledSlices := fun _ => rfl
  sideRecs := fun _ => rfl
  sideSums := fun _ => rfl
  masks := fun _ => rfl
  helds := fun _ => rfl
  sentTiles := fun _ => rfl
  updates := fun _ => rfl
  updDone := fun _ => rfl
  ratios := fun _ => rfl
  ratioSnap := fun _ => rfl
  epochs := fun _ => rfl
  openEpochs := fun _ => rfl
  arrivals := fun _ => rfl
  releases := fun _ => rfl
  votes := fun _ => rfl
  voteOut := fun _ => rfl
  forceArmed := fun _ => rfl
  fenceUsed := fun _ => rfl
  openTags := fun _ => rfl
  heldSets := fun _ => rfl
  queues := fun _ => rfl
  ports := fun _ => rfl
  requests := fun _ => rfl
  reqWait := fun _ => rfl
  routes := fun _ => rfl
  uplink := fun _ => rfl
  routeChange := fun _ => rfl
  routeHold := fun _ => rfl
  discTodo := fun _ => rfl
  discAsked := fun _ => rfl
  discLinks := fun _ => rfl
  discStarted := fun _ => rfl
  coldPorts := fun _ => rfl
  chans := fun _ => rfl
  groups := fun _ => rfl
  tree := fun _ => rfl
  attnSent := fun _ => rfl
  stewards := fun _ => rfl
  staging := fun _ => rfl
  recFifo := fun h => by rw [h] at h0; exact absurd h0 (by decide)
  recLostMark := fun _ => rfl
  power := fun _ => rfl
  sec := fun _ => rfl
  i3c := fun _ => rfl
  jtag := fun _ => rfl
  pins := fun _ => rfl

theorem upd_epochs_openEpochs_releases {m : Nat} {s : State} {x0 x1 x2} (h0 : m.testBit 557 = true) (h1 : m.testBit 558 = true) (h2 : m.testBit 560 = true) :
    Keeps m s { s with epochs := x0, openEpochs := x1, releases := x2 } where
  pending := rfl
  reg := fun _ _ _ => rfl
  canon := id
  free := fun _ => rfl
  readback := fun _ => rfl
  status := fun _ => rfl
  latches := fun _ => rfl
  dram := fun _ => rfl
  tens := fun _ => rfl
  badPhys := fun _ => rfl
  badTens := fun _ => rfl
  pages := fun _ => rfl
  keptDescs := fun _ => rfl
  scrubBlock := fun _ => rfl
  load := fun _ => rfl
  secs := fun _ => rfl
  coreMap := fun _ => rfl
  links := fun _ => rfl
  devQueues := fun _ => rfl
  rules := fun _ => rfl
  rulesOn := fun _ => rfl
  rules0 := fun _ => rfl
  live := fun _ => rfl
  repair := fun _ => rfl
  modrec := fun _ => rfl
  panels := fun _ => rfl
  cores := fun _ => rfl
  flights := fun _ => rfl
  nextFlight := fun _ => rfl
  trackers := fun _ => rfl
  trkSaved := fun _ => rfl
  obs := fun _ => rfl
  windows := fun _ => rfl
  micros := fun _ => rfl
  sliceSums := fun _ => rfl
  slices := fun _ => rfl
  stalledSlices := fun _ => rfl
  sideRecs := fun _ => rfl
  sideSums := fun _ => rfl
  masks := fun _ => rfl
  helds := fun _ => rfl
  sentTiles := fun _ => rfl
  updates := fun _ => rfl
  updDone := fun _ => rfl
  ratios := fun _ => rfl
  ratioSnap := fun _ => rfl
  epochs := fun h => by rw [h] at h0; exact absurd h0 (by decide)
  openEpochs := fun h => by rw [h] at h1; exact absurd h1 (by decide)
  arrivals := fun _ => rfl
  releases := fun h => by rw [h] at h2; exact absurd h2 (by decide)
  votes := fun _ => rfl
  voteOut := fun _ => rfl
  forceArmed := fun _ => rfl
  fenceUsed := fun _ => rfl
  openTags := fun _ => rfl
  heldSets := fun _ => rfl
  queues := fun _ => rfl
  ports := fun _ => rfl
  requests := fun _ => rfl
  reqWait := fun _ => rfl
  routes := fun _ => rfl
  uplink := fun _ => rfl
  routeChange := fun _ => rfl
  routeHold := fun _ => rfl
  discTodo := fun _ => rfl
  discAsked := fun _ => rfl
  discLinks := fun _ => rfl
  discStarted := fun _ => rfl
  coldPorts := fun _ => rfl
  chans := fun _ => rfl
  groups := fun _ => rfl
  tree := fun _ => rfl
  attnSent := fun _ => rfl
  stewards := fun _ => rfl
  staging := fun _ => rfl
  recFifo := fun _ => rfl
  recLostMark := fun _ => rfl
  power := fun _ => rfl
  sec := fun _ => rfl
  i3c := fun _ => rfl
  jtag := fun _ => rfl
  pins := fun _ => rfl

theorem upd_rulesOn {m : Nat} {s : State} {x0} (h0 : m.testBit 531 = true) :
    Keeps m s { s with rulesOn := x0 } where
  pending := rfl
  reg := fun _ _ _ => rfl
  canon := id
  free := fun _ => rfl
  readback := fun _ => rfl
  status := fun _ => rfl
  latches := fun _ => rfl
  dram := fun _ => rfl
  tens := fun _ => rfl
  badPhys := fun _ => rfl
  badTens := fun _ => rfl
  pages := fun _ => rfl
  keptDescs := fun _ => rfl
  scrubBlock := fun _ => rfl
  load := fun _ => rfl
  secs := fun _ => rfl
  coreMap := fun _ => rfl
  links := fun _ => rfl
  devQueues := fun _ => rfl
  rules := fun _ => rfl
  rulesOn := fun h => by rw [h] at h0; exact absurd h0 (by decide)
  rules0 := fun _ => rfl
  live := fun _ => rfl
  repair := fun _ => rfl
  modrec := fun _ => rfl
  panels := fun _ => rfl
  cores := fun _ => rfl
  flights := fun _ => rfl
  nextFlight := fun _ => rfl
  trackers := fun _ => rfl
  trkSaved := fun _ => rfl
  obs := fun _ => rfl
  windows := fun _ => rfl
  micros := fun _ => rfl
  sliceSums := fun _ => rfl
  slices := fun _ => rfl
  stalledSlices := fun _ => rfl
  sideRecs := fun _ => rfl
  sideSums := fun _ => rfl
  masks := fun _ => rfl
  helds := fun _ => rfl
  sentTiles := fun _ => rfl
  updates := fun _ => rfl
  updDone := fun _ => rfl
  ratios := fun _ => rfl
  ratioSnap := fun _ => rfl
  epochs := fun _ => rfl
  openEpochs := fun _ => rfl
  arrivals := fun _ => rfl
  releases := fun _ => rfl
  votes := fun _ => rfl
  voteOut := fun _ => rfl
  forceArmed := fun _ => rfl
  fenceUsed := fun _ => rfl
  openTags := fun _ => rfl
  heldSets := fun _ => rfl
  queues := fun _ => rfl
  ports := fun _ => rfl
  requests := fun _ => rfl
  reqWait := fun _ => rfl
  routes := fun _ => rfl
  uplink := fun _ => rfl
  routeChange := fun _ => rfl
  routeHold := fun _ => rfl
  discTodo := fun _ => rfl
  discAsked := fun _ => rfl
  discLinks := fun _ => rfl
  discStarted := fun _ => rfl
  coldPorts := fun _ => rfl
  chans := fun _ => rfl
  groups := fun _ => rfl
  tree := fun _ => rfl
  attnSent := fun _ => rfl
  stewards := fun _ => rfl
  staging := fun _ => rfl
  recFifo := fun _ => rfl
  recLostMark := fun _ => rfl
  power := fun _ => rfl
  sec := fun _ => rfl
  i3c := fun _ => rfl
  jtag := fun _ => rfl
  pins := fun _ => rfl

theorem upd_rules {m : Nat} {s : State} {x0} (h0 : m.testBit 530 = true) :
    Keeps m s { s with rules := x0 } where
  pending := rfl
  reg := fun _ _ _ => rfl
  canon := id
  free := fun _ => rfl
  readback := fun _ => rfl
  status := fun _ => rfl
  latches := fun _ => rfl
  dram := fun _ => rfl
  tens := fun _ => rfl
  badPhys := fun _ => rfl
  badTens := fun _ => rfl
  pages := fun _ => rfl
  keptDescs := fun _ => rfl
  scrubBlock := fun _ => rfl
  load := fun _ => rfl
  secs := fun _ => rfl
  coreMap := fun _ => rfl
  links := fun _ => rfl
  devQueues := fun _ => rfl
  rules := fun h => by rw [h] at h0; exact absurd h0 (by decide)
  rulesOn := fun _ => rfl
  rules0 := fun _ => rfl
  live := fun _ => rfl
  repair := fun _ => rfl
  modrec := fun _ => rfl
  panels := fun _ => rfl
  cores := fun _ => rfl
  flights := fun _ => rfl
  nextFlight := fun _ => rfl
  trackers := fun _ => rfl
  trkSaved := fun _ => rfl
  obs := fun _ => rfl
  windows := fun _ => rfl
  micros := fun _ => rfl
  sliceSums := fun _ => rfl
  slices := fun _ => rfl
  stalledSlices := fun _ => rfl
  sideRecs := fun _ => rfl
  sideSums := fun _ => rfl
  masks := fun _ => rfl
  helds := fun _ => rfl
  sentTiles := fun _ => rfl
  updates := fun _ => rfl
  updDone := fun _ => rfl
  ratios := fun _ => rfl
  ratioSnap := fun _ => rfl
  epochs := fun _ => rfl
  openEpochs := fun _ => rfl
  arrivals := fun _ => rfl
  releases := fun _ => rfl
  votes := fun _ => rfl
  voteOut := fun _ => rfl
  forceArmed := fun _ => rfl
  fenceUsed := fun _ => rfl
  openTags := fun _ => rfl
  heldSets := fun _ => rfl
  queues := fun _ => rfl
  ports := fun _ => rfl
  requests := fun _ => rfl
  reqWait := fun _ => rfl
  routes := fun _ => rfl
  uplink := fun _ => rfl
  routeChange := fun _ => rfl
  routeHold := fun _ => rfl
  discTodo := fun _ => rfl
  discAsked := fun _ => rfl
  discLinks := fun _ => rfl
  discStarted := fun _ => rfl
  coldPorts := fun _ => rfl
  chans := fun _ => rfl
  groups := fun _ => rfl
  tree := fun _ => rfl
  attnSent := fun _ => rfl
  stewards := fun _ => rfl
  staging := fun _ => rfl
  recFifo := fun _ => rfl
  recLostMark := fun _ => rfl
  power := fun _ => rfl
  sec := fun _ => rfl
  i3c := fun _ => rfl
  jtag := fun _ => rfl
  pins := fun _ => rfl

theorem upd_scrubBlock {m : Nat} {s : State} {x0} (h0 : m.testBit 524 = true) :
    Keeps m s { s with scrubBlock := x0 } where
  pending := rfl
  reg := fun _ _ _ => rfl
  canon := id
  free := fun _ => rfl
  readback := fun _ => rfl
  status := fun _ => rfl
  latches := fun _ => rfl
  dram := fun _ => rfl
  tens := fun _ => rfl
  badPhys := fun _ => rfl
  badTens := fun _ => rfl
  pages := fun _ => rfl
  keptDescs := fun _ => rfl
  scrubBlock := fun h => by rw [h] at h0; exact absurd h0 (by decide)
  load := fun _ => rfl
  secs := fun _ => rfl
  coreMap := fun _ => rfl
  links := fun _ => rfl
  devQueues := fun _ => rfl
  rules := fun _ => rfl
  rulesOn := fun _ => rfl
  rules0 := fun _ => rfl
  live := fun _ => rfl
  repair := fun _ => rfl
  modrec := fun _ => rfl
  panels := fun _ => rfl
  cores := fun _ => rfl
  flights := fun _ => rfl
  nextFlight := fun _ => rfl
  trackers := fun _ => rfl
  trkSaved := fun _ => rfl
  obs := fun _ => rfl
  windows := fun _ => rfl
  micros := fun _ => rfl
  sliceSums := fun _ => rfl
  slices := fun _ => rfl
  stalledSlices := fun _ => rfl
  sideRecs := fun _ => rfl
  sideSums := fun _ => rfl
  masks := fun _ => rfl
  helds := fun _ => rfl
  sentTiles := fun _ => rfl
  updates := fun _ => rfl
  updDone := fun _ => rfl
  ratios := fun _ => rfl
  ratioSnap := fun _ => rfl
  epochs := fun _ => rfl
  openEpochs := fun _ => rfl
  arrivals := fun _ => rfl
  releases := fun _ => rfl
  votes := fun _ => rfl
  voteOut := fun _ => rfl
  forceArmed := fun _ => rfl
  fenceUsed := fun _ => rfl
  openTags := fun _ => rfl
  heldSets := fun _ => rfl
  queues := fun _ => rfl
  ports := fun _ => rfl
  requests := fun _ => rfl
  reqWait := fun _ => rfl
  routes := fun _ => rfl
  uplink := fun _ => rfl
  routeChange := fun _ => rfl
  routeHold := fun _ => rfl
  discTodo := fun _ => rfl
  discAsked := fun _ => rfl
  discLinks := fun _ => rfl
  discStarted := fun _ => rfl
  coldPorts := fun _ => rfl
  chans := fun _ => rfl
  groups := fun _ => rfl
  tree := fun _ => rfl
  attnSent := fun _ => rfl
  stewards := fun _ => rfl
  staging := fun _ => rfl
  recFifo := fun _ => rfl
  recLostMark := fun _ => rfl
  power := fun _ => rfl
  sec := fun _ => rfl
  i3c := fun _ => rfl
  jtag := fun _ => rfl
  pins := fun _ => rfl

theorem upd_arrivals {m : Nat} {s : State} {x0} (h0 : m.testBit 559 = true) :
    Keeps m s { s with arrivals := x0 } where
  pending := rfl
  reg := fun _ _ _ => rfl
  canon := id
  free := fun _ => rfl
  readback := fun _ => rfl
  status := fun _ => rfl
  latches := fun _ => rfl
  dram := fun _ => rfl
  tens := fun _ => rfl
  badPhys := fun _ => rfl
  badTens := fun _ => rfl
  pages := fun _ => rfl
  keptDescs := fun _ => rfl
  scrubBlock := fun _ => rfl
  load := fun _ => rfl
  secs := fun _ => rfl
  coreMap := fun _ => rfl
  links := fun _ => rfl
  devQueues := fun _ => rfl
  rules := fun _ => rfl
  rulesOn := fun _ => rfl
  rules0 := fun _ => rfl
  live := fun _ => rfl
  repair := fun _ => rfl
  modrec := fun _ => rfl
  panels := fun _ => rfl
  cores := fun _ => rfl
  flights := fun _ => rfl
  nextFlight := fun _ => rfl
  trackers := fun _ => rfl
  trkSaved := fun _ => rfl
  obs := fun _ => rfl
  windows := fun _ => rfl
  micros := fun _ => rfl
  sliceSums := fun _ => rfl
  slices := fun _ => rfl
  stalledSlices := fun _ => rfl
  sideRecs := fun _ => rfl
  sideSums := fun _ => rfl
  masks := fun _ => rfl
  helds := fun _ => rfl
  sentTiles := fun _ => rfl
  updates := fun _ => rfl
  updDone := fun _ => rfl
  ratios := fun _ => rfl
  ratioSnap := fun _ => rfl
  epochs := fun _ => rfl
  openEpochs := fun _ => rfl
  arrivals := fun h => by rw [h] at h0; exact absurd h0 (by decide)
  releases := fun _ => rfl
  votes := fun _ => rfl
  voteOut := fun _ => rfl
  forceArmed := fun _ => rfl
  fenceUsed := fun _ => rfl
  openTags := fun _ => rfl
  heldSets := fun _ => rfl
  queues := fun _ => rfl
  ports := fun _ => rfl
  requests := fun _ => rfl
  reqWait := fun _ => rfl
  routes := fun _ => rfl
  uplink := fun _ => rfl
  routeChange := fun _ => rfl
  routeHold := fun _ => rfl
  discTodo := fun _ => rfl
  discAsked := fun _ => rfl
  discLinks := fun _ => rfl
  discStarted := fun _ => rfl
  coldPorts := fun _ => rfl
  chans := fun _ => rfl
  groups := fun _ => rfl
  tree := fun _ => rfl
  attnSent := fun _ => rfl
  stewards := fun _ => rfl
  staging := fun _ => rfl
  recFifo := fun _ => rfl
  recLostMark := fun _ => rfl
  power := fun _ => rfl
  sec := fun _ => rfl
  i3c := fun _ => rfl
  jtag := fun _ => rfl
  pins := fun _ => rfl

theorem upd_jtag {m : Nat} {s : State} {x0} (h0 : m.testBit 591 = true) :
    Keeps m s { s with jtag := x0 } where
  pending := rfl
  reg := fun _ _ _ => rfl
  canon := id
  free := fun _ => rfl
  readback := fun _ => rfl
  status := fun _ => rfl
  latches := fun _ => rfl
  dram := fun _ => rfl
  tens := fun _ => rfl
  badPhys := fun _ => rfl
  badTens := fun _ => rfl
  pages := fun _ => rfl
  keptDescs := fun _ => rfl
  scrubBlock := fun _ => rfl
  load := fun _ => rfl
  secs := fun _ => rfl
  coreMap := fun _ => rfl
  links := fun _ => rfl
  devQueues := fun _ => rfl
  rules := fun _ => rfl
  rulesOn := fun _ => rfl
  rules0 := fun _ => rfl
  live := fun _ => rfl
  repair := fun _ => rfl
  modrec := fun _ => rfl
  panels := fun _ => rfl
  cores := fun _ => rfl
  flights := fun _ => rfl
  nextFlight := fun _ => rfl
  trackers := fun _ => rfl
  trkSaved := fun _ => rfl
  obs := fun _ => rfl
  windows := fun _ => rfl
  micros := fun _ => rfl
  sliceSums := fun _ => rfl
  slices := fun _ => rfl
  stalledSlices := fun _ => rfl
  sideRecs := fun _ => rfl
  sideSums := fun _ => rfl
  masks := fun _ => rfl
  helds := fun _ => rfl
  sentTiles := fun _ => rfl
  updates := fun _ => rfl
  updDone := fun _ => rfl
  ratios := fun _ => rfl
  ratioSnap := fun _ => rfl
  epochs := fun _ => rfl
  openEpochs := fun _ => rfl
  arrivals := fun _ => rfl
  releases := fun _ => rfl
  votes := fun _ => rfl
  voteOut := fun _ => rfl
  forceArmed := fun _ => rfl
  fenceUsed := fun _ => rfl
  openTags := fun _ => rfl
  heldSets := fun _ => rfl
  queues := fun _ => rfl
  ports := fun _ => rfl
  requests := fun _ => rfl
  reqWait := fun _ => rfl
  routes := fun _ => rfl
  uplink := fun _ => rfl
  routeChange := fun _ => rfl
  routeHold := fun _ => rfl
  discTodo := fun _ => rfl
  discAsked := fun _ => rfl
  discLinks := fun _ => rfl
  discStarted := fun _ => rfl
  coldPorts := fun _ => rfl
  chans := fun _ => rfl
  groups := fun _ => rfl
  tree := fun _ => rfl
  attnSent := fun _ => rfl
  stewards := fun _ => rfl
  staging := fun _ => rfl
  recFifo := fun _ => rfl
  recLostMark := fun _ => rfl
  power := fun _ => rfl
  sec := fun _ => rfl
  i3c := fun _ => rfl
  jtag := fun h => by rw [h] at h0; exact absurd h0 (by decide)
  pins := fun _ => rfl

theorem upd_latches {m : Nat} {s : State} {x0} (h0 : m.testBit 517 = true) :
    Keeps m s { s with latches := x0 } where
  pending := rfl
  reg := fun _ _ _ => rfl
  canon := id
  free := fun _ => rfl
  readback := fun _ => rfl
  status := fun _ => rfl
  latches := fun h => by rw [h] at h0; exact absurd h0 (by decide)
  dram := fun _ => rfl
  tens := fun _ => rfl
  badPhys := fun _ => rfl
  badTens := fun _ => rfl
  pages := fun _ => rfl
  keptDescs := fun _ => rfl
  scrubBlock := fun _ => rfl
  load := fun _ => rfl
  secs := fun _ => rfl
  coreMap := fun _ => rfl
  links := fun _ => rfl
  devQueues := fun _ => rfl
  rules := fun _ => rfl
  rulesOn := fun _ => rfl
  rules0 := fun _ => rfl
  live := fun _ => rfl
  repair := fun _ => rfl
  modrec := fun _ => rfl
  panels := fun _ => rfl
  cores := fun _ => rfl
  flights := fun _ => rfl
  nextFlight := fun _ => rfl
  trackers := fun _ => rfl
  trkSaved := fun _ => rfl
  obs := fun _ => rfl
  windows := fun _ => rfl
  micros := fun _ => rfl
  sliceSums := fun _ => rfl
  slices := fun _ => rfl
  stalledSlices := fun _ => rfl
  sideRecs := fun _ => rfl
  sideSums := fun _ => rfl
  masks := fun _ => rfl
  helds := fun _ => rfl
  sentTiles := fun _ => rfl
  updates := fun _ => rfl
  updDone := fun _ => rfl
  ratios := fun _ => rfl
  ratioSnap := fun _ => rfl
  epochs := fun _ => rfl
  openEpochs := fun _ => rfl
  arrivals := fun _ => rfl
  releases := fun _ => rfl
  votes := fun _ => rfl
  voteOut := fun _ => rfl
  forceArmed := fun _ => rfl
  fenceUsed := fun _ => rfl
  openTags := fun _ => rfl
  heldSets := fun _ => rfl
  queues := fun _ => rfl
  ports := fun _ => rfl
  requests := fun _ => rfl
  reqWait := fun _ => rfl
  routes := fun _ => rfl
  uplink := fun _ => rfl
  routeChange := fun _ => rfl
  routeHold := fun _ => rfl
  discTodo := fun _ => rfl
  discAsked := fun _ => rfl
  discLinks := fun _ => rfl
  discStarted := fun _ => rfl
  coldPorts := fun _ => rfl
  chans := fun _ => rfl
  groups := fun _ => rfl
  tree := fun _ => rfl
  attnSent := fun _ => rfl
  stewards := fun _ => rfl
  staging := fun _ => rfl
  recFifo := fun _ => rfl
  recLostMark := fun _ => rfl
  power := fun _ => rfl
  sec := fun _ => rfl
  i3c := fun _ => rfl
  jtag := fun _ => rfl
  pins := fun _ => rfl

theorem upd_masks {m : Nat} {s : State} {x0} (h0 : m.testBit 550 = true) :
    Keeps m s { s with masks := x0 } where
  pending := rfl
  reg := fun _ _ _ => rfl
  canon := id
  free := fun _ => rfl
  readback := fun _ => rfl
  status := fun _ => rfl
  latches := fun _ => rfl
  dram := fun _ => rfl
  tens := fun _ => rfl
  badPhys := fun _ => rfl
  badTens := fun _ => rfl
  pages := fun _ => rfl
  keptDescs := fun _ => rfl
  scrubBlock := fun _ => rfl
  load := fun _ => rfl
  secs := fun _ => rfl
  coreMap := fun _ => rfl
  links := fun _ => rfl
  devQueues := fun _ => rfl
  rules := fun _ => rfl
  rulesOn := fun _ => rfl
  rules0 := fun _ => rfl
  live := fun _ => rfl
  repair := fun _ => rfl
  modrec := fun _ => rfl
  panels := fun _ => rfl
  cores := fun _ => rfl
  flights := fun _ => rfl
  nextFlight := fun _ => rfl
  trackers := fun _ => rfl
  trkSaved := fun _ => rfl
  obs := fun _ => rfl
  windows := fun _ => rfl
  micros := fun _ => rfl
  sliceSums := fun _ => rfl
  slices := fun _ => rfl
  stalledSlices := fun _ => rfl
  sideRecs := fun _ => rfl
  sideSums := fun _ => rfl
  masks := fun h => by rw [h] at h0; exact absurd h0 (by decide)
  helds := fun _ => rfl
  sentTiles := fun _ => rfl
  updates := fun _ => rfl
  updDone := fun _ => rfl
  ratios := fun _ => rfl
  ratioSnap := fun _ => rfl
  epochs := fun _ => rfl
  openEpochs := fun _ => rfl
  arrivals := fun _ => rfl
  releases := fun _ => rfl
  votes := fun _ => rfl
  voteOut := fun _ => rfl
  forceArmed := fun _ => rfl
  fenceUsed := fun _ => rfl
  openTags := fun _ => rfl
  heldSets := fun _ => rfl
  queues := fun _ => rfl
  ports := fun _ => rfl
  requests := fun _ => rfl
  reqWait := fun _ => rfl
  routes := fun _ => rfl
  uplink := fun _ => rfl
  routeChange := fun _ => rfl
  routeHold := fun _ => rfl
  discTodo := fun _ => rfl
  discAsked := fun _ => rfl
  discLinks := fun _ => rfl
  discStarted := fun _ => rfl
  coldPorts := fun _ => rfl
  chans := fun _ => rfl
  groups := fun _ => rfl
  tree := fun _ => rfl
  attnSent := fun _ => rfl
  stewards := fun _ => rfl
  staging := fun _ => rfl
  recFifo := fun _ => rfl
  recLostMark := fun _ => rfl
  power := fun _ => rfl
  sec := fun _ => rfl
  i3c := fun _ => rfl
  jtag := fun _ => rfl
  pins := fun _ => rfl

theorem upd_routes {m : Nat} {s : State} {x0} (h0 : m.testBit 571 = true) :
    Keeps m s { s with routes := x0 } where
  pending := rfl
  reg := fun _ _ _ => rfl
  canon := id
  free := fun _ => rfl
  readback := fun _ => rfl
  status := fun _ => rfl
  latches := fun _ => rfl
  dram := fun _ => rfl
  tens := fun _ => rfl
  badPhys := fun _ => rfl
  badTens := fun _ => rfl
  pages := fun _ => rfl
  keptDescs := fun _ => rfl
  scrubBlock := fun _ => rfl
  load := fun _ => rfl
  secs := fun _ => rfl
  coreMap := fun _ => rfl
  links := fun _ => rfl
  devQueues := fun _ => rfl
  rules := fun _ => rfl
  rulesOn := fun _ => rfl
  rules0 := fun _ => rfl
  live := fun _ => rfl
  repair := fun _ => rfl
  modrec := fun _ => rfl
  panels := fun _ => rfl
  cores := fun _ => rfl
  flights := fun _ => rfl
  nextFlight := fun _ => rfl
  trackers := fun _ => rfl
  trkSaved := fun _ => rfl
  obs := fun _ => rfl
  windows := fun _ => rfl
  micros := fun _ => rfl
  sliceSums := fun _ => rfl
  slices := fun _ => rfl
  stalledSlices := fun _ => rfl
  sideRecs := fun _ => rfl
  sideSums := fun _ => rfl
  masks := fun _ => rfl
  helds := fun _ => rfl
  sentTiles := fun _ => rfl
  updates := fun _ => rfl
  updDone := fun _ => rfl
  ratios := fun _ => rfl
  ratioSnap := fun _ => rfl
  epochs := fun _ => rfl
  openEpochs := fun _ => rfl
  arrivals := fun _ => rfl
  releases := fun _ => rfl
  votes := fun _ => rfl
  voteOut := fun _ => rfl
  forceArmed := fun _ => rfl
  fenceUsed := fun _ => rfl
  openTags := fun _ => rfl
  heldSets := fun _ => rfl
  queues := fun _ => rfl
  ports := fun _ => rfl
  requests := fun _ => rfl
  reqWait := fun _ => rfl
  routes := fun h => by rw [h] at h0; exact absurd h0 (by decide)
  uplink := fun _ => rfl
  routeChange := fun _ => rfl
  routeHold := fun _ => rfl
  discTodo := fun _ => rfl
  discAsked := fun _ => rfl
  discLinks := fun _ => rfl
  discStarted := fun _ => rfl
  coldPorts := fun _ => rfl
  chans := fun _ => rfl
  groups := fun _ => rfl
  tree := fun _ => rfl
  attnSent := fun _ => rfl
  stewards := fun _ => rfl
  staging := fun _ => rfl
  recFifo := fun _ => rfl
  recLostMark := fun _ => rfl
  power := fun _ => rfl
  sec := fun _ => rfl
  i3c := fun _ => rfl
  jtag := fun _ => rfl
  pins := fun _ => rfl

theorem upd_routeChange {m : Nat} {s : State} {x0} (h0 : m.testBit 573 = true) :
    Keeps m s { s with routeChange := x0 } where
  pending := rfl
  reg := fun _ _ _ => rfl
  canon := id
  free := fun _ => rfl
  readback := fun _ => rfl
  status := fun _ => rfl
  latches := fun _ => rfl
  dram := fun _ => rfl
  tens := fun _ => rfl
  badPhys := fun _ => rfl
  badTens := fun _ => rfl
  pages := fun _ => rfl
  keptDescs := fun _ => rfl
  scrubBlock := fun _ => rfl
  load := fun _ => rfl
  secs := fun _ => rfl
  coreMap := fun _ => rfl
  links := fun _ => rfl
  devQueues := fun _ => rfl
  rules := fun _ => rfl
  rulesOn := fun _ => rfl
  rules0 := fun _ => rfl
  live := fun _ => rfl
  repair := fun _ => rfl
  modrec := fun _ => rfl
  panels := fun _ => rfl
  cores := fun _ => rfl
  flights := fun _ => rfl
  nextFlight := fun _ => rfl
  trackers := fun _ => rfl
  trkSaved := fun _ => rfl
  obs := fun _ => rfl
  windows := fun _ => rfl
  micros := fun _ => rfl
  sliceSums := fun _ => rfl
  slices := fun _ => rfl
  stalledSlices := fun _ => rfl
  sideRecs := fun _ => rfl
  sideSums := fun _ => rfl
  masks := fun _ => rfl
  helds := fun _ => rfl
  sentTiles := fun _ => rfl
  updates := fun _ => rfl
  updDone := fun _ => rfl
  ratios := fun _ => rfl
  ratioSnap := fun _ => rfl
  epochs := fun _ => rfl
  openEpochs := fun _ => rfl
  arrivals := fun _ => rfl
  releases := fun _ => rfl
  votes := fun _ => rfl
  voteOut := fun _ => rfl
  forceArmed := fun _ => rfl
  fenceUsed := fun _ => rfl
  openTags := fun _ => rfl
  heldSets := fun _ => rfl
  queues := fun _ => rfl
  ports := fun _ => rfl
  requests := fun _ => rfl
  reqWait := fun _ => rfl
  routes := fun _ => rfl
  uplink := fun _ => rfl
  routeChange := fun h => by rw [h] at h0; exact absurd h0 (by decide)
  routeHold := fun _ => rfl
  discTodo := fun _ => rfl
  discAsked := fun _ => rfl
  discLinks := fun _ => rfl
  discStarted := fun _ => rfl
  coldPorts := fun _ => rfl
  chans := fun _ => rfl
  groups := fun _ => rfl
  tree := fun _ => rfl
  attnSent := fun _ => rfl
  stewards := fun _ => rfl
  staging := fun _ => rfl
  recFifo := fun _ => rfl
  recLostMark := fun _ => rfl
  power := fun _ => rfl
  sec := fun _ => rfl
  i3c := fun _ => rfl
  jtag := fun _ => rfl
  pins := fun _ => rfl

theorem upd_load {m : Nat} {s : State} {x0} (h0 : m.testBit 525 = true) :
    Keeps m s { s with load := x0 } where
  pending := rfl
  reg := fun _ _ _ => rfl
  canon := id
  free := fun _ => rfl
  readback := fun _ => rfl
  status := fun _ => rfl
  latches := fun _ => rfl
  dram := fun _ => rfl
  tens := fun _ => rfl
  badPhys := fun _ => rfl
  badTens := fun _ => rfl
  pages := fun _ => rfl
  keptDescs := fun _ => rfl
  scrubBlock := fun _ => rfl
  load := fun h => by rw [h] at h0; exact absurd h0 (by decide)
  secs := fun _ => rfl
  coreMap := fun _ => rfl
  links := fun _ => rfl
  devQueues := fun _ => rfl
  rules := fun _ => rfl
  rulesOn := fun _ => rfl
  rules0 := fun _ => rfl
  live := fun _ => rfl
  repair := fun _ => rfl
  modrec := fun _ => rfl
  panels := fun _ => rfl
  cores := fun _ => rfl
  flights := fun _ => rfl
  nextFlight := fun _ => rfl
  trackers := fun _ => rfl
  trkSaved := fun _ => rfl
  obs := fun _ => rfl
  windows := fun _ => rfl
  micros := fun _ => rfl
  sliceSums := fun _ => rfl
  slices := fun _ => rfl
  stalledSlices := fun _ => rfl
  sideRecs := fun _ => rfl
  sideSums := fun _ => rfl
  masks := fun _ => rfl
  helds := fun _ => rfl
  sentTiles := fun _ => rfl
  updates := fun _ => rfl
  updDone := fun _ => rfl
  ratios := fun _ => rfl
  ratioSnap := fun _ => rfl
  epochs := fun _ => rfl
  openEpochs := fun _ => rfl
  arrivals := fun _ => rfl
  releases := fun _ => rfl
  votes := fun _ => rfl
  voteOut := fun _ => rfl
  forceArmed := fun _ => rfl
  fenceUsed := fun _ => rfl
  openTags := fun _ => rfl
  heldSets := fun _ => rfl
  queues := fun _ => rfl
  ports := fun _ => rfl
  requests := fun _ => rfl
  reqWait := fun _ => rfl
  routes := fun _ => rfl
  uplink := fun _ => rfl
  routeChange := fun _ => rfl
  routeHold := fun _ => rfl
  discTodo := fun _ => rfl
  discAsked := fun _ => rfl
  discLinks := fun _ => rfl
  discStarted := fun _ => rfl
  coldPorts := fun _ => rfl
  chans := fun _ => rfl
  groups := fun _ => rfl
  tree := fun _ => rfl
  attnSent := fun _ => rfl
  stewards := fun _ => rfl
  staging := fun _ => rfl
  recFifo := fun _ => rfl
  recLostMark := fun _ => rfl
  power := fun _ => rfl
  sec := fun _ => rfl
  i3c := fun _ => rfl
  jtag := fun _ => rfl
  pins := fun _ => rfl

theorem upd_i3c_pins {m : Nat} {s : State} {x0 x1} (h0 : m.testBit 590 = true) (h1 : m.testBit 592 = true) :
    Keeps m s { s with i3c := x0, pins := x1 } where
  pending := rfl
  reg := fun _ _ _ => rfl
  canon := id
  free := fun _ => rfl
  readback := fun _ => rfl
  status := fun _ => rfl
  latches := fun _ => rfl
  dram := fun _ => rfl
  tens := fun _ => rfl
  badPhys := fun _ => rfl
  badTens := fun _ => rfl
  pages := fun _ => rfl
  keptDescs := fun _ => rfl
  scrubBlock := fun _ => rfl
  load := fun _ => rfl
  secs := fun _ => rfl
  coreMap := fun _ => rfl
  links := fun _ => rfl
  devQueues := fun _ => rfl
  rules := fun _ => rfl
  rulesOn := fun _ => rfl
  rules0 := fun _ => rfl
  live := fun _ => rfl
  repair := fun _ => rfl
  modrec := fun _ => rfl
  panels := fun _ => rfl
  cores := fun _ => rfl
  flights := fun _ => rfl
  nextFlight := fun _ => rfl
  trackers := fun _ => rfl
  trkSaved := fun _ => rfl
  obs := fun _ => rfl
  windows := fun _ => rfl
  micros := fun _ => rfl
  sliceSums := fun _ => rfl
  slices := fun _ => rfl
  stalledSlices := fun _ => rfl
  sideRecs := fun _ => rfl
  sideSums := fun _ => rfl
  masks := fun _ => rfl
  helds := fun _ => rfl
  sentTiles := fun _ => rfl
  updates := fun _ => rfl
  updDone := fun _ => rfl
  ratios := fun _ => rfl
  ratioSnap := fun _ => rfl
  epochs := fun _ => rfl
  openEpochs := fun _ => rfl
  arrivals := fun _ => rfl
  releases := fun _ => rfl
  votes := fun _ => rfl
  voteOut := fun _ => rfl
  forceArmed := fun _ => rfl
  fenceUsed := fun _ => rfl
  openTags := fun _ => rfl
  heldSets := fun _ => rfl
  queues := fun _ => rfl
  ports := fun _ => rfl
  requests := fun _ => rfl
  reqWait := fun _ => rfl
  routes := fun _ => rfl
  uplink := fun _ => rfl
  routeChange := fun _ => rfl
  routeHold := fun _ => rfl
  discTodo := fun _ => rfl
  discAsked := fun _ => rfl
  discLinks := fun _ => rfl
  discStarted := fun _ => rfl
  coldPorts := fun _ => rfl
  chans := fun _ => rfl
  groups := fun _ => rfl
  tree := fun _ => rfl
  attnSent := fun _ => rfl
  stewards := fun _ => rfl
  staging := fun _ => rfl
  recFifo := fun _ => rfl
  recLostMark := fun _ => rfl
  power := fun _ => rfl
  sec := fun _ => rfl
  i3c := fun h => by rw [h] at h0; exact absurd h0 (by decide)
  jtag := fun _ => rfl
  pins := fun h => by rw [h] at h1; exact absurd h1 (by decide)

theorem upd_slices {m : Nat} {s : State} {x0} (h0 : m.testBit 546 = true) :
    Keeps m s { s with slices := x0 } where
  pending := rfl
  reg := fun _ _ _ => rfl
  canon := id
  free := fun _ => rfl
  readback := fun _ => rfl
  status := fun _ => rfl
  latches := fun _ => rfl
  dram := fun _ => rfl
  tens := fun _ => rfl
  badPhys := fun _ => rfl
  badTens := fun _ => rfl
  pages := fun _ => rfl
  keptDescs := fun _ => rfl
  scrubBlock := fun _ => rfl
  load := fun _ => rfl
  secs := fun _ => rfl
  coreMap := fun _ => rfl
  links := fun _ => rfl
  devQueues := fun _ => rfl
  rules := fun _ => rfl
  rulesOn := fun _ => rfl
  rules0 := fun _ => rfl
  live := fun _ => rfl
  repair := fun _ => rfl
  modrec := fun _ => rfl
  panels := fun _ => rfl
  cores := fun _ => rfl
  flights := fun _ => rfl
  nextFlight := fun _ => rfl
  trackers := fun _ => rfl
  trkSaved := fun _ => rfl
  obs := fun _ => rfl
  windows := fun _ => rfl
  micros := fun _ => rfl
  sliceSums := fun _ => rfl
  slices := fun h => by rw [h] at h0; exact absurd h0 (by decide)
  stalledSlices := fun _ => rfl
  sideRecs := fun _ => rfl
  sideSums := fun _ => rfl
  masks := fun _ => rfl
  helds := fun _ => rfl
  sentTiles := fun _ => rfl
  updates := fun _ => rfl
  updDone := fun _ => rfl
  ratios := fun _ => rfl
  ratioSnap := fun _ => rfl
  epochs := fun _ => rfl
  openEpochs := fun _ => rfl
  arrivals := fun _ => rfl
  releases := fun _ => rfl
  votes := fun _ => rfl
  voteOut := fun _ => rfl
  forceArmed := fun _ => rfl
  fenceUsed := fun _ => rfl
  openTags := fun _ => rfl
  heldSets := fun _ => rfl
  queues := fun _ => rfl
  ports := fun _ => rfl
  requests := fun _ => rfl
  reqWait := fun _ => rfl
  routes := fun _ => rfl
  uplink := fun _ => rfl
  routeChange := fun _ => rfl
  routeHold := fun _ => rfl
  discTodo := fun _ => rfl
  discAsked := fun _ => rfl
  discLinks := fun _ => rfl
  discStarted := fun _ => rfl
  coldPorts := fun _ => rfl
  chans := fun _ => rfl
  groups := fun _ => rfl
  tree := fun _ => rfl
  attnSent := fun _ => rfl
  stewards := fun _ => rfl
  staging := fun _ => rfl
  recFifo := fun _ => rfl
  recLostMark := fun _ => rfl
  power := fun _ => rfl
  sec := fun _ => rfl
  i3c := fun _ => rfl
  jtag := fun _ => rfl
  pins := fun _ => rfl

theorem upd_coldPorts {m : Nat} {s : State} {x0} (h0 : m.testBit 579 = true) :
    Keeps m s { s with coldPorts := x0 } where
  pending := rfl
  reg := fun _ _ _ => rfl
  canon := id
  free := fun _ => rfl
  readback := fun _ => rfl
  status := fun _ => rfl
  latches := fun _ => rfl
  dram := fun _ => rfl
  tens := fun _ => rfl
  badPhys := fun _ => rfl
  badTens := fun _ => rfl
  pages := fun _ => rfl
  keptDescs := fun _ => rfl
  scrubBlock := fun _ => rfl
  load := fun _ => rfl
  secs := fun _ => rfl
  coreMap := fun _ => rfl
  links := fun _ => rfl
  devQueues := fun _ => rfl
  rules := fun _ => rfl
  rulesOn := fun _ => rfl
  rules0 := fun _ => rfl
  live := fun _ => rfl
  repair := fun _ => rfl
  modrec := fun _ => rfl
  panels := fun _ => rfl
  cores := fun _ => rfl
  flights := fun _ => rfl
  nextFlight := fun _ => rfl
  trackers := fun _ => rfl
  trkSaved := fun _ => rfl
  obs := fun _ => rfl
  windows := fun _ => rfl
  micros := fun _ => rfl
  sliceSums := fun _ => rfl
  slices := fun _ => rfl
  stalledSlices := fun _ => rfl
  sideRecs := fun _ => rfl
  sideSums := fun _ => rfl
  masks := fun _ => rfl
  helds := fun _ => rfl
  sentTiles := fun _ => rfl
  updates := fun _ => rfl
  updDone := fun _ => rfl
  ratios := fun _ => rfl
  ratioSnap := fun _ => rfl
  epochs := fun _ => rfl
  openEpochs := fun _ => rfl
  arrivals := fun _ => rfl
  releases := fun _ => rfl
  votes := fun _ => rfl
  voteOut := fun _ => rfl
  forceArmed := fun _ => rfl
  fenceUsed := fun _ => rfl
  openTags := fun _ => rfl
  heldSets := fun _ => rfl
  queues := fun _ => rfl
  ports := fun _ => rfl
  requests := fun _ => rfl
  reqWait := fun _ => rfl
  routes := fun _ => rfl
  uplink := fun _ => rfl
  routeChange := fun _ => rfl
  routeHold := fun _ => rfl
  discTodo := fun _ => rfl
  discAsked := fun _ => rfl
  discLinks := fun _ => rfl
  discStarted := fun _ => rfl
  coldPorts := fun h => by rw [h] at h0; exact absurd h0 (by decide)
  chans := fun _ => rfl
  groups := fun _ => rfl
  tree := fun _ => rfl
  attnSent := fun _ => rfl
  stewards := fun _ => rfl
  staging := fun _ => rfl
  recFifo := fun _ => rfl
  recLostMark := fun _ => rfl
  power := fun _ => rfl
  sec := fun _ => rfl
  i3c := fun _ => rfl
  jtag := fun _ => rfl
  pins := fun _ => rfl

theorem upd_sentTiles {m : Nat} {s : State} {x0} (h0 : m.testBit 552 = true) :
    Keeps m s { s with sentTiles := x0 } where
  pending := rfl
  reg := fun _ _ _ => rfl
  canon := id
  free := fun _ => rfl
  readback := fun _ => rfl
  status := fun _ => rfl
  latches := fun _ => rfl
  dram := fun _ => rfl
  tens := fun _ => rfl
  badPhys := fun _ => rfl
  badTens := fun _ => rfl
  pages := fun _ => rfl
  keptDescs := fun _ => rfl
  scrubBlock := fun _ => rfl
  load := fun _ => rfl
  secs := fun _ => rfl
  coreMap := fun _ => rfl
  links := fun _ => rfl
  devQueues := fun _ => rfl
  rules := fun _ => rfl
  rulesOn := fun _ => rfl
  rules0 := fun _ => rfl
  live := fun _ => rfl
  repair := fun _ => rfl
  modrec := fun _ => rfl
  panels := fun _ => rfl
  cores := fun _ => rfl
  flights := fun _ => rfl
  nextFlight := fun _ => rfl
  trackers := fun _ => rfl
  trkSaved := fun _ => rfl
  obs := fun _ => rfl
  windows := fun _ => rfl
  micros := fun _ => rfl
  sliceSums := fun _ => rfl
  slices := fun _ => rfl
  stalledSlices := fun _ => rfl
  sideRecs := fun _ => rfl
  sideSums := fun _ => rfl
  masks := fun _ => rfl
  helds := fun _ => rfl
  sentTiles := fun h => by rw [h] at h0; exact absurd h0 (by decide)
  updates := fun _ => rfl
  updDone := fun _ => rfl
  ratios := fun _ => rfl
  ratioSnap := fun _ => rfl
  epochs := fun _ => rfl
  openEpochs := fun _ => rfl
  arrivals := fun _ => rfl
  releases := fun _ => rfl
  votes := fun _ => rfl
  voteOut := fun _ => rfl
  forceArmed := fun _ => rfl
  fenceUsed := fun _ => rfl
  openTags := fun _ => rfl
  heldSets := fun _ => rfl
  queues := fun _ => rfl
  ports := fun _ => rfl
  requests := fun _ => rfl
  reqWait := fun _ => rfl
  routes := fun _ => rfl
  uplink := fun _ => rfl
  routeChange := fun _ => rfl
  routeHold := fun _ => rfl
  discTodo := fun _ => rfl
  discAsked := fun _ => rfl
  discLinks := fun _ => rfl
  discStarted := fun _ => rfl
  coldPorts := fun _ => rfl
  chans := fun _ => rfl
  groups := fun _ => rfl
  tree := fun _ => rfl
  attnSent := fun _ => rfl
  stewards := fun _ => rfl
  staging := fun _ => rfl
  recFifo := fun _ => rfl
  recLostMark := fun _ => rfl
  power := fun _ => rfl
  sec := fun _ => rfl
  i3c := fun _ => rfl
  jtag := fun _ => rfl
  pins := fun _ => rfl

theorem upd_secs {m : Nat} {s : State} {x0} (h0 : m.testBit 526 = true) :
    Keeps m s { s with secs := x0 } where
  pending := rfl
  reg := fun _ _ _ => rfl
  canon := id
  free := fun _ => rfl
  readback := fun _ => rfl
  status := fun _ => rfl
  latches := fun _ => rfl
  dram := fun _ => rfl
  tens := fun _ => rfl
  badPhys := fun _ => rfl
  badTens := fun _ => rfl
  pages := fun _ => rfl
  keptDescs := fun _ => rfl
  scrubBlock := fun _ => rfl
  load := fun _ => rfl
  secs := fun h => by rw [h] at h0; exact absurd h0 (by decide)
  coreMap := fun _ => rfl
  links := fun _ => rfl
  devQueues := fun _ => rfl
  rules := fun _ => rfl
  rulesOn := fun _ => rfl
  rules0 := fun _ => rfl
  live := fun _ => rfl
  repair := fun _ => rfl
  modrec := fun _ => rfl
  panels := fun _ => rfl
  cores := fun _ => rfl
  flights := fun _ => rfl
  nextFlight := fun _ => rfl
  trackers := fun _ => rfl
  trkSaved := fun _ => rfl
  obs := fun _ => rfl
  windows := fun _ => rfl
  micros := fun _ => rfl
  sliceSums := fun _ => rfl
  slices := fun _ => rfl
  stalledSlices := fun _ => rfl
  sideRecs := fun _ => rfl
  sideSums := fun _ => rfl
  masks := fun _ => rfl
  helds := fun _ => rfl
  sentTiles := fun _ => rfl
  updates := fun _ => rfl
  updDone := fun _ => rfl
  ratios := fun _ => rfl
  ratioSnap := fun _ => rfl
  epochs := fun _ => rfl
  openEpochs := fun _ => rfl
  arrivals := fun _ => rfl
  releases := fun _ => rfl
  votes := fun _ => rfl
  voteOut := fun _ => rfl
  forceArmed := fun _ => rfl
  fenceUsed := fun _ => rfl
  openTags := fun _ => rfl
  heldSets := fun _ => rfl
  queues := fun _ => rfl
  ports := fun _ => rfl
  requests := fun _ => rfl
  reqWait := fun _ => rfl
  routes := fun _ => rfl
  uplink := fun _ => rfl
  routeChange := fun _ => rfl
  routeHold := fun _ => rfl
  discTodo := fun _ => rfl
  discAsked := fun _ => rfl
  discLinks := fun _ => rfl
  discStarted := fun _ => rfl
  coldPorts := fun _ => rfl
  chans := fun _ => rfl
  groups := fun _ => rfl
  tree := fun _ => rfl
  attnSent := fun _ => rfl
  stewards := fun _ => rfl
  staging := fun _ => rfl
  recFifo := fun _ => rfl
  recLostMark := fun _ => rfl
  power := fun _ => rfl
  sec := fun _ => rfl
  i3c := fun _ => rfl
  jtag := fun _ => rfl
  pins := fun _ => rfl

theorem upd_secs_coreMap_links_devQueues_rules0_live {m : Nat} {s : State} {x0 x1 x2 x3 x4 x5} (h0 : m.testBit 526 = true) (h1 : m.testBit 527 = true) (h2 : m.testBit 528 = true) (h3 : m.testBit 529 = true) (h4 : m.testBit 532 = true) (h5 : m.testBit 533 = true) :
    Keeps m s { s with secs := x0, coreMap := x1, links := x2, devQueues := x3, rules0 := x4, live := x5 } where
  pending := rfl
  reg := fun _ _ _ => rfl
  canon := id
  free := fun _ => rfl
  readback := fun _ => rfl
  status := fun _ => rfl
  latches := fun _ => rfl
  dram := fun _ => rfl
  tens := fun _ => rfl
  badPhys := fun _ => rfl
  badTens := fun _ => rfl
  pages := fun _ => rfl
  keptDescs := fun _ => rfl
  scrubBlock := fun _ => rfl
  load := fun _ => rfl
  secs := fun h => by rw [h] at h0; exact absurd h0 (by decide)
  coreMap := fun h => by rw [h] at h1; exact absurd h1 (by decide)
  links := fun h => by rw [h] at h2; exact absurd h2 (by decide)
  devQueues := fun h => by rw [h] at h3; exact absurd h3 (by decide)
  rules := fun _ => rfl
  rulesOn := fun _ => rfl
  rules0 := fun h => by rw [h] at h4; exact absurd h4 (by decide)
  live := fun h => by rw [h] at h5; exact absurd h5 (by decide)
  repair := fun _ => rfl
  modrec := fun _ => rfl
  panels := fun _ => rfl
  cores := fun _ => rfl
  flights := fun _ => rfl
  nextFlight := fun _ => rfl
  trackers := fun _ => rfl
  trkSaved := fun _ => rfl
  obs := fun _ => rfl
  windows := fun _ => rfl
  micros := fun _ => rfl
  sliceSums := fun _ => rfl
  slices := fun _ => rfl
  stalledSlices := fun _ => rfl
  sideRecs := fun _ => rfl
  sideSums := fun _ => rfl
  masks := fun _ => rfl
  helds := fun _ => rfl
  sentTiles := fun _ => rfl
  updates := fun _ => rfl
  updDone := fun _ => rfl
  ratios := fun _ => rfl
  ratioSnap := fun _ => rfl
  epochs := fun _ => rfl
  openEpochs := fun _ => rfl
  arrivals := fun _ => rfl
  releases := fun _ => rfl
  votes := fun _ => rfl
  voteOut := fun _ => rfl
  forceArmed := fun _ => rfl
  fenceUsed := fun _ => rfl
  openTags := fun _ => rfl
  heldSets := fun _ => rfl
  queues := fun _ => rfl
  ports := fun _ => rfl
  requests := fun _ => rfl
  reqWait := fun _ => rfl
  routes := fun _ => rfl
  uplink := fun _ => rfl
  routeChange := fun _ => rfl
  routeHold := fun _ => rfl
  discTodo := fun _ => rfl
  discAsked := fun _ => rfl
  discLinks := fun _ => rfl
  discStarted := fun _ => rfl
  coldPorts := fun _ => rfl
  chans := fun _ => rfl
  groups := fun _ => rfl
  tree := fun _ => rfl
  attnSent := fun _ => rfl
  stewards := fun _ => rfl
  staging := fun _ => rfl
  recFifo := fun _ => rfl
  recLostMark := fun _ => rfl
  power := fun _ => rfl
  sec := fun _ => rfl
  i3c := fun _ => rfl
  jtag := fun _ => rfl
  pins := fun _ => rfl

theorem upd_readback {m : Nat} {s : State} {x0} (h0 : m.testBit 514 = true) :
    Keeps m s { s with readback := x0 } where
  pending := rfl
  reg := fun _ _ _ => rfl
  canon := id
  free := fun _ => rfl
  readback := fun h => by rw [h] at h0; exact absurd h0 (by decide)
  status := fun _ => rfl
  latches := fun _ => rfl
  dram := fun _ => rfl
  tens := fun _ => rfl
  badPhys := fun _ => rfl
  badTens := fun _ => rfl
  pages := fun _ => rfl
  keptDescs := fun _ => rfl
  scrubBlock := fun _ => rfl
  load := fun _ => rfl
  secs := fun _ => rfl
  coreMap := fun _ => rfl
  links := fun _ => rfl
  devQueues := fun _ => rfl
  rules := fun _ => rfl
  rulesOn := fun _ => rfl
  rules0 := fun _ => rfl
  live := fun _ => rfl
  repair := fun _ => rfl
  modrec := fun _ => rfl
  panels := fun _ => rfl
  cores := fun _ => rfl
  flights := fun _ => rfl
  nextFlight := fun _ => rfl
  trackers := fun _ => rfl
  trkSaved := fun _ => rfl
  obs := fun _ => rfl
  windows := fun _ => rfl
  micros := fun _ => rfl
  sliceSums := fun _ => rfl
  slices := fun _ => rfl
  stalledSlices := fun _ => rfl
  sideRecs := fun _ => rfl
  sideSums := fun _ => rfl
  masks := fun _ => rfl
  helds := fun _ => rfl
  sentTiles := fun _ => rfl
  updates := fun _ => rfl
  updDone := fun _ => rfl
  ratios := fun _ => rfl
  ratioSnap := fun _ => rfl
  epochs := fun _ => rfl
  openEpochs := fun _ => rfl
  arrivals := fun _ => rfl
  releases := fun _ => rfl
  votes := fun _ => rfl
  voteOut := fun _ => rfl
  forceArmed := fun _ => rfl
  fenceUsed := fun _ => rfl
  openTags := fun _ => rfl
  heldSets := fun _ => rfl
  queues := fun _ => rfl
  ports := fun _ => rfl
  requests := fun _ => rfl
  reqWait := fun _ => rfl
  routes := fun _ => rfl
  uplink := fun _ => rfl
  routeChange := fun _ => rfl
  routeHold := fun _ => rfl
  discTodo := fun _ => rfl
  discAsked := fun _ => rfl
  discLinks := fun _ => rfl
  discStarted := fun _ => rfl
  coldPorts := fun _ => rfl
  chans := fun _ => rfl
  groups := fun _ => rfl
  tree := fun _ => rfl
  attnSent := fun _ => rfl
  stewards := fun _ => rfl
  staging := fun _ => rfl
  recFifo := fun _ => rfl
  recLostMark := fun _ => rfl
  power := fun _ => rfl
  sec := fun _ => rfl
  i3c := fun _ => rfl
  jtag := fun _ => rfl
  pins := fun _ => rfl

theorem upd_fenceUsed {m : Nat} {s : State} {x0} (h0 : m.testBit 564 = true) :
    Keeps m s { s with fenceUsed := x0 } where
  pending := rfl
  reg := fun _ _ _ => rfl
  canon := id
  free := fun _ => rfl
  readback := fun _ => rfl
  status := fun _ => rfl
  latches := fun _ => rfl
  dram := fun _ => rfl
  tens := fun _ => rfl
  badPhys := fun _ => rfl
  badTens := fun _ => rfl
  pages := fun _ => rfl
  keptDescs := fun _ => rfl
  scrubBlock := fun _ => rfl
  load := fun _ => rfl
  secs := fun _ => rfl
  coreMap := fun _ => rfl
  links := fun _ => rfl
  devQueues := fun _ => rfl
  rules := fun _ => rfl
  rulesOn := fun _ => rfl
  rules0 := fun _ => rfl
  live := fun _ => rfl
  repair := fun _ => rfl
  modrec := fun _ => rfl
  panels := fun _ => rfl
  cores := fun _ => rfl
  flights := fun _ => rfl
  nextFlight := fun _ => rfl
  trackers := fun _ => rfl
  trkSaved := fun _ => rfl
  obs := fun _ => rfl
  windows := fun _ => rfl
  micros := fun _ => rfl
  sliceSums := fun _ => rfl
  slices := fun _ => rfl
  stalledSlices := fun _ => rfl
  sideRecs := fun _ => rfl
  sideSums := fun _ => rfl
  masks := fun _ => rfl
  helds := fun _ => rfl
  sentTiles := fun _ => rfl
  updates := fun _ => rfl
  updDone := fun _ => rfl
  ratios := fun _ => rfl
  ratioSnap := fun _ => rfl
  epochs := fun _ => rfl
  openEpochs := fun _ => rfl
  arrivals := fun _ => rfl
  releases := fun _ => rfl
  votes := fun _ => rfl
  voteOut := fun _ => rfl
  forceArmed := fun _ => rfl
  fenceUsed := fun h => by rw [h] at h0; exact absurd h0 (by decide)
  openTags := fun _ => rfl
  heldSets := fun _ => rfl
  queues := fun _ => rfl
  ports := fun _ => rfl
  requests := fun _ => rfl
  reqWait := fun _ => rfl
  routes := fun _ => rfl
  uplink := fun _ => rfl
  routeChange := fun _ => rfl
  routeHold := fun _ => rfl
  discTodo := fun _ => rfl
  discAsked := fun _ => rfl
  discLinks := fun _ => rfl
  discStarted := fun _ => rfl
  coldPorts := fun _ => rfl
  chans := fun _ => rfl
  groups := fun _ => rfl
  tree := fun _ => rfl
  attnSent := fun _ => rfl
  stewards := fun _ => rfl
  staging := fun _ => rfl
  recFifo := fun _ => rfl
  recLostMark := fun _ => rfl
  power := fun _ => rfl
  sec := fun _ => rfl
  i3c := fun _ => rfl
  jtag := fun _ => rfl
  pins := fun _ => rfl

theorem upd_stalledSlices {m : Nat} {s : State} {x0} (h0 : m.testBit 547 = true) :
    Keeps m s { s with stalledSlices := x0 } where
  pending := rfl
  reg := fun _ _ _ => rfl
  canon := id
  free := fun _ => rfl
  readback := fun _ => rfl
  status := fun _ => rfl
  latches := fun _ => rfl
  dram := fun _ => rfl
  tens := fun _ => rfl
  badPhys := fun _ => rfl
  badTens := fun _ => rfl
  pages := fun _ => rfl
  keptDescs := fun _ => rfl
  scrubBlock := fun _ => rfl
  load := fun _ => rfl
  secs := fun _ => rfl
  coreMap := fun _ => rfl
  links := fun _ => rfl
  devQueues := fun _ => rfl
  rules := fun _ => rfl
  rulesOn := fun _ => rfl
  rules0 := fun _ => rfl
  live := fun _ => rfl
  repair := fun _ => rfl
  modrec := fun _ => rfl
  panels := fun _ => rfl
  cores := fun _ => rfl
  flights := fun _ => rfl
  nextFlight := fun _ => rfl
  trackers := fun _ => rfl
  trkSaved := fun _ => rfl
  obs := fun _ => rfl
  windows := fun _ => rfl
  micros := fun _ => rfl
  sliceSums := fun _ => rfl
  slices := fun _ => rfl
  stalledSlices := fun h => by rw [h] at h0; exact absurd h0 (by decide)
  sideRecs := fun _ => rfl
  sideSums := fun _ => rfl
  masks := fun _ => rfl
  helds := fun _ => rfl
  sentTiles := fun _ => rfl
  updates := fun _ => rfl
  updDone := fun _ => rfl
  ratios := fun _ => rfl
  ratioSnap := fun _ => rfl
  epochs := fun _ => rfl
  openEpochs := fun _ => rfl
  arrivals := fun _ => rfl
  releases := fun _ => rfl
  votes := fun _ => rfl
  voteOut := fun _ => rfl
  forceArmed := fun _ => rfl
  fenceUsed := fun _ => rfl
  openTags := fun _ => rfl
  heldSets := fun _ => rfl
  queues := fun _ => rfl
  ports := fun _ => rfl
  requests := fun _ => rfl
  reqWait := fun _ => rfl
  routes := fun _ => rfl
  uplink := fun _ => rfl
  routeChange := fun _ => rfl
  routeHold := fun _ => rfl
  discTodo := fun _ => rfl
  discAsked := fun _ => rfl
  discLinks := fun _ => rfl
  discStarted := fun _ => rfl
  coldPorts := fun _ => rfl
  chans := fun _ => rfl
  groups := fun _ => rfl
  tree := fun _ => rfl
  attnSent := fun _ => rfl
  stewards := fun _ => rfl
  staging := fun _ => rfl
  recFifo := fun _ => rfl
  recLostMark := fun _ => rfl
  power := fun _ => rfl
  sec := fun _ => rfl
  i3c := fun _ => rfl
  jtag := fun _ => rfl
  pins := fun _ => rfl

theorem upd_repair {m : Nat} {s : State} {x0} (h0 : m.testBit 534 = true) :
    Keeps m s { s with repair := x0 } where
  pending := rfl
  reg := fun _ _ _ => rfl
  canon := id
  free := fun _ => rfl
  readback := fun _ => rfl
  status := fun _ => rfl
  latches := fun _ => rfl
  dram := fun _ => rfl
  tens := fun _ => rfl
  badPhys := fun _ => rfl
  badTens := fun _ => rfl
  pages := fun _ => rfl
  keptDescs := fun _ => rfl
  scrubBlock := fun _ => rfl
  load := fun _ => rfl
  secs := fun _ => rfl
  coreMap := fun _ => rfl
  links := fun _ => rfl
  devQueues := fun _ => rfl
  rules := fun _ => rfl
  rulesOn := fun _ => rfl
  rules0 := fun _ => rfl
  live := fun _ => rfl
  repair := fun h => by rw [h] at h0; exact absurd h0 (by decide)
  modrec := fun _ => rfl
  panels := fun _ => rfl
  cores := fun _ => rfl
  flights := fun _ => rfl
  nextFlight := fun _ => rfl
  trackers := fun _ => rfl
  trkSaved := fun _ => rfl
  obs := fun _ => rfl
  windows := fun _ => rfl
  micros := fun _ => rfl
  sliceSums := fun _ => rfl
  slices := fun _ => rfl
  stalledSlices := fun _ => rfl
  sideRecs := fun _ => rfl
  sideSums := fun _ => rfl
  masks := fun _ => rfl
  helds := fun _ => rfl
  sentTiles := fun _ => rfl
  updates := fun _ => rfl
  updDone := fun _ => rfl
  ratios := fun _ => rfl
  ratioSnap := fun _ => rfl
  epochs := fun _ => rfl
  openEpochs := fun _ => rfl
  arrivals := fun _ => rfl
  releases := fun _ => rfl
  votes := fun _ => rfl
  voteOut := fun _ => rfl
  forceArmed := fun _ => rfl
  fenceUsed := fun _ => rfl
  openTags := fun _ => rfl
  heldSets := fun _ => rfl
  queues := fun _ => rfl
  ports := fun _ => rfl
  requests := fun _ => rfl
  reqWait := fun _ => rfl
  routes := fun _ => rfl
  uplink := fun _ => rfl
  routeChange := fun _ => rfl
  routeHold := fun _ => rfl
  discTodo := fun _ => rfl
  discAsked := fun _ => rfl
  discLinks := fun _ => rfl
  discStarted := fun _ => rfl
  coldPorts := fun _ => rfl
  chans := fun _ => rfl
  groups := fun _ => rfl
  tree := fun _ => rfl
  attnSent := fun _ => rfl
  stewards := fun _ => rfl
  staging := fun _ => rfl
  recFifo := fun _ => rfl
  recLostMark := fun _ => rfl
  power := fun _ => rfl
  sec := fun _ => rfl
  i3c := fun _ => rfl
  jtag := fun _ => rfl
  pins := fun _ => rfl

theorem upd_modrec {m : Nat} {s : State} {x0} (h0 : m.testBit 535 = true) :
    Keeps m s { s with modrec := x0 } where
  pending := rfl
  reg := fun _ _ _ => rfl
  canon := id
  free := fun _ => rfl
  readback := fun _ => rfl
  status := fun _ => rfl
  latches := fun _ => rfl
  dram := fun _ => rfl
  tens := fun _ => rfl
  badPhys := fun _ => rfl
  badTens := fun _ => rfl
  pages := fun _ => rfl
  keptDescs := fun _ => rfl
  scrubBlock := fun _ => rfl
  load := fun _ => rfl
  secs := fun _ => rfl
  coreMap := fun _ => rfl
  links := fun _ => rfl
  devQueues := fun _ => rfl
  rules := fun _ => rfl
  rulesOn := fun _ => rfl
  rules0 := fun _ => rfl
  live := fun _ => rfl
  repair := fun _ => rfl
  modrec := fun h => by rw [h] at h0; exact absurd h0 (by decide)
  panels := fun _ => rfl
  cores := fun _ => rfl
  flights := fun _ => rfl
  nextFlight := fun _ => rfl
  trackers := fun _ => rfl
  trkSaved := fun _ => rfl
  obs := fun _ => rfl
  windows := fun _ => rfl
  micros := fun _ => rfl
  sliceSums := fun _ => rfl
  slices := fun _ => rfl
  stalledSlices := fun _ => rfl
  sideRecs := fun _ => rfl
  sideSums := fun _ => rfl
  masks := fun _ => rfl
  helds := fun _ => rfl
  sentTiles := fun _ => rfl
  updates := fun _ => rfl
  updDone := fun _ => rfl
  ratios := fun _ => rfl
  ratioSnap := fun _ => rfl
  epochs := fun _ => rfl
  openEpochs := fun _ => rfl
  arrivals := fun _ => rfl
  releases := fun _ => rfl
  votes := fun _ => rfl
  voteOut := fun _ => rfl
  forceArmed := fun _ => rfl
  fenceUsed := fun _ => rfl
  openTags := fun _ => rfl
  heldSets := fun _ => rfl
  queues := fun _ => rfl
  ports := fun _ => rfl
  requests := fun _ => rfl
  reqWait := fun _ => rfl
  routes := fun _ => rfl
  uplink := fun _ => rfl
  routeChange := fun _ => rfl
  routeHold := fun _ => rfl
  discTodo := fun _ => rfl
  discAsked := fun _ => rfl
  discLinks := fun _ => rfl
  discStarted := fun _ => rfl
  coldPorts := fun _ => rfl
  chans := fun _ => rfl
  groups := fun _ => rfl
  tree := fun _ => rfl
  attnSent := fun _ => rfl
  stewards := fun _ => rfl
  staging := fun _ => rfl
  recFifo := fun _ => rfl
  recLostMark := fun _ => rfl
  power := fun _ => rfl
  sec := fun _ => rfl
  i3c := fun _ => rfl
  jtag := fun _ => rfl
  pins := fun _ => rfl

theorem upd_jtag_pins {m : Nat} {s : State} {x0 x1} (h0 : m.testBit 591 = true) (h1 : m.testBit 592 = true) :
    Keeps m s { s with jtag := x0, pins := x1 } where
  pending := rfl
  reg := fun _ _ _ => rfl
  canon := id
  free := fun _ => rfl
  readback := fun _ => rfl
  status := fun _ => rfl
  latches := fun _ => rfl
  dram := fun _ => rfl
  tens := fun _ => rfl
  badPhys := fun _ => rfl
  badTens := fun _ => rfl
  pages := fun _ => rfl
  keptDescs := fun _ => rfl
  scrubBlock := fun _ => rfl
  load := fun _ => rfl
  secs := fun _ => rfl
  coreMap := fun _ => rfl
  links := fun _ => rfl
  devQueues := fun _ => rfl
  rules := fun _ => rfl
  rulesOn := fun _ => rfl
  rules0 := fun _ => rfl
  live := fun _ => rfl
  repair := fun _ => rfl
  modrec := fun _ => rfl
  panels := fun _ => rfl
  cores := fun _ => rfl
  flights := fun _ => rfl
  nextFlight := fun _ => rfl
  trackers := fun _ => rfl
  trkSaved := fun _ => rfl
  obs := fun _ => rfl
  windows := fun _ => rfl
  micros := fun _ => rfl
  sliceSums := fun _ => rfl
  slices := fun _ => rfl
  stalledSlices := fun _ => rfl
  sideRecs := fun _ => rfl
  sideSums := fun _ => rfl
  masks := fun _ => rfl
  helds := fun _ => rfl
  sentTiles := fun _ => rfl
  updates := fun _ => rfl
  updDone := fun _ => rfl
  ratios := fun _ => rfl
  ratioSnap := fun _ => rfl
  epochs := fun _ => rfl
  openEpochs := fun _ => rfl
  arrivals := fun _ => rfl
  releases := fun _ => rfl
  votes := fun _ => rfl
  voteOut := fun _ => rfl
  forceArmed := fun _ => rfl
  fenceUsed := fun _ => rfl
  openTags := fun _ => rfl
  heldSets := fun _ => rfl
  queues := fun _ => rfl
  ports := fun _ => rfl
  requests := fun _ => rfl
  reqWait := fun _ => rfl
  routes := fun _ => rfl
  uplink := fun _ => rfl
  routeChange := fun _ => rfl
  routeHold := fun _ => rfl
  discTodo := fun _ => rfl
  discAsked := fun _ => rfl
  discLinks := fun _ => rfl
  discStarted := fun _ => rfl
  coldPorts := fun _ => rfl
  chans := fun _ => rfl
  groups := fun _ => rfl
  tree := fun _ => rfl
  attnSent := fun _ => rfl
  stewards := fun _ => rfl
  staging := fun _ => rfl
  recFifo := fun _ => rfl
  recLostMark := fun _ => rfl
  power := fun _ => rfl
  sec := fun _ => rfl
  i3c := fun _ => rfl
  jtag := fun h => by rw [h] at h0; exact absurd h0 (by decide)
  pins := fun h => by rw [h] at h1; exact absurd h1 (by decide)

theorem upd_tens_badTens {m : Nat} {s : State} {x0 x1} (h0 : m.testBit 519 = true) (h1 : m.testBit 521 = true) (c : canonical s → canonical { s with tens := x0, badTens := x1 }) :
    Keeps m s { s with tens := x0, badTens := x1 } where
  pending := rfl
  reg := fun _ _ _ => rfl
  canon := c
  free := fun _ => rfl
  readback := fun _ => rfl
  status := fun _ => rfl
  latches := fun _ => rfl
  dram := fun _ => rfl
  tens := fun h => by rw [h] at h0; exact absurd h0 (by decide)
  badPhys := fun _ => rfl
  badTens := fun h => by rw [h] at h1; exact absurd h1 (by decide)
  pages := fun _ => rfl
  keptDescs := fun _ => rfl
  scrubBlock := fun _ => rfl
  load := fun _ => rfl
  secs := fun _ => rfl
  coreMap := fun _ => rfl
  links := fun _ => rfl
  devQueues := fun _ => rfl
  rules := fun _ => rfl
  rulesOn := fun _ => rfl
  rules0 := fun _ => rfl
  live := fun _ => rfl
  repair := fun _ => rfl
  modrec := fun _ => rfl
  panels := fun _ => rfl
  cores := fun _ => rfl
  flights := fun _ => rfl
  nextFlight := fun _ => rfl
  trackers := fun _ => rfl
  trkSaved := fun _ => rfl
  obs := fun _ => rfl
  windows := fun _ => rfl
  micros := fun _ => rfl
  sliceSums := fun _ => rfl
  slices := fun _ => rfl
  stalledSlices := fun _ => rfl
  sideRecs := fun _ => rfl
  sideSums := fun _ => rfl
  masks := fun _ => rfl
  helds := fun _ => rfl
  sentTiles := fun _ => rfl
  updates := fun _ => rfl
  updDone := fun _ => rfl
  ratios := fun _ => rfl
  ratioSnap := fun _ => rfl
  epochs := fun _ => rfl
  openEpochs := fun _ => rfl
  arrivals := fun _ => rfl
  releases := fun _ => rfl
  votes := fun _ => rfl
  voteOut := fun _ => rfl
  forceArmed := fun _ => rfl
  fenceUsed := fun _ => rfl
  openTags := fun _ => rfl
  heldSets := fun _ => rfl
  queues := fun _ => rfl
  ports := fun _ => rfl
  requests := fun _ => rfl
  reqWait := fun _ => rfl
  routes := fun _ => rfl
  uplink := fun _ => rfl
  routeChange := fun _ => rfl
  routeHold := fun _ => rfl
  discTodo := fun _ => rfl
  discAsked := fun _ => rfl
  discLinks := fun _ => rfl
  discStarted := fun _ => rfl
  coldPorts := fun _ => rfl
  chans := fun _ => rfl
  groups := fun _ => rfl
  tree := fun _ => rfl
  attnSent := fun _ => rfl
  stewards := fun _ => rfl
  staging := fun _ => rfl
  recFifo := fun _ => rfl
  recLostMark := fun _ => rfl
  power := fun _ => rfl
  sec := fun _ => rfl
  i3c := fun _ => rfl
  jtag := fun _ => rfl
  pins := fun _ => rfl

theorem upd_helds {m : Nat} {s : State} {x0} (h0 : m.testBit 551 = true) :
    Keeps m s { s with helds := x0 } where
  pending := rfl
  reg := fun _ _ _ => rfl
  canon := id
  free := fun _ => rfl
  readback := fun _ => rfl
  status := fun _ => rfl
  latches := fun _ => rfl
  dram := fun _ => rfl
  tens := fun _ => rfl
  badPhys := fun _ => rfl
  badTens := fun _ => rfl
  pages := fun _ => rfl
  keptDescs := fun _ => rfl
  scrubBlock := fun _ => rfl
  load := fun _ => rfl
  secs := fun _ => rfl
  coreMap := fun _ => rfl
  links := fun _ => rfl
  devQueues := fun _ => rfl
  rules := fun _ => rfl
  rulesOn := fun _ => rfl
  rules0 := fun _ => rfl
  live := fun _ => rfl
  repair := fun _ => rfl
  modrec := fun _ => rfl
  panels := fun _ => rfl
  cores := fun _ => rfl
  flights := fun _ => rfl
  nextFlight := fun _ => rfl
  trackers := fun _ => rfl
  trkSaved := fun _ => rfl
  obs := fun _ => rfl
  windows := fun _ => rfl
  micros := fun _ => rfl
  sliceSums := fun _ => rfl
  slices := fun _ => rfl
  stalledSlices := fun _ => rfl
  sideRecs := fun _ => rfl
  sideSums := fun _ => rfl
  masks := fun _ => rfl
  helds := fun h => by rw [h] at h0; exact absurd h0 (by decide)
  sentTiles := fun _ => rfl
  updates := fun _ => rfl
  updDone := fun _ => rfl
  ratios := fun _ => rfl
  ratioSnap := fun _ => rfl
  epochs := fun _ => rfl
  openEpochs := fun _ => rfl
  arrivals := fun _ => rfl
  releases := fun _ => rfl
  votes := fun _ => rfl
  voteOut := fun _ => rfl
  forceArmed := fun _ => rfl
  fenceUsed := fun _ => rfl
  openTags := fun _ => rfl
  heldSets := fun _ => rfl
  queues := fun _ => rfl
  ports := fun _ => rfl
  requests := fun _ => rfl
  reqWait := fun _ => rfl
  routes := fun _ => rfl
  uplink := fun _ => rfl
  routeChange := fun _ => rfl
  routeHold := fun _ => rfl
  discTodo := fun _ => rfl
  discAsked := fun _ => rfl
  discLinks := fun _ => rfl
  discStarted := fun _ => rfl
  coldPorts := fun _ => rfl
  chans := fun _ => rfl
  groups := fun _ => rfl
  tree := fun _ => rfl
  attnSent := fun _ => rfl
  stewards := fun _ => rfl
  staging := fun _ => rfl
  recFifo := fun _ => rfl
  recLostMark := fun _ => rfl
  power := fun _ => rfl
  sec := fun _ => rfl
  i3c := fun _ => rfl
  jtag := fun _ => rfl
  pins := fun _ => rfl

theorem upd_recLostMark {m : Nat} {s : State} {x0} (h0 : m.testBit 587 = true) :
    Keeps m s { s with recLostMark := x0 } where
  pending := rfl
  reg := fun _ _ _ => rfl
  canon := id
  free := fun _ => rfl
  readback := fun _ => rfl
  status := fun _ => rfl
  latches := fun _ => rfl
  dram := fun _ => rfl
  tens := fun _ => rfl
  badPhys := fun _ => rfl
  badTens := fun _ => rfl
  pages := fun _ => rfl
  keptDescs := fun _ => rfl
  scrubBlock := fun _ => rfl
  load := fun _ => rfl
  secs := fun _ => rfl
  coreMap := fun _ => rfl
  links := fun _ => rfl
  devQueues := fun _ => rfl
  rules := fun _ => rfl
  rulesOn := fun _ => rfl
  rules0 := fun _ => rfl
  live := fun _ => rfl
  repair := fun _ => rfl
  modrec := fun _ => rfl
  panels := fun _ => rfl
  cores := fun _ => rfl
  flights := fun _ => rfl
  nextFlight := fun _ => rfl
  trackers := fun _ => rfl
  trkSaved := fun _ => rfl
  obs := fun _ => rfl
  windows := fun _ => rfl
  micros := fun _ => rfl
  sliceSums := fun _ => rfl
  slices := fun _ => rfl
  stalledSlices := fun _ => rfl
  sideRecs := fun _ => rfl
  sideSums := fun _ => rfl
  masks := fun _ => rfl
  helds := fun _ => rfl
  sentTiles := fun _ => rfl
  updates := fun _ => rfl
  updDone := fun _ => rfl
  ratios := fun _ => rfl
  ratioSnap := fun _ => rfl
  epochs := fun _ => rfl
  openEpochs := fun _ => rfl
  arrivals := fun _ => rfl
  releases := fun _ => rfl
  votes := fun _ => rfl
  voteOut := fun _ => rfl
  forceArmed := fun _ => rfl
  fenceUsed := fun _ => rfl
  openTags := fun _ => rfl
  heldSets := fun _ => rfl
  queues := fun _ => rfl
  ports := fun _ => rfl
  requests := fun _ => rfl
  reqWait := fun _ => rfl
  routes := fun _ => rfl
  uplink := fun _ => rfl
  routeChange := fun _ => rfl
  routeHold := fun _ => rfl
  discTodo := fun _ => rfl
  discAsked := fun _ => rfl
  discLinks := fun _ => rfl
  discStarted := fun _ => rfl
  coldPorts := fun _ => rfl
  chans := fun _ => rfl
  groups := fun _ => rfl
  tree := fun _ => rfl
  attnSent := fun _ => rfl
  stewards := fun _ => rfl
  staging := fun _ => rfl
  recFifo := fun _ => rfl
  recLostMark := fun h => by rw [h] at h0; exact absurd h0 (by decide)
  power := fun _ => rfl
  sec := fun _ => rfl
  i3c := fun _ => rfl
  jtag := fun _ => rfl
  pins := fun _ => rfl

theorem upd_staging {m : Nat} {s : State} {x0} (h0 : m.testBit 585 = true) :
    Keeps m s { s with staging := x0 } where
  pending := rfl
  reg := fun _ _ _ => rfl
  canon := id
  free := fun _ => rfl
  readback := fun _ => rfl
  status := fun _ => rfl
  latches := fun _ => rfl
  dram := fun _ => rfl
  tens := fun _ => rfl
  badPhys := fun _ => rfl
  badTens := fun _ => rfl
  pages := fun _ => rfl
  keptDescs := fun _ => rfl
  scrubBlock := fun _ => rfl
  load := fun _ => rfl
  secs := fun _ => rfl
  coreMap := fun _ => rfl
  links := fun _ => rfl
  devQueues := fun _ => rfl
  rules := fun _ => rfl
  rulesOn := fun _ => rfl
  rules0 := fun _ => rfl
  live := fun _ => rfl
  repair := fun _ => rfl
  modrec := fun _ => rfl
  panels := fun _ => rfl
  cores := fun _ => rfl
  flights := fun _ => rfl
  nextFlight := fun _ => rfl
  trackers := fun _ => rfl
  trkSaved := fun _ => rfl
  obs := fun _ => rfl
  windows := fun _ => rfl
  micros := fun _ => rfl
  sliceSums := fun _ => rfl
  slices := fun _ => rfl
  stalledSlices := fun _ => rfl
  sideRecs := fun _ => rfl
  sideSums := fun _ => rfl
  masks := fun _ => rfl
  helds := fun _ => rfl
  sentTiles := fun _ => rfl
  updates := fun _ => rfl
  updDone := fun _ => rfl
  ratios := fun _ => rfl
  ratioSnap := fun _ => rfl
  epochs := fun _ => rfl
  openEpochs := fun _ => rfl
  arrivals := fun _ => rfl
  releases := fun _ => rfl
  votes := fun _ => rfl
  voteOut := fun _ => rfl
  forceArmed := fun _ => rfl
  fenceUsed := fun _ => rfl
  openTags := fun _ => rfl
  heldSets := fun _ => rfl
  queues := fun _ => rfl
  ports := fun _ => rfl
  requests := fun _ => rfl
  reqWait := fun _ => rfl
  routes := fun _ => rfl
  uplink := fun _ => rfl
  routeChange := fun _ => rfl
  routeHold := fun _ => rfl
  discTodo := fun _ => rfl
  discAsked := fun _ => rfl
  discLinks := fun _ => rfl
  discStarted := fun _ => rfl
  coldPorts := fun _ => rfl
  chans := fun _ => rfl
  groups := fun _ => rfl
  tree := fun _ => rfl
  attnSent := fun _ => rfl
  stewards := fun _ => rfl
  staging := fun h => by rw [h] at h0; exact absurd h0 (by decide)
  recFifo := fun _ => rfl
  recLostMark := fun _ => rfl
  power := fun _ => rfl
  sec := fun _ => rfl
  i3c := fun _ => rfl
  jtag := fun _ => rfl
  pins := fun _ => rfl

theorem upd_groups_tree {m : Nat} {s : State} {x0 x1} (h0 : m.testBit 581 = true) (h1 : m.testBit 582 = true) :
    Keeps m s { s with groups := x0, tree := x1 } where
  pending := rfl
  reg := fun _ _ _ => rfl
  canon := id
  free := fun _ => rfl
  readback := fun _ => rfl
  status := fun _ => rfl
  latches := fun _ => rfl
  dram := fun _ => rfl
  tens := fun _ => rfl
  badPhys := fun _ => rfl
  badTens := fun _ => rfl
  pages := fun _ => rfl
  keptDescs := fun _ => rfl
  scrubBlock := fun _ => rfl
  load := fun _ => rfl
  secs := fun _ => rfl
  coreMap := fun _ => rfl
  links := fun _ => rfl
  devQueues := fun _ => rfl
  rules := fun _ => rfl
  rulesOn := fun _ => rfl
  rules0 := fun _ => rfl
  live := fun _ => rfl
  repair := fun _ => rfl
  modrec := fun _ => rfl
  panels := fun _ => rfl
  cores := fun _ => rfl
  flights := fun _ => rfl
  nextFlight := fun _ => rfl
  trackers := fun _ => rfl
  trkSaved := fun _ => rfl
  obs := fun _ => rfl
  windows := fun _ => rfl
  micros := fun _ => rfl
  sliceSums := fun _ => rfl
  slices := fun _ => rfl
  stalledSlices := fun _ => rfl
  sideRecs := fun _ => rfl
  sideSums := fun _ => rfl
  masks := fun _ => rfl
  helds := fun _ => rfl
  sentTiles := fun _ => rfl
  updates := fun _ => rfl
  updDone := fun _ => rfl
  ratios := fun _ => rfl
  ratioSnap := fun _ => rfl
  epochs := fun _ => rfl
  openEpochs := fun _ => rfl
  arrivals := fun _ => rfl
  releases := fun _ => rfl
  votes := fun _ => rfl
  voteOut := fun _ => rfl
  forceArmed := fun _ => rfl
  fenceUsed := fun _ => rfl
  openTags := fun _ => rfl
  heldSets := fun _ => rfl
  queues := fun _ => rfl
  ports := fun _ => rfl
  requests := fun _ => rfl
  reqWait := fun _ => rfl
  routes := fun _ => rfl
  uplink := fun _ => rfl
  routeChange := fun _ => rfl
  routeHold := fun _ => rfl
  discTodo := fun _ => rfl
  discAsked := fun _ => rfl
  discLinks := fun _ => rfl
  discStarted := fun _ => rfl
  coldPorts := fun _ => rfl
  chans := fun _ => rfl
  groups := fun h => by rw [h] at h0; exact absurd h0 (by decide)
  tree := fun h => by rw [h] at h1; exact absurd h1 (by decide)
  attnSent := fun _ => rfl
  stewards := fun _ => rfl
  staging := fun _ => rfl
  recFifo := fun _ => rfl
  recLostMark := fun _ => rfl
  power := fun _ => rfl
  sec := fun _ => rfl
  i3c := fun _ => rfl
  jtag := fun _ => rfl
  pins := fun _ => rfl

theorem upd_flights_obs_slices_stalledSlices_sideRecs_updates_arrivals_queues {m : Nat} {s : State} {x0 x1 x2 x3 x4 x5 x6 x7} (h0 : m.testBit 538 = true) (h1 : m.testBit 542 = true) (h2 : m.testBit 546 = true) (h3 : m.testBit 547 = true) (h4 : m.testBit 548 = true) (h5 : m.testBit 553 = true) (h6 : m.testBit 559 = true) (h7 : m.testBit 567 = true) :
    Keeps m s { s with flights := x0, obs := x1, slices := x2, stalledSlices := x3, sideRecs := x4, updates := x5, arrivals := x6, queues := x7 } where
  pending := rfl
  reg := fun _ _ _ => rfl
  canon := id
  free := fun _ => rfl
  readback := fun _ => rfl
  status := fun _ => rfl
  latches := fun _ => rfl
  dram := fun _ => rfl
  tens := fun _ => rfl
  badPhys := fun _ => rfl
  badTens := fun _ => rfl
  pages := fun _ => rfl
  keptDescs := fun _ => rfl
  scrubBlock := fun _ => rfl
  load := fun _ => rfl
  secs := fun _ => rfl
  coreMap := fun _ => rfl
  links := fun _ => rfl
  devQueues := fun _ => rfl
  rules := fun _ => rfl
  rulesOn := fun _ => rfl
  rules0 := fun _ => rfl
  live := fun _ => rfl
  repair := fun _ => rfl
  modrec := fun _ => rfl
  panels := fun _ => rfl
  cores := fun _ => rfl
  flights := fun h => by rw [h] at h0; exact absurd h0 (by decide)
  nextFlight := fun _ => rfl
  trackers := fun _ => rfl
  trkSaved := fun _ => rfl
  obs := fun h => by rw [h] at h1; exact absurd h1 (by decide)
  windows := fun _ => rfl
  micros := fun _ => rfl
  sliceSums := fun _ => rfl
  slices := fun h => by rw [h] at h2; exact absurd h2 (by decide)
  stalledSlices := fun h => by rw [h] at h3; exact absurd h3 (by decide)
  sideRecs := fun h => by rw [h] at h4; exact absurd h4 (by decide)
  sideSums := fun _ => rfl
  masks := fun _ => rfl
  helds := fun _ => rfl
  sentTiles := fun _ => rfl
  updates := fun h => by rw [h] at h5; exact absurd h5 (by decide)
  updDone := fun _ => rfl
  ratios := fun _ => rfl
  ratioSnap := fun _ => rfl
  epochs := fun _ => rfl
  openEpochs := fun _ => rfl
  arrivals := fun h => by rw [h] at h6; exact absurd h6 (by decide)
  releases := fun _ => rfl
  votes := fun _ => rfl
  voteOut := fun _ => rfl
  forceArmed := fun _ => rfl
  fenceUsed := fun _ => rfl
  openTags := fun _ => rfl
  heldSets := fun _ => rfl
  queues := fun h => by rw [h] at h7; exact absurd h7 (by decide)
  ports := fun _ => rfl
  requests := fun _ => rfl
  reqWait := fun _ => rfl
  routes := fun _ => rfl
  uplink := fun _ => rfl
  routeChange := fun _ => rfl
  routeHold := fun _ => rfl
  discTodo := fun _ => rfl
  discAsked := fun _ => rfl
  discLinks := fun _ => rfl
  discStarted := fun _ => rfl
  coldPorts := fun _ => rfl
  chans := fun _ => rfl
  groups := fun _ => rfl
  tree := fun _ => rfl
  attnSent := fun _ => rfl
  stewards := fun _ => rfl
  staging := fun _ => rfl
  recFifo := fun _ => rfl
  recLostMark := fun _ => rfl
  power := fun _ => rfl
  sec := fun _ => rfl
  i3c := fun _ => rfl
  jtag := fun _ => rfl
  pins := fun _ => rfl

theorem upd_live {m : Nat} {s : State} {x0} (h0 : m.testBit 533 = true) :
    Keeps m s { s with live := x0 } where
  pending := rfl
  reg := fun _ _ _ => rfl
  canon := id
  free := fun _ => rfl
  readback := fun _ => rfl
  status := fun _ => rfl
  latches := fun _ => rfl
  dram := fun _ => rfl
  tens := fun _ => rfl
  badPhys := fun _ => rfl
  badTens := fun _ => rfl
  pages := fun _ => rfl
  keptDescs := fun _ => rfl
  scrubBlock := fun _ => rfl
  load := fun _ => rfl
  secs := fun _ => rfl
  coreMap := fun _ => rfl
  links := fun _ => rfl
  devQueues := fun _ => rfl
  rules := fun _ => rfl
  rulesOn := fun _ => rfl
  rules0 := fun _ => rfl
  live := fun h => by rw [h] at h0; exact absurd h0 (by decide)
  repair := fun _ => rfl
  modrec := fun _ => rfl
  panels := fun _ => rfl
  cores := fun _ => rfl
  flights := fun _ => rfl
  nextFlight := fun _ => rfl
  trackers := fun _ => rfl
  trkSaved := fun _ => rfl
  obs := fun _ => rfl
  windows := fun _ => rfl
  micros := fun _ => rfl
  sliceSums := fun _ => rfl
  slices := fun _ => rfl
  stalledSlices := fun _ => rfl
  sideRecs := fun _ => rfl
  sideSums := fun _ => rfl
  masks := fun _ => rfl
  helds := fun _ => rfl
  sentTiles := fun _ => rfl
  updates := fun _ => rfl
  updDone := fun _ => rfl
  ratios := fun _ => rfl
  ratioSnap := fun _ => rfl
  epochs := fun _ => rfl
  openEpochs := fun _ => rfl
  arrivals := fun _ => rfl
  releases := fun _ => rfl
  votes := fun _ => rfl
  voteOut := fun _ => rfl
  forceArmed := fun _ => rfl
  fenceUsed := fun _ => rfl
  openTags := fun _ => rfl
  heldSets := fun _ => rfl
  queues := fun _ => rfl
  ports := fun _ => rfl
  requests := fun _ => rfl
  reqWait := fun _ => rfl
  routes := fun _ => rfl
  uplink := fun _ => rfl
  routeChange := fun _ => rfl
  routeHold := fun _ => rfl
  discTodo := fun _ => rfl
  discAsked := fun _ => rfl
  discLinks := fun _ => rfl
  discStarted := fun _ => rfl
  coldPorts := fun _ => rfl
  chans := fun _ => rfl
  groups := fun _ => rfl
  tree := fun _ => rfl
  attnSent := fun _ => rfl
  stewards := fun _ => rfl
  staging := fun _ => rfl
  recFifo := fun _ => rfl
  recLostMark := fun _ => rfl
  power := fun _ => rfl
  sec := fun _ => rfl
  i3c := fun _ => rfl
  jtag := fun _ => rfl
  pins := fun _ => rfl

theorem upd_secs_trackers_trkSaved_groups_tree {m : Nat} {s : State} {x0 x1 x2 x3 x4} (h0 : m.testBit 526 = true) (h1 : m.testBit 540 = true) (h2 : m.testBit 541 = true) (h3 : m.testBit 581 = true) (h4 : m.testBit 582 = true) :
    Keeps m s { s with secs := x0, trackers := x1, trkSaved := x2, groups := x3, tree := x4 } where
  pending := rfl
  reg := fun _ _ _ => rfl
  canon := id
  free := fun _ => rfl
  readback := fun _ => rfl
  status := fun _ => rfl
  latches := fun _ => rfl
  dram := fun _ => rfl
  tens := fun _ => rfl
  badPhys := fun _ => rfl
  badTens := fun _ => rfl
  pages := fun _ => rfl
  keptDescs := fun _ => rfl
  scrubBlock := fun _ => rfl
  load := fun _ => rfl
  secs := fun h => by rw [h] at h0; exact absurd h0 (by decide)
  coreMap := fun _ => rfl
  links := fun _ => rfl
  devQueues := fun _ => rfl
  rules := fun _ => rfl
  rulesOn := fun _ => rfl
  rules0 := fun _ => rfl
  live := fun _ => rfl
  repair := fun _ => rfl
  modrec := fun _ => rfl
  panels := fun _ => rfl
  cores := fun _ => rfl
  flights := fun _ => rfl
  nextFlight := fun _ => rfl
  trackers := fun h => by rw [h] at h1; exact absurd h1 (by decide)
  trkSaved := fun h => by rw [h] at h2; exact absurd h2 (by decide)
  obs := fun _ => rfl
  windows := fun _ => rfl
  micros := fun _ => rfl
  sliceSums := fun _ => rfl
  slices := fun _ => rfl
  stalledSlices := fun _ => rfl
  sideRecs := fun _ => rfl
  sideSums := fun _ => rfl
  masks := fun _ => rfl
  helds := fun _ => rfl
  sentTiles := fun _ => rfl
  updates := fun _ => rfl
  updDone := fun _ => rfl
  ratios := fun _ => rfl
  ratioSnap := fun _ => rfl
  epochs := fun _ => rfl
  openEpochs := fun _ => rfl
  arrivals := fun _ => rfl
  releases := fun _ => rfl
  votes := fun _ => rfl
  voteOut := fun _ => rfl
  forceArmed := fun _ => rfl
  fenceUsed := fun _ => rfl
  openTags := fun _ => rfl
  heldSets := fun _ => rfl
  queues := fun _ => rfl
  ports := fun _ => rfl
  requests := fun _ => rfl
  reqWait := fun _ => rfl
  routes := fun _ => rfl
  uplink := fun _ => rfl
  routeChange := fun _ => rfl
  routeHold := fun _ => rfl
  discTodo := fun _ => rfl
  discAsked := fun _ => rfl
  discLinks := fun _ => rfl
  discStarted := fun _ => rfl
  coldPorts := fun _ => rfl
  chans := fun _ => rfl
  groups := fun h => by rw [h] at h3; exact absurd h3 (by decide)
  tree := fun h => by rw [h] at h4; exact absurd h4 (by decide)
  attnSent := fun _ => rfl
  stewards := fun _ => rfl
  staging := fun _ => rfl
  recFifo := fun _ => rfl
  recLostMark := fun _ => rfl
  power := fun _ => rfl
  sec := fun _ => rfl
  i3c := fun _ => rfl
  jtag := fun _ => rfl
  pins := fun _ => rfl

theorem upd_routeHold {m : Nat} {s : State} {x0} (h0 : m.testBit 574 = true) :
    Keeps m s { s with routeHold := x0 } where
  pending := rfl
  reg := fun _ _ _ => rfl
  canon := id
  free := fun _ => rfl
  readback := fun _ => rfl
  status := fun _ => rfl
  latches := fun _ => rfl
  dram := fun _ => rfl
  tens := fun _ => rfl
  badPhys := fun _ => rfl
  badTens := fun _ => rfl
  pages := fun _ => rfl
  keptDescs := fun _ => rfl
  scrubBlock := fun _ => rfl
  load := fun _ => rfl
  secs := fun _ => rfl
  coreMap := fun _ => rfl
  links := fun _ => rfl
  devQueues := fun _ => rfl
  rules := fun _ => rfl
  rulesOn := fun _ => rfl
  rules0 := fun _ => rfl
  live := fun _ => rfl
  repair := fun _ => rfl
  modrec := fun _ => rfl
  panels := fun _ => rfl
  cores := fun _ => rfl
  flights := fun _ => rfl
  nextFlight := fun _ => rfl
  trackers := fun _ => rfl
  trkSaved := fun _ => rfl
  obs := fun _ => rfl
  windows := fun _ => rfl
  micros := fun _ => rfl
  sliceSums := fun _ => rfl
  slices := fun _ => rfl
  stalledSlices := fun _ => rfl
  sideRecs := fun _ => rfl
  sideSums := fun _ => rfl
  masks := fun _ => rfl
  helds := fun _ => rfl
  sentTiles := fun _ => rfl
  updates := fun _ => rfl
  updDone := fun _ => rfl
  ratios := fun _ => rfl
  ratioSnap := fun _ => rfl
  epochs := fun _ => rfl
  openEpochs := fun _ => rfl
  arrivals := fun _ => rfl
  releases := fun _ => rfl
  votes := fun _ => rfl
  voteOut := fun _ => rfl
  forceArmed := fun _ => rfl
  fenceUsed := fun _ => rfl
  openTags := fun _ => rfl
  heldSets := fun _ => rfl
  queues := fun _ => rfl
  ports := fun _ => rfl
  requests := fun _ => rfl
  reqWait := fun _ => rfl
  routes := fun _ => rfl
  uplink := fun _ => rfl
  routeChange := fun _ => rfl
  routeHold := fun h => by rw [h] at h0; exact absurd h0 (by decide)
  discTodo := fun _ => rfl
  discAsked := fun _ => rfl
  discLinks := fun _ => rfl
  discStarted := fun _ => rfl
  coldPorts := fun _ => rfl
  chans := fun _ => rfl
  groups := fun _ => rfl
  tree := fun _ => rfl
  attnSent := fun _ => rfl
  stewards := fun _ => rfl
  staging := fun _ => rfl
  recFifo := fun _ => rfl
  recLostMark := fun _ => rfl
  power := fun _ => rfl
  sec := fun _ => rfl
  i3c := fun _ => rfl
  jtag := fun _ => rfl
  pins := fun _ => rfl

theorem upd_live_flights_epochs {m : Nat} {s : State} {x0 x1 x2} (h0 : m.testBit 533 = true) (h1 : m.testBit 538 = true) (h2 : m.testBit 557 = true) :
    Keeps m s { s with live := x0, flights := x1, epochs := x2 } where
  pending := rfl
  reg := fun _ _ _ => rfl
  canon := id
  free := fun _ => rfl
  readback := fun _ => rfl
  status := fun _ => rfl
  latches := fun _ => rfl
  dram := fun _ => rfl
  tens := fun _ => rfl
  badPhys := fun _ => rfl
  badTens := fun _ => rfl
  pages := fun _ => rfl
  keptDescs := fun _ => rfl
  scrubBlock := fun _ => rfl
  load := fun _ => rfl
  secs := fun _ => rfl
  coreMap := fun _ => rfl
  links := fun _ => rfl
  devQueues := fun _ => rfl
  rules := fun _ => rfl
  rulesOn := fun _ => rfl
  rules0 := fun _ => rfl
  live := fun h => by rw [h] at h0; exact absurd h0 (by decide)
  repair := fun _ => rfl
  modrec := fun _ => rfl
  panels := fun _ => rfl
  cores := fun _ => rfl
  flights := fun h => by rw [h] at h1; exact absurd h1 (by decide)
  nextFlight := fun _ => rfl
  trackers := fun _ => rfl
  trkSaved := fun _ => rfl
  obs := fun _ => rfl
  windows := fun _ => rfl
  micros := fun _ => rfl
  sliceSums := fun _ => rfl
  slices := fun _ => rfl
  stalledSlices := fun _ => rfl
  sideRecs := fun _ => rfl
  sideSums := fun _ => rfl
  masks := fun _ => rfl
  helds := fun _ => rfl
  sentTiles := fun _ => rfl
  updates := fun _ => rfl
  updDone := fun _ => rfl
  ratios := fun _ => rfl
  ratioSnap := fun _ => rfl
  epochs := fun h => by rw [h] at h2; exact absurd h2 (by decide)
  openEpochs := fun _ => rfl
  arrivals := fun _ => rfl
  releases := fun _ => rfl
  votes := fun _ => rfl
  voteOut := fun _ => rfl
  forceArmed := fun _ => rfl
  fenceUsed := fun _ => rfl
  openTags := fun _ => rfl
  heldSets := fun _ => rfl
  queues := fun _ => rfl
  ports := fun _ => rfl
  requests := fun _ => rfl
  reqWait := fun _ => rfl
  routes := fun _ => rfl
  uplink := fun _ => rfl
  routeChange := fun _ => rfl
  routeHold := fun _ => rfl
  discTodo := fun _ => rfl
  discAsked := fun _ => rfl
  discLinks := fun _ => rfl
  discStarted := fun _ => rfl
  coldPorts := fun _ => rfl
  chans := fun _ => rfl
  groups := fun _ => rfl
  tree := fun _ => rfl
  attnSent := fun _ => rfl
  stewards := fun _ => rfl
  staging := fun _ => rfl
  recFifo := fun _ => rfl
  recLostMark := fun _ => rfl
  power := fun _ => rfl
  sec := fun _ => rfl
  i3c := fun _ => rfl
  jtag := fun _ => rfl
  pins := fun _ => rfl

theorem upd_releases {m : Nat} {s : State} {x0} (h0 : m.testBit 560 = true) :
    Keeps m s { s with releases := x0 } where
  pending := rfl
  reg := fun _ _ _ => rfl
  canon := id
  free := fun _ => rfl
  readback := fun _ => rfl
  status := fun _ => rfl
  latches := fun _ => rfl
  dram := fun _ => rfl
  tens := fun _ => rfl
  badPhys := fun _ => rfl
  badTens := fun _ => rfl
  pages := fun _ => rfl
  keptDescs := fun _ => rfl
  scrubBlock := fun _ => rfl
  load := fun _ => rfl
  secs := fun _ => rfl
  coreMap := fun _ => rfl
  links := fun _ => rfl
  devQueues := fun _ => rfl
  rules := fun _ => rfl
  rulesOn := fun _ => rfl
  rules0 := fun _ => rfl
  live := fun _ => rfl
  repair := fun _ => rfl
  modrec := fun _ => rfl
  panels := fun _ => rfl
  cores := fun _ => rfl
  flights := fun _ => rfl
  nextFlight := fun _ => rfl
  trackers := fun _ => rfl
  trkSaved := fun _ => rfl
  obs := fun _ => rfl
  windows := fun _ => rfl
  micros := fun _ => rfl
  sliceSums := fun _ => rfl
  slices := fun _ => rfl
  stalledSlices := fun _ => rfl
  sideRecs := fun _ => rfl
  sideSums := fun _ => rfl
  masks := fun _ => rfl
  helds := fun _ => rfl
  sentTiles := fun _ => rfl
  updates := fun _ => rfl
  updDone := fun _ => rfl
  ratios := fun _ => rfl
  ratioSnap := fun _ => rfl
  epochs := fun _ => rfl
  openEpochs := fun _ => rfl
  arrivals := fun _ => rfl
  releases := fun h => by rw [h] at h0; exact absurd h0 (by decide)
  votes := fun _ => rfl
  voteOut := fun _ => rfl
  forceArmed := fun _ => rfl
  fenceUsed := fun _ => rfl
  openTags := fun _ => rfl
  heldSets := fun _ => rfl
  queues := fun _ => rfl
  ports := fun _ => rfl
  requests := fun _ => rfl
  reqWait := fun _ => rfl
  routes := fun _ => rfl
  uplink := fun _ => rfl
  routeChange := fun _ => rfl
  routeHold := fun _ => rfl
  discTodo := fun _ => rfl
  discAsked := fun _ => rfl
  discLinks := fun _ => rfl
  discStarted := fun _ => rfl
  coldPorts := fun _ => rfl
  chans := fun _ => rfl
  groups := fun _ => rfl
  tree := fun _ => rfl
  attnSent := fun _ => rfl
  stewards := fun _ => rfl
  staging := fun _ => rfl
  recFifo := fun _ => rfl
  recLostMark := fun _ => rfl
  power := fun _ => rfl
  sec := fun _ => rfl
  i3c := fun _ => rfl
  jtag := fun _ => rfl
  pins := fun _ => rfl

theorem upd_epochs_openEpochs {m : Nat} {s : State} {x0 x1} (h0 : m.testBit 557 = true) (h1 : m.testBit 558 = true) :
    Keeps m s { s with epochs := x0, openEpochs := x1 } where
  pending := rfl
  reg := fun _ _ _ => rfl
  canon := id
  free := fun _ => rfl
  readback := fun _ => rfl
  status := fun _ => rfl
  latches := fun _ => rfl
  dram := fun _ => rfl
  tens := fun _ => rfl
  badPhys := fun _ => rfl
  badTens := fun _ => rfl
  pages := fun _ => rfl
  keptDescs := fun _ => rfl
  scrubBlock := fun _ => rfl
  load := fun _ => rfl
  secs := fun _ => rfl
  coreMap := fun _ => rfl
  links := fun _ => rfl
  devQueues := fun _ => rfl
  rules := fun _ => rfl
  rulesOn := fun _ => rfl
  rules0 := fun _ => rfl
  live := fun _ => rfl
  repair := fun _ => rfl
  modrec := fun _ => rfl
  panels := fun _ => rfl
  cores := fun _ => rfl
  flights := fun _ => rfl
  nextFlight := fun _ => rfl
  trackers := fun _ => rfl
  trkSaved := fun _ => rfl
  obs := fun _ => rfl
  windows := fun _ => rfl
  micros := fun _ => rfl
  sliceSums := fun _ => rfl
  slices := fun _ => rfl
  stalledSlices := fun _ => rfl
  sideRecs := fun _ => rfl
  sideSums := fun _ => rfl
  masks := fun _ => rfl
  helds := fun _ => rfl
  sentTiles := fun _ => rfl
  updates := fun _ => rfl
  updDone := fun _ => rfl
  ratios := fun _ => rfl
  ratioSnap := fun _ => rfl
  epochs := fun h => by rw [h] at h0; exact absurd h0 (by decide)
  openEpochs := fun h => by rw [h] at h1; exact absurd h1 (by decide)
  arrivals := fun _ => rfl
  releases := fun _ => rfl
  votes := fun _ => rfl
  voteOut := fun _ => rfl
  forceArmed := fun _ => rfl
  fenceUsed := fun _ => rfl
  openTags := fun _ => rfl
  heldSets := fun _ => rfl
  queues := fun _ => rfl
  ports := fun _ => rfl
  requests := fun _ => rfl
  reqWait := fun _ => rfl
  routes := fun _ => rfl
  uplink := fun _ => rfl
  routeChange := fun _ => rfl
  routeHold := fun _ => rfl
  discTodo := fun _ => rfl
  discAsked := fun _ => rfl
  discLinks := fun _ => rfl
  discStarted := fun _ => rfl
  coldPorts := fun _ => rfl
  chans := fun _ => rfl
  groups := fun _ => rfl
  tree := fun _ => rfl
  attnSent := fun _ => rfl
  stewards := fun _ => rfl
  staging := fun _ => rfl
  recFifo := fun _ => rfl
  recLostMark := fun _ => rfl
  power := fun _ => rfl
  sec := fun _ => rfl
  i3c := fun _ => rfl
  jtag := fun _ => rfl
  pins := fun _ => rfl

theorem upd_voteOut {m : Nat} {s : State} {x0} (h0 : m.testBit 562 = true) :
    Keeps m s { s with voteOut := x0 } where
  pending := rfl
  reg := fun _ _ _ => rfl
  canon := id
  free := fun _ => rfl
  readback := fun _ => rfl
  status := fun _ => rfl
  latches := fun _ => rfl
  dram := fun _ => rfl
  tens := fun _ => rfl
  badPhys := fun _ => rfl
  badTens := fun _ => rfl
  pages := fun _ => rfl
  keptDescs := fun _ => rfl
  scrubBlock := fun _ => rfl
  load := fun _ => rfl
  secs := fun _ => rfl
  coreMap := fun _ => rfl
  links := fun _ => rfl
  devQueues := fun _ => rfl
  rules := fun _ => rfl
  rulesOn := fun _ => rfl
  rules0 := fun _ => rfl
  live := fun _ => rfl
  repair := fun _ => rfl
  modrec := fun _ => rfl
  panels := fun _ => rfl
  cores := fun _ => rfl
  flights := fun _ => rfl
  nextFlight := fun _ => rfl
  trackers := fun _ => rfl
  trkSaved := fun _ => rfl
  obs := fun _ => rfl
  windows := fun _ => rfl
  micros := fun _ => rfl
  sliceSums := fun _ => rfl
  slices := fun _ => rfl
  stalledSlices := fun _ => rfl
  sideRecs := fun _ => rfl
  sideSums := fun _ => rfl
  masks := fun _ => rfl
  helds := fun _ => rfl
  sentTiles := fun _ => rfl
  updates := fun _ => rfl
  updDone := fun _ => rfl
  ratios := fun _ => rfl
  ratioSnap := fun _ => rfl
  epochs := fun _ => rfl
  openEpochs := fun _ => rfl
  arrivals := fun _ => rfl
  releases := fun _ => rfl
  votes := fun _ => rfl
  voteOut := fun h => by rw [h] at h0; exact absurd h0 (by decide)
  forceArmed := fun _ => rfl
  fenceUsed := fun _ => rfl
  openTags := fun _ => rfl
  heldSets := fun _ => rfl
  queues := fun _ => rfl
  ports := fun _ => rfl
  requests := fun _ => rfl
  reqWait := fun _ => rfl
  routes := fun _ => rfl
  uplink := fun _ => rfl
  routeChange := fun _ => rfl
  routeHold := fun _ => rfl
  discTodo := fun _ => rfl
  discAsked := fun _ => rfl
  discLinks := fun _ => rfl
  discStarted := fun _ => rfl
  coldPorts := fun _ => rfl
  chans := fun _ => rfl
  groups := fun _ => rfl
  tree := fun _ => rfl
  attnSent := fun _ => rfl
  stewards := fun _ => rfl
  staging := fun _ => rfl
  recFifo := fun _ => rfl
  recLostMark := fun _ => rfl
  power := fun _ => rfl
  sec := fun _ => rfl
  i3c := fun _ => rfl
  jtag := fun _ => rfl
  pins := fun _ => rfl

theorem upd_attnSent {m : Nat} {s : State} {x0} (h0 : m.testBit 583 = true) :
    Keeps m s { s with attnSent := x0 } where
  pending := rfl
  reg := fun _ _ _ => rfl
  canon := id
  free := fun _ => rfl
  readback := fun _ => rfl
  status := fun _ => rfl
  latches := fun _ => rfl
  dram := fun _ => rfl
  tens := fun _ => rfl
  badPhys := fun _ => rfl
  badTens := fun _ => rfl
  pages := fun _ => rfl
  keptDescs := fun _ => rfl
  scrubBlock := fun _ => rfl
  load := fun _ => rfl
  secs := fun _ => rfl
  coreMap := fun _ => rfl
  links := fun _ => rfl
  devQueues := fun _ => rfl
  rules := fun _ => rfl
  rulesOn := fun _ => rfl
  rules0 := fun _ => rfl
  live := fun _ => rfl
  repair := fun _ => rfl
  modrec := fun _ => rfl
  panels := fun _ => rfl
  cores := fun _ => rfl
  flights := fun _ => rfl
  nextFlight := fun _ => rfl
  trackers := fun _ => rfl
  trkSaved := fun _ => rfl
  obs := fun _ => rfl
  windows := fun _ => rfl
  micros := fun _ => rfl
  sliceSums := fun _ => rfl
  slices := fun _ => rfl
  stalledSlices := fun _ => rfl
  sideRecs := fun _ => rfl
  sideSums := fun _ => rfl
  masks := fun _ => rfl
  helds := fun _ => rfl
  sentTiles := fun _ => rfl
  updates := fun _ => rfl
  updDone := fun _ => rfl
  ratios := fun _ => rfl
  ratioSnap := fun _ => rfl
  epochs := fun _ => rfl
  openEpochs := fun _ => rfl
  arrivals := fun _ => rfl
  releases := fun _ => rfl
  votes := fun _ => rfl
  voteOut := fun _ => rfl
  forceArmed := fun _ => rfl
  fenceUsed := fun _ => rfl
  openTags := fun _ => rfl
  heldSets := fun _ => rfl
  queues := fun _ => rfl
  ports := fun _ => rfl
  requests := fun _ => rfl
  reqWait := fun _ => rfl
  routes := fun _ => rfl
  uplink := fun _ => rfl
  routeChange := fun _ => rfl
  routeHold := fun _ => rfl
  discTodo := fun _ => rfl
  discAsked := fun _ => rfl
  discLinks := fun _ => rfl
  discStarted := fun _ => rfl
  coldPorts := fun _ => rfl
  chans := fun _ => rfl
  groups := fun _ => rfl
  tree := fun _ => rfl
  attnSent := fun h => by rw [h] at h0; exact absurd h0 (by decide)
  stewards := fun _ => rfl
  staging := fun _ => rfl
  recFifo := fun _ => rfl
  recLostMark := fun _ => rfl
  power := fun _ => rfl
  sec := fun _ => rfl
  i3c := fun _ => rfl
  jtag := fun _ => rfl
  pins := fun _ => rfl

theorem upd_trackers_trkSaved {m : Nat} {s : State} {x0 x1} (h0 : m.testBit 540 = true) (h1 : m.testBit 541 = true) :
    Keeps m s { s with trackers := x0, trkSaved := x1 } where
  pending := rfl
  reg := fun _ _ _ => rfl
  canon := id
  free := fun _ => rfl
  readback := fun _ => rfl
  status := fun _ => rfl
  latches := fun _ => rfl
  dram := fun _ => rfl
  tens := fun _ => rfl
  badPhys := fun _ => rfl
  badTens := fun _ => rfl
  pages := fun _ => rfl
  keptDescs := fun _ => rfl
  scrubBlock := fun _ => rfl
  load := fun _ => rfl
  secs := fun _ => rfl
  coreMap := fun _ => rfl
  links := fun _ => rfl
  devQueues := fun _ => rfl
  rules := fun _ => rfl
  rulesOn := fun _ => rfl
  rules0 := fun _ => rfl
  live := fun _ => rfl
  repair := fun _ => rfl
  modrec := fun _ => rfl
  panels := fun _ => rfl
  cores := fun _ => rfl
  flights := fun _ => rfl
  nextFlight := fun _ => rfl
  trackers := fun h => by rw [h] at h0; exact absurd h0 (by decide)
  trkSaved := fun h => by rw [h] at h1; exact absurd h1 (by decide)
  obs := fun _ => rfl
  windows := fun _ => rfl
  micros := fun _ => rfl
  sliceSums := fun _ => rfl
  slices := fun _ => rfl
  stalledSlices := fun _ => rfl
  sideRecs := fun _ => rfl
  sideSums := fun _ => rfl
  masks := fun _ => rfl
  helds := fun _ => rfl
  sentTiles := fun _ => rfl
  updates := fun _ => rfl
  updDone := fun _ => rfl
  ratios := fun _ => rfl
  ratioSnap := fun _ => rfl
  epochs := fun _ => rfl
  openEpochs := fun _ => rfl
  arrivals := fun _ => rfl
  releases := fun _ => rfl
  votes := fun _ => rfl
  voteOut := fun _ => rfl
  forceArmed := fun _ => rfl
  fenceUsed := fun _ => rfl
  openTags := fun _ => rfl
  heldSets := fun _ => rfl
  queues := fun _ => rfl
  ports := fun _ => rfl
  requests := fun _ => rfl
  reqWait := fun _ => rfl
  routes := fun _ => rfl
  uplink := fun _ => rfl
  routeChange := fun _ => rfl
  routeHold := fun _ => rfl
  discTodo := fun _ => rfl
  discAsked := fun _ => rfl
  discLinks := fun _ => rfl
  discStarted := fun _ => rfl
  coldPorts := fun _ => rfl
  chans := fun _ => rfl
  groups := fun _ => rfl
  tree := fun _ => rfl
  attnSent := fun _ => rfl
  stewards := fun _ => rfl
  staging := fun _ => rfl
  recFifo := fun _ => rfl
  recLostMark := fun _ => rfl
  power := fun _ => rfl
  sec := fun _ => rfl
  i3c := fun _ => rfl
  jtag := fun _ => rfl
  pins := fun _ => rfl

theorem upd_obs {m : Nat} {s : State} {x0} (h0 : m.testBit 542 = true) :
    Keeps m s { s with obs := x0 } where
  pending := rfl
  reg := fun _ _ _ => rfl
  canon := id
  free := fun _ => rfl
  readback := fun _ => rfl
  status := fun _ => rfl
  latches := fun _ => rfl
  dram := fun _ => rfl
  tens := fun _ => rfl
  badPhys := fun _ => rfl
  badTens := fun _ => rfl
  pages := fun _ => rfl
  keptDescs := fun _ => rfl
  scrubBlock := fun _ => rfl
  load := fun _ => rfl
  secs := fun _ => rfl
  coreMap := fun _ => rfl
  links := fun _ => rfl
  devQueues := fun _ => rfl
  rules := fun _ => rfl
  rulesOn := fun _ => rfl
  rules0 := fun _ => rfl
  live := fun _ => rfl
  repair := fun _ => rfl
  modrec := fun _ => rfl
  panels := fun _ => rfl
  cores := fun _ => rfl
  flights := fun _ => rfl
  nextFlight := fun _ => rfl
  trackers := fun _ => rfl
  trkSaved := fun _ => rfl
  obs := fun h => by rw [h] at h0; exact absurd h0 (by decide)
  windows := fun _ => rfl
  micros := fun _ => rfl
  sliceSums := fun _ => rfl
  slices := fun _ => rfl
  stalledSlices := fun _ => rfl
  sideRecs := fun _ => rfl
  sideSums := fun _ => rfl
  masks := fun _ => rfl
  helds := fun _ => rfl
  sentTiles := fun _ => rfl
  updates := fun _ => rfl
  updDone := fun _ => rfl
  ratios := fun _ => rfl
  ratioSnap := fun _ => rfl
  epochs := fun _ => rfl
  openEpochs := fun _ => rfl
  arrivals := fun _ => rfl
  releases := fun _ => rfl
  votes := fun _ => rfl
  voteOut := fun _ => rfl
  forceArmed := fun _ => rfl
  fenceUsed := fun _ => rfl
  openTags := fun _ => rfl
  heldSets := fun _ => rfl
  queues := fun _ => rfl
  ports := fun _ => rfl
  requests := fun _ => rfl
  reqWait := fun _ => rfl
  routes := fun _ => rfl
  uplink := fun _ => rfl
  routeChange := fun _ => rfl
  routeHold := fun _ => rfl
  discTodo := fun _ => rfl
  discAsked := fun _ => rfl
  discLinks := fun _ => rfl
  discStarted := fun _ => rfl
  coldPorts := fun _ => rfl
  chans := fun _ => rfl
  groups := fun _ => rfl
  tree := fun _ => rfl
  attnSent := fun _ => rfl
  stewards := fun _ => rfl
  staging := fun _ => rfl
  recFifo := fun _ => rfl
  recLostMark := fun _ => rfl
  power := fun _ => rfl
  sec := fun _ => rfl
  i3c := fun _ => rfl
  jtag := fun _ => rfl
  pins := fun _ => rfl

theorem upd_uplink {m : Nat} {s : State} {x0} (h0 : m.testBit 572 = true) :
    Keeps m s { s with uplink := x0 } where
  pending := rfl
  reg := fun _ _ _ => rfl
  canon := id
  free := fun _ => rfl
  readback := fun _ => rfl
  status := fun _ => rfl
  latches := fun _ => rfl
  dram := fun _ => rfl
  tens := fun _ => rfl
  badPhys := fun _ => rfl
  badTens := fun _ => rfl
  pages := fun _ => rfl
  keptDescs := fun _ => rfl
  scrubBlock := fun _ => rfl
  load := fun _ => rfl
  secs := fun _ => rfl
  coreMap := fun _ => rfl
  links := fun _ => rfl
  devQueues := fun _ => rfl
  rules := fun _ => rfl
  rulesOn := fun _ => rfl
  rules0 := fun _ => rfl
  live := fun _ => rfl
  repair := fun _ => rfl
  modrec := fun _ => rfl
  panels := fun _ => rfl
  cores := fun _ => rfl
  flights := fun _ => rfl
  nextFlight := fun _ => rfl
  trackers := fun _ => rfl
  trkSaved := fun _ => rfl
  obs := fun _ => rfl
  windows := fun _ => rfl
  micros := fun _ => rfl
  sliceSums := fun _ => rfl
  slices := fun _ => rfl
  stalledSlices := fun _ => rfl
  sideRecs := fun _ => rfl
  sideSums := fun _ => rfl
  masks := fun _ => rfl
  helds := fun _ => rfl
  sentTiles := fun _ => rfl
  updates := fun _ => rfl
  updDone := fun _ => rfl
  ratios := fun _ => rfl
  ratioSnap := fun _ => rfl
  epochs := fun _ => rfl
  openEpochs := fun _ => rfl
  arrivals := fun _ => rfl
  releases := fun _ => rfl
  votes := fun _ => rfl
  voteOut := fun _ => rfl
  forceArmed := fun _ => rfl
  fenceUsed := fun _ => rfl
  openTags := fun _ => rfl
  heldSets := fun _ => rfl
  queues := fun _ => rfl
  ports := fun _ => rfl
  requests := fun _ => rfl
  reqWait := fun _ => rfl
  routes := fun _ => rfl
  uplink := fun h => by rw [h] at h0; exact absurd h0 (by decide)
  routeChange := fun _ => rfl
  routeHold := fun _ => rfl
  discTodo := fun _ => rfl
  discAsked := fun _ => rfl
  discLinks := fun _ => rfl
  discStarted := fun _ => rfl
  coldPorts := fun _ => rfl
  chans := fun _ => rfl
  groups := fun _ => rfl
  tree := fun _ => rfl
  attnSent := fun _ => rfl
  stewards := fun _ => rfl
  staging := fun _ => rfl
  recFifo := fun _ => rfl
  recLostMark := fun _ => rfl
  power := fun _ => rfl
  sec := fun _ => rfl
  i3c := fun _ => rfl
  jtag := fun _ => rfl
  pins := fun _ => rfl

theorem upd_discTodo_discLinks {m : Nat} {s : State} {x0 x1} (h0 : m.testBit 575 = true) (h1 : m.testBit 577 = true) :
    Keeps m s { s with discTodo := x0, discLinks := x1 } where
  pending := rfl
  reg := fun _ _ _ => rfl
  canon := id
  free := fun _ => rfl
  readback := fun _ => rfl
  status := fun _ => rfl
  latches := fun _ => rfl
  dram := fun _ => rfl
  tens := fun _ => rfl
  badPhys := fun _ => rfl
  badTens := fun _ => rfl
  pages := fun _ => rfl
  keptDescs := fun _ => rfl
  scrubBlock := fun _ => rfl
  load := fun _ => rfl
  secs := fun _ => rfl
  coreMap := fun _ => rfl
  links := fun _ => rfl
  devQueues := fun _ => rfl
  rules := fun _ => rfl
  rulesOn := fun _ => rfl
  rules0 := fun _ => rfl
  live := fun _ => rfl
  repair := fun _ => rfl
  modrec := fun _ => rfl
  panels := fun _ => rfl
  cores := fun _ => rfl
  flights := fun _ => rfl
  nextFlight := fun _ => rfl
  trackers := fun _ => rfl
  trkSaved := fun _ => rfl
  obs := fun _ => rfl
  windows := fun _ => rfl
  micros := fun _ => rfl
  sliceSums := fun _ => rfl
  slices := fun _ => rfl
  stalledSlices := fun _ => rfl
  sideRecs := fun _ => rfl
  sideSums := fun _ => rfl
  masks := fun _ => rfl
  helds := fun _ => rfl
  sentTiles := fun _ => rfl
  updates := fun _ => rfl
  updDone := fun _ => rfl
  ratios := fun _ => rfl
  ratioSnap := fun _ => rfl
  epochs := fun _ => rfl
  openEpochs := fun _ => rfl
  arrivals := fun _ => rfl
  releases := fun _ => rfl
  votes := fun _ => rfl
  voteOut := fun _ => rfl
  forceArmed := fun _ => rfl
  fenceUsed := fun _ => rfl
  openTags := fun _ => rfl
  heldSets := fun _ => rfl
  queues := fun _ => rfl
  ports := fun _ => rfl
  requests := fun _ => rfl
  reqWait := fun _ => rfl
  routes := fun _ => rfl
  uplink := fun _ => rfl
  routeChange := fun _ => rfl
  routeHold := fun _ => rfl
  discTodo := fun h => by rw [h] at h0; exact absurd h0 (by decide)
  discAsked := fun _ => rfl
  discLinks := fun h => by rw [h] at h1; exact absurd h1 (by decide)
  discStarted := fun _ => rfl
  coldPorts := fun _ => rfl
  chans := fun _ => rfl
  groups := fun _ => rfl
  tree := fun _ => rfl
  attnSent := fun _ => rfl
  stewards := fun _ => rfl
  staging := fun _ => rfl
  recFifo := fun _ => rfl
  recLostMark := fun _ => rfl
  power := fun _ => rfl
  sec := fun _ => rfl
  i3c := fun _ => rfl
  jtag := fun _ => rfl
  pins := fun _ => rfl

theorem upd_updDone {m : Nat} {s : State} {x0} (h0 : m.testBit 554 = true) :
    Keeps m s { s with updDone := x0 } where
  pending := rfl
  reg := fun _ _ _ => rfl
  canon := id
  free := fun _ => rfl
  readback := fun _ => rfl
  status := fun _ => rfl
  latches := fun _ => rfl
  dram := fun _ => rfl
  tens := fun _ => rfl
  badPhys := fun _ => rfl
  badTens := fun _ => rfl
  pages := fun _ => rfl
  keptDescs := fun _ => rfl
  scrubBlock := fun _ => rfl
  load := fun _ => rfl
  secs := fun _ => rfl
  coreMap := fun _ => rfl
  links := fun _ => rfl
  devQueues := fun _ => rfl
  rules := fun _ => rfl
  rulesOn := fun _ => rfl
  rules0 := fun _ => rfl
  live := fun _ => rfl
  repair := fun _ => rfl
  modrec := fun _ => rfl
  panels := fun _ => rfl
  cores := fun _ => rfl
  flights := fun _ => rfl
  nextFlight := fun _ => rfl
  trackers := fun _ => rfl
  trkSaved := fun _ => rfl
  obs := fun _ => rfl
  windows := fun _ => rfl
  micros := fun _ => rfl
  sliceSums := fun _ => rfl
  slices := fun _ => rfl
  stalledSlices := fun _ => rfl
  sideRecs := fun _ => rfl
  sideSums := fun _ => rfl
  masks := fun _ => rfl
  helds := fun _ => rfl
  sentTiles := fun _ => rfl
  updates := fun _ => rfl
  updDone := fun h => by rw [h] at h0; exact absurd h0 (by decide)
  ratios := fun _ => rfl
  ratioSnap := fun _ => rfl
  epochs := fun _ => rfl
  openEpochs := fun _ => rfl
  arrivals := fun _ => rfl
  releases := fun _ => rfl
  votes := fun _ => rfl
  voteOut := fun _ => rfl
  forceArmed := fun _ => rfl
  fenceUsed := fun _ => rfl
  openTags := fun _ => rfl
  heldSets := fun _ => rfl
  queues := fun _ => rfl
  ports := fun _ => rfl
  requests := fun _ => rfl
  reqWait := fun _ => rfl
  routes := fun _ => rfl
  uplink := fun _ => rfl
  routeChange := fun _ => rfl
  routeHold := fun _ => rfl
  discTodo := fun _ => rfl
  discAsked := fun _ => rfl
  discLinks := fun _ => rfl
  discStarted := fun _ => rfl
  coldPorts := fun _ => rfl
  chans := fun _ => rfl
  groups := fun _ => rfl
  tree := fun _ => rfl
  attnSent := fun _ => rfl
  stewards := fun _ => rfl
  staging := fun _ => rfl
  recFifo := fun _ => rfl
  recLostMark := fun _ => rfl
  power := fun _ => rfl
  sec := fun _ => rfl
  i3c := fun _ => rfl
  jtag := fun _ => rfl
  pins := fun _ => rfl

theorem upd_chans_groups {m : Nat} {s : State} {x0 x1} (h0 : m.testBit 580 = true) (h1 : m.testBit 581 = true) :
    Keeps m s { s with chans := x0, groups := x1 } where
  pending := rfl
  reg := fun _ _ _ => rfl
  canon := id
  free := fun _ => rfl
  readback := fun _ => rfl
  status := fun _ => rfl
  latches := fun _ => rfl
  dram := fun _ => rfl
  tens := fun _ => rfl
  badPhys := fun _ => rfl
  badTens := fun _ => rfl
  pages := fun _ => rfl
  keptDescs := fun _ => rfl
  scrubBlock := fun _ => rfl
  load := fun _ => rfl
  secs := fun _ => rfl
  coreMap := fun _ => rfl
  links := fun _ => rfl
  devQueues := fun _ => rfl
  rules := fun _ => rfl
  rulesOn := fun _ => rfl
  rules0 := fun _ => rfl
  live := fun _ => rfl
  repair := fun _ => rfl
  modrec := fun _ => rfl
  panels := fun _ => rfl
  cores := fun _ => rfl
  flights := fun _ => rfl
  nextFlight := fun _ => rfl
  trackers := fun _ => rfl
  trkSaved := fun _ => rfl
  obs := fun _ => rfl
  windows := fun _ => rfl
  micros := fun _ => rfl
  sliceSums := fun _ => rfl
  slices := fun _ => rfl
  stalledSlices := fun _ => rfl
  sideRecs := fun _ => rfl
  sideSums := fun _ => rfl
  masks := fun _ => rfl
  helds := fun _ => rfl
  sentTiles := fun _ => rfl
  updates := fun _ => rfl
  updDone := fun _ => rfl
  ratios := fun _ => rfl
  ratioSnap := fun _ => rfl
  epochs := fun _ => rfl
  openEpochs := fun _ => rfl
  arrivals := fun _ => rfl
  releases := fun _ => rfl
  votes := fun _ => rfl
  voteOut := fun _ => rfl
  forceArmed := fun _ => rfl
  fenceUsed := fun _ => rfl
  openTags := fun _ => rfl
  heldSets := fun _ => rfl
  queues := fun _ => rfl
  ports := fun _ => rfl
  requests := fun _ => rfl
  reqWait := fun _ => rfl
  routes := fun _ => rfl
  uplink := fun _ => rfl
  routeChange := fun _ => rfl
  routeHold := fun _ => rfl
  discTodo := fun _ => rfl
  discAsked := fun _ => rfl
  discLinks := fun _ => rfl
  discStarted := fun _ => rfl
  coldPorts := fun _ => rfl
  chans := fun h => by rw [h] at h0; exact absurd h0 (by decide)
  groups := fun h => by rw [h] at h1; exact absurd h1 (by decide)
  tree := fun _ => rfl
  attnSent := fun _ => rfl
  stewards := fun _ => rfl
  staging := fun _ => rfl
  recFifo := fun _ => rfl
  recLostMark := fun _ => rfl
  power := fun _ => rfl
  sec := fun _ => rfl
  i3c := fun _ => rfl
  jtag := fun _ => rfl
  pins := fun _ => rfl

theorem upd_routeChange_routeHold {m : Nat} {s : State} {x0 x1} (h0 : m.testBit 573 = true) (h1 : m.testBit 574 = true) :
    Keeps m s { s with routeChange := x0, routeHold := x1 } where
  pending := rfl
  reg := fun _ _ _ => rfl
  canon := id
  free := fun _ => rfl
  readback := fun _ => rfl
  status := fun _ => rfl
  latches := fun _ => rfl
  dram := fun _ => rfl
  tens := fun _ => rfl
  badPhys := fun _ => rfl
  badTens := fun _ => rfl
  pages := fun _ => rfl
  keptDescs := fun _ => rfl
  scrubBlock := fun _ => rfl
  load := fun _ => rfl
  secs := fun _ => rfl
  coreMap := fun _ => rfl
  links := fun _ => rfl
  devQueues := fun _ => rfl
  rules := fun _ => rfl
  rulesOn := fun _ => rfl
  rules0 := fun _ => rfl
  live := fun _ => rfl
  repair := fun _ => rfl
  modrec := fun _ => rfl
  panels := fun _ => rfl
  cores := fun _ => rfl
  flights := fun _ => rfl
  nextFlight := fun _ => rfl
  trackers := fun _ => rfl
  trkSaved := fun _ => rfl
  obs := fun _ => rfl
  windows := fun _ => rfl
  micros := fun _ => rfl
  sliceSums := fun _ => rfl
  slices := fun _ => rfl
  stalledSlices := fun _ => rfl
  sideRecs := fun _ => rfl
  sideSums := fun _ => rfl
  masks := fun _ => rfl
  helds := fun _ => rfl
  sentTiles := fun _ => rfl
  updates := fun _ => rfl
  updDone := fun _ => rfl
  ratios := fun _ => rfl
  ratioSnap := fun _ => rfl
  epochs := fun _ => rfl
  openEpochs := fun _ => rfl
  arrivals := fun _ => rfl
  releases := fun _ => rfl
  votes := fun _ => rfl
  voteOut := fun _ => rfl
  forceArmed := fun _ => rfl
  fenceUsed := fun _ => rfl
  openTags := fun _ => rfl
  heldSets := fun _ => rfl
  queues := fun _ => rfl
  ports := fun _ => rfl
  requests := fun _ => rfl
  reqWait := fun _ => rfl
  routes := fun _ => rfl
  uplink := fun _ => rfl
  routeChange := fun h => by rw [h] at h0; exact absurd h0 (by decide)
  routeHold := fun h => by rw [h] at h1; exact absurd h1 (by decide)
  discTodo := fun _ => rfl
  discAsked := fun _ => rfl
  discLinks := fun _ => rfl
  discStarted := fun _ => rfl
  coldPorts := fun _ => rfl
  chans := fun _ => rfl
  groups := fun _ => rfl
  tree := fun _ => rfl
  attnSent := fun _ => rfl
  stewards := fun _ => rfl
  staging := fun _ => rfl
  recFifo := fun _ => rfl
  recLostMark := fun _ => rfl
  power := fun _ => rfl
  sec := fun _ => rfl
  i3c := fun _ => rfl
  jtag := fun _ => rfl
  pins := fun _ => rfl

theorem upd_epochs {m : Nat} {s : State} {x0} (h0 : m.testBit 557 = true) :
    Keeps m s { s with epochs := x0 } where
  pending := rfl
  reg := fun _ _ _ => rfl
  canon := id
  free := fun _ => rfl
  readback := fun _ => rfl
  status := fun _ => rfl
  latches := fun _ => rfl
  dram := fun _ => rfl
  tens := fun _ => rfl
  badPhys := fun _ => rfl
  badTens := fun _ => rfl
  pages := fun _ => rfl
  keptDescs := fun _ => rfl
  scrubBlock := fun _ => rfl
  load := fun _ => rfl
  secs := fun _ => rfl
  coreMap := fun _ => rfl
  links := fun _ => rfl
  devQueues := fun _ => rfl
  rules := fun _ => rfl
  rulesOn := fun _ => rfl
  rules0 := fun _ => rfl
  live := fun _ => rfl
  repair := fun _ => rfl
  modrec := fun _ => rfl
  panels := fun _ => rfl
  cores := fun _ => rfl
  flights := fun _ => rfl
  nextFlight := fun _ => rfl
  trackers := fun _ => rfl
  trkSaved := fun _ => rfl
  obs := fun _ => rfl
  windows := fun _ => rfl
  micros := fun _ => rfl
  sliceSums := fun _ => rfl
  slices := fun _ => rfl
  stalledSlices := fun _ => rfl
  sideRecs := fun _ => rfl
  sideSums := fun _ => rfl
  masks := fun _ => rfl
  helds := fun _ => rfl
  sentTiles := fun _ => rfl
  updates := fun _ => rfl
  updDone := fun _ => rfl
  ratios := fun _ => rfl
  ratioSnap := fun _ => rfl
  epochs := fun h => by rw [h] at h0; exact absurd h0 (by decide)
  openEpochs := fun _ => rfl
  arrivals := fun _ => rfl
  releases := fun _ => rfl
  votes := fun _ => rfl
  voteOut := fun _ => rfl
  forceArmed := fun _ => rfl
  fenceUsed := fun _ => rfl
  openTags := fun _ => rfl
  heldSets := fun _ => rfl
  queues := fun _ => rfl
  ports := fun _ => rfl
  requests := fun _ => rfl
  reqWait := fun _ => rfl
  routes := fun _ => rfl
  uplink := fun _ => rfl
  routeChange := fun _ => rfl
  routeHold := fun _ => rfl
  discTodo := fun _ => rfl
  discAsked := fun _ => rfl
  discLinks := fun _ => rfl
  discStarted := fun _ => rfl
  coldPorts := fun _ => rfl
  chans := fun _ => rfl
  groups := fun _ => rfl
  tree := fun _ => rfl
  attnSent := fun _ => rfl
  stewards := fun _ => rfl
  staging := fun _ => rfl
  recFifo := fun _ => rfl
  recLostMark := fun _ => rfl
  power := fun _ => rfl
  sec := fun _ => rfl
  i3c := fun _ => rfl
  jtag := fun _ => rfl
  pins := fun _ => rfl

theorem upd_votes {m : Nat} {s : State} {x0} (h0 : m.testBit 561 = true) :
    Keeps m s { s with votes := x0 } where
  pending := rfl
  reg := fun _ _ _ => rfl
  canon := id
  free := fun _ => rfl
  readback := fun _ => rfl
  status := fun _ => rfl
  latches := fun _ => rfl
  dram := fun _ => rfl
  tens := fun _ => rfl
  badPhys := fun _ => rfl
  badTens := fun _ => rfl
  pages := fun _ => rfl
  keptDescs := fun _ => rfl
  scrubBlock := fun _ => rfl
  load := fun _ => rfl
  secs := fun _ => rfl
  coreMap := fun _ => rfl
  links := fun _ => rfl
  devQueues := fun _ => rfl
  rules := fun _ => rfl
  rulesOn := fun _ => rfl
  rules0 := fun _ => rfl
  live := fun _ => rfl
  repair := fun _ => rfl
  modrec := fun _ => rfl
  panels := fun _ => rfl
  cores := fun _ => rfl
  flights := fun _ => rfl
  nextFlight := fun _ => rfl
  trackers := fun _ => rfl
  trkSaved := fun _ => rfl
  obs := fun _ => rfl
  windows := fun _ => rfl
  micros := fun _ => rfl
  sliceSums := fun _ => rfl
  slices := fun _ => rfl
  stalledSlices := fun _ => rfl
  sideRecs := fun _ => rfl
  sideSums := fun _ => rfl
  masks := fun _ => rfl
  helds := fun _ => rfl
  sentTiles := fun _ => rfl
  updates := fun _ => rfl
  updDone := fun _ => rfl
  ratios := fun _ => rfl
  ratioSnap := fun _ => rfl
  epochs := fun _ => rfl
  openEpochs := fun _ => rfl
  arrivals := fun _ => rfl
  releases := fun _ => rfl
  votes := fun h => by rw [h] at h0; exact absurd h0 (by decide)
  voteOut := fun _ => rfl
  forceArmed := fun _ => rfl
  fenceUsed := fun _ => rfl
  openTags := fun _ => rfl
  heldSets := fun _ => rfl
  queues := fun _ => rfl
  ports := fun _ => rfl
  requests := fun _ => rfl
  reqWait := fun _ => rfl
  routes := fun _ => rfl
  uplink := fun _ => rfl
  routeChange := fun _ => rfl
  routeHold := fun _ => rfl
  discTodo := fun _ => rfl
  discAsked := fun _ => rfl
  discLinks := fun _ => rfl
  discStarted := fun _ => rfl
  coldPorts := fun _ => rfl
  chans := fun _ => rfl
  groups := fun _ => rfl
  tree := fun _ => rfl
  attnSent := fun _ => rfl
  stewards := fun _ => rfl
  staging := fun _ => rfl
  recFifo := fun _ => rfl
  recLostMark := fun _ => rfl
  power := fun _ => rfl
  sec := fun _ => rfl
  i3c := fun _ => rfl
  jtag := fun _ => rfl
  pins := fun _ => rfl

theorem upd_discAsked {m : Nat} {s : State} {x0} (h0 : m.testBit 576 = true) :
    Keeps m s { s with discAsked := x0 } where
  pending := rfl
  reg := fun _ _ _ => rfl
  canon := id
  free := fun _ => rfl
  readback := fun _ => rfl
  status := fun _ => rfl
  latches := fun _ => rfl
  dram := fun _ => rfl
  tens := fun _ => rfl
  badPhys := fun _ => rfl
  badTens := fun _ => rfl
  pages := fun _ => rfl
  keptDescs := fun _ => rfl
  scrubBlock := fun _ => rfl
  load := fun _ => rfl
  secs := fun _ => rfl
  coreMap := fun _ => rfl
  links := fun _ => rfl
  devQueues := fun _ => rfl
  rules := fun _ => rfl
  rulesOn := fun _ => rfl
  rules0 := fun _ => rfl
  live := fun _ => rfl
  repair := fun _ => rfl
  modrec := fun _ => rfl
  panels := fun _ => rfl
  cores := fun _ => rfl
  flights := fun _ => rfl
  nextFlight := fun _ => rfl
  trackers := fun _ => rfl
  trkSaved := fun _ => rfl
  obs := fun _ => rfl
  windows := fun _ => rfl
  micros := fun _ => rfl
  sliceSums := fun _ => rfl
  slices := fun _ => rfl
  stalledSlices := fun _ => rfl
  sideRecs := fun _ => rfl
  sideSums := fun _ => rfl
  masks := fun _ => rfl
  helds := fun _ => rfl
  sentTiles := fun _ => rfl
  updates := fun _ => rfl
  updDone := fun _ => rfl
  ratios := fun _ => rfl
  ratioSnap := fun _ => rfl
  epochs := fun _ => rfl
  openEpochs := fun _ => rfl
  arrivals := fun _ => rfl
  releases := fun _ => rfl
  votes := fun _ => rfl
  voteOut := fun _ => rfl
  forceArmed := fun _ => rfl
  fenceUsed := fun _ => rfl
  openTags := fun _ => rfl
  heldSets := fun _ => rfl
  queues := fun _ => rfl
  ports := fun _ => rfl
  requests := fun _ => rfl
  reqWait := fun _ => rfl
  routes := fun _ => rfl
  uplink := fun _ => rfl
  routeChange := fun _ => rfl
  routeHold := fun _ => rfl
  discTodo := fun _ => rfl
  discAsked := fun h => by rw [h] at h0; exact absurd h0 (by decide)
  discLinks := fun _ => rfl
  discStarted := fun _ => rfl
  coldPorts := fun _ => rfl
  chans := fun _ => rfl
  groups := fun _ => rfl
  tree := fun _ => rfl
  attnSent := fun _ => rfl
  stewards := fun _ => rfl
  staging := fun _ => rfl
  recFifo := fun _ => rfl
  recLostMark := fun _ => rfl
  power := fun _ => rfl
  sec := fun _ => rfl
  i3c := fun _ => rfl
  jtag := fun _ => rfl
  pins := fun _ => rfl

theorem upd_requests_discAsked {m : Nat} {s : State} {x0 x1} (h0 : m.testBit 569 = true) (h1 : m.testBit 576 = true) :
    Keeps m s { s with requests := x0, discAsked := x1 } where
  pending := rfl
  reg := fun _ _ _ => rfl
  canon := id
  free := fun _ => rfl
  readback := fun _ => rfl
  status := fun _ => rfl
  latches := fun _ => rfl
  dram := fun _ => rfl
  tens := fun _ => rfl
  badPhys := fun _ => rfl
  badTens := fun _ => rfl
  pages := fun _ => rfl
  keptDescs := fun _ => rfl
  scrubBlock := fun _ => rfl
  load := fun _ => rfl
  secs := fun _ => rfl
  coreMap := fun _ => rfl
  links := fun _ => rfl
  devQueues := fun _ => rfl
  rules := fun _ => rfl
  rulesOn := fun _ => rfl
  rules0 := fun _ => rfl
  live := fun _ => rfl
  repair := fun _ => rfl
  modrec := fun _ => rfl
  panels := fun _ => rfl
  cores := fun _ => rfl
  flights := fun _ => rfl
  nextFlight := fun _ => rfl
  trackers := fun _ => rfl
  trkSaved := fun _ => rfl
  obs := fun _ => rfl
  windows := fun _ => rfl
  micros := fun _ => rfl
  sliceSums := fun _ => rfl
  slices := fun _ => rfl
  stalledSlices := fun _ => rfl
  sideRecs := fun _ => rfl
  sideSums := fun _ => rfl
  masks := fun _ => rfl
  helds := fun _ => rfl
  sentTiles := fun _ => rfl
  updates := fun _ => rfl
  updDone := fun _ => rfl
  ratios := fun _ => rfl
  ratioSnap := fun _ => rfl
  epochs := fun _ => rfl
  openEpochs := fun _ => rfl
  arrivals := fun _ => rfl
  releases := fun _ => rfl
  votes := fun _ => rfl
  voteOut := fun _ => rfl
  forceArmed := fun _ => rfl
  fenceUsed := fun _ => rfl
  openTags := fun _ => rfl
  heldSets := fun _ => rfl
  queues := fun _ => rfl
  ports := fun _ => rfl
  requests := fun h => by rw [h] at h0; exact absurd h0 (by decide)
  reqWait := fun _ => rfl
  routes := fun _ => rfl
  uplink := fun _ => rfl
  routeChange := fun _ => rfl
  routeHold := fun _ => rfl
  discTodo := fun _ => rfl
  discAsked := fun h => by rw [h] at h1; exact absurd h1 (by decide)
  discLinks := fun _ => rfl
  discStarted := fun _ => rfl
  coldPorts := fun _ => rfl
  chans := fun _ => rfl
  groups := fun _ => rfl
  tree := fun _ => rfl
  attnSent := fun _ => rfl
  stewards := fun _ => rfl
  staging := fun _ => rfl
  recFifo := fun _ => rfl
  recLostMark := fun _ => rfl
  power := fun _ => rfl
  sec := fun _ => rfl
  i3c := fun _ => rfl
  jtag := fun _ => rfl
  pins := fun _ => rfl

theorem upd_discTodo_discAsked {m : Nat} {s : State} {x0 x1} (h0 : m.testBit 575 = true) (h1 : m.testBit 576 = true) :
    Keeps m s { s with discTodo := x0, discAsked := x1 } where
  pending := rfl
  reg := fun _ _ _ => rfl
  canon := id
  free := fun _ => rfl
  readback := fun _ => rfl
  status := fun _ => rfl
  latches := fun _ => rfl
  dram := fun _ => rfl
  tens := fun _ => rfl
  badPhys := fun _ => rfl
  badTens := fun _ => rfl
  pages := fun _ => rfl
  keptDescs := fun _ => rfl
  scrubBlock := fun _ => rfl
  load := fun _ => rfl
  secs := fun _ => rfl
  coreMap := fun _ => rfl
  links := fun _ => rfl
  devQueues := fun _ => rfl
  rules := fun _ => rfl
  rulesOn := fun _ => rfl
  rules0 := fun _ => rfl
  live := fun _ => rfl
  repair := fun _ => rfl
  modrec := fun _ => rfl
  panels := fun _ => rfl
  cores := fun _ => rfl
  flights := fun _ => rfl
  nextFlight := fun _ => rfl
  trackers := fun _ => rfl
  trkSaved := fun _ => rfl
  obs := fun _ => rfl
  windows := fun _ => rfl
  micros := fun _ => rfl
  sliceSums := fun _ => rfl
  slices := fun _ => rfl
  stalledSlices := fun _ => rfl
  sideRecs := fun _ => rfl
  sideSums := fun _ => rfl
  masks := fun _ => rfl
  helds := fun _ => rfl
  sentTiles := fun _ => rfl
  updates := fun _ => rfl
  updDone := fun _ => rfl
  ratios := fun _ => rfl
  ratioSnap := fun _ => rfl
  epochs := fun _ => rfl
  openEpochs := fun _ => rfl
  arrivals := fun _ => rfl
  releases := fun _ => rfl
  votes := fun _ => rfl
  voteOut := fun _ => rfl
  forceArmed := fun _ => rfl
  fenceUsed := fun _ => rfl
  openTags := fun _ => rfl
  heldSets := fun _ => rfl
  queues := fun _ => rfl
  ports := fun _ => rfl
  requests := fun _ => rfl
  reqWait := fun _ => rfl
  routes := fun _ => rfl
  uplink := fun _ => rfl
  routeChange := fun _ => rfl
  routeHold := fun _ => rfl
  discTodo := fun h => by rw [h] at h0; exact absurd h0 (by decide)
  discAsked := fun h => by rw [h] at h1; exact absurd h1 (by decide)
  discLinks := fun _ => rfl
  discStarted := fun _ => rfl
  coldPorts := fun _ => rfl
  chans := fun _ => rfl
  groups := fun _ => rfl
  tree := fun _ => rfl
  attnSent := fun _ => rfl
  stewards := fun _ => rfl
  staging := fun _ => rfl
  recFifo := fun _ => rfl
  recLostMark := fun _ => rfl
  power := fun _ => rfl
  sec := fun _ => rfl
  i3c := fun _ => rfl
  jtag := fun _ => rfl
  pins := fun _ => rfl

theorem upd_openTags_heldSets {m : Nat} {s : State} {x0 x1} (h0 : m.testBit 565 = true) (h1 : m.testBit 566 = true) :
    Keeps m s { s with openTags := x0, heldSets := x1 } where
  pending := rfl
  reg := fun _ _ _ => rfl
  canon := id
  free := fun _ => rfl
  readback := fun _ => rfl
  status := fun _ => rfl
  latches := fun _ => rfl
  dram := fun _ => rfl
  tens := fun _ => rfl
  badPhys := fun _ => rfl
  badTens := fun _ => rfl
  pages := fun _ => rfl
  keptDescs := fun _ => rfl
  scrubBlock := fun _ => rfl
  load := fun _ => rfl
  secs := fun _ => rfl
  coreMap := fun _ => rfl
  links := fun _ => rfl
  devQueues := fun _ => rfl
  rules := fun _ => rfl
  rulesOn := fun _ => rfl
  rules0 := fun _ => rfl
  live := fun _ => rfl
  repair := fun _ => rfl
  modrec := fun _ => rfl
  panels := fun _ => rfl
  cores := fun _ => rfl
  flights := fun _ => rfl
  nextFlight := fun _ => rfl
  trackers := fun _ => rfl
  trkSaved := fun _ => rfl
  obs := fun _ => rfl
  windows := fun _ => rfl
  micros := fun _ => rfl
  sliceSums := fun _ => rfl
  slices := fun _ => rfl
  stalledSlices := fun _ => rfl
  sideRecs := fun _ => rfl
  sideSums := fun _ => rfl
  masks := fun _ => rfl
  helds := fun _ => rfl
  sentTiles := fun _ => rfl
  updates := fun _ => rfl
  updDone := fun _ => rfl
  ratios := fun _ => rfl
  ratioSnap := fun _ => rfl
  epochs := fun _ => rfl
  openEpochs := fun _ => rfl
  arrivals := fun _ => rfl
  releases := fun _ => rfl
  votes := fun _ => rfl
  voteOut := fun _ => rfl
  forceArmed := fun _ => rfl
  fenceUsed := fun _ => rfl
  openTags := fun h => by rw [h] at h0; exact absurd h0 (by decide)
  heldSets := fun h => by rw [h] at h1; exact absurd h1 (by decide)
  queues := fun _ => rfl
  ports := fun _ => rfl
  requests := fun _ => rfl
  reqWait := fun _ => rfl
  routes := fun _ => rfl
  uplink := fun _ => rfl
  routeChange := fun _ => rfl
  routeHold := fun _ => rfl
  discTodo := fun _ => rfl
  discAsked := fun _ => rfl
  discLinks := fun _ => rfl
  discStarted := fun _ => rfl
  coldPorts := fun _ => rfl
  chans := fun _ => rfl
  groups := fun _ => rfl
  tree := fun _ => rfl
  attnSent := fun _ => rfl
  stewards := fun _ => rfl
  staging := fun _ => rfl
  recFifo := fun _ => rfl
  recLostMark := fun _ => rfl
  power := fun _ => rfl
  sec := fun _ => rfl
  i3c := fun _ => rfl
  jtag := fun _ => rfl
  pins := fun _ => rfl

theorem upd_reqWait {m : Nat} {s : State} {x0} (h0 : m.testBit 570 = true) :
    Keeps m s { s with reqWait := x0 } where
  pending := rfl
  reg := fun _ _ _ => rfl
  canon := id
  free := fun _ => rfl
  readback := fun _ => rfl
  status := fun _ => rfl
  latches := fun _ => rfl
  dram := fun _ => rfl
  tens := fun _ => rfl
  badPhys := fun _ => rfl
  badTens := fun _ => rfl
  pages := fun _ => rfl
  keptDescs := fun _ => rfl
  scrubBlock := fun _ => rfl
  load := fun _ => rfl
  secs := fun _ => rfl
  coreMap := fun _ => rfl
  links := fun _ => rfl
  devQueues := fun _ => rfl
  rules := fun _ => rfl
  rulesOn := fun _ => rfl
  rules0 := fun _ => rfl
  live := fun _ => rfl
  repair := fun _ => rfl
  modrec := fun _ => rfl
  panels := fun _ => rfl
  cores := fun _ => rfl
  flights := fun _ => rfl
  nextFlight := fun _ => rfl
  trackers := fun _ => rfl
  trkSaved := fun _ => rfl
  obs := fun _ => rfl
  windows := fun _ => rfl
  micros := fun _ => rfl
  sliceSums := fun _ => rfl
  slices := fun _ => rfl
  stalledSlices := fun _ => rfl
  sideRecs := fun _ => rfl
  sideSums := fun _ => rfl
  masks := fun _ => rfl
  helds := fun _ => rfl
  sentTiles := fun _ => rfl
  updates := fun _ => rfl
  updDone := fun _ => rfl
  ratios := fun _ => rfl
  ratioSnap := fun _ => rfl
  epochs := fun _ => rfl
  openEpochs := fun _ => rfl
  arrivals := fun _ => rfl
  releases := fun _ => rfl
  votes := fun _ => rfl
  voteOut := fun _ => rfl
  forceArmed := fun _ => rfl
  fenceUsed := fun _ => rfl
  openTags := fun _ => rfl
  heldSets := fun _ => rfl
  queues := fun _ => rfl
  ports := fun _ => rfl
  requests := fun _ => rfl
  reqWait := fun h => by rw [h] at h0; exact absurd h0 (by decide)
  routes := fun _ => rfl
  uplink := fun _ => rfl
  routeChange := fun _ => rfl
  routeHold := fun _ => rfl
  discTodo := fun _ => rfl
  discAsked := fun _ => rfl
  discLinks := fun _ => rfl
  discStarted := fun _ => rfl
  coldPorts := fun _ => rfl
  chans := fun _ => rfl
  groups := fun _ => rfl
  tree := fun _ => rfl
  attnSent := fun _ => rfl
  stewards := fun _ => rfl
  staging := fun _ => rfl
  recFifo := fun _ => rfl
  recLostMark := fun _ => rfl
  power := fun _ => rfl
  sec := fun _ => rfl
  i3c := fun _ => rfl
  jtag := fun _ => rfl
  pins := fun _ => rfl

theorem upd_sliceSums_sideRecs {m : Nat} {s : State} {x0 x1} (h0 : m.testBit 545 = true) (h1 : m.testBit 548 = true) :
    Keeps m s { s with sliceSums := x0, sideRecs := x1 } where
  pending := rfl
  reg := fun _ _ _ => rfl
  canon := id
  free := fun _ => rfl
  readback := fun _ => rfl
  status := fun _ => rfl
  latches := fun _ => rfl
  dram := fun _ => rfl
  tens := fun _ => rfl
  badPhys := fun _ => rfl
  badTens := fun _ => rfl
  pages := fun _ => rfl
  keptDescs := fun _ => rfl
  scrubBlock := fun _ => rfl
  load := fun _ => rfl
  secs := fun _ => rfl
  coreMap := fun _ => rfl
  links := fun _ => rfl
  devQueues := fun _ => rfl
  rules := fun _ => rfl
  rulesOn := fun _ => rfl
  rules0 := fun _ => rfl
  live := fun _ => rfl
  repair := fun _ => rfl
  modrec := fun _ => rfl
  panels := fun _ => rfl
  cores := fun _ => rfl
  flights := fun _ => rfl
  nextFlight := fun _ => rfl
  trackers := fun _ => rfl
  trkSaved := fun _ => rfl
  obs := fun _ => rfl
  windows := fun _ => rfl
  micros := fun _ => rfl
  sliceSums := fun h => by rw [h] at h0; exact absurd h0 (by decide)
  slices := fun _ => rfl
  stalledSlices := fun _ => rfl
  sideRecs := fun h => by rw [h] at h1; exact absurd h1 (by decide)
  sideSums := fun _ => rfl
  masks := fun _ => rfl
  helds := fun _ => rfl
  sentTiles := fun _ => rfl
  updates := fun _ => rfl
  updDone := fun _ => rfl
  ratios := fun _ => rfl
  ratioSnap := fun _ => rfl
  epochs := fun _ => rfl
  openEpochs := fun _ => rfl
  arrivals := fun _ => rfl
  releases := fun _ => rfl
  votes := fun _ => rfl
  voteOut := fun _ => rfl
  forceArmed := fun _ => rfl
  fenceUsed := fun _ => rfl
  openTags := fun _ => rfl
  heldSets := fun _ => rfl
  queues := fun _ => rfl
  ports := fun _ => rfl
  requests := fun _ => rfl
  reqWait := fun _ => rfl
  routes := fun _ => rfl
  uplink := fun _ => rfl
  routeChange := fun _ => rfl
  routeHold := fun _ => rfl
  discTodo := fun _ => rfl
  discAsked := fun _ => rfl
  discLinks := fun _ => rfl
  discStarted := fun _ => rfl
  coldPorts := fun _ => rfl
  chans := fun _ => rfl
  groups := fun _ => rfl
  tree := fun _ => rfl
  attnSent := fun _ => rfl
  stewards := fun _ => rfl
  staging := fun _ => rfl
  recFifo := fun _ => rfl
  recLostMark := fun _ => rfl
  power := fun _ => rfl
  sec := fun _ => rfl
  i3c := fun _ => rfl
  jtag := fun _ => rfl
  pins := fun _ => rfl

theorem upd_heldSets {m : Nat} {s : State} {x0} (h0 : m.testBit 566 = true) :
    Keeps m s { s with heldSets := x0 } where
  pending := rfl
  reg := fun _ _ _ => rfl
  canon := id
  free := fun _ => rfl
  readback := fun _ => rfl
  status := fun _ => rfl
  latches := fun _ => rfl
  dram := fun _ => rfl
  tens := fun _ => rfl
  badPhys := fun _ => rfl
  badTens := fun _ => rfl
  pages := fun _ => rfl
  keptDescs := fun _ => rfl
  scrubBlock := fun _ => rfl
  load := fun _ => rfl
  secs := fun _ => rfl
  coreMap := fun _ => rfl
  links := fun _ => rfl
  devQueues := fun _ => rfl
  rules := fun _ => rfl
  rulesOn := fun _ => rfl
  rules0 := fun _ => rfl
  live := fun _ => rfl
  repair := fun _ => rfl
  modrec := fun _ => rfl
  panels := fun _ => rfl
  cores := fun _ => rfl
  flights := fun _ => rfl
  nextFlight := fun _ => rfl
  trackers := fun _ => rfl
  trkSaved := fun _ => rfl
  obs := fun _ => rfl
  windows := fun _ => rfl
  micros := fun _ => rfl
  sliceSums := fun _ => rfl
  slices := fun _ => rfl
  stalledSlices := fun _ => rfl
  sideRecs := fun _ => rfl
  sideSums := fun _ => rfl
  masks := fun _ => rfl
  helds := fun _ => rfl
  sentTiles := fun _ => rfl
  updates := fun _ => rfl
  updDone := fun _ => rfl
  ratios := fun _ => rfl
  ratioSnap := fun _ => rfl
  epochs := fun _ => rfl
  openEpochs := fun _ => rfl
  arrivals := fun _ => rfl
  releases := fun _ => rfl
  votes := fun _ => rfl
  voteOut := fun _ => rfl
  forceArmed := fun _ => rfl
  fenceUsed := fun _ => rfl
  openTags := fun _ => rfl
  heldSets := fun h => by rw [h] at h0; exact absurd h0 (by decide)
  queues := fun _ => rfl
  ports := fun _ => rfl
  requests := fun _ => rfl
  reqWait := fun _ => rfl
  routes := fun _ => rfl
  uplink := fun _ => rfl
  routeChange := fun _ => rfl
  routeHold := fun _ => rfl
  discTodo := fun _ => rfl
  discAsked := fun _ => rfl
  discLinks := fun _ => rfl
  discStarted := fun _ => rfl
  coldPorts := fun _ => rfl
  chans := fun _ => rfl
  groups := fun _ => rfl
  tree := fun _ => rfl
  attnSent := fun _ => rfl
  stewards := fun _ => rfl
  staging := fun _ => rfl
  recFifo := fun _ => rfl
  recLostMark := fun _ => rfl
  power := fun _ => rfl
  sec := fun _ => rfl
  i3c := fun _ => rfl
  jtag := fun _ => rfl
  pins := fun _ => rfl

theorem upd_discTodo_discLinks_discStarted {m : Nat} {s : State} {x0 x1 x2} (h0 : m.testBit 575 = true) (h1 : m.testBit 577 = true) (h2 : m.testBit 578 = true) :
    Keeps m s { s with discTodo := x0, discLinks := x1, discStarted := x2 } where
  pending := rfl
  reg := fun _ _ _ => rfl
  canon := id
  free := fun _ => rfl
  readback := fun _ => rfl
  status := fun _ => rfl
  latches := fun _ => rfl
  dram := fun _ => rfl
  tens := fun _ => rfl
  badPhys := fun _ => rfl
  badTens := fun _ => rfl
  pages := fun _ => rfl
  keptDescs := fun _ => rfl
  scrubBlock := fun _ => rfl
  load := fun _ => rfl
  secs := fun _ => rfl
  coreMap := fun _ => rfl
  links := fun _ => rfl
  devQueues := fun _ => rfl
  rules := fun _ => rfl
  rulesOn := fun _ => rfl
  rules0 := fun _ => rfl
  live := fun _ => rfl
  repair := fun _ => rfl
  modrec := fun _ => rfl
  panels := fun _ => rfl
  cores := fun _ => rfl
  flights := fun _ => rfl
  nextFlight := fun _ => rfl
  trackers := fun _ => rfl
  trkSaved := fun _ => rfl
  obs := fun _ => rfl
  windows := fun _ => rfl
  micros := fun _ => rfl
  sliceSums := fun _ => rfl
  slices := fun _ => rfl
  stalledSlices := fun _ => rfl
  sideRecs := fun _ => rfl
  sideSums := fun _ => rfl
  masks := fun _ => rfl
  helds := fun _ => rfl
  sentTiles := fun _ => rfl
  updates := fun _ => rfl
  updDone := fun _ => rfl
  ratios := fun _ => rfl
  ratioSnap := fun _ => rfl
  epochs := fun _ => rfl
  openEpochs := fun _ => rfl
  arrivals := fun _ => rfl
  releases := fun _ => rfl
  votes := fun _ => rfl
  voteOut := fun _ => rfl
  forceArmed := fun _ => rfl
  fenceUsed := fun _ => rfl
  openTags := fun _ => rfl
  heldSets := fun _ => rfl
  queues := fun _ => rfl
  ports := fun _ => rfl
  requests := fun _ => rfl
  reqWait := fun _ => rfl
  routes := fun _ => rfl
  uplink := fun _ => rfl
  routeChange := fun _ => rfl
  routeHold := fun _ => rfl
  discTodo := fun h => by rw [h] at h0; exact absurd h0 (by decide)
  discAsked := fun _ => rfl
  discLinks := fun h => by rw [h] at h1; exact absurd h1 (by decide)
  discStarted := fun h => by rw [h] at h2; exact absurd h2 (by decide)
  coldPorts := fun _ => rfl
  chans := fun _ => rfl
  groups := fun _ => rfl
  tree := fun _ => rfl
  attnSent := fun _ => rfl
  stewards := fun _ => rfl
  staging := fun _ => rfl
  recFifo := fun _ => rfl
  recLostMark := fun _ => rfl
  power := fun _ => rfl
  sec := fun _ => rfl
  i3c := fun _ => rfl
  jtag := fun _ => rfl
  pins := fun _ => rfl

theorem upd_updates {m : Nat} {s : State} {x0} (h0 : m.testBit 553 = true) :
    Keeps m s { s with updates := x0 } where
  pending := rfl
  reg := fun _ _ _ => rfl
  canon := id
  free := fun _ => rfl
  readback := fun _ => rfl
  status := fun _ => rfl
  latches := fun _ => rfl
  dram := fun _ => rfl
  tens := fun _ => rfl
  badPhys := fun _ => rfl
  badTens := fun _ => rfl
  pages := fun _ => rfl
  keptDescs := fun _ => rfl
  scrubBlock := fun _ => rfl
  load := fun _ => rfl
  secs := fun _ => rfl
  coreMap := fun _ => rfl
  links := fun _ => rfl
  devQueues := fun _ => rfl
  rules := fun _ => rfl
  rulesOn := fun _ => rfl
  rules0 := fun _ => rfl
  live := fun _ => rfl
  repair := fun _ => rfl
  modrec := fun _ => rfl
  panels := fun _ => rfl
  cores := fun _ => rfl
  flights := fun _ => rfl
  nextFlight := fun _ => rfl
  trackers := fun _ => rfl
  trkSaved := fun _ => rfl
  obs := fun _ => rfl
  windows := fun _ => rfl
  micros := fun _ => rfl
  sliceSums := fun _ => rfl
  slices := fun _ => rfl
  stalledSlices := fun _ => rfl
  sideRecs := fun _ => rfl
  sideSums := fun _ => rfl
  masks := fun _ => rfl
  helds := fun _ => rfl
  sentTiles := fun _ => rfl
  updates := fun h => by rw [h] at h0; exact absurd h0 (by decide)
  updDone := fun _ => rfl
  ratios := fun _ => rfl
  ratioSnap := fun _ => rfl
  epochs := fun _ => rfl
  openEpochs := fun _ => rfl
  arrivals := fun _ => rfl
  releases := fun _ => rfl
  votes := fun _ => rfl
  voteOut := fun _ => rfl
  forceArmed := fun _ => rfl
  fenceUsed := fun _ => rfl
  openTags := fun _ => rfl
  heldSets := fun _ => rfl
  queues := fun _ => rfl
  ports := fun _ => rfl
  requests := fun _ => rfl
  reqWait := fun _ => rfl
  routes := fun _ => rfl
  uplink := fun _ => rfl
  routeChange := fun _ => rfl
  routeHold := fun _ => rfl
  discTodo := fun _ => rfl
  discAsked := fun _ => rfl
  discLinks := fun _ => rfl
  discStarted := fun _ => rfl
  coldPorts := fun _ => rfl
  chans := fun _ => rfl
  groups := fun _ => rfl
  tree := fun _ => rfl
  attnSent := fun _ => rfl
  stewards := fun _ => rfl
  staging := fun _ => rfl
  recFifo := fun _ => rfl
  recLostMark := fun _ => rfl
  power := fun _ => rfl
  sec := fun _ => rfl
  i3c := fun _ => rfl
  jtag := fun _ => rfl
  pins := fun _ => rfl

theorem upd_discLinks {m : Nat} {s : State} {x0} (h0 : m.testBit 577 = true) :
    Keeps m s { s with discLinks := x0 } where
  pending := rfl
  reg := fun _ _ _ => rfl
  canon := id
  free := fun _ => rfl
  readback := fun _ => rfl
  status := fun _ => rfl
  latches := fun _ => rfl
  dram := fun _ => rfl
  tens := fun _ => rfl
  badPhys := fun _ => rfl
  badTens := fun _ => rfl
  pages := fun _ => rfl
  keptDescs := fun _ => rfl
  scrubBlock := fun _ => rfl
  load := fun _ => rfl
  secs := fun _ => rfl
  coreMap := fun _ => rfl
  links := fun _ => rfl
  devQueues := fun _ => rfl
  rules := fun _ => rfl
  rulesOn := fun _ => rfl
  rules0 := fun _ => rfl
  live := fun _ => rfl
  repair := fun _ => rfl
  modrec := fun _ => rfl
  panels := fun _ => rfl
  cores := fun _ => rfl
  flights := fun _ => rfl
  nextFlight := fun _ => rfl
  trackers := fun _ => rfl
  trkSaved := fun _ => rfl
  obs := fun _ => rfl
  windows := fun _ => rfl
  micros := fun _ => rfl
  sliceSums := fun _ => rfl
  slices := fun _ => rfl
  stalledSlices := fun _ => rfl
  sideRecs := fun _ => rfl
  sideSums := fun _ => rfl
  masks := fun _ => rfl
  helds := fun _ => rfl
  sentTiles := fun _ => rfl
  updates := fun _ => rfl
  updDone := fun _ => rfl
  ratios := fun _ => rfl
  ratioSnap := fun _ => rfl
  epochs := fun _ => rfl
  openEpochs := fun _ => rfl
  arrivals := fun _ => rfl
  releases := fun _ => rfl
  votes := fun _ => rfl
  voteOut := fun _ => rfl
  forceArmed := fun _ => rfl
  fenceUsed := fun _ => rfl
  openTags := fun _ => rfl
  heldSets := fun _ => rfl
  queues := fun _ => rfl
  ports := fun _ => rfl
  requests := fun _ => rfl
  reqWait := fun _ => rfl
  routes := fun _ => rfl
  uplink := fun _ => rfl
  routeChange := fun _ => rfl
  routeHold := fun _ => rfl
  discTodo := fun _ => rfl
  discAsked := fun _ => rfl
  discLinks := fun h => by rw [h] at h0; exact absurd h0 (by decide)
  discStarted := fun _ => rfl
  coldPorts := fun _ => rfl
  chans := fun _ => rfl
  groups := fun _ => rfl
  tree := fun _ => rfl
  attnSent := fun _ => rfl
  stewards := fun _ => rfl
  staging := fun _ => rfl
  recFifo := fun _ => rfl
  recLostMark := fun _ => rfl
  power := fun _ => rfl
  sec := fun _ => rfl
  i3c := fun _ => rfl
  jtag := fun _ => rfl
  pins := fun _ => rfl

theorem upd_micros {m : Nat} {s : State} {x0} (h0 : m.testBit 544 = true) :
    Keeps m s { s with micros := x0 } where
  pending := rfl
  reg := fun _ _ _ => rfl
  canon := id
  free := fun _ => rfl
  readback := fun _ => rfl
  status := fun _ => rfl
  latches := fun _ => rfl
  dram := fun _ => rfl
  tens := fun _ => rfl
  badPhys := fun _ => rfl
  badTens := fun _ => rfl
  pages := fun _ => rfl
  keptDescs := fun _ => rfl
  scrubBlock := fun _ => rfl
  load := fun _ => rfl
  secs := fun _ => rfl
  coreMap := fun _ => rfl
  links := fun _ => rfl
  devQueues := fun _ => rfl
  rules := fun _ => rfl
  rulesOn := fun _ => rfl
  rules0 := fun _ => rfl
  live := fun _ => rfl
  repair := fun _ => rfl
  modrec := fun _ => rfl
  panels := fun _ => rfl
  cores := fun _ => rfl
  flights := fun _ => rfl
  nextFlight := fun _ => rfl
  trackers := fun _ => rfl
  trkSaved := fun _ => rfl
  obs := fun _ => rfl
  windows := fun _ => rfl
  micros := fun h => by rw [h] at h0; exact absurd h0 (by decide)
  sliceSums := fun _ => rfl
  slices := fun _ => rfl
  stalledSlices := fun _ => rfl
  sideRecs := fun _ => rfl
  sideSums := fun _ => rfl
  masks := fun _ => rfl
  helds := fun _ => rfl
  sentTiles := fun _ => rfl
  updates := fun _ => rfl
  updDone := fun _ => rfl
  ratios := fun _ => rfl
  ratioSnap := fun _ => rfl
  epochs := fun _ => rfl
  openEpochs := fun _ => rfl
  arrivals := fun _ => rfl
  releases := fun _ => rfl
  votes := fun _ => rfl
  voteOut := fun _ => rfl
  forceArmed := fun _ => rfl
  fenceUsed := fun _ => rfl
  openTags := fun _ => rfl
  heldSets := fun _ => rfl
  queues := fun _ => rfl
  ports := fun _ => rfl
  requests := fun _ => rfl
  reqWait := fun _ => rfl
  routes := fun _ => rfl
  uplink := fun _ => rfl
  routeChange := fun _ => rfl
  routeHold := fun _ => rfl
  discTodo := fun _ => rfl
  discAsked := fun _ => rfl
  discLinks := fun _ => rfl
  discStarted := fun _ => rfl
  coldPorts := fun _ => rfl
  chans := fun _ => rfl
  groups := fun _ => rfl
  tree := fun _ => rfl
  attnSent := fun _ => rfl
  stewards := fun _ => rfl
  staging := fun _ => rfl
  recFifo := fun _ => rfl
  recLostMark := fun _ => rfl
  power := fun _ => rfl
  sec := fun _ => rfl
  i3c := fun _ => rfl
  jtag := fun _ => rfl
  pins := fun _ => rfl

theorem upd_keptDescs {m : Nat} {s : State} {x0} (h0 : m.testBit 523 = true) :
    Keeps m s { s with keptDescs := x0 } where
  pending := rfl
  reg := fun _ _ _ => rfl
  canon := id
  free := fun _ => rfl
  readback := fun _ => rfl
  status := fun _ => rfl
  latches := fun _ => rfl
  dram := fun _ => rfl
  tens := fun _ => rfl
  badPhys := fun _ => rfl
  badTens := fun _ => rfl
  pages := fun _ => rfl
  keptDescs := fun h => by rw [h] at h0; exact absurd h0 (by decide)
  scrubBlock := fun _ => rfl
  load := fun _ => rfl
  secs := fun _ => rfl
  coreMap := fun _ => rfl
  links := fun _ => rfl
  devQueues := fun _ => rfl
  rules := fun _ => rfl
  rulesOn := fun _ => rfl
  rules0 := fun _ => rfl
  live := fun _ => rfl
  repair := fun _ => rfl
  modrec := fun _ => rfl
  panels := fun _ => rfl
  cores := fun _ => rfl
  flights := fun _ => rfl
  nextFlight := fun _ => rfl
  trackers := fun _ => rfl
  trkSaved := fun _ => rfl
  obs := fun _ => rfl
  windows := fun _ => rfl
  micros := fun _ => rfl
  sliceSums := fun _ => rfl
  slices := fun _ => rfl
  stalledSlices := fun _ => rfl
  sideRecs := fun _ => rfl
  sideSums := fun _ => rfl
  masks := fun _ => rfl
  helds := fun _ => rfl
  sentTiles := fun _ => rfl
  updates := fun _ => rfl
  updDone := fun _ => rfl
  ratios := fun _ => rfl
  ratioSnap := fun _ => rfl
  epochs := fun _ => rfl
  openEpochs := fun _ => rfl
  arrivals := fun _ => rfl
  releases := fun _ => rfl
  votes := fun _ => rfl
  voteOut := fun _ => rfl
  forceArmed := fun _ => rfl
  fenceUsed := fun _ => rfl
  openTags := fun _ => rfl
  heldSets := fun _ => rfl
  queues := fun _ => rfl
  ports := fun _ => rfl
  requests := fun _ => rfl
  reqWait := fun _ => rfl
  routes := fun _ => rfl
  uplink := fun _ => rfl
  routeChange := fun _ => rfl
  routeHold := fun _ => rfl
  discTodo := fun _ => rfl
  discAsked := fun _ => rfl
  discLinks := fun _ => rfl
  discStarted := fun _ => rfl
  coldPorts := fun _ => rfl
  chans := fun _ => rfl
  groups := fun _ => rfl
  tree := fun _ => rfl
  attnSent := fun _ => rfl
  stewards := fun _ => rfl
  staging := fun _ => rfl
  recFifo := fun _ => rfl
  recLostMark := fun _ => rfl
  power := fun _ => rfl
  sec := fun _ => rfl
  i3c := fun _ => rfl
  jtag := fun _ => rfl
  pins := fun _ => rfl

theorem upd_rules_rulesOn {m : Nat} {s : State} {x0 x1} (h0 : m.testBit 530 = true) (h1 : m.testBit 531 = true) :
    Keeps m s { s with rules := x0, rulesOn := x1 } where
  pending := rfl
  reg := fun _ _ _ => rfl
  canon := id
  free := fun _ => rfl
  readback := fun _ => rfl
  status := fun _ => rfl
  latches := fun _ => rfl
  dram := fun _ => rfl
  tens := fun _ => rfl
  badPhys := fun _ => rfl
  badTens := fun _ => rfl
  pages := fun _ => rfl
  keptDescs := fun _ => rfl
  scrubBlock := fun _ => rfl
  load := fun _ => rfl
  secs := fun _ => rfl
  coreMap := fun _ => rfl
  links := fun _ => rfl
  devQueues := fun _ => rfl
  rules := fun h => by rw [h] at h0; exact absurd h0 (by decide)
  rulesOn := fun h => by rw [h] at h1; exact absurd h1 (by decide)
  rules0 := fun _ => rfl
  live := fun _ => rfl
  repair := fun _ => rfl
  modrec := fun _ => rfl
  panels := fun _ => rfl
  cores := fun _ => rfl
  flights := fun _ => rfl
  nextFlight := fun _ => rfl
  trackers := fun _ => rfl
  trkSaved := fun _ => rfl
  obs := fun _ => rfl
  windows := fun _ => rfl
  micros := fun _ => rfl
  sliceSums := fun _ => rfl
  slices := fun _ => rfl
  stalledSlices := fun _ => rfl
  sideRecs := fun _ => rfl
  sideSums := fun _ => rfl
  masks := fun _ => rfl
  helds := fun _ => rfl
  sentTiles := fun _ => rfl
  updates := fun _ => rfl
  updDone := fun _ => rfl
  ratios := fun _ => rfl
  ratioSnap := fun _ => rfl
  epochs := fun _ => rfl
  openEpochs := fun _ => rfl
  arrivals := fun _ => rfl
  releases := fun _ => rfl
  votes := fun _ => rfl
  voteOut := fun _ => rfl
  forceArmed := fun _ => rfl
  fenceUsed := fun _ => rfl
  openTags := fun _ => rfl
  heldSets := fun _ => rfl
  queues := fun _ => rfl
  ports := fun _ => rfl
  requests := fun _ => rfl
  reqWait := fun _ => rfl
  routes := fun _ => rfl
  uplink := fun _ => rfl
  routeChange := fun _ => rfl
  routeHold := fun _ => rfl
  discTodo := fun _ => rfl
  discAsked := fun _ => rfl
  discLinks := fun _ => rfl
  discStarted := fun _ => rfl
  coldPorts := fun _ => rfl
  chans := fun _ => rfl
  groups := fun _ => rfl
  tree := fun _ => rfl
  attnSent := fun _ => rfl
  stewards := fun _ => rfl
  staging := fun _ => rfl
  recFifo := fun _ => rfl
  recLostMark := fun _ => rfl
  power := fun _ => rfl
  sec := fun _ => rfl
  i3c := fun _ => rfl
  jtag := fun _ => rfl
  pins := fun _ => rfl

theorem done_keeps {m : Nat} {s t : State} (h : Keeps m s t) : OutKeeps m s (done t) := ⟨_, rfl, h⟩

end Sys2Proof.Laws
end

