-- ==== Sys2Proof/Laws/Regs.lean ====
section
/-! SUPPORT. Bit fields and the register file: what a field reads as after a write, and that nothing else moves. -/
namespace Sys2Proof.Laws
open Sys2Proof Sys2Proof.Machine

theorem putBits_mod (v l w x : Nat) : putBits v l w x % 2 ^ (l + w) = x % 2 ^ w * 2 ^ l + v % 2 ^ l := by
  unfold putBits
  rw [Nat.add_assoc, Nat.mul_comm, Nat.mul_add_mod]
  apply Nat.mod_eq_of_lt
  have h1 : x % 2 ^ w < 2 ^ w := Nat.mod_lt _ (Nat.two_pow_pos w)
  have h2 : v % 2 ^ l < 2 ^ l := Nat.mod_lt _ (Nat.two_pow_pos l)
  rw [Nat.pow_add]
  calc x % 2 ^ w * 2 ^ l + v % 2 ^ l < x % 2 ^ w * 2 ^ l + 2 ^ l := by omega
    _ = (x % 2 ^ w + 1) * 2 ^ l := by rw [Nat.add_mul, Nat.one_mul]
    _ ≤ 2 ^ w * 2 ^ l := Nat.mul_le_mul_right _ h1
    _ = 2 ^ l * 2 ^ w := Nat.mul_comm _ _

theorem putBits_div (v l w x : Nat) : putBits v l w x / 2 ^ (l + w) = v / 2 ^ (l + w) := by
  have h := putBits_mod v l w x
  have h1 : x % 2 ^ w * 2 ^ l + v % 2 ^ l < 2 ^ (l + w) := h ▸ Nat.mod_lt _ (Nat.two_pow_pos _)
  unfold putBits
  rw [Nat.add_assoc, Nat.mul_comm, Nat.mul_add_div (Nat.two_pow_pos _), Nat.div_eq_of_lt h1, Nat.add_zero]

theorem bits_eq_mod (v l w : Nat) : bits v l w = v % 2 ^ (l + w) / 2 ^ l := by
  unfold bits
  rw [Nat.pow_add, Nat.mod_mul_right_div_self]

/-- A field reads back what was put into it. -/
theorem bits_putBits_same (v l w x : Nat) : bits (putBits v l w x) l w = x % 2 ^ w := by
  rw [bits_eq_mod, putBits_mod, Nat.mul_comm, Nat.mul_add_div (Nat.two_pow_pos l),
    Nat.div_eq_of_lt (Nat.mod_lt _ (Nat.two_pow_pos l)), Nat.add_zero]

/-- Bits above a field stay. -/
theorem bits_putBits_above (v l w x l' w' : Nat) (h : l + w ≤ l') : bits (putBits v l w x) l' w' = bits v l' w' := by
  obtain ⟨k, rfl⟩ := Nat.exists_eq_add_of_le h
  unfold bits
  rw [Nat.pow_add (m := l + w), ← Nat.div_div_eq_div_mul, putBits_div, Nat.div_div_eq_div_mul]

theorem putBits_low (v l w x : Nat) : putBits v l w x % 2 ^ l = v % 2 ^ l := by
  have h := putBits_mod v l w x
  have h2 : putBits v l w x % 2 ^ (l + w) % 2 ^ l = putBits v l w x % 2 ^ l :=
    Nat.mod_mod_of_dvd _ (Nat.pow_dvd_pow 2 (Nat.le_add_right l w))
  rw [← h2, h, Nat.mul_comm, Nat.mul_add_mod, Nat.mod_mod]

/-- Bits below a field stay. -/
theorem bits_putBits_below (v l w x l' w' : Nat) (h : l' + w' ≤ l) : bits (putBits v l w x) l' w' = bits v l' w' := by
  rw [bits_eq_mod, bits_eq_mod]
  have hd : 2 ^ (l' + w') ∣ 2 ^ l := Nat.pow_dvd_pow 2 h
  rw [← Nat.mod_mod_of_dvd (putBits v l w x) hd, putBits_low, Nat.mod_mod_of_dvd v hd]

theorem bits_mod32 (v l w : Nat) (h : l + w ≤ 32) : bits (v % 2 ^ 32) l w = bits v l w := by
  rw [bits_eq_mod, bits_eq_mod, Nat.mod_mod_of_dvd _ (Nat.pow_dvd_pow 2 h)]

/-- A field reads back the value stored, cut to its width. -/
theorem fget_fset_same {s : State} {f : Fld} {i v : Nat} (h : f.lsb + f.width ≤ 32) :
    (s.fset f i v).fget f i = v % 2 ^ f.width := by
  unfold State.fget State.fset
  rw [rd_wr_same, BitVec.toNat_ofNat, bits_mod32 _ _ _ h, bits_putBits_same]

/-- Fields that share no bit. -/
def apart (f g : Fld) : Bool :=
  f.reg.idx != g.reg.idx || decide (f.lsb + f.width ≤ g.lsb) || decide (g.lsb + g.width ≤ f.lsb)

/-- A store of a field leaves every other field alone, and every other copy of its own. -/
theorem fget_fset_ne {s : State} {f g : Fld} {i j v : Nat} (hg : g.lsb + g.width ≤ 32) (h : apart f g = true ∨ i ≠ j) :
    (s.fset f i v).fget g j = s.fget g j := by
  by_cases hk : f.reg.idx ≠ g.reg.idx ∨ i ≠ j
  · unfold State.fget State.fset
    rw [rd_wr_ne _ _ hk]
  · rw [not_or, Decidable.not_not, Decidable.not_not] at hk
    obtain ⟨hr, rfl⟩ := hk
    have ha : apart f g = true := h.resolve_right fun e => e rfl
    unfold State.fget State.fset
    have hrd : ∀ w, (s.wr f.reg i w).rd g.reg i = w := by
      intro w
      unfold State.rd State.wr
      have e : regKey g.reg i = regKey f.reg i := by unfold regKey; rw [hr]
      rw [e]; exact spGet_spSet_same ..
    have hrs : s.rd g.reg i = s.rd f.reg i := by unfold State.rd regKey; rw [hr]
    rw [hrd, hrs, BitVec.toNat_ofNat, bits_mod32 _ _ _ hg]
    unfold apart at ha
    simp only [hr, bne_self_eq_false, Bool.false_or, Bool.or_eq_true, decide_eq_true_eq] at ha
    rcases ha with ha | ha
    · exact bits_putBits_above _ _ _ _ _ _ ha
    · exact bits_putBits_below _ _ _ _ _ _ ha

theorem fbit_fset_same {s : State} {f : Fld} {i v : Nat} (h : f.lsb + f.width ≤ 32) :
    (s.fset f i v).fbit f i = (v % 2 ^ f.width != 0) := by
  unfold State.fbit; rw [fget_fset_same h]

theorem fbit_fset_ne {s : State} {f g : Fld} {i j v : Nat} (hg : g.lsb + g.width ≤ 32) (h : apart f g = true ∨ i ≠ j) :
    (s.fset f i v).fbit g j = s.fbit g j := by
  unfold State.fbit; rw [fget_fset_ne hg h]

/-- A field is smaller than its width allows. -/
theorem fget_lt (s : State) (f : Fld) (i : Nat) : s.fget f i < 2 ^ f.width := by
  unfold State.fget bits; exact Nat.mod_lt _ (Nat.two_pow_pos _)

/-- A saturating counter after n events. -/
theorem fget_finc_same {s : State} {f : Fld} {i n : Nat} (h : f.lsb + f.width ≤ 32) :
    (s.finc f i n).fget f i = min (2 ^ f.width - 1) (s.fget f i + n) := by
  unfold State.finc
  rw [fget_fset_same h]
  exact Nat.mod_eq_of_lt (Nat.lt_of_le_of_lt (Nat.min_le_left _ _) (Nat.sub_lt (Nat.two_pow_pos _) Nat.one_pos))

theorem fget_finc_ne {s : State} {f g : Fld} {i j n : Nat} (hg : g.lsb + g.width ≤ 32) (h : apart f g = true ∨ i ≠ j) :
    (s.finc f i n).fget g j = s.fget g j := fget_fset_ne hg h

theorem fbit_finc_ne {s : State} {f g : Fld} {i j n : Nat} (hg : g.lsb + g.width ≤ 32) (h : apart f g = true ∨ i ≠ j) :
    (s.finc f i n).fbit g j = s.fbit g j := fbit_fset_ne hg h

theorem fget_fincw_same {s : State} {f : Fld} {i n : Nat} (h : f.lsb + f.width ≤ 32) :
    (s.fincw f i n).fget f i = (s.fget f i + n) % 2 ^ f.width := fget_fset_same h

/-- Register and field reads of a settled state. -/
@[simp] theorem rd_settle (s : State) (r : Reg) (i : Nat) : (settle s).rd r i = s.rd r i := rfl
@[simp] theorem fget_settle (s : State) (f : Fld) (i : Nat) : (settle s).fget f i = s.fget f i := rfl
@[simp] theorem fbit_settle (s : State) (f : Fld) (i : Nat) : (settle s).fbit f i = s.fbit f i := rfl

/-- What an operation that does not write a register leaves of its fields. -/
theorem Keeps.fget {m : Nat} {s t : State} (k : Keeps m s t) {f : Fld} {i : Nat} (h : m.testBit f.reg.idx = false) :
    t.fget f i = s.fget f i := by
  unfold State.fget; rw [k.reg f.reg i h]

theorem Keeps.fbit {m : Nat} {s t : State} (k : Keeps m s t) {f : Fld} {i : Nat} (h : m.testBit f.reg.idx = false) :
    t.fbit f i = s.fbit f i := by
  unfold State.fbit; rw [k.fget h]

/-- A bit just set. -/
theorem bitOf_or (a b i : Nat) : bitOf (a ||| b) i = (bitOf a i || bitOf b i) := by
  have key : ∀ v, bitOf v i = v.testBit i := by
    intro v
    unfold bitOf Nat.testBit
    rw [Nat.shiftRight_eq_div_pow, Nat.one_and_eq_mod_two]
    have : v / 2 ^ i % 2 = 0 ∨ v / 2 ^ i % 2 = 1 := by omega
    rcases this with h | h <;> rw [h] <;> rfl
  rw [key, key, key, Nat.testBit_or]

theorem bitOf_two_pow (b : Nat) : bitOf (2 ^ b) b = true := by
  unfold bitOf; rw [Nat.div_self (Nat.two_pow_pos b)]; rfl

theorem setBit_bit {s : State} {r : Reg} {i b : Nat} (h : b < 32) : bitOf ((s.setBit r i b).rd r i).toNat b = true := by
  unfold State.setBit
  have hb : (2 ^ b) % 2 ^ 32 = 2 ^ b := Nat.mod_eq_of_lt (Nat.pow_lt_pow_right (by decide) h)
  rw [rd_wr_same, BitVec.toNat_or, BitVec.toNat_ofNat, hb, bitOf_or, bitOf_two_pow, Bool.or_true]

/-- The fields of a register lie within its 32 bits, belong to it and share no bit. -/
def fieldsSound (r : Reg) : Bool :=
  r.fields.all (fun f => f.reg == r && decide (f.lsb + f.width ≤ 32)) && pairwiseApart r.fields
where
  pairwiseApart : List Fld → Bool
    | [] => true
    | f :: l => l.all (fun g => apart f g && apart g f) && pairwiseApart l

theorem fields_sound (r : Reg) : fieldsSound r = true := by cases r <;> decide

end Sys2Proof.Laws
end

