-- ==== Sys2Proof/Laws/Frames.lean ====
section
/-! SUPPORT. From a mask to a frame: what a `Keeps` says in the words of Sys2Proof/Safety.lean. -/
namespace Sys2Proof.Laws
open Sys2Proof Sys2Proof.Machine

theorem idx_inj {r q : Reg} (h : r.idx = q.idx) : r = q := by
  rw [← Reg.ofNat_ctorIdx r, ← Reg.ofNat_ctorIdx q]
  exact congrArg Reg.ofNat h

/-- The mask of a list of registers. -/
def regMask (l : List Reg) : Nat := l.foldr (fun r m => 1 <<< r.idx ||| m) 0

theorem regMask_mem {l : List Reg} {r : Reg} (h : (regMask l).testBit r.idx = true) : r ∈ l := by
  induction l with
  | nil => exact absurd h (by unfold regMask; rw [List.foldr_nil, Nat.zero_testBit]; decide)
  | cons q l ih =>
    unfold regMask at h
    rw [List.foldr_cons, Nat.testBit_or, Bool.or_eq_true, Nat.one_shiftLeft, Nat.testBit_two_pow, decide_eq_true_eq] at h
    rcases h with h | h
    · exact idx_inj h.symm ▸ List.mem_cons_self
    · exact List.mem_cons_of_mem _ (ih h)

/-- Place of a part's bit in a mask. -/
def partBit : Part → Nat
  | .free => 513
  | .readback => 514
  | .status => 515
  | .latches => 517
  | .dram => 518
  | .tens => 519
  | .badPhys => 520
  | .badTens => 521
  | .pages => 522
  | .keptDescs => 523
  | .scrubBlock => 524
  | .load => 525
  | .secs => 526
  | .coreMap => 527
  | .links => 528
  | .devQueues => 529
  | .rules => 530
  | .rulesOn => 531
  | .rules0 => 532
  | .live => 533
  | .repair => 534
  | .modrec => 535
  | .panels => 536
  | .cores => 537
  | .flights => 538
  | .nextFlight => 539
  | .trackers => 540
  | .trkSaved => 541
  | .obs => 542
  | .windows => 543
  | .micros => 544
  | .sliceSums => 545
  | .slices => 546
  | .stalledSlices => 547
  | .sideRecs => 548
  | .sideSums => 549
  | .masks => 550
  | .helds => 551
  | .sentTiles => 552
  | .updates => 553
  | .updDone => 554
  | .ratios => 555
  | .ratioSnap => 556
  | .epochs => 557
  | .openEpochs => 558
  | .arrivals => 559
  | .releases => 560
  | .votes => 561
  | .voteOut => 562
  | .forceArmed => 563
  | .fenceUsed => 564
  | .openTags => 565
  | .heldSets => 566
  | .queues => 567
  | .ports => 568
  | .requests => 569
  | .reqWait => 570
  | .routes => 571
  | .uplink => 572
  | .routeChange => 573
  | .routeHold => 574
  | .discTodo => 575
  | .discAsked => 576
  | .discLinks => 577
  | .discStarted => 578
  | .coldPorts => 579
  | .chans => 580
  | .groups => 581
  | .tree => 582
  | .attnSent => 583
  | .stewards => 584
  | .staging => 585
  | .recFifo => 586
  | .recLostMark => 587
  | .power => 588
  | .sec => 589
  | .i3c => 590
  | .jtag => 591
  | .pins => 592

/-- The mask of a list of parts. -/
def partMask (l : List Part) : Nat := l.foldr (fun x m => 1 <<< partBit x ||| m) 0

theorem partBit_inj {x y : Part} (h : partBit x = partBit y) : x = y := by
  rw [← Part.ofNat_ctorIdx x, ← Part.ofNat_ctorIdx y]
  have hx : ∀ z : Part, Part.ofNat (partBit z - 513 - (if 517 ≤ partBit z then 1 else 0)) = z := by intro z; cases z <;> rfl
  rw [Part.ofNat_ctorIdx, Part.ofNat_ctorIdx, ← hx x, ← hx y, h]

theorem partMask_mem {l : List Part} {x : Part} (h : (partMask l).testBit (partBit x) = true) : x ∈ l := by
  induction l with
  | nil => exact absurd h (by unfold partMask; rw [List.foldr_nil, Nat.zero_testBit]; decide)
  | cons q l ih =>
    unfold partMask at h
    rw [List.foldr_cons, Nat.testBit_or, Bool.or_eq_true, Nat.one_shiftLeft, Nat.testBit_two_pow, decide_eq_true_eq] at h
    rcases h with h | h
    · exact partBit_inj h.symm ▸ List.mem_cons_self
    · exact List.mem_cons_of_mem _ (ih h)

set_option exponentiation.threshold 600 in
theorem allRegs_off (x : Part) : allRegs.testBit (partBit x) = false := by
  have b : ¬ partBit x < 512 := by cases x <;> decide
  rw [allRegs_eq, Nat.testBit_two_pow_sub_one]
  exact decide_eq_false b

theorem partMask_off (l : List Part) (r : Reg) : (partMask l).testBit r.idx = false := by
  cases h : (partMask l).testBit r.idx with
  | false => rfl
  | true =>
    exfalso
    induction l with
    | nil => unfold partMask at h; rw [List.foldr_nil, Nat.zero_testBit] at h; exact absurd h (by decide)
    | cons q l ih =>
      unfold partMask at h
      rw [List.foldr_cons, Nat.testBit_or, Bool.or_eq_true, Nat.one_shiftLeft, Nat.testBit_two_pow, decide_eq_true_eq] at h
      rcases h with h | h
      · have a := idx_lt r
        have b : 512 < partBit q := by cases q <;> decide
        omega
      · exact ih h

set_option exponentiation.threshold 600 in
theorem regMask_all {l : List Reg} {i : Nat} (h : (regMask l).testBit i = true) : allRegs.testBit i = true := by
  rw [allRegs_eq, Nat.testBit_two_pow_sub_one]
  induction l with
  | nil => exact absurd h (by unfold regMask; rw [List.foldr_nil, Nat.zero_testBit]; decide)
  | cons q l ih =>
    unfold regMask at h
    rw [List.foldr_cons, Nat.testBit_or, Bool.or_eq_true, Nat.one_shiftLeft, Nat.testBit_two_pow, decide_eq_true_eq] at h
    rcases h with h | h
    · exact decide_eq_true (h ▸ idx_lt q)
    · exact ih h

/-- A mask within those of a list of registers and a list of parts bounds what changes to them. -/
theorem Keeps.frame {m : Nat} {s t : State} (k : Keeps m s t) {rs : List Reg} {ps : List Part}
    (h : Within m (regMask rs ||| partMask ps)) : Frame rs s t := by
  intro r hr i
  refine k.reg r i (Within.off h ?_)
  rw [Nat.testBit_or, partMask_off, Bool.or_false]
  cases hb : (regMask rs).testBit r.idx with
  | false => rfl
  | true => exact absurd (regMask_mem hb) hr

theorem Keeps.part {m : Nat} {s t : State} (k : Keeps m s t) {x : Part} (h : m.testBit (partBit x) = false) :
    x.same s t := by
  cases x
  case pins => exact show t.pins = _ from (k.pins h) ▸ rfl
  case i3c => exact show t.i3c = _ from (k.i3c h) ▸ rfl
  case free => exact k.free h
  case readback => exact k.readback h
  case status => exact k.status h
  case latches => exact k.latches h
  case dram => exact k.dram h
  case tens => exact k.tens h
  case badPhys => exact k.badPhys h
  case badTens => exact k.badTens h
  case pages => exact k.pages h
  case keptDescs => exact k.keptDescs h
  case scrubBlock => exact k.scrubBlock h
  case load => exact k.load h
  case secs => exact k.secs h
  case coreMap => exact k.coreMap h
  case links => exact k.links h
  case devQueues => exact k.devQueues h
  case rules => exact k.rules h
  case rulesOn => exact k.rulesOn h
  case rules0 => exact k.rules0 h
  case live => exact k.live h
  case repair => exact k.repair h
  case modrec => exact k.modrec h
  case panels => exact k.panels h
  case cores => exact k.cores h
  case flights => exact k.flights h
  case nextFlight => exact k.nextFlight h
  case trackers => exact k.trackers h
  case trkSaved => exact k.trkSaved h
  case obs => exact k.obs h
  case windows => exact k.windows h
  case micros => exact k.micros h
  case sliceSums => exact k.sliceSums h
  case slices => exact k.slices h
  case stalledSlices => exact k.stalledSlices h
  case sideRecs => exact k.sideRecs h
  case sideSums => exact k.sideSums h
  case masks => exact k.masks h
  case helds => exact k.helds h
  case sentTiles => exact k.sentTiles h
  case updates => exact k.updates h
  case updDone => exact k.updDone h
  case ratios => exact k.ratios h
  case ratioSnap => exact k.ratioSnap h
  case epochs => exact k.epochs h
  case openEpochs => exact k.openEpochs h
  case arrivals => exact k.arrivals h
  case releases => exact k.releases h
  case votes => exact k.votes h
  case voteOut => exact k.voteOut h
  case forceArmed => exact k.forceArmed h
  case fenceUsed => exact k.fenceUsed h
  case openTags => exact k.openTags h
  case heldSets => exact k.heldSets h
  case queues => exact k.queues h
  case ports => exact k.ports h
  case requests => exact k.requests h
  case reqWait => exact k.reqWait h
  case routes => exact k.routes h
  case uplink => exact k.uplink h
  case routeChange => exact k.routeChange h
  case routeHold => exact k.routeHold h
  case discTodo => exact k.discTodo h
  case discAsked => exact k.discAsked h
  case discLinks => exact k.discLinks h
  case discStarted => exact k.discStarted h
  case coldPorts => exact k.coldPorts h
  case chans => exact k.chans h
  case groups => exact k.groups h
  case tree => exact k.tree h
  case attnSent => exact k.attnSent h
  case stewards => exact k.stewards h
  case staging => exact k.staging h
  case recFifo => exact k.recFifo h
  case recLostMark => exact k.recLostMark h
  case power => exact k.power h
  case sec => exact k.sec h
  case jtag => exact k.jtag h

theorem Keeps.parts {m : Nat} {s t : State} (k : Keeps m s t) {ps : List Part} (h : Within m (allRegs ||| partMask ps)) :
    FrameParts ps s t := by
  intro x hx
  refine k.part (Within.off h ?_)
  rw [Nat.testBit_or, allRegs_off, Bool.false_or]
  cases hb : (partMask ps).testBit (partBit x) with
  | false => rfl
  | true => exact absurd (partMask_mem hb) hx

/-- Driving ATTN_N changes no register and no part. -/
theorem frame_settle {rs : List Reg} {s t : State} (h : Frame rs s t) : Frame rs s (settle t) := h

theorem part_settle {x : Part} {s t : State} (h : x.same s t) : x.same s (settle t) := by
  cases x
  case pins => exact show (settle t).pins = _ by have e : t.pins = _ := h; rw [show (settle t).pins = { t.pins with attnLow := (settle t).pins.attnLow, stwIrq := (settle t).pins.stwIrq } from rfl, e]
  case i3c => exact show (settle t).i3c = _ by have e : t.i3c = _ := h; rw [show (settle t).i3c = { t.i3c with ibi := (settle t).i3c.ibi } from rfl, e]
  all_goals exact h

theorem parts_settle {ps : List Part} {s t : State} (h : FrameParts ps s t) : FrameParts ps s (settle t) :=
  fun x hx => part_settle (h x hx)

/-- The frame of a command from its mask. -/
theorem OutKeeps.frames {m : Nat} {s t : State} {o : Out} (k : OutKeeps m s o) (h : o = .next t) {rs : List Reg}
    {ps : List Part} (hm : Within m (regMask rs ||| partMask ps)) : Frame rs s t ∧ FrameParts ps s t := by
  obtain ⟨u, e, k⟩ := k
  rw [e] at h; injection h with h; subst h
  refine ⟨frame_settle (k.frame hm), parts_settle (k.parts ?_)⟩
  refine Within.tr (b := regMask rs ||| partMask ps) hm ?_
  exact Nat.eq_of_testBit_eq fun i => by
    rw [Nat.testBit_or, Nat.testBit_or, Nat.testBit_or]
    cases hr : (regMask rs).testBit i with
    | false => cases (partMask ps).testBit i <;> cases allRegs.testBit i <;> rfl
    | true => rw [regMask_all hr]; cases (partMask ps).testBit i <;> rfl

/-- The frame of a settled state from the mask of what made it. -/
theorem settle_frames {m : Nat} {s u : State} (k : Keeps m s u) {rs : List Reg} {ps : List Part}
    (hm : Within m (regMask rs ||| partMask ps)) : Frame rs s (settle u) ∧ FrameParts ps s (settle u) :=
  OutKeeps.frames ⟨u, rfl, k⟩ rfl hm

end Sys2Proof.Laws
end

