-- ==== Sys2Proof/Laws/KeepsOps.lean ====
section
/-! SUPPORT. What each operation of Sys2Proof/Machine/Ops.lean may write (Laws/Keeps.lean says how a mask is read). -/
namespace Sys2Proof.Laws
open Sys2Proof Sys2Proof.Machine

set_option linter.unusedVariables false

theorem State_dramWrite_keeps {s : State} {a : Nat} {bs : List Byte} : Keeps 0x4000000000000000000000000000000000000000000000000000000000000000000000000000000000000000000000000000000000000000000000000000000000 s (s.dramWrite a bs) :=
  upd_dram rfl fun c => ⟨c.1, memWrite_wf c.2.1, c.2.2⟩

theorem State_ramPut_keeps {s : State} {a : Nat} {bs : List Byte} :
    Keeps 0x14000000000000000000000000000000000000000000000000000000000000000000000000000000000000000000000008000000000000000000000000000000000 s (State.ramPut s a bs).1 := by
  unfold State.ramPut
  refine Keeps.ite1 ?_ ?_
  ·
    refine Keeps.mk1 ?_
    refine Keeps.trans ?_ (State_finc_keeps (by rfl))
    exact Keeps.refl
  ·
    extract_lets -underBinder +onlyGivenNames x0
    try clear_value x0
    refine Keeps.ite1 ?_ ?_
    ·
      refine Keeps.mk1 ?_
      exact Keeps.refl
    ·
      refine Keeps.mk1 ?_
      extract_lets -underBinder +onlyGivenNames x1
      have h1 : Keeps 0x14000000000000000000000000000000000000000000000000000000000000000000000000000000000000000000000008000000000000000000000000000000000 s x1 := by
        unfold x1
        refine Keeps.trans ?_ (State_dramWrite_keeps.mono rfl)
        exact Keeps.refl
      try clear_value x1
      refine Keeps.trans ?_ (upd_badPhys rfl)
      exact h1

theorem State_setChan_keeps {s : State} {c : Nat} {x : Chan} :
    Keeps 0x10000000000000000000000000000000000000000000000000000000000000000000000000000000000000000000000000000000000000000000000000000000000000000000000000 s (State.setChan s c x) := by
  unfold State.setChan
  refine Keeps.trans ?_ (upd_chans rfl)
  exact Keeps.refl

theorem State_setCore_keeps {s : State} {c : Nat} {x : Core} :
    Keeps 0x200000000000000000000000000000000000000000000000000000000000000000000000000000000000000000000000000000000000000000000000000000000000000 s (State.setCore s c x) := by
  unfold State.setCore
  refine Keeps.trans ?_ (upd_cores rfl)
  exact Keeps.refl

theorem State_setPanel_keeps {s : State} {p : Nat} {x : Panel} :
    Keeps 0x100000000000000000000000000000000000000000000000000000000000000000000000000000000000000000000000000000000000000000000000000000000000000 s (State.setPanel s p x) := by
  unfold State.setPanel
  refine Keeps.trans ?_ (upd_panels rfl)
  exact Keeps.refl

theorem State_setPort_keeps {s : State} {p : Nat} {x : Port} :
    Keeps 0x10000000000000000000000000000000000000000000000000000000000000000000000000000000000000000000000000000000000000000000000000000000000000000000000 s (State.setPort s p x) := by
  unfold State.setPort
  refine Keeps.trans ?_ (upd_ports rfl)
  exact Keeps.refl

theorem State_setQueue_keeps {s : State} {q : Nat} {x : QCtx} :
    Keeps 0x8000000000000000000000000000000000000000000000000000000000000000000000000000000000000000000000000000000000000000000000000000000000000000000000 s (State.setQueue s q x) := by
  unfold State.setQueue
  refine Keeps.trans ?_ (upd_queues rfl)
  exact Keeps.refl

theorem State_setSstate_keeps {s : State} {c : Nat} {st : Strm} {v : Nat} :
    Keeps 0x4000000000000000000 s (State.setSstate s c st v) := by
  unfold State.setSstate
  refine Keeps.trans ?_ (State_fset_keeps (by rfl))
  exact Keeps.refl

theorem State_setStw_keeps {s : State} {i : Nat} {x : Stw} :
    Keeps 0x100000000000000000000000000000000000000000000000000000000000000000000000000000000000000000000000000000000000000000000000000000000000000000000000000 s (State.setStw s i x) := by
  unfold State.setStw
  refine Keeps.trans ?_ (upd_stewards rfl)
  exact Keeps.refl

theorem State_tick_keeps {s : State} :
    Keeps 0x200000000000000000004000000006 s (State.tick s) := by
  unfold State.tick
  extract_lets -underBinder +onlyGivenNames x0
  have h0 : Keeps 0x200000000000000000004000000006 s x0 := by
    unfold x0
    refine Keeps.trans ?_ (Keeps.foldl (fun s1 _ => ?_) _ _)
    ·
      exact Keeps.refl
    ·
      refine Keeps.trans ?_ (State_finc_keeps (by rfl))
      exact Keeps.refl
  try clear_value x0
  extract_lets -underBinder +onlyGivenNames x2
  have h2 : Keeps 0x200000000000000000004000000006 s x2 := by
    unfold x2
    refine Keeps.trans ?_ (Keeps.foldl (fun s3 _ => ?_) _ _)
    ·
      exact h0
    ·
      refine Keeps.ite ?_ ?_
      ·
        refine Keeps.trans ?_ (State_finc_keeps (by rfl))
        exact Keeps.refl
      ·
        exact Keeps.refl
  try clear_value x2
  refine Keeps.trans ?_ (Keeps.foldl (fun s4 _ => ?_) _ _)
  ·
    exact h2
  ·
    extract_lets -underBinder +onlyGivenNames x5
    try clear_value x5
    refine Keeps.trans ?_ (State_wr_keeps (by rfl))
    refine Keeps.trans ?_ (State_wr_keeps (by rfl))
    exact Keeps.refl

theorem State_useFree_keeps {s : State} {n : Nat} :
    Keeps 0x200000000000000000000000000000000000000000000000000000000000000000000000000000000000000000000000000000000000000000000000000000000 s (State.useFree s n) := by
  unfold State.useFree
  refine Keeps.trans ?_ (upd_free rfl)
  exact Keeps.refl

end Sys2Proof.Laws
end

