-- ==== Sys2Proof/Laws/KeepsFlags.lean ====
section
/-! SUPPORT. What each operation of Sys2Proof/Machine/Flags.lean may write (Laws/Keeps.lean says how a mask is read). -/
namespace Sys2Proof.Laws
open Sys2Proof Sys2Proof.Machine

set_option linter.unusedVariables false

theorem State_raise_keeps {s : State} {n : Nat} :
    Keeps 0x210000000000000000000000000000000000000000000000000 s (State.raise s n) := by
  unfold State.raise
  refine Keeps.ite ?_ ?_
  ·
    exact Keeps.refl
  ·
    refine Keeps.ite ?_ ?_
    ·
      refine Keeps.trans ?_ (State_finc_keeps (by rfl))
      exact Keeps.refl
    ·
      refine Keeps.trans ?_ (State_fset_keeps (by rfl))
      exact Keeps.refl

theorem State_wake_keeps {s : State} {c : Nat} :
    Keeps 0x1880000000000000040 s (State.wake s c) := by
  unfold State.wake
  extract_lets -underBinder +onlyGivenNames x0
  try clear_value x0
  extract_lets -underBinder +onlyGivenNames x1
  try clear_value x1
  extract_lets -underBinder +onlyGivenNames x2
  have h2 : Keeps 0x1880000000000000040 s x2 := by
    unfold x2
    refine Keeps.trans ?_ (State_fset_keeps (by rfl))
    exact Keeps.refl
  try clear_value x2
  refine Keeps.ite ?_ ?_
  ·
    exact h2
  ·
    refine Keeps.trans ?_ (State_wr_keeps (by rfl))
    refine Keeps.trans ?_ (State_fincw_keeps (by rfl))
    refine Keeps.trans ?_ (State_wr_keeps (by rfl))
    exact h2

theorem State_devEvt_keeps {M : Nat} {s : State} {r : Reg} {en : Reg} {i : Nat} {b : Nat} {src : Nat} (hM : Within 0x210000000000000000000000000000000000000000000000000 M) (hr : M.testBit r.idx = true) :
    Keeps M s (State.devEvt s r en i b src) := by
  unfold State.devEvt
  extract_lets -underBinder +onlyGivenNames x0
  have h0 : Keeps M s x0 := by
    unfold x0
    refine Keeps.trans ?_ (State_setBit_keeps hr)
    exact Keeps.refl
  try clear_value x0
  refine Keeps.ite ?_ ?_
  ·
    refine Keeps.trans ?_ (State_raise_keeps.mono (Within.via hM rfl))
    exact h0
  ·
    exact h0

theorem State_dieFlt_keeps {s : State} {d : Nat} {b : Nat} :
    Keeps 0x210000000000000000000000000000a00000000000000000000 s (State.dieFlt s d b) := by
  unfold State.dieFlt
  refine Keeps.trans ?_ (State_finc_keeps (by rfl))
  refine Keeps.trans ?_ (State_devEvt_keeps rfl rfl)
  exact Keeps.refl

theorem State_feltFlt_keeps {s : State} {n : Nat} {b : Nat} :
    Keeps 0x210000000000000000028000000000000000000000000000000 s (State.feltFlt s n b) := by
  unfold State.feltFlt
  refine Keeps.trans ?_ (State_finc_keeps (by rfl))
  refine Keeps.trans ?_ (State_devEvt_keeps rfl rfl)
  exact Keeps.refl

theorem State_inchkEvt_keeps {s : State} {b : Nat} :
    Keeps 0x210080000000000000000000000000000000000000000000000 s (State.inchkEvt s b) := by
  unfold State.inchkEvt
  refine Keeps.trans ?_ (State_devEvt_keeps rfl rfl)
  exact Keeps.refl

theorem State_lnkEvt_keeps {s : State} {p : Nat} {b : Nat} :
    Keeps 0x1000000000000210000000000000000000000000000000000000000000000000 s (State.lnkEvt s p b) := by
  unfold State.lnkEvt
  refine Keeps.trans ?_ (State_devEvt_keeps rfl rfl)
  exact Keeps.refl

theorem State_logRec_keeps {s : State} {id : Nat} {origin : Nat} {die : Nat} {step : Nat} {epoch : Nat} {payload : List Nat} :
    Keeps 0x14000000000000000000000000000000000000000000000000000000000000000000060000000000000000000000000008000000000000000000000000000000000 s (State.logRec s id origin die step epoch payload) := by
  unfold State.logRec
  extract_lets -underBinder +onlyGivenNames x0
  try clear_value x0
  extract_lets -underBinder +onlyGivenNames x1
  try clear_value x1
  refine Keeps.ite ?_ ?_
  ·
    refine Keeps.trans ?_ (State_finc_keeps (by rfl))
    exact Keeps.refl
  ·
    refine Keeps.ite ?_ ?_
    ·
      exact Keeps.refl
    ·
      extract_lets -underBinder +onlyGivenNames x2
      try clear_value x2
      extract_lets -underBinder +onlyGivenNames x3
      try clear_value x3
      refine Keeps.trans ?_ (State_wr_keeps (by rfl))
      refine Keeps.trans ?_ (State_ramPut_keeps.mono rfl)
      exact Keeps.refl

theorem State_memEvt_keeps {s : State} {n : Nat} {b : Nat} :
    Keeps 0x210000000000000000000000000040000000000000000000000 s (State.memEvt s n b) := by
  unfold State.memEvt
  refine Keeps.trans ?_ (State_devEvt_keeps rfl rfl)
  exact Keeps.refl

theorem State_outOfRange_keeps {s : State} {a : Agent} {off : Nat} :
    Keeps 0x210680000000000000000000000000000000000000000000000 s (State.outOfRange s a off) := by
  unfold State.outOfRange
  refine Keeps.trans ?_ (State_inchkEvt_keeps.mono rfl)
  refine Keeps.trans ?_ (State_fset_keeps (by rfl))
  refine Keeps.trans ?_ (State_fset_keeps (by rfl))
  refine Keeps.trans ?_ (State_finc_keeps (by rfl))
  exact Keeps.refl

theorem State_pwrEvt_keeps {s : State} {b : Nat} :
    Keeps 0x210000008000000000000000000000000000000000000000000 s (State.pwrEvt s b) := by
  unfold State.pwrEvt
  refine Keeps.trans ?_ (State_devEvt_keeps rfl rfl)
  exact Keeps.refl

theorem State_raiseVec_keeps {s : State} {c : Nat} {v : Nat} :
    Keeps 0x1880000000000000040 s (State.raiseVec s c v) := by
  unfold State.raiseVec
  refine Keeps.ite ?_ ?_
  ·
    refine Keeps.trans ?_ (State_wake_keeps.mono rfl)
    refine Keeps.trans ?_ (State_setBit_keeps (by rfl))
    exact Keeps.refl
  ·
    refine Keeps.ite ?_ ?_
    ·
      refine Keeps.trans ?_ (State_fincw_keeps (by rfl))
      exact Keeps.refl
    ·
      refine Keeps.trans ?_ (State_setBit_keeps (by rfl))
      exact Keeps.refl

theorem State_secEvt_keeps {s : State} {b : Nat} :
    Keeps 0x210000200000000000000000000000000000000000000000000 s (State.secEvt s b) := by
  unfold State.secEvt
  refine Keeps.trans ?_ (State_devEvt_keeps rfl rfl)
  exact Keeps.refl

theorem State_stwEvt_keeps {s : State} {i : Nat} {b : Nat} :
    Keeps 0x1000000210000000000000000000000000000000000000000000000000 s (State.stwEvt s i b) := by
  unfold State.stwEvt
  refine Keeps.trans ?_ (State_devEvt_keeps rfl rfl)
  exact Keeps.refl

theorem State_trainEvt_keeps {s : State} {n : Nat} {b : Nat} :
    Keeps 0x210000000000000000000800000000000000000000000000000 s (State.trainEvt s n b) := by
  unfold State.trainEvt
  refine Keeps.trans ?_ (State_devEvt_keeps rfl rfl)
  exact Keeps.refl

theorem State_attFeltEvt_keeps {s : State} {n : Nat} {b : Nat} :
    Keeps 0x210000000000000000000002000000000000000000000000000 s (State.attFeltEvt s n b) := by
  unfold State.attFeltEvt
  refine Keeps.trans ?_ (State_devEvt_keeps rfl rfl)
  exact Keeps.refl

theorem State_chEvt_keeps {s : State} {b : Nat} :
    Keeps 0x210000000000008000000000000000000000000000000000000 s (State.chEvt s b) := by
  unfold State.chEvt
  refine Keeps.trans ?_ (State_devEvt_keeps rfl rfl)
  exact Keeps.refl

theorem State_errRec_keeps {s : State} {e : ErrInfo} :
    Keeps 0xc000000000000000140000000000000000000000000000000000000000000000000000000000000000000e0000000000000000000400000008000000000000000000000000000000000 s (State.errRec s e) := by
  unfold State.errRec
  refine Keeps.ite ?_ ?_
  ·
    extract_lets -underBinder +onlyGivenNames x0
    have h0 : Keeps 0xc000000000000000140000000000000000000000000000000000000000000000000000000000000000000e0000000000000000000400000008000000000000000000000000000000000 s x0 := by
      unfold x0
      refine Keeps.trans ?_ (State_finc_keeps (by rfl))
      exact Keeps.refl
    try clear_value x0
    refine Keeps.ite ?_ ?_
    ·
      exact h0
    ·
      extract_lets -underBinder +onlyGivenNames x1
      have h1 : Keeps 0xc000000000000000140000000000000000000000000000000000000000000000000000000000000000000e0000000000000000000400000008000000000000000000000000000000000 s x1 := by
        unfold x1
        refine Keeps.trans ?_ (State_logRec_keeps.mono rfl)
        exact h0
      try clear_value x1
      refine Keeps.trans ?_ (upd_recLostMark rfl)
      exact h1
  ·
    extract_lets -underBinder +onlyGivenNames x2
    have h2 : Keeps 0xc000000000000000140000000000000000000000000000000000000000000000000000000000000000000e0000000000000000000400000008000000000000000000000000000000000 s x2 := by
      unfold x2
      refine Keeps.trans ?_ (State_fset_keeps (by rfl))
      exact Keeps.refl
    try clear_value x2
    refine Keeps.trans ?_ (upd_recFifo rfl)
    exact h2

theorem State_raiseCore_keeps {s : State} {c : Nat} {v : Nat} :
    Keeps 0x210000000000000000000000000000001880000000000000040 s (State.raiseCore s c v) := by
  unfold State.raiseCore
  refine Keeps.trans ?_ (State_raise_keeps.mono rfl)
  refine Keeps.trans ?_ (State_raiseVec_keeps.mono rfl)
  exact Keeps.refl

theorem State_coreEvt_keeps {M : Nat} {s : State} {r : Reg} {en : Reg} {c : Nat} {b : Nat} {v : Nat} (hM : Within 0x210000000000000000000000000000001880000000000000040 M) (hr : M.testBit r.idx = true) :
    Keeps M s (State.coreEvt s r en c b v) := by
  unfold State.coreEvt
  extract_lets -underBinder +onlyGivenNames x0
  have h0 : Keeps M s x0 := by
    unfold x0
    refine Keeps.trans ?_ (State_setBit_keeps hr)
    exact Keeps.refl
  try clear_value x0
  refine Keeps.ite ?_ ?_
  ·
    refine Keeps.trans ?_ (State_raiseCore_keeps.mono (Within.via hM rfl))
    exact h0
  ·
    exact h0

theorem State_coreFault_keeps {M : Nat} {s : State} {r : Reg} {c : Nat} {b : Nat} {v : Nat} (hM : Within 0x210000000000000000000000000000001880000000000000040 M) (hr : M.testBit r.idx = true) :
    Keeps M s (State.coreFault s r c b v) := by
  unfold State.coreFault
  refine Keeps.trans ?_ (State_raiseCore_keeps.mono (Within.via hM rfl))
  refine Keeps.trans ?_ (State_setBit_keeps hr)
  exact Keeps.refl

theorem State_coreRec_keeps {s : State} {code : Nat} {c : Nat} {st : Option Strm} {loc : Nat} {step : Nat} :
    Keeps 0xc000000000000000140000000000000000000000000000000000000000000000000000000000000000000e0000000000000000000400000008000000000000000000000000000000000 s (State.coreRec s code c st loc step) := by
  unfold State.coreRec
  refine Keeps.trans ?_ (State_errRec_keeps.mono rfl)
  exact Keeps.refl

theorem State_dupFault_keeps {s : State} {c : Nat} :
    Keeps 0x210000000000000000000000000000001880000000000000840 s (State.dupFault s c) := by
  unfold State.dupFault
  refine Keeps.trans ?_ (State_coreFault_keeps rfl rfl)
  exact Keeps.refl

theorem State_fltEvt_keeps {s : State} {c : Nat} {b : Nat} :
    Keeps 0x210000000000000000000000000000001880000000000000140 s (State.fltEvt s c b) := by
  unfold State.fltEvt
  refine Keeps.trans ?_ (State_coreEvt_keeps rfl rfl)
  exact Keeps.refl

theorem State_gzEvt_keeps {s : State} {c : Nat} {b : Nat} :
    Keeps 0x210000000000000000000000000000001880000000000080040 s (State.gzEvt s c b) := by
  unfold State.gzEvt
  refine Keeps.trans ?_ (State_coreEvt_keeps rfl rfl)
  exact Keeps.refl

theorem State_haltEvt_keeps {s : State} {c : Nat} {st : Strm} :
    Keeps 0x210000000000000000000000000000001880000000000000840 s (State.haltEvt s c st) := by
  unfold State.haltEvt
  refine Keeps.trans ?_ (State_raiseCore_keeps.mono rfl)
  refine Keeps.trans ?_ (State_setBit_keeps (by rfl))
  exact Keeps.refl

theorem State_mkEvt_keeps {s : State} {c : Nat} {b : Nat} {e : Nat} :
    Keeps 0x210000000000000000000000000000001880800000000000040 s (State.mkEvt s c b e) := by
  unfold State.mkEvt
  extract_lets -underBinder +onlyGivenNames x0
  have h0 : Keeps 0x210000000000000000000000000000001880800000000000040 s x0 := by
    unfold x0
    refine Keeps.trans ?_ (State_setBit_keeps (by rfl))
    exact Keeps.refl
  try clear_value x0
  refine Keeps.ite ?_ ?_
  ·
    refine Keeps.trans ?_ (State_raiseCore_keeps.mono rfl)
    exact h0
  ·
    exact h0

theorem State_ndlEvt_keeps {s : State} {c : Nat} {b : Nat} :
    Keeps 0x210000000000000000000000000000001880000000000000840 s (State.ndlEvt s c b) := by
  unfold State.ndlEvt
  refine Keeps.trans ?_ (State_coreEvt_keeps rfl rfl)
  exact Keeps.refl

theorem State_residueFault_keeps {s : State} {c : Nat} :
    Keeps 0x210000000000000000000000000000001880000000080000040 s (State.residueFault s c) := by
  unfold State.residueFault
  refine Keeps.trans ?_ (State_coreFault_keeps rfl rfl)
  exact Keeps.refl

theorem State_seamEvt_keeps {s : State} {c : Nat} {b : Nat} :
    Keeps 0x210000000000000000000000000000001880000040000000040 s (State.seamEvt s c b) := by
  unfold State.seamEvt
  refine Keeps.trans ?_ (State_coreEvt_keeps rfl rfl)
  exact Keeps.refl

theorem State_twEvt_keeps {s : State} {c : Nat} {b : Nat} :
    Keeps 0x210000000000000000000000000000001880000000080000040 s (State.twEvt s c b) := by
  unfold State.twEvt
  refine Keeps.trans ?_ (State_coreEvt_keeps rfl rfl)
  exact Keeps.refl

theorem State_attEvt_keeps {s : State} {c : Nat} {b : Nat} :
    Keeps 0x210000000000000000000000000000001880010000000000040 s (State.attEvt s c b) := by
  unfold State.attEvt
  refine Keeps.trans ?_ (State_coreEvt_keeps rfl rfl)
  exact Keeps.refl

end Sys2Proof.Laws
end

