-- ==== Sys2Proof/Laws/KeepsOperands.lean ====
section
/-! SUPPORT. What each operation of Sys2Proof/Machine/Operands.lean may write (Laws/Keeps.lean says how a mask is read). -/
namespace Sys2Proof.Laws
open Sys2Proof Sys2Proof.Machine

set_option linter.unusedVariables false

theorem grantWaits_keeps {s : State} {c : Nat} {m : Nat} :
    Keeps 0x200000000000000000000000000000000000000000000000000000000000000000000000000000000000000000000000000000000000000000000000000000000000000 s (grantWaits s c m) := by
  unfold grantWaits
  split
  ·
    exact Keeps.refl
  ·
    refine Keeps.trans ?_ (Keeps.foldl (fun s0 _ => ?_) _ _)
    ·
      exact Keeps.refl
    ·
      refine Keeps.ite ?_ ?_
      ·
        refine Keeps.trans ?_ (State_setCore_keeps.mono rfl)
        exact Keeps.refl
      ·
        exact Keeps.refl

theorem putEp_keeps {s : State} {i : Nat} {v : Bool} :
    Keeps 0x200000000000000000000000000000000000000 s (putEp s i v) := by
  unfold putEp
  refine Keeps.trans ?_ (State_wr_keeps (by rfl))
  exact Keeps.refl

theorem putMarker_keeps {s : State} {c : Nat} {m : Nat} {v : Bool} :
    Keeps 0x600000000000000 s (putMarker s c m v) := by
  unfold putMarker
  extract_lets -underBinder +onlyGivenNames x0
  unfold x0
  refine Keeps.trans ?_ (State_wr_keeps (by split <;> rfl))
  exact Keeps.refl

theorem State_clearMarker_keeps {s : State} {c : Nat} {m : Nat} :
    Keeps 0x600000000000000 s (State.clearMarker s c m) := by
  unfold State.clearMarker
  refine Keeps.trans ?_ (putMarker_keeps.mono rfl)
  exact Keeps.refl

theorem State_setEp_keeps {s : State} {i : Nat} :
    Keeps 0x300000000000000000000000000000000000000 s (State.setEp s i) := by
  unfold State.setEp
  refine Keeps.ite ?_ ?_
  ·
    refine Keeps.trans ?_ (State_finc_keeps (by rfl))
    exact Keeps.refl
  ·
    refine Keeps.trans ?_ (putEp_keeps.mono rfl)
    exact Keeps.refl

theorem State_setEpQuiet_keeps {s : State} {i : Nat} :
    Keeps 0x200000000000000000000000000000000000000 s (State.setEpQuiet s i) := by
  unfold State.setEpQuiet
  refine Keeps.ite ?_ ?_
  ·
    exact Keeps.refl
  ·
    refine Keeps.trans ?_ (putEp_keeps.mono rfl)
    exact Keeps.refl

theorem State_setMarker_keeps {s : State} {c : Nat} {m : Nat} :
    Keeps 0x200000000000000000000000000000000000000000000000000000000000000000000000000000000000210000000000000000000000000000001882e00000000000040 s (State.setMarker s c m) := by
  unfold State.setMarker
  extract_lets -underBinder +onlyGivenNames x0
  have h0 : Keeps 0x200000000000000000000000000000000000000000000000000000000000000000000000000000000000210000000000000000000000000000001882e00000000000040 s x0 := by
    unfold x0
    refine Keeps.trans ?_ (State_wake_keeps.mono rfl)
    exact Keeps.refl
  try clear_value x0
  refine Keeps.ite ?_ ?_
  ·
    refine Keeps.trans ?_ (State_mkEvt_keeps.mono rfl)
    refine Keeps.trans ?_ (State_fset_keeps (by rfl))
    refine Keeps.trans ?_ (State_finc_keeps (by rfl))
    exact h0
  ·
    refine Keeps.trans ?_ (grantWaits_keeps.mono rfl)
    refine Keeps.trans ?_ (putMarker_keeps.mono rfl)
    exact h0

theorem State_setId_keeps {s : State} {id : Nat} :
    Keeps 0x200000000000000000000000000000000000000000000000000000000000000000000000000000000000210000000000380000000000000000001882e00000000000040 s (State.setId s id) := by
  unfold State.setId
  refine Keeps.ite ?_ ?_
  ·
    split
    ·
      refine Keeps.trans ?_ (State_setMarker_keeps.mono rfl)
      exact Keeps.refl
    ·
      refine Keeps.trans ?_ (State_raise_keeps.mono rfl)
      refine Keeps.trans ?_ (State_finc_keeps (by rfl))
      exact Keeps.refl
  ·
    refine Keeps.trans ?_ (State_setEp_keeps.mono rfl)
    exact Keeps.refl

end Sys2Proof.Laws
end

