-- ==== Sys2Proof/Laws/KeepsSend.lean ====
section
/-! SUPPORT. What each operation of Sys2Proof/Machine/Send.lean may write (Laws/Keeps.lean says how a mask is read). -/
namespace Sys2Proof.Laws
open Sys2Proof Sys2Proof.Machine

set_option linter.unusedVariables false

theorem State_returnTags_keeps {s : State} {ts : List Nat} :
    Keeps 0x1000000000000000000000000000000000000000000000000000000000000000000000000000000000000000000000000000000000000000000000000001880000000000000040 s (State.returnTags s ts) := by
  unfold State.returnTags
  refine Keeps.ite ?_ ?_
  ·
    exact Keeps.refl
  ·
    extract_lets -underBinder +onlyGivenNames x0
    have h0 : Keeps 0x1000000000000000000000000000000000000000000000000000000000000000000000000000000000000000000000000000000000000000000000000001880000000000000040 s x0 := by
      unfold x0
      refine Keeps.trans ?_ (upd_fenceUsed rfl)
      exact Keeps.refl
    try clear_value x0
    refine Keeps.trans ?_ (Keeps.foldl (fun s1 _ => ?_) _ _)
    ·
      exact h0
    ·
      refine Keeps.trans ?_ (State_wake_keeps.mono rfl)
      exact Keeps.refl

theorem State_pump_keeps {s : State} {p : Nat} :
    Keeps 0x11000000000000000000000000000000000000000000000000000000000000000000000000000000000000000000000000000000000000000000000000001880000000000000040 s (State.pump s p) := by
  unfold State.pump
  extract_lets -underBinder +onlyGivenNames x0
  try clear_value x0
  refine Keeps.ite ?_ ?_
  ·
    exact Keeps.refl
  ·
    extract_lets -underBinder +onlyGivenNames x1
    try clear_value x1
    extract_lets -underBinder +onlyGivenNames x2
    try clear_value x2
    refine Keeps.trans ?_ (State_returnTags_keeps.mono rfl)
    refine Keeps.trans ?_ (State_setPort_keeps.mono rfl)
    exact Keeps.refl

theorem State_enqueue_keeps {s : State} {p : Nat} {q : Packet} :
    Keeps 0x11000000000000000000000000000000000000000000000000000000000000000000000000000000000000000000000000000000000000000000000000001880000000000000040 s (State.enqueue s p q) := by
  unfold State.enqueue
  extract_lets -underBinder +onlyGivenNames x0
  try clear_value x0
  refine Keeps.trans ?_ (State_pump_keeps.mono rfl)
  refine Keeps.trans ?_ (State_setPort_keeps.mono rfl)
  exact Keeps.refl

theorem State_sendPkt_keeps {s : State} {q : Packet} :
    Keeps 0x411000000000000000000000000000000000000000000000000000000000000000000000000000010000000000000000000000000000000000000000000001880000000000000040 s (State.sendPkt s q) := by
  unfold State.sendPkt
  refine Keeps.ite ?_ ?_
  ·
    refine Keeps.trans ?_ (upd_routeHold rfl)
    exact Keeps.refl
  ·
    split
    ·
      refine Keeps.trans ?_ (State_enqueue_keeps.mono rfl)
      exact Keeps.refl
    ·
      refine Keeps.trans ?_ (State_finc_keeps (by rfl))
      exact Keeps.refl

theorem respond_keeps {s : State} {q : Packet} {t : Nat} {w1 : Nat} {data : List Byte} :
    Keeps 0x411000000000000000000000000000000000000000000000000000000000000000000000000000010000000000000000000000000000000000000000000001880000000000000040 s (respond s q t w1 data) := by
  unfold respond
  refine Keeps.trans ?_ (State_sendPkt_keeps.mono rfl)
  exact Keeps.refl

theorem State_remoteSet_keeps {s : State} {f : Flight} {fld : Nat} :
    Keeps 0x411000000200000000000000000000000000000000000000000000000000000000000000000000010000000000000210000000000380000000000000000001882e00000000000040 s (State.remoteSet s f fld) := by
  unfold State.remoteSet
  extract_lets -underBinder +onlyGivenNames x0
  try clear_value x0
  extract_lets -underBinder +onlyGivenNames x1
  try clear_value x1
  refine Keeps.ite ?_ ?_
  ·
    refine Keeps.trans ?_ (State_setId_keeps.mono rfl)
    exact Keeps.refl
  ·
    refine Keeps.ite ?_ ?_
    ·
      refine Keeps.trans ?_ (State_raise_keeps.mono rfl)
      refine Keeps.trans ?_ (State_finc_keeps (by rfl))
      exact Keeps.refl
    ·
      refine Keeps.trans ?_ (State_sendPkt_keeps.mono rfl)
      exact Keeps.refl

end Sys2Proof.Laws
end

