-- ==== Sys2Proof/Laws/KeepsStreams.lean ====
section
/-! SUPPORT. What each operation of Sys2Proof/Machine/Streams.lean may write (Laws/Keeps.lean says how a mask is read). -/
namespace Sys2Proof.Laws
open Sys2Proof Sys2Proof.Machine

set_option linter.unusedVariables false

theorem State_eachStream_keeps {M : Nat} {s : State} {p : Nat} {f : State → Nat → Strm → State} (hM : Within 0x0 M) (hf2 : ∀ a0 a1 a2, Keeps M a0 (f a0 a1 a2)) :
    Keeps M s (State.eachStream s p f) := by
  unfold State.eachStream
  refine Keeps.trans ?_ (Keeps.foldl (fun s0 _ => ?_) _ _)
  ·
    exact Keeps.refl
  ·
    refine Keeps.trans ?_ (Keeps.foldl (fun s1 _ => ?_) _ _)
    ·
      exact Keeps.refl
    ·
      refine Keeps.trans ?_ (hf2 ..)
      exact Keeps.refl

theorem State_freeChans_keeps {s : State} {f : Flight} :
    Keeps 0x10000000000000000000000000000000000000000000000000000000000000000000000000000000000000000000000000000000000000000000000000000000000000000000000000 s (State.freeChans s f) := by
  unfold State.freeChans
  refine Keeps.trans ?_ (upd_chans rfl)
  exact Keeps.refl

theorem State_setPc_keeps {s : State} {c : Nat} {st : Strm} {ix : Nat} :
    Keeps 0x8000000000000000000 s (State.setPc s c st ix) := by
  unfold State.setPc
  refine Keeps.trans ?_ (State_fset_keeps (by rfl))
  exact Keeps.refl

theorem State_ungrant_keeps {s : State} {c : Nat} {st : Strm} :
    Keeps 0x200000000000000000000000000000000000000000000000000000000000000000000000000000000000000000000000000000000000000000000000000000000000000 s (State.ungrant s c st) := by
  unfold State.ungrant
  refine Keeps.trans ?_ (State_setCore_keeps.mono rfl)
  exact Keeps.refl

theorem State_updFlight_keeps {s : State} {id : Nat} {f : Flight → Flight} :
    Keeps 0x400000000000000000000000000000000000000000000000000000000000000000000000000000000000000000000000000000000000000000000000000000000000000 s (State.updFlight s id f) := by
  unfold State.updFlight
  refine Keeps.trans ?_ (upd_flights rfl)
  exact Keeps.refl

theorem State_wakeSlots_keeps {s : State} {p : Nat} :
    Keeps 0x1880000000000000040 s (State.wakeSlots s p) := by
  unfold State.wakeSlots
  refine Keeps.trans ?_ (Keeps.foldl (fun s0 _ => ?_) _ _)
  ·
    exact Keeps.refl
  ·
    refine Keeps.trans ?_ (State_wake_keeps.mono rfl)
    exact Keeps.refl

theorem enter_keeps {o : OpSpec} {s : State} {p : Nat} {c : Nat} {st : Strm} {m : List Byte} :
    Keeps 0x1000000e00000000000000000000000000000000000000000000000000000000000000000000000000000000000000000000000000000000000000000014000000000000000000 s (enter o s p c st m).1 := by
  unfold enter
  extract_lets -underBinder +onlyGivenNames x0
  try clear_value x0
  extract_lets -underBinder +onlyGivenNames x1
  try clear_value x1
  extract_lets -underBinder +onlyGivenNames x2
  have h2 : Keeps 0x1000000e00000000000000000000000000000000000000000000000000000000000000000000000000000000000000000000000000000000000000000014000000000000000000 s x2 := by
    unfold x2
    refine Keeps.ite ?_ ?_
    ·
      exact Keeps.refl
    ·
      refine Keeps.trans ?_ (State_fset_keeps (by rfl))
      exact Keeps.refl
  try clear_value x2
  extract_lets -underBinder +onlyGivenNames x3
  have h3 : Keeps 0x1000000e00000000000000000000000000000000000000000000000000000000000000000000000000000000000000000000000000000000000000000014000000000000000000 s x3 := by
    unfold x3
    refine Keeps.trans ?_ (State_setSstate_keeps.mono rfl)
    refine Keeps.trans ?_ (State_fset_keeps (by rfl))
    exact h2
  try clear_value x3
  extract_lets -underBinder +onlyGivenNames x4
  try clear_value x4
  extract_lets -underBinder +onlyGivenNames x5
  unfold x5
  split
  ·
    refine Keeps.mk1 ?_
    refine Keeps.trans ?_ (State_setCore_keeps.mono rfl)
    refine Keeps.trans ?_ (State_updFlight_keeps.mono rfl)
    exact h3
  ·
    extract_lets -underBinder +onlyGivenNames x6
    try clear_value x6
    extract_lets -underBinder +onlyGivenNames x7
    try clear_value x7
    extract_lets -underBinder +onlyGivenNames x8
    try clear_value x8
    extract_lets -underBinder +onlyGivenNames x9
    try clear_value x9
    refine Keeps.mk1 ?_
    refine Keeps.trans ?_ (State_setCore_keeps.mono rfl)
    refine Keeps.trans ?_ (upd_flights_nextFlight_fenceUsed rfl rfl rfl)
    exact h3

theorem State_endReached_keeps {s : State} {p : Nat} {c : Nat} {st : Strm} :
    Keeps 0xc000000000000000000 s (State.endReached s p c st) := by
  unfold State.endReached
  extract_lets -underBinder +onlyGivenNames x0
  have h0 : Keeps 0xc000000000000000000 s x0 := by
    unfold x0
    refine Keeps.trans ?_ (State_setPc_keeps.mono rfl)
    exact Keeps.refl
  try clear_value x0
  refine Keeps.ite ?_ ?_
  ·
    refine Keeps.trans ?_ (State_setSstate_keeps.mono rfl)
    exact h0
  ·
    refine Keeps.ite ?_ ?_
    ·
      refine Keeps.trans ?_ (State_setSstate_keeps.mono rfl)
      exact h0
    ·
      refine Keeps.trans ?_ (State_setSstate_keeps.mono rfl)
      exact h0

theorem State_enterWait_keeps {s : State} {p : Nat} {c : Nat} {st : Strm} :
    Keeps 0x4000000000000000000 s (State.enterWait s p c st) := by
  unfold State.enterWait
  refine Keeps.ite ?_ ?_
  ·
    refine Keeps.trans ?_ (State_setSstate_keeps.mono rfl)
    exact Keeps.refl
  ·
    refine Keeps.trans ?_ (State_setSstate_keeps.mono rfl)
    exact Keeps.refl

theorem State_sweep_keeps {s : State} {id : Nat} :
    Keeps 0x400000000000000000000000000000000000000000000000000000000000000000000000000000000000000000000000000000000000000000001880000000000000040 s (State.sweep s id) := by
  unfold State.sweep
  split
  ·
    refine Keeps.trans ?_ (State_wakeSlots_keeps.mono rfl)
    refine Keeps.trans ?_ (upd_flights rfl)
    exact Keeps.refl
  ·
    exact Keeps.refl

theorem consumeWaits_keeps {s : State} {c : Nat} {m : List Byte} :
    Keeps 0x600000000000000 s (consumeWaits s c m) := by
  unfold consumeWaits
  refine Keeps.trans ?_ (Keeps.foldl (fun s0 _ => ?_) _ _)
  ·
    exact Keeps.refl
  ·
    refine Keeps.ite ?_ ?_
    ·
      refine Keeps.trans ?_ (State_clearMarker_keeps.mono rfl)
      exact Keeps.refl
    ·
      exact Keeps.refl

theorem State_advancePc_keeps {s : State} {p : Nat} {c : Nat} {st : Strm} :
    Keeps 0xc000000000000000000 s (State.advancePc s p c st) := by
  unfold State.advancePc
  refine Keeps.trans ?_ (State_enterWait_keeps.mono rfl)
  refine Keeps.trans ?_ (State_setPc_keeps.mono rfl)
  exact Keeps.refl

theorem State_dropHandlers_keeps {s : State} {cs : List Nat} :
    Keeps 0x9000000200000000000000000000000000000000000000000000000000000000000000000000000000000000000000000000000000000000000000000001c80000000000000040 s (State.dropHandlers s cs) := by
  unfold State.dropHandlers
  extract_lets -underBinder +onlyGivenNames x0
  try clear_value x0
  extract_lets -underBinder +onlyGivenNames x1
  have h1 : Keeps 0x9000000200000000000000000000000000000000000000000000000000000000000000000000000000000000000000000000000000000000000000000001c80000000000000040 s x1 := by
    unfold x1
    refine Keeps.trans ?_ (upd_queues rfl)
    exact Keeps.refl
  try clear_value x1
  extract_lets -underBinder +onlyGivenNames x2
  have h2 : Keeps 0x9000000200000000000000000000000000000000000000000000000000000000000000000000000000000000000000000000000000000000000000000001c80000000000000040 s x2 := by
    unfold x2
    refine Keeps.trans ?_ (State_returnTags_keeps.mono rfl)
    exact h1
  try clear_value x2
  refine Keeps.trans ?_ (Keeps.foldl (fun s3 _ => ?_) _ _)
  ·
    exact h2
  ·
    refine Keeps.trans ?_ (State_wr_keeps (by rfl))
    refine Keeps.ite ?_ ?_
    ·
      exact Keeps.refl
    ·
      refine Keeps.trans ?_ (State_setCore_keeps.mono rfl)
      exact Keeps.refl

theorem State_dropWork_keeps {s : State} {p : Nat} :
    Keeps 0x100090821c4600000000000000000000000000000000000000000000000000000000000000000000000000000000000000000000000000000000000000000001880000000000000040 s (State.dropWork s p) := by
  unfold State.dropWork
  extract_lets -underBinder +onlyGivenNames x0
  try clear_value x0
  extract_lets -underBinder +onlyGivenNames x1
  try clear_value x1
  extract_lets -underBinder +onlyGivenNames x2
  try clear_value x2
  extract_lets -underBinder +onlyGivenNames x3
  have h3 : Keeps 0x100090821c4600000000000000000000000000000000000000000000000000000000000000000000000000000000000000000000000000000000000000000001880000000000000040 s x3 := by
    unfold x3
    refine Keeps.trans ?_ (Keeps.foldl (fun s4 _ => ?_) _ _)
    ·
      exact Keeps.refl
    ·
      refine Keeps.trans ?_ (State_freeChans_keeps.mono rfl)
      exact Keeps.refl
  try clear_value x3
  extract_lets -underBinder +onlyGivenNames x5
  have h5 : Keeps 0x100090821c4600000000000000000000000000000000000000000000000000000000000000000000000000000000000000000000000000000000000000000001880000000000000040 s x5 := by
    unfold x5
    refine Keeps.trans ?_ (upd_flights_obs_slices_stalledSlices_sideRecs_updates_arrivals_queues rfl rfl rfl rfl rfl rfl rfl rfl)
    exact h3
  try clear_value x5
  extract_lets -underBinder +onlyGivenNames x6
  have h6 : Keeps 0x100090821c4600000000000000000000000000000000000000000000000000000000000000000000000000000000000000000000000000000000000000000001880000000000000040 s x6 := by
    unfold x6
    refine Keeps.trans ?_ (Keeps.foldl (fun s7 _ => ?_) _ _)
    ·
      exact h5
    ·
      refine Keeps.trans ?_ (State_setCore_keeps.mono rfl)
      exact Keeps.refl
  try clear_value x6
  refine Keeps.trans ?_ (State_returnTags_keeps.mono rfl)
  exact h6

theorem State_walkEnd_keeps {s : State} {id : Nat} {c : Nat} :
    Keeps 0x60000000000000000000000000000000000000000000000000000000000000000000000000000000000000000000000000000000000000000000d880000000000000040 s (State.walkEnd s id c) := by
  unfold State.walkEnd
  split
  ·
    exact Keeps.refl
  ·
    extract_lets -underBinder +onlyGivenNames x0
    have h0 : Keeps 0x60000000000000000000000000000000000000000000000000000000000000000000000000000000000000000000000000000000000000000000d880000000000000040 s x0 := by
      unfold x0
      refine Keeps.trans ?_ (State_updFlight_keeps.mono rfl)
      exact Keeps.refl
    try clear_value x0
    extract_lets -underBinder +onlyGivenNames x1
    try clear_value x1
    extract_lets -underBinder +onlyGivenNames x2
    have h2 : Keeps 0x60000000000000000000000000000000000000000000000000000000000000000000000000000000000000000000000000000000000000000000d880000000000000040 s x2 := by
      unfold x2
      refine Keeps.trans ?_ (State_setCore_keeps.mono rfl)
      exact h0
    try clear_value x2
    extract_lets -underBinder +onlyGivenNames x3
    have h3 : Keeps 0x60000000000000000000000000000000000000000000000000000000000000000000000000000000000000000000000000000000000000000000d880000000000000040 s x3 := by
      unfold x3
      refine Keeps.ite ?_ ?_
      ·
        refine Keeps.ite ?_ ?_
        ·
          refine Keeps.trans ?_ (State_endReached_keeps.mono rfl)
          exact h2
        ·
          exact h2
      ·
        refine Keeps.trans ?_ (State_advancePc_keeps.mono rfl)
        exact h2
    try clear_value x3
    refine Keeps.trans ?_ (State_sweep_keeps.mono rfl)
    exact h3

theorem State_halt_keeps {s : State} {c : Nat} {st : Strm} {cause : Nat} :
    Keeps 0x210000000000000000000000000000005880000000000000840 s (State.halt s c st cause) := by
  unfold State.halt
  refine Keeps.trans ?_ (State_haltEvt_keeps.mono rfl)
  refine Keeps.trans ?_ (State_setSstate_keeps.mono rfl)
  refine Keeps.trans ?_ (State_fset_keeps (by rfl))
  exact Keeps.refl

theorem State_selfSets_keeps {s : State} {m : List Byte} {cs : List Nat} :
    Keeps 0x200000000000000000000000000000000000000000000000000000000000000000000000000000000000210000000000000000000000000000001882e00000000000040 s (State.selfSets s m cs) := by
  unfold State.selfSets
  refine Keeps.trans ?_ (Keeps.foldl (fun s0 _ => ?_) _ _)
  ·
    exact Keeps.refl
  ·
    refine Keeps.ite ?_ ?_
    ·
      refine Keeps.trans ?_ (Keeps.foldl (fun s1 _ => ?_) _ _)
      ·
        exact Keeps.refl
      ·
        refine Keeps.trans ?_ (State_setMarker_keeps.mono rfl)
        exact Keeps.refl
    ·
      exact Keeps.refl

theorem issue_keeps {M : Nat} {o : OpSpec} {s : State} {c : Nat} {st : Strm} {body : State → Nat → Flight → Bool → State} (hM : Within 0x1000000e00000000000000000000000000000000000000000000000000000000000000000000000000000000000210000000000000000000000000000015880600000000000840 M) (hf4 : ∀ a0 a1 a2 a3, Keeps M a0 (body a0 a1 a2 a3)) :
    Keeps M s (issue o s c st body) := by
  unfold issue
  split
  ·
    exact Keeps.refl
  ·
    refine Keeps.ite ?_ ?_
    ·
      exact Keeps.refl
    ·
      extract_lets -underBinder +onlyGivenNames x0
      try clear_value x0
      refine Keeps.ite ?_ ?_
      ·
        exact Keeps.refl
      ·
        extract_lets -underBinder +onlyGivenNames x1
        have h1 : Keeps M s x1 := by
          unfold x1
          refine Keeps.trans ?_ (State_wake_keeps.mono (Within.via hM rfl))
          exact Keeps.refl
        try clear_value x1
        refine Keeps.ite ?_ ?_
        ·
          refine Keeps.trans ?_ (State_setSstate_keeps.mono (Within.via hM rfl))
          exact h1
        ·
          extract_lets -underBinder +onlyGivenNames x2
          try clear_value x2
          extract_lets -underBinder +onlyGivenNames x3
          try clear_value x3
          refine Keeps.ite ?_ ?_
          ·
            refine Keeps.trans ?_ (State_setSstate_keeps.mono (Within.via hM rfl))
            exact h1
          ·
            extract_lets -underBinder +onlyGivenNames x4
            have h4 : Keeps M s x4 := by
              unfold x4
              refine Keeps.trans ?_ (State_ungrant_keeps.mono (Within.via hM rfl))
              refine Keeps.trans ?_ (consumeWaits_keeps.mono (Within.via hM rfl))
              exact h1
            try clear_value x4
            refine Keeps.ite ?_ ?_
            ·
              refine Keeps.trans ?_ (State_halt_keeps.mono (Within.via hM rfl))
              exact h4
            ·
              split
              ·
                rename_i y5_0 y5_1 y5_2 e5
                have h5 := Keeps.of_eq (M := M) (s := s) e5 (by
                  refine Keeps.trans ?_ (enter_keeps.mono (Within.via hM rfl))
                  exact h4
                  )
                split
                ·
                  refine Keeps.trans ?_ (hf4 ..)
                  exact h5
                ·
                  exact h5

theorem State_completeOn_keeps {s : State} {id : Nat} {cs : List Nat} :
    Keeps 0x1041100000060000000000000000000000000000000000000000000000000000000000000000000001000000000000021000000000038000000000000000000d882e00000000000040 s (State.completeOn s id cs) := by
  unfold State.completeOn
  split
  ·
    exact Keeps.refl
  ·
    extract_lets -underBinder +onlyGivenNames x0
    have h0 : Keeps 0x1041100000060000000000000000000000000000000000000000000000000000000000000000000001000000000000021000000000038000000000000000000d882e00000000000040 s x0 := by
      unfold x0
      refine Keeps.trans ?_ (State_freeChans_keeps.mono rfl)
      refine Keeps.trans ?_ (State_updFlight_keeps.mono rfl)
      exact Keeps.refl
    try clear_value x0
    extract_lets -underBinder +onlyGivenNames x1
    have h1 : Keeps 0x1041100000060000000000000000000000000000000000000000000000000000000000000000000001000000000000021000000000038000000000000000000d882e00000000000040 s x1 := by
      unfold x1
      refine Keeps.trans ?_ (State_selfSets_keeps.mono rfl)
      exact h0
    try clear_value x1
    extract_lets -underBinder +onlyGivenNames x2
    have h2 : Keeps 0x1041100000060000000000000000000000000000000000000000000000000000000000000000000001000000000000021000000000038000000000000000000d882e00000000000040 s x2 := by
      unfold x2
      refine Keeps.trans ?_ (Keeps.foldl (fun s3 _ => ?_) _ _)
      ·
        exact h1
      ·
        extract_lets -underBinder +onlyGivenNames x4
        try clear_value x4
        refine Keeps.ite ?_ ?_
        ·
          refine Keeps.trans ?_ (State_setId_keeps.mono rfl)
          exact Keeps.refl
        ·
          refine Keeps.ite ?_ ?_
          ·
            refine Keeps.trans ?_ (State_remoteSet_keeps.mono rfl)
            exact Keeps.refl
          ·
            exact Keeps.refl
    try clear_value x2
    extract_lets -underBinder +onlyGivenNames x5
    have h5 : Keeps 0x1041100000060000000000000000000000000000000000000000000000000000000000000000000001000000000000021000000000038000000000000000000d882e00000000000040 s x5 := by
      unfold x5
      refine Keeps.trans ?_ (State_wakeSlots_keeps.mono rfl)
      refine Keeps.trans ?_ (State_returnTags_keeps.mono rfl)
      exact h2
    try clear_value x5
    extract_lets -underBinder +onlyGivenNames x6
    have h6 : Keeps 0x1041100000060000000000000000000000000000000000000000000000000000000000000000000001000000000000021000000000038000000000000000000d882e00000000000040 s x6 := by
      unfold x6
      refine Keeps.ite ?_ ?_
      ·
        refine Keeps.trans ?_ (Keeps.foldl (fun s7 _ => ?_) _ _)
        ·
          exact h5
        ·
          refine Keeps.trans ?_ (State_endReached_keeps.mono rfl)
          exact Keeps.refl
      ·
        exact h5
    try clear_value x6
    refine Keeps.trans ?_ (State_sweep_keeps.mono rfl)
    exact h6

theorem State_complete_keeps {s : State} {id : Nat} :
    Keeps 0x1041100000060000000000000000000000000000000000000000000000000000000000000000000001000000000000021000000000038000000000000000000d882e00000000000040 s (State.complete s id) := by
  unfold State.complete
  refine Keeps.trans ?_ (State_completeOn_keeps.mono rfl)
  exact Keeps.refl

theorem State_finish_keeps {s : State} {id : Nat} :
    Keeps 0x1041100000060000000000000000000000000000000000000000000000000000000000000000000001000000000000021000000000038000000000000000000d882e00000000000040 s (State.finish s id) := by
  unfold State.finish
  split
  ·
    exact Keeps.refl
  ·
    refine Keeps.trans ?_ (State_complete_keeps.mono rfl)
    refine Keeps.trans ?_ (Keeps.foldl (fun s0 _ => ?_) _ _)
    ·
      exact Keeps.refl
    ·
      refine Keeps.trans ?_ (State_walkEnd_keeps.mono rfl)
      exact Keeps.refl

end Sys2Proof.Laws
end

