-- ==== Sys2Proof/Laws/KeepsChain.lean ====
section
/-! SUPPORT. What each operation of Sys2Proof/Machine/Chain.lean may write (Laws/Keeps.lean says how a mask is read). -/
namespace Sys2Proof.Laws
open Sys2Proof Sys2Proof.Machine

set_option linter.unusedVariables false

theorem discardEpochs_keeps {s : State} {p : Nat} :
    Keeps 0xc0000000000000000000000000000000000000000000000000000000000000000000000000000000000000000000000000000000000000000000000000008000000000000000 s (discardEpochs s p) := by
  unfold discardEpochs
  extract_lets -underBinder +onlyGivenNames x0
  try clear_value x0
  extract_lets -underBinder +onlyGivenNames x1
  try clear_value x1
  extract_lets -underBinder +onlyGivenNames x2
  try clear_value x2
  extract_lets -underBinder +onlyGivenNames x3
  try clear_value x3
  extract_lets -underBinder +onlyGivenNames x4
  have h4 : Keeps 0xc0000000000000000000000000000000000000000000000000000000000000000000000000000000000000000000000000000000000000000000000000008000000000000000 s x4 := by
    unfold x4
    refine Keeps.trans ?_ (upd_openEpochs_arrivals rfl rfl)
    exact Keeps.refl
  try clear_value x4
  refine Keeps.trans ?_ (Keeps.foldl (fun s5 _ => ?_) _ _)
  ·
    exact h4
  ·
    extract_lets -underBinder +onlyGivenNames x6
    try clear_value x6
    refine Keeps.ite ?_ ?_
    ·
      refine Keeps.trans ?_ (State_fset_keeps (by rfl))
      exact Keeps.refl
    ·
      exact Keeps.refl

theorem putEpoch_keeps {s : State} {e : Epoch} :
    Keeps 0x40000000000000000000000000000000000000000000000000000000000000000000000000000000000000000000000000000000000000000000000000000000000000000000 s (putEpoch s e) := by
  unfold putEpoch
  refine Keeps.trans ?_ (upd_openEpochs rfl)
  exact Keeps.refl

theorem releaseEpoch_keeps {s : State} {id : Nat} {fault : Bool} :
    Keeps 0x160000000000000000000000000000000000000000000000000000000000000000000000000000000000000000000000000000000000000000000000000000000000000000000 s (releaseEpoch s id fault) := by
  unfold releaseEpoch
  refine Keeps.trans ?_ (upd_epochs_openEpochs_releases rfl rfl rfl)
  exact Keeps.refl

theorem sendArrival_keeps {s : State} {f : Flight} {c : Nat} :
    Keeps 0x80000400000000000000000000000000000000000000000000000000000000000000000000000000000000000000000000000000000000000000000000008000000000000000 s (sendArrival s f c) := by
  unfold sendArrival
  extract_lets -underBinder +onlyGivenNames x0
  try clear_value x0
  extract_lets -underBinder +onlyGivenNames x1
  have h1 : Keeps 0x80000400000000000000000000000000000000000000000000000000000000000000000000000000000000000000000000000000000000000000000000008000000000000000 s x1 := by
    unfold x1
    refine Keeps.trans ?_ (State_fset_keeps (by rfl))
    refine Keeps.trans ?_ (State_fset_keeps (by rfl))
    exact Keeps.refl
  try clear_value x1
  extract_lets -underBinder +onlyGivenNames x2
  have h2 : Keeps 0x80000400000000000000000000000000000000000000000000000000000000000000000000000000000000000000000000000000000000000000000000008000000000000000 s x2 := by
    unfold x2
    refine Keeps.trans ?_ (State_updFlight_keeps.mono rfl)
    exact h1
  try clear_value x2
  refine Keeps.trans ?_ (upd_arrivals rfl)
  exact h2

theorem nextArrival_keeps {s : State} {c : Nat} :
    Keeps 0x80000400000000000000000000000000000000000000000000000000000000000000000000000000000000000000000000000000000000000000000000008000000000000000 s (nextArrival s c) := by
  unfold nextArrival
  split
  ·
    refine Keeps.trans ?_ (sendArrival_keeps.mono rfl)
    exact Keeps.refl
  ·
    exact Keeps.refl

theorem doubleArrive_keeps {s : State} :
    Keeps 0x210000000000048000000000000000000000000000000000000 s (doubleArrive s) := by
  unfold doubleArrive
  refine Keeps.trans ?_ (State_chEvt_keeps.mono rfl)
  refine Keeps.trans ?_ (State_finc_keeps (by rfl))
  exact Keeps.refl

theorem strayArrive_keeps {s : State} :
    Keeps 0x210000000000048000000000000000000000000000000000000 s (strayArrive s) := by
  unfold strayArrive
  refine Keeps.trans ?_ (State_chEvt_keeps.mono rfl)
  refine Keeps.trans ?_ (State_finc_keeps (by rfl))
  exact Keeps.refl

theorem voteRecord_keeps {s : State} {l : List (Nat × Nat)} {step : Nat} :
    Keeps 0xc000000000000000140000000000000000000000000000000000000000000000000000000000000000000e0000000000000000000400000008000000000000000000000000000000000 s (voteRecord s l step) := by
  unfold voteRecord
  refine Keeps.trans ?_ (State_errRec_keeps.mono rfl)
  exact Keeps.refl

theorem State_sendVote_keeps {s : State} {p : Nat} {fault : Bool} :
    Keeps 0x411080000100000000000000000000000000000000000000000000000000000000000000000000010000000000000000000000000000000000000000000001880000000000000040 s (State.sendVote s p fault) := by
  unfold State.sendVote
  extract_lets -underBinder +onlyGivenNames x0
  try clear_value x0
  extract_lets -underBinder +onlyGivenNames x1
  try clear_value x1
  extract_lets -underBinder +onlyGivenNames x2
  have h2 : Keeps 0x411080000100000000000000000000000000000000000000000000000000000000000000000000010000000000000000000000000000000000000000000001880000000000000040 s x2 := by
    unfold x2
    refine Keeps.trans ?_ (State_setPanel_keeps.mono rfl)
    exact Keeps.refl
  try clear_value x2
  refine Keeps.ite ?_ ?_
  ·
    refine Keeps.trans ?_ (upd_arrivals rfl)
    exact h2
  ·
    refine Keeps.trans ?_ (State_sendPkt_keeps.mono rfl)
    exact h2

theorem applyRelease_keeps {s : State} {id : Nat} {epoch : Nat} {fault : Bool} :
    Keeps 0x8000060000000000000000000000000000000000000000000000000000000000000000000000000000000000021000000000000000000000000000000189ae00000000000040 s (applyRelease s id epoch fault) := by
  unfold applyRelease
  refine Keeps.trans ?_ (Keeps.foldl (fun s0 _ => ?_) _ _)
  ·
    exact Keeps.refl
  ·
    refine Keeps.trans ?_ (nextArrival_keeps.mono rfl)
    refine Keeps.trans ?_ (State_setMarker_keeps.mono rfl)
    refine Keeps.trans ?_ (State_fset_keeps (by rfl))
    refine Keeps.trans ?_ (State_fset_keeps (by rfl))
    refine Keeps.trans ?_ (State_fset_keeps (by rfl))
    refine Keeps.trans ?_ (State_fset_keeps (by rfl))
    exact Keeps.refl

theorem releaseMember_keeps {epoch : Nat} {i : Nat} {fault : Bool} {s : State} {m : Nat × Nat} :
    Keeps 0x411160000000000000000000000000000000000000000000000000000000000000000000000000010000000000000000000000000000000000000000000001880000000000000040 s (releaseMember epoch i fault s m) := by
  unfold releaseMember
  extract_lets -underBinder +onlyGivenNames x0
  try clear_value x0
  refine Keeps.ite ?_ ?_
  ·
    refine Keeps.trans ?_ (upd_epochs_openEpochs_releases rfl rfl rfl)
    exact Keeps.refl
  ·
    refine Keeps.trans ?_ (State_sendPkt_keeps.mono rfl)
    exact Keeps.refl

theorem tellMember_keeps {s : State} {o : VoteOutcome} {epoch : Nat} {m : Nat × Nat} :
    Keeps 0x411400000000000000000000000000000000000000000000000000000000000000000000000000010000000000000000000000000000000000000000000001880000000000000040 s (tellMember s o epoch m) := by
  unfold tellMember
  refine Keeps.ite ?_ ?_
  ·
    refine Keeps.trans ?_ (upd_voteOut rfl)
    exact Keeps.refl
  ·
    refine Keeps.trans ?_ (State_sendPkt_keeps.mono rfl)
    exact Keeps.refl

theorem checkNode_keeps {s : State} {id : Nat} {l : List (Nat × Nat)} :
    Keeps 0x411160000000000000000000000000000000000000000000000000000000000000000000000000010000000000000000000000000000000000000000000001880000000000000040 s (checkNode s id l) := by
  unfold checkNode
  extract_lets -underBinder +onlyGivenNames x0
  try clear_value x0
  refine Keeps.ite ?_ ?_
  ·
    exact Keeps.refl
  ·
    extract_lets -underBinder +onlyGivenNames x1
    try clear_value x1
    extract_lets -underBinder +onlyGivenNames x2
    try clear_value x2
    extract_lets -underBinder +onlyGivenNames x3
    have h3 : Keeps 0x411160000000000000000000000000000000000000000000000000000000000000000000000000010000000000000000000000000000000000000000000001880000000000000040 s x3 := by
      unfold x3
      refine Keeps.trans ?_ (upd_epochs_openEpochs rfl rfl)
      exact Keeps.refl
    try clear_value x3
    refine Keeps.trans ?_ (Keeps.foldl (fun s4 _ => ?_) _ _)
    ·
      exact h3
    ·
      refine Keeps.trans ?_ (releaseMember_keeps.mono rfl)
      exact Keeps.refl

theorem countMember_keeps {s : State} {id : Nat} {l : List (Nat × Nat)} {m : Nat × Nat} {fault : Bool} :
    Keeps 0x411160000000000000000000000000000000000000000000000000000000000000000000000000010000000000000000000000000000000000000000000001880000000000000040 s (countMember s id l m fault) := by
  unfold countMember
  extract_lets -underBinder +onlyGivenNames x0
  try clear_value x0
  refine Keeps.trans ?_ (checkNode_keeps.mono rfl)
  refine Keeps.trans ?_ (putEpoch_keeps.mono rfl)
  exact Keeps.refl

theorem releaseVotes_keeps {s : State} {o : VoteOutcome} {set : List (Nat × Nat)} {told : List (Nat × Nat)} :
    Keeps 0x411420000000000000000000000000000000000000000000000000000000000000000000000000010000000000000000000000000000000000000000000001880000000000000040 s (releaseVotes s o set told) := by
  unfold releaseVotes
  extract_lets -underBinder +onlyGivenNames x0
  try clear_value x0
  extract_lets -underBinder +onlyGivenNames x1
  have h1 : Keeps 0x411420000000000000000000000000000000000000000000000000000000000000000000000000010000000000000000000000000000000000000000000001880000000000000040 s x1 := by
    unfold x1
    refine Keeps.trans ?_ (Keeps.foldl (fun s2 _ => ?_) _ _)
    ·
      exact Keeps.refl
    ·
      refine Keeps.trans ?_ (upd_epochs rfl)
      exact Keeps.refl
  try clear_value x1
  refine Keeps.trans ?_ (Keeps.foldl (fun s3 _ => ?_) _ _)
  ·
    exact h1
  ·
    refine Keeps.trans ?_ (tellMember_keeps.mono rfl)
    exact Keeps.refl

theorem arriveMember_keeps {s : State} {m : Nat × Nat} {id : Nat} {fault : Bool} :
    Keeps 0x411160000000000000000000000000000000000000000000000000000000000000000000000000010000000000000210000000000048000000000000000001880000000000000040 s (arriveMember s m id fault) := by
  unfold arriveMember
  split
  ·
    refine Keeps.trans ?_ (strayArrive_keeps.mono rfl)
    exact Keeps.refl
  ·
    refine Keeps.ite ?_ ?_
    ·
      refine Keeps.trans ?_ (strayArrive_keeps.mono rfl)
      exact Keeps.refl
    ·
      extract_lets -underBinder +onlyGivenNames x0
      try clear_value x0
      extract_lets -underBinder +onlyGivenNames x1
      try clear_value x1
      refine Keeps.ite ?_ ?_
      ·
        refine Keeps.trans ?_ (doubleArrive_keeps.mono rfl)
        refine Keeps.trans ?_ (putEpoch_keeps.mono rfl)
        exact Keeps.refl
      ·
        refine Keeps.trans ?_ (countMember_keeps.mono rfl)
        exact Keeps.refl

theorem checkEpoch_keeps {s : State} {id : Nat} :
    Keeps 0x411160000000000000000000000000000000000000000000000000000000000000000000000000010000000000000000000000000000000000000000000001880000000000000040 s (checkEpoch s id) := by
  unfold checkEpoch
  split
  ·
    exact Keeps.refl
  ·
    extract_lets -underBinder +onlyGivenNames x0
    try clear_value x0
    extract_lets -underBinder +onlyGivenNames x1
    try clear_value x1
    extract_lets -underBinder +onlyGivenNames x2
    try clear_value x2
    refine Keeps.ite ?_ ?_
    ·
      exact Keeps.refl
    ·
      split
      ·
        exact Keeps.refl
      ·
        refine Keeps.trans ?_ (releaseEpoch_keeps.mono rfl)
        exact Keeps.refl
      ·
        refine Keeps.ite ?_ ?_
        ·
          exact Keeps.refl
        ·
          refine Keeps.ite ?_ ?_
          ·
            extract_lets -underBinder +onlyGivenNames x3
            try clear_value x3
            refine Keeps.ite ?_ ?_
            ·
              exact Keeps.refl
            ·
              refine Keeps.trans ?_ (countMember_keeps.mono rfl)
              exact Keeps.refl
          ·
            refine Keeps.ite ?_ ?_
            ·
              refine Keeps.trans ?_ (State_sendPkt_keeps.mono rfl)
              refine Keeps.trans ?_ (putEpoch_keeps.mono rfl)
              exact Keeps.refl
            ·
              exact Keeps.refl

theorem decideVote_keeps {s : State} {v : Vote} :
    Keeps 0xc004116200000000140000000000000000000000000000000000000000000000000000000000000000100e0000000000000000000400000008000000000000001880000000000000040 s (decideVote s v) := by
  unfold decideVote
  refine Keeps.ite ?_ ?_
  ·
    refine Keeps.trans ?_ (upd_votes rfl)
    exact Keeps.refl
  ·
    extract_lets -underBinder +onlyGivenNames x0
    have h0 : Keeps 0xc004116200000000140000000000000000000000000000000000000000000000000000000000000000100e0000000000000000000400000008000000000000001880000000000000040 s x0 := by
      unfold x0
      refine Keeps.trans ?_ (upd_votes rfl)
      exact Keeps.refl
    try clear_value x0
    extract_lets -underBinder +onlyGivenNames x1
    try clear_value x1
    extract_lets -underBinder +onlyGivenNames x2
    try clear_value x2
    extract_lets -underBinder +onlyGivenNames x3
    have h3 : Keeps 0xc004116200000000140000000000000000000000000000000000000000000000000000000000000000100e0000000000000000000400000008000000000000001880000000000000040 s x3 := by
      unfold x3
      refine Keeps.ite ?_ ?_
      ·
        refine Keeps.trans ?_ (voteRecord_keeps.mono rfl)
        exact h0
      ·
        exact h0
    try clear_value x3
    refine Keeps.trans ?_ (releaseVotes_keeps.mono rfl)
    exact h3

theorem recheckEpochs_keeps {s : State} {p : Nat} :
    Keeps 0x411160000000000000000000000000000000000000000000000000000000000000000000000000010000000000000000000000000000000000000000000001880000000000000040 s (recheckEpochs s p) := by
  unfold recheckEpochs
  refine Keeps.trans ?_ (Keeps.foldl (fun s0 _ => ?_) _ _)
  ·
    exact Keeps.refl
  ·
    refine Keeps.trans ?_ (checkEpoch_keeps.mono rfl)
    exact Keeps.refl

theorem arriveCore_keeps {s : State} {c : Nat} {id : Nat} {fault : Bool} :
    Keeps 0x411160000000000000000000000000000000000000000000000000000000000000000000000000010000000000000210000000000048000000000000000001880000000000000040 s (arriveCore s c id fault) := by
  unfold arriveCore
  extract_lets -underBinder +onlyGivenNames x0
  try clear_value x0
  refine Keeps.ite ?_ ?_
  ·
    exact Keeps.refl
  ·
    extract_lets -underBinder +onlyGivenNames x1
    try clear_value x1
    refine Keeps.ite ?_ ?_
    ·
      refine Keeps.trans ?_ (doubleArrive_keeps.mono rfl)
      refine Keeps.trans ?_ (putEpoch_keeps.mono rfl)
      exact Keeps.refl
    ·
      refine Keeps.trans ?_ (checkEpoch_keeps.mono rfl)
      refine Keeps.trans ?_ (putEpoch_keeps.mono rfl)
      exact Keeps.refl

theorem arriveVote_keeps {s : State} {m : Nat × Nat} {step : Nat} {fault : Bool} :
    Keeps 0xc004116200000000140000000000000000000000000000000000000000000000000000000000000000100e0000000000210000000400048008000000000000001880000000000000040 s (arriveVote s m step fault) := by
  unfold arriveVote
  split
  ·
    refine Keeps.trans ?_ (strayArrive_keeps.mono rfl)
    exact Keeps.refl
  ·
    extract_lets -underBinder +onlyGivenNames x0
    try clear_value x0
    extract_lets -underBinder +onlyGivenNames x1
    try clear_value x1
    extract_lets -underBinder +onlyGivenNames x2
    try clear_value x2
    refine Keeps.ite ?_ ?_
    ·
      refine Keeps.trans ?_ (tellMember_keeps.mono rfl)
      refine Keeps.trans ?_ (upd_votes rfl)
      exact Keeps.refl
    ·
      refine Keeps.ite ?_ ?_
      ·
        refine Keeps.trans ?_ (decideVote_keeps.mono rfl)
        exact Keeps.refl
      ·
        refine Keeps.ite ?_ ?_
        ·
          refine Keeps.trans ?_ (doubleArrive_keeps.mono rfl)
          refine Keeps.trans ?_ (upd_votes rfl)
          exact Keeps.refl
        ·
          refine Keeps.trans ?_ (decideVote_keeps.mono rfl)
          exact Keeps.refl

end Sys2Proof.Laws
end

