-- ==== Sys2Proof/Laws/KeepsReach.lean ====
section
/-! SUPPORT. What each operation of Sys2Proof/Machine/Reach.lean may write (Laws/Keeps.lean says how a mask is read). -/
namespace Sys2Proof.Laws
open Sys2Proof Sys2Proof.Machine

set_option linter.unusedVariables false

theorem wakeAt_keeps {off : Nat} {x : State × Word} :
    Keeps 0x1880000000000000040 x.1 (wakeAt off x).1 := by
  unfold wakeAt
  split
  ·
    refine Keeps.mk1 ?_
    refine Keeps.trans ?_ (State_wake_keeps.mono rfl)
    exact Keeps.refl
  ·
    exact Keeps.refl

theorem State_readAccess_keeps {M : Nat} {s : State} {a : Agent} {off : Nat} {f : State → State × Word} (hM : Within 0x210681000000000000000000000000001880000000000000040 M)
    (hf3 : ∀ a0, Keeps M a0 (f a0).1) : Keeps M s (State.readAccess s a off f).1 := by
  unfold State.readAccess
  refine Keeps.ite1 Keeps.refl (Keeps.ite1 (State_finc_keeps (Within.bit (by rfl) hM)) ?_)
  have h : Keeps M s (wakeAt off (f s)).1 := (hf3 s).trans (wakeAt_keeps.mono (Within.via hM rfl))
  cases a with
  | core c => exact Keeps.ite1 h (State_outOfRange_keeps.mono (Within.via hM rfl))
  | i3c => exact Keeps.ite1 h Keeps.refl
  | link _ _ _ _ => exact h
  | steward _ => exact h
  | jtag => exact h

theorem State_readInto_keeps {M : Nat} {s : State} {a : Agent} {off : Nat} {f : State → State × Word} (hM : Within 0x400000000000000000000000000000000000000000000000000000000000000000000000000000210681000000000000000000000000001880000000000000040 M) (hf3 : ∀ a0, Keeps M a0 (f a0).1) :
    Keeps M s (State.readInto s a off f) := by
  unfold State.readInto
  split
  ·
    rename_i y0_0 y0_1 e0
    have h0 := Keeps.of_eq (M := M) (s := s) e0 (by
      refine Keeps.trans ?_ (State_readAccess_keeps (Within.via hM rfl) (fun f1_0 => ?_))
      ·
        exact Keeps.refl
      ·
        refine Keeps.trans ?_ (hf3 ..)
        exact Keeps.refl
      )
    refine Keeps.trans ?_ (upd_readback (Within.bit (by rfl) hM))
    exact h0

theorem State_access_keeps {M : Nat} {s : State} {a : Agent} {off : Nat} {f : State → State} (hM : Within 0x210681000000000000000000000000001880000000000000040 M) (hf3 : ∀ a0, Keeps M a0 (f a0)) :
    Keeps M s (State.access s a off f) := by
  unfold State.access
  refine Keeps.ite ?_ ?_
  ·
    exact Keeps.refl
  ·
    refine Keeps.ite ?_ ?_
    ·
      refine Keeps.trans ?_ (State_finc_keeps (Within.bit (by rfl) hM))
      exact Keeps.refl
    ·
      refine Keeps.ite ?_ ?_
      ·
        refine Keeps.trans ?_ (State_outOfRange_keeps.mono (Within.via hM rfl))
        exact Keeps.refl
      ·
        refine Keeps.trans ?_ (hf3 ..)
        split
        ·
          refine Keeps.trans ?_ (State_wake_keeps.mono (Within.via hM rfl))
          exact Keeps.refl
        ·
          exact Keeps.refl

end Sys2Proof.Laws
end

