-- ==== Sys2Proof/Laws/KeepsRecover.lean ====
section
/-! SUPPORT. What each operation of Sys2Proof/Machine/Recover.lean may write (Laws/Keeps.lean says how a mask is read). -/
namespace Sys2Proof.Laws
open Sys2Proof Sys2Proof.Machine

set_option linter.unusedVariables false

theorem State_freeWindows_keeps {s : State} {p : Nat} :
    Keeps 0xfff9000000000000000000000000000000000000000000000000000000000000000000000000000000000000000000000000000000000000000000000000000000000000000 s (State.freeWindows s p) := by
  unfold State.freeWindows
  refine Keeps.trans ?_ (upd_trackers_windows_micros_sliceSums_slices_stalledSlices_sideRecs_sideSums_masks_helds_sentTiles_updates_updDone_ratios rfl rfl rfl rfl rfl rfl rfl rfl rfl rfl rfl rfl rfl rfl)
  exact Keeps.refl

theorem State_releaseHolds_keeps {s : State} {p : Nat} :
    Keeps 0x10000000000000000000000000000000000000000000000000000000000000000000000000000000000000000000000000000000000000000000000000000000000000000000000000 s (State.releaseHolds s p) := by
  unfold State.releaseHolds
  refine Keeps.trans ?_ (upd_chans rfl)
  exact Keeps.refl

theorem State_stopIdlers_keeps {s : State} {p : Nat} :
    Keeps 0x4000000000000000000 s (State.stopIdlers s p) := by
  unfold State.stopIdlers
  refine Keeps.trans ?_ (State_eachStream_keeps rfl (fun f0_0 f0_1 f0_2 => ?_))
  ·
    exact Keeps.refl
  ·
    refine Keeps.ite ?_ ?_
    ·
      exact Keeps.refl
    ·
      refine Keeps.trans ?_ (State_setSstate_keeps.mono rfl)
      exact Keeps.refl

theorem State_toEntry_keeps {s : State} {p : Nat} {state : Nat} :
    Keeps 0xc000000000000000000 s (State.toEntry s p state) := by
  unfold State.toEntry
  refine Keeps.trans ?_ (State_eachStream_keeps rfl (fun f0_0 f0_1 f0_2 => ?_))
  ·
    exact Keeps.refl
  ·
    refine Keeps.ite ?_ ?_
    ·
      exact Keeps.refl
    ·
      refine Keeps.trans ?_ (State_setSstate_keeps.mono rfl)
      refine Keeps.trans ?_ (State_setPc_keeps.mono rfl)
      exact Keeps.refl

theorem moveUnits_keeps {s : State} {p : Nat} {c : Nat} :
    Keeps 0x200000000000000000000000000000000000000000000000000000000000000000000000000000000000000000000000000000000000000000001880000000000000440 s (moveUnits s p c) := by
  unfold moveUnits
  split
  ·
    refine Keeps.trans ?_ (State_setCore_keeps.mono rfl)
    exact Keeps.refl
  ·
    refine Keeps.trans ?_ (Keeps.foldl (fun s0 _ => ?_) _ _)
    ·
      exact Keeps.refl
    ·
      extract_lets -underBinder +onlyGivenNames x1
      try clear_value x1
      extract_lets -underBinder +onlyGivenNames x2
      have h2 : Keeps 0x200000000000000000000000000000000000000000000000000000000000000000000000000000000000000000000000000000000000000000001880000000000000440 s0 x2 := by
        unfold x2
        refine Keeps.ite ?_ ?_
        ·
          exact Keeps.refl
        ·
          refine Keeps.trans ?_ (State_wake_keeps.mono rfl)
          exact Keeps.refl
      try clear_value x2
      extract_lets -underBinder +onlyGivenNames x3
      try clear_value x3
      extract_lets -underBinder +onlyGivenNames x4
      have h4 : Keeps 0x200000000000000000000000000000000000000000000000000000000000000000000000000000000000000000000000000000000000000000001880000000000000440 s0 x4 := by
        unfold x4
        refine Keeps.trans ?_ (State_setCore_keeps.mono rfl)
        exact h2
      try clear_value x4
      refine Keeps.trans ?_ (State_finc_keeps (by rfl))
      refine Keeps.trans ?_ (State_setCore_keeps.mono rfl)
      exact h4

theorem State_loseStores_keeps {s : State} {p : Nat} :
    Keeps 0x200000200000000000000000000000000000000000000000000000000000000000000000000000000000000000000000000000000000000000000000000000000000000 s (State.loseStores s p) := by
  unfold State.loseStores
  refine Keeps.trans ?_ (Keeps.foldl (fun s0 _ => ?_) _ _)
  ·
    exact Keeps.refl
  ·
    refine Keeps.trans ?_ (State_useFree_keeps.mono rfl)
    refine Keeps.trans ?_ (State_setCore_keeps.mono rfl)
    exact Keeps.refl

theorem State_queryAbort_keeps {s : State} {p : Nat} :
    Keeps 0x100090821c460000000000000000000000000000000000000000000000000000000000000000000000000000000000000000000010000000000000000000000d880000000000000040 s (State.queryAbort s p) := by
  unfold State.queryAbort
  refine Keeps.ite ?_ ?_
  ·
    refine Keeps.trans ?_ (State_toEntry_keeps.mono rfl)
    refine Keeps.trans ?_ (State_dropWork_keeps.mono rfl)
    refine Keeps.trans ?_ (State_finc_keeps (by rfl))
    exact Keeps.refl
  ·
    exact Keeps.refl

theorem State_abortStep_keeps {s : State} {p : Nat} :
    Keeps 0x100090821c470000000000000000000000000000000000000000000000000000000000000000000000000000000000000000000010000000000000000000000d880000000000000040 s (State.abortStep s p) := by
  unfold State.abortStep
  extract_lets -underBinder +onlyGivenNames x0
  have h0 : Keeps 0x100090821c470000000000000000000000000000000000000000000000000000000000000000000000000000000000000000000010000000000000000000000d880000000000000040 s x0 := by
    unfold x0
    refine Keeps.trans ?_ (State_toEntry_keeps.mono rfl)
    refine Keeps.trans ?_ (State_dropWork_keeps.mono rfl)
    refine Keeps.trans ?_ (State_finc_keeps (by rfl))
    exact Keeps.refl
  try clear_value x0
  refine Keeps.trans ?_ (State_setPanel_keeps.mono rfl)
  exact h0

theorem State_endQuery_keeps {s : State} {p : Nat} :
    Keeps 0xc000000000000000140000000000000000000000000000000000000000000000000000000000000000000e0000000000000000000400000008000000000000000000000000000000000 s (State.endQuery s p) := by
  unfold State.endQuery
  refine Keeps.ite ?_ ?_
  ·
    refine Keeps.trans ?_ (State_errRec_keeps.mono rfl)
    exact Keeps.refl
  ·
    exact Keeps.refl

theorem State_stepFault_keeps {s : State} {p : Nat} :
    Keeps 0x100090821c470000000000000000000000000000000000000000000000000000000000000000000000000000000000000000000010000000000000000000000d880000000000000040 s (State.stepFault s p) := by
  unfold State.stepFault
  extract_lets -underBinder +onlyGivenNames x0
  have h0 : Keeps 0x100090821c470000000000000000000000000000000000000000000000000000000000000000000000000000000000000000000010000000000000000000000d880000000000000040 s x0 := by
    unfold x0
    refine Keeps.trans ?_ (State_finc_keeps (by rfl))
    exact Keeps.refl
  try clear_value x0
  extract_lets -underBinder +onlyGivenNames x1
  try clear_value x1
  extract_lets -underBinder +onlyGivenNames x2
  try clear_value x2
  refine Keeps.ite ?_ ?_
  ·
    refine Keeps.ite ?_ ?_
    ·
      exact h0
    ·
      refine Keeps.trans ?_ (State_abortStep_keeps.mono rfl)
      refine Keeps.trans ?_ (State_setPanel_keeps.mono rfl)
      exact h0
  ·
    refine Keeps.ite ?_ ?_
    ·
      refine Keeps.trans ?_ (State_setPanel_keeps.mono rfl)
      exact h0
    ·
      refine Keeps.ite ?_ ?_
      ·
        refine Keeps.trans ?_ (State_setPanel_keeps.mono rfl)
        exact h0
      ·
        exact h0

theorem State_enterStopped_keeps {s : State} {p : Nat} :
    Keeps 0x104110cfff9700000200000000000000000000000000000000000000000000000000000000000000010000000000000210000000000000900000000000000001888000000000000040 s (State.enterStopped s p) := by
  unfold State.enterStopped
  extract_lets -underBinder +onlyGivenNames x0
  have h0 : Keeps 0x104110cfff9700000200000000000000000000000000000000000000000000000000000000000000010000000000000210000000000000900000000000000001888000000000000040 s x0 := by
    unfold x0
    refine Keeps.trans ?_ (State_raise_keeps.mono rfl)
    refine Keeps.trans ?_ (State_fset_keeps (by rfl))
    refine Keeps.trans ?_ (State_fset_keeps (by rfl))
    exact Keeps.refl
  try clear_value x0
  extract_lets -underBinder +onlyGivenNames x1
  try clear_value x1
  extract_lets -underBinder +onlyGivenNames x2
  have h2 : Keeps 0x104110cfff9700000200000000000000000000000000000000000000000000000000000000000000010000000000000210000000000000900000000000000001888000000000000040 s x2 := by
    unfold x2
    refine Keeps.ite ?_ ?_
    ·
      refine Keeps.trans ?_ (State_sendVote_keeps.mono rfl)
      exact h0
    ·
      exact h0
  try clear_value x2
  extract_lets -underBinder +onlyGivenNames x3
  have h3 : Keeps 0x104110cfff9700000200000000000000000000000000000000000000000000000000000000000000010000000000000210000000000000900000000000000001888000000000000040 s x3 := by
    unfold x3
    refine Keeps.ite ?_ ?_
    ·
      refine Keeps.trans ?_ (State_fset_keeps (by rfl))
      exact h2
    ·
      exact h2
  try clear_value x3
  extract_lets -underBinder +onlyGivenNames x4
  have h4 : Keeps 0x104110cfff9700000200000000000000000000000000000000000000000000000000000000000000010000000000000210000000000000900000000000000001888000000000000040 s x4 := by
    unfold x4
    refine Keeps.ite ?_ ?_
    ·
      refine Keeps.trans ?_ (State_releaseHolds_keeps.mono rfl)
      exact h3
    ·
      exact h3
  try clear_value x4
  extract_lets -underBinder +onlyGivenNames x5
  have h5 : Keeps 0x104110cfff9700000200000000000000000000000000000000000000000000000000000000000000010000000000000210000000000000900000000000000001888000000000000040 s x5 := by
    unfold x5
    refine Keeps.trans ?_ (State_loseStores_keeps.mono rfl)
    refine Keeps.trans ?_ (State_freeWindows_keeps.mono rfl)
    refine Keeps.trans ?_ (discardEpochs_keeps.mono rfl)
    exact h4
  try clear_value x5
  extract_lets -underBinder +onlyGivenNames x6
  have h6 : Keeps 0x104110cfff9700000200000000000000000000000000000000000000000000000000000000000000010000000000000210000000000000900000000000000001888000000000000040 s x6 := by
    unfold x6
    refine Keeps.trans ?_ (upd_flights rfl)
    exact h5
  try clear_value x6
  extract_lets -underBinder +onlyGivenNames x7
  try clear_value x7
  refine Keeps.trans ?_ (State_setPanel_keeps.mono rfl)
  exact h6

theorem State_forceStop_keeps {s : State} {p : Nat} :
    Keeps 0xc104190cfffd7000142000000000000000000000000000000000000000000000000000000000000000100e0000000000210000000400000908000000000000005c88000000000000040 s (State.forceStop s p) := by
  unfold State.forceStop
  extract_lets -underBinder +onlyGivenNames x0
  have h0 : Keeps 0xc104190cfffd7000142000000000000000000000000000000000000000000000000000000000000000100e0000000000210000000400000908000000000000005c88000000000000040 s x0 := by
    unfold x0
    refine Keeps.trans ?_ (State_fset_keeps (by rfl))
    exact Keeps.refl
  try clear_value x0
  refine Keeps.ite ?_ ?_
  ·
    refine Keeps.trans ?_ (State_setPanel_keeps.mono rfl)
    refine Keeps.trans ?_ (State_fset_keeps (by rfl))
    exact h0
  ·
    extract_lets -underBinder +onlyGivenNames x1
    try clear_value x1
    extract_lets -underBinder +onlyGivenNames x2
    have h2 : Keeps 0xc104190cfffd7000142000000000000000000000000000000000000000000000000000000000000000100e0000000000210000000400000908000000000000005c88000000000000040 s x2 := by
      unfold x2
      refine Keeps.trans ?_ (State_setPanel_keeps.mono rfl)
      refine Keeps.trans ?_ (State_endQuery_keeps.mono rfl)
      exact h0
    try clear_value x2
    refine Keeps.trans ?_ (State_enterStopped_keeps.mono rfl)
    refine Keeps.trans ?_ (State_eachStream_keeps rfl (fun f3_0 f3_1 f3_2 => ?_))
    ·
      refine Keeps.trans ?_ (State_dropHandlers_keeps.mono rfl)
      refine Keeps.trans ?_ (State_dropWork_keeps.mono rfl)
      exact h2
    ·
      refine Keeps.trans ?_ (State_setSstate_keeps.mono rfl)
      exact Keeps.refl

theorem State_panelFault_keeps {s : State} {p : Nat} :
    Keeps 0x100090821c470000000000000000000000000000000000000000000000000000000000000000000000000000000000000000000010000000000000000000000d880000000000000040 s (State.panelFault s p) := by
  unfold State.panelFault
  refine Keeps.ite ?_ ?_
  ·
    refine Keeps.trans ?_ (State_queryAbort_keeps.mono rfl)
    exact Keeps.refl
  ·
    refine Keeps.ite ?_ ?_
    ·
      refine Keeps.trans ?_ (State_stepFault_keeps.mono rfl)
      exact Keeps.refl
    ·
      exact Keeps.refl

theorem State_beginStop_keeps {s : State} {p : Nat} {m1 : Bool} :
    Keeps 0x104110cfff9700000200000000000000000000000000000000000000000000000000000000000000010000000000000210000000000000900000000000000005888000000000000040 s (State.beginStop s p m1) := by
  unfold State.beginStop
  extract_lets -underBinder +onlyGivenNames x0
  try clear_value x0
  extract_lets -underBinder +onlyGivenNames x1
  have h1 : Keeps 0x104110cfff9700000200000000000000000000000000000000000000000000000000000000000000010000000000000210000000000000900000000000000005888000000000000040 s x1 := by
    unfold x1
    refine Keeps.trans ?_ (State_setPanel_keeps.mono rfl)
    refine Keeps.trans ?_ (State_fset_keeps (by rfl))
    exact Keeps.refl
  try clear_value x1
  refine Keeps.ite ?_ ?_
  ·
    refine Keeps.trans ?_ (State_enterStopped_keeps.mono rfl)
    refine Keeps.trans ?_ (State_eachStream_keeps rfl (fun f2_0 f2_1 f2_2 => ?_))
    ·
      exact h1
    ·
      refine Keeps.trans ?_ (State_setSstate_keeps.mono rfl)
      exact Keeps.refl
  ·
    refine Keeps.ite ?_ ?_
    ·
      refine Keeps.ite ?_ ?_
      ·
        refine Keeps.trans ?_ (State_eachStream_keeps rfl (fun f3_0 f3_1 f3_2 => ?_))
        ·
          exact h1
        ·
          refine Keeps.ite ?_ ?_
          ·
            refine Keeps.trans ?_ (State_setSstate_keeps.mono rfl)
            exact Keeps.refl
          ·
            exact Keeps.refl
      ·
        exact h1
    ·
      refine Keeps.ite ?_ ?_
      ·
        exact h1
      ·
        refine Keeps.trans ?_ (State_stopIdlers_keeps.mono rfl)
        exact h1

theorem State_coreStepFault_keeps {s : State} {code : Nat} {c : Nat} {st : Option Strm} {loc : Nat} :
    Keeps 0xc100090821c47000140000000000000000000000000000000000000000000000000000000000000000000e000000000000000000050000000800000000000000d880000000000000040 s (State.coreStepFault s code c st loc) := by
  unfold State.coreStepFault
  extract_lets -underBinder +onlyGivenNames x0
  try clear_value x0
  extract_lets -underBinder +onlyGivenNames x1
  have h1 : Keeps 0xc100090821c47000140000000000000000000000000000000000000000000000000000000000000000000e000000000000000000050000000800000000000000d880000000000000040 s x1 := by
    unfold x1
    refine Keeps.trans ?_ (State_coreRec_keeps.mono rfl)
    exact Keeps.refl
  try clear_value x1
  split
  ·
    refine Keeps.trans ?_ (State_panelFault_keeps.mono rfl)
    exact h1
  ·
    exact h1

theorem State_dieStepFault_keeps {s : State} {d : Nat} :
    Keeps 0xc100090821c47000140000000000000000000000000000000000000000000000000000000000000000000e000000000000000000050000000800000000000000d880000000000000040 s (State.dieStepFault s d) := by
  unfold State.dieStepFault
  extract_lets -underBinder +onlyGivenNames x0
  have h0 : Keeps 0xc100090821c47000140000000000000000000000000000000000000000000000000000000000000000000e000000000000000000050000000800000000000000d880000000000000040 s x0 := by
    unfold x0
    refine Keeps.trans ?_ (State_errRec_keeps.mono rfl)
    exact Keeps.refl
  try clear_value x0
  refine Keeps.trans ?_ (Keeps.foldl (fun s1 _ => ?_) _ _)
  ·
    exact h0
  ·
    refine Keeps.trans ?_ (State_panelFault_keeps.mono rfl)
    exact Keeps.refl

theorem State_feltStepFault_keeps {s : State} {code : Nat} {n : Nat} {p : Option Nat} {loc : Nat} :
    Keeps 0xc100090821c47000140000000000000000000000000000000000000000000000000000000000000000000e000000000000000000050000000800000000000000d880000000000000040 s (State.feltStepFault s code n p loc) := by
  unfold State.feltStepFault
  extract_lets -underBinder +onlyGivenNames x0
  have h0 : Keeps 0xc100090821c47000140000000000000000000000000000000000000000000000000000000000000000000e000000000000000000050000000800000000000000d880000000000000040 s x0 := by
    unfold x0
    refine Keeps.trans ?_ (State_errRec_keeps.mono rfl)
    exact Keeps.refl
  try clear_value x0
  split
  ·
    refine Keeps.trans ?_ (State_panelFault_keeps.mono rfl)
    exact h0
  ·
    exact h0

theorem autoStop_keeps {s : State} {p : Nat} :
    Keeps 0x104110cfff9700000200000000000000000000000000000000000000000000000000000000000000010000000000000210000000000000900000000000000005888000000000000040 s (autoStop s p) := by
  unfold autoStop
  refine Keeps.ite ?_ ?_
  ·
    exact Keeps.refl
  ·
    extract_lets -underBinder +onlyGivenNames x0
    try clear_value x0
    extract_lets -underBinder +onlyGivenNames x1
    have h1 : Keeps 0x104110cfff9700000200000000000000000000000000000000000000000000000000000000000000010000000000000210000000000000900000000000000005888000000000000040 s x1 := by
      unfold x1
      refine Keeps.trans ?_ (State_setPanel_keeps.mono rfl)
      exact Keeps.refl
    try clear_value x1
    refine Keeps.ite ?_ ?_
    ·
      refine Keeps.trans ?_ (State_beginStop_keeps.mono rfl)
      exact h1
    ·
      exact h1

theorem State_exclude_keeps {s : State} {c : Nat} :
    Keeps 0xc104191efffd7000142000000000000000000000000000000000000000000000000000000000000000100e000000000021000000070000096800000000000000dc88000000000000540 s (State.exclude s c) := by
  unfold State.exclude
  refine Keeps.ite ?_ ?_
  ·
    exact Keeps.refl
  ·
    extract_lets -underBinder +onlyGivenNames x0
    unfold x0
    extract_lets -underBinder +onlyGivenNames x1
    have h1 : Keeps 0xc104191efffd7000142000000000000000000000000000000000000000000000000000000000000000100e000000000021000000070000096800000000000000dc88000000000000540 s x1 := by
      unfold x1
      refine Keeps.trans ?_ (State_finc_keeps (by rfl))
      refine Keeps.trans ?_ (State_setBit_keeps (by split <;> rfl))
      refine Keeps.trans ?_ (State_fltEvt_keeps.mono rfl)
      refine Keeps.trans ?_ (State_fset_keeps (by rfl))
      exact Keeps.refl
    try clear_value x1
    split
    ·
      exact h1
    ·
      refine Keeps.ite ?_ ?_
      ·
        exact h1
      ·
        extract_lets -underBinder +onlyGivenNames x2
        have h2 : Keeps 0xc104191efffd7000142000000000000000000000000000000000000000000000000000000000000000100e000000000021000000070000096800000000000000dc88000000000000540 s x2 := by
          unfold x2
          refine Keeps.trans ?_ (recheckEpochs_keeps.mono rfl)
          refine Keeps.trans ?_ (moveUnits_keeps.mono rfl)
          exact h1
        try clear_value x2
        extract_lets -underBinder +onlyGivenNames x3
        have h3 : Keeps 0xc104191efffd7000142000000000000000000000000000000000000000000000000000000000000000100e000000000021000000070000096800000000000000dc88000000000000540 s x3 := by
          unfold x3
          refine Keeps.trans ?_ (Keeps.foldl (fun s4 _ => ?_) _ _)
          ·
            exact h2
          ·
            refine Keeps.ite ?_ ?_
            ·
              refine Keeps.trans ?_ (State_sweep_keeps.mono rfl)
              exact Keeps.refl
            ·
              exact Keeps.refl
        try clear_value x3
        refine Keeps.ite ?_ ?_
        ·
          refine Keeps.trans ?_ (State_forceStop_keeps.mono rfl)
          exact h3
        ·
          extract_lets -underBinder +onlyGivenNames x5
          have h5 : Keeps 0xc104191efffd7000142000000000000000000000000000000000000000000000000000000000000000100e000000000021000000070000096800000000000000dc88000000000000540 s x5 := by
            unfold x5
            refine Keeps.ite ?_ ?_
            ·
              refine Keeps.trans ?_ (State_panelFault_keeps.mono rfl)
              exact h3
            ·
              exact h3
          try clear_value x5
          refine Keeps.trans ?_ (autoStop_keeps.mono rfl)
          exact h5

theorem State_feltChecked_keeps {s : State} {n : Nat} {p : Nat} {z50 : FeltCheck} :
    Keeps 0xc100090821c47000140000000000000000000000000000000000000000000000000000000000000000000e000000000021000000050000000802800000000000d880000000000000040 s (State.feltChecked s n p z50) := by
  unfold State.feltChecked
  split
  ·
    exact Keeps.refl
  ·
    refine Keeps.trans ?_ (State_feltStepFault_keeps.mono rfl)
    refine Keeps.trans ?_ (State_feltFlt_keeps.mono rfl)
    exact Keeps.refl
  ·
    refine Keeps.trans ?_ (State_feltStepFault_keeps.mono rfl)
    refine Keeps.trans ?_ (State_feltFlt_keeps.mono rfl)
    exact Keeps.refl
  ·
    refine Keeps.trans ?_ (State_feltStepFault_keeps.mono rfl)
    refine Keeps.trans ?_ (State_feltFlt_keeps.mono rfl)
    exact Keeps.refl
  ·
    refine Keeps.trans ?_ (State_feltStepFault_keeps.mono rfl)
    refine Keeps.trans ?_ (State_feltFlt_keeps.mono rfl)
    exact Keeps.refl

theorem State_replayFault_keeps {s : State} {code : Nat} {bit : Nat} {c : Nat} {st : Option Strm} {loc : Nat} {again : Bool} {hit : Strm → UnitRec → Bool} :
    Keeps 0xc104191efffd7000142000000000000000000000000000000000000000000000000000000000000000100e000000000021000000070000096800000000000000dc88000000000000540 s (State.replayFault s code bit c st loc again hit) := by
  unfold State.replayFault
  extract_lets -underBinder +onlyGivenNames x0
  have h0 : Keeps 0xc104191efffd7000142000000000000000000000000000000000000000000000000000000000000000100e000000000021000000070000096800000000000000dc88000000000000540 s x0 := by
    unfold x0
    refine Keeps.trans ?_ (State_fltEvt_keeps.mono rfl)
    exact Keeps.refl
  try clear_value x0
  extract_lets -underBinder +onlyGivenNames x1
  try clear_value x1
  extract_lets -underBinder +onlyGivenNames x2
  try clear_value x2
  extract_lets -underBinder +onlyGivenNames x3
  have h3 : Keeps 0xc104191efffd7000142000000000000000000000000000000000000000000000000000000000000000100e000000000021000000070000096800000000000000dc88000000000000540 s x3 := by
    unfold x3
    refine Keeps.trans ?_ (State_setCore_keeps.mono rfl)
    refine Keeps.trans ?_ (State_finc_keeps (by rfl))
    exact h0
  try clear_value x3
  extract_lets -underBinder +onlyGivenNames x4
  try clear_value x4
  refine Keeps.ite ?_ ?_
  ·
    refine Keeps.trans ?_ (State_coreRec_keeps.mono rfl)
    exact h3
  ·
    refine Keeps.ite ?_ ?_
    ·
      refine Keeps.trans ?_ (State_exclude_keeps.mono rfl)
      refine Keeps.trans ?_ (State_coreRec_keeps.mono rfl)
      refine Keeps.trans ?_ (State_fltEvt_keeps.mono rfl)
      exact h3
    ·
      extract_lets -underBinder +onlyGivenNames x5
      have h5 : Keeps 0xc104191efffd7000142000000000000000000000000000000000000000000000000000000000000000100e000000000021000000070000096800000000000000dc88000000000000540 s x5 := by
        unfold x5
        refine Keeps.trans ?_ (State_coreRec_keeps.mono rfl)
        exact h3
      try clear_value x5
      refine Keeps.trans ?_ (Keeps.foldl (fun s6 _ => ?_) _ _)
      ·
        exact h5
      ·
        extract_lets -underBinder +onlyGivenNames x7
        try clear_value x7
        extract_lets -underBinder +onlyGivenNames x8
        try clear_value x8
        refine Keeps.trans ?_ (State_finc_keeps (by rfl))
        refine Keeps.trans ?_ (State_setCore_keeps.mono rfl)
        exact Keeps.refl

end Sys2Proof.Laws
end

