-- ==== Sys2Proof/Laws/KeepsTensors.lean ====
section
/-! SUPPORT. What each operation of Sys2Proof/Machine/Tensors.lean may write (Laws/Keeps.lean says how a mask is read). -/
namespace Sys2Proof.Laws
open Sys2Proof Sys2Proof.Machine

set_option linter.unusedVariables false

theorem State_abandonMoves_keeps {s : State} {p : Nat} :
    Keeps 0x40000000000000000000000000000000000000000000000000000000000000000000000000000000000000000000000000000000000100000000000000000000000 s (State.abandonMoves s p) := by
  unfold State.abandonMoves
  extract_lets -underBinder +onlyGivenNames x0
  try clear_value x0
  refine Keeps.trans ?_ (Keeps.foldl (fun s1 _ => ?_) _ _)
  ·
    refine Keeps.trans ?_ (upd_pages rfl)
    exact Keeps.refl
  ·
    refine Keeps.trans ?_ (State_finc_keeps (by rfl))
    exact Keeps.refl

theorem adoptBad_keeps {s : State} {x : Page} :
    Keeps 0x30000000000000000000000000000000000000000000000000000000000000000000000000000000000000000000000000000000000000000000000000000000000 s (adoptBad s x) := by
  unfold adoptBad
  extract_lets -underBinder +onlyGivenNames x0
  try clear_value x0
  refine Keeps.trans ?_ (upd_badPhys_badTens rfl rfl)
  exact Keeps.refl

theorem releaseBad_keeps {s : State} {x : Page} :
    Keeps 0x30000000000000000000000000000000000000000000000000000000000000000000000000000000000000000000000000000000000000000000000000000000000 s (releaseBad s x) := by
  unfold releaseBad
  extract_lets -underBinder +onlyGivenNames x0
  try clear_value x0
  refine Keeps.trans ?_ (upd_badPhys_badTens rfl rfl)
  exact Keeps.refl

theorem touchPage_keeps {s : State} {die : Nat} {h : Nat} {i : Nat} {n : Nat} :
    Keeps 0x40000000000000000000000000000000000000000000000000000000000000000000000000000000000000000000000000000000000000000000000000000000000 s (touchPage s die h i n) := by
  unfold touchPage
  refine Keeps.trans ?_ (upd_pages rfl)
  exact Keeps.refl

theorem State_placePage_keeps {s : State} {p : Nat} {h : Nat} {i : Nat} {e : List Nat} {want : Bool} :
    Keeps 0x70200000000000000000000000000000000000000000000000000000000000000000000000000000210000000000000000000000000140000000000000000000000 s (State.placePage s p h i e want).1 := by
  unfold State.placePage
  split
  ·
    refine Keeps.mk1 ?_
    refine Keeps.trans ?_ (State_memEvt_keeps.mono rfl)
    exact Keeps.refl
  ·
    extract_lets -underBinder +onlyGivenNames x0
    try clear_value x0
    extract_lets -underBinder +onlyGivenNames x1
    have h1 : Keeps 0x70200000000000000000000000000000000000000000000000000000000000000000000000000000210000000000000000000000000140000000000000000000000 s x1 := by
      unfold x1
      refine Keeps.ite ?_ ?_
      ·
        refine Keeps.trans ?_ (State_finc_keeps (by rfl))
        exact Keeps.refl
      ·
        exact Keeps.refl
    try clear_value x1
    extract_lets -underBinder +onlyGivenNames x2
    try clear_value x2
    refine Keeps.mk1 ?_
    refine Keeps.trans ?_ (State_useFree_keeps.mono rfl)
    refine Keeps.trans ?_ (adoptBad_keeps.mono rfl)
    refine Keeps.trans ?_ (upd_pages rfl)
    exact h1

theorem touchBlocks_keeps {s : State} {die : Nat} {h : Nat} {ks : List Nat} :
    Keeps 0x40000000000000000000000000000000000000000000000000000000000000000000000000000000000000000000000000000000000000000000000000000000000 s (touchBlocks s die h ks) := by
  unfold touchBlocks
  refine Keeps.ite ?_ ?_
  ·
    exact Keeps.refl
  ·
    refine Keeps.trans ?_ (Keeps.foldl (fun s0 _ => ?_) _ _)
    ·
      exact Keeps.refl
    ·
      refine Keeps.trans ?_ (touchPage_keeps.mono rfl)
      exact Keeps.refl

theorem State_ensureArea_keeps {s : State} {p : Nat} {h : Nat} {i : Nat} :
    Keeps 0x70200000000000000000000000000000000000000000000000000000000000000000000000000000210000000000000000000000000140000000000000000000000 s (State.ensureArea s p h i).1 := by
  unfold State.ensureArea
  refine Keeps.ite1 ?_ ?_
  ·
    refine Keeps.mk1 ?_
    exact Keeps.refl
  ·
    refine Keeps.trans ?_ (State_placePage_keeps.mono rfl)
    exact Keeps.refl

theorem State_ensurePage_keeps {s : State} {h : Nat} {i : Nat} :
    Keeps 0x70200000000000000000000000000000000000000000000000000000000000000000000000000000210000000000000000000000000140000000000000000000000 s (State.ensurePage s h i).1 := by
  unfold State.ensurePage
  refine Keeps.ite1 ?_ ?_
  ·
    refine Keeps.mk1 ?_
    exact Keeps.refl
  ·
    split
    ·
      extract_lets -underBinder +onlyGivenNames x0
      have h0 : Keeps 0x70200000000000000000000000000000000000000000000000000000000000000000000000000000210000000000000000000000000140000000000000000000000 s x0 := by
        unfold x0
        refine Keeps.ite ?_ ?_
        ·
          refine Keeps.trans ?_ (State_finc_keeps (by rfl))
          exact Keeps.refl
        ·
          exact Keeps.refl
      try clear_value x0
      refine Keeps.trans ?_ (State_placePage_keeps.mono rfl)
      exact h0

theorem State_ensurePages_keeps {s : State} {h : Nat} {is : List Nat} :
    Keeps 0x70200000000000000000000000000000000000000000000000000000000000000000000000000000210000000000000000000000000140000000000000000000000 s (State.ensurePages s h is).1 := by
  unfold State.ensurePages
  refine Keeps.trans ?_ (Keeps.foldl1 (fun s0 _ => ?_) _ _)
  ·
    refine Keeps.mk1 ?_
    exact Keeps.refl
  ·
    extract_lets -underBinder +onlyGivenNames x1
    have h1 : Keeps 0x70200000000000000000000000000000000000000000000000000000000000000000000000000000210000000000000000000000000140000000000000000000000 s0.1 x1.1 := by
      unfold x1
      refine Keeps.trans ?_ (State_ensurePage_keeps.mono rfl)
      exact Keeps.refl
    try clear_value x1
    refine Keeps.mk1 ?_
    exact h1

theorem putOne_wf {m : List Host.Cell} {h : Nat} {x : Put} (w : Memory.wf m = true) : Memory.wf (putOne m h x) = true := by
  unfold putOne
  dsimp only
  split
  · exact memWrite_wf w
  · exact memSet_wf w

theorem puts_wf {h : Nat} (ps : List Put) {m : List Host.Cell} (w : Memory.wf m = true) :
    Memory.wf (ps.foldl (fun m x => putOne m h x) m) = true := by
  induction ps generalizing m with
  | nil => exact w
  | cons x ps ih => exact ih (putOne_wf w)

theorem State_put_keeps {s : State} {h : Nat} {ps : List Put} : Keeps 0x78200000000000000000000000000000000000000000000000000000000000000000000000000000210000000000000000000000000140000000000000000000000 s (State.put s h ps).1 := by
  unfold State.put
  split
  rename_i s0 ok e
  have h0 := Keeps.of_eq (M := 0x78200000000000000000000000000000000000000000000000000000000000000000000000000000210000000000000000000000000140000000000000000000000) (s := s) e (State_ensurePages_keeps.mono (by rfl))
  exact Keeps.mk1 (h0.trans (upd_tens_badTens rfl rfl fun c => ⟨c.1, c.2.1, puts_wf _ c.2.2⟩))

theorem View_touch_keeps {s : State} {c : Nat} {v : View} {c0 : Nat} {c1 : Nat} {r0 : Nat} {r1 : Nat} {f2 : Nat} {f3 : Nat} :
    Keeps 0x40000000000000000000000000000000000000000000000000000000000000000000000000000000000000000000000000000000000000000000000000000000000 s (View.touch s c v c0 c1 r0 r1 f2 f3) := by
  unfold View.touch
  refine Keeps.ite ?_ ?_
  ·
    exact Keeps.refl
  ·
    refine Keeps.trans ?_ (touchBlocks_keeps.mono rfl)
    exact Keeps.refl

theorem State_corePut_keeps {s : State} {c : Nat} {h : Nat} {ps : List Put} :
    Keeps 0x78200000000000000000000000000000000000000000000000000000000000000000000000000000210000000000000000000000000140000000000000000000000 s (State.corePut s c h ps).1 := by
  unfold State.corePut
  split
  ·
    rename_i y0_0 y0_1 e0
    have h0 := Keeps.of_eq (M := 0x78200000000000000000000000000000000000000000000000000000000000000000000000000000210000000000000000000000000140000000000000000000000) (s := s) e0 (by
      refine Keeps.trans ?_ (State_put_keeps.mono rfl)
      exact Keeps.refl
      )
    refine Keeps.mk1 ?_
    refine Keeps.ite ?_ ?_
    ·
      exact h0
    ·
      refine Keeps.trans ?_ (touchBlocks_keeps.mono rfl)
      exact h0

theorem State_writeFail_keeps {s : State} {p : Nat} {st : Nat} :
    Keeps 0x100090821c470000000000000000000000000000000000000000000000000000000000000000000000000000000000000000000010000000000000000000000d880000000000000040 s (State.writeFail s p st) := by
  unfold State.writeFail
  refine Keeps.ite ?_ ?_
  ·
    exact Keeps.refl
  ·
    refine Keeps.trans ?_ (State_panelFault_keeps.mono rfl)
    exact Keeps.refl

end Sys2Proof.Laws
end

