-- ==== Sys2Proof/Laws/KeepsSeam.lean ====
section
/-! SUPPORT. What each operation of Sys2Proof/Machine/Seam.lean may write (Laws/Keeps.lean says how a mask is read). -/
namespace Sys2Proof.Laws
open Sys2Proof Sys2Proof.Machine

set_option linter.unusedVariables false

theorem State_failTrackers_keeps {s : State} {p : Nat} :
    Keeps 0x1000000000000000000000000000000000000000000000000000000000000000000000000000000000000000000000000000000000000000000000000000000000000000 s (State.failTrackers s p) := by
  unfold State.failTrackers
  refine Keeps.trans ?_ (upd_trackers rfl)
  exact Keeps.refl

theorem State_startTrackers_keeps {s : State} {p : Nat} :
    Keeps 0x1000000000000000000000000000000000000000000000000000000000000000000000000000000000000000000000000000000000000000000000000000020000000000 s (State.startTrackers s p) := by
  unfold State.startTrackers
  extract_lets -underBinder +onlyGivenNames x0
  try clear_value x0
  extract_lets -underBinder +onlyGivenNames x1
  try clear_value x1
  extract_lets -underBinder +onlyGivenNames x2
  try clear_value x2
  extract_lets -underBinder +onlyGivenNames x3
  try clear_value x3
  extract_lets -underBinder +onlyGivenNames x4
  have h4 : Keeps 0x1000000000000000000000000000000000000000000000000000000000000000000000000000000000000000000000000000000000000000000000000000020000000000 s x4 := by
    unfold x4
    refine Keeps.trans ?_ (upd_trackers rfl)
    exact Keeps.refl
  try clear_value x4
  refine Keeps.trans ?_ (Keeps.foldl (fun s5 _ => ?_) _ _)
  ·
    exact h4
  ·
    refine Keeps.trans ?_ (State_fset_keeps (by rfl))
    exact Keeps.refl

theorem takeSnap_keeps {s : State} {c : Nat} :
    Keeps 0x200000000000000000000000000000000000000000000000000000000000000000000000000000000000000000000000000000000000000000000000000000000000000 s (takeSnap s c) := by
  unfold takeSnap
  refine Keeps.trans ?_ (State_setCore_keeps.mono rfl)
  exact Keeps.refl

theorem trkCtrl_keeps {s : State} {c : Nat} {w : Word} {inc : List Nat} :
    Keeps 0x1200000000000000000000000000000000000000000000000000000000000000000000000000000000000000000000000000000000000000000000000000000000000000 s (trkCtrl s c w inc) := by
  unfold trkCtrl
  extract_lets -underBinder +onlyGivenNames x0
  have h0 : Keeps 0x1200000000000000000000000000000000000000000000000000000000000000000000000000000000000000000000000000000000000000000000000000000000000000 s x0 := by
    unfold x0
    refine Keeps.ite ?_ ?_
    ·
      split
      ·
        refine Keeps.trans ?_ (upd_trackers rfl)
        exact Keeps.refl
      ·
        exact Keeps.refl
    ·
      exact Keeps.refl
  try clear_value x0
  refine Keeps.ite ?_ ?_
  ·
    refine Keeps.trans ?_ (takeSnap_keeps.mono rfl)
    exact h0
  ·
    exact h0

theorem trkSel_keeps {s : State} {c : Nat} {w : Word} :
    Keeps 0x200000000000000000000000000000000000000000000000000000000000000000000000000000000000000000000000000000000000000000000000001000000000000 s (trkSel s c w) := by
  unfold trkSel
  refine Keeps.trans ?_ (takeSnap_keeps.mono rfl)
  refine Keeps.trans ?_ (State_fset_keeps (by rfl))
  refine Keeps.trans ?_ (State_fset_keeps (by rfl))
  exact Keeps.refl

theorem execClearCounts_keeps {a : Agent} {c : Fin 1056} {w : Word} {inc : List Nat} {s : State} :
    OutKeeps 0x1200000000000000000000000000000000000000000000000000000000000000000000000000000000000210681000000000000000000000000001880000000000000040 s (execClearCounts a c w inc s) := by
  unfold execClearCounts
  refine done_keeps ?_
  refine Keeps.trans ?_ (State_access_keeps rfl (fun f0_0 => ?_))
  ·
    exact Keeps.refl
  ·
    refine Keeps.trans ?_ (trkCtrl_keeps.mono rfl)
    exact Keeps.refl

theorem execResnap_keeps {a : Agent} {c : Fin 1056} {w : Word} {s : State} :
    OutKeeps 0x1200000000000000000000000000000000000000000000000000000000000000000000000000000000000210681000000000000000000000000001880000000000000040 s (execResnap a c w s) := by
  unfold execResnap
  refine done_keeps ?_
  refine Keeps.trans ?_ (State_access_keeps rfl (fun f0_0 => ?_))
  ·
    exact Keeps.refl
  ·
    refine Keeps.trans ?_ (trkCtrl_keeps.mono rfl)
    exact Keeps.refl

theorem execSeamTrkSelWrite_keeps {a : Agent} {c : Fin 1056} {w : Word} {s : State} :
    OutKeeps 0x200000000000000000000000000000000000000000000000000000000000000000000000000000000000210681000000000000000000000000001880001000000000040 s (execSeamTrkSelWrite a c w s) := by
  unfold execSeamTrkSelWrite
  refine done_keeps ?_
  refine Keeps.trans ?_ (State_access_keeps rfl (fun f0_0 => ?_))
  ·
    exact Keeps.refl
  ·
    refine Keeps.trans ?_ (trkSel_keeps.mono rfl)
    exact Keeps.refl

theorem seamFlags_keeps {s : State} {c : Nat} {e : Evs} :
    Keeps 0x210000000000000000000000000000001880000040000000040 s (seamFlags s c e) := by
  unfold seamFlags
  extract_lets -underBinder +onlyGivenNames x0
  have h0 : Keeps 0x210000000000000000000000000000001880000040000000040 s x0 := by
    unfold x0
    refine Keeps.ite ?_ ?_
    ·
      exact Keeps.refl
    ·
      refine Keeps.trans ?_ (State_seamEvt_keeps.mono rfl)
      exact Keeps.refl
  try clear_value x0
  extract_lets -underBinder +onlyGivenNames x1
  have h1 : Keeps 0x210000000000000000000000000000001880000040000000040 s x1 := by
    unfold x1
    refine Keeps.ite ?_ ?_
    ·
      exact h0
    ·
      refine Keeps.trans ?_ (State_seamEvt_keeps.mono rfl)
      exact h0
  try clear_value x1
  refine Keeps.ite ?_ ?_
  ·
    exact h1
  ·
    refine Keeps.trans ?_ (State_seamEvt_keeps.mono rfl)
    exact h1

theorem State_commitTrackers_keeps {s : State} {p : Nat} {s0 : Nat} :
    Keeps 0x3000070200000000000000000000000000000000000000000000000000000000000000000000000000000210000000000000000000000000140001880000140000000040 s (State.commitTrackers s p s0) := by
  unfold State.commitTrackers
  extract_lets -underBinder +onlyGivenNames x0
  try clear_value x0
  extract_lets -underBinder +onlyGivenNames x1
  try clear_value x1
  extract_lets -underBinder +onlyGivenNames x2
  have h2 : Keeps 0x3000070200000000000000000000000000000000000000000000000000000000000000000000000000000210000000000000000000000000140001880000140000000040 s x2 := by
    unfold x2
    refine Keeps.trans ?_ (upd_trackers_trkSaved rfl rfl)
    exact Keeps.refl
  try clear_value x2
  extract_lets -underBinder +onlyGivenNames x3
  have h3 : Keeps 0x3000070200000000000000000000000000000000000000000000000000000000000000000000000000000210000000000000000000000000140001880000140000000040 s x3 := by
    unfold x3
    refine Keeps.trans ?_ (Keeps.foldl (fun s4 _ => ?_) _ _)
    ·
      exact h2
    ·
      refine Keeps.trans ?_ (State_ensureArea_keeps.mono rfl)
      exact Keeps.refl
  try clear_value x3
  refine Keeps.trans ?_ (Keeps.foldl (fun s5 _ => ?_) _ _)
  ·
    exact h3
  ·
    refine Keeps.ite ?_ ?_
    ·
      exact Keeps.refl
    ·
      split
      ·
        refine Keeps.trans ?_ (State_seamEvt_keeps.mono rfl)
        refine Keeps.trans ?_ (State_setBit_keeps (by rfl))
        exact Keeps.refl
      ·
        exact Keeps.refl

theorem State_countSeam_keeps {s : State} {c : Nat} {p : Nat} {h : Nat} {flight : Nat} {unit : Nat} {e : Evs} {amax : Word} {elems : Nat} :
    Keeps 0x4000000000000000000000000000000000000000000000000000000000000000000000000000000000000210000000000000000000000000000001880000640000000040 s (State.countSeam s c p h flight unit e amax elems) := by
  unfold State.countSeam
  split
  ·
    refine Keeps.ite ?_ ?_
    ·
      exact Keeps.refl
    ·
      refine Keeps.trans ?_ (upd_obs rfl)
      exact Keeps.refl
  ·
    extract_lets -underBinder +onlyGivenNames x0
    have h0 : Keeps 0x4000000000000000000000000000000000000000000000000000000000000000000000000000000000000210000000000000000000000000000001880000640000000040 s x0 := by
      unfold x0
      refine Keeps.trans ?_ (State_finc_keeps (by rfl))
      refine Keeps.trans ?_ (State_finc_keeps (by rfl))
      exact Keeps.refl
    try clear_value x0
    extract_lets -underBinder +onlyGivenNames x1
    have h1 : Keeps 0x4000000000000000000000000000000000000000000000000000000000000000000000000000000000000210000000000000000000000000000001880000640000000040 s x1 := by
      unfold x1
      refine Keeps.trans ?_ (State_finc_keeps (by rfl))
      refine Keeps.trans ?_ (State_finc_keeps (by rfl))
      exact h0
    try clear_value x1
    refine Keeps.trans ?_ (seamFlags_keeps.mono rfl)
    exact h1

theorem State_observe_keeps {s : State} {o : Obs} :
    Keeps 0x1000000000000000000000000000000000000000000000000000000000000000000000000000000000000210000000000000000000000000000001880000840000000040 s (State.observe s o) := by
  unfold State.observe
  split
  ·
    exact Keeps.refl
  ·
    extract_lets -underBinder +onlyGivenNames x0
    try clear_value x0
    split
    ·
      exact Keeps.refl
    ·
      refine Keeps.ite ?_ ?_
      ·
        refine Keeps.trans ?_ (State_seamEvt_keeps.mono rfl)
        refine Keeps.trans ?_ (State_finc_keeps (by rfl))
        exact Keeps.refl
      ·
        extract_lets -underBinder +onlyGivenNames x1
        try clear_value x1
        extract_lets -underBinder +onlyGivenNames x2
        have h2 : Keeps 0x1000000000000000000000000000000000000000000000000000000000000000000000000000000000000210000000000000000000000000000001880000840000000040 s x2 := by
          unfold x2
          refine Keeps.trans ?_ (upd_trackers rfl)
          exact Keeps.refl
        try clear_value x2
        refine Keeps.trans ?_ (seamFlags_keeps.mono rfl)
        exact h2

theorem execTrackerObservation_keeps {k : Nat} {ded : Bool} {s : State} :
    OutKeeps 0xc100090821c57000140000000000000000000000000000000000000000000000000000000000000000000e000000000021000000050000000800000000000000d880000840000000140 s (execTrackerObservation k ded s) := by
  unfold execTrackerObservation
  split
  ·
    extract_lets -underBinder +onlyGivenNames x0
    have h0 : Keeps 0xc100090821c57000140000000000000000000000000000000000000000000000000000000000000000000e000000000021000000050000000800000000000000d880000840000000140 s x0 := by
      unfold x0
      refine Keeps.trans ?_ (upd_obs rfl)
      exact Keeps.refl
    try clear_value x0
    refine OutKeeps.ite ?_ ?_
    ·
      split
      ·
        refine done_keeps ?_
        refine Keeps.trans ?_ (State_coreStepFault_keeps.mono rfl)
        refine Keeps.trans ?_ (State_fltEvt_keeps.mono rfl)
        exact h0
      ·
        refine done_keeps ?_
        exact h0
    ·
      refine done_keeps ?_
      refine Keeps.trans ?_ (State_observe_keeps.mono rfl)
      exact h0
  ·
    refine done_keeps ?_
    exact Keeps.refl

end Sys2Proof.Laws
end

