-- ==== Sys2Proof/Laws/KeepsPanels.lean ====
section
/-! SUPPORT. What each operation of Sys2Proof/Machine/Panels.lean may write (Laws/Keeps.lean says how a mask is read). -/
namespace Sys2Proof.Laws
open Sys2Proof Sys2Proof.Machine

set_option linter.unusedVariables false

theorem State_startResidency_keeps {s : State} {p : Nat} :
    Keeps 0x100000000000000000000000000000000000000000000000000000000000000000000000000000000000000000000000000000000000000800000000000000000000000 s (State.startResidency s p) := by
  unfold State.startResidency
  extract_lets -underBinder +onlyGivenNames x0
  try clear_value x0
  extract_lets -underBinder +onlyGivenNames x1
  try clear_value x1
  extract_lets -underBinder +onlyGivenNames x2
  have h2 : Keeps 0x100000000000000000000000000000000000000000000000000000000000000000000000000000000000000000000000000000000000000800000000000000000000000 s x2 := by
    unfold x2
    refine Keeps.trans ?_ (State_setPanel_keeps.mono rfl)
    exact Keeps.refl
  try clear_value x2
  extract_lets -underBinder +onlyGivenNames x3
  try clear_value x3
  refine Keeps.trans ?_ (State_fset_keeps (by rfl))
  refine Keeps.trans ?_ (State_fset_keeps (by rfl))
  exact h2

theorem badPanelCmd_keeps {s : State} {p : Nat} :
    Keeps 0x108000000000000000000000000000000000 s (badPanelCmd s p) := by
  unfold badPanelCmd
  refine Keeps.trans ?_ (State_fset_keeps (by rfl))
  refine Keeps.trans ?_ (State_finc_keeps (by rfl))
  exact Keeps.refl

theorem clearCore_keeps {s : State} {c : Nat} :
    Keeps 0x60 s (clearCore s c) := by
  unfold clearCore
  refine Keeps.trans ?_ (State_fset_keeps (by rfl))
  refine Keeps.trans ?_ (State_fset_keeps (by rfl))
  refine Keeps.trans ?_ (State_fset_keeps (by rfl))
  refine Keeps.trans ?_ (State_fset_keeps (by rfl))
  exact Keeps.refl

theorem dropGroup_keeps {s : State} {x : Nat × Nat} :
    Keeps 0x20000000000000000000000000000000000000000000000000000000000000000000000000000000000000000000000000000000000000000000000000000000000000000000000000 s (dropGroup s x) := by
  unfold dropGroup
  extract_lets -underBinder +onlyGivenNames x0
  try clear_value x0
  refine Keeps.trans ?_ (upd_groups rfl)
  exact Keeps.refl

theorem dropChan_keeps {s : State} {k : Nat} :
    Keeps 0x30000000000000000000000000000000000000000000000000000000000000000000000000000000000000000000000000000000000000000000000000000000000000000000000000 s (dropChan s k) := by
  unfold dropChan
  extract_lets -underBinder +onlyGivenNames x0
  try clear_value x0
  refine Keeps.trans ?_ (State_setChan_keeps.mono rfl)
  refine Keeps.trans ?_ (Keeps.foldl (fun s1 _ => ?_) _ _)
  ·
    exact Keeps.refl
  ·
    refine Keeps.trans ?_ (dropGroup_keeps.mono rfl)
    exact Keeps.refl

theorem startChans_keeps {s : State} {p : Nat} :
    Keeps 0x70000000000000000000000000000000000000000000000000000000000000000000000000000000000000000000000000000000000000000000000000000000000000000000000000 s (startChans s p) := by
  unfold startChans
  extract_lets -underBinder +onlyGivenNames x0
  try clear_value x0
  extract_lets -underBinder +onlyGivenNames x1
  have h1 : Keeps 0x70000000000000000000000000000000000000000000000000000000000000000000000000000000000000000000000000000000000000000000000000000000000000000000000000 s x1 := by
    unfold x1
    refine Keeps.trans ?_ (Keeps.foldl (fun s2 _ => ?_) _ _)
    ·
      exact Keeps.refl
    ·
      refine Keeps.trans ?_ (dropChan_keeps.mono rfl)
      exact Keeps.refl
  try clear_value x1
  refine Keeps.trans ?_ (upd_groups_tree rfl rfl)
  exact h1

theorem placeCore_keeps {s : State} {p : Nat} {l : Nat} {c : Nat} :
    Keeps 0x900000020000000000000000000000000000000000000000000000000000000000000000000000000000000000000000000000000000000000000000003dcc0600000000000560 s (placeCore s p l c) := by
  unfold placeCore
  extract_lets -underBinder +onlyGivenNames x0
  try clear_value x0
  extract_lets -underBinder +onlyGivenNames x1
  have h1 : Keeps 0x900000020000000000000000000000000000000000000000000000000000000000000000000000000000000000000000000000000000000000000000003dcc0600000000000560 s x1 := by
    unfold x1
    refine Keeps.trans ?_ (State_fset_keeps (by rfl))
    refine Keeps.trans ?_ (State_fset_keeps (by rfl))
    refine Keeps.trans ?_ (State_fset_keeps (by rfl))
    refine Keeps.trans ?_ (State_fset_keeps (by rfl))
    exact Keeps.refl
  try clear_value x1
  extract_lets -underBinder +onlyGivenNames x2
  have h2 : Keeps 0x900000020000000000000000000000000000000000000000000000000000000000000000000000000000000000000000000000000000000000000000003dcc0600000000000560 s x2 := by
    unfold x2
    refine Keeps.trans ?_ (State_wr_keeps (by rfl))
    refine Keeps.trans ?_ (State_wr_keeps (by rfl))
    exact h1
  try clear_value x2
  extract_lets -underBinder +onlyGivenNames x3
  have h3 : Keeps 0x900000020000000000000000000000000000000000000000000000000000000000000000000000000000000000000000000000000000000000000000003dcc0600000000000560 s x3 := by
    unfold x3
    refine Keeps.trans ?_ (State_fset_keeps (by rfl))
    refine Keeps.trans ?_ (State_fset_keeps (by rfl))
    exact h2
  try clear_value x3
  extract_lets -underBinder +onlyGivenNames x4
  have h4 : Keeps 0x900000020000000000000000000000000000000000000000000000000000000000000000000000000000000000000000000000000000000000000000003dcc0600000000000560 s x4 := by
    unfold x4
    refine Keeps.trans ?_ (State_dropHandlers_keeps.mono rfl)
    exact h3
  try clear_value x4
  extract_lets -underBinder +onlyGivenNames x5
  have h5 : Keeps 0x900000020000000000000000000000000000000000000000000000000000000000000000000000000000000000000000000000000000000000000000003dcc0600000000000560 s x5 := by
    unfold x5
    refine Keeps.trans ?_ (Keeps.foldl (fun s6 _ => ?_) _ _)
    ·
      exact h4
    ·
      refine Keeps.trans ?_ (State_setSstate_keeps.mono rfl)
      refine Keeps.trans ?_ (State_fset_keeps (by rfl))
      refine Keeps.trans ?_ (State_wr_keeps (by rfl))
      refine Keeps.trans ?_ (State_setPc_keeps.mono rfl)
      exact Keeps.refl
  try clear_value x5
  extract_lets -underBinder +onlyGivenNames x7
  have h7 : Keeps 0x900000020000000000000000000000000000000000000000000000000000000000000000000000000000000000000000000000000000000000000000003dcc0600000000000560 s x7 := by
    unfold x7
    refine Keeps.trans ?_ (State_wr_keeps (by rfl))
    refine Keeps.trans ?_ (State_wr_keeps (by rfl))
    exact h5
  try clear_value x7
  extract_lets -underBinder +onlyGivenNames x8
  have h8 : Keeps 0x900000020000000000000000000000000000000000000000000000000000000000000000000000000000000000000000000000000000000000000000003dcc0600000000000560 s x8 := by
    unfold x8
    refine Keeps.trans ?_ (State_wr_keeps (by rfl))
    exact h7
  try clear_value x8
  extract_lets -underBinder +onlyGivenNames x9
  have h9 : Keeps 0x900000020000000000000000000000000000000000000000000000000000000000000000000000000000000000000000000000000000000000000000003dcc0600000000000560 s x9 := by
    unfold x9
    refine Keeps.trans ?_ (Keeps.foldl (fun s10 _ => ?_) _ _)
    ·
      exact h8
    ·
      refine Keeps.trans ?_ (State_wr_keeps (by rfl))
      exact Keeps.refl
  try clear_value x9
  refine Keeps.trans ?_ (State_setCore_keeps.mono rfl)
  exact h9

theorem State_dueFault_keeps {s : State} {p : Nat} :
    Keeps 0x100090821c470000000000000000000000000000000000000000000000000000000000000000000000000000000000000000000010000000000000000000000d880000000000000040 s (State.dueFault s p) := by
  unfold State.dueFault
  refine Keeps.ite ?_ ?_
  ·
    exact Keeps.refl
  ·
    refine Keeps.trans ?_ (State_abortStep_keeps.mono rfl)
    refine Keeps.trans ?_ (State_setPanel_keeps.mono rfl)
    exact Keeps.refl

theorem State_startPanel_keeps {s : State} {p : Nat} :
    Keeps 0x7000902000172000000000000000000000000000000000000000000000000000000000000000000000000000000000021000000000000030000000000080003dcc0600020000000560 s (State.startPanel s p) := by
  unfold State.startPanel
  split
  ·
    refine Keeps.trans ?_ (State_raise_keeps.mono rfl)
    refine Keeps.trans ?_ (State_fset_keeps (by rfl))
    refine Keeps.trans ?_ (State_fset_keeps (by rfl))
    refine Keeps.trans ?_ (State_fset_keeps (by rfl))
    exact Keeps.refl
  ·
    extract_lets -underBinder +onlyGivenNames x0
    try clear_value x0
    extract_lets -underBinder +onlyGivenNames x1
    try clear_value x1
    extract_lets -underBinder +onlyGivenNames x2
    have h2 : Keeps 0x7000902000172000000000000000000000000000000000000000000000000000000000000000000000000000000000021000000000000030000000000080003dcc0600020000000560 s x2 := by
      unfold x2
      refine Keeps.trans ?_ (Keeps.foldl (fun s3 _ => ?_) _ _)
      ·
        refine Keeps.trans ?_ (Keeps.foldl (fun s4 _ => ?_) _ _)
        ·
          exact Keeps.refl
        ·
          refine Keeps.trans ?_ (clearCore_keeps.mono rfl)
          exact Keeps.refl
      ·
        refine Keeps.trans ?_ (State_fset_keeps (by rfl))
        exact Keeps.refl
    try clear_value x2
    extract_lets -underBinder +onlyGivenNames x5
    have h5 : Keeps 0x7000902000172000000000000000000000000000000000000000000000000000000000000000000000000000000000021000000000000030000000000080003dcc0600020000000560 s x5 := by
      unfold x5
      refine Keeps.trans ?_ (Keeps.foldl (fun s6 _ => ?_) _ _)
      ·
        exact h2
      ·
        refine Keeps.trans ?_ (State_fset_keeps (by rfl))
        refine Keeps.trans ?_ (State_fset_keeps (by rfl))
        exact Keeps.refl
    try clear_value x5
    extract_lets -underBinder +onlyGivenNames x7
    have h7 : Keeps 0x7000902000172000000000000000000000000000000000000000000000000000000000000000000000000000000000021000000000000030000000000080003dcc0600020000000560 s x7 := by
      unfold x7
      refine Keeps.trans ?_ (upd_live_flights_epochs rfl rfl rfl)
      exact h5
    try clear_value x7
    extract_lets -underBinder +onlyGivenNames x8
    have h8 : Keeps 0x7000902000172000000000000000000000000000000000000000000000000000000000000000000000000000000000021000000000000030000000000080003dcc0600020000000560 s x8 := by
      unfold x8
      refine Keeps.trans ?_ (Keeps.foldl (fun s9 _ => ?_) _ _)
      ·
        exact h7
      ·
        refine Keeps.trans ?_ (placeCore_keeps.mono rfl)
        exact Keeps.refl
    try clear_value x8
    extract_lets -underBinder +onlyGivenNames x10
    have h10 : Keeps 0x7000902000172000000000000000000000000000000000000000000000000000000000000000000000000000000000021000000000000030000000000080003dcc0600020000000560 s x10 := by
      unfold x10
      refine Keeps.trans ?_ (State_startResidency_keeps.mono rfl)
      refine Keeps.trans ?_ (State_startTrackers_keeps.mono rfl)
      exact h8
    try clear_value x10
    extract_lets -underBinder +onlyGivenNames x11
    try clear_value x11
    extract_lets -underBinder +onlyGivenNames x12
    have h12 : Keeps 0x7000902000172000000000000000000000000000000000000000000000000000000000000000000000000000000000021000000000000030000000000080003dcc0600020000000560 s x12 := by
      unfold x12
      refine Keeps.ite ?_ ?_
      ·
        refine Keeps.trans ?_ (State_wr_keeps (by rfl))
        exact h10
      ·
        exact h10
    try clear_value x12
    extract_lets -underBinder +onlyGivenNames x13
    have h13 : Keeps 0x7000902000172000000000000000000000000000000000000000000000000000000000000000000000000000000000021000000000000030000000000080003dcc0600020000000560 s x13 := by
      unfold x13
      refine Keeps.trans ?_ (State_setPanel_keeps.mono rfl)
      exact h12
    try clear_value x13
    extract_lets -underBinder +onlyGivenNames x14
    have h14 : Keeps 0x7000902000172000000000000000000000000000000000000000000000000000000000000000000000000000000000021000000000000030000000000080003dcc0600020000000560 s x14 := by
      unfold x14
      refine Keeps.ite ?_ ?_
      ·
        refine Keeps.trans ?_ (startChans_keeps.mono rfl)
        exact h13
      ·
        exact h13
    try clear_value x14
    refine Keeps.trans ?_ (State_fset_keeps (by rfl))
    refine Keeps.trans ?_ (State_fset_keeps (by rfl))
    refine Keeps.trans ?_ (State_fset_keeps (by rfl))
    exact h14

theorem execAutoRemapStart_keeps {p : Fin 64} {s : State} :
    OutKeeps 0x7000902000172000000000000000000000000000000000000000000000000000000000000000000000000000000000021000000000000030000000000080003dcc0600020000000560 s (execAutoRemapStart p s) := by
  unfold execAutoRemapStart
  refine OutKeeps.ite ?_ ?_
  ·
    refine done_keeps ?_
    refine Keeps.trans ?_ (State_startPanel_keeps.mono rfl)
    refine Keeps.trans ?_ (State_setPanel_keeps.mono rfl)
    exact Keeps.refl
  ·
    refine done_keeps ?_
    exact Keeps.refl

theorem execPanelStarted_keeps {p : Fin 64} {s : State} :
    OutKeeps 0x100090821c470004000000000000000000000000000000000000000000000000000000000000000000000000000000000000000010000090000000000010000d880000000000000040 s (execPanelStarted p s) := by
  unfold execPanelStarted
  refine OutKeeps.ite ?_ ?_
  ·
    refine done_keeps ?_
    exact Keeps.refl
  ·
    extract_lets -underBinder +onlyGivenNames x0
    have h0 : Keeps 0x100090821c470004000000000000000000000000000000000000000000000000000000000000000000000000000000000000000010000090000000000010000d880000000000000040 s x0 := by
      unfold x0
      refine Keeps.trans ?_ (State_toEntry_keeps.mono rfl)
      refine Keeps.trans ?_ (State_fset_keeps (by rfl))
      exact Keeps.refl
    try clear_value x0
    refine done_keeps ?_
    refine Keeps.ite ?_ ?_
    ·
      refine Keeps.trans ?_ (State_dueFault_keeps.mono rfl)
      refine Keeps.trans ?_ (State_abandonMoves_keeps.mono rfl)
      refine Keeps.trans ?_ (State_fset_keeps (by rfl))
      exact h0
    ·
      exact h0

theorem execPanelDrainTimeout_keeps {p : Fin 64} {s : State} :
    OutKeeps 0xc104190cfffd7000142000000000000000000000000000000000000000000000000000000000000000100e0000000000210000000400000908000000000000005c88000000000000040 s (execPanelDrainTimeout p s) := by
  unfold execPanelDrainTimeout
  refine OutKeeps.ite ?_ ?_
  ·
    refine done_keeps ?_
    refine Keeps.trans ?_ (State_forceStop_keeps.mono rfl)
    exact Keeps.refl
  ·
    refine done_keeps ?_
    exact Keeps.refl

theorem execPanelDrained_keeps {p : Fin 64} {s : State} :
    OutKeeps 0xc104110cfff97000142000000000000000000000000000000000000000000000000000000000000000100e0000000000210000000400000908000000000000001888000000000000040 s (execPanelDrained p s) := by
  unfold execPanelDrained
  refine OutKeeps.ite ?_ ?_
  ·
    refine done_keeps ?_
    refine Keeps.trans ?_ (State_enterStopped_keeps.mono rfl)
    refine Keeps.ite ?_ ?_
    ·
      exact Keeps.refl
    ·
      refine Keeps.trans ?_ (State_endQuery_keeps.mono rfl)
      exact Keeps.refl
  ·
    refine done_keeps ?_
    exact Keeps.refl

theorem stopWrite_keeps {s : State} {p : Nat} {m1 : Bool} :
    Keeps 0x104110cfff9700000200000000000000000000000000000000000000000000000000000000000000010000000000000210000000000000900000000000000005888000000000000040 s (stopWrite s p m1) := by
  unfold stopWrite
  extract_lets -underBinder +onlyGivenNames x0
  try clear_value x0
  extract_lets -underBinder +onlyGivenNames x1
  try clear_value x1
  extract_lets -underBinder +onlyGivenNames x2
  have h2 : Keeps 0x104110cfff9700000200000000000000000000000000000000000000000000000000000000000000010000000000000210000000000000900000000000000005888000000000000040 s x2 := by
    unfold x2
    refine Keeps.trans ?_ (State_setPanel_keeps.mono rfl)
    exact Keeps.refl
  try clear_value x2
  refine Keeps.ite ?_ ?_
  ·
    refine Keeps.trans ?_ (State_beginStop_keeps.mono rfl)
    exact h2
  ·
    refine Keeps.ite ?_ ?_
    ·
      refine Keeps.trans ?_ (State_beginStop_keeps.mono rfl)
      exact h2
    ·
      exact h2

theorem panelCtrl_keeps {s : State} {p : Nat} {w : Word} :
    Keeps 0xc704190efffd7200142000000000000000000000000000000000000000000000000000000000000000100e0000000000210000000400000b8800000000080003dcc8600020000000560 s (panelCtrl s p w) := by
  unfold panelCtrl
  extract_lets -underBinder +onlyGivenNames x0
  try clear_value x0
  extract_lets -underBinder +onlyGivenNames x1
  try clear_value x1
  extract_lets -underBinder +onlyGivenNames x2
  try clear_value x2
  extract_lets -underBinder +onlyGivenNames x3
  try clear_value x3
  extract_lets -underBinder +onlyGivenNames x4
  try clear_value x4
  extract_lets -underBinder +onlyGivenNames x5
  have h5 : Keeps 0xc704190efffd7200142000000000000000000000000000000000000000000000000000000000000000100e0000000000210000000400000b8800000000080003dcc8600020000000560 s x5 := by
    unfold x5
    refine Keeps.trans ?_ (State_fset_keeps (by rfl))
    exact Keeps.refl
  try clear_value x5
  refine Keeps.ite ?_ ?_
  ·
    exact h5
  ·
    refine Keeps.ite ?_ ?_
    ·
      refine Keeps.trans ?_ (badPanelCmd_keeps.mono rfl)
      exact Keeps.refl
    ·
      refine Keeps.ite ?_ ?_
      ·
        refine Keeps.trans ?_ (badPanelCmd_keeps.mono rfl)
        refine Keeps.ite ?_ ?_
        ·
          exact h5
        ·
          exact Keeps.refl
      ·
        refine Keeps.ite ?_ ?_
        ·
          refine Keeps.ite ?_ ?_
          ·
            refine Keeps.trans ?_ (State_startPanel_keeps.mono rfl)
            exact h5
          ·
            refine Keeps.trans ?_ (badPanelCmd_keeps.mono rfl)
            exact Keeps.refl
        ·
          refine Keeps.ite ?_ ?_
          ·
            refine Keeps.ite ?_ ?_
            ·
              exact h5
            ·
              refine Keeps.trans ?_ (State_forceStop_keeps.mono rfl)
              refine Keeps.trans ?_ (State_setPanel_keeps.mono rfl)
              exact h5
          ·
            refine Keeps.trans ?_ (stopWrite_keeps.mono rfl)
            exact h5

theorem execPanelForce_keeps {a : Agent} {p : Fin 64} {w : Word} {s : State} :
    OutKeeps 0xc704190efffd7200142000000000000000000000000000000000000000000000000000000000000000100e0000000000210681000400000b8800000000080003dcc8600020000000560 s (execPanelForce a p w s) := by
  unfold execPanelForce
  refine done_keeps ?_
  refine Keeps.trans ?_ (State_access_keeps rfl (fun f0_0 => ?_))
  ·
    exact Keeps.refl
  ·
    refine Keeps.trans ?_ (panelCtrl_keeps.mono rfl)
    exact Keeps.refl

theorem execPanelStart_keeps {a : Agent} {p : Fin 64} {w : Word} {s : State} :
    OutKeeps 0xc704190efffd7200142000000000000000000000000000000000000000000000000000000000000000100e0000000000210681000400000b8800000000080003dcc8600020000000560 s (execPanelStart a p w s) := by
  unfold execPanelStart
  refine done_keeps ?_
  refine Keeps.trans ?_ (State_access_keeps rfl (fun f0_0 => ?_))
  ·
    exact Keeps.refl
  ·
    refine Keeps.trans ?_ (panelCtrl_keeps.mono rfl)
    exact Keeps.refl

theorem execPanelStop_keeps {a : Agent} {p : Fin 64} {w : Word} {s : State} :
    OutKeeps 0xc704190efffd7200142000000000000000000000000000000000000000000000000000000000000000100e0000000000210681000400000b8800000000080003dcc8600020000000560 s (execPanelStop a p w s) := by
  unfold execPanelStop
  refine done_keeps ?_
  refine Keeps.trans ?_ (State_access_keeps rfl (fun f0_0 => ?_))
  ·
    exact Keeps.refl
  ·
    refine Keeps.trans ?_ (panelCtrl_keeps.mono rfl)
    exact Keeps.refl

end Sys2Proof.Laws
end

