-- ==== Sys2Proof/Laws/KeepsMemory.lean ====
section
/-! SUPPORT. What each operation of Sys2Proof/Machine/Memory.lean may write (Laws/Keeps.lean says how a mask is read). -/
namespace Sys2Proof.Laws
open Sys2Proof Sys2Proof.Machine

set_option linter.unusedVariables false

theorem State_answer_keeps {x : State × Nat} :
    Keeps 0x800000000000000000000000000000000000000000000000000000000000000000000000000000000000000000000000000000000000000000000000000000000 x.1 (State.answer x) := by
  unfold State.answer
  extract_lets -underBinder +onlyGivenNames x0
  have h0 : Keeps 0x800000000000000000000000000000000000000000000000000000000000000000000000000000000000000000000000000000000000000000000000000000000 x.1 x0 := by
    unfold x0
    exact Keeps.refl
  try clear_value x0
  refine Keeps.trans ?_ (upd_status rfl)
  exact h0

theorem markBad_keeps {s : State} {a : Nat} :
    Keeps 0x30000000000000000000000000000000000000000000000000000000000000000000000000000000000000000000000000000000000000000000000000000000000 s (markBad s a) := by
  unfold markBad
  split
  ·
    refine Keeps.trans ?_ (upd_badTens rfl)
    exact Keeps.refl
  ·
    refine Keeps.trans ?_ (upd_badPhys rfl)
    exact Keeps.refl

theorem movePage_keeps {s : State} {x : Page} {m : Nat} :
    Keeps 0x50200000000000000000000000000000000000000000000000000000000000000000000000000000000000000000000000000000000000000000000000000000000 s (movePage s x m) := by
  unfold movePage
  extract_lets -underBinder +onlyGivenNames x0
  try clear_value x0
  extract_lets -underBinder +onlyGivenNames x1
  try clear_value x1
  refine Keeps.trans ?_ (State_useFree_keeps.mono rfl)
  refine Keeps.trans ?_ (upd_badPhys_pages rfl rfl)
  exact Keeps.refl

theorem refusePhys_keeps {s : State} {a : Nat} :
    Keeps 0x2000000000000000000000 s (refusePhys s a) := by
  unfold refusePhys
  refine Keeps.trans ?_ (State_finc_keeps (by rfl))
  exact Keeps.refl

theorem scrubNext_keeps {s : State} {n : Nat} :
    Keeps 0x100000000000000000000000000000000000000000000000000000000000000000000000000000000000000000000000000000000000020000000000000000000000 s (scrubNext s n) := by
  unfold scrubNext
  extract_lets -underBinder +onlyGivenNames x0
  try clear_value x0
  refine Keeps.ite ?_ ?_
  ·
    refine Keeps.trans ?_ (upd_scrubBlock rfl)
    exact Keeps.refl
  ·
    extract_lets -underBinder +onlyGivenNames x1
    have h1 : Keeps 0x100000000000000000000000000000000000000000000000000000000000000000000000000000000000000000000000000000000000020000000000000000000000 s x1 := by
      unfold x1
      refine Keeps.trans ?_ (upd_scrubBlock rfl)
      exact Keeps.refl
    try clear_value x1
    extract_lets -underBinder +onlyGivenNames x2
    try clear_value x2
    refine Keeps.ite ?_ ?_
    ·
      refine Keeps.trans ?_ (State_fset_keeps (by rfl))
      exact h1
    ·
      refine Keeps.trans ?_ (State_fincw_keeps (by rfl))
      refine Keeps.trans ?_ (State_fset_keeps (by rfl))
      exact h1

theorem startMoves_keeps {s : State} {n : Nat} :
    Keeps 0x40000000000000000000000000000000000000000000000000000000000000000000000000000000000000000000000000000000000000000000000000000000000 s (startMoves s n) := by
  unfold startMoves
  refine Keeps.ite ?_ ?_
  ·
    exact Keeps.refl
  ·
    extract_lets -underBinder +onlyGivenNames x0
    try clear_value x0
    refine Keeps.trans ?_ (Keeps.foldl (fun s1 _ => ?_) _ _)
    ·
      exact Keeps.refl
    ·
      split
      ·
        refine Keeps.trans ?_ (upd_pages rfl)
        exact Keeps.refl
      ·
        exact Keeps.refl

theorem State_physWrite_keeps {s : State} {a : Nat} {bs : List Byte} :
    Keeps 0x14000000000000000000000000000000000000000000000000000000000000000000000000000000000000000000000008000000000002000000000000000000000 s (State.physWrite s a bs).1 := by
  unfold State.physWrite
  refine Keeps.ite1 ?_ ?_
  ·
    refine Keeps.mk1 ?_
    refine Keeps.trans ?_ (refusePhys_keeps.mono rfl)
    exact Keeps.refl
  ·
    split
    ·
      rename_i y0_0 y0_1 e0
      have h0 := Keeps.of_eq (M := 0x14000000000000000000000000000000000000000000000000000000000000000000000000000000000000000000000008000000000002000000000000000000000) (s := s) e0 (by
        refine Keeps.trans ?_ (State_ramPut_keeps.mono rfl)
        exact Keeps.refl
        )
      refine Keeps.mk1 ?_
      exact h0

theorem execMigrationInterval_keeps {n : Fin 8} {s : State} :
    OutKeeps 0x40000000000000000000000000000000000000000000000000000000000000000000000000000000000000000000000000000000000000000000000000000000000 s (execMigrationInterval n s) := by
  unfold execMigrationInterval
  extract_lets -underBinder +onlyGivenNames x0
  have h0 : Keeps 0x40000000000000000000000000000000000000000000000000000000000000000000000000000000000000000000000000000000000000000000000000000000000 s x0 := by
    unfold x0
    refine Keeps.trans ?_ (startMoves_keeps.mono rfl)
    exact Keeps.refl
  try clear_value x0
  refine done_keeps ?_
  refine Keeps.trans ?_ (upd_pages rfl)
  exact h0

theorem touchRange_keeps {s : State} {who : Asker} {h : Nat} {off : Nat} {n : Nat} :
    Keeps 0x40000000000000000000000000000000000000000000000000000000000000000000000000000000000000000000000000000000000000000000000000000000000 s (touchRange s who h off n) := by
  unfold touchRange
  split
  ·
    exact Keeps.refl
  ·
    refine Keeps.trans ?_ (touchBlocks_keeps.mono rfl)
    exact Keeps.refl

theorem uncorrFound_keeps {s : State} {n : Nat} {a : Nat} :
    Keeps 0x21000000000000000000000000004e000000000000000000000 s (uncorrFound s n a) := by
  unfold uncorrFound
  refine Keeps.trans ?_ (State_memEvt_keeps.mono rfl)
  refine Keeps.trans ?_ (State_fset_keeps (by rfl))
  refine Keeps.trans ?_ (State_fset_keeps (by rfl))
  refine Keeps.trans ?_ (State_finc_keeps (by rfl))
  exact Keeps.refl

theorem uncorrTensor_keeps {s : State} {h : Nat} {off : Nat} :
    Keeps 0x21000000000000000000000000004e000000000000000000000 s (uncorrTensor s h off).1 := by
  unfold uncorrTensor
  extract_lets -underBinder +onlyGivenNames x0
  try clear_value x0
  refine Keeps.mk1 ?_
  refine Keeps.trans ?_ (uncorrFound_keeps.mono rfl)
  exact Keeps.refl

theorem State_tensorRead_keeps {s : State} {h : Nat} {off : Nat} {n : Nat} :
    Keeps 0xc000000000000000140000000000000000000000000000000000000000000000000000000000000000000e000000000021000000040000000800000000004e000000000000000000000 s (State.tensorRead s h off n).1 := by
  unfold State.tensorRead
  refine Keeps.ite1 ?_ ?_
  ·
    refine Keeps.mk1 ?_
    exact Keeps.refl
  ·
    split
    ·
      split
      ·
        rename_i y0_0 y0_1 y0_2 e0
        have h0 := Keeps.of_eq (M := 0xc000000000000000140000000000000000000000000000000000000000000000000000000000000000000e000000000021000000040000000800000000004e000000000000000000000) (s := s) e0 (by
          refine Keeps.trans ?_ (uncorrTensor_keeps.mono rfl)
          exact Keeps.refl
          )
        refine Keeps.mk1 ?_
        refine Keeps.trans ?_ (State_errRec_keeps.mono rfl)
        exact h0
    ·
      refine Keeps.mk1 ?_
      exact Keeps.refl

theorem execPageMoveDone_keeps {n : Fin 8} {handle : Nat} {page : Nat} {s : State} :
    OutKeeps 0xc000000000000000542000000000000000000000000000000000000000000000000000000000000000000e000000000021000000040000000800000000014e000000000000000000000 s (execPageMoveDone n handle page s) := by
  unfold execPageMoveDone
  split
  ·
    refine done_keeps ?_
    exact Keeps.refl
  ·
    split
    ·
      refine done_keeps ?_
      exact Keeps.refl
    ·
      extract_lets -underBinder +onlyGivenNames x0
      have h0 : Keeps 0xc000000000000000542000000000000000000000000000000000000000000000000000000000000000000e000000000021000000040000000800000000014e000000000000000000000 s x0 := by
        unfold x0
        refine Keeps.trans ?_ (upd_pages rfl)
        exact Keeps.refl
      try clear_value x0
      split
      ·
        split
        ·
          rename_i y1_0 y1_1 y1_2 e1
          have h1 := Keeps.of_eq (M := 0xc000000000000000542000000000000000000000000000000000000000000000000000000000000000000e000000000021000000040000000800000000014e000000000000000000000) (s := s) e1 (by
            refine Keeps.trans ?_ (uncorrTensor_keeps.mono rfl)
            refine Keeps.trans ?_ (State_finc_keeps (by rfl))
            exact h0
            )
          refine done_keeps ?_
          refine Keeps.trans ?_ (State_errRec_keeps.mono rfl)
          exact h1
      ·
        refine OutKeeps.ite ?_ ?_
        ·
          refine done_keeps ?_
          refine Keeps.trans ?_ (State_finc_keeps (by rfl))
          exact h0
        ·
          refine done_keeps ?_
          refine Keeps.trans ?_ (State_finc_keeps (by rfl))
          refine Keeps.trans ?_ (movePage_keeps.mono rfl)
          exact Keeps.refl

theorem execScrubStep_keeps {n : Fin 8} {ecc : Ecc} {s : State} :
    OutKeeps 0xc000000000000001340000000000000000000000000000000000000000000000000000000000000000000e000000000021000000040000000800000000006e000000000000000000000 s (execScrubStep n ecc s) := by
  unfold execScrubStep
  extract_lets -underBinder +onlyGivenNames x0
  try clear_value x0
  extract_lets -underBinder +onlyGivenNames x1
  have h1 : Keeps 0xc000000000000001340000000000000000000000000000000000000000000000000000000000000000000e000000000021000000040000000800000000006e000000000000000000000 s x1 := by
    unfold x1
    refine Keeps.ite ?_ ?_
    ·
      refine Keeps.trans ?_ (State_errRec_keeps.mono rfl)
      refine Keeps.trans ?_ (uncorrFound_keeps.mono rfl)
      refine Keeps.trans ?_ (markBad_keeps.mono rfl)
      exact Keeps.refl
    ·
      refine Keeps.ite ?_ ?_
      ·
        refine Keeps.trans ?_ (State_finc_keeps (by rfl))
        exact Keeps.refl
      ·
        exact Keeps.refl
  try clear_value x1
  refine done_keeps ?_
  refine Keeps.trans ?_ (scrubNext_keeps.mono rfl)
  exact h1

theorem uncorrOther_keeps {s : State} {n : Nat} {a : Nat} :
    Keeps 0xc000000000000000140000000000000000000000000000000000000000000000000000000000000000000e000000000021000000040000000800000000004e000000000000000000000 s (uncorrOther s n a) := by
  unfold uncorrOther
  refine Keeps.trans ?_ (State_errRec_keeps.mono rfl)
  refine Keeps.trans ?_ (uncorrFound_keeps.mono rfl)
  exact Keeps.refl

theorem State_physRead_keeps {s : State} {a : Nat} {n : Nat} :
    Keeps 0xc000000000000000140000000000000000000000000000000000000000000000000000000000000000000e000000000021000000040000000800000000004e000000000000000000000 s (State.physRead s a n).1 := by
  unfold State.physRead
  refine Keeps.ite1 ?_ ?_
  ·
    refine Keeps.mk1 ?_
    refine Keeps.trans ?_ (refusePhys_keeps.mono rfl)
    exact Keeps.refl
  ·
    split
    ·
      refine Keeps.mk1 ?_
      refine Keeps.trans ?_ (uncorrOther_keeps.mono rfl)
      exact Keeps.refl
    ·
      refine Keeps.mk1 ?_
      exact Keeps.refl

theorem State_tensorWrite_keeps {s : State} {h : Nat} {off : Nat} {bs : List Byte} :
    Keeps 0x100090821c470007820000000000000000000000000000000000000000000000000000000000000000000000000000021000000010000000000000000014000d880000000000000040 s (State.tensorWrite s h off bs).1 := by
  unfold State.tensorWrite
  refine Keeps.ite1 ?_ ?_
  ·
    refine Keeps.mk1 ?_
    exact Keeps.refl
  ·
    refine Keeps.ite1 ?_ ?_
    ·
      refine Keeps.mk1 ?_
      exact Keeps.refl
    ·
      split
      ·
        rename_i y0_0 y0_1 e0
        have h0 := Keeps.of_eq (M := 0x100090821c470007820000000000000000000000000000000000000000000000000000000000000000000000000000021000000010000000000000000014000d880000000000000040) (s := s) e0 (by
          refine Keeps.trans ?_ (State_put_keeps.mono rfl)
          exact Keeps.refl
          )
        refine Keeps.mk1 ?_
        refine Keeps.ite ?_ ?_
        ·
          refine Keeps.trans ?_ (State_stepFault_keeps.mono rfl)
          exact h0
        ·
          exact h0

theorem writeTens_keeps {s : State} {who : Asker} {h : Nat} {off : Nat} {data : List Byte} :
    Keeps 0x100090821c470007820000000000000000000000000000000000000000000000000000000000000000000000000000021000000010000000000000000014000d880000000000000040 s (writeTens s who h off data).1 := by
  unfold writeTens
  split
  ·
    rename_i y0_0 y0_1 e0
    have h0 := Keeps.of_eq (M := 0x100090821c470007820000000000000000000000000000000000000000000000000000000000000000000000000000021000000010000000000000000014000d880000000000000040) (s := s) e0 (by
      refine Keeps.trans ?_ (State_tensorWrite_keeps.mono rfl)
      exact Keeps.refl
      )
    extract_lets -underBinder +onlyGivenNames x1
    have h1 : Keeps 0x100090821c470007820000000000000000000000000000000000000000000000000000000000000000000000000000021000000010000000000000000014000d880000000000000040 s x1 := by
      unfold x1
      refine Keeps.ite ?_ ?_
      ·
        refine Keeps.trans ?_ (touchRange_keeps.mono rfl)
        exact h0
      ·
        exact h0
    try clear_value x1
    split
    ·
      refine Keeps.mk1 ?_
      refine Keeps.ite ?_ ?_
      ·
        exact h1
      ·
        refine Keeps.trans ?_ (State_writeFail_keeps.mono rfl)
        exact h1
    ·
      refine Keeps.mk1 ?_
      exact h1

theorem askerFault_keeps {s : State} {who : Asker} {n : Nat} {a : Nat} :
    Keeps 0xc100090821c47000140000000000000000000000000000000000000000000000000000000000000000000e000000000000000000050000000800000000000000d880000000000000040 s (askerFault s who n a) := by
  unfold askerFault
  split
  ·
    refine Keeps.trans ?_ (State_feltStepFault_keeps.mono rfl)
    exact Keeps.refl
  ·
    refine Keeps.trans ?_ (State_errRec_keeps.mono rfl)
    exact Keeps.refl

theorem feltWrite_keeps {s : State} {who : Asker} {at_ : Place} {data : List Byte} :
    Keeps 0x100090821c470007ca0000000000000000000000000000000000000000000000000000000000000000000000000000021000000010000000800000000014200d880000000000000040 s (feltWrite s who at_ data) := by
  unfold feltWrite
  refine Keeps.trans ?_ (State_answer_keeps.mono rfl)
  refine Keeps.ite1 ?_ ?_
  ·
    refine Keeps.mk1 ?_
    exact Keeps.refl
  ·
    split
    ·
      refine Keeps.trans ?_ (State_physWrite_keeps.mono rfl)
      exact Keeps.refl
    ·
      refine Keeps.trans ?_ (writeTens_keeps.mono rfl)
      exact Keeps.refl

theorem readPhys_keeps {s : State} {who : Asker} {a : Nat} {ecc : Ecc} :
    Keeps 0xc100090821c47000140000000000000000000000000000000000000000000000000000000000000000000e000000000021000000050000000800000000004e00d880000000000000040 s (readPhys s who a ecc).1 := by
  unfold readPhys
  refine Keeps.ite1 ?_ ?_
  ·
    refine Keeps.mk1 ?_
    refine Keeps.trans ?_ (refusePhys_keeps.mono rfl)
    exact Keeps.refl
  ·
    extract_lets -underBinder +onlyGivenNames x0
    try clear_value x0
    refine Keeps.ite1 ?_ ?_
    ·
      refine Keeps.mk1 ?_
      refine Keeps.trans ?_ (askerFault_keeps.mono rfl)
      refine Keeps.trans ?_ (uncorrFound_keeps.mono rfl)
      refine Keeps.trans ?_ (upd_badPhys rfl)
      exact Keeps.refl
    ·
      refine Keeps.mk1 ?_
      refine Keeps.ite ?_ ?_
      ·
        refine Keeps.trans ?_ (State_finc_keeps (by rfl))
        exact Keeps.refl
      ·
        exact Keeps.refl

theorem readTens_keeps {s : State} {who : Asker} {h : Nat} {off : Nat} {ecc : Ecc} :
    Keeps 0xc100090821c47000740000000000000000000000000000000000000000000000000000000000000000000e000000000021000000050000000800000000004e00d880000000000000040 s (readTens s who h off ecc).1 := by
  unfold readTens
  refine Keeps.ite1 ?_ ?_
  ·
    refine Keeps.mk1 ?_
    exact Keeps.refl
  ·
    split
    ·
      refine Keeps.mk1 ?_
      exact Keeps.refl
    ·
      extract_lets -underBinder +onlyGivenNames x0
      have h0 : Keeps 0xc100090821c47000740000000000000000000000000000000000000000000000000000000000000000000e000000000021000000050000000800000000004e00d880000000000000040 s x0 := by
        unfold x0
        refine Keeps.trans ?_ (touchRange_keeps.mono rfl)
        exact Keeps.refl
      try clear_value x0
      extract_lets -underBinder +onlyGivenNames x1
      try clear_value x1
      refine Keeps.ite1 ?_ ?_
      ·
        split
        ·
          rename_i y2_0 y2_1 y2_2 e2
          have h2 := Keeps.of_eq (M := 0xc100090821c47000740000000000000000000000000000000000000000000000000000000000000000000e000000000021000000050000000800000000004e00d880000000000000040) (s := s) e2 (by
            refine Keeps.trans ?_ (uncorrTensor_keeps.mono rfl)
            refine Keeps.trans ?_ (upd_badTens rfl)
            exact h0
            )
          refine Keeps.mk1 ?_
          refine Keeps.trans ?_ (askerFault_keeps.mono rfl)
          exact h2
      ·
        refine Keeps.mk1 ?_
        refine Keeps.ite ?_ ?_
        ·
          refine Keeps.trans ?_ (State_finc_keeps (by rfl))
          exact h0
        ·
          exact h0

theorem uncorrCore_keeps {s : State} {c : Nat} {key : Nat} {st : Option Strm} :
    Keeps 0xc100090821c47000140000000000000000000000000000000000000000000000000000000000000000000e000000000021000000050000000800000000004e00d880000000000000140 s (uncorrCore s c key st) := by
  unfold uncorrCore
  split
  ·
    rename_i y0_0 y0_1 y0_2 e0
    have h0 := Keeps.of_eq (M := 0xc100090821c47000140000000000000000000000000000000000000000000000000000000000000000000e000000000021000000050000000800000000004e00d880000000000000140) (s := s) e0 (by
      refine Keeps.trans ?_ (uncorrTensor_keeps.mono rfl)
      exact Keeps.refl
      )
    refine Keeps.trans ?_ (State_coreStepFault_keeps.mono rfl)
    refine Keeps.trans ?_ (State_fltEvt_keeps.mono rfl)
    exact h0

theorem uncorrEngine_keeps {s : State} {p : Nat} {key : Nat} :
    Keeps 0xc100090821c47000140000000000000000000000000000000000000000000000000000000000000000000e000000000021000000050000000800000000004e00d880000000000000040 s (uncorrEngine s p key) := by
  unfold uncorrEngine
  split
  ·
    rename_i y0_0 y0_1 y0_2 e0
    have h0 := Keeps.of_eq (M := 0xc100090821c47000140000000000000000000000000000000000000000000000000000000000000000000e000000000021000000050000000800000000004e00d880000000000000040) (s := s) e0 (by
      refine Keeps.trans ?_ (uncorrTensor_keeps.mono rfl)
      exact Keeps.refl
      )
    refine Keeps.trans ?_ (State_feltStepFault_keeps.mono rfl)
    exact h0

theorem execFeltWrite_keeps {who : Asker} {at_ : Place} {data : List Byte} {s : State} :
    OutKeeps 0x100090821c470007ca0000000000000000000000000000000000000000000000000000000000000000000000000000021000000010000000800000000014200d880000000000000040 s (execFeltWrite who at_ data s) := by
  unfold execFeltWrite
  refine done_keeps ?_
  refine Keeps.trans ?_ (feltWrite_keeps.mono rfl)
  exact Keeps.refl

theorem feltRead_keeps {s : State} {who : Asker} {at_ : Place} {ecc : Ecc} :
    Keeps 0xc100090821c47000748000000000000000000000000000000000000000000000000000000000000000000e000000000021000000050000000800000000004e00d880000000000000040 s (feltRead s who at_ ecc) := by
  unfold feltRead
  refine Keeps.trans ?_ (State_answer_keeps.mono rfl)
  refine Keeps.ite1 ?_ ?_
  ·
    refine Keeps.mk1 ?_
    exact Keeps.refl
  ·
    split
    ·
      refine Keeps.trans ?_ (readPhys_keeps.mono rfl)
      exact Keeps.refl
    ·
      refine Keeps.trans ?_ (readTens_keeps.mono rfl)
      exact Keeps.refl

theorem execFeltRead_keeps {who : Asker} {at_ : Place} {ecc : Ecc} {s : State} :
    OutKeeps 0xc100090821c47000748000000000000000000000000000000000000000000000000000000000000000000e000000000021000000050000000800000000004e00d880000000000000040 s (execFeltRead who at_ ecc s) := by
  unfold execFeltRead
  refine done_keeps ?_
  refine Keeps.trans ?_ (feltRead_keeps.mono rfl)
  exact Keeps.refl

end Sys2Proof.Laws
end

