-- ==== Sys2Proof/Laws/KeepsProduct.lean ====
section
/-! SUPPORT. What each operation of Sys2Proof/Machine/Product.lean may write (Laws/Keeps.lean says how a mask is read). -/
namespace Sys2Proof.Laws
open Sys2Proof Sys2Proof.Machine

set_option linter.unusedVariables false

theorem landSide_keeps {s : State} {k : Nat} :
    Keeps 0x300000000000000000000000000000000000000000000000000000000000000000000000000000000000000000000000000000000000000000000000000000000000000000 s (landSide s k) := by
  unfold landSide
  split
  ·
    exact Keeps.refl
  ·
    extract_lets -underBinder +onlyGivenNames x0
    have h0 : Keeps 0x300000000000000000000000000000000000000000000000000000000000000000000000000000000000000000000000000000000000000000000000000000000000000000 s x0 := by
      unfold x0
      refine Keeps.trans ?_ (upd_sideRecs rfl)
      exact Keeps.refl
    try clear_value x0
    refine Keeps.trans ?_ (Keeps.foldl (fun s1 _ => ?_) _ _)
    ·
      exact h0
    ·
      extract_lets -underBinder +onlyGivenNames x2
      try clear_value x2
      extract_lets -underBinder +onlyGivenNames x3
      try clear_value x3
      extract_lets -underBinder +onlyGivenNames x4
      try clear_value x4
      refine Keeps.ite ?_ ?_
      ·
        refine Keeps.trans ?_ (upd_sideSums rfl)
        exact Keeps.refl
      ·
        refine Keeps.trans ?_ (upd_sideSums rfl)
        exact Keeps.refl

theorem setUnits_keeps {s : State} {c : Nat} {st : Strm} {us : List UnitRec} :
    Keeps 0x200000000000000000000000000000000000000000000000000000000000000000000000000000000000000000000000000000000000000000000000000000000000000 s (setUnits s c st us) := by
  unfold setUnits
  refine Keeps.trans ?_ (State_setCore_keeps.mono rfl)
  exact Keeps.refl

theorem slicePass_keeps {s : State} {x : Slice} :
    Keeps 0x40000000000000000000000000000000000000000000000000000000000000000000000000000000000000000000000000000000000000000000000000000002000000000 s (slicePass s x) := by
  unfold slicePass
  extract_lets -underBinder +onlyGivenNames x0
  have h0 : Keeps 0x40000000000000000000000000000000000000000000000000000000000000000000000000000000000000000000000000000000000000000000000000000002000000000 s x0 := by
    unfold x0
    refine Keeps.trans ?_ (State_finc_keeps (by rfl))
    exact Keeps.refl
  try clear_value x0
  refine Keeps.trans ?_ (upd_slices rfl)
  exact h0

theorem State_winSat_keeps {s : State} {n : Nat} {sat : Nat} :
    Keeps 0x210000000000000000000840000000000000000000000000000 s (State.winSat s n sat) := by
  unfold State.winSat
  refine Keeps.ite ?_ ?_
  ·
    exact Keeps.refl
  ·
    refine Keeps.trans ?_ (State_trainEvt_keeps.mono rfl)
    refine Keeps.trans ?_ (State_finc_keeps (by rfl))
    exact Keeps.refl

theorem acceptSlice_keeps {s : State} {c : Nat} :
    Keeps 0xc0000000000000000000000000000000000000000000000000000000000000000000000000000000000000000000000000000000000000000000000000000002000000000 s (acceptSlice s c) := by
  unfold acceptSlice
  split
  ·
    refine Keeps.ite ?_ ?_
    ·
      refine Keeps.trans ?_ (slicePass_keeps.mono rfl)
      refine Keeps.trans ?_ (upd_stalledSlices rfl)
      exact Keeps.refl
    ·
      exact Keeps.refl
  ·
    exact Keeps.refl

theorem execSideRecordArrive_keeps {k : Nat} {s : State} :
    OutKeeps 0x300000000000000000000000000000000000000000000000000000000000000000000000000000000000000000000000000000000000000000000000000000000000000000 s (execSideRecordArrive k s) := by
  unfold execSideRecordArrive
  refine done_keeps ?_
  refine Keeps.trans ?_ (landSide_keeps.mono rfl)
  exact Keeps.refl

theorem execSliceAccepted_keeps {c : Fin 1056} {s : State} :
    OutKeeps 0xc0000000000000000000000000000000000000000000000000000000000000000000000000000000000000000000000000000000000000000000000000000002000000000 s (execSliceAccepted c s) := by
  unfold execSliceAccepted
  refine done_keeps ?_
  refine Keeps.trans ?_ (acceptSlice_keeps.mono rfl)
  exact Keeps.refl

theorem sendSlice_keeps {s : State} {x : Slice} :
    Keeps 0xc0000000000000000000000000000000000000000000000000000000000000000000000000000000000000000000000000000000000040000000000000000002000000000 s (sendSlice s x) := by
  unfold sendSlice
  refine Keeps.ite ?_ ?_
  ·
    refine Keeps.trans ?_ (slicePass_keeps.mono rfl)
    exact Keeps.refl
  ·
    extract_lets -underBinder +onlyGivenNames x0
    have h0 : Keeps 0xc0000000000000000000000000000000000000000000000000000000000000000000000000000000000000000000000000000000000040000000000000000002000000000 s x0 := by
      unfold x0
      refine Keeps.trans ?_ (State_finc_keeps (by rfl))
      exact Keeps.refl
    try clear_value x0
    refine Keeps.trans ?_ (upd_stalledSlices rfl)
    exact h0

theorem deliverSlice_keeps {s : State} {c : Nat} {st : Strm} {f : Flight} {r : UnitRec} {x : Spot} :
    Keeps 0xc0000000000000000000000000000000000000000000000000000000000000000000000000000000000000000000000000000000000040000000000000000002000000000 s (deliverSlice s c st f r x) := by
  unfold deliverSlice
  extract_lets -underBinder +onlyGivenNames x0
  try clear_value x0
  refine Keeps.trans ?_ (sendSlice_keeps.mono rfl)
  exact Keeps.refl

theorem drainTouch_keeps {s : State} {c : Nat} {f : Flight} {x : Spot} :
    Keeps 0x40000000000000000000000000000000000000000000000000000000000000000000000000000000000000000000000000000000000000000000000000000000000 s (drainTouch s c f x) := by
  unfold drainTouch
  extract_lets -underBinder +onlyGivenNames x0
  try clear_value x0
  extract_lets -underBinder +onlyGivenNames x1
  try clear_value x1
  extract_lets -underBinder +onlyGivenNames x2
  unfold x2
  refine Keeps.ite ?_ ?_
  ·
    extract_lets -underBinder +onlyGivenNames x3
    have h3 : Keeps 0x40000000000000000000000000000000000000000000000000000000000000000000000000000000000000000000000000000000000000000000000000000000000 s x3 := by
      unfold x3
      refine Keeps.ite ?_ ?_
      ·
        refine Keeps.trans ?_ (touchBlocks_keeps.mono rfl)
        exact Keeps.refl
      ·
        exact Keeps.refl
    try clear_value x3
    refine Keeps.ite ?_ ?_
    ·
      split
      ·
        refine Keeps.trans ?_ (View_touch_keeps.mono rfl)
        exact h3
    ·
      exact h3
  ·
    extract_lets -underBinder +onlyGivenNames x4
    have h4 : Keeps 0x40000000000000000000000000000000000000000000000000000000000000000000000000000000000000000000000000000000000000000000000000000000000 s x4 := by
      unfold x4
      refine Keeps.ite ?_ ?_
      ·
        refine Keeps.trans ?_ (View_touch_keeps.mono rfl)
        exact Keeps.refl
      ·
        exact Keeps.refl
    try clear_value x4
    refine Keeps.ite ?_ ?_
    ·
      exact h4
    ·
      refine Keeps.trans ?_ (View_touch_keeps.mono rfl)
      exact h4

theorem touchVectors_keeps {s : State} {c : Nat} {v : View} {red : Bool} {k0 : Nat} {k1 : Nat} {n0 : Nat} {n1 : Nat} {f2 : Nat} {f3 : Nat} :
    Keeps 0x40000000000000000000000000000000000000000000000000000000000000000000000000000000000000000000000000000000000000000000000000000000000 s (touchVectors s c v red k0 k1 n0 n1 f2 f3) := by
  unfold touchVectors
  refine Keeps.ite ?_ ?_
  ·
    refine Keeps.trans ?_ (View_touch_keeps.mono rfl)
    exact Keeps.refl
  ·
    refine Keeps.trans ?_ (View_touch_keeps.mono rfl)
    exact Keeps.refl

theorem State_gzSat_keeps {s : State} {c : Nat} {n : Nat} :
    Keeps 0x210000000000000000000000000000001880000000004080040 s (State.gzSat s c n) := by
  unfold State.gzSat
  refine Keeps.ite ?_ ?_
  ·
    exact Keeps.refl
  ·
    refine Keeps.trans ?_ (State_gzEvt_keeps.mono rfl)
    refine Keeps.trans ?_ (State_finc_keeps (by rfl))
    exact Keeps.refl

theorem State_twSat_keeps {s : State} {c : Nat} {n : Nat} :
    Keeps 0x210000000000000000000000000000001880000000480000040 s (State.twSat s c n) := by
  unfold State.twSat
  refine Keeps.ite ?_ ?_
  ·
    exact Keeps.refl
  ·
    refine Keeps.trans ?_ (State_twEvt_keeps.mono rfl)
    refine Keeps.trans ?_ (State_finc_keeps (by rfl))
    exact Keeps.refl

theorem replayDone_keeps {s : State} {c : Nat} {replay : Bool} :
    Keeps 0x200000000000000000000000000000000000000000000000000000000000000000000000000000000000210000000000000000000000000000001882e00000000000040 s (replayDone s c replay) := by
  unfold replayDone
  refine Keeps.ite ?_ ?_
  ·
    refine Keeps.trans ?_ (State_setMarker_keeps.mono rfl)
    exact Keeps.refl
  ·
    exact Keeps.refl

theorem touchUnit_keeps {s : State} {c : Nat} {f : Flight} {x : Spot} :
    Keeps 0x40000000000000000000000000000000000000000000000000000000000000000000000000000000000000000000000000000000000000000000000000000000000 s (touchUnit s c f x) := by
  unfold touchUnit
  split
  ·
    refine Keeps.trans ?_ (touchVectors_keeps.mono rfl)
    refine Keeps.trans ?_ (touchVectors_keeps.mono rfl)
    exact Keeps.refl

theorem State_countPass_keeps {s : State} {c : Nat} {onTweed : Bool} {x : Cnt} :
    Keeps 0x210000000000000000000000000000001880000001c9dc80040 s (State.countPass s c onTweed x) := by
  unfold State.countPass
  extract_lets -underBinder +onlyGivenNames x0
  have h0 : Keeps 0x210000000000000000000000000000001880000001c9dc80040 s x0 := by
    unfold x0
    refine Keeps.ite ?_ ?_
    ·
      exact Keeps.refl
    ·
      refine Keeps.trans ?_ (State_gzEvt_keeps.mono rfl)
      refine Keeps.trans ?_ (State_finc_keeps (by rfl))
      exact Keeps.refl
  try clear_value x0
  extract_lets -underBinder +onlyGivenNames x1
  have h1 : Keeps 0x210000000000000000000000000000001880000001c9dc80040 s x1 := by
    unfold x1
    refine Keeps.ite ?_ ?_
    ·
      exact h0
    ·
      refine Keeps.trans ?_ (State_gzEvt_keeps.mono rfl)
      refine Keeps.trans ?_ (State_finc_keeps (by rfl))
      exact h0
  try clear_value x1
  extract_lets -underBinder +onlyGivenNames x2
  have h2 : Keeps 0x210000000000000000000000000000001880000001c9dc80040 s x2 := by
    unfold x2
    refine Keeps.trans ?_ (State_finc_keeps (by rfl))
    exact h1
  try clear_value x2
  extract_lets -underBinder +onlyGivenNames x3
  have h3 : Keeps 0x210000000000000000000000000000001880000001c9dc80040 s x3 := by
    unfold x3
    refine Keeps.trans ?_ (State_gzSat_keeps.mono rfl)
    exact h2
  try clear_value x3
  extract_lets -underBinder +onlyGivenNames x4
  have h4 : Keeps 0x210000000000000000000000000000001880000001c9dc80040 s x4 := by
    unfold x4
    refine Keeps.ite ?_ ?_
    ·
      exact h3
    ·
      refine Keeps.ite ?_ ?_
      ·
        refine Keeps.trans ?_ (State_twEvt_keeps.mono rfl)
        refine Keeps.trans ?_ (State_finc_keeps (by rfl))
        exact h3
      ·
        refine Keeps.trans ?_ (State_gzEvt_keeps.mono rfl)
        refine Keeps.trans ?_ (State_finc_keeps (by rfl))
        exact h3
  try clear_value x4
  extract_lets -underBinder +onlyGivenNames x5
  have h5 : Keeps 0x210000000000000000000000000000001880000001c9dc80040 s x5 := by
    unfold x5
    refine Keeps.trans ?_ (State_twSat_keeps.mono rfl)
    exact h4
  try clear_value x5
  extract_lets -underBinder +onlyGivenNames x6
  have h6 : Keeps 0x210000000000000000000000000000001880000001c9dc80040 s x6 := by
    unfold x6
    refine Keeps.ite ?_ ?_
    ·
      exact h5
    ·
      refine Keeps.trans ?_ (State_twEvt_keeps.mono rfl)
      refine Keeps.trans ?_ (State_finc_keeps (by rfl))
      exact h5
  try clear_value x6
  extract_lets -underBinder +onlyGivenNames x7
  have h7 : Keeps 0x210000000000000000000000000000001880000001c9dc80040 s x7 := by
    unfold x7
    refine Keeps.ite ?_ ?_
    ·
      refine Keeps.trans ?_ (State_twEvt_keeps.mono rfl)
      exact h6
    ·
      exact h6
  try clear_value x7
  refine Keeps.ite ?_ ?_
  ·
    refine Keeps.trans ?_ (State_gzEvt_keeps.mono rfl)
    refine Keeps.trans ?_ (State_finc_keeps (by rfl))
    exact h7
  ·
    exact h7

theorem drainTile_keeps {s : State} {c : Nat} {f : Flight} {t : Nat} {x : Spot} {acc : List (List Word)} :
    Keeps 0x4000000000000000000000000000000000000000000000000000000000000000000000000000000000000210000000000000000000000000000001880000640484080040 s (drainTile s c f t x acc).1 := by
  unfold drainTile
  refine Keeps.ite1 ?_ ?_
  ·
    split
    ·
      extract_lets -underBinder +onlyGivenNames x0
      try clear_value x0
      refine Keeps.mk1 ?_
      refine Keeps.trans ?_ (State_countSeam_keeps.mono rfl)
      refine Keeps.trans ?_ (State_gzSat_keeps.mono rfl)
      exact Keeps.refl
  ·
    split
    ·
      extract_lets -underBinder +onlyGivenNames x1
      try clear_value x1
      extract_lets -underBinder +onlyGivenNames x2
      have h2 : Keeps 0x4000000000000000000000000000000000000000000000000000000000000000000000000000000000000210000000000000000000000000000001880000640484080040 s x2 := by
        unfold x2
        refine Keeps.trans ?_ (State_countSeam_keeps.mono rfl)
        refine Keeps.trans ?_ (State_twSat_keeps.mono rfl)
        exact Keeps.refl
      try clear_value x2
      split
      ·
        refine Keeps.mk1 ?_
        exact h2
      ·
        extract_lets -underBinder +onlyGivenNames x3
        try clear_value x3
        extract_lets -underBinder +onlyGivenNames x4
        have h4 : Keeps 0x4000000000000000000000000000000000000000000000000000000000000000000000000000000000000210000000000000000000000000000001880000640484080040 s x4 := by
          unfold x4
          refine Keeps.ite ?_ ?_
          ·
            exact h2
          ·
            refine Keeps.trans ?_ (State_countSeam_keeps.mono rfl)
            exact h2
        try clear_value x4
        refine Keeps.mk1 ?_
        exact h4

theorem landTile_keeps {s : State} {c : Nat} {f : Flight} {w : Wrote} {side : Option (Nat × List Word)} :
    Keeps 0x100090821c470007820000000000000000000000000000000000000000000000000000000000000000000000000000021000000010000000000000000014000d880000000000000040 s (landTile s c f w side) := by
  unfold landTile
  split
  ·
    rename_i y0_0 y0_1 e0
    have h0 := Keeps.of_eq (M := 0x100090821c470007820000000000000000000000000000000000000000000000000000000000000000000000000000021000000010000000000000000014000d880000000000000040) (s := s) e0 (by
      refine Keeps.trans ?_ (State_corePut_keeps.mono rfl)
      exact Keeps.refl
      )
    extract_lets -underBinder +onlyGivenNames x1
    have h1 : Keeps 0x100090821c470007820000000000000000000000000000000000000000000000000000000000000000000000000000021000000010000000000000000014000d880000000000000040 s x1 := by
      unfold x1
      refine Keeps.trans ?_ (State_writeFail_keeps.mono rfl)
      exact h0
    try clear_value x1
    split
    ·
      refine Keeps.trans ?_ (upd_sideRecs rfl)
      exact h1
    ·
      exact h1

theorem skeinPut_keeps {s : State} {f : Flight} {t : Nat} {part : Bool} :
    Keeps 0x100090821c470007020000000000000000000000000000000000000000000000000000000000000000000000000000021000000010000000000000000014000d880000000000000040 s (skeinPut s f t part) := by
  unfold skeinPut
  refine Keeps.trans ?_ (Keeps.foldl (fun s0 _ => ?_) _ _)
  ·
    exact Keeps.refl
  ·
    extract_lets -underBinder +onlyGivenNames x1
    have h1 : Keeps 0x100090821c470007020000000000000000000000000000000000000000000000000000000000000000000000000000021000000010000000000000000014000d880000000000000040 s0 x1.1 := by
      unfold x1
      refine Keeps.trans ?_ (State_ensureArea_keeps.mono rfl)
      exact Keeps.refl
    try clear_value x1
    refine Keeps.ite ?_ ?_
    ·
      exact h1
    ·
      refine Keeps.trans ?_ (State_writeFail_keeps.mono rfl)
      exact h1

theorem State_countEntry_keeps {s : State} {c : Nat} {f : Flight} {t : Nat} {x : Made} :
    Keeps 0x400000000000000000000000000000000000000000000000000000000000000000000000000000000000021000000000000000000000000000000188000064000e080040 s (State.countEntry s c f t x) := by
  unfold State.countEntry
  extract_lets -underBinder +onlyGivenNames x0
  have h0 : Keeps 0x400000000000000000000000000000000000000000000000000000000000000000000000000000000000021000000000000000000000000000000188000064000e080040 s x0 := by
    unfold x0
    refine Keeps.trans ?_ (State_finc_keeps (by rfl))
    refine Keeps.trans ?_ (State_gzSat_keeps.mono rfl)
    exact Keeps.refl
  try clear_value x0
  extract_lets -underBinder +onlyGivenNames x1
  have h1 : Keeps 0x400000000000000000000000000000000000000000000000000000000000000000000000000000000000021000000000000000000000000000000188000064000e080040 s x1 := by
    unfold x1
    refine Keeps.ite ?_ ?_
    ·
      refine Keeps.trans ?_ (State_gzEvt_keeps.mono rfl)
      exact h0
    ·
      exact h0
  try clear_value x1
  extract_lets -underBinder +onlyGivenNames x2
  have h2 : Keeps 0x400000000000000000000000000000000000000000000000000000000000000000000000000000000000021000000000000000000000000000000188000064000e080040 s x2 := by
    unfold x2
    refine Keeps.ite ?_ ?_
    ·
      refine Keeps.trans ?_ (State_finc_keeps (by rfl))
      exact h1
    ·
      exact h1
  try clear_value x2
  split
  ·
    refine Keeps.trans ?_ (State_countSeam_keeps.mono rfl)
    exact h2
  ·
    exact h2

theorem claim_keeps {s : State} {f : Flight} {t : Nat} {ws : List Word} :
    Keeps 0x100090821c470007020000000000000000000000000000000000000000000000000000000000000000000000000000021000000010000000000000000014000d880000000000000040 s (claim s f t ws) := by
  unfold claim
  refine Keeps.trans ?_ (State_updFlight_keeps.mono rfl)
  refine Keeps.trans ?_ (skeinPut_keeps.mono rfl)
  exact Keeps.refl

theorem deliverEmpty_keeps {s : State} {f : Flight} {t : Nat} :
    Keeps 0x100090821c470007020000000000000000000000000000000000000000000000000000000000000000000000000000021000000010000000000000000014000d880000000000000040 s (deliverEmpty s f t) := by
  unfold deliverEmpty
  refine Keeps.trans ?_ (State_updFlight_keeps.mono rfl)
  refine Keeps.trans ?_ (skeinPut_keeps.mono rfl)
  exact Keeps.refl

theorem duplicate_keeps {s : State} {c : Nat} {st : Strm} {same : Bool} :
    Keeps 0xc100090821c47000140000000000000000000000000000000000000000000000000000000000000000000e000000000021000000050000000800000000000000d880000000000002840 s (duplicate s c st same) := by
  unfold duplicate
  refine Keeps.ite ?_ ?_
  ·
    refine Keeps.trans ?_ (State_ndlEvt_keeps.mono rfl)
    refine Keeps.trans ?_ (State_finc_keeps (by rfl))
    exact Keeps.refl
  ·
    refine Keeps.trans ?_ (State_coreStepFault_keeps.mono rfl)
    refine Keeps.trans ?_ (State_dupFault_keeps.mono rfl)
    refine Keeps.trans ?_ (State_finc_keeps (by rfl))
    exact Keeps.refl

theorem landSlice_keeps {s : State} {k : Nat} :
    Keeps 0xc100090821ec7000742000000000000000000000000000000000000000000000000000000000000000000e000000000021000000050000000800084000014000d880000000000002840 s (landSlice s k) := by
  unfold landSlice
  split
  ·
    exact Keeps.refl
  ·
    extract_lets -underBinder +onlyGivenNames x0
    have h0 : Keeps 0xc100090821ec7000742000000000000000000000000000000000000000000000000000000000000000000e000000000021000000050000000800084000014000d880000000000002840 s x0 := by
      unfold x0
      refine Keeps.trans ?_ (upd_slices rfl)
      exact Keeps.refl
    try clear_value x0
    extract_lets -underBinder +onlyGivenNames x1
    try clear_value x1
    split
    ·
      exact h0
    ·
      refine Keeps.ite ?_ ?_
      ·
        refine Keeps.trans ?_ (duplicate_keeps.mono rfl)
        exact h0
      ·
        extract_lets -underBinder +onlyGivenNames x2
        have h2 : Keeps 0xc100090821ec7000742000000000000000000000000000000000000000000000000000000000000000000e000000000021000000050000000800084000014000d880000000000002840 s x2 := by
          unfold x2
          refine Keeps.trans ?_ (claim_keeps.mono rfl)
          exact h0
        try clear_value x2
        extract_lets -underBinder +onlyGivenNames x3
        have h3 : Keeps 0xc100090821ec7000742000000000000000000000000000000000000000000000000000000000000000000e000000000021000000050000000800084000014000d880000000000002840 s x3 := by
          unfold x3
          refine Keeps.trans ?_ (upd_sliceSums_sideRecs rfl rfl)
          exact h2
        try clear_value x3
        split
        ·
          refine Keeps.trans ?_ (upd_windows rfl)
          exact h3
        ·
          split
          ·
            extract_lets -underBinder +onlyGivenNames x4
            have h4 : Keeps 0xc100090821ec7000742000000000000000000000000000000000000000000000000000000000000000000e000000000021000000050000000800084000014000d880000000000002840 s x4 := by
              unfold x4
              refine Keeps.trans ?_ (State_winSat_keeps.mono rfl)
              exact h3
            try clear_value x4
            extract_lets -underBinder +onlyGivenNames x5
            try clear_value x5
            extract_lets -underBinder +onlyGivenNames x6
            try clear_value x6
            refine Keeps.trans ?_ (upd_windows rfl)
            exact h4

theorem deliverPart_keeps {s : State} {c : Nat} {st : Strm} {f : Flight} {r : UnitRec} {x : Spot} {bad : Bool} :
    Keeps 0xc100090821c470007c2000000000000000000000000000000000000000000000000000000000000000000e000000000021000000050000000800000000014e00d880000640484082940 s (deliverPart s c st f r x bad) := by
  unfold deliverPart
  extract_lets -underBinder +onlyGivenNames x0
  try clear_value x0
  refine Keeps.ite ?_ ?_
  ·
    refine Keeps.trans ?_ (duplicate_keeps.mono rfl)
    exact Keeps.refl
  ·
    extract_lets -underBinder +onlyGivenNames x1
    have h1 : Keeps 0xc100090821c470007c2000000000000000000000000000000000000000000000000000000000000000000e000000000021000000050000000800000000014e00d880000640484082940 s x1 := by
      unfold x1
      refine Keeps.trans ?_ (State_updFlight_keeps.mono rfl)
      refine Keeps.trans ?_ (skeinPut_keeps.mono rfl)
      refine Keeps.trans ?_ (claim_keeps.mono rfl)
      exact Keeps.refl
    try clear_value x1
    extract_lets -underBinder +onlyGivenNames x2
    try clear_value x2
    extract_lets -underBinder +onlyGivenNames x3
    try clear_value x3
    extract_lets -underBinder +onlyGivenNames x4
    try clear_value x4
    refine Keeps.ite ?_ ?_
    ·
      exact h1
    ·
      refine Keeps.ite ?_ ?_
      ·
        refine Keeps.trans ?_ (State_coreStepFault_keeps.mono rfl)
        exact h1
      ·
        split
        ·
          refine Keeps.trans ?_ (uncorrCore_keeps.mono rfl)
          exact h1
        ·
          extract_lets -underBinder +onlyGivenNames x5
          try clear_value x5
          split
          ·
            extract_lets -underBinder +onlyGivenNames x6
            have h6 : Keeps 0xc100090821c470007c2000000000000000000000000000000000000000000000000000000000000000000e000000000021000000050000000800000000014e00d880000640484082940 s x6 := by
              unfold x6
              refine Keeps.ite ?_ ?_
              ·
                refine Keeps.trans ?_ (State_gzSat_keeps.mono rfl)
                exact h1
              ·
                refine Keeps.trans ?_ (State_twSat_keeps.mono rfl)
                exact h1
            try clear_value x6
            split
            ·
              rename_i y7_0 y7_1 y7_2 e7
              have h7 := Keeps.of_eq (M := 0xc100090821c470007c2000000000000000000000000000000000000000000000000000000000000000000e000000000021000000050000000800000000014e00d880000640484082940) (s := s) e7 (by
                refine Keeps.trans ?_ (drainTile_keeps.mono rfl)
                refine Keeps.trans ?_ (drainTouch_keeps.mono rfl)
                exact h6
                )
              extract_lets -underBinder +onlyGivenNames x8
              have h8 : Keeps 0xc100090821c470007c2000000000000000000000000000000000000000000000000000000000000000000e000000000021000000050000000800000000014e00d880000640484082940 s x8 := by
                unfold x8
                refine Keeps.trans ?_ (State_updFlight_keeps.mono rfl)
                exact h7
              try clear_value x8
              refine Keeps.trans ?_ (landTile_keeps.mono rfl)
              exact h8

theorem deliverTile_keeps {s : State} {c : Nat} {st : Strm} {f : Flight} {r : UnitRec} {x : Spot} :
    Keeps 0xc100090821c470007c2000000000000000000000000000000000000000000000000000000000000000000e000000000021000000050000000800000000014e00d880000640484082940 s (deliverTile s c st f r x) := by
  unfold deliverTile
  split
  ·
    refine Keeps.trans ?_ (uncorrCore_keeps.mono rfl)
    exact Keeps.refl
  ·
    split
    ·
      rename_i y0_0 y0_1 y0_2 e0
      have h0 := Keeps.of_eq (M := 0xc100090821c470007c2000000000000000000000000000000000000000000000000000000000000000000e000000000021000000050000000800000000014e00d880000640484082940) (s := s) e0 (by
        refine Keeps.trans ?_ (drainTile_keeps.mono rfl)
        refine Keeps.trans ?_ (drainTouch_keeps.mono rfl)
        exact Keeps.refl
        )
      refine Keeps.ite ?_ ?_
      ·
        refine Keeps.trans ?_ (duplicate_keeps.mono rfl)
        exact h0
      ·
        refine Keeps.trans ?_ (landTile_keeps.mono rfl)
        refine Keeps.trans ?_ (claim_keeps.mono rfl)
        exact h0

theorem execSliceArrive_keeps {k : Nat} {chk : FeltCheck} {s : State} :
    OutKeeps 0xc100090821ec7000742000000000000000000000000000000000000000000000000000000000000000000e000000000021000000050000000802884000014000d880000000000002840 s (execSliceArrive k chk s) := by
  unfold execSliceArrive
  split
  ·
    refine done_keeps ?_
    refine Keeps.trans ?_ (landSlice_keeps.mono rfl)
    exact Keeps.refl
  ·
    refine done_keeps ?_
    refine Keeps.trans ?_ (State_feltChecked_keeps.mono rfl)
    refine Keeps.trans ?_ (upd_slices rfl)
    exact Keeps.refl
  ·
    refine done_keeps ?_
    exact Keeps.refl

theorem runUnit_keeps {M : Nat} {s : State} {c : Nat} {st : Strm} {f : Flight} {t : Nat} {put : State → UnitRec → State} {replay : Bool} (hM : Within 0xc100090821c47000540000000000000000000000000000000000000000000000000000000000000000000e000000000021000000050000000800000000004e00d88000064000e080140 M) (hf5 : ∀ a0 a1, Keeps M a0 (put a0 a1)) :
    Keeps M s (runUnit s c st f t put replay) := by
  unfold runUnit
  extract_lets -underBinder +onlyGivenNames x0
  try clear_value x0
  split
  ·
    refine Keeps.trans ?_ (uncorrCore_keeps.mono (Within.via hM rfl))
    exact Keeps.refl
  ·
    extract_lets -underBinder +onlyGivenNames x1
    try clear_value x1
    refine Keeps.trans ?_ (hf5 ..)
    refine Keeps.trans ?_ (State_countEntry_keeps.mono (Within.via hM rfl))
    refine Keeps.trans ?_ (touchUnit_keeps.mono (Within.via hM rfl))
    exact Keeps.refl

theorem storeDed_keeps {s : State} {c : Nat} {st : Option Strm} {w : Nat} :
    Keeps 0xc104191efffd7000142000000000000000000000000000000000000000000000000000000000000000100e000000000021000000070000096800000000000000dc88000000000000540 s (storeDed s c st w) := by
  unfold storeDed
  extract_lets -underBinder +onlyGivenNames x0
  try clear_value x0
  extract_lets -underBinder +onlyGivenNames x1
  try clear_value x1
  extract_lets -underBinder +onlyGivenNames x2
  have h2 : Keeps 0xc104191efffd7000142000000000000000000000000000000000000000000000000000000000000000100e000000000021000000070000096800000000000000dc88000000000000540 s x2 := by
    unfold x2
    refine Keeps.trans ?_ (State_setCore_keeps.mono rfl)
    refine Keeps.trans ?_ (State_fltEvt_keeps.mono rfl)
    exact Keeps.refl
  try clear_value x2
  refine Keeps.ite ?_ ?_
  ·
    extract_lets -underBinder +onlyGivenNames x3
    try clear_value x3
    extract_lets -underBinder +onlyGivenNames x4
    have h4 : Keeps 0xc104191efffd7000142000000000000000000000000000000000000000000000000000000000000000100e000000000021000000070000096800000000000000dc88000000000000540 s x4 := by
      unfold x4
      refine Keeps.trans ?_ (State_exclude_keeps.mono rfl)
      refine Keeps.trans ?_ (State_coreRec_keeps.mono rfl)
      refine Keeps.trans ?_ (State_fltEvt_keeps.mono rfl)
      exact h2
    try clear_value x4
    split
    ·
      refine Keeps.trans ?_ (State_panelFault_keeps.mono rfl)
      exact h4
    ·
      exact h4
  ·
    refine Keeps.trans ?_ (State_coreStepFault_keeps.mono rfl)
    exact h2

theorem unitFault_keeps {s : State} {c : Nat} {st : Strm} {r : UnitRec} {z94 : UnitCheck} :
    Keeps 0xc104191efffd7000342000000000000000000000000000000000000000000000000000000000000000100e000000000021000000070000096800000000004e00dc88000001080000540 s (unitFault s c st r z94) := by
  unfold unitFault
  split
  ·
    extract_lets -underBinder +onlyGivenNames x0
    have h0 : Keeps 0xc104191efffd7000342000000000000000000000000000000000000000000000000000000000000000100e000000000021000000070000096800000000004e00dc88000001080000540 s x0 := by
      unfold x0
      refine Keeps.ite ?_ ?_
      ·
        refine Keeps.trans ?_ (State_residueFault_keeps.mono rfl)
        refine Keeps.trans ?_ (State_finc_keeps (by rfl))
        exact Keeps.refl
      ·
        exact Keeps.refl
    try clear_value x0
    refine Keeps.trans ?_ (State_replayFault_keeps.mono rfl)
    exact h0
  ·
    refine Keeps.trans ?_ (State_replayFault_keeps.mono rfl)
    exact Keeps.refl
  ·
    refine Keeps.trans ?_ (storeDed_keeps.mono rfl)
    exact Keeps.refl
  ·
    refine Keeps.trans ?_ (uncorrCore_keeps.mono rfl)
    refine Keeps.trans ?_ (upd_badTens rfl)
    exact Keeps.refl
  ·
    exact Keeps.refl

theorem startProduct_keeps {s : State} {id : Nat} {f : Flight} {c : Nat} {first : Bool} :
    Keeps 0x1041100001060000000000000000000000000000000000000000000000000000000000000000000001000000000000021000000000038000000000000000000d882e00000010080040 s (startProduct s id f c first) := by
  unfold startProduct
  extract_lets -underBinder +onlyGivenNames x0
  have h0 : Keeps 0x1041100001060000000000000000000000000000000000000000000000000000000000000000000001000000000000021000000000038000000000000000000d882e00000010080040 s x0 := by
    unfold x0
    refine Keeps.ite ?_ ?_
    ·
      refine Keeps.trans ?_ (State_gzEvt_keeps.mono rfl)
      refine Keeps.trans ?_ (State_finc_keeps (by rfl))
      exact Keeps.refl
    ·
      exact Keeps.refl
  try clear_value x0
  extract_lets -underBinder +onlyGivenNames x1
  try clear_value x1
  extract_lets -underBinder +onlyGivenNames x2
  try clear_value x2
  extract_lets -underBinder +onlyGivenNames x3
  have h3 : Keeps 0x1041100001060000000000000000000000000000000000000000000000000000000000000000000001000000000000021000000000038000000000000000000d882e00000010080040 s x3 := by
    unfold x3
    refine Keeps.trans ?_ (State_updFlight_keeps.mono rfl)
    exact h0
  try clear_value x3
  extract_lets -underBinder +onlyGivenNames x4
  have h4 : Keeps 0x1041100001060000000000000000000000000000000000000000000000000000000000000000000001000000000000021000000000038000000000000000000d882e00000010080040 s x4 := by
    unfold x4
    refine Keeps.ite ?_ ?_
    ·
      refine Keeps.trans ?_ (upd_micros rfl)
      exact h3
    ·
      exact h0
  try clear_value x4
  refine Keeps.ite ?_ ?_
  ·
    refine Keeps.trans ?_ (State_walkEnd_keeps.mono rfl)
    refine Keeps.ite ?_ ?_
    ·
      refine Keeps.trans ?_ (State_complete_keeps.mono rfl)
      exact h4
    ·
      exact h4
  ·
    exact h4

theorem execMatmulG_keeps {c : Fin 1056} {st : Strm} {s : State} :
    OutKeeps 0x10411000010e0000000000000000000000000000000000000000000000000000000000000000000001000000000000021000000000038000000000000000001d882e00000010080840 s (execMatmulG c st s) := by
  unfold execMatmulG
  refine done_keeps ?_
  refine Keeps.trans ?_ (issue_keeps rfl (fun f0_0 f0_1 f0_2 f0_3 => ?_))
  ·
    exact Keeps.refl
  ·
    refine Keeps.trans ?_ (startProduct_keeps.mono rfl)
    exact Keeps.refl

theorem execMatmulT_keeps {c : Fin 1056} {st : Strm} {s : State} :
    OutKeeps 0x10411000010e0000000000000000000000000000000000000000000000000000000000000000000001000000000000021000000000038000000000000000001d882e00000010080840 s (execMatmulT c st s) := by
  unfold execMatmulT
  refine done_keeps ?_
  refine Keeps.trans ?_ (issue_keeps rfl (fun f0_0 f0_1 f0_2 f0_3 => ?_))
  ·
    exact Keeps.refl
  ·
    refine Keeps.trans ?_ (startProduct_keeps.mono rfl)
    exact Keeps.refl

theorem execMatmulTdw_keeps {c : Fin 1056} {st : Strm} {s : State} :
    OutKeeps 0x10411000010e0000000000000000000000000000000000000000000000000000000000000000000001000000000000021000000000038000000000000000001d882e00000010080840 s (execMatmulTdw c st s) := by
  unfold execMatmulTdw
  refine done_keeps ?_
  refine Keeps.trans ?_ (issue_keeps rfl (fun f0_0 f0_1 f0_2 f0_3 => ?_))
  ·
    exact Keeps.refl
  ·
    refine Keeps.trans ?_ (startProduct_keeps.mono rfl)
    exact Keeps.refl

theorem execMatmulTdx_keeps {c : Fin 1056} {st : Strm} {s : State} :
    OutKeeps 0x10411000010e0000000000000000000000000000000000000000000000000000000000000000000001000000000000021000000000038000000000000000001d882e00000010080840 s (execMatmulTdx c st s) := by
  unfold execMatmulTdx
  refine done_keeps ?_
  refine Keeps.trans ?_ (issue_keeps rfl (fun f0_0 f0_1 f0_2 f0_3 => ?_))
  ·
    exact Keeps.refl
  ·
    refine Keeps.trans ?_ (startProduct_keeps.mono rfl)
    exact Keeps.refl

end Sys2Proof.Laws
end

