-- ==== Sys2Proof/Laws/KeepsVector.lean ====
section
/-! SUPPORT. What each operation of Sys2Proof/Machine/Vector.lean may write (Laws/Keeps.lean says how a mask is read). -/
namespace Sys2Proof.Laws
open Sys2Proof Sys2Proof.Machine

set_option linter.unusedVariables false

theorem UnitOut_touch_keeps {s : State} {c : Nat} {o : UnitOut} :
    Keeps 0x40000000000000000000000000000000000000000000000000000000000000000000000000000000000000000000000000000000000000000000000000000000000 s (UnitOut.touch s c o) := by
  unfold UnitOut.touch
  refine Keeps.trans ?_ (Keeps.foldl (fun s0 _ => ?_) _ _)
  ·
    refine Keeps.trans ?_ (Keeps.foldl (fun s1 _ => ?_) _ _)
    ·
      exact Keeps.refl
    ·
      refine Keeps.trans ?_ (View_touch_keeps.mono rfl)
      exact Keeps.refl
  ·
    refine Keeps.trans ?_ (touchBlocks_keeps.mono rfl)
    exact Keeps.refl

theorem State_tally_keeps {c : Nat} {p : Nat} {id : Nat} {unit : Nat} {s : State} {z74 : Tally} :
    Keeps 0x4000000200000000000000000000000000000000000000000000000000000000000000000000000000000210000000000000000000000000000001880190641c9dc80040 s (State.tally c p id unit s z74) := by
  unfold State.tally
  split
  ·
    refine Keeps.trans ?_ (State_countPass_keeps.mono rfl)
    exact Keeps.refl
  ·
    refine Keeps.trans ?_ (State_gzSat_keeps.mono rfl)
    exact Keeps.refl
  ·
    refine Keeps.trans ?_ (State_twSat_keeps.mono rfl)
    exact Keeps.refl
  ·
    refine Keeps.trans ?_ (State_countSeam_keeps.mono rfl)
    exact Keeps.refl
  ·
    refine Keeps.ite ?_ ?_
    ·
      exact Keeps.refl
    ·
      refine Keeps.trans ?_ (State_attEvt_keeps.mono rfl)
      refine Keeps.trans ?_ (State_finc_keeps (by rfl))
      exact Keeps.refl
  ·
    refine Keeps.trans ?_ (State_finc_keeps (by rfl))
    exact Keeps.refl
  ·
    refine Keeps.trans ?_ (State_useFree_keeps.mono rfl)
    exact Keeps.refl

theorem startWalk_keeps {s : State} {id : Nat} {c : Nat} {first : Bool} {empty : Bool} :
    Keeps 0x1041100000060000000000000000000000000000000000000000000000000000000000000000000001000000000000021000000000038000000000000000000d882e00000000000040 s (startWalk s id c first empty) := by
  unfold startWalk
  refine Keeps.ite ?_ ?_
  ·
    refine Keeps.trans ?_ (State_walkEnd_keeps.mono rfl)
    refine Keeps.ite ?_ ?_
    ·
      refine Keeps.trans ?_ (State_complete_keeps.mono rfl)
      exact Keeps.refl
    ·
      exact Keeps.refl
  ·
    exact Keeps.refl

theorem takeAll_keeps {M : Nat} {s : State} {id : Nat} {c : Nat} {f : Flight} {first : Bool} {empty : Bool} {bad : Option Nat} {run : State → State} (hM : Within 0xc104190821c47000742000000000000000000000000000000000000000000000000000000000000000100e000000000021000000050038000800000000014e00d882e00000000004140 M) (hf7 : ∀ a0, Keeps M a0 (run a0)) :
    Keeps M s (takeAll s id c f first empty bad run) := by
  unfold takeAll
  refine Keeps.ite ?_ ?_
  ·
    refine Keeps.trans ?_ (State_walkEnd_keeps.mono (Within.via hM rfl))
    refine Keeps.ite ?_ ?_
    ·
      refine Keeps.trans ?_ (State_complete_keeps.mono (Within.via hM rfl))
      exact Keeps.refl
    ·
      exact Keeps.refl
  ·
    refine Keeps.ite ?_ ?_
    ·
      refine Keeps.trans ?_ (State_walkEnd_keeps.mono (Within.via hM rfl))
      exact Keeps.refl
    ·
      split
      ·
        refine Keeps.trans ?_ (uncorrCore_keeps.mono (Within.via hM rfl))
        exact Keeps.refl
      ·
        extract_lets -underBinder +onlyGivenNames x0
        have h0 : Keeps M s x0 := by
          unfold x0
          refine Keeps.trans ?_ (State_finc_keeps (Within.bit (by rfl) hM))
          refine Keeps.trans ?_ (State_updFlight_keeps.mono (Within.via hM rfl))
          exact Keeps.refl
        try clear_value x0
        refine Keeps.ite ?_ ?_
        ·
          refine Keeps.trans ?_ (skeinPut_keeps.mono (Within.via hM rfl))
          exact h0
        ·
          refine Keeps.trans ?_ (State_walkEnd_keeps.mono (Within.via hM rfl))
          refine Keeps.trans ?_ (hf7 ..)
          refine Keeps.trans ?_ (skeinPut_keeps.mono (Within.via hM rfl))
          exact h0

theorem vectorOp_keeps {k : Nat} {s : State} {c : Nat} {st : Strm} :
    Keeps 0x10411000000e0000000000000000000000000000000000000000000000000000000000000000000001000000000000021000000000038000000000000000001d882e00000000000840 s (vectorOp k s c st) := by
  unfold vectorOp
  refine Keeps.trans ?_ (issue_keeps rfl (fun f0_0 f0_1 f0_2 f0_3 => ?_))
  ·
    exact Keeps.refl
  ·
    refine Keeps.trans ?_ (startWalk_keeps.mono rfl)
    exact Keeps.refl

theorem convertOp_keeps {k : Nat} {s : State} {c : Nat} {st : Strm} :
    Keeps 0x10411000000e0000000000000000000000000000000000000000000000000000000000000000000001000000000000021000000000038000000000000000001d882e00000000000840 s (convertOp k s c st) := by
  unfold convertOp
  refine Keeps.trans ?_ (issue_keeps rfl (fun f0_0 f0_1 f0_2 f0_3 => ?_))
  ·
    exact Keeps.refl
  ·
    refine Keeps.trans ?_ (startWalk_keeps.mono rfl)
    exact Keeps.refl

theorem execActivationCheckpoint_keeps {c : Fin 1056} {st : Strm} {s : State} :
    OutKeeps 0x10411000000e0000000000000000000000000000000000000000000000000000000000000000000001000000000000021000000000038000000000000000001d882e00000000000840 s (execActivationCheckpoint c st s) := by
  unfold execActivationCheckpoint
  refine done_keeps ?_
  refine Keeps.trans ?_ (convertOp_keeps.mono rfl)
  exact Keeps.refl

theorem execAdd_keeps {c : Fin 1056} {st : Strm} {s : State} :
    OutKeeps 0x10411000000e0000000000000000000000000000000000000000000000000000000000000000000001000000000000021000000000038000000000000000001d882e00000000000840 s (execAdd c st s) := by
  unfold execAdd
  refine done_keeps ?_
  refine Keeps.trans ?_ (vectorOp_keeps.mono rfl)
  exact Keeps.refl

theorem execCopy_keeps {c : Fin 1056} {st : Strm} {s : State} :
    OutKeeps 0x10411000000e0000000000000000000000000000000000000000000000000000000000000000000001000000000000021000000000038000000000000000001d882e00000000000840 s (execCopy c st s) := by
  unfold execCopy
  refine done_keeps ?_
  refine Keeps.trans ?_ (vectorOp_keeps.mono rfl)
  exact Keeps.refl

theorem execExp_keeps {c : Fin 1056} {st : Strm} {s : State} :
    OutKeeps 0x10411000000e0000000000000000000000000000000000000000000000000000000000000000000001000000000000021000000000038000000000000000001d882e00000000000840 s (execExp c st s) := by
  unfold execExp
  refine done_keeps ?_
  refine Keeps.trans ?_ (vectorOp_keeps.mono rfl)
  exact Keeps.refl

theorem execFp8Activation_keeps {c : Fin 1056} {st : Strm} {s : State} :
    OutKeeps 0x10411000000e0000000000000000000000000000000000000000000000000000000000000000000001000000000000021000000000038000000000000000001d882e00000000000840 s (execFp8Activation c st s) := by
  unfold execFp8Activation
  refine done_keeps ?_
  refine Keeps.trans ?_ (convertOp_keeps.mono rfl)
  exact Keeps.refl

theorem execGeluE_keeps {c : Fin 1056} {st : Strm} {s : State} :
    OutKeeps 0x10411000000e0000000000000000000000000000000000000000000000000000000000000000000001000000000000021000000000038000000000000000001d882e00000000000840 s (execGeluE c st s) := by
  unfold execGeluE
  refine done_keeps ?_
  refine Keeps.trans ?_ (vectorOp_keeps.mono rfl)
  exact Keeps.refl

theorem execGeluT_keeps {c : Fin 1056} {st : Strm} {s : State} :
    OutKeeps 0x10411000000e0000000000000000000000000000000000000000000000000000000000000000000001000000000000021000000000038000000000000000001d882e00000000000840 s (execGeluT c st s) := by
  unfold execGeluT
  refine done_keeps ?_
  refine Keeps.trans ?_ (vectorOp_keeps.mono rfl)
  exact Keeps.refl

theorem execGradientConversion_keeps {c : Fin 1056} {st : Strm} {s : State} :
    OutKeeps 0x10411000000e0000000000000000000000000000000000000000000000000000000000000000000001000000000000021000000000038000000000000000001d882e00000000000840 s (execGradientConversion c st s) := by
  unfold execGradientConversion
  refine done_keeps ?_
  refine Keeps.trans ?_ (convertOp_keeps.mono rfl)
  exact Keeps.refl

theorem execLayernorm_keeps {c : Fin 1056} {st : Strm} {s : State} :
    OutKeeps 0x10411000000e0000000000000000000000000000000000000000000000000000000000000000000001000000000000021000000000038000000000000000001d882e00000000000840 s (execLayernorm c st s) := by
  unfold execLayernorm
  refine done_keeps ?_
  refine Keeps.trans ?_ (vectorOp_keeps.mono rfl)
  exact Keeps.refl

theorem execLog_keeps {c : Fin 1056} {st : Strm} {s : State} :
    OutKeeps 0x10411000000e0000000000000000000000000000000000000000000000000000000000000000000001000000000000021000000000038000000000000000001d882e00000000000840 s (execLog c st s) := by
  unfold execLog
  refine done_keeps ?_
  refine Keeps.trans ?_ (vectorOp_keeps.mono rfl)
  exact Keeps.refl

theorem execMax_keeps {c : Fin 1056} {st : Strm} {s : State} :
    OutKeeps 0x10411000000e0000000000000000000000000000000000000000000000000000000000000000000001000000000000021000000000038000000000000000001d882e00000000000840 s (execMax c st s) := by
  unfold execMax
  refine done_keeps ?_
  refine Keeps.trans ?_ (vectorOp_keeps.mono rfl)
  exact Keeps.refl

theorem execMin_keeps {c : Fin 1056} {st : Strm} {s : State} :
    OutKeeps 0x10411000000e0000000000000000000000000000000000000000000000000000000000000000000001000000000000021000000000038000000000000000001d882e00000000000840 s (execMin c st s) := by
  unfold execMin
  refine done_keeps ?_
  refine Keeps.trans ?_ (vectorOp_keeps.mono rfl)
  exact Keeps.refl

theorem execMul_keeps {c : Fin 1056} {st : Strm} {s : State} :
    OutKeeps 0x10411000000e0000000000000000000000000000000000000000000000000000000000000000000001000000000000021000000000038000000000000000001d882e00000000000840 s (execMul c st s) := by
  unfold execMul
  refine done_keeps ?_
  refine Keeps.trans ?_ (vectorOp_keeps.mono rfl)
  exact Keeps.refl

theorem execPlainConversion_keeps {c : Fin 1056} {st : Strm} {s : State} :
    OutKeeps 0x10411000000e0000000000000000000000000000000000000000000000000000000000000000000001000000000000021000000000038000000000000000001d882e00000000000840 s (execPlainConversion c st s) := by
  unfold execPlainConversion
  refine done_keeps ?_
  refine Keeps.trans ?_ (convertOp_keeps.mono rfl)
  exact Keeps.refl

theorem execRecip_keeps {c : Fin 1056} {st : Strm} {s : State} :
    OutKeeps 0x10411000000e0000000000000000000000000000000000000000000000000000000000000000000001000000000000021000000000038000000000000000001d882e00000000000840 s (execRecip c st s) := by
  unfold execRecip
  refine done_keeps ?_
  refine Keeps.trans ?_ (vectorOp_keeps.mono rfl)
  exact Keeps.refl

theorem execRmsnorm_keeps {c : Fin 1056} {st : Strm} {s : State} :
    OutKeeps 0x10411000000e0000000000000000000000000000000000000000000000000000000000000000000001000000000000021000000000038000000000000000001d882e00000000000840 s (execRmsnorm c st s) := by
  unfold execRmsnorm
  refine done_keeps ?_
  refine Keeps.trans ?_ (vectorOp_keeps.mono rfl)
  exact Keeps.refl

theorem execRowmax_keeps {c : Fin 1056} {st : Strm} {s : State} :
    OutKeeps 0x10411000000e0000000000000000000000000000000000000000000000000000000000000000000001000000000000021000000000038000000000000000001d882e00000000000840 s (execRowmax c st s) := by
  unfold execRowmax
  refine done_keeps ?_
  refine Keeps.trans ?_ (vectorOp_keeps.mono rfl)
  exact Keeps.refl

theorem execRowsum_keeps {c : Fin 1056} {st : Strm} {s : State} :
    OutKeeps 0x10411000000e0000000000000000000000000000000000000000000000000000000000000000000001000000000000021000000000038000000000000000001d882e00000000000840 s (execRowsum c st s) := by
  unfold execRowsum
  refine done_keeps ?_
  refine Keeps.trans ?_ (vectorOp_keeps.mono rfl)
  exact Keeps.refl

theorem execRsqrt_keeps {c : Fin 1056} {st : Strm} {s : State} :
    OutKeeps 0x10411000000e0000000000000000000000000000000000000000000000000000000000000000000001000000000000021000000000038000000000000000001d882e00000000000840 s (execRsqrt c st s) := by
  unfold execRsqrt
  refine done_keeps ?_
  refine Keeps.trans ?_ (vectorOp_keeps.mono rfl)
  exact Keeps.refl

theorem execScale_keeps {c : Fin 1056} {st : Strm} {s : State} :
    OutKeeps 0x10411000000e0000000000000000000000000000000000000000000000000000000000000000000001000000000000021000000000038000000000000000001d882e00000000000840 s (execScale c st s) := by
  unfold execScale
  refine done_keeps ?_
  refine Keeps.trans ?_ (vectorOp_keeps.mono rfl)
  exact Keeps.refl

theorem execSigmoid_keeps {c : Fin 1056} {st : Strm} {s : State} :
    OutKeeps 0x10411000000e0000000000000000000000000000000000000000000000000000000000000000000001000000000000021000000000038000000000000000001d882e00000000000840 s (execSigmoid c st s) := by
  unfold execSigmoid
  refine done_keeps ?_
  refine Keeps.trans ?_ (vectorOp_keeps.mono rfl)
  exact Keeps.refl

theorem execSilu_keeps {c : Fin 1056} {st : Strm} {s : State} :
    OutKeeps 0x10411000000e0000000000000000000000000000000000000000000000000000000000000000000001000000000000021000000000038000000000000000001d882e00000000000840 s (execSilu c st s) := by
  unfold execSilu
  refine done_keeps ?_
  refine Keeps.trans ?_ (vectorOp_keeps.mono rfl)
  exact Keeps.refl

theorem execSoftmax_keeps {c : Fin 1056} {st : Strm} {s : State} :
    OutKeeps 0x10411000000e0000000000000000000000000000000000000000000000000000000000000000000001000000000000021000000000038000000000000000001d882e00000000000840 s (execSoftmax c st s) := by
  unfold execSoftmax
  refine done_keeps ?_
  refine Keeps.trans ?_ (vectorOp_keeps.mono rfl)
  exact Keeps.refl

theorem execSub_keeps {c : Fin 1056} {st : Strm} {s : State} :
    OutKeeps 0x10411000000e0000000000000000000000000000000000000000000000000000000000000000000001000000000000021000000000038000000000000000001d882e00000000000840 s (execSub c st s) := by
  unfold execSub
  refine done_keeps ?_
  refine Keeps.trans ?_ (vectorOp_keeps.mono rfl)
  exact Keeps.refl

theorem execTanh_keeps {c : Fin 1056} {st : Strm} {s : State} :
    OutKeeps 0x10411000000e0000000000000000000000000000000000000000000000000000000000000000000001000000000000021000000000038000000000000000001d882e00000000000840 s (execTanh c st s) := by
  unfold execTanh
  refine done_keeps ?_
  refine Keeps.trans ?_ (vectorOp_keeps.mono rfl)
  exact Keeps.refl

theorem rowsOp_keeps {gather : Bool} {s : State} {c : Nat} {st : Strm} :
    Keeps 0x10411000000e0000000000000000000000000000000000000000000000000000000000000000000001000000000000021000000000038000000000000000001d882e00000000000840 s (rowsOp gather s c st) := by
  unfold rowsOp
  refine Keeps.trans ?_ (issue_keeps rfl (fun f0_0 f0_1 f0_2 f0_3 => ?_))
  ·
    exact Keeps.refl
  ·
    refine Keeps.trans ?_ (startWalk_keeps.mono rfl)
    exact Keeps.refl

theorem execGather_keeps {c : Fin 1056} {st : Strm} {s : State} :
    OutKeeps 0x10411000000e0000000000000000000000000000000000000000000000000000000000000000000001000000000000021000000000038000000000000000001d882e00000000000840 s (execGather c st s) := by
  unfold execGather
  refine done_keeps ?_
  refine Keeps.trans ?_ (rowsOp_keeps.mono rfl)
  exact Keeps.refl

theorem execScatter_keeps {c : Fin 1056} {st : Strm} {s : State} :
    OutKeeps 0x10411000000e0000000000000000000000000000000000000000000000000000000000000000000001000000000000021000000000038000000000000000001d882e00000000000840 s (execScatter c st s) := by
  unfold execScatter
  refine done_keeps ?_
  refine Keeps.trans ?_ (rowsOp_keeps.mono rfl)
  exact Keeps.refl

end Sys2Proof.Laws
end

