-- ==== Sys2Proof/Laws/KeepsPools.lean ====
section
/-! SUPPORT. What each operation of Sys2Proof/Machine/Pools.lean may write (Laws/Keeps.lean says how a mask is read). -/
namespace Sys2Proof.Laws
open Sys2Proof Sys2Proof.Machine

set_option linter.unusedVariables false

theorem State_chanError_keeps {s : State} {c : Nat} {code : Nat} :
    Keeps 0x10000000000000000000000000000000000000000000000000000000000000000000000000000000000000000000000210000000000000000000002000000000000000000000000000 s (State.chanError s c code) := by
  unfold State.chanError
  extract_lets -underBinder +onlyGivenNames x0
  try clear_value x0
  extract_lets -underBinder +onlyGivenNames x1
  have h1 : Keeps 0x10000000000000000000000000000000000000000000000000000000000000000000000000000000000000000000000210000000000000000000002000000000000000000000000000 s x1 := by
    unfold x1
    refine Keeps.ite ?_ ?_
    ·
      refine Keeps.trans ?_ (State_setChan_keeps.mono rfl)
      exact Keeps.refl
    ·
      exact Keeps.refl
  try clear_value x1
  refine Keeps.ite ?_ ?_
  ·
    refine Keeps.trans ?_ (State_attFeltEvt_keeps.mono rfl)
    exact h1
  ·
    exact h1

theorem State_reach_keeps {s : State} {id : Nat} {c : Nat} :
    Keeps 0x1000000000040000000000000000000000000000000000000000000000000000000000000000000000000000000000021000000000000000000000200004e000000000000000000000 s (State.reach s id c) := by
  unfold State.reach
  extract_lets -underBinder +onlyGivenNames x0
  try clear_value x0
  refine Keeps.ite ?_ ?_
  ·
    refine Keeps.trans ?_ (State_chanError_keeps.mono rfl)
    exact Keeps.refl
  ·
    extract_lets -underBinder +onlyGivenNames x1
    have h1 : Keeps 0x1000000000040000000000000000000000000000000000000000000000000000000000000000000000000000000000021000000000000000000000200004e000000000000000000000 s x1 := by
      unfold x1
      refine Keeps.trans ?_ (State_updFlight_keeps.mono rfl)
      refine Keeps.trans ?_ (State_setChan_keeps.mono rfl)
      exact Keeps.refl
    try clear_value x1
    refine Keeps.ite ?_ ?_
    ·
      refine Keeps.trans ?_ (State_chanError_keeps.mono rfl)
      refine Keeps.trans ?_ (uncorrFound_keeps.mono rfl)
      exact h1
    ·
      exact h1

theorem State_chanBad_keeps {s : State} {c : Nat} {key : Nat} :
    Keeps 0x1000000000000000000000000000000000000000000000000000000000000000000000000000000000000000000000021000000000000000000000200004e000000000000000000000 s (State.chanBad s c key) := by
  unfold State.chanBad
  split
  ·
    rename_i y0_0 y0_1 y0_2 e0
    have h0 := Keeps.of_eq (M := 0x1000000000000000000000000000000000000000000000000000000000000000000000000000000000000000000000021000000000000000000000200004e000000000000000000000) (s := s) e0 (by
      refine Keeps.trans ?_ (uncorrTensor_keeps.mono rfl)
      exact Keeps.refl
      )
    refine Keeps.trans ?_ (State_chanError_keeps.mono rfl)
    exact h0

theorem State_errFolds_keeps {s : State} {c : Nat} {n : Nat} :
    Keeps 0x210000000000000000000000000000001880090000000000040 s (State.errFolds s c n) := by
  unfold State.errFolds
  refine Keeps.trans ?_ (State_attEvt_keeps.mono rfl)
  refine Keeps.trans ?_ (State_finc_keeps (by rfl))
  exact Keeps.refl

end Sys2Proof.Laws
end

