-- ==== Sys2Proof/Laws/KeepsAttend.lean ====
section
/-! SUPPORT. What each operation of Sys2Proof/Machine/Attend.lean may write (Laws/Keeps.lean says how a mask is read). -/
namespace Sys2Proof.Laws
open Sys2Proof Sys2Proof.Machine

set_option linter.unusedVariables false

theorem attReach_keeps {id : Nat} {f : Flight} {s : State} :
    Keeps 0x1000000000040000000000000000000000000000000000000000000000000000000000000000000000000000000000021000000000000000000000200004e000000000000000000000 s (attReach id f s) := by
  unfold attReach
  refine Keeps.ite ?_ ?_
  ·
    exact Keeps.refl
  ·
    refine Keeps.trans ?_ (Keeps.foldl (fun s0 _ => ?_) _ _)
    ·
      exact Keeps.refl
    ·
      refine Keeps.trans ?_ (State_reach_keeps.mono rfl)
      exact Keeps.refl

theorem attChannel_keeps {s : State} {c : Nat} {f : Flight} {x : Spot} :
    Keeps 0x1000000000000000000000000000000000000000000000000000000000000000000000000000000000000000000000021000000000000000000000200004e001880090000000000040 s (attChannel s c f x) := by
  unfold attChannel
  refine Keeps.ite ?_ ?_
  ·
    exact Keeps.refl
  ·
    extract_lets -underBinder +onlyGivenNames x0
    try clear_value x0
    extract_lets -underBinder +onlyGivenNames x1
    have h1 : Keeps 0x1000000000000000000000000000000000000000000000000000000000000000000000000000000000000000000000021000000000000000000000200004e001880090000000000040 s x1 := by
      unfold x1
      split
      ·
        refine Keeps.trans ?_ (State_chanBad_keeps.mono rfl)
        exact Keeps.refl
      ·
        exact Keeps.refl
    try clear_value x1
    refine Keeps.ite ?_ ?_
    ·
      refine Keeps.trans ?_ (State_errFolds_keeps.mono rfl)
      exact h1
    ·
      exact h1

theorem countDivert_keeps {s : State} {m : List Byte} {c : Nat} :
    Keeps 0x210000000000000000000000000000001880050000000000040 s (countDivert s m c) := by
  unfold countDivert
  refine Keeps.ite ?_ ?_
  ·
    refine Keeps.trans ?_ (State_attEvt_keeps.mono rfl)
    refine Keeps.trans ?_ (State_finc_keeps (by rfl))
    exact Keeps.refl
  ·
    exact Keeps.refl

theorem bwdOp_keeps {k : Nat} {s : State} {c : Nat} {st : Strm} :
    Keeps 0x10411000000e0000000000000000000000000000000000000000000000000000000000000000000001000000000000021000000000038000000000000000001d882e50000000000840 s (bwdOp k s c st) := by
  unfold bwdOp
  refine Keeps.trans ?_ (issue_keeps rfl (fun f0_0 f0_1 f0_2 f0_3 => ?_))
  ·
    exact Keeps.refl
  ·
    extract_lets -underBinder +onlyGivenNames x1
    have h1 : Keeps 0x10411000000e0000000000000000000000000000000000000000000000000000000000000000000001000000000000021000000000038000000000000000001d882e50000000000840 f0_0 x1 := by
      unfold x1
      refine Keeps.ite ?_ ?_
      ·
        exact Keeps.refl
      ·
        refine Keeps.trans ?_ (countDivert_keeps.mono rfl)
        exact Keeps.refl
    try clear_value x1
    refine Keeps.trans ?_ (startWalk_keeps.mono rfl)
    exact h1

theorem execAttend_keeps {c : Fin 1056} {st : Strm} {s : State} :
    OutKeeps 0x10411000000e0000000000000000000000000000000000000000000000000000000000000000000001000000000000021000000000038000000000200004e01d882e50000000000840 s (execAttend c st s) := by
  unfold execAttend
  refine done_keeps ?_
  refine Keeps.trans ?_ (issue_keeps rfl (fun f0_0 f0_1 f0_2 f0_3 => ?_))
  ·
    exact Keeps.refl
  ·
    extract_lets -underBinder +onlyGivenNames x1
    have h1 : Keeps 0x10411000000e0000000000000000000000000000000000000000000000000000000000000000000001000000000000021000000000038000000000200004e01d882e50000000000840 f0_0 x1 := by
      unfold x1
      refine Keeps.trans ?_ (countDivert_keeps.mono rfl)
      exact Keeps.refl
    try clear_value x1
    extract_lets -underBinder +onlyGivenNames x2
    have h2 : Keeps 0x10411000000e0000000000000000000000000000000000000000000000000000000000000000000001000000000000021000000000038000000000200004e01d882e50000000000840 f0_0 x2 := by
      unfold x2
      refine Keeps.ite ?_ ?_
      ·
        refine Keeps.trans ?_ (attReach_keeps.mono rfl)
        exact h1
      ·
        exact h1
    try clear_value x2
    refine Keeps.trans ?_ (startWalk_keeps.mono rfl)
    exact h2

theorem execAttendBwdDot_keeps {c : Fin 1056} {st : Strm} {s : State} :
    OutKeeps 0x10411000000e0000000000000000000000000000000000000000000000000000000000000000000001000000000000021000000000038000000000000000001d882e50000000000840 s (execAttendBwdDot c st s) := by
  unfold execAttendBwdDot
  refine done_keeps ?_
  refine Keeps.trans ?_ (bwdOp_keeps.mono rfl)
  exact Keeps.refl

theorem execAttendBwdKv_keeps {c : Fin 1056} {st : Strm} {s : State} :
    OutKeeps 0x10411000000e0000000000000000000000000000000000000000000000000000000000000000000001000000000000021000000000038000000000000000001d882e50000000000840 s (execAttendBwdKv c st s) := by
  unfold execAttendBwdKv
  refine done_keeps ?_
  refine Keeps.trans ?_ (bwdOp_keeps.mono rfl)
  exact Keeps.refl

theorem execAttendBwdQ_keeps {c : Fin 1056} {st : Strm} {s : State} :
    OutKeeps 0x10411000000e0000000000000000000000000000000000000000000000000000000000000000000001000000000000021000000000038000000000000000001d882e50000000000840 s (execAttendBwdQ c st s) := by
  unfold execAttendBwdQ
  refine done_keeps ?_
  refine Keeps.trans ?_ (bwdOp_keeps.mono rfl)
  exact Keeps.refl

end Sys2Proof.Laws
end

