-- ==== Sys2Proof/Laws/KeepsMarkers.lean ====
section
/-! SUPPORT. What each operation of Sys2Proof/Machine/Markers.lean may write (Laws/Keeps.lean says how a mask is read). -/
namespace Sys2Proof.Laws
open Sys2Proof Sys2Proof.Machine

set_option linter.unusedVariables false

theorem disarm_keeps {s : State} {d : Nat} :
    Keeps 0x800000000000000000000000000000000000000000000000000000000000000000000000000000000000000000000000000000000000000000000000000000000000000000000 s (disarm s d) := by
  unfold disarm
  refine Keeps.trans ?_ (upd_forceArmed rfl)
  exact Keeps.refl

theorem epClear_keeps {s : State} {i : Nat} {w : Word} {hw : Word} :
    Keeps 0x300000000000000000000000000000000000000 s (epClear s i w hw) := by
  unfold epClear
  extract_lets -underBinder +onlyGivenNames x0
  try clear_value x0
  refine Keeps.trans ?_ (State_finc_keeps (by rfl))
  refine Keeps.trans ?_ (State_wr_keeps (by rfl))
  exact Keeps.refl

theorem execForceArmExpire_keeps {d : Fin 2} {s : State} :
    OutKeeps 0x800000000000000000000000000000000000000000000000000000000000000000000000000000000000000000000000000000000000000000000000000000000000000000000 s (execForceArmExpire d s) := by
  unfold execForceArmExpire
  refine done_keeps ?_
  refine Keeps.trans ?_ (disarm_keeps.mono rfl)
  exact Keeps.refl

theorem clearMask_keeps {s : State} {c : Nat} {mask : Nat} :
    Keeps 0x600000000000000 s (clearMask s c mask) := by
  unfold clearMask
  refine Keeps.trans ?_ (Keeps.foldl (fun s0 _ => ?_) _ _)
  ·
    exact Keeps.refl
  ·
    refine Keeps.ite ?_ ?_
    ·
      refine Keeps.trans ?_ (State_clearMarker_keeps.mono rfl)
      exact Keeps.refl
    ·
      exact Keeps.refl

theorem refuseForce_keeps {s : State} {a : Agent} {d : Nat} {off : Nat} :
    Keeps 0x800000000000000000000000000000000000000000000000000000000000000000000000000000000000000000210680000000000000000000000000100000000000000000000 s (refuseForce s a d off) := by
  unfold refuseForce
  refine Keeps.trans ?_ (State_outOfRange_keeps.mono rfl)
  refine Keeps.trans ?_ (State_finc_keeps (by rfl))
  refine Keeps.trans ?_ (disarm_keeps.mono rfl)
  exact Keeps.refl

theorem execBarrierTimeout_keeps {id : Fin 4096} {s : State} :
    OutKeeps 0x21000000000000c000000000000000000000000000000000000 s (execBarrierTimeout id s) := by
  unfold execBarrierTimeout
  refine OutKeeps.ite ?_ ?_
  ·
    refine done_keeps ?_
    refine Keeps.trans ?_ (State_chEvt_keeps.mono rfl)
    refine Keeps.trans ?_ (State_fset_keeps (by rfl))
    exact Keeps.refl
  ·
    refine done_keeps ?_
    exact Keeps.refl

theorem execMkEpStateClear_keeps {a : Agent} {i : Fin 256} {w : Word} {hwSet : Word} {s : State} :
    OutKeeps 0x210681000000300000000000000000001880000000000000040 s (execMkEpStateClear a i w hwSet s) := by
  unfold execMkEpStateClear
  refine done_keeps ?_
  refine Keeps.trans ?_ (State_access_keeps rfl (fun f0_0 => ?_))
  ·
    exact Keeps.refl
  ·
    refine Keeps.trans ?_ (epClear_keeps.mono rfl)
    exact Keeps.refl

theorem forceKey_keeps {s : State} {a : Agent} {d : Nat} {w : Word} :
    Keeps 0x800000000000000000000000000000000000000000000000000000000000000000000000000000000000000000210680000000000000000000000000100000000000000000000 s (forceKey s a d w) := by
  unfold forceKey
  refine Keeps.ite ?_ ?_
  ·
    refine Keeps.trans ?_ (upd_forceArmed rfl)
    exact Keeps.refl
  ·
    refine Keeps.trans ?_ (refuseForce_keeps.mono rfl)
    exact Keeps.refl

theorem chainRelease_keeps {s : State} {id : Nat} {epoch : Nat} {fault : Bool} :
    Keeps 0x1e000060000000000000000000000000000000000000000000000000000000000000000000000000000000000021000000000000000000000000000000189ae00000000000040 s (chainRelease s id epoch fault) := by
  unfold chainRelease
  split
  ·
    refine Keeps.trans ?_ (applyRelease_keeps.mono rfl)
    refine Keeps.trans ?_ (upd_releases rfl)
    exact Keeps.refl
  ·
    refine Keeps.ite ?_ ?_
    ·
      refine Keeps.trans ?_ (applyRelease_keeps.mono rfl)
      refine Keeps.trans ?_ (upd_epochs_openEpochs rfl rfl)
      exact Keeps.refl
    ·
      exact Keeps.refl

theorem execChainRelease_keeps {id : Fin 4096} {epoch : Word} {fault : Bool} {s : State} :
    OutKeeps 0x1e000060000000000000000000000000000000000000000000000000000000000000000000000000000000000021000000000000000000000000000000189ae00000000000040 s (execChainRelease id epoch fault s) := by
  unfold execChainRelease
  refine done_keeps ?_
  refine Keeps.trans ?_ (chainRelease_keeps.mono rfl)
  exact Keeps.refl

theorem execMkForceKey_keeps {a : Agent} {d : Fin 2} {w : Word} {s : State} :
    OutKeeps 0x800000000000000000000000000000000000000000000000000000000000000000000000000000000000000000210681000000000000000000000000101880000000000000040 s (execMkForceKey a d w s) := by
  unfold execMkForceKey
  refine done_keeps ?_
  refine Keeps.trans ?_ (State_access_keeps rfl (fun f0_0 => ?_))
  ·
    exact Keeps.refl
  ·
    refine Keeps.trans ?_ (forceKey_keeps.mono rfl)
    exact Keeps.refl

theorem execWaitTimeout_keeps {c : Fin 1056} {st : Strm} {s : State} :
    OutKeeps 0x210000000000000000000000000000001880800000000000040 s (execWaitTimeout c st s) := by
  unfold execWaitTimeout
  split
  ·
    refine done_keeps ?_
    exact Keeps.refl
  ·
    extract_lets -underBinder +onlyGivenNames x0
    try clear_value x0
    extract_lets -underBinder +onlyGivenNames x1
    try clear_value x1
    refine OutKeeps.ite ?_ ?_
    ·
      refine done_keeps ?_
      refine Keeps.trans ?_ (State_mkEvt_keeps.mono rfl)
      exact Keeps.refl
    ·
      refine done_keeps ?_
      exact Keeps.refl

theorem forceApply_keeps {s : State} {id : Nat} {set : Bool} :
    Keeps 0x2000000000000000000000000000000000000000000000000000000000000000000000000000000000002100000000003000000000000000000018a2e00000000000040 s (forceApply s id set) := by
  unfold forceApply
  refine Keeps.ite ?_ ?_
  ·
    split
    ·
      extract_lets -underBinder +onlyGivenNames x0
      have h0 : Keeps 0x2000000000000000000000000000000000000000000000000000000000000000000000000000000000002100000000003000000000000000000018a2e00000000000040 s x0 := by
        unfold x0
        refine Keeps.trans ?_ (State_mkEvt_keeps.mono rfl)
        refine Keeps.trans ?_ (State_finc_keeps (by rfl))
        exact Keeps.refl
      try clear_value x0
      refine Keeps.ite ?_ ?_
      ·
        refine Keeps.trans ?_ (State_setMarker_keeps.mono rfl)
        exact h0
      ·
        refine Keeps.trans ?_ (State_clearMarker_keeps.mono rfl)
        refine Keeps.trans ?_ (State_wake_keeps.mono rfl)
        exact h0
    ·
      exact Keeps.refl
  ·
    refine Keeps.ite ?_ ?_
    ·
      refine Keeps.trans ?_ (State_setEp_keeps.mono rfl)
      exact Keeps.refl
    ·
      refine Keeps.trans ?_ (putEp_keeps.mono rfl)
      exact Keeps.refl

theorem execBarrier_keeps {c : Fin 1056} {st : Strm} {s : State} :
    OutKeeps 0x1080000e00000000000000000000000000000000000000000000000000000000000000000000000000000000000210000000000000000000000000000015888600000000000840 s (execBarrier c st s) := by
  unfold execBarrier
  refine done_keeps ?_
  refine Keeps.trans ?_ (issue_keeps rfl (fun f0_0 f0_1 f0_2 f0_3 => ?_))
  ·
    exact Keeps.refl
  ·
    refine Keeps.ite ?_ ?_
    ·
      refine Keeps.trans ?_ (State_updFlight_keeps.mono rfl)
      exact Keeps.refl
    ·
      refine Keeps.trans ?_ (sendArrival_keeps.mono rfl)
      exact Keeps.refl

theorem forceWrite_keeps {s : State} {a : Agent} {d : Nat} {w : Word} :
    Keeps 0xc100098821c47000140000000000000000000000000000000000000000000000000000000000000000000e000000000021068000050030000800000000000010d8a2e00000000000040 s (forceWrite s a d w) := by
  unfold forceWrite
  extract_lets -underBinder +onlyGivenNames x0
  try clear_value x0
  extract_lets -underBinder +onlyGivenNames x1
  try clear_value x1
  extract_lets -underBinder +onlyGivenNames x2
  try clear_value x2
  extract_lets -underBinder +onlyGivenNames x3
  try clear_value x3
  refine Keeps.ite ?_ ?_
  ·
    refine Keeps.trans ?_ (refuseForce_keeps.mono rfl)
    exact Keeps.refl
  ·
    extract_lets -underBinder +onlyGivenNames x4
    have h4 : Keeps 0xc100098821c47000140000000000000000000000000000000000000000000000000000000000000000000e000000000021068000050030000800000000000010d8a2e00000000000040 s x4 := by
      unfold x4
      refine Keeps.trans ?_ (forceApply_keeps.mono rfl)
      refine Keeps.trans ?_ (State_finc_keeps (by rfl))
      refine Keeps.trans ?_ (disarm_keeps.mono rfl)
      exact Keeps.refl
    try clear_value x4
    extract_lets -underBinder +onlyGivenNames x5
    have h5 : Keeps 0xc100098821c47000140000000000000000000000000000000000000000000000000000000000000000000e000000000021068000050030000800000000000010d8a2e00000000000040 s x5 := by
      unfold x5
      refine Keeps.trans ?_ (State_logRec_keeps.mono rfl)
      exact h4
    try clear_value x5
    split
    ·
      refine Keeps.ite ?_ ?_
      ·
        split
        ·
          refine Keeps.ite ?_ ?_
          ·
            refine Keeps.trans ?_ (State_coreStepFault_keeps.mono rfl)
            exact h5
          ·
            exact h5
        ·
          exact h5
      ·
        exact h5
    ·
      exact h5

theorem execForcedClear_keeps {a : Agent} {d : Fin 2} {w : Word} {s : State} :
    OutKeeps 0xc100098821c47000140000000000000000000000000000000000000000000000000000000000000000000e000000000021068100050030000800000000000010d8a2e00000000000040 s (execForcedClear a d w s) := by
  unfold execForcedClear
  refine done_keeps ?_
  refine Keeps.trans ?_ (State_access_keeps rfl (fun f0_0 => ?_))
  ·
    exact Keeps.refl
  ·
    refine Keeps.trans ?_ (forceWrite_keeps.mono rfl)
    exact Keeps.refl

theorem execForcedSet_keeps {a : Agent} {d : Fin 2} {w : Word} {s : State} :
    OutKeeps 0xc100098821c47000140000000000000000000000000000000000000000000000000000000000000000000e000000000021068100050030000800000000000010d8a2e00000000000040 s (execForcedSet a d w s) := by
  unfold execForcedSet
  refine done_keeps ?_
  refine Keeps.trans ?_ (State_access_keeps rfl (fun f0_0 => ?_))
  ·
    exact Keeps.refl
  ·
    refine Keeps.trans ?_ (forceWrite_keeps.mono rfl)
    exact Keeps.refl

theorem execMarker_keeps {c : Fin 1056} {st : Strm} {s : State} :
    OutKeeps 0x10411000000e0000000000000000000000000000000000000000000000000000000000000000000001000000000000021000000000038000000000000000001d882e00000000000840 s (execMarker c st s) := by
  unfold execMarker
  refine done_keeps ?_
  refine Keeps.trans ?_ (issue_keeps rfl (fun f0_0 f0_1 f0_2 f0_3 => ?_))
  ·
    exact Keeps.refl
  ·
    extract_lets -underBinder +onlyGivenNames x1
    have h1 : Keeps 0x10411000000e0000000000000000000000000000000000000000000000000000000000000000000001000000000000021000000000038000000000000000001d882e00000000000840 f0_0 x1 := by
      unfold x1
      refine Keeps.trans ?_ (clearMask_keeps.mono rfl)
      exact Keeps.refl
    try clear_value x1
    refine Keeps.trans ?_ (State_walkEnd_keeps.mono rfl)
    refine Keeps.ite ?_ ?_
    ·
      refine Keeps.trans ?_ (State_completeOn_keeps.mono rfl)
      exact h1
    ·
      refine Keeps.trans ?_ (State_selfSets_keeps.mono rfl)
      exact h1

theorem chainArrive_keeps {s : State} {x : ChainSrc} {id : Nat} {fault : Bool} {step : Nat} :
    Keeps 0xc104117e00006000140000000000000000000000000000000000000000000000000000000000000000100e00000000002100000004003c800800000000000000d882e00000000000040 s (chainArrive s x id fault step) := by
  unfold chainArrive
  extract_lets -underBinder +onlyGivenNames x0
  try clear_value x0
  extract_lets -underBinder +onlyGivenNames x1
  have h1 : Keeps 0xc104117e00006000140000000000000000000000000000000000000000000000000000000000000000100e00000000002100000004003c800800000000000000d882e00000000000040 s x1 := by
    unfold x1
    refine Keeps.trans ?_ (upd_arrivals rfl)
    exact Keeps.refl
  try clear_value x1
  extract_lets -underBinder +onlyGivenNames x2
  try clear_value x2
  extract_lets -underBinder +onlyGivenNames x3
  try clear_value x3
  split
  ·
    extract_lets -underBinder +onlyGivenNames x4
    have h4 : Keeps 0xc104117e00006000140000000000000000000000000000000000000000000000000000000000000000100e00000000002100000004003c800800000000000000d882e00000000000040 s x4 := by
      unfold x4
      refine Keeps.trans ?_ (arriveCore_keeps.mono rfl)
      exact h1
    try clear_value x4
    split
    ·
      refine Keeps.trans ?_ (State_finish_keeps.mono rfl)
      exact h4
    ·
      exact h4
  ·
    refine Keeps.ite ?_ ?_
    ·
      refine Keeps.trans ?_ (arriveVote_keeps.mono rfl)
      exact h1
    ·
      refine Keeps.trans ?_ (arriveMember_keeps.mono rfl)
      exact h1

theorem execChainArrive_keeps {x : ChainSrc} {id : Fin 4096} {fault : Bool} {step : Word} {s : State} :
    OutKeeps 0xc104117e00006000140000000000000000000000000000000000000000000000000000000000000000100e00000000002100000004003c800800000000000000d882e00000000000040 s (execChainArrive x id fault step s) := by
  unfold execChainArrive
  refine done_keeps ?_
  refine Keeps.trans ?_ (chainArrive_keeps.mono rfl)
  exact Keeps.refl

end Sys2Proof.Laws
end

