-- ==== Sys2Proof/Laws/KeepsQueues.lean ====
section
/-! SUPPORT. What each operation of Sys2Proof/Machine/Queues.lean may write (Laws/Keeps.lean says how a mask is read). -/
namespace Sys2Proof.Laws
open Sys2Proof Sys2Proof.Machine

set_option linter.unusedVariables false

theorem adoptConfig_keeps {s : State} {q : Nat} :
    Keeps 0x8000000000000000000000000000000000000000000000000000000000000000000000000000000000000000000000000000000000000000000000000000000000000000000000 s (adoptConfig s q) := by
  unfold adoptConfig
  refine Keeps.trans ?_ (State_setQueue_keeps.mono rfl)
  exact Keeps.refl

theorem badQueueCmd_keeps {s : State} {q : Nat} :
    Keeps 0x20010000000000000000000000000000000000000000000000000000 s (badQueueCmd s q) := by
  unfold badQueueCmd
  refine Keeps.trans ?_ (State_fset_keeps (by rfl))
  refine Keeps.trans ?_ (State_finc_keeps (by rfl))
  exact Keeps.refl

theorem qShow_keeps {s : State} {f : Flight} {state : Nat} :
    Keeps 0x5880000000000000040 s (qShow s f state) := by
  unfold qShow
  refine Keeps.trans ?_ (Keeps.foldl (fun s0 _ => ?_) _ _)
  ·
    exact Keeps.refl
  ·
    refine Keeps.trans ?_ (State_setSstate_keeps.mono rfl)
    refine Keeps.ite ?_ ?_
    ·
      refine Keeps.trans ?_ (State_wake_keeps.mono rfl)
      exact Keeps.refl
    ·
      exact Keeps.refl

theorem queueStoppedNow_keeps {s : State} {q : Nat} :
    Keeps 0x10000000000000000000000000000000005880000000000000040 s (queueStoppedNow s q) := by
  unfold queueStoppedNow
  refine Keeps.ite ?_ ?_
  ·
    extract_lets -underBinder +onlyGivenNames x0
    have h0 : Keeps 0x10000000000000000000000000000000005880000000000000040 s x0 := by
      unfold x0
      refine Keeps.trans ?_ (State_fset_keeps (by rfl))
      exact Keeps.refl
    try clear_value x0
    refine Keeps.trans ?_ (Keeps.foldl (fun s1 _ => ?_) _ _)
    ·
      exact h0
    ·
      refine Keeps.trans ?_ (qShow_keeps.mono rfl)
      exact Keeps.refl
  ·
    exact Keeps.refl

theorem setShape_keeps {s : State} {c : Nat} {st : Strm} {k : Nat} {vs : List Word} :
    Keeps 0x200000000000000000000000000000000000000000000000000000000000000000000000000000000000000000000000000000000000000000000000000000000000000 s (setShape s c st k vs) := by
  unfold setShape
  refine Keeps.trans ?_ (State_setCore_keeps.mono rfl)
  exact Keeps.refl

theorem State_setQix_keeps {s : State} {q : Nat} {i : QIx} {v : Nat} :
    Keeps 0x8000000000000000000000000000000000000000000000000000000000000000000000000000000000000001e00000000000000000000000000000000000000000000000000000 s (State.setQix s q i v) := by
  unfold State.setQix
  refine Keeps.trans ?_ (State_setQueue_keeps.mono rfl)
  refine Keeps.trans ?_ (State_wr_keeps (by unfold qReg; split <;> rfl))
  exact Keeps.refl

theorem dispatchDone_keeps {s : State} {q : Nat} {st : Nat} :
    Keeps 0x8000000000000000000000000000000000000000000000000000000000000000000000000000000000000001e00000000000000000000000000000000000000000000000000000 s (dispatchDone s q st) := by
  unfold dispatchDone
  refine Keeps.ite ?_ ?_
  ·
    refine Keeps.trans ?_ (State_setQix_keeps.mono rfl)
    exact Keeps.refl
  ·
    refine Keeps.trans ?_ (State_setQix_keeps.mono rfl)
    exact Keeps.refl

theorem execQueueStopped_keeps {q : Fin 256} {s : State} :
    OutKeeps 0x10000000000000000000000000000000005880000000000000040 s (execQueueStopped q s) := by
  unfold execQueueStopped
  refine done_keeps ?_
  refine Keeps.trans ?_ (queueStoppedNow_keeps.mono rfl)
  exact Keeps.refl

theorem qAdvance_keeps {s : State} {q : Nat} {n : Nat} :
    Keeps 0x8000000000000000000000000000000000000000000000000000000000000000000000000000000000000001e00000000000000000000000000000000000000000000000000000 s (qAdvance s q n) := by
  unfold qAdvance
  refine Keeps.trans ?_ (State_setQix_keeps.mono rfl)
  exact Keeps.refl

theorem qMark_keeps {s : State} {q : Nat} :
    Keeps 0x8000000000000000000000000000000000000000000000000000000000000000000000000000000000000001e00000000000000000000000000000000000000000000000000000 s (qMark s q) := by
  unfold qMark
  refine Keeps.trans ?_ (State_setQix_keeps.mono rfl)
  exact Keeps.refl

theorem qRewind_keeps {s : State} {q : Nat} :
    Keeps 0x8000000000000000000000000000000000000000000000000000000000000000000000000000000000000001e00000000000000000000000000000000000000000000000000000 s (qRewind s q) := by
  unfold qRewind
  refine Keeps.trans ?_ (State_setQix_keeps.mono rfl)
  exact Keeps.refl

theorem zeroIndices_keeps {s : State} {q : Nat} :
    Keeps 0x8000000000000000000000000000000000000000000000000000000000000000000000000000000000000001e00000000000000000000000000000000000000000000000000000 s (zeroIndices s q) := by
  unfold zeroIndices
  refine Keeps.trans ?_ (State_setQix_keeps.mono rfl)
  refine Keeps.trans ?_ (State_setQix_keeps.mono rfl)
  refine Keeps.trans ?_ (State_setQix_keeps.mono rfl)
  refine Keeps.trans ?_ (State_setQix_keeps.mono rfl)
  exact Keeps.refl

theorem grantCredits_keeps {s : State} {q : Nat} :
    Keeps 0x419000000000000000000000000000000000000000000000000000000000000000000000000000010000000010000000000000000000000000000000000001880000000000000040 s (grantCredits s q) := by
  unfold grantCredits
  refine Keeps.ite ?_ ?_
  ·
    exact Keeps.refl
  ·
    extract_lets -underBinder +onlyGivenNames x0
    try clear_value x0
    extract_lets -underBinder +onlyGivenNames x1
    try clear_value x1
    extract_lets -underBinder +onlyGivenNames x2
    have h2 : Keeps 0x419000000000000000000000000000000000000000000000000000000000000000000000000000010000000010000000000000000000000000000000000001880000000000000040 s x2 := by
      unfold x2
      refine Keeps.trans ?_ (State_fset_keeps (by rfl))
      exact Keeps.refl
    try clear_value x2
    refine Keeps.ite ?_ ?_
    ·
      exact h2
    ·
      extract_lets -underBinder +onlyGivenNames x3
      try clear_value x3
      extract_lets -underBinder +onlyGivenNames x4
      have h4 : Keeps 0x419000000000000000000000000000000000000000000000000000000000000000000000000000010000000010000000000000000000000000000000000001880000000000000040 s x4 := by
        unfold x4
        refine Keeps.trans ?_ (State_setQueue_keeps.mono rfl)
        exact h2
      try clear_value x4
      refine Keeps.trans ?_ (State_sendPkt_keeps.mono rfl)
      exact h4

theorem pushArrive_keeps {s : State} {q : Nat} {x : Push} :
    Keeps 0x419000000000000000000000000000000000000000000000000000000000000000000000000000010000000010000000000000000000000000000000000001880000000000000040 s (pushArrive s q x) := by
  unfold pushArrive
  extract_lets -underBinder +onlyGivenNames x0
  try clear_value x0
  refine Keeps.ite ?_ ?_
  ·
    refine Keeps.trans ?_ (grantCredits_keeps.mono rfl)
    refine Keeps.trans ?_ (State_setQueue_keeps.mono rfl)
    exact Keeps.refl
  ·
    refine Keeps.trans ?_ (State_setQueue_keeps.mono rfl)
    exact Keeps.refl

theorem pushItems_keeps {s : State} {src : Nat → PushSrc} {h : Nat} {n : Nat} {q : Nat} :
    Keeps 0x419000000000000000000000000000000000000000000000000000000000000000000000000000010000000010000000000000000000000000000000000001880000000000000040 s (pushItems s src h n q) := by
  unfold pushItems
  refine Keeps.trans ?_ (Keeps.foldl (fun s0 _ => ?_) _ _)
  ·
    exact Keeps.refl
  ·
    refine Keeps.trans ?_ (pushArrive_keeps.mono rfl)
    exact Keeps.refl

theorem qRelease_keeps {s : State} {q : Nat} {n : Nat} :
    Keeps 0x419000000000000000000000000000000000000000000000000000000000000000000000000000010000000011e00000000000000200000000000000000001880000000000000040 s (qRelease s q n) := by
  unfold qRelease
  extract_lets -underBinder +onlyGivenNames x0
  try clear_value x0
  extract_lets -underBinder +onlyGivenNames x1
  try clear_value x1
  extract_lets -underBinder +onlyGivenNames x2
  have h2 : Keeps 0x419000000000000000000000000000000000000000000000000000000000000000000000000000010000000011e00000000000000200000000000000000001880000000000000040 s x2 := by
    unfold x2
    refine Keeps.trans ?_ (State_setQix_keeps.mono rfl)
    exact Keeps.refl
  try clear_value x2
  extract_lets -underBinder +onlyGivenNames x3
  have h3 : Keeps 0x419000000000000000000000000000000000000000000000000000000000000000000000000000010000000011e00000000000000200000000000000000001880000000000000040 s x3 := by
    unfold x3
    refine Keeps.ite ?_ ?_
    ·
      refine Keeps.trans ?_ (State_setQix_keeps.mono rfl)
      exact h2
    ·
      exact h2
  try clear_value x3
  refine Keeps.ite ?_ ?_
  ·
    exact h3
  ·
    refine Keeps.trans ?_ (grantCredits_keeps.mono rfl)
    refine Keeps.trans ?_ (State_setEpQuiet_keeps.mono rfl)
    exact h3

theorem acceptStalled_keeps {s : State} {q : Nat} :
    Keeps 0x419000000000000000000000000000000000000000000000000000000000000000000000000000010000000010000000000000000000000000000000000005880000000000000040 s (acceptStalled s q) := by
  unfold acceptStalled
  extract_lets -underBinder +onlyGivenNames x0
  try clear_value x0
  split
  ·
    exact Keeps.refl
  ·
    refine Keeps.ite ?_ ?_
    ·
      extract_lets -underBinder +onlyGivenNames x1
      have h1 : Keeps 0x419000000000000000000000000000000000000000000000000000000000000000000000000000010000000010000000000000000000000000000000000005880000000000000040 s x1 := by
        unfold x1
        refine Keeps.trans ?_ (grantCredits_keeps.mono rfl)
        refine Keeps.trans ?_ (State_setQueue_keeps.mono rfl)
        exact Keeps.refl
      try clear_value x1
      split
      ·
        split
        ·
          refine Keeps.ite ?_ ?_
          ·
            exact h1
          ·
            refine Keeps.trans ?_ (qShow_keeps.mono rfl)
            exact h1
        ·
          exact h1
      ·
        exact h1
    ·
      exact Keeps.refl

theorem queueFault_keeps {s : State} {q : Nat} :
    Keeps 0xc100090821c47000140000000000000000000000000000000000000000000000000000000000000000000e000000000000000000050000000800000000000000d880000000000000040 s (queueFault s q) := by
  unfold queueFault
  extract_lets -underBinder +onlyGivenNames x0
  try clear_value x0
  extract_lets -underBinder +onlyGivenNames x1
  have h1 : Keeps 0xc100090821c47000140000000000000000000000000000000000000000000000000000000000000000000e000000000000000000050000000800000000000000d880000000000000040 s x1 := by
    unfold x1
    refine Keeps.trans ?_ (State_errRec_keeps.mono rfl)
    exact Keeps.refl
  try clear_value x1
  split
  ·
    refine Keeps.trans ?_ (State_panelFault_keeps.mono rfl)
    exact h1
  ·
    exact h1

theorem handlerEnd_keeps {s : State} {p : Nat} {c : Nat} :
    Keeps 0x411000000200000000000000000000000000000000000000000000000000000000000000000000010000000000000210000000000380000000000000000001c82e00000000000040 s (handlerEnd s p c) := by
  unfold handlerEnd
  extract_lets -underBinder +onlyGivenNames x0
  try clear_value x0
  extract_lets -underBinder +onlyGivenNames x1
  try clear_value x1
  extract_lets -underBinder +onlyGivenNames x2
  try clear_value x2
  extract_lets -underBinder +onlyGivenNames x3
  try clear_value x3
  extract_lets -underBinder +onlyGivenNames x4
  have h4 : Keeps 0x411000000200000000000000000000000000000000000000000000000000000000000000000000010000000000000210000000000380000000000000000001c82e00000000000040 s x4 := by
    unfold x4
    refine Keeps.trans ?_ (State_setCore_keeps.mono rfl)
    exact Keeps.refl
  try clear_value x4
  extract_lets -underBinder +onlyGivenNames x5
  try clear_value x5
  extract_lets -underBinder +onlyGivenNames x6
  have h6 : Keeps 0x411000000200000000000000000000000000000000000000000000000000000000000000000000010000000000000210000000000380000000000000000001c82e00000000000040 s x6 := by
    unfold x6
    refine Keeps.trans ?_ (Keeps.foldl (fun s7 _ => ?_) _ _)
    ·
      exact h4
    ·
      extract_lets -underBinder +onlyGivenNames x8
      try clear_value x8
      refine Keeps.ite ?_ ?_
      ·
        refine Keeps.trans ?_ (State_setMarker_keeps.mono rfl)
        exact Keeps.refl
      ·
        refine Keeps.ite ?_ ?_
        ·
          refine Keeps.trans ?_ (State_setId_keeps.mono rfl)
          exact Keeps.refl
        ·
          refine Keeps.ite ?_ ?_
          ·
            refine Keeps.trans ?_ (State_remoteSet_keeps.mono rfl)
            exact Keeps.refl
          ·
            exact Keeps.refl
  try clear_value x6
  refine Keeps.trans ?_ (State_wr_keeps (by rfl))
  refine Keeps.trans ?_ (State_returnTags_keeps.mono rfl)
  exact h6

theorem oneUnit_keeps {M : Nat} {s : State} {id : Nat} {c : Nat} {first : Bool} {run : State → State} (hM : Within 0x100090821c470007020000000000000000000000000000000000000000000000000000000000000000000000000000021000000010000000000000000014000d880000000000004040 M) (hf4 : ∀ a0, Keeps M a0 (run a0)) :
    Keeps M s (oneUnit s id c first run) := by
  unfold oneUnit
  refine Keeps.ite ?_ ?_
  ·
    refine Keeps.trans ?_ (State_walkEnd_keeps.mono (Within.via hM rfl))
    exact Keeps.refl
  ·
    extract_lets -underBinder +onlyGivenNames x0
    have h0 : Keeps M s x0 := by
      unfold x0
      split
      ·
        refine Keeps.trans ?_ (skeinPut_keeps.mono (Within.via hM rfl))
        exact Keeps.refl
      ·
        exact Keeps.refl
    try clear_value x0
    refine Keeps.ite ?_ ?_
    ·
      exact h0
    ·
      refine Keeps.trans ?_ (hf4 ..)
      refine Keeps.trans ?_ (State_finc_keeps (Within.bit (by rfl) hM))
      refine Keeps.trans ?_ (State_updFlight_keeps.mono (Within.via hM rfl))
      exact h0

theorem doRead_keeps {s : State} {f : Flight} :
    Keeps 0xc104190821c470007c2000000000000000000000000000000000000000000000000000000000000000100e0000001e0021000000050038000800000000014e00d882e00000000000040 s (doRead s f) := by
  unfold doRead
  extract_lets -underBinder +onlyGivenNames x0
  try clear_value x0
  extract_lets -underBinder +onlyGivenNames x1
  try clear_value x1
  extract_lets -underBinder +onlyGivenNames x2
  try clear_value x2
  extract_lets -underBinder +onlyGivenNames x3
  have h3 : Keeps 0xc104190821c470007c2000000000000000000000000000000000000000000000000000000000000000100e0000001e0021000000050038000800000000014e00d882e00000000000040 s x3 := by
    unfold x3
    refine Keeps.trans ?_ (State_setQix_keeps.mono rfl)
    exact Keeps.refl
  try clear_value x3
  extract_lets -underBinder +onlyGivenNames x4
  try clear_value x4
  extract_lets -underBinder +onlyGivenNames x5
  have h5 : Keeps 0xc104190821c470007c2000000000000000000000000000000000000000000000000000000000000000100e0000001e0021000000050038000800000000014e00d882e00000000000040 s x5 := by
    unfold x5
    refine Keeps.trans ?_ (State_setPanel_keeps.mono rfl)
    exact h3
  try clear_value x5
  extract_lets -underBinder +onlyGivenNames x6
  try clear_value x6
  split
  ·
    extract_lets -underBinder +onlyGivenNames x7
    try clear_value x7
    refine Keeps.trans ?_ (State_feltStepFault_keeps.mono rfl)
    refine Keeps.trans ?_ (uncorrFound_keeps.mono rfl)
    exact h5
  ·
    extract_lets -underBinder +onlyGivenNames x8
    try clear_value x8
    extract_lets -underBinder +onlyGivenNames x9
    try clear_value x9
    split
    ·
      rename_i y10_0 y10_1 e10
      have h10 := Keeps.of_eq (M := 0xc104190821c470007c2000000000000000000000000000000000000000000000000000000000000000100e0000001e0021000000050038000800000000014e00d882e00000000000040) (s := s) e10 (by
        refine Keeps.trans ?_ (State_put_keeps.mono rfl)
        exact h5
        )
      extract_lets -underBinder +onlyGivenNames x11
      have h11 : Keeps 0xc104190821c470007c2000000000000000000000000000000000000000000000000000000000000000100e0000001e0021000000050038000800000000014e00d882e00000000000040 s x11 := by
        unfold x11
        refine Keeps.trans ?_ (State_writeFail_keeps.mono rfl)
        exact h10
      try clear_value x11
      extract_lets -underBinder +onlyGivenNames x12
      try clear_value x12
      extract_lets -underBinder +onlyGivenNames x13
      have h13 : Keeps 0xc104190821c470007c2000000000000000000000000000000000000000000000000000000000000000100e0000001e0021000000050038000800000000014e00d882e00000000000040 s x13 := by
        unfold x13
        refine Keeps.ite ?_ ?_
        ·
          exact h11
        ·
          refine Keeps.trans ?_ (Keeps.foldl (fun s14 _ => ?_) _ _)
          ·
            exact h11
          ·
            refine Keeps.trans ?_ (setShape_keeps.mono rfl)
            exact Keeps.refl
      try clear_value x13
      refine Keeps.trans ?_ (State_finish_keeps.mono rfl)
      exact h13

theorem pushDone_keeps {s : State} {q : Nat} {x : PushSrc} {st : Nat} :
    Keeps 0x10419000000600000000000000000000000000000000000000000000000000000000000000000000010000000001e0021000000000038000000000000000000dc82e00000000000040 s (pushDone s q x st) := by
  unfold pushDone
  split
  ·
    refine Keeps.ite ?_ ?_
    ·
      refine Keeps.trans ?_ (State_finish_keeps.mono rfl)
      exact Keeps.refl
    ·
      exact Keeps.refl
  ·
    refine Keeps.ite ?_ ?_
    ·
      split
      ·
        refine Keeps.trans ?_ (handlerEnd_keeps.mono rfl)
        exact Keeps.refl
      ·
        exact Keeps.refl
    ·
      exact Keeps.refl
  ·
    exact Keeps.refl
  ·
    refine Keeps.trans ?_ (dispatchDone_keeps.mono rfl)
    exact Keeps.refl
  ·
    refine Keeps.ite ?_ ?_
    ·
      refine Keeps.trans ?_ (State_sendPkt_keeps.mono rfl)
      exact Keeps.refl
    ·
      exact Keeps.refl

theorem resetByCheck_keeps {s : State} {q : Nat} :
    Keeps 0xc104190821c47000140000000000000000000000000000000000000000000000000000000000000000100e0000031e1021000000050038000800000000000000dc82e00000000000040 s (resetByCheck s q) := by
  unfold resetByCheck
  extract_lets -underBinder +onlyGivenNames x0
  try clear_value x0
  extract_lets -underBinder +onlyGivenNames x1
  have h1 : Keeps 0xc104190821c47000140000000000000000000000000000000000000000000000000000000000000000100e0000031e1021000000050038000800000000000000dc82e00000000000040 s x1 := by
    unfold x1
    refine Keeps.trans ?_ (zeroIndices_keeps.mono rfl)
    exact Keeps.refl
  try clear_value x1
  extract_lets -underBinder +onlyGivenNames x2
  try clear_value x2
  extract_lets -underBinder +onlyGivenNames x3
  have h3 : Keeps 0xc104190821c47000140000000000000000000000000000000000000000000000000000000000000000100e0000031e1021000000050038000800000000000000dc82e00000000000040 s x3 := by
    unfold x3
    refine Keeps.trans ?_ (State_finc_keeps (by rfl))
    refine Keeps.trans ?_ (State_setQueue_keeps.mono rfl)
    exact h1
  try clear_value x3
  extract_lets -underBinder +onlyGivenNames x4
  have h4 : Keeps 0xc104190821c47000140000000000000000000000000000000000000000000000000000000000000000100e0000031e1021000000050038000800000000000000dc82e00000000000040 s x4 := by
    unfold x4
    refine Keeps.trans ?_ (Keeps.foldl (fun s5 _ => ?_) _ _)
    ·
      exact h3
    ·
      refine Keeps.trans ?_ (pushDone_keeps.mono rfl)
      exact Keeps.refl
  try clear_value x4
  extract_lets -underBinder +onlyGivenNames x6
  have h6 : Keeps 0xc104190821c47000140000000000000000000000000000000000000000000000000000000000000000100e0000031e1021000000050038000800000000000000dc82e00000000000040 s x6 := by
    unfold x6
    refine Keeps.trans ?_ (grantCredits_keeps.mono rfl)
    exact h4
  try clear_value x6
  extract_lets -underBinder +onlyGivenNames x7
  have h7 : Keeps 0xc104190821c47000140000000000000000000000000000000000000000000000000000000000000000100e0000031e1021000000050038000800000000000000dc82e00000000000040 s x7 := by
    unfold x7
    refine Keeps.trans ?_ (State_setEpQuiet_keeps.mono rfl)
    refine Keeps.trans ?_ (State_finc_keeps (by rfl))
    refine Keeps.trans ?_ (State_fset_keeps (by rfl))
    exact h6
  try clear_value x7
  refine Keeps.trans ?_ (queueFault_keeps.mono rfl)
  refine Keeps.trans ?_ (State_raise_keeps.mono rfl)
  exact h7

theorem State_checkQueue_keeps {s : State} {q : Nat} :
    Keeps 0xc104190821c47000140000000000000000000000000000000000000000000000000000000000000000100e0000031e1021000000050038000800000000000000dc82e00000000000040 s (State.checkQueue s q) := by
  unfold State.checkQueue
  refine Keeps.ite ?_ ?_
  ·
    exact Keeps.refl
  ·
    refine Keeps.trans ?_ (resetByCheck_keeps.mono rfl)
    exact Keeps.refl

theorem State_repeatQueue_keeps {s : State} {q : Nat} :
    Keeps 0xc104190821c47000140000000000000000000000000000000000000000000000000000000000000000100e0000031e1021000000050038000800000000000000dc82e00000000000040 s (State.repeatQueue s q) := by
  unfold State.repeatQueue
  refine Keeps.ite ?_ ?_
  ·
    refine Keeps.trans ?_ (qRewind_keeps.mono rfl)
    refine Keeps.trans ?_ (State_checkQueue_keeps.mono rfl)
    exact Keeps.refl
  ·
    refine Keeps.ite ?_ ?_
    ·
      exact Keeps.refl
    ·
      refine Keeps.trans ?_ (State_setQueue_keeps.mono rfl)
      exact Keeps.refl

theorem commitOps_keeps {s : State} {q : Nat} :
    Keeps 0xc104190821c47000140000000000000000000000000000000000000000000000000000000000000000100e0000031e1021000000050038000800000000000000dc82e00000000000040 s (commitOps s q) := by
  unfold commitOps
  extract_lets -underBinder +onlyGivenNames x0
  have h0 : Keeps 0xc104190821c47000140000000000000000000000000000000000000000000000000000000000000000100e0000031e1021000000050038000800000000000000dc82e00000000000040 s x0 := by
    unfold x0
    refine Keeps.trans ?_ (qMark_keeps.mono rfl)
    refine Keeps.trans ?_ (State_checkQueue_keeps.mono rfl)
    exact Keeps.refl
  try clear_value x0
  refine Keeps.trans ?_ (qRelease_keeps.mono rfl)
  exact h0

theorem corePushRun_keeps {s : State} {c : Nat} {st : Strm} {f : Flight} :
    Keeps 0xc104190821c47000140000000000000000000000000000000000000000000000000000000000000000100e0000031e1021000000050038000800000000004e00dc82e00000000000140 s (corePushRun s c st f) := by
  unfold corePushRun
  extract_lets -underBinder +onlyGivenNames x0
  try clear_value x0
  extract_lets -underBinder +onlyGivenNames x1
  try clear_value x1
  extract_lets -underBinder +onlyGivenNames x2
  try clear_value x2
  extract_lets -underBinder +onlyGivenNames x3
  have h3 : Keeps 0xc104190821c47000140000000000000000000000000000000000000000000000000000000000000000100e0000031e1021000000050038000800000000004e00dc82e00000000000140 s x3 := by
    unfold x3
    refine Keeps.ite ?_ ?_
    ·
      refine Keeps.trans ?_ (State_checkQueue_keeps.mono rfl)
      exact Keeps.refl
    ·
      exact Keeps.refl
  try clear_value x3
  split
  ·
    refine Keeps.trans ?_ (uncorrCore_keeps.mono rfl)
    exact h3
  ·
    extract_lets -underBinder +onlyGivenNames x4
    have h4 : Keeps 0xc104190821c47000140000000000000000000000000000000000000000000000000000000000000000100e0000031e1021000000050038000800000000004e00dc82e00000000000140 s x4 := by
      unfold x4
      refine Keeps.trans ?_ (pushItems_keeps.mono rfl)
      exact h3
    try clear_value x4
    refine Keeps.ite ?_ ?_
    ·
      refine Keeps.trans ?_ (qShow_keeps.mono rfl)
      exact h4
    ·
      exact h4

theorem execCorePush_keeps {c : Fin 1056} {st : Strm} {s : State} :
    OutKeeps 0xc104190821c4f000742000000000000000000000000000000000000000000000000000000000000000100e0000031e1021000000050038000800000000014e01dc82e00000000004940 s (execCorePush c st s) := by
  unfold execCorePush
  refine done_keeps ?_
  refine Keeps.trans ?_ (issue_keeps rfl (fun f0_0 f0_1 f0_2 f0_3 => ?_))
  ·
    exact Keeps.refl
  ·
    refine Keeps.trans ?_ (oneUnit_keeps rfl (fun f1_0 => ?_))
    ·
      exact Keeps.refl
    ·
      refine Keeps.trans ?_ (corePushRun_keeps.mono rfl)
      exact Keeps.refl

theorem execPushTimeout_keeps {q : Fin 256} {s : State} :
    OutKeeps 0x10419000000600000000000000000000000000000000000000000000000000000000000000000000010000000021e0021000000000038000000000000000000dc82e00000000000040 s (execPushTimeout q s) := by
  unfold execPushTimeout
  extract_lets -underBinder +onlyGivenNames x0
  try clear_value x0
  split
  ·
    extract_lets -underBinder +onlyGivenNames x1
    have h1 : Keeps 0x10419000000600000000000000000000000000000000000000000000000000000000000000000000010000000021e0021000000000038000000000000000000dc82e00000000000040 s x1 := by
      unfold x1
      refine Keeps.trans ?_ (State_finc_keeps (by rfl))
      refine Keeps.trans ?_ (State_setQueue_keeps.mono rfl)
      exact Keeps.refl
    try clear_value x1
    refine done_keeps ?_
    refine Keeps.trans ?_ (pushDone_keeps.mono rfl)
    exact h1
  ·
    refine done_keeps ?_
    exact Keeps.refl

theorem execStalledPushAccept_keeps {q : Fin 256} {s : State} :
    OutKeeps 0xc104190821c47000140000000000000000000000000000000000000000000000000000000000000000100e0000031e1021000000050038000800000000000000dc82e00000000000040 s (execStalledPushAccept q s) := by
  unfold execStalledPushAccept
  refine OutKeeps.ite ?_ ?_
  ·
    refine done_keeps ?_
    refine Keeps.trans ?_ (acceptStalled_keeps.mono rfl)
    refine Keeps.trans ?_ (State_checkQueue_keeps.mono rfl)
    exact Keeps.refl
  ·
    refine done_keeps ?_
    exact Keeps.refl

theorem indexOp_keeps {s : State} {f : Flight} :
    Keeps 0xc104190821c47000140000000000000000000000000000000000000000000000000000000000000000100e0000031e1021000000050038000800000000000000dc82e00000000000040 s (indexOp s f) := by
  unfold indexOp
  extract_lets -underBinder +onlyGivenNames x0
  try clear_value x0
  refine Keeps.ite ?_ ?_
  ·
    extract_lets -underBinder +onlyGivenNames x1
    have h1 : Keeps 0xc104190821c47000140000000000000000000000000000000000000000000000000000000000000000100e0000031e1021000000050038000800000000000000dc82e00000000000040 s x1 := by
      unfold x1
      refine Keeps.trans ?_ (State_checkQueue_keeps.mono rfl)
      exact Keeps.refl
    try clear_value x1
    extract_lets -underBinder +onlyGivenNames x2
    have h2 : Keeps 0xc104190821c47000140000000000000000000000000000000000000000000000000000000000000000100e0000031e1021000000050038000800000000000000dc82e00000000000040 s x2 := by
      unfold x2
      split
      ·
        refine Keeps.trans ?_ (qMark_keeps.mono rfl)
        exact h1
      ·
        refine Keeps.trans ?_ (qRewind_keeps.mono rfl)
        exact h1
      ·
        refine Keeps.trans ?_ (qRelease_keeps.mono rfl)
        exact h1
    try clear_value x2
    refine Keeps.trans ?_ (State_finish_keeps.mono rfl)
    exact h2
  ·
    extract_lets -underBinder +onlyGivenNames x3
    have h3 : Keeps 0xc104190821c47000140000000000000000000000000000000000000000000000000000000000000000100e0000031e1021000000050038000800000000000000dc82e00000000000040 s x3 := by
      unfold x3
      refine Keeps.trans ?_ (State_updFlight_keeps.mono rfl)
      exact Keeps.refl
    try clear_value x3
    refine Keeps.ite ?_ ?_
    ·
      refine Keeps.trans ?_ (qShow_keeps.mono rfl)
      exact h3
    ·
      exact h3

theorem landHead_keeps {s : State} {q : Nat} :
    Keeps 0x10419000000600014000000000000000000000000000000000000000000000000000000000000000010000000001e0021000000000038000000000000000000dc82e00000000000040 s (landHead s q) := by
  unfold landHead
  split
  ·
    exact Keeps.refl
  ·
    extract_lets -underBinder +onlyGivenNames x0
    try clear_value x0
    refine Keeps.ite ?_ ?_
    ·
      exact Keeps.refl
    ·
      extract_lets -underBinder +onlyGivenNames x1
      try clear_value x1
      extract_lets -underBinder +onlyGivenNames x2
      try clear_value x2
      extract_lets -underBinder +onlyGivenNames x3
      try clear_value x3
      extract_lets -underBinder +onlyGivenNames x4
      have h4 : Keeps 0x10419000000600014000000000000000000000000000000000000000000000000000000000000000010000000001e0021000000000038000000000000000000dc82e00000000000040 s x4 := by
        unfold x4
        refine Keeps.trans ?_ (State_dramWrite_keeps.mono rfl)
        exact Keeps.refl
      try clear_value x4
      extract_lets -underBinder +onlyGivenNames x5
      have h5 : Keeps 0x10419000000600014000000000000000000000000000000000000000000000000000000000000000010000000001e0021000000000038000000000000000000dc82e00000000000040 s x5 := by
        unfold x5
        refine Keeps.trans ?_ (upd_badPhys rfl)
        exact h4
      try clear_value x5
      extract_lets -underBinder +onlyGivenNames x6
      try clear_value x6
      extract_lets -underBinder +onlyGivenNames x7
      have h7 : Keeps 0x10419000000600014000000000000000000000000000000000000000000000000000000000000000010000000001e0021000000000038000000000000000000dc82e00000000000040 s x7 := by
        unfold x7
        refine Keeps.trans ?_ (State_setQix_keeps.mono rfl)
        refine Keeps.trans ?_ (State_setQueue_keeps.mono rfl)
        exact h5
      try clear_value x7
      extract_lets -underBinder +onlyGivenNames x8
      have h8 : Keeps 0x10419000000600014000000000000000000000000000000000000000000000000000000000000000010000000001e0021000000000038000000000000000000dc82e00000000000040 s x8 := by
        unfold x8
        refine Keeps.ite ?_ ?_
        ·
          split
          ·
            refine Keeps.trans ?_ (Keeps.foldl (fun s9 _ => ?_) _ _)
            ·
              exact h7
            ·
              refine Keeps.trans ?_ (State_setMarker_keeps.mono rfl)
              exact Keeps.refl
          ·
            exact h7
        ·
          exact h7
      try clear_value x8
      refine Keeps.trans ?_ (pushDone_keeps.mono rfl)
      exact h8

theorem queueCmd_keeps {s : State} {a : Agent} {q : Nat} {w : Word} :
    Keeps 0xc104190821c47000140000000000000000000000000000000000000000000000000000000000000000100e0000031e1021000000050038000800000000000000dc82e00000000000040 s (queueCmd s a q w) := by
  unfold queueCmd
  refine Keeps.ite ?_ ?_
  ·
    refine Keeps.trans ?_ (State_finc_keeps (by rfl))
    exact Keeps.refl
  ·
    extract_lets -underBinder +onlyGivenNames x0
    have h0 : Keeps 0xc104190821c47000140000000000000000000000000000000000000000000000000000000000000000100e0000031e1021000000050038000800000000000000dc82e00000000000040 s x0 := by
      unfold x0
      refine Keeps.trans ?_ (State_checkQueue_keeps.mono rfl)
      exact Keeps.refl
    try clear_value x0
    extract_lets -underBinder +onlyGivenNames x1
    try clear_value x1
    split
    ·
      refine Keeps.trans ?_ (qAdvance_keeps.mono rfl)
      exact h0
    ·
      refine Keeps.trans ?_ (qMark_keeps.mono rfl)
      exact h0
    ·
      refine Keeps.trans ?_ (qRewind_keeps.mono rfl)
      exact h0
    ·
      refine Keeps.trans ?_ (qRelease_keeps.mono rfl)
      exact h0

theorem queueRun_keeps {s : State} {q : Nat} :
    Keeps 0xc104190821c47000140000000000000000000000000000000000000000000000000000000000000000100e0000031e1021000000050038000800000000000000dc82e00000000000040 s (queueRun s q) := by
  unfold queueRun
  extract_lets -underBinder +onlyGivenNames x0
  have h0 : Keeps 0xc104190821c47000140000000000000000000000000000000000000000000000000000000000000000100e0000031e1021000000050038000800000000000000dc82e00000000000040 s x0 := by
    unfold x0
    refine Keeps.trans ?_ (State_fset_keeps (by rfl))
    exact Keeps.refl
  try clear_value x0
  extract_lets -underBinder +onlyGivenNames x1
  try clear_value x1
  extract_lets -underBinder +onlyGivenNames x2
  have h2 : Keeps 0xc104190821c47000140000000000000000000000000000000000000000000000000000000000000000100e0000031e1021000000050038000800000000000000dc82e00000000000040 s x2 := by
    unfold x2
    refine Keeps.trans ?_ (State_setQueue_keeps.mono rfl)
    exact h0
  try clear_value x2
  extract_lets -underBinder +onlyGivenNames x3
  have h3 : Keeps 0xc104190821c47000140000000000000000000000000000000000000000000000000000000000000000100e0000031e1021000000050038000800000000000000dc82e00000000000040 s x3 := by
    unfold x3
    refine Keeps.ite ?_ ?_
    ·
      refine Keeps.trans ?_ (commitOps_keeps.mono rfl)
      exact h2
    ·
      exact h2
  try clear_value x3
  extract_lets -underBinder +onlyGivenNames x4
  have h4 : Keeps 0xc104190821c47000140000000000000000000000000000000000000000000000000000000000000000100e0000031e1021000000050038000800000000000000dc82e00000000000040 s x4 := by
    unfold x4
    refine Keeps.ite ?_ ?_
    ·
      refine Keeps.trans ?_ (qRewind_keeps.mono rfl)
      refine Keeps.trans ?_ (State_checkQueue_keeps.mono rfl)
      exact h3
    ·
      exact h3
  try clear_value x4
  extract_lets -underBinder +onlyGivenNames x5
  have h5 : Keeps 0xc104190821c47000140000000000000000000000000000000000000000000000000000000000000000100e0000031e1021000000050038000800000000000000dc82e00000000000040 s x5 := by
    unfold x5
    refine Keeps.trans ?_ (Keeps.foldl (fun s6 _ => ?_) _ _)
    ·
      exact h4
    ·
      refine Keeps.trans ?_ (qShow_keeps.mono rfl)
      exact Keeps.refl
  try clear_value x5
  extract_lets -underBinder +onlyGivenNames x7
  have h7 : Keeps 0xc104190821c47000140000000000000000000000000000000000000000000000000000000000000000100e0000031e1021000000050038000800000000000000dc82e00000000000040 s x7 := by
    unfold x7
    refine Keeps.trans ?_ (Keeps.foldl (fun s8 _ => ?_) _ _)
    ·
      exact h5
    ·
      refine Keeps.trans ?_ (indexOp_keeps.mono rfl)
      refine Keeps.trans ?_ (qShow_keeps.mono rfl)
      refine Keeps.trans ?_ (State_updFlight_keeps.mono rfl)
      exact Keeps.refl
  try clear_value x7
  refine Keeps.trans ?_ (grantCredits_keeps.mono rfl)
  exact h7

theorem stewardPushWrite_keeps {s : State} {a : Agent} {q : Nat} {w : Word} :
    Keeps 0xc104190821c47000140000000000000000000000000000000000000000000000000000000000000000100e0000031e1021068000050038000800000000004e00dc82e00000000000040 s (stewardPushWrite s a q w) := by
  unfold stewardPushWrite
  split
  ·
    refine Keeps.ite ?_ ?_
    ·
      refine Keeps.trans ?_ (State_outOfRange_keeps.mono rfl)
      exact Keeps.refl
    ·
      extract_lets -underBinder +onlyGivenNames x0
      try clear_value x0
      extract_lets -underBinder +onlyGivenNames x1
      try clear_value x1
      refine Keeps.ite ?_ ?_
      ·
        refine Keeps.trans ?_ (refusePhys_keeps.mono rfl)
        exact Keeps.refl
      ·
        split
        ·
          refine Keeps.trans ?_ (uncorrOther_keeps.mono rfl)
          exact Keeps.refl
        ·
          extract_lets -underBinder +onlyGivenNames x2
          have h2 : Keeps 0xc104190821c47000140000000000000000000000000000000000000000000000000000000000000000100e0000031e1021068000050038000800000000004e00dc82e00000000000040 s x2 := by
            unfold x2
            refine Keeps.ite ?_ ?_
            ·
              refine Keeps.trans ?_ (State_checkQueue_keeps.mono rfl)
              exact Keeps.refl
            ·
              exact Keeps.refl
          try clear_value x2
          refine Keeps.trans ?_ (pushArrive_keeps.mono rfl)
          exact h2
  ·
    refine Keeps.trans ?_ (State_outOfRange_keeps.mono rfl)
    exact Keeps.refl

theorem tryRead_keeps {s : State} {id : Nat} :
    Keeps 0xc104190821c470007c2000000000000000000000000000000000000000000000000000000000000000100e0000031e1021000000050038000800000000014e00dc82e00000000000040 s (tryRead s id) := by
  unfold tryRead
  split
  ·
    exact Keeps.refl
  ·
    extract_lets -underBinder +onlyGivenNames x0
    try clear_value x0
    refine Keeps.ite ?_ ?_
    ·
      refine Keeps.ite ?_ ?_
      ·
        refine Keeps.trans ?_ (qShow_keeps.mono rfl)
        exact Keeps.refl
      ·
        exact Keeps.refl
    ·
      extract_lets -underBinder +onlyGivenNames x1
      have h1 : Keeps 0xc104190821c470007c2000000000000000000000000000000000000000000000000000000000000000100e0000031e1021000000050038000800000000014e00dc82e00000000000040 s x1 := by
        unfold x1
        refine Keeps.trans ?_ (State_checkQueue_keeps.mono rfl)
        exact Keeps.refl
      try clear_value x1
      split
      ·
        refine Keeps.ite ?_ ?_
        ·
          refine Keeps.trans ?_ (doRead_keeps.mono rfl)
          refine Keeps.trans ?_ (State_updFlight_keeps.mono rfl)
          exact h1
        ·
          exact h1
      ·
        exact h1

theorem State_commitQueue_keeps {s : State} {q : Nat} :
    Keeps 0xc104190821c47000140000000000000000000000000000000000000000000000000000000000000000100e0000031e1021000000050038000800000000000000dc82e00000000000040 s (State.commitQueue s q) := by
  unfold State.commitQueue
  refine Keeps.ite ?_ ?_
  ·
    refine Keeps.trans ?_ (commitOps_keeps.mono rfl)
    exact Keeps.refl
  ·
    refine Keeps.ite ?_ ?_
    ·
      exact Keeps.refl
    ·
      refine Keeps.trans ?_ (State_setQueue_keeps.mono rfl)
      exact Keeps.refl

theorem execAdvance_keeps {a : Agent} {q : Fin 256} {w : Word} {s : State} :
    OutKeeps 0xc104190821c47000140000000000000000000000000000000000000000000000000000000000000000100e0000031e1021068100050038000800000000000000dc82e00000000000040 s (execAdvance a q w s) := by
  unfold execAdvance
  refine done_keeps ?_
  refine Keeps.trans ?_ (State_access_keeps rfl (fun f0_0 => ?_))
  ·
    exact Keeps.refl
  ·
    refine Keeps.trans ?_ (queueCmd_keeps.mono rfl)
    exact Keeps.refl

theorem execLand_keeps {q : Fin 256} {s : State} :
    OutKeeps 0xc104190821c47000140000000000000000000000000000000000000000000000000000000000000000100e0000031e1021000000050038000800000000000000dc82e00000000000040 s (execLand q s) := by
  unfold execLand
  refine OutKeeps.ite ?_ ?_
  ·
    refine done_keeps ?_
    refine Keeps.trans ?_ (landHead_keeps.mono rfl)
    refine Keeps.trans ?_ (State_checkQueue_keeps.mono rfl)
    exact Keeps.refl
  ·
    refine done_keeps ?_
    exact Keeps.refl

theorem execMark_keeps {a : Agent} {q : Fin 256} {w : Word} {s : State} :
    OutKeeps 0xc104190821c47000140000000000000000000000000000000000000000000000000000000000000000100e0000031e1021068100050038000800000000000000dc82e00000000000040 s (execMark a q w s) := by
  unfold execMark
  refine done_keeps ?_
  refine Keeps.trans ?_ (State_access_keeps rfl (fun f0_0 => ?_))
  ·
    exact Keeps.refl
  ·
    refine Keeps.trans ?_ (queueCmd_keeps.mono rfl)
    exact Keeps.refl

theorem execQueueMark_keeps {c : Fin 1056} {st : Strm} {s : State} :
    OutKeeps 0xc104190821c4f000742000000000000000000000000000000000000000000000000000000000000000100e0000031e1021000000050038000800000000014001dc82e00000000004840 s (execQueueMark c st s) := by
  unfold execQueueMark
  refine done_keeps ?_
  refine Keeps.trans ?_ (issue_keeps rfl (fun f0_0 f0_1 f0_2 f0_3 => ?_))
  ·
    exact Keeps.refl
  ·
    refine Keeps.trans ?_ (oneUnit_keeps rfl (fun f1_0 => ?_))
    ·
      exact Keeps.refl
    ·
      refine Keeps.trans ?_ (indexOp_keeps.mono rfl)
      exact Keeps.refl

theorem execQueueRead_keeps {c : Fin 1056} {st : Strm} {s : State} :
    OutKeeps 0xc104190821c4f0007c2000000000000000000000000000000000000000000000000000000000000000100e0000031e1021000000050038000800000000014e01dc82e00000000004840 s (execQueueRead c st s) := by
  unfold execQueueRead
  refine done_keeps ?_
  refine Keeps.trans ?_ (issue_keeps rfl (fun f0_0 f0_1 f0_2 f0_3 => ?_))
  ·
    exact Keeps.refl
  ·
    refine Keeps.trans ?_ (oneUnit_keeps rfl (fun f1_0 => ?_))
    ·
      exact Keeps.refl
    ·
      refine Keeps.trans ?_ (tryRead_keeps.mono rfl)
      refine Keeps.trans ?_ (State_updFlight_keeps.mono rfl)
      exact Keeps.refl

theorem execQueueReadSatisfied_keeps {c : Fin 1056} {st : Strm} {s : State} :
    OutKeeps 0xc104190821c470007c2000000000000000000000000000000000000000000000000000000000000000100e0000031e1021000000050038000800000000014e00dc82e00000000000040 s (execQueueReadSatisfied c st s) := by
  unfold execQueueReadSatisfied
  split
  ·
    refine done_keeps ?_
    refine Keeps.trans ?_ (tryRead_keeps.mono rfl)
    exact Keeps.refl
  ·
    refine done_keeps ?_
    exact Keeps.refl

theorem execQueueRelease_keeps {c : Fin 1056} {st : Strm} {s : State} :
    OutKeeps 0xc104190821c4f000742000000000000000000000000000000000000000000000000000000000000000100e0000031e1021000000050038000800000000014001dc82e00000000004840 s (execQueueRelease c st s) := by
  unfold execQueueRelease
  refine done_keeps ?_
  refine Keeps.trans ?_ (issue_keeps rfl (fun f0_0 f0_1 f0_2 f0_3 => ?_))
  ·
    exact Keeps.refl
  ·
    refine Keeps.trans ?_ (oneUnit_keeps rfl (fun f1_0 => ?_))
    ·
      exact Keeps.refl
    ·
      refine Keeps.trans ?_ (indexOp_keeps.mono rfl)
      exact Keeps.refl

theorem execQueueRewind_keeps {c : Fin 1056} {st : Strm} {s : State} :
    OutKeeps 0xc104190821c4f000742000000000000000000000000000000000000000000000000000000000000000100e0000031e1021000000050038000800000000014001dc82e00000000004840 s (execQueueRewind c st s) := by
  unfold execQueueRewind
  refine done_keeps ?_
  refine Keeps.trans ?_ (issue_keeps rfl (fun f0_0 f0_1 f0_2 f0_3 => ?_))
  ·
    exact Keeps.refl
  ·
    refine Keeps.trans ?_ (oneUnit_keeps rfl (fun f1_0 => ?_))
    ·
      exact Keeps.refl
    ·
      refine Keeps.trans ?_ (indexOp_keeps.mono rfl)
      exact Keeps.refl

theorem execRelease_keeps {a : Agent} {q : Fin 256} {w : Word} {s : State} :
    OutKeeps 0xc104190821c47000140000000000000000000000000000000000000000000000000000000000000000100e0000031e1021068100050038000800000000000000dc82e00000000000040 s (execRelease a q w s) := by
  unfold execRelease
  refine done_keeps ?_
  refine Keeps.trans ?_ (State_access_keeps rfl (fun f0_0 => ?_))
  ·
    exact Keeps.refl
  ·
    refine Keeps.trans ?_ (queueCmd_keeps.mono rfl)
    exact Keeps.refl

theorem execRewind_keeps {a : Agent} {q : Fin 256} {w : Word} {s : State} :
    OutKeeps 0xc104190821c47000140000000000000000000000000000000000000000000000000000000000000000100e0000031e1021068100050038000800000000000000dc82e00000000000040 s (execRewind a q w s) := by
  unfold execRewind
  refine done_keeps ?_
  refine Keeps.trans ?_ (State_access_keeps rfl (fun f0_0 => ?_))
  ·
    exact Keeps.refl
  ·
    refine Keeps.trans ?_ (queueCmd_keeps.mono rfl)
    exact Keeps.refl

theorem execStewardPush_keeps {i : Fin 6} {q : Fin 256} {w : Word} {s : State} :
    OutKeeps 0xc104190821c47000140000000000000000000000000000000000000000000000000000000000000000100e0000031e1021068100050038000800000000004e00dc82e00000000000040 s (execStewardPush i q w s) := by
  unfold execStewardPush
  refine done_keeps ?_
  refine Keeps.trans ?_ (State_access_keeps rfl (fun f0_0 => ?_))
  ·
    exact Keeps.refl
  ·
    refine Keeps.trans ?_ (stewardPushWrite_keeps.mono rfl)
    exact Keeps.refl

theorem queueCtrl_keeps {s : State} {q : Nat} {w : Word} :
    Keeps 0xc104190821c47000140000000000000000000000000000000000000000000000000000000000000000100e0000031e1021000000050038000800000000000000dc82e00000000000040 s (queueCtrl s q w) := by
  unfold queueCtrl
  extract_lets -underBinder +onlyGivenNames x0
  try clear_value x0
  extract_lets -underBinder +onlyGivenNames x1
  try clear_value x1
  refine Keeps.ite ?_ ?_
  ·
    exact Keeps.refl
  ·
    refine Keeps.ite ?_ ?_
    ·
      refine Keeps.trans ?_ (badQueueCmd_keeps.mono rfl)
      exact Keeps.refl
    ·
      extract_lets -underBinder +onlyGivenNames x2
      unfold x2
      refine Keeps.ite ?_ ?_
      ·
        refine Keeps.ite ?_ ?_
        ·
          refine Keeps.trans ?_ (badQueueCmd_keeps.mono rfl)
          exact Keeps.refl
        ·
          refine Keeps.ite ?_ ?_
          ·
            refine Keeps.trans ?_ (State_fset_keeps (by rfl))
            refine Keeps.trans ?_ (State_fset_keeps (by rfl))
            exact Keeps.refl
          ·
            refine Keeps.trans ?_ (State_fset_keeps (by rfl))
            exact Keeps.refl
      ·
        refine Keeps.ite ?_ ?_
        ·
          refine Keeps.trans ?_ (badQueueCmd_keeps.mono rfl)
          exact Keeps.refl
        ·
          refine Keeps.ite ?_ ?_
          ·
            extract_lets -underBinder +onlyGivenNames x3
            have h3 : Keeps 0xc104190821c47000140000000000000000000000000000000000000000000000000000000000000000100e0000031e1021000000050038000800000000000000dc82e00000000000040 s x3 := by
              unfold x3
              refine Keeps.ite ?_ ?_
              ·
                refine Keeps.trans ?_ (zeroIndices_keeps.mono rfl)
                refine Keeps.trans ?_ (adoptConfig_keeps.mono rfl)
                exact Keeps.refl
              ·
                refine Keeps.trans ?_ (adoptConfig_keeps.mono rfl)
                exact Keeps.refl
            try clear_value x3
            refine Keeps.trans ?_ (State_fset_keeps (by rfl))
            refine Keeps.trans ?_ (queueRun_keeps.mono rfl)
            exact h3
          ·
            refine Keeps.trans ?_ (State_fset_keeps (by rfl))
            refine Keeps.trans ?_ (zeroIndices_keeps.mono rfl)
            exact Keeps.refl

theorem execQueueClear_keeps {a : Agent} {q : Fin 256} {w : Word} {s : State} :
    OutKeeps 0xc104190821c47000140000000000000000000000000000000000000000000000000000000000000000100e0000031e1021068100050038000800000000000000dc82e00000000000040 s (execQueueClear a q w s) := by
  unfold execQueueClear
  refine done_keeps ?_
  refine Keeps.trans ?_ (State_access_keeps rfl (fun f0_0 => ?_))
  ·
    exact Keeps.refl
  ·
    refine Keeps.trans ?_ (queueCtrl_keeps.mono rfl)
    exact Keeps.refl

theorem execQueueStart_keeps {a : Agent} {q : Fin 256} {w : Word} {s : State} :
    OutKeeps 0xc104190821c47000140000000000000000000000000000000000000000000000000000000000000000100e0000031e1021068100050038000800000000000000dc82e00000000000040 s (execQueueStart a q w s) := by
  unfold execQueueStart
  refine done_keeps ?_
  refine Keeps.trans ?_ (State_access_keeps rfl (fun f0_0 => ?_))
  ·
    exact Keeps.refl
  ·
    refine Keeps.trans ?_ (queueCtrl_keeps.mono rfl)
    exact Keeps.refl

theorem execQueueStop_keeps {a : Agent} {q : Fin 256} {w : Word} {s : State} :
    OutKeeps 0xc104190821c47000140000000000000000000000000000000000000000000000000000000000000000100e0000031e1021068100050038000800000000000000dc82e00000000000040 s (execQueueStop a q w s) := by
  unfold execQueueStop
  refine done_keeps ?_
  refine Keeps.trans ?_ (State_access_keeps rfl (fun f0_0 => ?_))
  ·
    exact Keeps.refl
  ·
    refine Keeps.trans ?_ (queueCtrl_keeps.mono rfl)
    exact Keeps.refl

end Sys2Proof.Laws
end

