-- ==== Sys2Proof/Laws/KeepsLinks.lean ====
section
/-! SUPPORT. What each operation of Sys2Proof/Machine/Links.lean may write (Laws/Keeps.lean says how a mask is read). -/
namespace Sys2Proof.Laws
open Sys2Proof Sys2Proof.Machine

set_option linter.unusedVariables false

theorem badPortCmd_keeps {s : State} {p : Nat} :
    Keeps 0x20400000000000000000000000000000000000000000000000000000000000000 s (badPortCmd s p) := by
  unfold badPortCmd
  refine Keeps.trans ?_ (State_fset_keeps (by rfl))
  refine Keeps.trans ?_ (State_finc_keeps (by rfl))
  exact Keeps.refl

theorem dropRequest_keeps {s : State} {q : Packet} :
    Keeps 0x20000000000000000000000000000000000000000000000000000000000000000000000000000000000000000000000000000000000000000000000000000000000000000000000 s (dropRequest s q) := by
  unfold dropRequest
  refine Keeps.ite ?_ ?_
  ·
    refine Keeps.trans ?_ (upd_requests rfl)
    exact Keeps.refl
  ·
    exact Keeps.refl

theorem fenceCount_keeps {s : State} {p : Nat} {q : Packet} {st : Nat} :
    Keeps 0x2000000000000000000000000000000000000000000000000000000000000000000000000000000000000000000000000000000000000000000000000000000000000000000000 s (fenceCount s p q st) := by
  unfold fenceCount
  refine Keeps.ite ?_ ?_
  ·
    exact Keeps.refl
  ·
    extract_lets -underBinder +onlyGivenNames x0
    try clear_value x0
    extract_lets -underBinder +onlyGivenNames x1
    try clear_value x1
    extract_lets -underBinder +onlyGivenNames x2
    try clear_value x2
    refine Keeps.trans ?_ (upd_openTags rfl)
    exact Keeps.refl

theorem freeFlits_keeps {s : State} {p : Nat} {q : Packet} :
    Keeps 0x10000000000000000000000000000000000000000000000000000000000000000000000000000000000000000000000000000000000000000000000000000000000000000000000 s (freeFlits s p q) := by
  unfold freeFlits
  refine Keeps.trans ?_ (State_setPort_keeps.mono rfl)
  exact Keeps.refl

theorem giveContexts_keeps {s : State} {p : Nat} :
    Keeps 0x800000000000000000000000000000000000000000000000000000000000000 s (giveContexts s p) := by
  unfold giveContexts
  refine Keeps.ite ?_ ?_
  ·
    extract_lets -underBinder +onlyGivenNames x0
    try clear_value x0
    extract_lets -underBinder +onlyGivenNames x1
    try clear_value x1
    refine Keeps.trans ?_ (Keeps.foldl (fun s2 _ => ?_) _ _)
    ·
      exact Keeps.refl
    ·
      refine Keeps.trans ?_ (State_fset_keeps (by rfl))
      exact Keeps.refl
  ·
    refine Keeps.ite ?_ ?_
    ·
      refine Keeps.trans ?_ (State_fset_keeps (by rfl))
      exact Keeps.refl
    ·
      exact Keeps.refl

theorem makeCascade_keeps {s : State} {p : Nat} :
    Keeps 0x400000000000000000000000000000000000000000000000000000000000000 s (makeCascade s p) := by
  unfold makeCascade
  refine Keeps.trans ?_ (State_fset_keeps (by rfl))
  exact Keeps.refl

theorem setRoute_keeps {s : State} {id : Nat} {e : Nat × Bool} :
    Keeps 0x280000000000000000000000000000000000000000000000000000000000000000000000000000000000000000000000000000000000000000000000000000000000000000000000 s (setRoute s id e) := by
  unfold setRoute
  extract_lets -underBinder +onlyGivenNames x0
  try clear_value x0
  extract_lets -underBinder +onlyGivenNames x1
  have h1 : Keeps 0x280000000000000000000000000000000000000000000000000000000000000000000000000000000000000000000000000000000000000000000000000000000000000000000000 s x1 := by
    unfold x1
    refine Keeps.trans ?_ (upd_routes rfl)
    exact Keeps.refl
  try clear_value x1
  split
  ·
    refine Keeps.ite ?_ ?_
    ·
      refine Keeps.trans ?_ (upd_routeChange rfl)
      exact h1
    ·
      exact h1
  ·
    exact h1

theorem startPort_keeps {s : State} {p : Nat} :
    Keeps 0x8000000000000000000000000000000000000000000000000000000000000000000000000000000000400000000000000000000000000000000000000000000000000000000000000 s (startPort s p) := by
  unfold startPort
  extract_lets -underBinder +onlyGivenNames x0
  have h0 : Keeps 0x8000000000000000000000000000000000000000000000000000000000000000000000000000000000400000000000000000000000000000000000000000000000000000000000000 s x0 := by
    unfold x0
    refine Keeps.trans ?_ (upd_coldPorts rfl)
    exact Keeps.refl
  try clear_value x0
  refine Keeps.ite ?_ ?_
  ·
    refine Keeps.trans ?_ (State_fset_keeps (by rfl))
    exact h0
  ·
    refine Keeps.trans ?_ (State_fset_keeps (by rfl))
    exact h0

theorem badPacket_keeps {s : State} {p : Nat} :
    Keeps 0x11000000000000210000000000000000000000000000000000000000000000000 s (badPacket s p) := by
  unfold badPacket
  refine Keeps.trans ?_ (State_lnkEvt_keeps.mono rfl)
  refine Keeps.trans ?_ (State_finc_keeps (by rfl))
  exact Keeps.refl

theorem routeData_keeps {s : State} {w : Word} :
    Keeps 0x280000000000000000000000000000000000000000000000000000000000000000000000000000000000000000000000000000000000000000000000000000000000000000000000 s (routeData s w) := by
  unfold routeData
  refine Keeps.trans ?_ (setRoute_keeps.mono rfl)
  exact Keeps.refl

theorem execRouteWrite_keeps {a : Agent} {w : Word} {s : State} :
    OutKeeps 0x280000000000000000000000000000000000000000000000000000000000000000000000000000000000000000000210681000000000000000000000000001880000000000000040 s (execRouteWrite a w s) := by
  unfold execRouteWrite
  refine done_keeps ?_
  refine Keeps.trans ?_ (State_access_keeps rfl (fun f0_0 => ?_))
  ·
    exact Keeps.refl
  ·
    refine Keeps.trans ?_ (routeData_keeps.mono rfl)
    exact Keeps.refl

theorem ctrlReadTo_keeps {s : State} {dst : Nat} {off : Nat} :
    Keeps 0x411000000000000000000000000000000000000000000000000000000000000000000000000000010000000000000000000000000000000000000000000001880000000000000040 s (ctrlReadTo s dst off) := by
  unfold ctrlReadTo
  refine Keeps.trans ?_ (State_sendPkt_keeps.mono rfl)
  exact Keeps.refl

theorem ctrlWriteTo_keeps {s : State} {dst : Nat} {off : Nat} {w : Nat} :
    Keeps 0x411000000000000000000000000000000000000000000000000000000000000000000000000000010000000000000000000000000000000000000000000001880000000000000040 s (ctrlWriteTo s dst off w) := by
  unfold ctrlWriteTo
  refine Keeps.trans ?_ (State_sendPkt_keeps.mono rfl)
  exact Keeps.refl

theorem routeAt_keeps {s : State} {dev : Nat} {id : Nat} {e : Nat × Bool} :
    Keeps 0x691000000000000000000000000000000000000000000000000000000000000000000000000000010000000000000000000000000000000000000000000001880000000000000040 s (routeAt s dev id e) := by
  unfold routeAt
  refine Keeps.ite ?_ ?_
  ·
    refine Keeps.trans ?_ (setRoute_keeps.mono rfl)
    exact Keeps.refl
  ·
    refine Keeps.trans ?_ (ctrlWriteTo_keeps.mono rfl)
    refine Keeps.trans ?_ (ctrlWriteTo_keeps.mono rfl)
    exact Keeps.refl

theorem tellId_keeps {s : State} {p : Nat} {q : Packet} :
    Keeps 0x11000000000000000000000000000000000000000000000000000000000000000000000000000000000000000000000000000000000000000000000000001880000000000000040 s (tellId s p q) := by
  unfold tellId
  refine Keeps.trans ?_ (State_enqueue_keeps.mono rfl)
  exact Keeps.refl

theorem answer_keeps {s : State} {q : Packet} {st : Nat} :
    Keeps 0x411000000000000000000000000000000000000000000000000000000000000000000000000000010000000000000000000000000000000000000000000001880000000000000040 s (answer s q st) := by
  unfold answer
  refine Keeps.trans ?_ (respond_keeps.mono rfl)
  exact Keeps.refl

theorem assignHere_keeps {p : Nat} {s : State} {q : Packet} :
    Keeps 0x191000000000000000000000000000000000000000000000000000000000000000000000000000000000000000000000000000000c00000000000000000001880000000000000040 s (assignHere p s q) := by
  unfold assignHere
  refine Keeps.ite ?_ ?_
  ·
    refine Keeps.trans ?_ (tellId_keeps.mono rfl)
    exact Keeps.refl
  ·
    extract_lets -underBinder +onlyGivenNames x0
    try clear_value x0
    extract_lets -underBinder +onlyGivenNames x1
    have h1 : Keeps 0x191000000000000000000000000000000000000000000000000000000000000000000000000000000000000000000000000000000c00000000000000000001880000000000000040 s x1 := by
      unfold x1
      refine Keeps.trans ?_ (State_fset_keeps (by rfl))
      refine Keeps.trans ?_ (State_fset_keeps (by rfl))
      refine Keeps.trans ?_ (State_fset_keeps (by rfl))
      exact Keeps.refl
    try clear_value x1
    extract_lets -underBinder +onlyGivenNames x2
    have h2 : Keeps 0x191000000000000000000000000000000000000000000000000000000000000000000000000000000000000000000000000000000c00000000000000000001880000000000000040 s x2 := by
      unfold x2
      refine Keeps.trans ?_ (upd_uplink rfl)
      exact h1
    try clear_value x2
    refine Keeps.trans ?_ (upd_routes rfl)
    exact h2

theorem deny_keeps {M : Nat} {s : State} {p : Nat} {q : Packet} {f : Fld} {st : Nat} (hM : Within 0x411000000000000000000000000000000000000000000000000000000000000000000000000000010000000000000000000000000000000000000000000001880000000000000040 M) (hr : M.testBit f.reg.idx = true) :
    Keeps M s (deny s p q f st) := by
  unfold deny
  extract_lets -underBinder +onlyGivenNames x0
  have h0 : Keeps M s x0 := by
    unfold x0
    refine Keeps.trans ?_ (State_finc_keeps hr)
    exact Keeps.refl
  try clear_value x0
  refine Keeps.ite ?_ ?_
  ·
    refine Keeps.trans ?_ (answer_keeps.mono (Within.via hM rfl))
    exact h0
  ·
    exact h0

theorem discAssign_keeps {s : State} {d : Nat} {p : Nat} {slot : Nat} :
    Keeps 0x2e91000000000000000000000000000000000000000000000000000000000000000000000000000010000000000000000000000006000000000000000000001880000000000000040 s (discAssign s d p slot) := by
  unfold discAssign
  extract_lets -underBinder +onlyGivenNames x0
  try clear_value x0
  extract_lets -underBinder +onlyGivenNames x1
  have h1 : Keeps 0x2e91000000000000000000000000000000000000000000000000000000000000000000000000000010000000000000000000000006000000000000000000001880000000000000040 s x1 := by
    unfold x1
    refine Keeps.trans ?_ (State_fset_keeps (by rfl))
    refine Keeps.trans ?_ (State_setBit_keeps (by rfl))
    exact Keeps.refl
  try clear_value x1
  extract_lets -underBinder +onlyGivenNames x2
  have h2 : Keeps 0x2e91000000000000000000000000000000000000000000000000000000000000000000000000000010000000000000000000000006000000000000000000001880000000000000040 s x2 := by
    unfold x2
    refine Keeps.trans ?_ (upd_discTodo_discLinks rfl rfl)
    exact h1
  try clear_value x2
  extract_lets -underBinder +onlyGivenNames x3
  have h3 : Keeps 0x2e91000000000000000000000000000000000000000000000000000000000000000000000000000010000000000000000000000006000000000000000000001880000000000000040 s x3 := by
    unfold x3
    refine Keeps.trans ?_ (Keeps.foldl (fun s4 _ => ?_) _ _)
    ·
      exact h2
    ·
      refine Keeps.trans ?_ (routeAt_keeps.mono rfl)
      exact Keeps.refl
  try clear_value x3
  split
  ·
    refine Keeps.trans ?_ (State_enqueue_keeps.mono rfl)
    exact h3
  ·
    exact h3

theorem discoverHere_keeps {p : Nat} {s : State} {q : Packet} :
    Keeps 0x11000000000000000000000000000000000000000000000000000000000000000000000000000000400000000000000000000000000000000000000000001880000000000000040 s (discoverHere p s q) := by
  unfold discoverHere
  extract_lets -underBinder +onlyGivenNames x0
  have h0 : Keeps 0x11000000000000000000000000000000000000000000000000000000000000000000000000000000400000000000000000000000000000000000000000001880000000000000040 s x0 := by
    unfold x0
    refine Keeps.ite ?_ ?_
    ·
      refine Keeps.trans ?_ (makeCascade_keeps.mono rfl)
      exact Keeps.refl
    ·
      exact Keeps.refl
  try clear_value x0
  refine Keeps.trans ?_ (tellId_keeps.mono rfl)
  exact h0

theorem fenceDrop_keeps {s : State} {id : Nat} :
    Keeps 0xc100090821c47000140000000000000000000000000000000000000000000000000000000000000000000e000000000021000000050008000800000000000000d880000000000000040 s (fenceDrop s id) := by
  unfold fenceDrop
  extract_lets -underBinder +onlyGivenNames x0
  have h0 : Keeps 0xc100090821c47000140000000000000000000000000000000000000000000000000000000000000000000e000000000021000000050008000800000000000000d880000000000000040 s x0 := by
    unfold x0
    refine Keeps.trans ?_ (State_raise_keeps.mono rfl)
    refine Keeps.trans ?_ (State_finc_keeps (by rfl))
    exact Keeps.refl
  try clear_value x0
  refine Keeps.ite ?_ ?_
  ·
    extract_lets -underBinder +onlyGivenNames x1
    try clear_value x1
    extract_lets -underBinder +onlyGivenNames x2
    have h2 : Keeps 0xc100090821c47000140000000000000000000000000000000000000000000000000000000000000000000e000000000021000000050008000800000000000000d880000000000000040 s x2 := by
      unfold x2
      refine Keeps.trans ?_ (State_errRec_keeps.mono rfl)
      exact h0
    try clear_value x2
    split
    ·
      refine Keeps.trans ?_ (State_panelFault_keeps.mono rfl)
      exact h2
    ·
      exact h2
  ·
    extract_lets -underBinder +onlyGivenNames x3
    have h3 : Keeps 0xc100090821c47000140000000000000000000000000000000000000000000000000000000000000000000e000000000021000000050008000800000000000000d880000000000000040 s x3 := by
      unfold x3
      refine Keeps.trans ?_ (State_errRec_keeps.mono rfl)
      exact h0
    try clear_value x3
    refine Keeps.trans ?_ (Keeps.foldl (fun s4 _ => ?_) _ _)
    ·
      exact h3
    ·
      refine Keeps.trans ?_ (State_stepFault_keeps.mono rfl)
      exact Keeps.refl

theorem finishDisc_keeps {s : State} :
    Keeps 0x691000000000000000000000000000000000000000000000000000000000000000000000000000010000000000000000000000002000000000000000000001880000000000000040 s (finishDisc s) := by
  unfold finishDisc
  extract_lets -underBinder +onlyGivenNames x0
  try clear_value x0
  extract_lets -underBinder +onlyGivenNames x1
  have h1 : Keeps 0x691000000000000000000000000000000000000000000000000000000000000000000000000000010000000000000000000000002000000000000000000001880000000000000040 s x1 := by
    unfold x1
    refine Keeps.trans ?_ (Keeps.foldl (fun s2 _ => ?_) _ _)
    ·
      exact Keeps.refl
    ·
      refine Keeps.trans ?_ (Keeps.foldl (fun s3 _ => ?_) _ _)
      ·
        exact Keeps.refl
      ·
        refine Keeps.ite ?_ ?_
        ·
          exact Keeps.refl
        ·
          split
          ·
            refine Keeps.trans ?_ (routeAt_keeps.mono rfl)
            exact Keeps.refl
          ·
            exact Keeps.refl
  try clear_value x1
  refine Keeps.trans ?_ (State_fset_keeps (by rfl))
  exact h1

theorem flushPort_keeps {s : State} {p : Nat} :
    Keeps 0x431000000000000000000000000000000000000000000000000000000000000000000000000000010000000000000000000000000000000000000000000001880000000000000040 s (flushPort s p) := by
  unfold flushPort
  extract_lets -underBinder +onlyGivenNames x0
  try clear_value x0
  extract_lets -underBinder +onlyGivenNames x1
  have h1 : Keeps 0x431000000000000000000000000000000000000000000000000000000000000000000000000000010000000000000000000000000000000000000000000001880000000000000040 s x1 := by
    unfold x1
    refine Keeps.trans ?_ (State_returnTags_keeps.mono rfl)
    refine Keeps.trans ?_ (State_setPort_keeps.mono rfl)
    exact Keeps.refl
  try clear_value x1
  refine Keeps.trans ?_ (Keeps.foldl (fun s2 _ => ?_) _ _)
  ·
    exact h1
  ·
    refine Keeps.trans ?_ (deny_keeps rfl rfl)
    refine Keeps.trans ?_ (dropRequest_keeps.mono rfl)
    exact Keeps.refl

theorem passOn_keeps {s : State} {p : Nat} {q : Packet} :
    Keeps 0x411000000000000000000000000000000000000000000000000000000000000000000000000000010000000000000000000000000000000000000000000001880000000000000040 s (passOn s p q) := by
  unfold passOn
  refine Keeps.ite ?_ ?_
  ·
    refine Keeps.trans ?_ (upd_routeHold rfl)
    exact Keeps.refl
  ·
    split
    ·
      refine Keeps.trans ?_ (State_enqueue_keeps.mono rfl)
      exact Keeps.refl
    ·
      refine Keeps.trans ?_ (deny_keeps rfl rfl)
      exact Keeps.refl

theorem readHere_keeps {s : State} {q : Packet} :
    Keeps 0xc004110000000000140000000000000000000000000000000000000000000000000000000000000000100e000000000021000000040000000800000000004e001880000000000000040 s (readHere s q) := by
  unfold readHere
  extract_lets -underBinder +onlyGivenNames x0
  try clear_value x0
  split
  ·
    rename_i y1_0 y1_1 y1_2 e1
    have h1 := Keeps.of_eq (M := 0xc004110000000000140000000000000000000000000000000000000000000000000000000000000000100e000000000021000000040000000800000000004e001880000000000000040) (s := s) e1 (by
      split
      ·
        refine Keeps.trans ?_ (State_physRead_keeps.mono rfl)
        exact Keeps.refl
      ·
        refine Keeps.trans ?_ (State_tensorRead_keeps.mono rfl)
        exact Keeps.refl
      )
    refine Keeps.trans ?_ (respond_keeps.mono rfl)
    exact h1

theorem releaseRoutes_keeps {s : State} :
    Keeps 0x611000000000000000000000000000000000000000000000000000000000000000000000000000010000000000000000000000000000000000000000000001880000000000000040 s (releaseRoutes s) := by
  unfold releaseRoutes
  extract_lets -underBinder +onlyGivenNames x0
  try clear_value x0
  refine Keeps.ite ?_ ?_
  ·
    exact Keeps.refl
  ·
    extract_lets -underBinder +onlyGivenNames x1
    try clear_value x1
    extract_lets -underBinder +onlyGivenNames x2
    try clear_value x2
    extract_lets -underBinder +onlyGivenNames x3
    have h3 : Keeps 0x611000000000000000000000000000000000000000000000000000000000000000000000000000010000000000000000000000000000000000000000000001880000000000000040 s x3 := by
      unfold x3
      refine Keeps.trans ?_ (upd_routeChange_routeHold rfl rfl)
      exact Keeps.refl
    try clear_value x3
    refine Keeps.trans ?_ (Keeps.foldl (fun s4 _ => ?_) _ _)
    ·
      exact h3
    ·
      refine Keeps.trans ?_ (passOn_keeps.mono rfl)
      exact Keeps.refl

theorem writeHere_keeps {p : Nat} {s : State} {q : Packet} :
    Keeps 0x1041b0821c470007c20000000000000000000000000000000000000000000000000000000000000001100000000000021000000010000000800000000014200d880000000000000040 s (writeHere p s q) := by
  unfold writeHere
  split
  ·
    rename_i y0_0 y0_1 e0
    have h0 := Keeps.of_eq (M := 0x1041b0821c470007c20000000000000000000000000000000000000000000000000000000000000001100000000000021000000010000000800000000014200d880000000000000040) (s := s) e0 (by
      split
      ·
        refine Keeps.trans ?_ (State_physWrite_keeps.mono rfl)
        exact Keeps.refl
      ·
        refine Keeps.ite1 ?_ ?_
        ·
          refine Keeps.mk1 ?_
          exact Keeps.refl
        ·
          refine Keeps.trans ?_ (State_tensorWrite_keeps.mono rfl)
          exact Keeps.refl
      )
    extract_lets -underBinder +onlyGivenNames x1
    have h1 : Keeps 0x1041b0821c470007c20000000000000000000000000000000000000000000000000000000000000001100000000000021000000010000000800000000014200d880000000000000040 s x1 := by
      unfold x1
      refine Keeps.trans ?_ (fenceCount_keeps.mono rfl)
      exact h0
    try clear_value x1
    refine Keeps.ite ?_ ?_
    ·
      refine Keeps.trans ?_ (answer_keeps.mono rfl)
      exact h1
    ·
      refine Keeps.ite ?_ ?_
      ·
        exact h1
      ·
        refine Keeps.trans ?_ (badPacket_keeps.mono rfl)
        exact h1

theorem applySet_keeps {s : State} {h : Nat × Packet} :
    Keeps 0xc1000b0821c47000140000000000000000000000000000000000000000000000000000000000000000000e000000000021000000050038000800000000000000d882e00000000000040 s (applySet s h) := by
  unfold applySet
  extract_lets -underBinder +onlyGivenNames x0
  try clear_value x0
  extract_lets -underBinder +onlyGivenNames x1
  try clear_value x1
  extract_lets -underBinder +onlyGivenNames x2
  have h2 : Keeps 0xc1000b0821c47000140000000000000000000000000000000000000000000000000000000000000000000e000000000021000000050038000800000000000000d882e00000000000040 s x2 := by
    unfold x2
    refine Keeps.ite ?_ ?_
    ·
      refine Keeps.trans ?_ (upd_openTags rfl)
      exact Keeps.refl
    ·
      exact Keeps.refl
  try clear_value x2
  refine Keeps.ite ?_ ?_
  ·
    refine Keeps.trans ?_ (fenceDrop_keeps.mono rfl)
    exact h2
  ·
    refine Keeps.ite ?_ ?_
    ·
      refine Keeps.trans ?_ (State_raise_keeps.mono rfl)
      refine Keeps.trans ?_ (State_finc_keeps (by rfl))
      exact h2
    ·
      refine Keeps.ite ?_ ?_
      ·
        refine Keeps.trans ?_ (State_raise_keeps.mono rfl)
        refine Keeps.trans ?_ (State_finc_keeps (by rfl))
        exact h2
      ·
        refine Keeps.trans ?_ (State_setId_keeps.mono rfl)
        exact h2

theorem discNext_keeps {s : State} :
    Keeps 0x16b1000000000000000000000000000000000000000000000000000000000000000000000000000010000000000000000000000002000000000000000000001880000000000000040 s (discNext s) := by
  unfold discNext
  split
  ·
    refine Keeps.trans ?_ (finishDisc_keeps.mono rfl)
    exact Keeps.refl
  ·
    refine Keeps.ite ?_ ?_
    ·
      refine Keeps.trans ?_ (State_enqueue_keeps.mono rfl)
      refine Keeps.trans ?_ (upd_discAsked rfl)
      exact Keeps.refl
    ·
      extract_lets -underBinder +onlyGivenNames x0
      try clear_value x0
      refine Keeps.trans ?_ (ctrlReadTo_keeps.mono rfl)
      refine Keeps.trans ?_ (upd_requests_discAsked rfl rfl)
      exact Keeps.refl

theorem discSkip_keeps {s : State} :
    Keeps 0x1eb1000000000000000000000000000000000000000000000000000000000000000000000000000010000000000000000000000002000000000000000000001880000000000000040 s (discSkip s) := by
  unfold discSkip
  refine Keeps.trans ?_ (discNext_keeps.mono rfl)
  refine Keeps.trans ?_ (upd_discTodo_discAsked rfl rfl)
  exact Keeps.refl

theorem discStatus_keeps {s : State} {d : Nat} {p : Nat} {st : Nat} {w : Nat} :
    Keeps 0x1eb1000000000000000000000000000000000000000000000000000000000000000000000000000010000000000000000000000002000000000000000000001880000000000000040 s (discStatus s d p st w) := by
  unfold discStatus
  refine Keeps.ite ?_ ?_
  ·
    extract_lets -underBinder +onlyGivenNames x0
    try clear_value x0
    extract_lets -underBinder +onlyGivenNames x1
    have h1 : Keeps 0x1eb1000000000000000000000000000000000000000000000000000000000000000000000000000010000000000000000000000002000000000000000000001880000000000000040 s x1 := by
      unfold x1
      refine Keeps.trans ?_ (routeAt_keeps.mono rfl)
      refine Keeps.trans ?_ (upd_discAsked rfl)
      exact Keeps.refl
    try clear_value x1
    split
    ·
      refine Keeps.trans ?_ (State_enqueue_keeps.mono rfl)
      exact h1
    ·
      refine Keeps.trans ?_ (discSkip_keeps.mono rfl)
      exact h1
  ·
    refine Keeps.trans ?_ (discSkip_keeps.mono rfl)
    exact Keeps.refl

theorem drainSets_keeps {n : Nat} {s : State} {p : Nat} : Keeps 0xc1000f0821c47000140000000000000000000000000000000000000000000000000000000000000000000e000000000021000000050038000800000000000000d882e00000000000040 s (drainSets n s p) := by
  induction n generalizing s with
  | zero => exact Keeps.refl
  | succ n ih =>
    unfold drainSets
    split
    · split
      · exact ((upd_heldSets rfl).trans (applySet_keeps.mono (by rfl))).trans ih
      · exact Keeps.refl
    · exact Keeps.refl

theorem dropSets_keeps {s : State} {p : Nat} :
    Keeps 0xc1000f0821c47000140000000000000000000000000000000000000000000000000000000000000000000e000000000021000000050008000800000000000000d880000000000000040 s (dropSets s p) := by
  unfold dropSets
  extract_lets -underBinder +onlyGivenNames x0
  try clear_value x0
  extract_lets -underBinder +onlyGivenNames x1
  have h1 : Keeps 0xc1000f0821c47000140000000000000000000000000000000000000000000000000000000000000000000e000000000021000000050008000800000000000000d880000000000000040 s x1 := by
    unfold x1
    refine Keeps.trans ?_ (upd_openTags_heldSets rfl rfl)
    exact Keeps.refl
  try clear_value x1
  refine Keeps.trans ?_ (Keeps.foldl (fun s2 _ => ?_) _ _)
  ·
    exact h1
  ·
    refine Keeps.trans ?_ (fenceDrop_keeps.mono rfl)
    exact Keeps.refl

theorem enterFailed_keeps {s : State} {p : Nat} {cause : Nat} :
    Keeps 0xc1043f0821c47000140000000000000000000000000000000000000000000000000000000000000000114e000000000021000000050008000800000000000000d880000000000000040 s (enterFailed s p cause) := by
  unfold enterFailed
  extract_lets -underBinder +onlyGivenNames x0
  have h0 : Keeps 0xc1043f0821c47000140000000000000000000000000000000000000000000000000000000000000000114e000000000021000000050008000800000000000000d880000000000000040 s x0 := by
    unfold x0
    refine Keeps.trans ?_ (State_fset_keeps (by rfl))
    refine Keeps.trans ?_ (State_fset_keeps (by rfl))
    refine Keeps.trans ?_ (State_fset_keeps (by rfl))
    exact Keeps.refl
  try clear_value x0
  extract_lets -underBinder +onlyGivenNames x1
  have h1 : Keeps 0xc1043f0821c47000140000000000000000000000000000000000000000000000000000000000000000114e000000000021000000050008000800000000000000d880000000000000040 s x1 := by
    unfold x1
    refine Keeps.trans ?_ (State_errRec_keeps.mono rfl)
    refine Keeps.trans ?_ (State_raise_keeps.mono rfl)
    refine Keeps.trans ?_ (State_setBit_keeps (by rfl))
    exact h0
  try clear_value x1
  refine Keeps.trans ?_ (flushPort_keeps.mono rfl)
  refine Keeps.trans ?_ (dropSets_keeps.mono rfl)
  exact h1

theorem enterRetraining_keeps {s : State} {p : Nat} :
    Keeps 0xc1000f0821c47000140000000000000000000000000000000000000000000000000000000000000000214e000000000021000000050008000800000000000000d880000000000000040 s (enterRetraining s p) := by
  unfold enterRetraining
  refine Keeps.trans ?_ (dropSets_keeps.mono rfl)
  refine Keeps.trans ?_ (State_lnkEvt_keeps.mono rfl)
  refine Keeps.trans ?_ (State_finc_keeps (by rfl))
  refine Keeps.trans ?_ (State_fset_keeps (by rfl))
  exact Keeps.refl

theorem enterStoppedPort_keeps {s : State} {p : Nat} :
    Keeps 0xc1843f0821c47000140000000000000000000000000000000000000000000000000000000000000000104e000000000021000000050008000800000000000000d880000000000000040 s (enterStoppedPort s p) := by
  unfold enterStoppedPort
  extract_lets -underBinder +onlyGivenNames x0
  have h0 : Keeps 0xc1843f0821c47000140000000000000000000000000000000000000000000000000000000000000000104e000000000021000000050008000800000000000000d880000000000000040 s x0 := by
    unfold x0
    refine Keeps.trans ?_ (upd_coldPorts rfl)
    exact Keeps.refl
  try clear_value x0
  refine Keeps.trans ?_ (flushPort_keeps.mono rfl)
  refine Keeps.trans ?_ (dropSets_keeps.mono rfl)
  refine Keeps.trans ?_ (State_fset_keeps (by rfl))
  refine Keeps.trans ?_ (State_fset_keeps (by rfl))
  exact h0

theorem execPortDrainTimeout_keeps {port : Fin 16} {s : State} :
    OutKeeps 0xc1843f0821c47000140000000000000000000000000000000000000000000000000000000000000000104e000000000021000000050008000800000000000000d880000000000000040 s (execPortDrainTimeout port s) := by
  unfold execPortDrainTimeout
  refine done_keeps ?_
  refine Keeps.ite ?_ ?_
  ·
    refine Keeps.trans ?_ (enterStoppedPort_keeps.mono rfl)
    exact Keeps.refl
  ·
    exact Keeps.refl

theorem execPortDrained_keeps {port : Fin 16} {s : State} :
    OutKeeps 0xc1843f0821c47000140000000000000000000000000000000000000000000000000000000000000000104e000000000021000000050008000800000000000000d880000000000000040 s (execPortDrained port s) := by
  unfold execPortDrained
  refine OutKeeps.ite ?_ ?_
  ·
    refine done_keeps ?_
    refine Keeps.trans ?_ (enterStoppedPort_keeps.mono rfl)
    exact Keeps.refl
  ·
    refine done_keeps ?_
    exact Keeps.refl

theorem execRetrainTimeout_keeps {port : Fin 16} {s : State} :
    OutKeeps 0xc1043f0821c47000140000000000000000000000000000000000000000000000000000000000000000114e000000000021000000050008000800000000000000d880000000000000040 s (execRetrainTimeout port s) := by
  unfold execRetrainTimeout
  refine done_keeps ?_
  refine Keeps.ite ?_ ?_
  ·
    refine Keeps.trans ?_ (enterFailed_keeps.mono rfl)
    exact Keeps.refl
  ·
    exact Keeps.refl

theorem execTrainingTimeout_keeps {port : Fin 16} {s : State} :
    OutKeeps 0xc1043f0821c47000140000000000000000000000000000000000000000000000000000000000000000114e000000000021000000050008000800000000000000d880000000000000040 s (execTrainingTimeout port s) := by
  unfold execTrainingTimeout
  refine done_keeps ?_
  refine Keeps.ite ?_ ?_
  ·
    refine Keeps.trans ?_ (enterFailed_keeps.mono rfl)
    exact Keeps.refl
  ·
    exact Keeps.refl

theorem forward_keeps {s : State} {p : Nat} {fromHost : Bool} {q : Packet} :
    Keeps 0x471000000000000000000000000000000000000000000000000000000000000000000000000000010000000000000000000000000000000000000000000001880000000000000040 s (forward s p fromHost q) := by
  unfold forward
  refine Keeps.ite ?_ ?_
  ·
    refine Keeps.trans ?_ (deny_keeps rfl rfl)
    exact Keeps.refl
  ·
    refine Keeps.ite ?_ ?_
    ·
      refine Keeps.ite ?_ ?_
      ·
        refine Keeps.trans ?_ (upd_reqWait rfl)
        exact Keeps.refl
      ·
        split
        ·
          refine Keeps.trans ?_ (passOn_keeps.mono rfl)
          refine Keeps.trans ?_ (upd_requests rfl)
          exact Keeps.refl
        ·
          refine Keeps.trans ?_ (passOn_keeps.mono rfl)
          exact Keeps.refl
    ·
      refine Keeps.ite ?_ ?_
      ·
        refine Keeps.ite ?_ ?_
        ·
          refine Keeps.trans ?_ (passOn_keeps.mono rfl)
          refine Keeps.trans ?_ (upd_requests rfl)
          exact Keeps.refl
        ·
          exact Keeps.refl
      ·
        refine Keeps.trans ?_ (passOn_keeps.mono rfl)
        exact Keeps.refl

theorem linkFault_keeps {s : State} {p : Nat} :
    Keeps 0xc1843f0821c47000140000000000000000000000000000000000000000000000000000000000000000314e000000000021000000050008000800000000000000d880000000000000040 s (linkFault s p) := by
  unfold linkFault
  refine Keeps.ite ?_ ?_
  ·
    refine Keeps.trans ?_ (enterRetraining_keeps.mono rfl)
    exact Keeps.refl
  ·
    refine Keeps.ite ?_ ?_
    ·
      refine Keeps.trans ?_ (enterStoppedPort_keeps.mono rfl)
      exact Keeps.refl
    ·
      exact Keeps.refl

theorem markerHere_keeps {p : Nat} {s : State} {q : Packet} :
    Keeps 0xc1000f0821c47000140000000000000000000000000000000000000000000000000000000000000000000e000000000021000000050038000800000000000000d882e00000000000040 s (markerHere p s q) := by
  unfold markerHere
  refine Keeps.trans ?_ (drainSets_keeps.mono rfl)
  refine Keeps.trans ?_ (upd_heldSets rfl)
  exact Keeps.refl

theorem nextRequest_keeps {s : State} :
    Keeps 0x471000000000000000000000000000000000000000000000000000000000000000000000000000010000000000000000000000000000000000000000000001880000000000000040 s (nextRequest s) := by
  unfold nextRequest
  split
  ·
    refine Keeps.ite ?_ ?_
    ·
      refine Keeps.trans ?_ (forward_keeps.mono rfl)
      refine Keeps.trans ?_ (upd_reqWait rfl)
      exact Keeps.refl
    ·
      exact Keeps.refl
  ·
    exact Keeps.refl

theorem stopPort_keeps {s : State} {p : Nat} :
    Keeps 0xc1843f0821c47000140000000000000000000000000000000000000000000000000000000000000000104e000000000021000000050008000800000000000000d880000000000000040 s (stopPort s p) := by
  unfold stopPort
  extract_lets -underBinder +onlyGivenNames x0
  try clear_value x0
  refine Keeps.ite ?_ ?_
  ·
    refine Keeps.trans ?_ (State_fset_keeps (by rfl))
    exact Keeps.refl
  ·
    refine Keeps.ite ?_ ?_
    ·
      exact Keeps.refl
    ·
      refine Keeps.trans ?_ (enterStoppedPort_keeps.mono rfl)
      exact Keeps.refl

theorem trainPort_keeps {s : State} {p : Nat} {far : FarEnd} {farWidth : Nat} {good : Nat} :
    Keeps 0xc1043f0821c4700014000000000000000000000000000000000000000000000000000000000000000011ce000000000021000000050008000800000000000000d880000000000000040 s (trainPort s p far farWidth good) := by
  unfold trainPort
  extract_lets -underBinder +onlyGivenNames x0
  try clear_value x0
  extract_lets -underBinder +onlyGivenNames x1
  try clear_value x1
  refine Keeps.ite ?_ ?_
  ·
    refine Keeps.trans ?_ (enterFailed_keeps.mono rfl)
    exact Keeps.refl
  ·
    refine Keeps.ite ?_ ?_
    ·
      refine Keeps.trans ?_ (enterFailed_keeps.mono rfl)
      exact Keeps.refl
    ·
      refine Keeps.ite ?_ ?_
      ·
        refine Keeps.trans ?_ (enterFailed_keeps.mono rfl)
        exact Keeps.refl
      ·
        split
        ·
          refine Keeps.trans ?_ (enterFailed_keeps.mono rfl)
          exact Keeps.refl
        ·
          extract_lets -underBinder +onlyGivenNames x2
          have h2 : Keeps 0xc1043f0821c4700014000000000000000000000000000000000000000000000000000000000000000011ce000000000021000000050008000800000000000000d880000000000000040 s x2 := by
            unfold x2
            refine Keeps.trans ?_ (State_fset_keeps (by rfl))
            refine Keeps.trans ?_ (State_fset_keeps (by rfl))
            refine Keeps.trans ?_ (State_fset_keeps (by rfl))
            exact Keeps.refl
          try clear_value x2
          extract_lets -underBinder +onlyGivenNames x3
          have h3 : Keeps 0xc1043f0821c4700014000000000000000000000000000000000000000000000000000000000000000011ce000000000021000000050008000800000000000000d880000000000000040 s x3 := by
            unfold x3
            refine Keeps.trans ?_ (State_fset_keeps (by rfl))
            refine Keeps.trans ?_ (State_fset_keeps (by rfl))
            exact h2
          try clear_value x3
          refine Keeps.trans ?_ (giveContexts_keeps.mono rfl)
          refine Keeps.trans ?_ (State_setPort_keeps.mono rfl)
          exact h3

theorem answerHere_keeps {s : State} {q : Packet} :
    Keeps 0x1eb1000000000000000000000000000000000000000000000000000000000000000000000000000010000000000000000000000002000000000000000000001880000000000000040 s (answerHere s q) := by
  unfold answerHere
  split
  ·
    refine Keeps.ite ?_ ?_
    ·
      refine Keeps.trans ?_ (discStatus_keeps.mono rfl)
      refine Keeps.trans ?_ (upd_requests rfl)
      exact Keeps.refl
    ·
      exact Keeps.refl
  ·
    exact Keeps.refl

theorem degrade_keeps {s : State} {p : Nat} {lost : List Nat} :
    Keeps 0xc1843f0821c47000140000000000000000000000000000000000000000000000000000000000000000314e000000000021000000050008000800000000000000d880000000000000040 s (degrade s p lost) := by
  unfold degrade
  extract_lets -underBinder +onlyGivenNames x0
  try clear_value x0
  extract_lets -underBinder +onlyGivenNames x1
  try clear_value x1
  extract_lets -underBinder +onlyGivenNames x2
  try clear_value x2
  extract_lets -underBinder +onlyGivenNames x3
  try clear_value x3
  extract_lets -underBinder +onlyGivenNames x4
  have h4 : Keeps 0xc1843f0821c47000140000000000000000000000000000000000000000000000000000000000000000314e000000000021000000050008000800000000000000d880000000000000040 s x4 := by
    unfold x4
    refine Keeps.trans ?_ (State_fset_keeps (by rfl))
    exact Keeps.refl
  try clear_value x4
  refine Keeps.ite ?_ ?_
  ·
    exact h4
  ·
    split
    ·
      extract_lets -underBinder +onlyGivenNames x5
      have h5 : Keeps 0xc1843f0821c47000140000000000000000000000000000000000000000000000000000000000000000314e000000000021000000050008000800000000000000d880000000000000040 s x5 := by
        unfold x5
        refine Keeps.trans ?_ (State_lnkEvt_keeps.mono rfl)
        refine Keeps.trans ?_ (State_finc_keeps (by rfl))
        refine Keeps.trans ?_ (State_fset_keeps (by rfl))
        exact h4
      try clear_value x5
      refine Keeps.trans ?_ (State_setPort_keeps.mono rfl)
      exact h5
    ·
      refine Keeps.ite ?_ ?_
      ·
        refine Keeps.trans ?_ (enterStoppedPort_keeps.mono rfl)
        exact h4
      ·
        refine Keeps.trans ?_ (enterFailed_keeps.mono rfl)
        exact h4

theorem deliver_keeps {M : Nat} {s : State} {p : Nat} {q : Packet} {here : State → Packet → State} (hM : Within 0x471000000000000000000000000000000000000000000000000000000000000000000000000000010400000000000000000000000000000000000000000001880000000000000040 M) (hf3 : ∀ a0 a1, Keeps M a0 (here a0 a1)) :
    Keeps M s (deliver s p q here) := by
  unfold deliver
  extract_lets -underBinder +onlyGivenNames x0
  have h0 : Keeps M s x0 := by
    unfold x0
    refine Keeps.trans ?_ (freeFlits_keeps.mono (Within.via hM rfl))
    exact Keeps.refl
  try clear_value x0
  refine Keeps.ite ?_ ?_
  ·
    exact h0
  ·
    refine Keeps.ite ?_ ?_
    ·
      refine Keeps.trans ?_ (hf3 ..)
      exact h0
    ·
      refine Keeps.trans ?_ (nextRequest_keeps.mono (Within.via hM rfl))
      refine Keeps.trans ?_ (forward_keeps.mono (Within.via hM rfl))
      refine Keeps.ite ?_ ?_
      ·
        refine Keeps.trans ?_ (makeCascade_keeps.mono (Within.via hM rfl))
        exact h0
      ·
        exact h0

theorem discCtrl_keeps {s : State} {a : Agent} {w : Word} :
    Keeps 0x7eb1000000000000000000000000000000000000000000000000000000000000000000000000000030000000000000000000000002000000000000000000001880000000000000040 s (discCtrl s a w) := by
  unfold discCtrl
  refine Keeps.ite ?_ ?_
  ·
    exact Keeps.refl
  ·
    refine Keeps.ite ?_ ?_
    ·
      refine Keeps.trans ?_ (State_finc_keeps (by rfl))
      exact Keeps.refl
    ·
      extract_lets -underBinder +onlyGivenNames x0
      have h0 : Keeps 0x7eb1000000000000000000000000000000000000000000000000000000000000000000000000000030000000000000000000000002000000000000000000001880000000000000040 s x0 := by
        unfold x0
        refine Keeps.trans ?_ (State_fset_keeps (by rfl))
        refine Keeps.trans ?_ (State_fset_keeps (by rfl))
        exact Keeps.refl
      try clear_value x0
      extract_lets -underBinder +onlyGivenNames x1
      try clear_value x1
      refine Keeps.trans ?_ (discNext_keeps.mono rfl)
      refine Keeps.trans ?_ (upd_discTodo_discLinks_discStarted rfl rfl rfl)
      exact h0

theorem dupSlot_keeps {s : State} {d : Nat} {p : Nat} :
    Keeps 0xc1043f0821c47000140000000000000000000000000000000000000000000000000000000000000000114e000000000021000000050208000800000000000000d880000000000000040 s (dupSlot s d p) := by
  unfold dupSlot
  extract_lets -underBinder +onlyGivenNames x0
  have h0 : Keeps 0xc1043f0821c47000140000000000000000000000000000000000000000000000000000000000000000114e000000000021000000050208000800000000000000d880000000000000040 s x0 := by
    unfold x0
    refine Keeps.trans ?_ (State_fset_keeps (by rfl))
    exact Keeps.refl
  try clear_value x0
  refine Keeps.ite ?_ ?_
  ·
    refine Keeps.trans ?_ (enterFailed_keeps.mono rfl)
    exact h0
  ·
    refine Keeps.trans ?_ (ctrlWriteTo_keeps.mono rfl)
    exact h0

theorem execDegradeWindowEnd_keeps {port : Fin 16} {counts : List Nat} {s : State} :
    OutKeeps 0xc1843f0821c47000140000000000000000000000000000000000000000000000000000000000000000354e000000000021000000050008000800000000000000d880000000000000040 s (execDegradeWindowEnd port counts s) := by
  unfold execDegradeWindowEnd
  refine OutKeeps.ite ?_ ?_
  ·
    refine done_keeps ?_
    exact Keeps.refl
  ·
    extract_lets -underBinder +onlyGivenNames x0
    try clear_value x0
    extract_lets -underBinder +onlyGivenNames x1
    have h1 : Keeps 0xc1843f0821c47000140000000000000000000000000000000000000000000000000000000000000000354e000000000021000000050008000800000000000000d880000000000000040 s x1 := by
      unfold x1
      refine Keeps.trans ?_ (State_finc_keeps (by rfl))
      exact Keeps.refl
    try clear_value x1
    extract_lets -underBinder +onlyGivenNames x2
    try clear_value x2
    refine done_keeps ?_
    refine Keeps.ite ?_ ?_
    ·
      exact h1
    ·
      refine Keeps.trans ?_ (degrade_keeps.mono rfl)
      exact h1

theorem execDiscoveryStart_keeps {a : Agent} {w : Word} {s : State} :
    OutKeeps 0x7eb1000000000000000000000000000000000000000000000000000000000000000000000000000030000000000000210681000002000000000000000000001880000000000000040 s (execDiscoveryStart a w s) := by
  unfold execDiscoveryStart
  refine done_keeps ?_
  refine Keeps.trans ?_ (State_access_keeps rfl (fun f0_0 => ?_))
  ·
    exact Keeps.refl
  ·
    refine Keeps.trans ?_ (discCtrl_keeps.mono rfl)
    exact Keeps.refl

theorem execLaneLoss_keeps {port : Fin 16} {lane : Fin 8} {s : State} :
    OutKeeps 0xc1843f0821c47000140000000000000000000000000000000000000000000000000000000000000000314e000000000021000000050008000800000000000000d880000000000000040 s (execLaneLoss port lane s) := by
  unfold execLaneLoss
  refine done_keeps ?_
  refine Keeps.ite ?_ ?_
  ·
    refine Keeps.trans ?_ (degrade_keeps.mono rfl)
    exact Keeps.refl
  ·
    exact Keeps.refl

theorem execLinkSilenceTimeout_keeps {port : Fin 16} {s : State} :
    OutKeeps 0xc1843f0821c47000140000000000000000000000000000000000000000000000000000000000000000314e000000000021000000050008000800000000000000d880000000000000040 s (execLinkSilenceTimeout port s) := by
  unfold execLinkSilenceTimeout
  refine done_keeps ?_
  refine Keeps.trans ?_ (linkFault_keeps.mono rfl)
  exact Keeps.refl

theorem execResponseTimeout_keeps {tag : BitVec 12} {s : State} :
    OutKeeps 0x1ef1000000000000000000000000000000000000000000000000000000000000000000000000000010000000000000000000000002000000000000000000001880000000000000040 s (execResponseTimeout tag s) := by
  unfold execResponseTimeout
  split
  ·
    refine done_keeps ?_
    exact Keeps.refl
  ·
    extract_lets -underBinder +onlyGivenNames x0
    have h0 : Keeps 0x1ef1000000000000000000000000000000000000000000000000000000000000000000000000000010000000000000000000000002000000000000000000001880000000000000040 s x0 := by
      unfold x0
      refine Keeps.trans ?_ (State_finc_keeps (by rfl))
      refine Keeps.trans ?_ (upd_requests rfl)
      exact Keeps.refl
    try clear_value x0
    extract_lets -underBinder +onlyGivenNames x1
    try clear_value x1
    extract_lets -underBinder +onlyGivenNames x2
    have h2 : Keeps 0x1ef1000000000000000000000000000000000000000000000000000000000000000000000000000010000000000000000000000002000000000000000000001880000000000000040 s x2 := by
      unfold x2
      refine Keeps.ite ?_ ?_
      ·
        refine Keeps.trans ?_ (discSkip_keeps.mono rfl)
        exact h0
      ·
        refine Keeps.trans ?_ (State_sendPkt_keeps.mono rfl)
        exact h0
    try clear_value x2
    refine done_keeps ?_
    refine Keeps.trans ?_ (nextRequest_keeps.mono rfl)
    exact h2

theorem execTrainingDone_keeps {port : Fin 16} {far : FarEnd} {farWidth : Nat} {good : BitVec 8} {s : State} :
    OutKeeps 0xc1043f0821c4700014000000000000000000000000000000000000000000000000000000000000000011ce000000000021000000050008000800000000000000d880000000000000040 s (execTrainingDone port far farWidth good s) := by
  unfold execTrainingDone
  refine done_keeps ?_
  refine Keeps.ite ?_ ?_
  ·
    refine Keeps.trans ?_ (trainPort_keeps.mono rfl)
    exact Keeps.refl
  ·
    exact Keeps.refl

theorem portCtrl_keeps {s : State} {a : Agent} {p : Nat} {w : Word} :
    Keeps 0xc1843f0821c47000140000000000000000000000000000000000000000000000000000000000000000304e000000000021000000050008000800000000000000d880000000000000040 s (portCtrl s a p w) := by
  unfold portCtrl
  extract_lets -underBinder +onlyGivenNames x0
  try clear_value x0
  extract_lets -underBinder +onlyGivenNames x1
  try clear_value x1
  extract_lets -underBinder +onlyGivenNames x2
  try clear_value x2
  refine Keeps.ite ?_ ?_
  ·
    exact Keeps.refl
  ·
    refine Keeps.ite ?_ ?_
    ·
      refine Keeps.trans ?_ (badPortCmd_keeps.mono rfl)
      exact Keeps.refl
    ·
      refine Keeps.ite ?_ ?_
      ·
        refine Keeps.ite ?_ ?_
        ·
          refine Keeps.trans ?_ (badPortCmd_keeps.mono rfl)
          exact Keeps.refl
        ·
          refine Keeps.trans ?_ (stopPort_keeps.mono rfl)
          exact Keeps.refl
      ·
        refine Keeps.ite ?_ ?_
        ·
          refine Keeps.trans ?_ (startPort_keeps.mono rfl)
          exact Keeps.refl
        ·
          refine Keeps.trans ?_ (badPortCmd_keeps.mono rfl)
          exact Keeps.refl

theorem arrive_keeps {M : Nat} {s : State} {p : Nat} {q : Packet} {here : State → Packet → State} (hM : Within 0x471000000000000000000000000000000000000000000000000000000000000000000000000000011400000000000210000000000000000000000000000001880000000000000040 M) (hf3 : ∀ a0 a1, Keeps M a0 (here a0 a1)) :
    Keeps M s (arrive s p q here) := by
  unfold arrive
  refine Keeps.ite ?_ ?_
  ·
    exact Keeps.refl
  ·
    refine Keeps.ite ?_ ?_
    ·
      refine Keeps.trans ?_ (badPacket_keeps.mono (Within.via hM rfl))
      refine Keeps.trans ?_ (freeFlits_keeps.mono (Within.via hM rfl))
      exact Keeps.refl
    ·
      refine Keeps.ite ?_ ?_
      ·
        refine Keeps.trans ?_ (freeFlits_keeps.mono (Within.via hM rfl))
        exact Keeps.refl
      ·
        refine Keeps.ite ?_ ?_
        ·
          refine Keeps.trans ?_ (badPacket_keeps.mono (Within.via hM rfl))
          refine Keeps.trans ?_ (freeFlits_keeps.mono (Within.via hM rfl))
          exact Keeps.refl
        ·
          extract_lets -underBinder +onlyGivenNames x0
          try clear_value x0
          extract_lets -underBinder +onlyGivenNames x1
          try clear_value x1
          refine Keeps.ite ?_ ?_
          ·
            refine Keeps.trans ?_ (State_setPort_keeps.mono (Within.via hM rfl))
            exact Keeps.refl
          ·
            refine Keeps.trans ?_ (deliver_keeps (Within.via hM rfl) (fun f2_0 f2_1 => ?_))
            ·
              exact Keeps.refl
            ·
              refine Keeps.trans ?_ (hf3 ..)
              exact Keeps.refl

theorem discoverRspHere_keeps {q : Nat} {s : State} {k : Packet} :
    Keeps 0xc13ebf0821c47000140000000000000000000000000000000000000000000000000000000000000000114e000000000021000000050608000800000000000000d880000000000000040 s (discoverRspHere q s k) := by
  unfold discoverRspHere
  split
  ·
    exact Keeps.refl
  ·
    refine Keeps.ite ?_ ?_
    ·
      exact Keeps.refl
    ·
      extract_lets -underBinder +onlyGivenNames x0
      try clear_value x0
      extract_lets -underBinder +onlyGivenNames x1
      try clear_value x1
      extract_lets -underBinder +onlyGivenNames x2
      try clear_value x2
      extract_lets -underBinder +onlyGivenNames x3
      have h3 : Keeps 0xc13ebf0821c47000140000000000000000000000000000000000000000000000000000000000000000114e000000000021000000050608000800000000000000d880000000000000040 s x3 := by
        unfold x3
        refine Keeps.ite ?_ ?_
        ·
          refine Keeps.ite ?_ ?_
          ·
            refine Keeps.trans ?_ (makeCascade_keeps.mono rfl)
            exact Keeps.refl
          ·
            exact Keeps.refl
        ·
          refine Keeps.ite ?_ ?_
          ·
            refine Keeps.trans ?_ (upd_discLinks rfl)
            exact Keeps.refl
          ·
            refine Keeps.ite ?_ ?_
            ·
              refine Keeps.trans ?_ (dupSlot_keeps.mono rfl)
              exact Keeps.refl
            ·
              refine Keeps.trans ?_ (discAssign_keeps.mono rfl)
              exact Keeps.refl
      try clear_value x3
      extract_lets -underBinder +onlyGivenNames x4
      have h4 : Keeps 0xc13ebf0821c47000140000000000000000000000000000000000000000000000000000000000000000114e000000000021000000050608000800000000000000d880000000000000040 s x4 := by
        unfold x4
        refine Keeps.ite ?_ ?_
        ·
          exact h3
        ·
          refine Keeps.trans ?_ (routeAt_keeps.mono rfl)
          exact h3
      try clear_value x4
      refine Keeps.trans ?_ (discSkip_keeps.mono rfl)
      exact h4

theorem execAssignId_keeps {port : Fin 16} {pkt : Packet} {s : State} :
    OutKeeps 0x5f1000000000000000000000000000000000000000000000000000000000000000000000000000011400000000000210000000000c00000000000000000001880000000000000040 s (execAssignId port pkt s) := by
  unfold execAssignId
  refine done_keeps ?_
  refine Keeps.trans ?_ (arrive_keeps rfl (fun f0_0 f0_1 => ?_))
  ·
    exact Keeps.refl
  ·
    refine Keeps.trans ?_ (assignHere_keeps.mono rfl)
    exact Keeps.refl

theorem execAttn_keeps {port : Fin 16} {pkt : Packet} {s : State} :
    OutKeeps 0x471000000000000000000000000000000000000000000000000000000000000000000000000000011400000000000210000000000000000000000000000001880000000000000040 s (execAttn port pkt s) := by
  unfold execAttn
  refine done_keeps ?_
  refine Keeps.trans ?_ (arrive_keeps rfl (fun f0_0 f0_1 => ?_))
  ·
    exact Keeps.refl
  ·
    exact Keeps.refl

theorem execCompletion_keeps {port : Fin 16} {pkt : Packet} {s : State} :
    OutKeeps 0x1ef1000000000000000000000000000000000000000000000000000000000000000000000000000011400000000000210000000002000000000000000000001880000000000000040 s (execCompletion port pkt s) := by
  unfold execCompletion
  refine done_keeps ?_
  refine Keeps.trans ?_ (arrive_keeps rfl (fun f0_0 f0_1 => ?_))
  ·
    exact Keeps.refl
  ·
    refine Keeps.trans ?_ (answerHere_keeps.mono rfl)
    exact Keeps.refl

theorem execCtrlData_keeps {port : Fin 16} {pkt : Packet} {s : State} :
    OutKeeps 0x1ef1000000000000000000000000000000000000000000000000000000000000000000000000000011400000000000210000000002000000000000000000001880000000000000040 s (execCtrlData port pkt s) := by
  unfold execCtrlData
  refine done_keeps ?_
  refine Keeps.trans ?_ (arrive_keeps rfl (fun f0_0 f0_1 => ?_))
  ·
    exact Keeps.refl
  ·
    refine Keeps.trans ?_ (answerHere_keeps.mono rfl)
    exact Keeps.refl

theorem execDiscover_keeps {port : Fin 16} {pkt : Packet} {s : State} :
    OutKeeps 0x471000000000000000000000000000000000000000000000000000000000000000000000000000011400000000000210000000000000000000000000000001880000000000000040 s (execDiscover port pkt s) := by
  unfold execDiscover
  refine done_keeps ?_
  refine Keeps.trans ?_ (arrive_keeps rfl (fun f0_0 f0_1 => ?_))
  ·
    exact Keeps.refl
  ·
    refine Keeps.trans ?_ (discoverHere_keeps.mono rfl)
    exact Keeps.refl

theorem execDiscoverRsp_keeps {port : Fin 16} {pkt : Packet} {s : State} :
    OutKeeps 0xc13eff0821c47000140000000000000000000000000000000000000000000000000000000000000000114e000000000021000000050608000800000000000000d880000000000000040 s (execDiscoverRsp port pkt s) := by
  unfold execDiscoverRsp
  refine done_keeps ?_
  refine Keeps.trans ?_ (arrive_keeps rfl (fun f0_0 f0_1 => ?_))
  ·
    exact Keeps.refl
  ·
    refine Keeps.trans ?_ (discoverRspHere_keeps.mono rfl)
    exact Keeps.refl

theorem execPacketForward_keeps {port : Fin 16} {pkt : Packet} {s : State} :
    OutKeeps 0x471000000000000000000000000000000000000000000000000000000000000000000000000000011400000000000210000000000000000000000000000001880000000000000040 s (execPacketForward port pkt s) := by
  unfold execPacketForward
  refine done_keeps ?_
  refine Keeps.trans ?_ (arrive_keeps rfl (fun f0_0 f0_1 => ?_))
  ·
    exact Keeps.refl
  ·
    exact Keeps.refl

theorem execPortStart_keeps {a : Agent} {port : Fin 16} {w : Word} {s : State} :
    OutKeeps 0xc1843f0821c47000140000000000000000000000000000000000000000000000000000000000000000304e000000000021068100050008000800000000000000d880000000000000040 s (execPortStart a port w s) := by
  unfold execPortStart
  refine done_keeps ?_
  refine Keeps.trans ?_ (State_access_keeps rfl (fun f0_0 => ?_))
  ·
    exact Keeps.refl
  ·
    refine Keeps.trans ?_ (portCtrl_keeps.mono rfl)
    exact Keeps.refl

theorem execPortStop_keeps {a : Agent} {port : Fin 16} {w : Word} {s : State} :
    OutKeeps 0xc1843f0821c47000140000000000000000000000000000000000000000000000000000000000000000304e000000000021068100050008000800000000000000d880000000000000040 s (execPortStop a port w s) := by
  unfold execPortStop
  refine done_keeps ?_
  refine Keeps.trans ?_ (State_access_keeps rfl (fun f0_0 => ?_))
  ·
    exact Keeps.refl
  ·
    refine Keeps.trans ?_ (portCtrl_keeps.mono rfl)
    exact Keeps.refl

theorem execRead_keeps {port : Fin 16} {pkt : Packet} {s : State} :
    OutKeeps 0xc004710000000000140000000000000000000000000000000000000000000000000000000000000000114e000000000021000000040000000800000000004e001880000000000000040 s (execRead port pkt s) := by
  unfold execRead
  refine done_keeps ?_
  refine Keeps.trans ?_ (arrive_keeps rfl (fun f0_0 f0_1 => ?_))
  ·
    exact Keeps.refl
  ·
    refine Keeps.trans ?_ (readHere_keeps.mono rfl)
    exact Keeps.refl

theorem execReadData_keeps {port : Fin 16} {pkt : Packet} {s : State} :
    OutKeeps 0x1ef1000000000000000000000000000000000000000000000000000000000000000000000000000011400000000000210000000002000000000000000000001880000000000000040 s (execReadData port pkt s) := by
  unfold execReadData
  refine done_keeps ?_
  refine Keeps.trans ?_ (arrive_keeps rfl (fun f0_0 f0_1 => ?_))
  ·
    exact Keeps.refl
  ·
    refine Keeps.trans ?_ (answerHere_keeps.mono rfl)
    exact Keeps.refl

theorem execWriteBulk_keeps {port : Fin 16} {pkt : Packet} {s : State} :
    OutKeeps 0x1047b0821c470007c20000000000000000000000000000000000000000000000000000000000000001140000000000021000000010000000800000000014200d880000000000000040 s (execWriteBulk port pkt s) := by
  unfold execWriteBulk
  refine done_keeps ?_
  refine Keeps.trans ?_ (arrive_keeps rfl (fun f0_0 f0_1 => ?_))
  ·
    exact Keeps.refl
  ·
    refine Keeps.trans ?_ (writeHere_keeps.mono rfl)
    exact Keeps.refl

theorem pushHere_keeps {p : Nat} {s : State} {k : Packet} :
    Keeps 0xc104190821c47000140000000000000000000000000000000000000000000000000000000000000000110e0000031e1021000000050038000800000000000000dc82e00000000000040 s (pushHere p s k) := by
  unfold pushHere
  extract_lets -underBinder +onlyGivenNames x0
  try clear_value x0
  extract_lets -underBinder +onlyGivenNames x1
  try clear_value x1
  extract_lets -underBinder +onlyGivenNames x2
  try clear_value x2
  extract_lets -underBinder +onlyGivenNames x3
  try clear_value x3
  extract_lets -underBinder +onlyGivenNames x4
  try clear_value x4
  extract_lets -underBinder +onlyGivenNames x5
  try clear_value x5
  refine Keeps.ite ?_ ?_
  ·
    refine Keeps.ite ?_ ?_
    ·
      refine Keeps.trans ?_ (answer_keeps.mono rfl)
      exact Keeps.refl
    ·
      refine Keeps.trans ?_ (badPacket_keeps.mono rfl)
      exact Keeps.refl
  ·
    extract_lets -underBinder +onlyGivenNames x6
    have h6 : Keeps 0xc104190821c47000140000000000000000000000000000000000000000000000000000000000000000110e0000031e1021000000050038000800000000000000dc82e00000000000040 s x6 := by
      unfold x6
      refine Keeps.ite ?_ ?_
      ·
        refine Keeps.trans ?_ (State_checkQueue_keeps.mono rfl)
        exact Keeps.refl
      ·
        exact Keeps.refl
    try clear_value x6
    extract_lets -underBinder +onlyGivenNames x7
    try clear_value x7
    extract_lets -underBinder +onlyGivenNames x8
    try clear_value x8
    refine Keeps.ite ?_ ?_
    ·
      refine Keeps.trans ?_ (badPacket_keeps.mono rfl)
      exact h6
    ·
      refine Keeps.ite ?_ ?_
      ·
        refine Keeps.ite ?_ ?_
        ·
          refine Keeps.trans ?_ (badPacket_keeps.mono rfl)
          exact h6
        ·
          extract_lets -underBinder +onlyGivenNames x9
          have h9 : Keeps 0xc104190821c47000140000000000000000000000000000000000000000000000000000000000000000110e0000031e1021000000050038000800000000000000dc82e00000000000040 s x9 := by
            unfold x9
            refine Keeps.trans ?_ (State_setQueue_keeps.mono rfl)
            exact h6
          try clear_value x9
          extract_lets -underBinder +onlyGivenNames x10
          have h10 : Keeps 0xc104190821c47000140000000000000000000000000000000000000000000000000000000000000000110e0000031e1021000000050038000800000000000000dc82e00000000000040 s x10 := by
            unfold x10
            refine Keeps.trans ?_ (grantCredits_keeps.mono rfl)
            refine Keeps.trans ?_ (pushArrive_keeps.mono rfl)
            exact h9
          try clear_value x10
          refine Keeps.ite ?_ ?_
          ·
            refine Keeps.trans ?_ (answer_keeps.mono rfl)
            exact h10
          ·
            exact h10
      ·
        split
        ·
          refine Keeps.trans ?_ (badPacket_keeps.mono rfl)
          exact h6
        ·
          extract_lets -underBinder +onlyGivenNames x11
          have h11 : Keeps 0xc104190821c47000140000000000000000000000000000000000000000000000000000000000000000110e0000031e1021000000050038000800000000000000dc82e00000000000040 s x11 := by
            unfold x11
            refine Keeps.trans ?_ (State_setQueue_keeps.mono rfl)
            exact h6
          try clear_value x11
          refine Keeps.ite ?_ ?_
          ·
            refine Keeps.trans ?_ (answer_keeps.mono rfl)
            exact h11
          ·
            exact h11

theorem orderedHere_keeps {p : Nat} {s : State} {q : Packet} :
    Keeps 0xc1041f0821c470007c2000000000000000000000000000000000000000000000000000000000000000110e0000031e1021000000050038000800000000014200dc82e00000000000040 s (orderedHere p s q) := by
  unfold orderedHere
  split
  ·
    refine Keeps.trans ?_ (writeHere_keeps.mono rfl)
    exact Keeps.refl
  ·
    refine Keeps.trans ?_ (pushHere_keeps.mono rfl)
    exact Keeps.refl
  ·
    refine Keeps.trans ?_ (markerHere_keeps.mono rfl)
    exact Keeps.refl

theorem resume_keeps {n : Nat} {s : State} {p : Nat} : Keeps 0xc1047f0821c470007c2000000000000000000000000000000000000000000000000000000000000000114e0000031e1021000000050038000800000000014200dc82e00000000000040 s (resume n s p) := by
  induction n generalizing s with
  | zero => exact Keeps.refl
  | succ n ih =>
    unfold resume
    split
    · exact Keeps.refl
    · refine Keeps.ite Keeps.refl (Keeps.trans ?_ ih)
      exact (State_setPort_keeps.mono (by rfl)).trans (deliver_keeps (by rfl) fun _ _ => orderedHere_keeps.mono (by rfl))

theorem resumeAll_keeps {s : State} {p : Nat} :
    Keeps 0xc1047f0821c470007c2000000000000000000000000000000000000000000000000000000000000000114e0000031e1021000000050038000800000000014200dc82e00000000000040 s (resumeAll s p) := by
  unfold resumeAll
  refine Keeps.ite ?_ ?_
  ·
    exact Keeps.refl
  ·
    refine Keeps.trans ?_ (State_pump_keeps.mono rfl)
    refine Keeps.trans ?_ (resume_keeps.mono rfl)
    exact Keeps.refl

theorem execFenceSetApply_keeps {port : Fin 16} {s : State} :
    OutKeeps 0xc1047f0821c470007c2000000000000000000000000000000000000000000000000000000000000000114e0000031e1021000000050038000800000000014200dc82e00000000000040 s (execFenceSetApply port s) := by
  unfold execFenceSetApply
  refine done_keeps ?_
  refine Keeps.trans ?_ (resumeAll_keeps.mono rfl)
  refine Keeps.trans ?_ (drainSets_keeps.mono rfl)
  exact Keeps.refl

theorem execMarkerSetPacket_keeps {port : Fin 16} {pkt : Packet} {s : State} :
    OutKeeps 0xc1047f0821c470007c2000000000000000000000000000000000000000000000000000000000000000114e0000031e1021000000050038000800000000014200dc82e00000000000040 s (execMarkerSetPacket port pkt s) := by
  unfold execMarkerSetPacket
  refine done_keeps ?_
  refine Keeps.trans ?_ (resumeAll_keeps.mono rfl)
  refine Keeps.trans ?_ (arrive_keeps rfl (fun f0_0 f0_1 => ?_))
  ·
    exact Keeps.refl
  ·
    refine Keeps.trans ?_ (markerHere_keeps.mono rfl)
    exact Keeps.refl

theorem execQueuePush_keeps {port : Fin 16} {pkt : Packet} {s : State} :
    OutKeeps 0xc1047f0821c470007c2000000000000000000000000000000000000000000000000000000000000000114e0000031e1021000000050038000800000000014200dc82e00000000000040 s (execQueuePush port pkt s) := by
  unfold execQueuePush
  refine done_keeps ?_
  refine Keeps.trans ?_ (resumeAll_keeps.mono rfl)
  refine Keeps.trans ?_ (arrive_keeps rfl (fun f0_0 f0_1 => ?_))
  ·
    exact Keeps.refl
  ·
    refine Keeps.trans ?_ (pushHere_keeps.mono rfl)
    exact Keeps.refl

theorem execRetrainDone_keeps {port : Fin 16} {s : State} :
    OutKeeps 0xc1047f0821c470007c2000000000000000000000000000000000000000000000000000000000000000114e0000031e1021000000050038000800000000014200dc82e00000000000040 s (execRetrainDone port s) := by
  unfold execRetrainDone
  refine OutKeeps.ite ?_ ?_
  ·
    refine done_keeps ?_
    exact Keeps.refl
  ·
    extract_lets -underBinder +onlyGivenNames x0
    try clear_value x0
    extract_lets -underBinder +onlyGivenNames x1
    have h1 : Keeps 0xc1047f0821c470007c2000000000000000000000000000000000000000000000000000000000000000114e0000031e1021000000050038000800000000014200dc82e00000000000040 s x1 := by
      unfold x1
      refine Keeps.trans ?_ (State_pump_keeps.mono rfl)
      refine Keeps.trans ?_ (State_setPort_keeps.mono rfl)
      refine Keeps.trans ?_ (State_raise_keeps.mono rfl)
      refine Keeps.trans ?_ (State_fset_keeps (by rfl))
      exact Keeps.refl
    try clear_value x1
    refine done_keeps ?_
    refine Keeps.trans ?_ (resumeAll_keeps.mono rfl)
    refine Keeps.trans ?_ (State_setPort_keeps.mono rfl)
    exact h1

theorem execWrite_keeps {port : Fin 16} {pkt : Packet} {s : State} :
    OutKeeps 0xc1047f0821c470007c2000000000000000000000000000000000000000000000000000000000000000114e0000031e1021000000050038000800000000014200dc82e00000000000040 s (execWrite port pkt s) := by
  unfold execWrite
  refine done_keeps ?_
  refine Keeps.trans ?_ (resumeAll_keeps.mono rfl)
  refine Keeps.trans ?_ (arrive_keeps rfl (fun f0_0 f0_1 => ?_))
  ·
    exact Keeps.refl
  ·
    refine Keeps.trans ?_ (writeHere_keeps.mono rfl)
    exact Keeps.refl

end Sys2Proof.Laws
end

