-- ==== Sys2Proof/Laws/KeepsAttention.lean ====
section
/-! SUPPORT. What each operation of Sys2Proof/Machine/Attention.lean may write (Laws/Keeps.lean says how a mask is read). -/
namespace Sys2Proof.Laws
open Sys2Proof Sys2Proof.Machine

set_option linter.unusedVariables false

theorem badHandler_keeps {s : State} {c : Nat} :
    Keeps 0xc00000000000000000 s (badHandler s c) := by
  unfold badHandler
  refine Keeps.trans ?_ (State_wr_keeps (by rfl))
  refine Keeps.trans ?_ (State_fincw_keeps (by rfl))
  exact Keeps.refl

theorem claimRead_keeps {s : State} {t : Nat} :
    Keeps 0x200000000000000000000000000000000000000000000000000 s (claimRead s t).1 := by
  unfold claimRead
  extract_lets -underBinder +onlyGivenNames x0
  try clear_value x0
  refine Keeps.ite1 ?_ ?_
  ·
    refine Keeps.mk1 ?_
    exact Keeps.refl
  ·
    refine Keeps.mk1 ?_
    refine Keeps.trans ?_ (State_fset_keeps (by rfl))
    refine Keeps.trans ?_ (State_fset_keeps (by rfl))
    refine Keeps.trans ?_ (State_fset_keeps (by rfl))
    exact Keeps.refl

theorem completeSrc_keeps {s : State} {t : Nat} {n : Nat} :
    Keeps 0x208000000000000000000000000000000000000000000000000 s (completeSrc s t n) := by
  unfold completeSrc
  refine Keeps.ite ?_ ?_
  ·
    refine Keeps.trans ?_ (State_fset_keeps (by rfl))
    exact Keeps.refl
  ·
    refine Keeps.trans ?_ (State_finc_keeps (by rfl))
    exact Keeps.refl

theorem execAttnRelease_keeps {s : State} :
    OutKeeps 0x10000000000000000000000000000000000000000000000000000000000000000000000000000000000000000000000000000000000000000000000000000000000000000000000000000 s (execAttnRelease s) := by
  unfold execAttnRelease
  refine OutKeeps.ite ?_ ?_
  ·
    refine done_keeps ?_
    exact Keeps.refl
  ·
    refine done_keeps ?_
    refine Keeps.trans ?_ (upd_pins rfl)
    exact Keeps.refl

theorem releaseSrcs_keeps {s : State} {t : Nat} :
    Keeps 0x200000000000000000000000000000000000000000000000000 s (releaseSrcs s t) := by
  unfold releaseSrcs
  refine Keeps.trans ?_ (Keeps.foldl (fun s0 _ => ?_) _ _)
  ·
    exact Keeps.refl
  ·
    refine Keeps.trans ?_ (State_fset_keeps (by rfl))
    refine Keeps.trans ?_ (State_fset_keeps (by rfl))
    exact Keeps.refl

theorem clmCtrl_keeps {s : State} {t : Nat} {w : Word} :
    Keeps 0x200000000000000000000000000000000000000000000000000 s (clmCtrl s t w) := by
  unfold clmCtrl
  refine Keeps.ite ?_ ?_
  ·
    refine Keeps.trans ?_ (releaseSrcs_keeps.mono rfl)
    exact Keeps.refl
  ·
    exact Keeps.refl

theorem execClmClaim_keeps {a : Agent} {t : Fin 14} {s : State} :
    OutKeeps 0x400000000000000000000000000000000000000000000000000000000000000000000000000000210681000000000000000000000000001880000000000000040 s (execClmClaim a t s) := by
  unfold execClmClaim
  refine done_keeps ?_
  refine Keeps.trans ?_ (State_readInto_keeps rfl (fun f0_0 => ?_))
  ·
    exact Keeps.refl
  ·
    refine Keeps.trans ?_ (claimRead_keeps.mono rfl)
    exact Keeps.refl

theorem softRaise_keeps {s : State} {c : Nat} {w : Word} :
    Keeps 0x1880000000000000040 s (softRaise s c w) := by
  unfold softRaise
  refine Keeps.trans ?_ (Keeps.foldl (fun s0 _ => ?_) _ _)
  ·
    exact Keeps.refl
  ·
    refine Keeps.ite ?_ ?_
    ·
      refine Keeps.trans ?_ (State_raiseVec_keeps.mono rfl)
      exact Keeps.refl
    ·
      exact Keeps.refl

theorem execClmComplete_keeps {a : Agent} {t : Fin 14} {w : Word} {s : State} :
    OutKeeps 0x218681000000000000000000000000001880000000000000040 s (execClmComplete a t w s) := by
  unfold execClmComplete
  refine done_keeps ?_
  refine Keeps.trans ?_ (State_access_keeps rfl (fun f0_0 => ?_))
  ·
    exact Keeps.refl
  ·
    refine Keeps.trans ?_ (completeSrc_keeps.mono rfl)
    exact Keeps.refl

theorem execReleaseAll_keeps {a : Agent} {t : Fin 14} {w : Word} {s : State} :
    OutKeeps 0x210681000000000000000000000000001880000000000000040 s (execReleaseAll a t w s) := by
  unfold execReleaseAll
  refine done_keeps ?_
  refine Keeps.trans ?_ (State_access_keeps rfl (fun f0_0 => ?_))
  ·
    exact Keeps.refl
  ·
    refine Keeps.trans ?_ (clmCtrl_keeps.mono rfl)
    exact Keeps.refl

theorem execVecSoft_keeps {a : Agent} {c : Fin 1056} {w : Word} {s : State} :
    OutKeeps 0x210681000000000000000000000000001880000000000000040 s (execVecSoft a c w s) := by
  unfold execVecSoft
  refine done_keeps ?_
  refine Keeps.trans ?_ (State_access_keeps rfl (fun f0_0 => ?_))
  ·
    exact Keeps.refl
  ·
    refine Keeps.trans ?_ (softRaise_keeps.mono rfl)
    exact Keeps.refl

theorem sendAttn_keeps {s : State} :
    Keeps 0x80411000000000000000000000000000000000000000000000000000000000000000000000000000010000000000000000000000000000000000000000000001880000000000000040 s (sendAttn s) := by
  unfold sendAttn
  extract_lets -underBinder +onlyGivenNames x0
  try clear_value x0
  extract_lets -underBinder +onlyGivenNames x1
  try clear_value x1
  extract_lets -underBinder +onlyGivenNames x2
  have h2 : Keeps 0x80411000000000000000000000000000000000000000000000000000000000000000000000000000010000000000000000000000000000000000000000000001880000000000000040 s x2 := by
    unfold x2
    refine Keeps.trans ?_ (Keeps.foldl (fun s3 _ => ?_) _ _)
    ·
      exact Keeps.refl
    ·
      refine Keeps.trans ?_ (State_sendPkt_keeps.mono rfl)
      exact Keeps.refl
  try clear_value x2
  refine Keeps.ite ?_ ?_
  ·
    exact h2
  ·
    refine Keeps.trans ?_ (upd_attnSent rfl)
    exact h2

theorem execAttnMessage_keeps {s : State} :
    OutKeeps 0x80411000000000000000000000000000000000000000000000000000000000000000000000000000010000000000000000000000000000000000000000000001880000000000000040 s (execAttnMessage s) := by
  unfold execAttnMessage
  refine OutKeeps.ite ?_ ?_
  ·
    refine done_keeps ?_
    refine Keeps.trans ?_ (sendAttn_keeps.mono rfl)
    exact Keeps.refl
  ·
    refine done_keeps ?_
    exact Keeps.refl

theorem execAttnMessageRepeat_keeps {s : State} :
    OutKeeps 0x80411000000000000000000000000000000000000000000000000000000000000000000000000000010000000000000000000000000000000000000000000001880000000000000040 s (execAttnMessageRepeat s) := by
  unfold execAttnMessageRepeat
  refine OutKeeps.ite ?_ ?_
  ·
    refine done_keeps ?_
    refine Keeps.trans ?_ (sendAttn_keeps.mono rfl)
    exact Keeps.refl
  ·
    refine done_keeps ?_
    exact Keeps.refl

theorem runHandler_keeps {s : State} {p : Nat} {c : Nat} :
    Keeps 0xc104190821c47000140000000000000000000000000000000000000000000000000000000000000000100e0000031e1021000000050038000800000000004e00dc82e00000000000140 s (runHandler s p c) := by
  unfold runHandler
  extract_lets -underBinder +onlyGivenNames x0
  try clear_value x0
  extract_lets -underBinder +onlyGivenNames x1
  try clear_value x1
  extract_lets -underBinder +onlyGivenNames x2
  try clear_value x2
  refine Keeps.ite ?_ ?_
  ·
    refine Keeps.trans ?_ (State_wr_keeps (by rfl))
    exact Keeps.refl
  ·
    refine Keeps.ite ?_ ?_
    ·
      refine Keeps.trans ?_ (badHandler_keeps.mono rfl)
      exact Keeps.refl
    ·
      refine Keeps.ite ?_ ?_
      ·
        refine Keeps.ite ?_ ?_
        ·
          refine Keeps.trans ?_ (handlerEnd_keeps.mono rfl)
          refine Keeps.trans ?_ (clearMask_keeps.mono rfl)
          exact Keeps.refl
        ·
          refine Keeps.trans ?_ (badHandler_keeps.mono rfl)
          exact Keeps.refl
      ·
        refine Keeps.ite ?_ ?_
        ·
          refine Keeps.ite ?_ ?_
          ·
            refine Keeps.trans ?_ (badHandler_keeps.mono rfl)
            exact Keeps.refl
          ·
            extract_lets -underBinder +onlyGivenNames x3
            try clear_value x3
            extract_lets -underBinder +onlyGivenNames x4
            try clear_value x4
            extract_lets -underBinder +onlyGivenNames x5
            try clear_value x5
            extract_lets -underBinder +onlyGivenNames x6
            have h6 : Keeps 0xc104190821c47000140000000000000000000000000000000000000000000000000000000000000000100e0000031e1021000000050038000800000000004e00dc82e00000000000140 s x6 := by
              unfold x6
              refine Keeps.ite ?_ ?_
              ·
                refine Keeps.trans ?_ (State_checkQueue_keeps.mono rfl)
                exact Keeps.refl
              ·
                exact Keeps.refl
            try clear_value x6
            split
            ·
              refine Keeps.trans ?_ (State_wr_keeps (by rfl))
              refine Keeps.trans ?_ (uncorrCore_keeps.mono rfl)
              exact h6
            ·
              refine Keeps.trans ?_ (pushItems_keeps.mono rfl)
              exact h6
        ·
          refine Keeps.trans ?_ (badHandler_keeps.mono rfl)
          exact Keeps.refl

theorem startHandler_keeps {s : State} {p : Nat} {c : Nat} :
    Keeps 0xc104190821c47000140000000000000000000000000000000000000000000000000000000000000000100e0000031e1021000000050038000800000000004e00dc82e00000000000140 s (startHandler s p c) := by
  unfold startHandler
  extract_lets -underBinder +onlyGivenNames x0
  try clear_value x0
  refine Keeps.ite ?_ ?_
  ·
    exact Keeps.refl
  ·
    extract_lets -underBinder +onlyGivenNames x1
    try clear_value x1
    extract_lets -underBinder +onlyGivenNames x2
    try clear_value x2
    extract_lets -underBinder +onlyGivenNames x3
    have h3 : Keeps 0xc104190821c47000140000000000000000000000000000000000000000000000000000000000000000100e0000031e1021000000050038000800000000004e00dc82e00000000000140 s x3 := by
      unfold x3
      refine Keeps.ite ?_ ?_
      ·
        exact Keeps.refl
      ·
        refine Keeps.trans ?_ (State_setCore_keeps.mono rfl)
        refine Keeps.trans ?_ (upd_fenceUsed rfl)
        exact Keeps.refl
    try clear_value x3
    extract_lets -underBinder +onlyGivenNames x4
    have h4 : Keeps 0xc104190821c47000140000000000000000000000000000000000000000000000000000000000000000100e0000031e1021000000050038000800000000004e00dc82e00000000000140 s x4 := by
      unfold x4
      refine Keeps.trans ?_ (runHandler_keeps.mono rfl)
      exact h3
    try clear_value x4
    refine Keeps.ite ?_ ?_
    ·
      exact h4
    ·
      refine Keeps.trans ?_ (State_dropHandlers_keeps.mono rfl)
      exact h4

theorem execHandlerDispatch_keeps {c : Fin 1056} {s : State} :
    OutKeeps 0xc104190821c47000140000000000000000000000000000000000000000000000000000000000000000100e0000031e1021000000050038000800000000004e00dc82e00000000000140 s (execHandlerDispatch c s) := by
  unfold execHandlerDispatch
  split
  ·
    refine done_keeps ?_
    exact Keeps.refl
  ·
    refine OutKeeps.ite ?_ ?_
    ·
      refine OutKeeps.ite ?_ ?_
      ·
        refine done_keeps ?_
        refine Keeps.trans ?_ (startHandler_keeps.mono rfl)
        exact Keeps.refl
      ·
        refine done_keeps ?_
        exact Keeps.refl
    ·
      split
      ·
        refine done_keeps ?_
        exact Keeps.refl
      ·
        extract_lets -underBinder +onlyGivenNames x0
        have h0 : Keeps 0xc104190821c47000140000000000000000000000000000000000000000000000000000000000000000100e0000031e1021000000050038000800000000004e00dc82e00000000000140 s x0 := by
          unfold x0
          refine Keeps.trans ?_ (State_wake_keeps.mono rfl)
          exact Keeps.refl
        try clear_value x0
        extract_lets -underBinder +onlyGivenNames x1
        have h1 : Keeps 0xc104190821c47000140000000000000000000000000000000000000000000000000000000000000000100e0000031e1021000000050038000800000000004e00dc82e00000000000140 s x1 := by
          unfold x1
          refine Keeps.trans ?_ (State_wr_keeps (by rfl))
          exact h0
        try clear_value x1
        extract_lets -underBinder +onlyGivenNames x2
        have h2 : Keeps 0xc104190821c47000140000000000000000000000000000000000000000000000000000000000000000100e0000031e1021000000050038000800000000004e00dc82e00000000000140 s x2 := by
          unfold x2
          refine Keeps.trans ?_ (State_fincw_keeps (by rfl))
          refine Keeps.trans ?_ (State_fset_keeps (by rfl))
          refine Keeps.trans ?_ (State_fset_keeps (by rfl))
          exact h1
        try clear_value x2
        refine done_keeps ?_
        refine Keeps.trans ?_ (startHandler_keeps.mono rfl)
        exact h2

end Sys2Proof.Laws
end

