-- ==== Sys2Proof/Laws/KeepsKv.lean ====
section
/-! SUPPORT. What each operation of Sys2Proof/Machine/Kv.lean may write (Laws/Keeps.lean says how a mask is read). -/
namespace Sys2Proof.Laws
open Sys2Proof Sys2Proof.Machine

set_option linter.unusedVariables false

theorem addRef_keeps {s : State} {x : Nat × Nat} :
    Keeps 0x20000000000000000000000000000000000000000000000000000000000000000000000000000000000000000000000000000000000000000000000000000000000000000000000000 s (addRef s x) := by
  unfold addRef
  refine Keeps.ite ?_ ?_
  ·
    refine Keeps.trans ?_ (upd_groups rfl)
    exact Keeps.refl
  ·
    extract_lets -underBinder +onlyGivenNames x0
    try clear_value x0
    refine Keeps.trans ?_ (upd_groups rfl)
    exact Keeps.refl

theorem attachEntry_keeps {s : State} {e : TreeEntry} :
    Keeps 0x60000000000000000000000000000000000000000000000000000000000000000000000000000000000000000000000000000000000000000000000000000000000000000000000000 s (attachEntry s e) := by
  unfold attachEntry
  extract_lets -underBinder +onlyGivenNames x0
  try clear_value x0
  extract_lets -underBinder +onlyGivenNames x1
  try clear_value x1
  refine Keeps.trans ?_ (addRef_keeps.mono rfl)
  refine Keeps.trans ?_ (upd_tree rfl)
  exact Keeps.refl

theorem evict_keeps {s : State} {e : TreeEntry} :
    Keeps 0x40000000000000000000000000000000000000000000000000000000000000000000000000000000000000000000000000000000000000000000000200000000000000000000000000 s (evict s e) := by
  unfold evict
  refine Keeps.trans ?_ (State_finc_keeps (by rfl))
  refine Keeps.trans ?_ (upd_tree rfl)
  exact Keeps.refl

theorem putResult_keeps {f : Flight} {m : Nat} {s : State} :
    Keeps 0x200000000000000000000000000000000000000000000000000000000000000000000000000000000000000000000000000000000000000000000000000000000000000 s (putResult f m s) := by
  unfold putResult
  refine Keeps.trans ?_ (Keeps.foldl (fun s0 _ => ?_) _ _)
  ·
    exact Keeps.refl
  ·
    extract_lets -underBinder +onlyGivenNames x1
    try clear_value x1
    extract_lets -underBinder +onlyGivenNames x2
    try clear_value x2
    extract_lets -underBinder +onlyGivenNames x3
    try clear_value x3
    refine Keeps.trans ?_ (State_setCore_keeps.mono rfl)
    exact Keeps.refl

theorem takeGroup_keeps {s : State} {p : Pool} :
    Keeps 0x60000000000000000000000000000000000000000000000000000000000000000000000000000000000000000000000000000000000000000000000200000000000000000000000000 s (takeGroup s p).1 := by
  unfold takeGroup
  extract_lets -underBinder +onlyGivenNames x0
  unfold x0
  split
  ·
    split
    ·
      refine Keeps.mk1 ?_
      refine Keeps.trans ?_ (upd_groups rfl)
      exact Keeps.refl
    ·
      refine Keeps.mk1 ?_
      exact Keeps.refl
  ·
    split
    ·
      split
      ·
        refine Keeps.mk1 ?_
        refine Keeps.trans ?_ (upd_groups rfl)
        refine Keeps.trans ?_ (evict_keeps.mono rfl)
        exact Keeps.refl
      ·
        refine Keeps.mk1 ?_
        refine Keeps.trans ?_ (evict_keeps.mono rfl)
        exact Keeps.refl
    ·
      refine Keeps.mk1 ?_
      exact Keeps.refl

theorem takeGroups_keeps {s : State} {p : Pool} {n : Nat} :
    Keeps 0x60000000000000000000000000000000000000000000000000000000000000000000000000000000000000000000000000000000000000000000000200000000000000000000000000 s (takeGroups s p n).1 := by
  unfold takeGroups
  extract_lets -underBinder +onlyGivenNames x0
  have h0 : Keeps 0x60000000000000000000000000000000000000000000000000000000000000000000000000000000000000000000000000000000000000000000000200000000000000000000000000 s x0.1 := by
    unfold x0
    refine Keeps.trans ?_ (Keeps.foldl1 (fun s1 _ => ?_) _ _)
    ·
      refine Keeps.mk1 ?_
      exact Keeps.refl
    ·
      refine Keeps.ite1 ?_ ?_
      ·
        exact Keeps.refl
      ·
        split
        ·
          rename_i y2_0 y2_1 e2
          have h2 := Keeps.of_eq (M := 0x60000000000000000000000000000000000000000000000000000000000000000000000000000000000000000000000000000000000000000000000200000000000000000000000000) (s := s1.1) e2 (by
            refine Keeps.trans ?_ (takeGroup_keeps.mono rfl)
            exact Keeps.refl
            )
          refine Keeps.mk1 ?_
          exact h2
        ·
          rename_i y3_0 e3
          have h3 := Keeps.of_eq (M := 0x60000000000000000000000000000000000000000000000000000000000000000000000000000000000000000000000000000000000000000000000200000000000000000000000000) (s := s1.1) e3 (by
            refine Keeps.trans ?_ (takeGroup_keeps.mono rfl)
            exact Keeps.refl
            )
          refine Keeps.mk1 ?_
          exact h3
  try clear_value x0
  refine Keeps.ite1 ?_ ?_
  ·
    refine Keeps.mk1 ?_
    exact h0
  ·
    refine Keeps.mk1 ?_
    refine Keeps.trans ?_ (Keeps.foldl (fun s4 _ => ?_) _ _)
    ·
      exact h0
    ·
      refine Keeps.trans ?_ (dropGroup_keeps.mono rfl)
      exact Keeps.refl

theorem appendGroups_keeps {s : State} {p : Pool} {ch : Nat} {len : Nat} {n : Nat} :
    Keeps 0x70000000000000078200000000000000000000000000000000000000000000000000000000000000000000000000000210000000000000000000000200140000000000000000000000 s (appendGroups s p ch len n).1 := by
  unfold appendGroups
  extract_lets -underBinder +onlyGivenNames x0
  try clear_value x0
  extract_lets -underBinder +onlyGivenNames x1
  try clear_value x1
  extract_lets -underBinder +onlyGivenNames x2
  try clear_value x2
  extract_lets -underBinder +onlyGivenNames x3
  try clear_value x3
  split
  ·
    rename_i y4_0 e4
    have h4 := Keeps.of_eq (M := 0x70000000000000078200000000000000000000000000000000000000000000000000000000000000000000000000000210000000000000000000000200140000000000000000000000) (s := s) e4 (by
      refine Keeps.trans ?_ (takeGroups_keeps.mono rfl)
      exact Keeps.refl
      )
    refine Keeps.mk1 ?_
    exact h4
  ·
    rename_i y5_0 y5_1 e5
    have h5 := Keeps.of_eq (M := 0x70000000000000078200000000000000000000000000000000000000000000000000000000000000000000000000000210000000000000000000000200140000000000000000000000) (s := s) e5 (by
      refine Keeps.trans ?_ (takeGroups_keeps.mono rfl)
      exact Keeps.refl
      )
    extract_lets -underBinder +onlyGivenNames x6
    have h6 : Keeps 0x70000000000000078200000000000000000000000000000000000000000000000000000000000000000000000000000210000000000000000000000200140000000000000000000000 s x6.1 := by
      unfold x6
      refine Keeps.trans ?_ (Keeps.foldl1 (fun s7 _ => ?_) _ _)
      ·
        refine Keeps.mk1 ?_
        exact h5
      ·
        extract_lets -underBinder +onlyGivenNames x8
        try clear_value x8
        split
        ·
          rename_i y9_0 y9_1 e9
          have h9 := Keeps.of_eq (M := 0x70000000000000078200000000000000000000000000000000000000000000000000000000000000000000000000000210000000000000000000000200140000000000000000000000) (s := s7.1) e9 (by
            refine Keeps.trans ?_ (State_put_keeps.mono rfl)
            exact Keeps.refl
            )
          extract_lets -underBinder +onlyGivenNames x10
          have h10 : Keeps 0x70000000000000078200000000000000000000000000000000000000000000000000000000000000000000000000000210000000000000000000000200140000000000000000000000 s7.1 x10 := by
            unfold x10
            refine Keeps.trans ?_ (dropGroup_keeps.mono rfl)
            exact h9
          try clear_value x10
          refine Keeps.mk1 ?_
          refine Keeps.trans ?_ (State_setChan_keeps.mono rfl)
          exact h10
    try clear_value x6
    extract_lets -underBinder +onlyGivenNames x11
    try clear_value x11
    refine Keeps.mk1 ?_
    refine Keeps.trans ?_ (State_setChan_keeps.mono rfl)
    exact h6

theorem appendTouch_keeps {s : State} {c : Nat} {f : Flight} :
    Keeps 0x40000000000000000000000000000000000000000000000000000000000000000000000000000000000000000000000000000000000000000000000000000000000 s (appendTouch s c f) := by
  unfold appendTouch
  extract_lets -underBinder +onlyGivenNames x0
  unfold x0
  refine Keeps.trans ?_ (View_touch_keeps.mono rfl)
  refine Keeps.trans ?_ (Keeps.foldl (fun s1 _ => ?_) _ _)
  ·
    refine Keeps.trans ?_ (Keeps.foldl (fun s2 _ => ?_) _ _)
    ·
      exact Keeps.refl
    ·
      refine Keeps.trans ?_ (Keeps.foldl (fun s3 _ => ?_) _ _)
      ·
        exact Keeps.refl
      ·
        extract_lets -underBinder +onlyGivenNames x4
        try clear_value x4
        refine Keeps.trans ?_ (View_touch_keeps.mono rfl)
        exact Keeps.refl
  ·
    refine Keeps.trans ?_ (Keeps.foldl (fun s5 _ => ?_) _ _)
    ·
      exact Keeps.refl
    ·
      extract_lets -underBinder +onlyGivenNames x6
      try clear_value x6
      refine Keeps.trans ?_ (View_touch_keeps.mono rfl)
      exact Keeps.refl

theorem clearChan_keeps {s : State} {ch : Nat} {pool : Nat} :
    Keeps 0x30000000000000010000000000000000000000000000000000000000000000000000000000000000000000000000000000000000000000000000000000000000000000000000000000 s (clearChan s ch pool) := by
  unfold clearChan
  extract_lets -underBinder +onlyGivenNames x0
  have h0 : Keeps 0x30000000000000010000000000000000000000000000000000000000000000000000000000000000000000000000000000000000000000000000000000000000000000000000000000 s x0 := by
    unfold x0
    refine Keeps.trans ?_ (dropChan_keeps.mono rfl)
    exact Keeps.refl
  try clear_value x0
  refine Keeps.trans ?_ (State_setChan_keeps.mono rfl)
  refine Keeps.trans ?_ (upd_badPhys rfl)
  exact h0

theorem collide_keeps {s : State} {k : DWord} :
    Keeps 0x210000000000000000000002200000000000000000000000000 s (collide s k) := by
  unfold collide
  refine Keeps.trans ?_ (State_attFeltEvt_keeps.mono rfl)
  refine Keeps.trans ?_ (State_finc_keeps (by rfl))
  exact Keeps.refl

theorem countKv_keeps {s : State} {p : Pool} {off : Nat} {e : Evs} :
    Keeps 0x210000000000000000000003800000000000000000000000000 s (countKv s p off e) := by
  unfold countKv
  extract_lets -underBinder +onlyGivenNames x0
  try clear_value x0
  extract_lets -underBinder +onlyGivenNames x1
  have h1 : Keeps 0x210000000000000000000003800000000000000000000000000 s x1 := by
    unfold x1
    refine Keeps.trans ?_ (State_finc_keeps (by rfl))
    refine Keeps.trans ?_ (State_finc_keeps (by rfl))
    exact Keeps.refl
  try clear_value x1
  extract_lets -underBinder +onlyGivenNames x2
  have h2 : Keeps 0x210000000000000000000003800000000000000000000000000 s x2 := by
    unfold x2
    refine Keeps.trans ?_ (State_finc_keeps (by rfl))
    refine Keeps.trans ?_ (State_finc_keeps (by rfl))
    exact h1
  try clear_value x2
  refine Keeps.ite ?_ ?_
  ·
    exact h2
  ·
    refine Keeps.trans ?_ (State_attFeltEvt_keeps.mono rfl)
    exact h2

theorem lookupBlock_keeps {p : Pool} {ch : Nat} {epoch : Nat} {toks : List Nat} {x : State × Bool} :
    Keeps 0x70000000000000000000000000000000000000000000000000000000000000000000000000000000000000000000000210000000000000000000002380000000000000000000000000 x.1 (lookupBlock p ch epoch toks x).1 := by
  unfold lookupBlock
  refine Keeps.ite1 ?_ ?_
  ·
    exact Keeps.refl
  ·
    extract_lets -underBinder +onlyGivenNames x0
    have h0 : Keeps 0x70000000000000000000000000000000000000000000000000000000000000000000000000000000000000000000000210000000000000000000002380000000000000000000000000 x.1 x0 := by
      unfold x0
      exact Keeps.refl
    try clear_value x0
    extract_lets -underBinder +onlyGivenNames x1
    try clear_value x1
    extract_lets -underBinder +onlyGivenNames x2
    try clear_value x2
    extract_lets -underBinder +onlyGivenNames x3
    try clear_value x3
    extract_lets -underBinder +onlyGivenNames x4
    try clear_value x4
    extract_lets -underBinder +onlyGivenNames x5
    try clear_value x5
    split
    ·
      refine Keeps.ite1 ?_ ?_
      ·
        refine Keeps.mk1 ?_
        refine Keeps.trans ?_ (State_setChan_keeps.mono rfl)
        refine Keeps.trans ?_ (attachEntry_keeps.mono rfl)
        refine Keeps.trans ?_ (State_finc_keeps (by rfl))
        exact h0
      ·
        refine Keeps.mk1 ?_
        refine Keeps.trans ?_ (State_finc_keeps (by rfl))
        refine Keeps.trans ?_ (collide_keeps.mono rfl)
        exact h0
    ·
      refine Keeps.mk1 ?_
      refine Keeps.trans ?_ (State_finc_keeps (by rfl))
      exact h0

theorem publish_keeps {s : State} {p : Pool} {ch : Nat} {epoch : Nat} :
    Keeps 0x70000000000000000000000000000000000000000000000000000000000000000000000000000000000000000000000210000000000000000000002600000000000000000000000000 s (publish s p ch epoch) := by
  unfold publish
  extract_lets -underBinder +onlyGivenNames x0
  try clear_value x0
  extract_lets -underBinder +onlyGivenNames x1
  try clear_value x1
  extract_lets -underBinder +onlyGivenNames x2
  try clear_value x2
  extract_lets -underBinder +onlyGivenNames x3
  try clear_value x3
  extract_lets -underBinder +onlyGivenNames x4
  try clear_value x4
  extract_lets -underBinder +onlyGivenNames x5
  try clear_value x5
  extract_lets -underBinder +onlyGivenNames x6
  have h6 : Keeps 0x70000000000000000000000000000000000000000000000000000000000000000000000000000000000000000000000210000000000000000000002600000000000000000000000000 s x6 := by
    unfold x6
    refine Keeps.trans ?_ (State_setChan_keeps.mono rfl)
    exact Keeps.refl
  try clear_value x6
  extract_lets -underBinder +onlyGivenNames x7
  try clear_value x7
  extract_lets -underBinder +onlyGivenNames x8
  unfold x8
  split
  ·
    refine Keeps.ite ?_ ?_
    ·
      extract_lets -underBinder +onlyGivenNames x9
      have h9 : Keeps 0x70000000000000000000000000000000000000000000000000000000000000000000000000000000000000000000000210000000000000000000002600000000000000000000000000 s x9 := by
        unfold x9
        refine Keeps.trans ?_ (dropGroup_keeps.mono rfl)
        refine Keeps.trans ?_ (attachEntry_keeps.mono rfl)
        exact h6
      try clear_value x9
      refine Keeps.trans ?_ (State_finc_keeps (by rfl))
      refine Keeps.trans ?_ (State_setChan_keeps.mono rfl)
      exact h9
    ·
      refine Keeps.trans ?_ (collide_keeps.mono rfl)
      exact h6
  ·
    refine Keeps.ite ?_ ?_
    ·
      refine Keeps.trans ?_ (upd_tree rfl)
      exact h6
    ·
      split
      ·
        refine Keeps.trans ?_ (upd_tree rfl)
        refine Keeps.trans ?_ (evict_keeps.mono rfl)
        exact h6
      ·
        refine Keeps.trans ?_ (State_attFeltEvt_keeps.mono rfl)
        refine Keeps.trans ?_ (State_finc_keeps (by rfl))
        exact h6

theorem putKv_keeps {x : State × Nat} {c : Nat} {p : Pool} {off : Nat} {bs : List (List Put × Evs)} :
    Keeps 0x78200000000000000000000000000000000000000000000000000000000000000000000000000000210000000000000000000003800140000000000000000000000 x.1 (putKv x c p off bs).1 := by
  unfold putKv
  split
  ·
    rename_i y0_0 y0_1 e0
    have h0 := Keeps.of_eq (M := 0x78200000000000000000000000000000000000000000000000000000000000000000000000000000210000000000000000000003800140000000000000000000000) (s := x.1) e0 (by
      refine Keeps.trans ?_ (State_corePut_keeps.mono rfl)
      exact Keeps.refl
      )
    refine Keeps.mk1 ?_
    refine Keeps.trans ?_ (countKv_keeps.mono rfl)
    exact h0

theorem appendPos_keeps {c : Nat} {f : Flight} {p : Pool} {ch : Nat} {l : Nat} {b : Nat} {pos : Nat} {k : Nat} {x : State × Nat} :
    Keeps 0x78200000000000000000000000000000000000000000000000000000000000000000000000000000210000000000000000000003800140000000000000000000000 x.1 (appendPos c f p ch l b pos k x).1 := by
  unfold appendPos
  extract_lets -underBinder +onlyGivenNames x0
  have h0 : Keeps 0x78200000000000000000000000000000000000000000000000000000000000000000000000000000210000000000000000000003800140000000000000000000000 x.1 x0 := by
    unfold x0
    exact Keeps.refl
  try clear_value x0
  extract_lets -underBinder +onlyGivenNames x1
  try clear_value x1
  extract_lets -underBinder +onlyGivenNames x2
  try clear_value x2
  extract_lets -underBinder +onlyGivenNames x3
  try clear_value x3
  extract_lets -underBinder +onlyGivenNames x4
  try clear_value x4
  extract_lets -underBinder +onlyGivenNames x5
  try clear_value x5
  extract_lets -underBinder +onlyGivenNames x6
  try clear_value x6
  extract_lets -underBinder +onlyGivenNames x7
  try clear_value x7
  extract_lets -underBinder +onlyGivenNames x8
  try clear_value x8
  extract_lets -underBinder +onlyGivenNames x9
  try clear_value x9
  extract_lets -underBinder +onlyGivenNames x10
  have h10 : Keeps 0x78200000000000000000000000000000000000000000000000000000000000000000000000000000210000000000000000000003800140000000000000000000000 x.1 x10.1 := by
    unfold x10
    refine Keeps.trans ?_ (putKv_keeps.mono rfl)
    exact Keeps.refl
  try clear_value x10
  extract_lets -underBinder +onlyGivenNames x11
  try clear_value x11
  extract_lets -underBinder +onlyGivenNames x12
  have h12 : Keeps 0x78200000000000000000000000000000000000000000000000000000000000000000000000000000210000000000000000000003800140000000000000000000000 x.1 x12.1 := by
    unfold x12
    refine Keeps.trans ?_ (putKv_keeps.mono rfl)
    exact h10
  try clear_value x12
  refine Keeps.ite1 ?_ ?_
  ·
    exact h12
  ·
    extract_lets -underBinder +onlyGivenNames x13
    have h13 : Keeps 0x78200000000000000000000000000000000000000000000000000000000000000000000000000000210000000000000000000003800140000000000000000000000 x.1 x13 := by
      unfold x13
      exact h12
    try clear_value x13
    extract_lets -underBinder +onlyGivenNames x14
    try clear_value x14
    extract_lets -underBinder +onlyGivenNames x15
    try clear_value x15
    refine Keeps.trans ?_ (putKv_keeps.mono rfl)
    exact h12

theorem kvFail_keeps {p : Nat} {c : Nat} {ch : Nat} {st : Nat} {chans : List (Nat × Chan)} {groups : List Group} {s : State} :
    Keeps 0x300090821c470000000000000000000000000000000000000000000000000000000000000000000000000000000000021000000010000000000000200000000d880090000000000040 s (kvFail p c ch st chans groups s) := by
  unfold kvFail
  extract_lets -underBinder +onlyGivenNames x0
  have h0 : Keeps 0x300090821c470000000000000000000000000000000000000000000000000000000000000000000000000000000000021000000010000000000000200000000d880090000000000040 s x0 := by
    unfold x0
    refine Keeps.trans ?_ (upd_chans_groups rfl rfl)
    exact Keeps.refl
  try clear_value x0
  refine Keeps.ite ?_ ?_
  ·
    refine Keeps.trans ?_ (State_writeFail_keeps.mono rfl)
    exact h0
  ·
    refine Keeps.trans ?_ (State_errFolds_keeps.mono rfl)
    refine Keeps.trans ?_ (State_chanError_keeps.mono rfl)
    exact h0

theorem lookupFold_keeps {id : Nat} {c : Nat} {f : Flight} {attach : Bool} {s : State} {b : Nat} :
    Keeps 0x7000000000040001000000000000000000000000000000000000000000000000000000000000000000000000000000021000000000000000000000238004e001880090000000000040 s (lookupFold id c f attach s b).1 := by
  unfold lookupFold
  extract_lets -underBinder +onlyGivenNames x0
  try clear_value x0
  extract_lets -underBinder +onlyGivenNames x1
  try clear_value x1
  extract_lets -underBinder +onlyGivenNames x2
  have h2 : Keeps 0x7000000000040001000000000000000000000000000000000000000000000000000000000000000000000000000000021000000000000000000000238004e001880090000000000040 s x2 := by
    unfold x2
    refine Keeps.trans ?_ (State_reach_keeps.mono rfl)
    exact Keeps.refl
  try clear_value x2
  refine Keeps.ite1 ?_ ?_
  ·
    refine Keeps.mk1 ?_
    refine Keeps.trans ?_ (State_errFolds_keeps.mono rfl)
    exact h2
  ·
    extract_lets -underBinder +onlyGivenNames x3
    have h3 : Keeps 0x7000000000040001000000000000000000000000000000000000000000000000000000000000000000000000000000021000000000000000000000238004e001880090000000000040 s x3 := by
      unfold x3
      refine Keeps.trans ?_ (clearChan_keeps.mono rfl)
      exact h2
    try clear_value x3
    refine Keeps.ite1 ?_ ?_
    ·
      refine Keeps.mk1 ?_
      exact h3
    ·
      extract_lets -underBinder +onlyGivenNames x4
      try clear_value x4
      split
      ·
        rename_i y5_0 y5_1 e5
        have h5 := Keeps.of_eq (M := 0x7000000000040001000000000000000000000000000000000000000000000000000000000000000000000000000000021000000000000000000000238004e001880090000000000040) (s := s) e5 (by
          refine Keeps.trans ?_ (Keeps.foldl1 (fun s6 _ => ?_) _ _)
          ·
            refine Keeps.mk1 ?_
            exact h3
          ·
            refine Keeps.trans ?_ (lookupBlock_keeps.mono rfl)
            exact Keeps.refl
          )
        extract_lets -underBinder +onlyGivenNames x7
        try clear_value x7
        extract_lets -underBinder +onlyGivenNames x8
        try clear_value x8
        refine Keeps.mk1 ?_
        refine Keeps.trans ?_ (State_setChan_keeps.mono rfl)
        exact h5

theorem putLens_keeps {c : Nat} {f : Flight} {ns : List Nat} {s : State} :
    Keeps 0x100090821c470007820000000000000000000000000000000000000000000000000000000000000000000000000000021000000010000000000000000014000d880000000000000040 s (putLens c f ns s) := by
  unfold putLens
  extract_lets -underBinder +onlyGivenNames x0
  try clear_value x0
  split
  ·
    rename_i y1_0 y1_1 e1
    have h1 := Keeps.of_eq (M := 0x100090821c470007820000000000000000000000000000000000000000000000000000000000000000000000000000021000000010000000000000000014000d880000000000000040) (s := s) e1 (by
      refine Keeps.trans ?_ (State_corePut_keeps.mono rfl)
      exact Keeps.refl
      )
    refine Keeps.trans ?_ (State_writeFail_keeps.mono rfl)
    exact h1

theorem runFork_keeps {id : Nat} {c : Nat} {f : Flight} {s : State} :
    Keeps 0x300090821c470007820000000000000000000000000000000000000000000000000000000000000000000000000000021000000010000000000000200014e00d880090000000000040 s (runFork id c f s) := by
  unfold runFork
  extract_lets -underBinder +onlyGivenNames x0
  try clear_value x0
  extract_lets -underBinder +onlyGivenNames x1
  try clear_value x1
  extract_lets -underBinder +onlyGivenNames x2
  try clear_value x2
  extract_lets -underBinder +onlyGivenNames x3
  have h3 : Keeps 0x300090821c470007820000000000000000000000000000000000000000000000000000000000000000000000000000021000000010000000000000200014e00d880090000000000040 s x3 := by
    unfold x3
    refine Keeps.trans ?_ (State_reach_keeps.mono rfl)
    refine Keeps.trans ?_ (State_reach_keeps.mono rfl)
    exact Keeps.refl
  try clear_value x3
  refine Keeps.ite ?_ ?_
  ·
    refine Keeps.trans ?_ (State_errFolds_keeps.mono rfl)
    exact h3
  ·
    split
    ·
      refine Keeps.trans ?_ (State_errFolds_keeps.mono rfl)
      refine Keeps.trans ?_ (State_chanError_keeps.mono rfl)
      refine Keeps.trans ?_ (State_chanBad_keeps.mono rfl)
      exact h3
    ·
      extract_lets -underBinder +onlyGivenNames x4
      try clear_value x4
      extract_lets -underBinder +onlyGivenNames x5
      have h5 : Keeps 0x300090821c470007820000000000000000000000000000000000000000000000000000000000000000000000000000021000000010000000000000200014e00d880090000000000040 s x5 := by
        unfold x5
        refine Keeps.trans ?_ (clearChan_keeps.mono rfl)
        refine Keeps.trans ?_ (State_setChan_keeps.mono rfl)
        exact h3
      try clear_value x5
      split
      ·
        extract_lets -underBinder +onlyGivenNames x6
        have h6 : Keeps 0x300090821c470007820000000000000000000000000000000000000000000000000000000000000000000000000000021000000010000000000000200014e00d880090000000000040 s x6 := by
          unfold x6
          refine Keeps.trans ?_ (Keeps.foldl (fun s7 _ => ?_) _ _)
          ·
            exact h5
          ·
            refine Keeps.trans ?_ (addRef_keeps.mono rfl)
            exact Keeps.refl
        try clear_value x6
        extract_lets -underBinder +onlyGivenNames x8
        try clear_value x8
        extract_lets -underBinder +onlyGivenNames x9
        have h9 : Keeps 0x300090821c470007820000000000000000000000000000000000000000000000000000000000000000000000000000021000000010000000000000200014e00d880090000000000040 s x9 := by
          unfold x9
          refine Keeps.trans ?_ (State_setChan_keeps.mono rfl)
          exact h6
        try clear_value x9
        split
        ·
          rename_i y10_0 y10_1 e10
          have h10 := Keeps.of_eq (M := 0x300090821c470007820000000000000000000000000000000000000000000000000000000000000000000000000000021000000010000000000000200014e00d880090000000000040) (s := s) e10 (by
            refine Keeps.trans ?_ (Keeps.foldl1 (fun s11 _ => ?_) _ _)
            ·
              refine Keeps.mk1 ?_
              exact h9
            ·
              extract_lets -underBinder +onlyGivenNames x12
              have h12 : Keeps 0x300090821c470007820000000000000000000000000000000000000000000000000000000000000000000000000000021000000010000000000000200014e00d880090000000000040 s11.1 x12 := by
                unfold x12
                exact Keeps.refl
              try clear_value x12
              split
              ·
                rename_i y13_0 y13_1 e13
                have h13 := Keeps.of_eq (M := 0x300090821c470007820000000000000000000000000000000000000000000000000000000000000000000000000000021000000010000000000000200014e00d880090000000000040) (s := s11.1) e13 (by
                  refine Keeps.trans ?_ (State_put_keeps.mono rfl)
                  exact h12
                  )
                refine Keeps.mk1 ?_
                exact h13
            )
          refine Keeps.ite ?_ ?_
          ·
            exact h10
          ·
            refine Keeps.trans ?_ (kvFail_keeps.mono rfl)
            exact h10

theorem runLookup_keeps {id : Nat} {c : Nat} {f : Flight} {attach : Bool} {s : State} :
    Keeps 0x700090821c470007820000000000000000000000000000000000000000000000000000000000000000000000000000021000000010000000000000238014e00d880090000000000040 s (runLookup id c f attach s) := by
  unfold runLookup
  extract_lets -underBinder +onlyGivenNames x0
  have h0 : Keeps 0x700090821c470007820000000000000000000000000000000000000000000000000000000000000000000000000000021000000010000000000000238014e00d880090000000000040 s x0.1 := by
    unfold x0
    refine Keeps.trans ?_ (Keeps.foldl1 (fun s1 _ => ?_) _ _)
    ·
      refine Keeps.mk1 ?_
      exact Keeps.refl
    ·
      extract_lets -underBinder +onlyGivenNames x2
      have h2 : Keeps 0x700090821c470007820000000000000000000000000000000000000000000000000000000000000000000000000000021000000010000000000000238014e00d880090000000000040 s1.1 x2.1 := by
        unfold x2
        refine Keeps.trans ?_ (lookupFold_keeps.mono rfl)
        exact Keeps.refl
      try clear_value x2
      refine Keeps.mk1 ?_
      exact h2
  try clear_value x0
  extract_lets -underBinder +onlyGivenNames x3
  have h3 : Keeps 0x700090821c470007820000000000000000000000000000000000000000000000000000000000000000000000000000021000000010000000000000238014e00d880090000000000040 s x3 := by
    unfold x3
    refine Keeps.ite ?_ ?_
    ·
      refine Keeps.trans ?_ (putLens_keeps.mono rfl)
      exact h0
    ·
      exact h0
  try clear_value x3
  refine Keeps.ite ?_ ?_
  ·
    exact h3
  ·
    refine Keeps.trans ?_ (putResult_keeps.mono rfl)
    exact h3

theorem appendFold_keeps {id : Nat} {c : Nat} {f : Flight} {s : State} {b : Nat} :
    Keeps 0x700090821c4700078200000000000000000000000000000000000000000000000000000000000000000000000000000210000000100000000000003e0014e00d880090000000000040 s (appendFold id c f s b) := by
  unfold appendFold
  refine Keeps.ite ?_ ?_
  ·
    exact Keeps.refl
  ·
    extract_lets -underBinder +onlyGivenNames x0
    try clear_value x0
    extract_lets -underBinder +onlyGivenNames x1
    try clear_value x1
    extract_lets -underBinder +onlyGivenNames x2
    try clear_value x2
    extract_lets -underBinder +onlyGivenNames x3
    try clear_value x3
    extract_lets -underBinder +onlyGivenNames x4
    have h4 : Keeps 0x700090821c4700078200000000000000000000000000000000000000000000000000000000000000000000000000000210000000100000000000003e0014e00d880090000000000040 s x4 := by
      unfold x4
      refine Keeps.trans ?_ (State_reach_keeps.mono rfl)
      exact Keeps.refl
    try clear_value x4
    refine Keeps.ite ?_ ?_
    ·
      refine Keeps.trans ?_ (State_errFolds_keeps.mono rfl)
      exact h4
    ·
      extract_lets -underBinder +onlyGivenNames x5
      try clear_value x5
      extract_lets -underBinder +onlyGivenNames x6
      have h6 : Keeps 0x700090821c4700078200000000000000000000000000000000000000000000000000000000000000000000000000000210000000100000000000003e0014e00d880090000000000040 s x6 := by
        unfold x6
        refine Keeps.trans ?_ (State_setChan_keeps.mono rfl)
        exact h4
      try clear_value x6
      extract_lets -underBinder +onlyGivenNames x7
      try clear_value x7
      split
      ·
        refine Keeps.trans ?_ (State_errFolds_keeps.mono rfl)
        refine Keeps.trans ?_ (State_chanBad_keeps.mono rfl)
        exact h6
      ·
        refine Keeps.ite ?_ ?_
        ·
          refine Keeps.trans ?_ (State_errFolds_keeps.mono rfl)
          refine Keeps.trans ?_ (State_chanError_keeps.mono rfl)
          exact h6
        ·
          split
          ·
            rename_i y8_0 e8
            have h8 := Keeps.of_eq (M := 0x700090821c4700078200000000000000000000000000000000000000000000000000000000000000000000000000000210000000100000000000003e0014e00d880090000000000040) (s := s) e8 (by
              refine Keeps.trans ?_ (appendGroups_keeps.mono rfl)
              exact h6
              )
            refine Keeps.trans ?_ (State_errFolds_keeps.mono rfl)
            refine Keeps.trans ?_ (State_chanError_keeps.mono rfl)
            exact h8
          ·
            rename_i y9_0 y9_1 e9
            have h9 := Keeps.of_eq (M := 0x700090821c4700078200000000000000000000000000000000000000000000000000000000000000000000000000000210000000100000000000003e0014e00d880090000000000040) (s := s) e9 (by
              refine Keeps.trans ?_ (appendGroups_keeps.mono rfl)
              exact h6
              )
            split
            ·
              split
              ·
                rename_i y10_0 y10_1 e10
                have h10 := Keeps.of_eq (M := 0x700090821c4700078200000000000000000000000000000000000000000000000000000000000000000000000000000210000000100000000000003e0014e00d880090000000000040) (s := s) e10 (by
                  refine Keeps.trans ?_ (Keeps.foldl1 (fun s11 _ => ?_) _ _)
                  ·
                    refine Keeps.mk1 ?_
                    exact h9
                  ·
                    refine Keeps.trans ?_ (appendPos_keeps.mono rfl)
                    exact Keeps.refl
                  )
                refine Keeps.ite ?_ ?_
                ·
                  refine Keeps.trans ?_ (kvFail_keeps.mono rfl)
                  exact h10
                ·
                  extract_lets -underBinder +onlyGivenNames x12
                  try clear_value x12
                  extract_lets -underBinder +onlyGivenNames x13
                  try clear_value x13
                  extract_lets -underBinder +onlyGivenNames x14
                  try clear_value x14
                  extract_lets -underBinder +onlyGivenNames x15
                  have h15 : Keeps 0x700090821c4700078200000000000000000000000000000000000000000000000000000000000000000000000000000210000000100000000000003e0014e00d880090000000000040 s x15 := by
                    unfold x15
                    refine Keeps.trans ?_ (State_setChan_keeps.mono rfl)
                    exact h10
                  try clear_value x15
                  extract_lets -underBinder +onlyGivenNames x16
                  try clear_value x16
                  refine Keeps.ite ?_ ?_
                  ·
                    exact h15
                  ·
                    refine Keeps.trans ?_ (Keeps.foldl (fun s17 _ => ?_) _ _)
                    ·
                      exact h15
                    ·
                      refine Keeps.trans ?_ (publish_keeps.mono rfl)
                      exact Keeps.refl

theorem execKvAppend_keeps {c : Fin 1056} {st : Strm} {s : State} :
    OutKeeps 0xc704190821c4f0007c2000000000000000000000000000000000000000000000000000000000000000100e0000000000210000000500380008000003e0014e01d882e90000000004940 s (execKvAppend c st s) := by
  unfold execKvAppend
  refine done_keeps ?_
  refine Keeps.trans ?_ (issue_keeps rfl (fun f0_0 f0_1 f0_2 f0_3 => ?_))
  ·
    exact Keeps.refl
  ·
    refine Keeps.trans ?_ (takeAll_keeps rfl (fun f1_0 => ?_))
    ·
      exact Keeps.refl
    ·
      refine Keeps.trans ?_ (Keeps.foldl (fun s2 _ => ?_) _ _)
      ·
        refine Keeps.trans ?_ (appendTouch_keeps.mono rfl)
        exact Keeps.refl
      ·
        refine Keeps.trans ?_ (appendFold_keeps.mono rfl)
        exact Keeps.refl

theorem execKvFork_keeps {c : Fin 1056} {st : Strm} {s : State} :
    OutKeeps 0xc304190821c4f0007c2000000000000000000000000000000000000000000000000000000000000000100e000000000021000000050038000800000200014e01d882e90000000004940 s (execKvFork c st s) := by
  unfold execKvFork
  refine done_keeps ?_
  refine Keeps.trans ?_ (issue_keeps rfl (fun f0_0 f0_1 f0_2 f0_3 => ?_))
  ·
    exact Keeps.refl
  ·
    refine Keeps.trans ?_ (takeAll_keeps rfl (fun f1_0 => ?_))
    ·
      exact Keeps.refl
    ·
      refine Keeps.trans ?_ (runFork_keeps.mono rfl)
      exact Keeps.refl

theorem lookupOp_keeps {k : Nat} {s : State} {c : Nat} {st : Strm} :
    Keeps 0xc704190821c4f0007c2000000000000000000000000000000000000000000000000000000000000000100e000000000021000000050038000800000238014e01d882e90000000004940 s (lookupOp k s c st) := by
  unfold lookupOp
  refine Keeps.trans ?_ (issue_keeps rfl (fun f0_0 f0_1 f0_2 f0_3 => ?_))
  ·
    exact Keeps.refl
  ·
    extract_lets -underBinder +onlyGivenNames x1
    try clear_value x1
    refine Keeps.trans ?_ (takeAll_keeps rfl (fun f2_0 => ?_))
    ·
      exact Keeps.refl
    ·
      refine Keeps.trans ?_ (runLookup_keeps.mono rfl)
      refine Keeps.ite ?_ ?_
      ·
        refine Keeps.trans ?_ (View_touch_keeps.mono rfl)
        exact Keeps.refl
      ·
        exact Keeps.refl

theorem execAttach_keeps {c : Fin 1056} {st : Strm} {s : State} :
    OutKeeps 0xc704190821c4f0007c2000000000000000000000000000000000000000000000000000000000000000100e000000000021000000050038000800000238014e01d882e90000000004940 s (execAttach c st s) := by
  unfold execAttach
  refine done_keeps ?_
  refine Keeps.trans ?_ (lookupOp_keeps.mono rfl)
  exact Keeps.refl

theorem execReleaseChannel_keeps {c : Fin 1056} {st : Strm} {s : State} :
    OutKeeps 0xc704190821c4f0007c2000000000000000000000000000000000000000000000000000000000000000100e000000000021000000050038000800000238014e01d882e90000000004940 s (execReleaseChannel c st s) := by
  unfold execReleaseChannel
  refine done_keeps ?_
  refine Keeps.trans ?_ (lookupOp_keeps.mono rfl)
  exact Keeps.refl

end Sys2Proof.Laws
end

