-- ==== Sys2Proof/Laws/KeepsLoads.lean ====
section
/-! SUPPORT. What each operation of Sys2Proof/Machine/Loads.lean may write (Laws/Keeps.lean says how a mask is read). -/
namespace Sys2Proof.Laws
open Sys2Proof Sys2Proof.Machine

set_option linter.unusedVariables false

theorem badPatCmd_keeps {s : State} :
    Keeps 0x8000000000000000000000000000000000 s (badPatCmd s) := by
  unfold badPatCmd
  refine Keeps.trans ?_ (State_finc_keeps (by rfl))
  exact Keeps.refl

theorem dropVotes_keeps {s : State} :
    Keeps 0x680400000000000000000000000000000000000000000000000000000000000000000000000000000000000000000000000000000000000000000000000000000000000000000 s (dropVotes s) := by
  unfold dropVotes
  refine Keeps.trans ?_ (upd_masks_arrivals_votes_voteOut rfl rfl rfl rfl)
  exact Keeps.refl

theorem leaveLoading_keeps {s : State} :
    Keeps 0x210000000000000100000000000000000000000000000000000 s (leaveLoading s) := by
  unfold leaveLoading
  extract_lets -underBinder +onlyGivenNames x0
  try clear_value x0
  refine Keeps.ite ?_ ?_
  ·
    refine Keeps.trans ?_ (State_raise_keeps.mono rfl)
    refine Keeps.trans ?_ (State_fset_keeps (by rfl))
    refine Keeps.trans ?_ (State_fset_keeps (by rfl))
    exact Keeps.refl
  ·
    exact Keeps.refl

theorem panelFields_keeps {s : State} {p : Nat} :
    Keeps 0x100000000000000000000000000000000000 s (panelFields s p) := by
  unfold panelFields
  refine Keeps.trans ?_ (State_fset_keeps (by rfl))
  refine Keeps.trans ?_ (State_fset_keeps (by rfl))
  exact Keeps.refl

theorem putConfig_keeps {s : State} {c : QueueCfg} :
    Keeps 0x80000000000000000000000000000000000000000000000000000000000000000000000000000000000000000e0000000000000000000000000000000000000000000000000000 s (putConfig s c) := by
  unfold putConfig
  extract_lets -underBinder +onlyGivenNames x0
  try clear_value x0
  extract_lets -underBinder +onlyGivenNames x1
  have h1 : Keeps 0x80000000000000000000000000000000000000000000000000000000000000000000000000000000000000000e0000000000000000000000000000000000000000000000000000 s x1 := by
    unfold x1
    refine Keeps.trans ?_ (State_fset_keeps (by rfl))
    refine Keeps.trans ?_ (State_fset_keeps (by rfl))
    refine Keeps.trans ?_ (State_fset_keeps (by rfl))
    refine Keeps.trans ?_ (State_fset_keeps (by rfl))
    exact Keeps.refl
  try clear_value x1
  extract_lets -underBinder +onlyGivenNames x2
  have h2 : Keeps 0x80000000000000000000000000000000000000000000000000000000000000000000000000000000000000000e0000000000000000000000000000000000000000000000000000 s x2 := by
    unfold x2
    refine Keeps.trans ?_ (State_fset_keeps (by rfl))
    refine Keeps.trans ?_ (State_fset_keeps (by rfl))
    refine Keeps.trans ?_ (State_fset_keeps (by rfl))
    exact h1
  try clear_value x2
  refine Keeps.trans ?_ (adoptConfig_keeps.mono rfl)
  refine Keeps.trans ?_ (State_fset_keeps (by rfl))
  refine Keeps.trans ?_ (State_fset_keeps (by rfl))
  exact h2

theorem repin_keeps {hinted : Nat → Bool} {t : State} :
    Keeps 0x40000000000000000000000000000000000000000000000000000000000000000000000000000000000000000000000000000000000100000000000000000000000 t (repin hinted t) := by
  unfold repin
  refine Keeps.trans ?_ (Keeps.foldl (fun s0 _ => ?_) _ _)
  ·
    exact Keeps.refl
  ·
    extract_lets -underBinder +onlyGivenNames x1
    try clear_value x1
    extract_lets -underBinder +onlyGivenNames x2
    try clear_value x2
    extract_lets -underBinder +onlyGivenNames x3
    try clear_value x3
    extract_lets -underBinder +onlyGivenNames x4
    have h4 : Keeps 0x40000000000000000000000000000000000000000000000000000000000000000000000000000000000000000000000000000000000100000000000000000000000 s0 x4 := by
      unfold x4
      refine Keeps.ite ?_ ?_
      ·
        refine Keeps.trans ?_ (State_finc_keeps (by rfl))
        exact Keeps.refl
      ·
        exact Keeps.refl
    try clear_value x4
    extract_lets -underBinder +onlyGivenNames x5
    try clear_value x5
    refine Keeps.trans ?_ (upd_pages rfl)
    exact h4

theorem setMeas_keeps {s : State} {m : List Byte} :
    Keeps 0x2000000000000000000000000000000000000000000000 s (setMeas s m) := by
  unfold setMeas
  refine Keeps.trans ?_ (Keeps.foldl (fun s0 _ => ?_) _ _)
  ·
    exact Keeps.refl
  ·
    refine Keeps.trans ?_ (State_wr_keeps (by rfl))
    exact Keeps.refl

theorem setStage_keeps {s : State} {n : Nat} :
    Keeps 0x200000000000000000000000000000000000000000000000000000000000000000000000000000000000000000000000000000000000000000000000000000000000 s (setStage s n) := by
  unfold setStage
  refine Keeps.trans ?_ (upd_load rfl)
  exact Keeps.refl

theorem stepFields_keeps {s : State} {p : Nat} :
    Keeps 0x100000000000000000000000000000000000000000000000000000000000000000000000000000000000000000000000000e00000000000000000000000000000000000 s (stepFields s p) := by
  unfold stepFields
  extract_lets -underBinder +onlyGivenNames x0
  have h0 : Keeps 0x100000000000000000000000000000000000000000000000000000000000000000000000000000000000000000000000000e00000000000000000000000000000000000 s x0 := by
    unfold x0
    refine Keeps.trans ?_ (State_fset_keeps (by rfl))
    refine Keeps.trans ?_ (State_wr_keeps (by rfl))
    exact Keeps.refl
  try clear_value x0
  extract_lets -underBinder +onlyGivenNames x1
  have h1 : Keeps 0x100000000000000000000000000000000000000000000000000000000000000000000000000000000000000000000000000e00000000000000000000000000000000000 s x1 := by
    unfold x1
    refine Keeps.trans ?_ (State_fset_keeps (by rfl))
    refine Keeps.trans ?_ (State_fset_keeps (by rfl))
    exact h0
  try clear_value x1
  extract_lets -underBinder +onlyGivenNames x2
  try clear_value x2
  extract_lets -underBinder +onlyGivenNames x3
  have h3 : Keeps 0x100000000000000000000000000000000000000000000000000000000000000000000000000000000000000000000000000e00000000000000000000000000000000000 s x3 := by
    unfold x3
    refine Keeps.trans ?_ (State_setPanel_keeps.mono rfl)
    exact h1
  try clear_value x3
  extract_lets -underBinder +onlyGivenNames x4
  try clear_value x4
  extract_lets -underBinder +onlyGivenNames x5
  have h5 : Keeps 0x100000000000000000000000000000000000000000000000000000000000000000000000000000000000000000000000000e00000000000000000000000000000000000 s x5 := by
    unfold x5
    refine Keeps.trans ?_ (State_setPanel_keeps.mono rfl)
    exact h3
  try clear_value x5
  split
  ·
    refine Keeps.ite ?_ ?_
    ·
      exact h5
    ·
      refine Keeps.trans ?_ (State_fset_keeps (by rfl))
      refine Keeps.trans ?_ (State_fset_keeps (by rfl))
      refine Keeps.trans ?_ (State_fset_keeps (by rfl))
      refine Keeps.trans ?_ (State_wr_keeps (by rfl))
      exact h5
  ·
    exact h5

theorem stopQueue_keeps {s : State} {q : Nat} :
    Keeps 0x10000000000000000000000000000000000000000000000000000 s (stopQueue s q) := by
  unfold stopQueue
  refine Keeps.ite ?_ ?_
  ·
    refine Keeps.trans ?_ (State_fset_keeps (by rfl))
    exact Keeps.refl
  ·
    exact Keeps.refl

theorem unmapCore_keeps {s : State} {c : Nat} :
    Keeps 0x60 s (unmapCore s c) := by
  unfold unmapCore
  refine Keeps.trans ?_ (clearCore_keeps.mono rfl)
  exact Keeps.refl

theorem withSecs_keeps {s : State} {img : PatternImage} :
    Keeps 0x33c00000000000000000000000000000000000000000000000000000000000000000000000000000000000000000000000000000000000000000000000000000000000 s (withSecs s img) := by
  unfold withSecs
  refine Keeps.ite ?_ ?_
  ·
    extract_lets -underBinder +onlyGivenNames x0
    try clear_value x0
    extract_lets -underBinder +onlyGivenNames x1
    try clear_value x1
    extract_lets -underBinder +onlyGivenNames x2
    try clear_value x2
    refine Keeps.trans ?_ (upd_secs rfl)
    exact Keeps.refl
  ·
    refine Keeps.trans ?_ (upd_secs_coreMap_links_devQueues_rules0_live rfl rfl rfl rfl rfl rfl)
    exact Keeps.refl

theorem State_measure_keeps {s : State} {typ : Nat} {index : Nat} {digest : List Byte} :
    Keeps 0x2000000000000000000000000000000000000000000000000000000000000000000000000000000000000000000000000000002900000000000000000000000000000000000000000000 s (State.measure s typ index digest) := by
  unfold State.measure
  refine Keeps.ite ?_ ?_
  ·
    extract_lets -underBinder +onlyGivenNames x0
    try clear_value x0
    refine Keeps.trans ?_ (upd_sec rfl)
    exact Keeps.refl
  ·
    extract_lets -underBinder +onlyGivenNames x1
    try clear_value x1
    extract_lets -underBinder +onlyGivenNames x2
    have h2 : Keeps 0x2000000000000000000000000000000000000000000000000000000000000000000000000000000000000000000000000000002900000000000000000000000000000000000000000000 s x2 := by
      unfold x2
      refine Keeps.trans ?_ (setMeas_keeps.mono rfl)
      exact Keeps.refl
    try clear_value x2
    refine Keeps.ite ?_ ?_
    ·
      refine Keeps.trans ?_ (upd_sec rfl)
      exact h2
    ·
      refine Keeps.trans ?_ (State_fset_keeps (by rfl))
      refine Keeps.trans ?_ (State_finc_keeps (by rfl))
      exact h2

theorem dropPages_keeps {s : State} {gone : Page → Bool} :
    Keeps 0x70000000000000000000000000000000000000000000000000000000000000000000000000000000000000000000000000000000000000000000000000000000000 s (dropPages s gone) := by
  unfold dropPages
  extract_lets -underBinder +onlyGivenNames x0
  have h0 : Keeps 0x70000000000000000000000000000000000000000000000000000000000000000000000000000000000000000000000000000000000000000000000000000000000 s x0 := by
    unfold x0
    refine Keeps.trans ?_ (Keeps.foldl (fun s1 _ => ?_) _ _)
    ·
      exact Keeps.refl
    ·
      refine Keeps.trans ?_ (releaseBad_keeps.mono rfl)
      exact Keeps.refl
  try clear_value x0
  refine Keeps.trans ?_ (upd_pages rfl)
  exact h0

theorem endLoad_keeps {s : State} {code : Nat} :
    Keeps 0x200000000000000000000000000000000000000000000000000000000000000000000000000000000210000200000000100080000000000000000000000000000000 s (endLoad s code) := by
  unfold endLoad
  extract_lets -underBinder +onlyGivenNames x0
  have h0 : Keeps 0x200000000000000000000000000000000000000000000000000000000000000000000000000000000210000200000000100080000000000000000000000000000000 s x0 := by
    unfold x0
    refine Keeps.trans ?_ (leaveLoading_keeps.mono rfl)
    exact Keeps.refl
  try clear_value x0
  extract_lets -underBinder +onlyGivenNames x1
  have h1 : Keeps 0x200000000000000000000000000000000000000000000000000000000000000000000000000000000210000200000000100080000000000000000000000000000000 s x1 := by
    unfold x1
    refine Keeps.trans ?_ (State_fset_keeps (by rfl))
    refine Keeps.trans ?_ (State_fset_keeps (by rfl))
    refine Keeps.trans ?_ (State_fset_keeps (by rfl))
    refine Keeps.trans ?_ (State_fset_keeps (by rfl))
    exact h0
  try clear_value x1
  extract_lets -underBinder +onlyGivenNames x2
  have h2 : Keeps 0x200000000000000000000000000000000000000000000000000000000000000000000000000000000210000200000000100080000000000000000000000000000000 s x2 := by
    unfold x2
    refine Keeps.ite ?_ ?_
    ·
      exact h1
    ·
      refine Keeps.trans ?_ (State_fset_keeps (by rfl))
      exact h1
  try clear_value x2
  extract_lets -underBinder +onlyGivenNames x3
  have h3 : Keeps 0x200000000000000000000000000000000000000000000000000000000000000000000000000000000210000200000000100080000000000000000000000000000000 s x3 := by
    unfold x3
    refine Keeps.ite ?_ ?_
    ·
      refine Keeps.trans ?_ (State_secEvt_keeps.mono rfl)
      exact h2
    ·
      exact h2
  try clear_value x3
  refine Keeps.trans ?_ (State_raise_keeps.mono rfl)
  refine Keeps.trans ?_ (upd_load rfl)
  exact h3

theorem execSignatureChecked_keeps {s : State} :
    OutKeeps 0x200000000000000000000000000000000000000000000000000000000000000000000000000000000210000200000000100080000000000000000000000000000000 s (execSignatureChecked s) := by
  unfold execSignatureChecked
  refine OutKeeps.ite ?_ ?_
  ·
    refine done_keeps ?_
    exact Keeps.refl
  ·
    refine OutKeeps.ite ?_ ?_
    ·
      refine done_keeps ?_
      refine Keeps.trans ?_ (endLoad_keeps.mono rfl)
      exact Keeps.refl
    ·
      refine OutKeeps.ite ?_ ?_
      ·
        refine done_keeps ?_
        refine Keeps.trans ?_ (endLoad_keeps.mono rfl)
        exact Keeps.refl
      ·
        refine done_keeps ?_
        refine Keeps.trans ?_ (upd_load rfl)
        exact Keeps.refl

theorem execStructuralChecksDone_keeps {img : PatternImage} {s : State} :
    OutKeeps 0x200000000000000000000000000000000000000000000000000000000000000000000000000000000210000200000000100080000000000000000000000000000000 s (execStructuralChecksDone img s) := by
  unfold execStructuralChecksDone
  refine OutKeeps.ite ?_ ?_
  ·
    refine done_keeps ?_
    exact Keeps.refl
  ·
    extract_lets -underBinder +onlyGivenNames x0
    try clear_value x0
    refine OutKeeps.ite ?_ ?_
    ·
      refine done_keeps ?_
      refine Keeps.trans ?_ (endLoad_keeps.mono rfl)
      exact Keeps.refl
    ·
      refine done_keeps ?_
      refine Keeps.trans ?_ (State_fset_keeps (by rfl))
      refine Keeps.trans ?_ (upd_load rfl)
      exact Keeps.refl

theorem freePages_keeps {s t : State} {hit : Nat → Bool} : Keeps 0x78000000000000000000000000000000000000000000000000000000000000000000000000000000000000000000000000000000000000000000000000000000000 t (freePages s t hit) := by
  unfold freePages
  exact (dropPages_keeps.mono (by rfl)).trans (upd_tens_badTens rfl rfl fun c => ⟨c.1, c.2.1, spWf_filter _ c.2.2⟩)

theorem setChans_keeps {s : State} :
    Keeps 0x30000000000000000000000000000000000000000000000000000000000000000000000000000000000000000000000000000000000000000000000000000000000000000000000000 s (setChans s) := by
  unfold setChans
  extract_lets -underBinder +onlyGivenNames x0
  try clear_value x0
  extract_lets -underBinder +onlyGivenNames x1
  try clear_value x1
  extract_lets -underBinder +onlyGivenNames x2
  try clear_value x2
  extract_lets -underBinder +onlyGivenNames x3
  have h3 : Keeps 0x30000000000000000000000000000000000000000000000000000000000000000000000000000000000000000000000000000000000000000000000000000000000000000000000000 s x3 := by
    unfold x3
    refine Keeps.trans ?_ (Keeps.foldl (fun s4 _ => ?_) _ _)
    ·
      exact Keeps.refl
    ·
      refine Keeps.trans ?_ (State_setChan_keeps.mono rfl)
      refine Keeps.trans ?_ (dropChan_keeps.mono rfl)
      exact Keeps.refl
  try clear_value x3
  refine Keeps.trans ?_ (Keeps.foldl (fun s5 _ => ?_) _ _)
  ·
    exact h3
  ·
    refine Keeps.trans ?_ (State_setChan_keeps.mono rfl)
    exact Keeps.refl

theorem startLoad_keeps {s : State} {a : Agent} {isPart : Bool} :
    Keeps 0x200000000000000000000000000000000000000000000000000000000000000000000000000000000210000200000000100080000000000000000000000000000000 s (startLoad s a isPart) := by
  unfold startLoad
  extract_lets -underBinder +onlyGivenNames x0
  try clear_value x0
  extract_lets -underBinder +onlyGivenNames x1
  try clear_value x1
  extract_lets -underBinder +onlyGivenNames x2
  try clear_value x2
  extract_lets -underBinder +onlyGivenNames x3
  have h3 : Keeps 0x200000000000000000000000000000000000000000000000000000000000000000000000000000000210000200000000100080000000000000000000000000000000 s x3 := by
    unfold x3
    refine Keeps.trans ?_ (State_fset_keeps (by rfl))
    refine Keeps.trans ?_ (upd_load rfl)
    exact Keeps.refl
  try clear_value x3
  refine Keeps.ite ?_ ?_
  ·
    refine Keeps.trans ?_ (endLoad_keeps.mono rfl)
    exact h3
  ·
    refine Keeps.ite ?_ ?_
    ·
      refine Keeps.trans ?_ (endLoad_keeps.mono rfl)
      exact h3
    ·
      refine Keeps.ite ?_ ?_
      ·
        exact h3
      ·
        extract_lets -underBinder +onlyGivenNames x4
        try clear_value x4
        extract_lets -underBinder +onlyGivenNames x5
        try clear_value x5
        extract_lets -underBinder +onlyGivenNames x6
        try clear_value x6
        extract_lets -underBinder +onlyGivenNames x7
        have h7 : Keeps 0x200000000000000000000000000000000000000000000000000000000000000000000000000000000210000200000000100080000000000000000000000000000000 s x7 := by
          unfold x7
          refine Keeps.trans ?_ (State_fset_keeps (by rfl))
          refine Keeps.trans ?_ (upd_load rfl)
          exact h3
        try clear_value x7
        refine Keeps.ite ?_ ?_
        ·
          refine Keeps.trans ?_ (State_fset_keeps (by rfl))
          exact h7
        ·
          exact h7

theorem applyPart_keeps {s : State} {img : PatternImage} :
    Keeps 0x133c78000000000000000000000000000000000000000000000000000000000000000000000000000000000000000000000900000000000100000000000000000000060 s (applyPart s img) := by
  unfold applyPart
  extract_lets -underBinder +onlyGivenNames x0
  try clear_value x0
  extract_lets -underBinder +onlyGivenNames x1
  try clear_value x1
  extract_lets -underBinder +onlyGivenNames x2
  have h2 : Keeps 0x133c78000000000000000000000000000000000000000000000000000000000000000000000000000000000000000000000900000000000100000000000000000000060 s x2 := by
    unfold x2
    refine Keeps.trans ?_ (repin_keeps.mono rfl)
    refine Keeps.trans ?_ (freePages_keeps.mono rfl)
    refine Keeps.trans ?_ (withSecs_keeps.mono rfl)
    exact Keeps.refl
  try clear_value x2
  extract_lets -underBinder +onlyGivenNames x3
  have h3 : Keeps 0x133c78000000000000000000000000000000000000000000000000000000000000000000000000000000000000000000000900000000000100000000000000000000060 s x3 := by
    unfold x3
    refine Keeps.trans ?_ (Keeps.foldl (fun s4 _ => ?_) _ _)
    ·
      exact h2
    ·
      refine Keeps.trans ?_ (unmapCore_keeps.mono rfl)
      exact Keeps.refl
  try clear_value x3
  extract_lets -underBinder +onlyGivenNames x5
  have h5 : Keeps 0x133c78000000000000000000000000000000000000000000000000000000000000000000000000000000000000000000000900000000000100000000000000000000060 s x5 := by
    unfold x5
    refine Keeps.trans ?_ (panelFields_keeps.mono rfl)
    refine Keeps.trans ?_ (upd_live rfl)
    exact h3
  try clear_value x5
  split
  ·
    extract_lets -underBinder +onlyGivenNames x6
    try clear_value x6
    extract_lets -underBinder +onlyGivenNames x7
    have h7 : Keeps 0x133c78000000000000000000000000000000000000000000000000000000000000000000000000000000000000000000000900000000000100000000000000000000060 s x7 := by
      unfold x7
      refine Keeps.trans ?_ (State_setPanel_keeps.mono rfl)
      exact h5
    try clear_value x7
    refine Keeps.ite ?_ ?_
    ·
      exact h7
    ·
      refine Keeps.trans ?_ (State_fset_keeps (by rfl))
      refine Keeps.trans ?_ (State_fset_keeps (by rfl))
      exact h7
  ·
    exact h5

theorem dropAreas_keeps {s : State} {p : Nat} :
    Keeps 0x60000000003000470000000000000000000000000000000000000000000000000000000000000000000000000000000000000000000000000000000000000000000000000000000000 s (dropAreas s p) := by
  unfold dropAreas
  extract_lets -underBinder +onlyGivenNames x0
  have h0 : Keeps 0x60000000003000470000000000000000000000000000000000000000000000000000000000000000000000000000000000000000000000000000000000000000000000000000000000 s x0 := by
    unfold x0
    refine Keeps.trans ?_ (dropPages_keeps.mono rfl)
    exact Keeps.refl
  try clear_value x0
  refine Keeps.trans ?_ (upd_secs_trackers_trkSaved_groups_tree rfl rfl rfl rfl rfl)
  exact h0

theorem fullPanel_keeps {s : State} {p : Nat} :
    Keeps 0x60000000003100470000000000000000000000000000000000000000000000000000000000000000000000000000000210000000000000f00000000000000000000000000000000000 s (fullPanel s p) := by
  unfold fullPanel
  extract_lets -underBinder +onlyGivenNames x0
  have h0 : Keeps 0x60000000003100470000000000000000000000000000000000000000000000000000000000000000000000000000000210000000000000f00000000000000000000000000000000000 s x0 := by
    unfold x0
    refine Keeps.trans ?_ (stepFields_keeps.mono rfl)
    refine Keeps.trans ?_ (panelFields_keeps.mono rfl)
    exact Keeps.refl
  try clear_value x0
  refine Keeps.ite ?_ ?_
  ·
    refine Keeps.trans ?_ (State_fset_keeps (by rfl))
    refine Keeps.trans ?_ (dropAreas_keeps.mono rfl)
    exact h0
  ·
    refine Keeps.ite ?_ ?_
    ·
      refine Keeps.trans ?_ (State_raise_keeps.mono rfl)
      refine Keeps.trans ?_ (State_fset_keeps (by rfl))
      refine Keeps.trans ?_ (State_fset_keeps (by rfl))
      exact h0
    ·
      exact h0

theorem patCtrl_keeps {s : State} {a : Agent} {w : Word} :
    Keeps 0x200000000000000000000000000000000000000000000000000000000000000000000000000000000210000200000000108080000000000000000000000000000000 s (patCtrl s a w) := by
  unfold patCtrl
  extract_lets -underBinder +onlyGivenNames x0
  try clear_value x0
  refine Keeps.ite ?_ ?_
  ·
    exact Keeps.refl
  ·
    refine Keeps.ite ?_ ?_
    ·
      refine Keeps.trans ?_ (badPatCmd_keeps.mono rfl)
      exact Keeps.refl
    ·
      refine Keeps.ite ?_ ?_
      ·
        refine Keeps.ite ?_ ?_
        ·
          refine Keeps.trans ?_ (endLoad_keeps.mono rfl)
          exact Keeps.refl
        ·
          exact Keeps.refl
      ·
        refine Keeps.ite ?_ ?_
        ·
          refine Keeps.trans ?_ (badPatCmd_keeps.mono rfl)
          exact Keeps.refl
        ·
          refine Keeps.trans ?_ (startLoad_keeps.mono rfl)
          exact Keeps.refl

theorem execAbort_keeps {a : Agent} {w : Word} {s : State} :
    OutKeeps 0x200000000000000000000000000000000000000000000000000000000000000000000000000000000210681200000000108080000000000001880000000000000040 s (execAbort a w s) := by
  unfold execAbort
  refine done_keeps ?_
  refine Keeps.trans ?_ (State_access_keeps rfl (fun f0_0 => ?_))
  ·
    exact Keeps.refl
  ·
    refine Keeps.trans ?_ (patCtrl_keeps.mono rfl)
    exact Keeps.refl

theorem execDigestChecked_keeps {s : State} :
    OutKeeps 0xc000000000000002140000000000000000000000000000000000000000000000000000000000000000000e000000000021000020040000010808000000004e000000000000000000000 s (execDigestChecked s) := by
  unfold execDigestChecked
  refine OutKeeps.ite ?_ ?_
  ·
    refine done_keeps ?_
    exact Keeps.refl
  ·
    split
    ·
      refine done_keeps ?_
      refine Keeps.trans ?_ (endLoad_keeps.mono rfl)
      refine Keeps.trans ?_ (uncorrOther_keeps.mono rfl)
      exact Keeps.refl
    ·
      refine OutKeeps.ite ?_ ?_
      ·
        refine done_keeps ?_
        refine Keeps.trans ?_ (endLoad_keeps.mono rfl)
        exact Keeps.refl
      ·
        refine done_keeps ?_
        refine Keeps.trans ?_ (setStage_keeps.mono rfl)
        exact Keeps.refl

theorem execLoad_keeps {a : Agent} {w : Word} {s : State} :
    OutKeeps 0x200000000000000000000000000000000000000000000000000000000000000000000000000000000210681200000000108080000000000001880000000000000040 s (execLoad a w s) := by
  unfold execLoad
  refine done_keeps ?_
  refine Keeps.trans ?_ (State_access_keeps rfl (fun f0_0 => ?_))
  ·
    exact Keeps.refl
  ·
    refine Keeps.trans ?_ (patCtrl_keeps.mono rfl)
    exact Keeps.refl

theorem execLoadPartial_keeps {a : Agent} {w : Word} {s : State} :
    OutKeeps 0x200000000000000000000000000000000000000000000000000000000000000000000000000000000210681200000000108080000000000001880000000000000040 s (execLoadPartial a w s) := by
  unfold execLoadPartial
  refine done_keeps ?_
  refine Keeps.trans ?_ (State_access_keeps rfl (fun f0_0 => ?_))
  ·
    exact Keeps.refl
  ·
    refine Keeps.trans ?_ (patCtrl_keeps.mono rfl)
    exact Keeps.refl

theorem applyPort_keeps {s : State} {x : PortCfg} :
    Keeps 0xc1843f0821c4700014000000000000000000000000000000000000000000000000000000000000000010ce000000000021000000050008000800000000000000d880000000000000040 s (applyPort s x) := by
  unfold applyPort
  refine Keeps.ite ?_ ?_
  ·
    exact Keeps.refl
  ·
    extract_lets -underBinder +onlyGivenNames x0
    try clear_value x0
    extract_lets -underBinder +onlyGivenNames x1
    have h1 : Keeps 0xc1843f0821c4700014000000000000000000000000000000000000000000000000000000000000000010ce000000000021000000050008000800000000000000d880000000000000040 s x1 := by
      unfold x1
      refine Keeps.ite ?_ ?_
      ·
        exact Keeps.refl
      ·
        refine Keeps.trans ?_ (enterStoppedPort_keeps.mono rfl)
        exact Keeps.refl
    try clear_value x1
    extract_lets -underBinder +onlyGivenNames x2
    have h2 : Keeps 0xc1843f0821c4700014000000000000000000000000000000000000000000000000000000000000000010ce000000000021000000050008000800000000000000d880000000000000040 s x2 := by
      unfold x2
      refine Keeps.trans ?_ (State_fset_keeps (by rfl))
      refine Keeps.trans ?_ (State_fset_keeps (by rfl))
      refine Keeps.trans ?_ (State_fset_keeps (by rfl))
      exact h1
    try clear_value x2
    refine Keeps.trans ?_ (startPort_keeps.mono rfl)
    refine Keeps.trans ?_ (State_fset_keeps (by rfl))
    exact h2

theorem applyLinks_keeps {s : State} {l : Links} :
    Keeps 0xc186bf0821c4700014000000000000000000000000000000000000000000000000000000000000000010ce000000000021000000050008000800000000000000d880000000000000040 s (applyLinks s l) := by
  unfold applyLinks
  extract_lets -underBinder +onlyGivenNames x0
  have h0 : Keeps 0xc186bf0821c4700014000000000000000000000000000000000000000000000000000000000000000010ce000000000021000000050008000800000000000000d880000000000000040 s x0 := by
    unfold x0
    refine Keeps.trans ?_ (Keeps.foldl (fun s1 _ => ?_) _ _)
    ·
      exact Keeps.refl
    ·
      refine Keeps.trans ?_ (Keeps.foldl (fun s2 _ => ?_) _ _)
      ·
        exact Keeps.refl
      ·
        refine Keeps.trans ?_ (setRoute_keeps.mono rfl)
        exact Keeps.refl
  try clear_value x0
  refine Keeps.trans ?_ (Keeps.foldl (fun s3 _ => ?_) _ _)
  ·
    exact h0
  ·
    refine Keeps.trans ?_ (applyPort_keeps.mono rfl)
    exact Keeps.refl

theorem applyFull_keeps {s : State} {img : PatternImage} :
    Keeps 0xc786bf6825c773fcfc000000000000000000000000000000000000000000000000000000000000000010ce0000000000210000000500080f0908000000810000d880000000000000060 s (applyFull s img) := by
  unfold applyFull
  extract_lets -underBinder +onlyGivenNames x0
  have h0 : Keeps 0xc786bf6825c773fcfc000000000000000000000000000000000000000000000000000000000000000010ce0000000000210000000500080f0908000000810000d880000000000000060 s x0 := by
    unfold x0
    refine Keeps.trans ?_ (freePages_keeps.mono rfl)
    refine Keeps.trans ?_ (withSecs_keeps.mono rfl)
    exact Keeps.refl
  try clear_value x0
  extract_lets -underBinder +onlyGivenNames x1
  have h1 : Keeps 0xc786bf6825c773fcfc000000000000000000000000000000000000000000000000000000000000000010ce0000000000210000000500080f0908000000810000d880000000000000060 s x1 := by
    unfold x1
    refine Keeps.trans ?_ (repin_keeps.mono rfl)
    refine Keeps.trans ?_ (upd_keptDescs rfl)
    exact h0
  try clear_value x1
  extract_lets -underBinder +onlyGivenNames x2
  have h2 : Keeps 0xc786bf6825c773fcfc000000000000000000000000000000000000000000000000000000000000000010ce0000000000210000000500080f0908000000810000d880000000000000060 s x2 := by
    unfold x2
    refine Keeps.trans ?_ (Keeps.foldl (fun s3 _ => ?_) _ _)
    ·
      exact h1
    ·
      refine Keeps.trans ?_ (unmapCore_keeps.mono rfl)
      exact Keeps.refl
  try clear_value x2
  extract_lets -underBinder +onlyGivenNames x4
  have h4 : Keeps 0xc786bf6825c773fcfc000000000000000000000000000000000000000000000000000000000000000010ce0000000000210000000500080f0908000000810000d880000000000000060 s x4 := by
    unfold x4
    refine Keeps.trans ?_ (Keeps.foldl (fun s5 _ => ?_) _ _)
    ·
      refine Keeps.trans ?_ (dropVotes_keeps.mono rfl)
      exact h2
    ·
      refine Keeps.trans ?_ (fullPanel_keeps.mono rfl)
      exact Keeps.refl
  try clear_value x4
  extract_lets -underBinder +onlyGivenNames x6
  have h6 : Keeps 0xc786bf6825c773fcfc000000000000000000000000000000000000000000000000000000000000000010ce0000000000210000000500080f0908000000810000d880000000000000060 s x6 := by
    unfold x6
    refine Keeps.trans ?_ (upd_rules_rulesOn rfl rfl)
    exact h4
  try clear_value x6
  extract_lets -underBinder +onlyGivenNames x7
  have h7 : Keeps 0xc786bf6825c773fcfc000000000000000000000000000000000000000000000000000000000000000010ce0000000000210000000500080f0908000000810000d880000000000000060 s x7 := by
    unfold x7
    refine Keeps.trans ?_ (State_fset_keeps (by rfl))
    refine Keeps.trans ?_ (State_fset_keeps (by rfl))
    exact h6
  try clear_value x7
  extract_lets -underBinder +onlyGivenNames x8
  have h8 : Keeps 0xc786bf6825c773fcfc000000000000000000000000000000000000000000000000000000000000000010ce0000000000210000000500080f0908000000810000d880000000000000060 s x8 := by
    unfold x8
    refine Keeps.trans ?_ (State_fset_keeps (by rfl))
    refine Keeps.trans ?_ (State_wr_keeps (by rfl))
    exact h7
  try clear_value x8
  split
  ·
    refine Keeps.trans ?_ (applyLinks_keeps.mono rfl)
    exact h8
  ·
    exact h8

theorem endPushes_keeps {s : State} {q : Nat} {st : Nat} :
    Keeps 0x10419000000600000000000000000000000000000000000000000000000000000000000000000000010000000001e0021000000000038000000000000000000dc82e00000000000040 s (endPushes s q st) := by
  unfold endPushes
  extract_lets -underBinder +onlyGivenNames x0
  try clear_value x0
  extract_lets -underBinder +onlyGivenNames x1
  try clear_value x1
  extract_lets -underBinder +onlyGivenNames x2
  have h2 : Keeps 0x10419000000600000000000000000000000000000000000000000000000000000000000000000000010000000001e0021000000000038000000000000000000dc82e00000000000040 s x2 := by
    unfold x2
    refine Keeps.trans ?_ (State_setQueue_keeps.mono rfl)
    exact Keeps.refl
  try clear_value x2
  refine Keeps.trans ?_ (Keeps.foldl (fun s3 _ => ?_) _ _)
  ·
    exact h2
  ·
    refine Keeps.trans ?_ (pushDone_keeps.mono rfl)
    exact Keeps.refl

theorem dropQueue_keeps {s : State} {q : Nat} :
    Keeps 0x10419000000600000000000000000000000000000000000000000000000000000000000000000000010000000011ef021000000000038000000000000000000dc82e00000000000040 s (dropQueue s q) := by
  unfold dropQueue
  extract_lets -underBinder +onlyGivenNames x0
  have h0 : Keeps 0x10419000000600000000000000000000000000000000000000000000000000000000000000000000010000000011ef021000000000038000000000000000000dc82e00000000000040 s x0 := by
    unfold x0
    refine Keeps.trans ?_ (endPushes_keeps.mono rfl)
    exact Keeps.refl
  try clear_value x0
  extract_lets -underBinder +onlyGivenNames x1
  try clear_value x1
  extract_lets -underBinder +onlyGivenNames x2
  have h2 : Keeps 0x10419000000600000000000000000000000000000000000000000000000000000000000000000000010000000011ef021000000000038000000000000000000dc82e00000000000040 s x2 := by
    unfold x2
    refine Keeps.trans ?_ (State_setQueue_keeps.mono rfl)
    exact h0
  try clear_value x2
  extract_lets -underBinder +onlyGivenNames x3
  have h3 : Keeps 0x10419000000600000000000000000000000000000000000000000000000000000000000000000000010000000011ef021000000000038000000000000000000dc82e00000000000040 s x3 := by
    unfold x3
    refine Keeps.trans ?_ (Keeps.foldl (fun s4 _ => ?_) _ _)
    ·
      exact h2
    ·
      refine Keeps.trans ?_ (pushDone_keeps.mono rfl)
      exact Keeps.refl
  try clear_value x3
  refine Keeps.trans ?_ (State_fset_keeps (by rfl))
  refine Keeps.trans ?_ (State_fset_keeps (by rfl))
  refine Keeps.trans ?_ (State_wr_keeps (by rfl))
  refine Keeps.trans ?_ (State_wr_keeps (by rfl))
  refine Keeps.trans ?_ (State_wr_keeps (by rfl))
  refine Keeps.trans ?_ (zeroIndices_keeps.mono rfl)
  exact h3

theorem loadQueue_keeps {s : State} {c : QueueCfg} :
    Keeps 0xc104190821c47000140000000000000000000000000000000000000000000000000000000000000000100e0000031ef021000000050038000800000000000000dc82e00000000000040 s (loadQueue s c) := by
  unfold loadQueue
  extract_lets -underBinder +onlyGivenNames x0
  try clear_value x0
  extract_lets -underBinder +onlyGivenNames x1
  try clear_value x1
  extract_lets -underBinder +onlyGivenNames x2
  try clear_value x2
  extract_lets -underBinder +onlyGivenNames x3
  have h3 : Keeps 0xc104190821c47000140000000000000000000000000000000000000000000000000000000000000000100e0000031ef021000000050038000800000000000000dc82e00000000000040 s x3 := by
    unfold x3
    refine Keeps.trans ?_ (State_setQueue_keeps.mono rfl)
    exact Keeps.refl
  try clear_value x3
  refine Keeps.ite ?_ ?_
  ·
    exact h3
  ·
    extract_lets -underBinder +onlyGivenNames x4
    have h4 : Keeps 0xc104190821c47000140000000000000000000000000000000000000000000000000000000000000000100e0000031ef021000000050038000800000000000000dc82e00000000000040 s x4 := by
      unfold x4
      refine Keeps.trans ?_ (zeroIndices_keeps.mono rfl)
      refine Keeps.trans ?_ (putConfig_keeps.mono rfl)
      refine Keeps.trans ?_ (endPushes_keeps.mono rfl)
      exact h3
    try clear_value x4
    extract_lets -underBinder +onlyGivenNames x5
    try clear_value x5
    extract_lets -underBinder +onlyGivenNames x6
    have h6 : Keeps 0xc104190821c47000140000000000000000000000000000000000000000000000000000000000000000100e0000031ef021000000050038000800000000000000dc82e00000000000040 s x6 := by
      unfold x6
      refine Keeps.trans ?_ (State_setQueue_keeps.mono rfl)
      exact h4
    try clear_value x6
    refine Keeps.trans ?_ (queueRun_keeps.mono rfl)
    refine Keeps.trans ?_ (State_fset_keeps (by rfl))
    exact h6

theorem applyQueues_keeps {s : State} {img : PatternImage} :
    Keeps 0xc104190821c47000140000000000000000000000000000000000000000000000000000000000000000100e0000031ef021000000050038000800000000000000dc82e00000000000040 s (applyQueues s img) := by
  unfold applyQueues
  extract_lets -underBinder +onlyGivenNames x0
  try clear_value x0
  extract_lets -underBinder +onlyGivenNames x1
  have h1 : Keeps 0xc104190821c47000140000000000000000000000000000000000000000000000000000000000000000100e0000031ef021000000050038000800000000000000dc82e00000000000040 s x1 := by
    unfold x1
    refine Keeps.ite ?_ ?_
    ·
      exact Keeps.refl
    ·
      refine Keeps.trans ?_ (Keeps.foldl (fun s2 _ => ?_) _ _)
      ·
        exact Keeps.refl
      ·
        refine Keeps.trans ?_ (dropQueue_keeps.mono rfl)
        exact Keeps.refl
  try clear_value x1
  refine Keeps.trans ?_ (Keeps.foldl (fun s3 _ => ?_) _ _)
  ·
    exact h1
  ·
    refine Keeps.trans ?_ (loadQueue_keeps.mono rfl)
    exact Keeps.refl

theorem applyLoad_keeps {s : State} {img : PatternImage} :
    Keeps 0x2c786bf6825c773fefc000000000000000000000000000000000000000000000000000000000000000010ce0000031ef0210002b00500380f0b88000000810000dc82e00000000000060 s (applyLoad s img) := by
  unfold applyLoad
  extract_lets -underBinder +onlyGivenNames x0
  try clear_value x0
  extract_lets -underBinder +onlyGivenNames x1
  try clear_value x1
  extract_lets -underBinder +onlyGivenNames x2
  have h2 : Keeps 0x2c786bf6825c773fefc000000000000000000000000000000000000000000000000000000000000000010ce0000031ef0210002b00500380f0b88000000810000dc82e00000000000060 s x2 := by
    unfold x2
    refine Keeps.ite ?_ ?_
    ·
      refine Keeps.trans ?_ (applyPart_keeps.mono rfl)
      exact Keeps.refl
    ·
      refine Keeps.trans ?_ (applyFull_keeps.mono rfl)
      exact Keeps.refl
  try clear_value x2
  extract_lets -underBinder +onlyGivenNames x3
  have h3 : Keeps 0x2c786bf6825c773fefc000000000000000000000000000000000000000000000000000000000000000010ce0000031ef0210002b00500380f0b88000000810000dc82e00000000000060 s x3 := by
    unfold x3
    refine Keeps.trans ?_ (applyQueues_keeps.mono rfl)
    refine Keeps.trans ?_ (setChans_keeps.mono rfl)
    exact h2
  try clear_value x3
  extract_lets -underBinder +onlyGivenNames x4
  have h4 : Keeps 0x2c786bf6825c773fefc000000000000000000000000000000000000000000000000000000000000000010ce0000031ef0210002b00500380f0b88000000810000dc82e00000000000060 s x4 := by
    unfold x4
    refine Keeps.trans ?_ (Keeps.foldl (fun s5 _ => ?_) _ _)
    ·
      exact h3
    ·
      refine Keeps.trans ?_ (State_wr_keeps (by rfl))
      exact Keeps.refl
  try clear_value x4
  extract_lets -underBinder +onlyGivenNames x6
  have h6 : Keeps 0x2c786bf6825c773fefc000000000000000000000000000000000000000000000000000000000000000010ce0000031ef0210002b00500380f0b88000000810000dc82e00000000000060 s x6 := by
    unfold x6
    refine Keeps.trans ?_ (State_fset_keeps (by rfl))
    refine Keeps.trans ?_ (State_fincw_keeps (by rfl))
    exact h4
  try clear_value x6
  refine Keeps.trans ?_ (endLoad_keeps.mono rfl)
  refine Keeps.trans ?_ (State_measure_keeps.mono rfl)
  exact h6

theorem execLoadApplied_keeps {s : State} :
    OutKeeps 0x2c786bf6825c773fefc000000000000000000000000000000000000000000000000000000000000000010ce0000031ef0210002b00500380f0b88000000810000dc82e00000000000060 s (execLoadApplied s) := by
  unfold execLoadApplied
  refine OutKeeps.ite ?_ ?_
  ·
    refine done_keeps ?_
    exact Keeps.refl
  ·
    split
    ·
      refine done_keeps ?_
      exact Keeps.refl
    ·
      split
      ·
        refine done_keeps ?_
        refine Keeps.trans ?_ (applyLoad_keeps.mono rfl)
        exact Keeps.refl
      ·
        refine done_keeps ?_
        refine Keeps.trans ?_ (Keeps.foldl (fun s0 _ => ?_) _ _)
        ·
          exact Keeps.refl
        ·
          refine Keeps.trans ?_ (stopQueue_keeps.mono rfl)
          exact Keeps.refl

end Sys2Proof.Laws
end

