-- ==== Sys2Proof/Laws/KeepsStewards.lean ====
section
/-! SUPPORT. What each operation of Sys2Proof/Machine/Stewards.lean may write (Laws/Keeps.lean says how a mask is read). -/
namespace Sys2Proof.Laws
open Sys2Proof Sys2Proof.Machine

set_option linter.unusedVariables false

theorem badStwCmd_keeps {s : State} {i : Nat} :
    Keeps 0x880000000000000000000000000000000000000000000000000000000 s (badStwCmd s i) := by
  unfold badStwCmd
  refine Keeps.trans ?_ (State_fset_keeps (by rfl))
  refine Keeps.trans ?_ (State_finc_keeps (by rfl))
  exact Keeps.refl

theorem copyImage_keeps {s : State} {i : Nat} :
    Keeps 0x100000000000000000000000000000000000000000000000000000000000000000000000000000000000000000100000000000000000000000000000000000000000000000000000000 s (copyImage s i) := by
  unfold copyImage
  extract_lets -underBinder +onlyGivenNames x0
  try clear_value x0
  extract_lets -underBinder +onlyGivenNames x1
  try clear_value x1
  extract_lets -underBinder +onlyGivenNames x2
  have h2 : Keeps 0x100000000000000000000000000000000000000000000000000000000000000000000000000000000000000000100000000000000000000000000000000000000000000000000000000 s x2 := by
    unfold x2
    refine Keeps.trans ?_ (State_setStw_keeps.mono rfl)
    exact Keeps.refl
  try clear_value x2
  refine Keeps.trans ?_ (State_wr_keeps (by rfl))
  exact h2

theorem forgetPushes_keeps {s : State} :
    Keeps 0x8000000000000000000000000000000000000000000000000000000000000000000000000000000000000000000000000000000000000000000000000000000000000000000000 s (forgetPushes s) := by
  unfold forgetPushes
  extract_lets -underBinder +onlyGivenNames x0
  try clear_value x0
  refine Keeps.ite ?_ ?_
  ·
    exact Keeps.refl
  ·
    refine Keeps.trans ?_ (upd_queues rfl)
    exact Keeps.refl

theorem recAck_keeps {s : State} {i : Nat} :
    Keeps 0x100000000000000000000000000000000000000000000000000000000000000000000000000000000000000000000000000000000000000000000000000000000000000000000000000 s (recAck s i) := by
  unfold recAck
  refine Keeps.trans ?_ (State_setStw_keeps.mono rfl)
  exact Keeps.refl

theorem recData_keeps {s : State} {i : Nat} {r : List Word} :
    Keeps 0x20000000000000000000000000000000000000000000000000000000000 s (recData s i r) := by
  unfold recData
  refine Keeps.trans ?_ (Keeps.foldl (fun s0 _ => ?_) _ _)
  ·
    exact Keeps.refl
  ·
    refine Keeps.trans ?_ (State_wr_keeps (by rfl))
    exact Keeps.refl

theorem recPop_keeps {s : State} {i : Nat} :
    Keeps 0x500000000000000000000000000000000000000000000000000000000000000000000000000000000000000020000000000000000000000000000000000000000000000000000000000 s (recPop s i) := by
  unfold recPop
  split
  ·
    refine Keeps.trans ?_ (recData_keeps.mono rfl)
    exact Keeps.refl
  ·
    split
    ·
      refine Keeps.trans ?_ (recData_keeps.mono rfl)
      refine Keeps.trans ?_ (State_setStw_keeps.mono rfl)
      refine Keeps.trans ?_ (upd_recFifo rfl)
      exact Keeps.refl
    ·
      refine Keeps.trans ?_ (recData_keeps.mono rfl)
      exact Keeps.refl

theorem returnRecord_keeps {s : State} {i : Nat} :
    Keeps 0x500000000000000000000000000000000000000000000000000000000000000000000000000000000000000000000000000000000000000000000000000000000000000000000000000 s (returnRecord s i) := by
  unfold returnRecord
  split
  ·
    extract_lets -underBinder +onlyGivenNames x0
    try clear_value x0
    extract_lets -underBinder +onlyGivenNames x1
    have h1 : Keeps 0x500000000000000000000000000000000000000000000000000000000000000000000000000000000000000000000000000000000000000000000000000000000000000000000000000 s x1 := by
      unfold x1
      refine Keeps.trans ?_ (State_setStw_keeps.mono rfl)
      exact Keeps.refl
    try clear_value x1
    refine Keeps.trans ?_ (upd_recFifo rfl)
    exact h1
  ·
    exact Keeps.refl

theorem stageEmpty_keeps {s : State} :
    Keeps 0x200000000000000000000000000000000000000000000000000000000000 s (stageEmpty s) := by
  unfold stageEmpty
  refine Keeps.trans ?_ (State_fset_keeps (by rfl))
  refine Keeps.trans ?_ (State_fset_keeps (by rfl))
  exact Keeps.refl

theorem verifyWrite_keeps {s : State} {w : Word} :
    Keeps 0xa00000000000000000000000000000000000000000000000000000000000 s (verifyWrite s w) := by
  unfold verifyWrite
  refine Keeps.ite ?_ ?_
  ·
    exact Keeps.refl
  ·
    refine Keeps.ite ?_ ?_
    ·
      refine Keeps.trans ?_ (State_finc_keeps (by rfl))
      exact Keeps.refl
    ·
      refine Keeps.trans ?_ (State_fset_keeps (by rfl))
      exact Keeps.refl

theorem endActivation_keeps {s : State} {state : Nat} {cause : Nat} :
    Keeps 0x14000000000000000000000000000000000000000000000000000000000000000000060401000000210000000000000008000000000000000000000000000000000 s (endActivation s state cause) := by
  unfold endActivation
  extract_lets -underBinder +onlyGivenNames x0
  try clear_value x0
  extract_lets -underBinder +onlyGivenNames x1
  have h1 : Keeps 0x14000000000000000000000000000000000000000000000000000000000000000000060401000000210000000000000008000000000000000000000000000000000 s x1 := by
    unfold x1
    refine Keeps.trans ?_ (State_fset_keeps (by rfl))
    refine Keeps.trans ?_ (State_fset_keeps (by rfl))
    refine Keeps.trans ?_ (State_fset_keeps (by rfl))
    exact Keeps.refl
  try clear_value x1
  refine Keeps.trans ?_ (State_logRec_keeps.mono rfl)
  refine Keeps.trans ?_ (State_stwEvt_keeps.mono rfl)
  exact h1

theorem execActivationDone_keeps {s : State} :
    OutKeeps 0x14000000000000000000000000000000000000000000000000000000000000000000060401000000210000000000000008000000000000000000000000000000000 s (execActivationDone s) := by
  unfold execActivationDone
  refine OutKeeps.ite ?_ ?_
  ·
    refine done_keeps ?_
    refine Keeps.trans ?_ (endActivation_keeps.mono rfl)
    exact Keeps.refl
  ·
    refine done_keeps ?_
    exact Keeps.refl

theorem execEmergencyTimeout_keeps {s : State} :
    OutKeeps 0x14000000000000000000000000000000000000000000000000000000000000000000060401000000210000000000000008000000000000000000000000000000000 s (execEmergencyTimeout s) := by
  unfold execEmergencyTimeout
  refine OutKeeps.ite ?_ ?_
  ·
    refine done_keeps ?_
    refine Keeps.trans ?_ (endActivation_keeps.mono rfl)
    exact Keeps.refl
  ·
    refine done_keeps ?_
    exact Keeps.refl

theorem execVerifyDone_keeps {s : State} :
    OutKeeps 0x200000000210000200000000000000000000000000000000000000000000 s (execVerifyDone s) := by
  unfold execVerifyDone
  refine OutKeeps.ite ?_ ?_
  ·
    refine done_keeps ?_
    exact Keeps.refl
  ·
    extract_lets -underBinder +onlyGivenNames x0
    try clear_value x0
    extract_lets -underBinder +onlyGivenNames x1
    have h1 : Keeps 0x200000000210000200000000000000000000000000000000000000000000 s x1 := by
      unfold x1
      refine Keeps.trans ?_ (State_fset_keeps (by rfl))
      exact Keeps.refl
    try clear_value x1
    refine OutKeeps.ite ?_ ?_
    ·
      refine done_keeps ?_
      refine Keeps.trans ?_ (State_fset_keeps (by rfl))
      refine Keeps.trans ?_ (State_fset_keeps (by rfl))
      exact h1
    ·
      extract_lets -underBinder +onlyGivenNames x2
      have h2 : Keeps 0x200000000210000200000000000000000000000000000000000000000000 s x2 := by
        unfold x2
        refine Keeps.trans ?_ (State_fset_keeps (by rfl))
        exact h1
      try clear_value x2
      refine done_keeps ?_
      refine Keeps.ite ?_ ?_
      ·
        refine Keeps.trans ?_ (State_secEvt_keeps.mono rfl)
        exact h2
      ·
        exact h2

theorem logSubmit_keeps {s : State} {i : Nat} {w : Word} :
    Keeps 0x14000000000000000000000000000000000000000000000000000000000000000000060000000000000000000000000008000000000000000000000000000000000 s (logSubmit s i w) := by
  unfold logSubmit
  refine Keeps.trans ?_ (State_logRec_keeps.mono rfl)
  exact Keeps.refl

theorem stageWrite_keeps {s : State} {a : Agent} {off : Nat} {w : Word} :
    Keeps 0x200000000000000000000000000000000000000000000000000000000000000000000000000000000000000a80000000210680000000000000000000000000000000000000000000000 s (stageWrite s a off w) := by
  unfold stageWrite
  refine Keeps.ite ?_ ?_
  ·
    refine Keeps.trans ?_ (State_outOfRange_keeps.mono rfl)
    exact Keeps.refl
  ·
    refine Keeps.ite ?_ ?_
    ·
      refine Keeps.trans ?_ (State_outOfRange_keeps.mono rfl)
      refine Keeps.trans ?_ (State_finc_keeps (by rfl))
      exact Keeps.refl
    ·
      refine Keeps.ite ?_ ?_
      ·
        refine Keeps.trans ?_ (stageEmpty_keeps.mono rfl)
        refine Keeps.trans ?_ (State_fset_keeps (by rfl))
        exact Keeps.refl
      ·
        refine Keeps.ite ?_ ?_
        ·
          refine Keeps.trans ?_ (stageEmpty_keeps.mono rfl)
          refine Keeps.trans ?_ (upd_staging rfl)
          exact Keeps.refl
        ·
          exact Keeps.refl

theorem execStageWrite_keeps {a : Agent} {off : BitVec 29} {w : Word} {s : State} :
    OutKeeps 0x200000000000000000000000000000000000000000000000000000000000000000000000000000000000000a80000000210681000000000000000000000000001880000000000000040 s (execStageWrite a off w s) := by
  unfold execStageWrite
  refine done_keeps ?_
  refine Keeps.trans ?_ (State_access_keeps rfl (fun f0_0 => ?_))
  ·
    exact Keeps.refl
  ·
    refine Keeps.trans ?_ (stageWrite_keeps.mono rfl)
    exact Keeps.refl

theorem execStwKick_keeps {a : Agent} {i : Fin 6} {_w : Word} {s : State} :
    OutKeeps 0x210681000000000000000000000000001880000000000000040 s (execStwKick a i _w s) := by
  unfold execStwKick
  refine done_keeps ?_
  refine Keeps.trans ?_ (State_access_keeps rfl (fun f0_0 => ?_))
  ·
    exact Keeps.refl
  ·
    exact Keeps.refl

theorem execStwLogSubmitId_keeps {a : Agent} {i : Fin 6} {w : Word} {s : State} :
    OutKeeps 0x14000000000000000000000000000000000000000000000000000000000000000000060000000000210681000000000008000000000000001880000000000000040 s (execStwLogSubmitId a i w s) := by
  unfold execStwLogSubmitId
  refine done_keeps ?_
  refine Keeps.trans ?_ (State_access_keeps rfl (fun f0_0 => ?_))
  ·
    exact Keeps.refl
  ·
    refine Keeps.trans ?_ (logSubmit_keeps.mono rfl)
    exact Keeps.refl

theorem execStwRecAck_keeps {a : Agent} {i : Fin 6} {_w : Word} {s : State} :
    OutKeeps 0x100000000000000000000000000000000000000000000000000000000000000000000000000000000000000000000000210681000000000000000000000000001880000000000000040 s (execStwRecAck a i _w s) := by
  unfold execStwRecAck
  refine done_keeps ?_
  refine Keeps.trans ?_ (State_access_keeps rfl (fun f0_0 => ?_))
  ·
    exact Keeps.refl
  ·
    refine Keeps.trans ?_ (recAck_keeps.mono rfl)
    exact Keeps.refl

theorem execStwRecPop_keeps {a : Agent} {i : Fin 6} {_w : Word} {s : State} :
    OutKeeps 0x500000000000000000000000000000000000000000000000000000000000000000000000000000000000000020000000210681000000000000000000000000001880000000000000040 s (execStwRecPop a i _w s) := by
  unfold execStwRecPop
  refine done_keeps ?_
  refine Keeps.trans ?_ (State_access_keeps rfl (fun f0_0 => ?_))
  ·
    exact Keeps.refl
  ·
    refine Keeps.trans ?_ (recPop_keeps.mono rfl)
    exact Keeps.refl

theorem execVerify_keeps {a : Agent} {w : Word} {s : State} :
    OutKeeps 0xa00000000210681000000000000000000000000001880000000000000040 s (execVerify a w s) := by
  unfold execVerify
  refine done_keeps ?_
  refine Keeps.trans ?_ (State_access_keeps rfl (fun f0_0 => ?_))
  ·
    exact Keeps.refl
  ·
    refine Keeps.trans ?_ (verifyWrite_keeps.mono rfl)
    exact Keeps.refl

theorem signalWrite_keeps {s : State} {a : Agent} {w : Word} :
    Keeps 0x200000000000000000000000000000000000000000000000000000000000000000000000000000000000210680000000000000000000000000001882e00000000000040 s (signalWrite s a w) := by
  unfold signalWrite
  split
  ·
    extract_lets -underBinder +onlyGivenNames x0
    try clear_value x0
    refine Keeps.ite ?_ ?_
    ·
      refine Keeps.trans ?_ (Keeps.foldl (fun s1 _ => ?_) _ _)
      ·
        exact Keeps.refl
      ·
        refine Keeps.trans ?_ (State_setMarker_keeps.mono rfl)
        exact Keeps.refl
    ·
      split
      ·
        refine Keeps.trans ?_ (State_setMarker_keeps.mono rfl)
        exact Keeps.refl
      ·
        exact Keeps.refl
  ·
    refine Keeps.trans ?_ (State_outOfRange_keeps.mono rfl)
    exact Keeps.refl

theorem execStwSignal_keeps {a : Agent} {w : Word} {s : State} :
    OutKeeps 0x200000000000000000000000000000000000000000000000000000000000000000000000000000000000210681000000000000000000000000001882e00000000000040 s (execStwSignal a w s) := by
  unfold execStwSignal
  refine done_keeps ?_
  refine Keeps.trans ?_ (State_access_keeps rfl (fun f0_0 => ?_))
  ·
    exact Keeps.refl
  ·
    refine Keeps.trans ?_ (signalWrite_keeps.mono rfl)
    exact Keeps.refl

theorem dispatchItem_keeps {s : State} :
    Keeps 0xd104190821c47000140000000000000000000000000000000000000000000000000000000000000000100e0000031e1021000000050038000800000000000000dc82e00000000000040 s (dispatchItem s) := by
  unfold dispatchItem
  split
  ·
    exact Keeps.refl
  ·
    refine Keeps.ite ?_ ?_
    ·
      exact Keeps.refl
    ·
      split
      ·
        exact Keeps.refl
      ·
        extract_lets -underBinder +onlyGivenNames x0
        have h0 : Keeps 0xd104190821c47000140000000000000000000000000000000000000000000000000000000000000000100e0000031e1021000000050038000800000000000000dc82e00000000000040 s x0 := by
          unfold x0
          refine Keeps.trans ?_ (State_checkQueue_keeps.mono rfl)
          exact Keeps.refl
        try clear_value x0
        refine Keeps.ite ?_ ?_
        ·
          exact h0
        ·
          extract_lets -underBinder +onlyGivenNames x1
          try clear_value x1
          extract_lets -underBinder +onlyGivenNames x2
          try clear_value x2
          extract_lets -underBinder +onlyGivenNames x3
          have h3 : Keeps 0xd104190821c47000140000000000000000000000000000000000000000000000000000000000000000100e0000031e1021000000050038000800000000000000dc82e00000000000040 s x3 := by
            unfold x3
            refine Keeps.trans ?_ (State_setStw_keeps.mono rfl)
            refine Keeps.trans ?_ (qAdvance_keeps.mono rfl)
            exact h0
          try clear_value x3
          extract_lets -underBinder +onlyGivenNames x4
          have h4 : Keeps 0xd104190821c47000140000000000000000000000000000000000000000000000000000000000000000100e0000031e1021000000050038000800000000000000dc82e00000000000040 s x4 := by
            unfold x4
            refine Keeps.ite ?_ ?_
            ·
              refine Keeps.trans ?_ (State_checkQueue_keeps.mono rfl)
              exact h3
            ·
              exact h3
          try clear_value x4
          refine Keeps.trans ?_ (pushArrive_keeps.mono rfl)
          exact h4

theorem rewindContexts_keeps {s : State} :
    Keeps 0xc104190821c47000140000000000000000000000000000000000000000000000000000000000000000100e0000031e1021000000050038000800000000000000dc82e00000000000040 s (rewindContexts s) := by
  unfold rewindContexts
  refine Keeps.trans ?_ (Keeps.foldl (fun s0 _ => ?_) _ _)
  ·
    exact Keeps.refl
  ·
    refine Keeps.trans ?_ (State_repeatQueue_keeps.mono rfl)
    exact Keeps.refl

theorem State_idle_keeps {s : State} :
    Keeps 0xd104190821c47000140000000000000000000000000000000000000000000000000000000000000000100e0000031e1021000000050038000800020000000000dc82e00004000000046 s (State.idle s) := by
  unfold State.idle
  refine Keeps.trans ?_ (dispatchItem_keeps.mono rfl)
  refine Keeps.trans ?_ (State_tick_keeps.mono rfl)
  exact Keeps.refl

theorem restartStw_keeps {s : State} {i : Nat} {copy : Bool} :
    Keeps 0xd104190821c47000140000000000000000000000000000000000000000000000000000000000000000100e00009b1e1021000000050038000800000000000000dc82e00000000000040 s (restartStw s i copy) := by
  unfold restartStw
  extract_lets -underBinder +onlyGivenNames x0
  try clear_value x0
  extract_lets -underBinder +onlyGivenNames x1
  have h1 : Keeps 0xd104190821c47000140000000000000000000000000000000000000000000000000000000000000000100e00009b1e1021000000050038000800000000000000dc82e00000000000040 s x1 := by
    unfold x1
    refine Keeps.trans ?_ (State_setStw_keeps.mono rfl)
    exact Keeps.refl
  try clear_value x1
  extract_lets -underBinder +onlyGivenNames x2
  have h2 : Keeps 0xd104190821c47000140000000000000000000000000000000000000000000000000000000000000000100e00009b1e1021000000050038000800000000000000dc82e00000000000040 s x2 := by
    unfold x2
    refine Keeps.ite ?_ ?_
    ·
      refine Keeps.trans ?_ (rewindContexts_keeps.mono rfl)
      refine Keeps.trans ?_ (forgetPushes_keeps.mono rfl)
      exact h1
    ·
      exact h1
  try clear_value x2
  extract_lets -underBinder +onlyGivenNames x3
  have h3 : Keeps 0xd104190821c47000140000000000000000000000000000000000000000000000000000000000000000100e00009b1e1021000000050038000800000000000000dc82e00000000000040 s x3 := by
    unfold x3
    refine Keeps.ite ?_ ?_
    ·
      refine Keeps.trans ?_ (copyImage_keeps.mono rfl)
      exact h2
    ·
      exact h2
  try clear_value x3
  extract_lets -underBinder +onlyGivenNames x4
  have h4 : Keeps 0xd104190821c47000140000000000000000000000000000000000000000000000000000000000000000100e00009b1e1021000000050038000800000000000000dc82e00000000000040 s x4 := by
    unfold x4
    refine Keeps.trans ?_ (returnRecord_keeps.mono rfl)
    refine Keeps.trans ?_ (releaseSrcs_keeps.mono rfl)
    exact h3
  try clear_value x4
  extract_lets -underBinder +onlyGivenNames x5
  try clear_value x5
  extract_lets -underBinder +onlyGivenNames x6
  have h6 : Keeps 0xd104190821c47000140000000000000000000000000000000000000000000000000000000000000000100e00009b1e1021000000050038000800000000000000dc82e00000000000040 s x6 := by
    unfold x6
    refine Keeps.trans ?_ (State_finc_keeps (by rfl))
    refine Keeps.trans ?_ (State_logRec_keeps.mono rfl)
    exact h4
  try clear_value x6
  refine Keeps.trans ?_ (State_fset_keeps (by rfl))
  refine Keeps.trans ?_ (State_fset_keeps (by rfl))
  exact h6

theorem takeRole_keeps {s : State} {t : Nat} :
    Keeps 0xd104190821c47000140000000000000000000000000000000000000000000000000000000000000000100e00009b1e1021000000050038000800000000000000dc82e00000000000040 s (takeRole s t) := by
  unfold takeRole
  extract_lets -underBinder +onlyGivenNames x0
  have h0 : Keeps 0xd104190821c47000140000000000000000000000000000000000000000000000000000000000000000100e00009b1e1021000000050038000800000000000000dc82e00000000000040 s x0 := by
    unfold x0
    refine Keeps.trans ?_ (State_fset_keeps (by rfl))
    exact Keeps.refl
  try clear_value x0
  refine Keeps.trans ?_ (restartStw_keeps.mono rfl)
  refine Keeps.trans ?_ (State_setStw_keeps.mono rfl)
  exact h0

theorem beginActivating_keeps {s : State} :
    Keeps 0x2d104190821c47000140000000000000000000000000000000000000000000000000000000000000000100e04009b1e1021000290050038000800000000000000dc82e00000000000040 s (beginActivating s) := by
  unfold beginActivating
  extract_lets -underBinder +onlyGivenNames x0
  try clear_value x0
  refine Keeps.trans ?_ (State_measure_keeps.mono rfl)
  refine Keeps.trans ?_ (restartStw_keeps.mono rfl)
  refine Keeps.trans ?_ (State_fset_keeps (by rfl))
  refine Keeps.trans ?_ (State_fset_keeps (by rfl))
  exact Keeps.refl

theorem crash_keeps {s : State} {i : Nat} {cause : Nat} :
    Keeps 0xd104190821c47000140000000000000000000000000000000000000000000000000000000000000000100e00019b1e1021000000050038000800000000000000dc82e00000000000040 s (crash s i cause) := by
  unfold crash
  refine Keeps.ite ?_ ?_
  ·
    exact Keeps.refl
  ·
    extract_lets -underBinder +onlyGivenNames x0
    have h0 : Keeps 0xd104190821c47000140000000000000000000000000000000000000000000000000000000000000000100e00019b1e1021000000050038000800000000000000dc82e00000000000040 s x0 := by
      unfold x0
      refine Keeps.ite ?_ ?_
      ·
        refine Keeps.trans ?_ (forgetPushes_keeps.mono rfl)
        exact Keeps.refl
      ·
        exact Keeps.refl
    try clear_value x0
    extract_lets -underBinder +onlyGivenNames x1
    have h1 : Keeps 0xd104190821c47000140000000000000000000000000000000000000000000000000000000000000000100e00019b1e1021000000050038000800000000000000dc82e00000000000040 s x1 := by
      unfold x1
      refine Keeps.trans ?_ (State_fset_keeps (by rfl))
      refine Keeps.trans ?_ (State_fset_keeps (by rfl))
      exact h0
    try clear_value x1
    extract_lets -underBinder +onlyGivenNames x2
    have h2 : Keeps 0xd104190821c47000140000000000000000000000000000000000000000000000000000000000000000100e00019b1e1021000000050038000800000000000000dc82e00000000000040 s x2 := by
      unfold x2
      refine Keeps.trans ?_ (State_logRec_keeps.mono rfl)
      refine Keeps.trans ?_ (State_finc_keeps (by rfl))
      refine Keeps.trans ?_ (State_stwEvt_keeps.mono rfl)
      exact h1
    try clear_value x2
    extract_lets -underBinder +onlyGivenNames x3
    have h3 : Keeps 0xd104190821c47000140000000000000000000000000000000000000000000000000000000000000000100e00019b1e1021000000050038000800000000000000dc82e00000000000040 s x3 := by
      unfold x3
      refine Keeps.trans ?_ (State_errRec_keeps.mono rfl)
      exact h2
    try clear_value x3
    refine Keeps.ite ?_ ?_
    ·
      refine Keeps.trans ?_ (restartStw_keeps.mono rfl)
      exact h3
    ·
      exact h3

theorem execAutoRestart_keeps {i : Fin 6} {s : State} :
    OutKeeps 0xd104190821c47000140000000000000000000000000000000000000000000000000000000000000000100e00009b1e1021000000050038000800000000000000dc82e00000000000040 s (execAutoRestart i s) := by
  unfold execAutoRestart
  refine OutKeeps.ite ?_ ?_
  ·
    refine done_keeps ?_
    refine Keeps.trans ?_ (restartStw_keeps.mono rfl)
    exact Keeps.refl
  ·
    refine done_keeps ?_
    exact Keeps.refl

theorem execFatalTrap_keeps {i : Fin 6} {s : State} :
    OutKeeps 0xd104190821c47000140000000000000000000000000000000000000000000000000000000000000000100e00019b1e1021000000050038000800000000000000dc82e00000000000040 s (execFatalTrap i s) := by
  unfold execFatalTrap
  refine done_keeps ?_
  refine Keeps.trans ?_ (crash_keeps.mono rfl)
  exact Keeps.refl

theorem execStewardEcc_keeps {i : Fin 6} {s : State} :
    OutKeeps 0xd104190821c47000140000000000000000000000000000000000000000000000000000000000000000100e00019b1e1021000000050038000800000000000000dc82e00000000000040 s (execStewardEcc i s) := by
  unfold execStewardEcc
  refine done_keeps ?_
  refine Keeps.trans ?_ (crash_keeps.mono rfl)
  exact Keeps.refl

theorem execWdog_keeps {i : Fin 6} {s : State} :
    OutKeeps 0xd104190821c47000140000000000000000000000000000000000000000000000000000000000000000100e00019b1e1021000000050038000800000000000000dc82e00000000000040 s (execWdog i s) := by
  unfold execWdog
  refine done_keeps ?_
  refine Keeps.trans ?_ (crash_keeps.mono rfl)
  exact Keeps.refl

theorem giveBack_keeps {s : State} {t : Nat} :
    Keeps 0xd104190821c47000140000000000000000000000000000000000000000000000000000000000000000100e00009b1e1021000000050038000800000000000000dc82e00000000000040 s (giveBack s t) := by
  unfold giveBack
  refine Keeps.trans ?_ (restartStw_keeps.mono rfl)
  refine Keeps.trans ?_ (restartStw_keeps.mono rfl)
  refine Keeps.trans ?_ (State_setStw_keeps.mono rfl)
  exact Keeps.refl

theorem activate_keeps {s : State} {i : Nat} :
    Keeps 0x2d104190821c47000140000000000000000000000000000000000000000000000000000000000000000100e04019b1e1021000290050038000800000000000000dc82e00000000000040 s (activate s i) := by
  unfold activate
  extract_lets -underBinder +onlyGivenNames x0
  have h0 : Keeps 0x2d104190821c47000140000000000000000000000000000000000000000000000000000000000000000100e04019b1e1021000290050038000800000000000000dc82e00000000000040 s x0 := by
    unfold x0
    refine Keeps.trans ?_ (State_fset_keeps (by rfl))
    exact Keeps.refl
  try clear_value x0
  refine Keeps.ite ?_ ?_
  ·
    refine Keeps.trans ?_ (endActivation_keeps.mono rfl)
    exact h0
  ·
    refine Keeps.ite ?_ ?_
    ·
      refine Keeps.trans ?_ (endActivation_keeps.mono rfl)
      exact h0
    ·
      refine Keeps.ite ?_ ?_
      ·
        refine Keeps.trans ?_ (State_fset_keeps (by rfl))
        refine Keeps.trans ?_ (State_fset_keeps (by rfl))
        exact h0
      ·
        refine Keeps.trans ?_ (beginActivating_keeps.mono rfl)
        exact h0

theorem stwRun_keeps {s : State} {i : Nat} {v : Nat} :
    Keeps 0x2d104190821c47000140000000000000000000000000000000000000000000000000000000000000000100e04019b1e1021000290050038000800000000000000dc82e00000000000040 s (stwRun s i v) := by
  unfold stwRun
  extract_lets -underBinder +onlyGivenNames x0
  try clear_value x0
  refine Keeps.ite ?_ ?_
  ·
    refine Keeps.ite ?_ ?_
    ·
      refine Keeps.trans ?_ (State_fset_keeps (by rfl))
      refine Keeps.ite ?_ ?_
      ·
        refine Keeps.trans ?_ (forgetPushes_keeps.mono rfl)
        exact Keeps.refl
      ·
        exact Keeps.refl
    ·
      exact Keeps.refl
  ·
    refine Keeps.ite ?_ ?_
    ·
      refine Keeps.trans ?_ (restartStw_keeps.mono rfl)
      exact Keeps.refl
    ·
      refine Keeps.ite ?_ ?_
      ·
        refine Keeps.trans ?_ (activate_keeps.mono rfl)
        exact Keeps.refl
      ·
        refine Keeps.ite ?_ ?_
        ·
          refine Keeps.trans ?_ (takeRole_keeps.mono rfl)
          exact Keeps.refl
        ·
          split
          ·
            refine Keeps.trans ?_ (giveBack_keeps.mono rfl)
            exact Keeps.refl
          ·
            exact Keeps.refl

theorem stwCtrl_keeps {s : State} {a : Agent} {i : Nat} {w : Word} :
    Keeps 0x2d104190821c47000140000000000000000000000000000000000000000000000000000000000000000100e04019f1e1021000290050038000800000000000000dc82e00000000000040 s (stwCtrl s a i w) := by
  unfold stwCtrl
  extract_lets -underBinder +onlyGivenNames x0
  try clear_value x0
  extract_lets -underBinder +onlyGivenNames x1
  try clear_value x1
  extract_lets -underBinder +onlyGivenNames x2
  unfold x2
  extract_lets -underBinder +onlyGivenNames x3
  unfold x3
  refine Keeps.ite ?_ ?_
  ·
    refine Keeps.ite ?_ ?_
    ·
      refine Keeps.trans ?_ (endActivation_keeps.mono rfl)
      refine Keeps.trans ?_ (State_fset_keeps (by rfl))
      exact Keeps.refl
    ·
      refine Keeps.trans ?_ (State_fset_keeps (by rfl))
      exact Keeps.refl
  ·
    refine Keeps.ite ?_ ?_
    ·
      refine Keeps.trans ?_ (badStwCmd_keeps.mono rfl)
      exact Keeps.refl
    ·
      refine Keeps.trans ?_ (stwRun_keeps.mono rfl)
      refine Keeps.ite ?_ ?_
      ·
        refine Keeps.trans ?_ (endActivation_keeps.mono rfl)
        refine Keeps.trans ?_ (State_fset_keeps (by rfl))
        exact Keeps.refl
      ·
        refine Keeps.trans ?_ (State_fset_keeps (by rfl))
        exact Keeps.refl

theorem execActivate_keeps {a : Agent} {i : Fin 6} {w : Word} {s : State} :
    OutKeeps 0x2d104190821c47000140000000000000000000000000000000000000000000000000000000000000000100e04019f1e1021068390050038000800000000000000dc82e00000000000040 s (execActivate a i w s) := by
  unfold execActivate
  refine done_keeps ?_
  refine Keeps.trans ?_ (State_access_keeps rfl (fun f0_0 => ?_))
  ·
    exact Keeps.refl
  ·
    refine Keeps.trans ?_ (stwCtrl_keeps.mono rfl)
    exact Keeps.refl

theorem execCancel_keeps {a : Agent} {i : Fin 6} {w : Word} {s : State} :
    OutKeeps 0x2d104190821c47000140000000000000000000000000000000000000000000000000000000000000000100e04019f1e1021068390050038000800000000000000dc82e00000000000040 s (execCancel a i w s) := by
  unfold execCancel
  refine done_keeps ?_
  refine Keeps.trans ?_ (State_access_keeps rfl (fun f0_0 => ?_))
  ·
    exact Keeps.refl
  ·
    refine Keeps.trans ?_ (stwCtrl_keeps.mono rfl)
    exact Keeps.refl

theorem execGiveBack_keeps {a : Agent} {w : Word} {s : State} :
    OutKeeps 0x2d104190821c47000140000000000000000000000000000000000000000000000000000000000000000100e04019f1e1021068390050038000800000000000000dc82e00000000000040 s (execGiveBack a w s) := by
  unfold execGiveBack
  refine done_keeps ?_
  refine Keeps.trans ?_ (State_access_keeps rfl (fun f0_0 => ?_))
  ·
    exact Keeps.refl
  ·
    refine Keeps.trans ?_ (stwCtrl_keeps.mono rfl)
    exact Keeps.refl

theorem execStewardRestart_keeps {a : Agent} {i : Fin 6} {w : Word} {s : State} :
    OutKeeps 0x2d104190821c47000140000000000000000000000000000000000000000000000000000000000000000100e04019f1e1021068390050038000800000000000000dc82e00000000000040 s (execStewardRestart a i w s) := by
  unfold execStewardRestart
  refine done_keeps ?_
  refine Keeps.trans ?_ (State_access_keeps rfl (fun f0_0 => ?_))
  ·
    exact Keeps.refl
  ·
    refine Keeps.trans ?_ (stwCtrl_keeps.mono rfl)
    exact Keeps.refl

theorem execStewardStart_keeps {a : Agent} {i : Fin 6} {w : Word} {s : State} :
    OutKeeps 0x2d104190821c47000140000000000000000000000000000000000000000000000000000000000000000100e04019f1e1021068390050038000800000000000000dc82e00000000000040 s (execStewardStart a i w s) := by
  unfold execStewardStart
  refine done_keeps ?_
  refine Keeps.trans ?_ (State_access_keeps rfl (fun f0_0 => ?_))
  ·
    exact Keeps.refl
  ·
    refine Keeps.trans ?_ (stwCtrl_keeps.mono rfl)
    exact Keeps.refl

theorem execStewardStop_keeps {a : Agent} {i : Fin 6} {w : Word} {s : State} :
    OutKeeps 0x2d104190821c47000140000000000000000000000000000000000000000000000000000000000000000100e04019f1e1021068390050038000800000000000000dc82e00000000000040 s (execStewardStop a i w s) := by
  unfold execStewardStop
  refine done_keeps ?_
  refine Keeps.trans ?_ (State_access_keeps rfl (fun f0_0 => ?_))
  ·
    exact Keeps.refl
  ·
    refine Keeps.trans ?_ (stwCtrl_keeps.mono rfl)
    exact Keeps.refl

theorem execTake_keeps {a : Agent} {w : Word} {s : State} :
    OutKeeps 0x2d104190821c47000140000000000000000000000000000000000000000000000000000000000000000100e04019f1e1021068390050038000800000000000000dc82e00000000000040 s (execTake a w s) := by
  unfold execTake
  refine done_keeps ?_
  refine Keeps.trans ?_ (State_access_keeps rfl (fun f0_0 => ?_))
  ·
    exact Keeps.refl
  ·
    refine Keeps.trans ?_ (stwCtrl_keeps.mono rfl)
    exact Keeps.refl

end Sys2Proof.Laws
end

