-- ==== Sys2Proof/Laws/KeepsPower.lean ====
section
/-! SUPPORT. What each operation of Sys2Proof/Machine/Power.lean may write (Laws/Keeps.lean says how a mask is read). -/
namespace Sys2Proof.Laws
open Sys2Proof Sys2Proof.Machine

set_option linter.unusedVariables false

theorem applyTrims_keeps {s : State} :
    Keeps 0x9 s (applyTrims s) := by
  unfold applyTrims
  refine Keeps.trans ?_ (Keeps.foldl (fun s0 _ => ?_) _ _)
  ·
    exact Keeps.refl
  ·
    refine Keeps.trans ?_ (State_fset_keeps (by rfl))
    refine Keeps.trans ?_ (State_fset_keeps (by rfl))
    refine Keeps.trans ?_ (State_fset_keeps (by rfl))
    exact Keeps.refl

theorem copyFields_keeps {s : State} {t : State} {fs : List Fld} :
    Keeps 0xffffffffffffffffffffffffffffffffffffffffffffffffffffffffffffffffffffffffffffffffffffffffffffffffffffffffffffffffffffffffffffffff t (copyFields s t fs) := by
  unfold copyFields
  refine Keeps.trans ?_ (Keeps.foldl (fun s0 _ => ?_) _ _)
  ·
    exact Keeps.refl
  ·
    refine Keeps.trans ?_ (State_fset_keeps (all_testBit (by rfl) _))
    exact Keeps.refl

theorem execGateLift_keeps {s : State} :
    OutKeeps 0x2000000000000000000000000000000000000000000 s (execGateLift s) := by
  unfold execGateLift
  refine done_keeps ?_
  refine Keeps.ite ?_ ?_
  ·
    exact Keeps.refl
  ·
    refine Keeps.trans ?_ (State_fset_keeps (by rfl))
    exact Keeps.refl

theorem execPwrAlertDeassert_keeps {s : State} :
    OutKeeps 0x2000000000000000000000000000000000000000000 s (execPwrAlertDeassert s) := by
  unfold execPwrAlertDeassert
  refine done_keeps ?_
  refine Keeps.trans ?_ (State_fset_keeps (by rfl))
  exact Keeps.refl

theorem execRefclkLoss_keeps {s : State} :
    OutKeeps 0x1000000000000000000000000000000000000000000000000000000000000000000000000000000000000000000000000000000000000000000000000000000000000000000000000000 s (execRefclkLoss s) := by
  unfold execRefclkLoss
  refine done_keeps ?_
  refine Keeps.trans ?_ (upd_power rfl)
  exact Keeps.refl

theorem execRefclkReturn_keeps {s : State} :
    OutKeeps 0x1000000000000000000000000000000000000000000000000000000000000000000000000000000000000000000000000000000000000000000000000000000000000000000000000000 s (execRefclkReturn s) := by
  unfold execRefclkReturn
  refine done_keeps ?_
  refine Keeps.trans ?_ (upd_power rfl)
  exact Keeps.refl

theorem keepTrims_keeps {s : State} {t : State} :
    Keeps 0x8 t (keepTrims s t) := by
  unfold keepTrims
  refine Keeps.trans ?_ (Keeps.foldl (fun s0 _ => ?_) _ _)
  ·
    exact Keeps.refl
  ·
    refine Keeps.trans ?_ (State_fset_keeps (by rfl))
    refine Keeps.trans ?_ (State_fset_keeps (by rfl))
    exact Keeps.refl

theorem limitUp_keeps {s : State} :
    Keeps 0x1000000000000000000000000000000000000000000000000000000000000000000000000000000000000000000000000000000002000000000000000000000000000000000000000000 s (limitUp s) := by
  unfold limitUp
  extract_lets -underBinder +onlyGivenNames x0
  try clear_value x0
  refine Keeps.ite ?_ ?_
  ·
    refine Keeps.trans ?_ (State_fset_keeps (by rfl))
    exact Keeps.refl
  ·
    refine Keeps.trans ?_ (upd_power rfl)
    exact Keeps.refl

theorem masterIdentity_keeps {s : State} :
    Keeps 0x400000000000000000000000000000000000000 s (masterIdentity s) := by
  unfold masterIdentity
  refine Keeps.ite ?_ ?_
  ·
    refine Keeps.trans ?_ (State_fset_keeps (by rfl))
    refine Keeps.trans ?_ (State_fset_keeps (by rfl))
    exact Keeps.refl
  ·
    exact Keeps.refl

theorem setPhase_keeps {s : State} {n : Nat} :
    Keeps 0x40000000000000000000000000000000000000000000000 s (setPhase s n) := by
  unfold setPhase
  refine Keeps.trans ?_ (State_fset_keeps (by rfl))
  exact Keeps.refl

theorem setVcmd_keeps {s : State} {d : Nat} {v : Nat} :
    Keeps 0x1000000000000000000000000000000000000000000 s (setVcmd s d v) := by
  unfold setVcmd
  refine Keeps.trans ?_ (State_fset_keeps (by split <;> rfl))
  exact Keeps.refl

theorem takePower_keeps {s : State} :
    Keeps 0x1000000000000000000000000000000000000000000000000000000000000000000000000000000000000000000000000000000000000000000000000000000000000000000000000000 s (takePower s) := by
  unfold takePower
  refine Keeps.trans ?_ (upd_power rfl)
  exact Keeps.refl

theorem applyRepair_keeps {s : State} :
    Keeps 0x2000000000000040000000000000000000000000000000000000000000000000000000000000000000000000000000000000042900000000000000000000000000000000000000000000 s (applyRepair s) := by
  unfold applyRepair
  split
  ·
    refine Keeps.trans ?_ (State_measure_keeps.mono rfl)
    refine Keeps.trans ?_ (upd_repair rfl)
    exact Keeps.refl
  ·
    refine Keeps.trans ?_ (State_fset_keeps (by rfl))
    exact Keeps.refl

theorem coldBase_keeps {s : State} {x : PowerCtx} : Keeps 0x17fffffffffffff7fffecffffffffffffffffffffffffffffffffffffffffffffffffffffffffffffffffffffffffffffffffffffffffffffffffffffffffffffffffffffffffffffffff s { State.reset with
    pending := s.pending, free := s.free, modrec := s.modrec, jtag := s.jtag, power := x } := by
  constructor
  · rfl
  · intro r i h; rw [all_testBit (by rfl) r] at h; exact absurd h (by decide)
  · exact fun _ => ⟨rfl, rfl, rfl⟩
  all_goals first | (intro _; rfl) | (intro h; exact absurd h (by decide))

theorem coldState_keeps {s : State} : Keeps 0x17fffffffffffff7fffecffffffffffffffffffffffffffffffffffffffffffffffffffffffffffffffffffffffffffffffffffffffffffffffffffffffffffffffffffffffffffffffff s (coldState s) := by
  unfold coldState
  exact Keeps.ite (coldBase_keeps.trans (copyFields_keeps.mono (by rfl))) coldBase_keeps

theorem enterEmergency_keeps {s : State} :
    Keeps 0x3000000000000000000000000000000000000000000 s (enterEmergency s) := by
  unfold enterEmergency
  extract_lets -underBinder +onlyGivenNames x0
  have h0 : Keeps 0x3000000000000000000000000000000000000000000 s x0 := by
    unfold x0
    refine Keeps.trans ?_ (State_fset_keeps (by rfl))
    refine Keeps.trans ?_ (State_fset_keeps (by rfl))
    exact Keeps.refl
  try clear_value x0
  extract_lets -underBinder +onlyGivenNames x1
  have h1 : Keeps 0x3000000000000000000000000000000000000000000 s x1 := by
    unfold x1
    refine Keeps.ite ?_ ?_
    ·
      exact h0
    ·
      refine Keeps.trans ?_ (setVcmd_keeps.mono rfl)
      exact h0
  try clear_value x1
  refine Keeps.ite ?_ ?_
  ·
    exact h1
  ·
    refine Keeps.trans ?_ (setVcmd_keeps.mono rfl)
    exact h1

theorem execColdReset_keeps {s : State} :
    OutKeeps 0x17fffffffffffff7fffecffffffffffffffffffffffffffffffffffffffffffffffffffffffffffffffffffffffffffffffffffffffffffffffffffffffffffffffffffffffffffffffff s (execColdReset s) := by
  unfold execColdReset
  refine done_keeps ?_
  refine Keeps.trans ?_ (coldState_keeps.mono rfl)
  exact Keeps.refl

theorem execLinksDone_keeps {s : State} :
    OutKeeps 0x40000000000000000000000000000000000000000000000 s (execLinksDone s) := by
  unfold execLinksDone
  refine done_keeps ?_
  refine Keeps.ite ?_ ?_
  ·
    refine Keeps.trans ?_ (setPhase_keeps.mono rfl)
    exact Keeps.refl
  ·
    exact Keeps.refl

theorem execPinGlitch_keeps {pin : FPin} {s : State} :
    OutKeeps 0x210280000000000000000000000000000000000000000000000 s (execPinGlitch pin s) := by
  unfold execPinGlitch
  split
  ·
    refine done_keeps ?_
    refine Keeps.trans ?_ (State_inchkEvt_keeps.mono rfl)
    refine Keeps.trans ?_ (State_finc_keeps (by rfl))
    exact Keeps.refl
  ·
    refine done_keeps ?_
    refine Keeps.trans ?_ (State_inchkEvt_keeps.mono rfl)
    refine Keeps.trans ?_ (State_finc_keeps (by rfl))
    exact Keeps.refl
  ·
    refine done_keeps ?_
    exact Keeps.refl
  ·
    refine done_keeps ?_
    exact Keeps.refl

theorem execPmbusTransaction_keeps {_reg : Fin 2} {_cmd : PmCmd} {fails : Nat} {s : State} :
    OutKeeps 0x210000048000000000000000000000000000000000000000000 s (execPmbusTransaction _reg _cmd fails s) := by
  unfold execPmbusTransaction
  extract_lets -underBinder +onlyGivenNames x0
  have h0 : Keeps 0x210000048000000000000000000000000000000000000000000 s x0 := by
    unfold x0
    refine Keeps.trans ?_ (State_finc_keeps (by rfl))
    exact Keeps.refl
  try clear_value x0
  refine done_keeps ?_
  refine Keeps.ite ?_ ?_
  ·
    refine Keeps.trans ?_ (State_pwrEvt_keeps.mono rfl)
    exact h0
  ·
    exact h0

theorem execPwrAlertAssert_keeps {s : State} :
    OutKeeps 0x21000004b000000000000000000000000000000000000000000 s (execPwrAlertAssert s) := by
  unfold execPwrAlertAssert
  refine OutKeeps.ite ?_ ?_
  ·
    refine done_keeps ?_
    exact Keeps.refl
  ·
    refine done_keeps ?_
    refine Keeps.trans ?_ (enterEmergency_keeps.mono rfl)
    refine Keeps.trans ?_ (State_pwrEvt_keeps.mono rfl)
    refine Keeps.trans ?_ (State_finc_keeps (by rfl))
    refine Keeps.trans ?_ (State_fset_keeps (by rfl))
    exact Keeps.refl

theorem execReady_keeps {s : State} :
    OutKeeps 0x40000000000000000000000000000000000000000000000 s (execReady s) := by
  unfold execReady
  refine done_keeps ?_
  refine Keeps.ite ?_ ?_
  ·
    refine Keeps.trans ?_ (setPhase_keeps.mono rfl)
    exact Keeps.refl
  ·
    exact Keeps.refl

theorem execResetNRelease_keeps {master : Bool} {slot : BitVec 5} {s : State} :
    OutKeeps 0x18000000000000000000000000000000000000000000000000000000000000000000000000000000000000000000000000000000000000400000000000000000000000000000000000000 s (execResetNRelease master slot s) := by
  unfold execResetNRelease
  refine OutKeeps.ite ?_ ?_
  ·
    refine done_keeps ?_
    exact Keeps.refl
  ·
    extract_lets -underBinder +onlyGivenNames x0
    try clear_value x0
    extract_lets -underBinder +onlyGivenNames x1
    try clear_value x1
    extract_lets -underBinder +onlyGivenNames x2
    have h2 : Keeps 0x18000000000000000000000000000000000000000000000000000000000000000000000000000000000000000000000000000000000000400000000000000000000000000000000000000 s x2 := by
      unfold x2
      refine Keeps.trans ?_ (upd_jtag_pins rfl rfl)
      exact Keeps.refl
    try clear_value x2
    refine done_keeps ?_
    refine Keeps.trans ?_ (masterIdentity_keeps.mono rfl)
    refine Keeps.trans ?_ (State_fset_keeps (by rfl))
    refine Keeps.trans ?_ (State_fset_keeps (by rfl))
    exact h2

theorem execRomDone_keeps {s : State} :
    OutKeeps 0x2000000000000000000000000000000000000000000000000000000000000000000000000000000000000000000000000000042900000000000000000000000000000000000000000000 s (execRomDone s) := by
  unfold execRomDone
  refine OutKeeps.ite ?_ ?_
  ·
    refine done_keeps ?_
    exact Keeps.refl
  ·
    refine OutKeeps.ite ?_ ?_
    ·
      refine done_keeps ?_
      refine Keeps.trans ?_ (setPhase_keeps.mono rfl)
      exact Keeps.refl
    ·
      refine done_keeps ?_
      refine Keeps.trans ?_ (setPhase_keeps.mono rfl)
      refine Keeps.trans ?_ (State_measure_keeps.mono rfl)
      exact Keeps.refl

theorem execStrapChange_keeps {_master : Bool} {_slot : BitVec 5} {s : State} :
    OutKeeps 0x210280000000000000000000000000000000000000000000000 s (execStrapChange _master _slot s) := by
  unfold execStrapChange
  refine done_keeps ?_
  refine Keeps.trans ?_ (State_inchkEvt_keeps.mono rfl)
  refine Keeps.trans ?_ (State_finc_keeps (by rfl))
  exact Keeps.refl

theorem execVauxLoss_keeps {s : State} :
    OutKeeps 0x17fffffffffffff7fffecffffffffffffffffffffffffffffffffffffffffffffffffffffffffffffffffffffffffffffffffffffffffffffffffffffffffffffffffffffffffffffffff s (execVauxLoss s) := by
  unfold execVauxLoss
  refine done_keeps ?_
  refine Keeps.trans ?_ (coldState_keeps.mono rfl)
  exact Keeps.refl

theorem execVcoreRampStep_keeps {d : Fin 2} {s : State} :
    OutKeeps 0x1000000000000000000000000000000000000000000 s (execVcoreRampStep d s) := by
  unfold execVcoreRampStep
  refine OutKeeps.ite ?_ ?_
  ·
    refine done_keeps ?_
    refine Keeps.trans ?_ (setVcmd_keeps.mono rfl)
    exact Keeps.refl
  ·
    refine done_keeps ?_
    exact Keeps.refl

theorem execVrStatusPoll_keeps {bad0 : Bool} {bad1 : Bool} {s : State} :
    OutKeeps 0x210000008000000000000000000000000000000000000000000 s (execVrStatusPoll bad0 bad1 s) := by
  unfold execVrStatusPoll
  extract_lets -underBinder +onlyGivenNames x0
  have h0 : Keeps 0x210000008000000000000000000000000000000000000000000 s x0 := by
    unfold x0
    refine Keeps.ite ?_ ?_
    ·
      refine Keeps.trans ?_ (State_pwrEvt_keeps.mono rfl)
      exact Keeps.refl
    ·
      exact Keeps.refl
  try clear_value x0
  refine done_keeps ?_
  refine Keeps.ite ?_ ?_
  ·
    refine Keeps.trans ?_ (State_pwrEvt_keeps.mono rfl)
    exact h0
  ·
    exact h0

theorem firstCmd_keeps {s : State} {d : Nat} :
    Keeps 0x1000000000000000000000000000000000000000000 s (firstCmd s d) := by
  unfold firstCmd
  refine Keeps.trans ?_ (setVcmd_keeps.mono rfl)
  exact Keeps.refl

theorem halted_keeps {s : State} {code : Nat} :
    Keeps 0x40000000000000000000000000000000000000000000000 s (halted s code) := by
  unfold halted
  refine Keeps.trans ?_ (State_fset_keeps (by rfl))
  refine Keeps.trans ?_ (setPhase_keeps.mono rfl)
  exact Keeps.refl

theorem limitDown_keeps {s : State} :
    Keeps 0x100000000000000000000000000000000000000000000000000000000000000000000000000000000000000000000000021000000a000000000000000000000000000000000000000000 s (limitDown s) := by
  unfold limitDown
  extract_lets -underBinder +onlyGivenNames x0
  try clear_value x0
  refine Keeps.ite ?_ ?_
  ·
    extract_lets -underBinder +onlyGivenNames x1
    try clear_value x1
    refine Keeps.ite ?_ ?_
    ·
      exact Keeps.refl
    ·
      extract_lets -underBinder +onlyGivenNames x2
      have h2 : Keeps 0x100000000000000000000000000000000000000000000000000000000000000000000000000000000000000000000000021000000a000000000000000000000000000000000000000000 s x2 := by
        unfold x2
        refine Keeps.trans ?_ (State_fset_keeps (by rfl))
        exact Keeps.refl
      try clear_value x2
      refine Keeps.ite ?_ ?_
      ·
        refine Keeps.trans ?_ (State_pwrEvt_keeps.mono rfl)
        exact h2
      ·
        exact h2
  ·
    refine Keeps.trans ?_ (upd_power rfl)
    exact Keeps.refl

theorem lowerCmd_keeps {s : State} {d : Nat} :
    Keeps 0x1000000000000000000000000000000000000000000 s (lowerCmd s d) := by
  unfold lowerCmd
  refine Keeps.ite ?_ ?_
  ·
    refine Keeps.trans ?_ (setVcmd_keeps.mono rfl)
    exact Keeps.refl
  ·
    exact Keeps.refl

theorem powerInterval_keeps {s : State} {watts : Nat} :
    Keeps 0x100000000000000000000000000000000000000000000000000000000000000000000000000000000000000000000000021000002b000000000000000000000000000000000000000000 s (powerInterval s watts) := by
  unfold powerInterval
  extract_lets -underBinder +onlyGivenNames x0
  have h0 : Keeps 0x100000000000000000000000000000000000000000000000000000000000000000000000000000000000000000000000021000002b000000000000000000000000000000000000000000 s x0 := by
    unfold x0
    refine Keeps.ite ?_ ?_
    ·
      exact Keeps.refl
    ·
      refine Keeps.trans ?_ (takePower_keeps.mono rfl)
      exact Keeps.refl
  try clear_value x0
  extract_lets -underBinder +onlyGivenNames x1
  have h1 : Keeps 0x100000000000000000000000000000000000000000000000000000000000000000000000000000000000000000000000021000002b000000000000000000000000000000000000000000 s x1 := by
    unfold x1
    refine Keeps.trans ?_ (State_fset_keeps (by rfl))
    exact h0
  try clear_value x1
  extract_lets -underBinder +onlyGivenNames x2
  have h2 : Keeps 0x100000000000000000000000000000000000000000000000000000000000000000000000000000000000000000000000021000002b000000000000000000000000000000000000000000 s x2 := by
    unfold x2
    refine Keeps.ite ?_ ?_
    ·
      refine Keeps.trans ?_ (limitDown_keeps.mono rfl)
      exact h1
    ·
      refine Keeps.ite ?_ ?_
      ·
        refine Keeps.trans ?_ (limitUp_keeps.mono rfl)
        exact h1
      ·
        exact h1
  try clear_value x2
  refine Keeps.ite ?_ ?_
  ·
    exact h2
  ·
    refine Keeps.trans ?_ (lowerCmd_keeps.mono rfl)
    refine Keeps.trans ?_ (lowerCmd_keeps.mono rfl)
    exact h2

theorem recordDone_keeps {s : State} {voutModeOk : Bool} :
    Keeps 0x2008000000000040000000000000000000000000000000000000000000000000000000000000000000000400000000000000042901000000000000000000000000000000000000000009 s (recordDone s voutModeOk) := by
  unfold recordDone
  refine Keeps.ite ?_ ?_
  ·
    refine Keeps.trans ?_ (halted_keeps.mono rfl)
    exact Keeps.refl
  ·
    extract_lets -underBinder +onlyGivenNames x0
    have h0 : Keeps 0x2008000000000040000000000000000000000000000000000000000000000000000000000000000000000400000000000000042901000000000000000000000000000000000000000009 s x0 := by
      unfold x0
      refine Keeps.trans ?_ (State_measure_keeps.mono rfl)
      refine Keeps.trans ?_ (applyTrims_keeps.mono rfl)
      exact Keeps.refl
    try clear_value x0
    refine Keeps.ite ?_ ?_
    ·
      refine Keeps.trans ?_ (halted_keeps.mono rfl)
      exact h0
    ·
      extract_lets -underBinder +onlyGivenNames x1
      have h1 : Keeps 0x2008000000000040000000000000000000000000000000000000000000000000000000000000000000000400000000000000042901000000000000000000000000000000000000000009 s x1 := by
        unfold x1
        refine Keeps.trans ?_ (applyRepair_keeps.mono rfl)
        exact h0
      try clear_value x1
      refine Keeps.ite ?_ ?_
      ·
        refine Keeps.trans ?_ (halted_keeps.mono rfl)
        exact h1
      ·
        extract_lets -underBinder +onlyGivenNames x2
        have h2 : Keeps 0x2008000000000040000000000000000000000000000000000000000000000000000000000000000000000400000000000000042901000000000000000000000000000000000000000009 s x2 := by
          unfold x2
          refine Keeps.trans ?_ (Keeps.foldl (fun s3 _ => ?_) _ _)
          ·
            refine Keeps.trans ?_ (firstCmd_keeps.mono rfl)
            refine Keeps.trans ?_ (firstCmd_keeps.mono rfl)
            exact h1
          ·
            refine Keeps.trans ?_ (startPort_keeps.mono rfl)
            exact Keeps.refl
        try clear_value x2
        refine Keeps.trans ?_ (setPhase_keeps.mono rfl)
        refine Keeps.trans ?_ (upd_coldPorts rfl)
        exact h2

theorem tripCheck_keeps {s : State} {tj : Nat} :
    Keeps 0x21000004b000000000000000000000000000000000000000000 s (tripCheck s tj) := by
  unfold tripCheck
  refine Keeps.ite ?_ ?_
  ·
    refine Keeps.trans ?_ (enterEmergency_keeps.mono rfl)
    refine Keeps.trans ?_ (State_pwrEvt_keeps.mono rfl)
    refine Keeps.trans ?_ (State_finc_keeps (by rfl))
    refine Keeps.trans ?_ (State_fset_keeps (by rfl))
    exact Keeps.refl
  ·
    refine Keeps.ite ?_ ?_
    ·
      refine Keeps.trans ?_ (State_fset_keeps (by rfl))
      exact Keeps.refl
    ·
      exact Keeps.refl

theorem warmBase_keeps {s : State} {x : List Page} {d : List (Nat × Desc)} {y : List (Nat × Core)} {z : SecCtx} {w : Pins} :
    Keeps 0x16ff7feffffffdf3ffc2affffffffffffffffffffffffffffffffffffffffffffffffffffffffffffffffffffffffffffffffffffffffffffffffffffffffffffffffffffffffffffffff s { State.reset with
      pending := s.pending, free := s.free + 1, readback := s.readback
      regs := keepRegs s warmRegs
      dram := s.dram, tens := s.tens, badPhys := s.badPhys, badTens := s.badTens
      pages := x, keptDescs := d, coldPorts := s.coldPorts
      repair := s.repair, modrec := s.modrec, trkSaved := s.trkSaved, cores := y, ports := s.ports
      power := s.power
      sec := z
      jtag := s.jtag, pins := w } := by
  constructor
  · rfl
  · intro r i h; rw [all_testBit (by rfl) r] at h; exact absurd h (by decide)
  · exact fun c => ⟨spWf_filter _ c.1, c.2.1, c.2.2⟩
  all_goals first | (intro _; rfl) | (intro h; exact absurd h (by decide))

theorem warmState_keeps {s : State} : Keeps 0x16ff7feffffffdf3ffc2affffffffffffffffffffffffffffffffffffffffffffffffffffffffffffffffffffffffffffffffffffffffffffffffffffffffffffffffffffffffffffffff s (warmState s) := by
  unfold warmState
  exact ((((((warmBase_keeps.trans (copyFields_keeps.mono (by rfl))).trans (keepTrims_keeps.mono (by rfl))).trans
    (masterIdentity_keeps.mono (by rfl))).trans (State_fset_keeps rfl)).trans (State_fset_keeps rfl)).trans
    (State_measure_keeps.mono (by rfl)))

theorem warnCheck_keeps {s : State} {tj : Nat} :
    Keeps 0x21000000a000000000000000000000000000000000000000000 s (warnCheck s tj) := by
  unfold warnCheck
  extract_lets -underBinder +onlyGivenNames x0
  try clear_value x0
  refine Keeps.ite ?_ ?_
  ·
    refine Keeps.trans ?_ (State_pwrEvt_keeps.mono rfl)
    refine Keeps.trans ?_ (State_fset_keeps (by rfl))
    exact Keeps.refl
  ·
    refine Keeps.ite ?_ ?_
    ·
      refine Keeps.trans ?_ (State_fset_keeps (by rfl))
      exact Keeps.refl
    ·
      exact Keeps.refl

theorem critCheck_keeps {s : State} {tj : Nat} :
    Keeps 0x21000000b000000000000000000000000000000000000000000 s (critCheck s tj) := by
  unfold critCheck
  refine Keeps.ite ?_ ?_
  ·
    refine Keeps.trans ?_ (enterEmergency_keeps.mono rfl)
    refine Keeps.trans ?_ (State_pwrEvt_keeps.mono rfl)
    refine Keeps.trans ?_ (State_fset_keeps (by rfl))
    exact Keeps.refl
  ·
    refine Keeps.ite ?_ ?_
    ·
      refine Keeps.trans ?_ (State_fset_keeps (by rfl))
      exact Keeps.refl
    ·
      exact Keeps.refl

theorem execDramTrainingDone_keeps {ok : Bool} {s : State} :
    OutKeeps 0x40000000000000000000000000000000000000000000000 s (execDramTrainingDone ok s) := by
  unfold execDramTrainingDone
  refine OutKeeps.ite ?_ ?_
  ·
    refine done_keeps ?_
    exact Keeps.refl
  ·
    refine done_keeps ?_
    refine Keeps.ite ?_ ?_
    ·
      refine Keeps.trans ?_ (State_fset_keeps (by rfl))
      exact Keeps.refl
    ·
      refine Keeps.trans ?_ (halted_keeps.mono rfl)
      exact Keeps.refl

theorem execPowerInterval_keeps {watts : Nat} {s : State} :
    OutKeeps 0x100000000000000000000000000000000000000000000000000000000000000000000000000000000000000000000000021000002b000000000000000000000000000000000000000000 s (execPowerInterval watts s) := by
  unfold execPowerInterval
  refine done_keeps ?_
  refine Keeps.trans ?_ (powerInterval_keeps.mono rfl)
  exact Keeps.refl

theorem execRecordDone_keeps {voutModeOk : Bool} {s : State} :
    OutKeeps 0x2008000000000040000000000000000000000000000000000000000000000000000000000000000000000400000000000000042901000000000000000000000000000000000000000009 s (execRecordDone voutModeOk s) := by
  unfold execRecordDone
  refine done_keeps ?_
  refine Keeps.ite ?_ ?_
  ·
    refine Keeps.trans ?_ (recordDone_keeps.mono rfl)
    exact Keeps.refl
  ·
    exact Keeps.refl

theorem thermalReport_keeps {s : State} {d : Nat} {t : Int} :
    Keeps 0x100000000000000000000000000000000000000000000000000000000000000000000000000000000000000000000000021000004f000000000000000000000000000000000000000000 s (thermalReport s d t) := by
  unfold thermalReport
  extract_lets -underBinder +onlyGivenNames x0
  try clear_value x0
  extract_lets -underBinder +onlyGivenNames x1
  try clear_value x1
  extract_lets -underBinder +onlyGivenNames x2
  try clear_value x2
  extract_lets -underBinder +onlyGivenNames x3
  have h3 : Keeps 0x100000000000000000000000000000000000000000000000000000000000000000000000000000000000000000000000021000004f000000000000000000000000000000000000000000 s x3 := by
    unfold x3
    refine Keeps.trans ?_ (State_fset_keeps (by rfl))
    refine Keeps.trans ?_ (upd_power rfl)
    exact Keeps.refl
  try clear_value x3
  refine Keeps.trans ?_ (critCheck_keeps.mono rfl)
  refine Keeps.trans ?_ (tripCheck_keeps.mono rfl)
  refine Keeps.trans ?_ (warnCheck_keeps.mono rfl)
  exact h3

theorem warmHere_keeps {p : Nat} {s : State} {q : Packet} :
    Keeps 0x16ff7feffffffdf3ffc2affffffffffffffffffffffffffffffffffffffffffffffffffffffffffffffffffffffffffffffffffffffffffffffffffffffffffffffffffffffffffffffff s (warmHere p s q) := by
  unfold warmHere
  extract_lets -underBinder +onlyGivenNames x0
  try clear_value x0
  refine Keeps.ite ?_ ?_
  ·
    refine Keeps.trans ?_ (badPacket_keeps.mono rfl)
    exact Keeps.refl
  ·
    refine Keeps.trans ?_ (warmState_keeps.mono rfl)
    exact Keeps.refl

theorem execThermalReport_keeps {die : Fin 11} {celsius : Int} {s : State} :
    OutKeeps 0x100000000000000000000000000000000000000000000000000000000000000000000000000000000000000000000000021000004f000000000000000000000000000000000000000000 s (execThermalReport die celsius s) := by
  unfold execThermalReport
  refine done_keeps ?_
  refine Keeps.trans ?_ (thermalReport_keeps.mono rfl)
  exact Keeps.refl

theorem execWarmReset_keeps {port : Fin 16} {pkt : Packet} {s : State} :
    OutKeeps 0x16ff7ffffffffdf3ffc2affffffffffffffffffffffffffffffffffffffffffffffffffffffffffffffffffffffffffffffffffffffffffffffffffffffffffffffffffffffffffffffff s (execWarmReset port pkt s) := by
  unfold execWarmReset
  refine done_keeps ?_
  refine Keeps.trans ?_ (arrive_keeps rfl (fun f0_0 f0_1 => ?_))
  ·
    exact Keeps.refl
  ·
    refine Keeps.trans ?_ (warmHere_keeps.mono rfl)
    exact Keeps.refl

theorem emergencyEnd_keeps {s : State} :
    Keeps 0x3d104190821c47000140000000000000000000000000000000000000000000000000000000000000000100e04009b1e1021000290a50038000800000000000000dc82e00000000000040 s (emergencyEnd s) := by
  unfold emergencyEnd
  extract_lets -underBinder +onlyGivenNames x0
  have h0 : Keeps 0x3d104190821c47000140000000000000000000000000000000000000000000000000000000000000000100e04009b1e1021000290a50038000800000000000000dc82e00000000000040 s x0 := by
    unfold x0
    refine Keeps.trans ?_ (State_pwrEvt_keeps.mono rfl)
    refine Keeps.trans ?_ (State_fset_keeps (by rfl))
    refine Keeps.trans ?_ (State_fset_keeps (by rfl))
    exact Keeps.refl
  try clear_value x0
  extract_lets -underBinder +onlyGivenNames x1
  have h1 : Keeps 0x3d104190821c47000140000000000000000000000000000000000000000000000000000000000000000100e04009b1e1021000290a50038000800000000000000dc82e00000000000040 s x1 := by
    unfold x1
    refine Keeps.trans ?_ (takePower_keeps.mono rfl)
    exact h0
  try clear_value x1
  refine Keeps.ite ?_ ?_
  ·
    refine Keeps.trans ?_ (beginActivating_keeps.mono rfl)
    exact h1
  ·
    exact h1

theorem execEmergencyEnd_keeps {s : State} :
    OutKeeps 0x3d104190821c47000140000000000000000000000000000000000000000000000000000000000000000100e04009b1e1021000290a50038000800000000000000dc82e00000000000040 s (execEmergencyEnd s) := by
  unfold execEmergencyEnd
  refine done_keeps ?_
  refine Keeps.ite ?_ ?_
  ·
    refine Keeps.trans ?_ (emergencyEnd_keeps.mono rfl)
    exact Keeps.refl
  ·
    exact Keeps.refl

end Sys2Proof.Laws
end

