-- ==== Sys2Proof/Laws/KeepsUnits.lean ====
section
/-! SUPPORT. What each operation of Sys2Proof/Machine/Units.lean may write (Laws/Keeps.lean says how a mask is read). -/
namespace Sys2Proof.Laws
open Sys2Proof Sys2Proof.Machine

set_option linter.unusedVariables false

theorem pumpArr_keeps {s : State} {c : Nat} {a : Arr} :
    Keeps 0x200000000000000000000000000000000000000000000000000000000000000000000000000000000000000000000000000000000000000000000000000000000000000 s (pumpArr s c a) := by
  unfold pumpArr
  extract_lets -underBinder +onlyGivenNames x0
  try clear_value x0
  refine Keeps.ite ?_ ?_
  ·
    exact Keeps.refl
  ·
    extract_lets -underBinder +onlyGivenNames x1
    try clear_value x1
    split
    ·
      exact Keeps.refl
    ·
      extract_lets -underBinder +onlyGivenNames x2
      try clear_value x2
      extract_lets -underBinder +onlyGivenNames x3
      try clear_value x3
      refine Keeps.trans ?_ (State_setCore_keeps.mono rfl)
      exact Keeps.refl

theorem pumpArrays_keeps {s : State} {c : Nat} :
    Keeps 0x200000000000000000000000000000000000000000000000000000000000000000000000000000000000000000000000000000000000000000000000000000000000000 s (pumpArrays s c) := by
  unfold pumpArrays
  refine Keeps.trans ?_ (Keeps.foldl (fun s0 _ => ?_) _ _)
  ·
    exact Keeps.refl
  ·
    refine Keeps.trans ?_ (pumpArr_keeps.mono rfl)
    exact Keeps.refl

theorem landOut_keeps {s : State} {c : Nat} {f : Flight} {o : UnitOut} :
    Keeps 0x100090821c470007820000000000000000000000000000000000000000000000000000000000000000000000000000021000000010000000000000000014000d880000000000000040 s (landOut s c f o) := by
  unfold landOut
  refine Keeps.trans ?_ (Keeps.foldl (fun s0 _ => ?_) _ _)
  ·
    exact Keeps.refl
  ·
    extract_lets -underBinder +onlyGivenNames x1
    have h1 : Keeps 0x100090821c470007820000000000000000000000000000000000000000000000000000000000000000000000000000021000000010000000000000000014000d880000000000000040 s0 x1.1 := by
      unfold x1
      refine Keeps.trans ?_ (State_corePut_keeps.mono rfl)
      exact Keeps.refl
    try clear_value x1
    refine Keeps.trans ?_ (State_writeFail_keeps.mono rfl)
    exact h1

theorem finishOther_keeps {s : State} {c : Nat} {st : Strm} {f : Flight} {t : Nat} :
    Keeps 0xc100090821c470007c2000000000000000000000000000000000000000000000000000000000000000000e000000000021000000050000000800000200014e00d880190641c9dc82940 s (finishOther s c st f t) := by
  unfold finishOther
  extract_lets -underBinder +onlyGivenNames x0
  try clear_value x0
  extract_lets -underBinder +onlyGivenNames x1
  have h1 : Keeps 0xc100090821c470007c2000000000000000000000000000000000000000000000000000000000000000000e000000000021000000050000000800000200014e00d880190641c9dc82940 s x1 := by
    unfold x1
    refine Keeps.ite ?_ ?_
    ·
      refine Keeps.trans ?_ (attChannel_keeps.mono rfl)
      exact Keeps.refl
    ·
      exact Keeps.refl
  try clear_value x1
  extract_lets -underBinder +onlyGivenNames x2
  try clear_value x2
  split
  ·
    refine Keeps.trans ?_ (uncorrCore_keeps.mono rfl)
    exact h1
  ·
    extract_lets -underBinder +onlyGivenNames x3
    try clear_value x3
    extract_lets -underBinder +onlyGivenNames x4
    have h4 : Keeps 0xc100090821c470007c2000000000000000000000000000000000000000000000000000000000000000000e000000000021000000050000000800000200014e00d880190641c9dc82940 s x4 := by
      unfold x4
      refine Keeps.trans ?_ (Keeps.foldl (fun s5 _ => ?_) _ _)
      ·
        refine Keeps.trans ?_ (UnitOut_touch_keeps.mono rfl)
        exact h1
      ·
        refine Keeps.trans ?_ (State_tally_keeps.mono rfl)
        exact Keeps.refl
    try clear_value x4
    refine Keeps.ite ?_ ?_
    ·
      refine Keeps.trans ?_ (duplicate_keeps.mono rfl)
      exact h4
    ·
      refine Keeps.trans ?_ (landOut_keeps.mono rfl)
      refine Keeps.trans ?_ (claim_keeps.mono rfl)
      exact h4

theorem finishProduct_keeps {s : State} {c : Nat} {st : Strm} {f : Flight} {r : UnitRec} {bad : Bool} :
    Keeps 0xc100090821c470007c2000000000000000000000000000000000000000000000000000000000000000000e000000000021000000050000000800004000014e00d880000642484082940 s (finishProduct s c st f r bad) := by
  unfold finishProduct
  extract_lets -underBinder +onlyGivenNames x0
  try clear_value x0
  refine Keeps.ite ?_ ?_
  ·
    refine Keeps.trans ?_ (State_coreStepFault_keeps.mono rfl)
    exact Keeps.refl
  ·
    refine Keeps.ite ?_ ?_
    ·
      refine Keeps.trans ?_ (deliverSlice_keeps.mono rfl)
      exact Keeps.refl
    ·
      refine Keeps.ite ?_ ?_
      ·
        refine Keeps.trans ?_ (deliverTile_keeps.mono rfl)
        exact Keeps.refl
      ·
        refine Keeps.trans ?_ (deliverPart_keeps.mono rfl)
        exact Keeps.refl

theorem stageUnit_keeps {M : Nat} {s : State} {c : Nat} {st : Strm} {f : Flight} {t : Nat} {put : State → UnitRec → State} {replay : Bool} (hM : Within 0xc100090821c47000540000000000000000000000000000000000000000000000000000000000000000000e000000000021000000050000000800000000004e00d88000064000e080140 M) (hf5 : ∀ a0 a1, Keeps M a0 (put a0 a1)) :
    Keeps M s (stageUnit s c st f t put replay) := by
  unfold stageUnit
  refine Keeps.ite ?_ ?_
  ·
    refine Keeps.trans ?_ (runUnit_keeps (Within.via hM rfl) (fun f0_0 f0_1 => ?_))
    ·
      exact Keeps.refl
    ·
      refine Keeps.trans ?_ (hf5 ..)
      exact Keeps.refl
  ·
    extract_lets -underBinder +onlyGivenNames x1
    try clear_value x1
    refine Keeps.trans ?_ (hf5 ..)
    exact Keeps.refl

theorem completeNow_keeps {s : State} {c : Nat} {st : Strm} {chk : UnitCheck} :
    Keeps 0xc104191efffd70007c2000000000000000000000000000000000000000000000000000000000000000100e000000000021000000070000096800004200014e00dc8af90643c9dc86dc0 s (completeNow s c st chk) := by
  unfold completeNow
  split
  ·
    exact Keeps.refl
  ·
    extract_lets -underBinder +onlyGivenNames x0
    try clear_value x0
    split
    ·
      refine Keeps.trans ?_ (setUnits_keeps.mono rfl)
      exact Keeps.refl
    ·
      extract_lets -underBinder +onlyGivenNames x1
      have h1 : Keeps 0xc104191efffd70007c2000000000000000000000000000000000000000000000000000000000000000100e000000000021000000070000096800004200014e00dc8af90643c9dc86dc0 s x1 := by
        unfold x1
        refine Keeps.ite ?_ ?_
        ·
          refine Keeps.trans ?_ (State_countPass_keeps.mono rfl)
          exact Keeps.refl
        ·
          exact Keeps.refl
      try clear_value x1
      extract_lets -underBinder +onlyGivenNames x2
      have h2 : Keeps 0xc104191efffd70007c2000000000000000000000000000000000000000000000000000000000000000100e000000000021000000070000096800004200014e00dc8af90643c9dc86dc0 s x2 := by
        unfold x2
        split
        ·
          refine Keeps.trans ?_ (State_finc_keeps (by rfl))
          exact h1
        ·
          exact h1
      try clear_value x2
      split
      ·
        extract_lets -underBinder +onlyGivenNames x3
        have h3 : Keeps 0xc104191efffd70007c2000000000000000000000000000000000000000000000000000000000000000100e000000000021000000070000096800004200014e00dc8af90643c9dc86dc0 s x3 := by
          unfold x3
          refine Keeps.trans ?_ (State_finc_keeps (by rfl))
          refine Keeps.trans ?_ (setUnits_keeps.mono rfl)
          exact h2
        try clear_value x3
        extract_lets -underBinder +onlyGivenNames x4
        have h4 : Keeps 0xc104191efffd70007c2000000000000000000000000000000000000000000000000000000000000000100e000000000021000000070000096800004200014e00dc8af90643c9dc86dc0 s x4 := by
          unfold x4
          refine Keeps.ite ?_ ?_
          ·
            refine Keeps.trans ?_ (finishProduct_keeps.mono rfl)
            exact h3
          ·
            refine Keeps.trans ?_ (finishOther_keeps.mono rfl)
            exact h3
        try clear_value x4
        refine Keeps.trans ?_ (replayDone_keeps.mono rfl)
        exact h4
      ·
        extract_lets -underBinder +onlyGivenNames x5
        have h5 : Keeps 0xc104191efffd70007c2000000000000000000000000000000000000000000000000000000000000000100e000000000021000000070000096800004200014e00dc8af90643c9dc86dc0 s x5 := by
          unfold x5
          refine Keeps.trans ?_ (State_finc_keeps (by rfl))
          refine Keeps.trans ?_ (setUnits_keeps.mono rfl)
          exact h2
        try clear_value x5
        extract_lets -underBinder +onlyGivenNames x6
        have h6 : Keeps 0xc104191efffd70007c2000000000000000000000000000000000000000000000000000000000000000100e000000000021000000070000096800004200014e00dc8af90643c9dc86dc0 s x6 := by
          unfold x6
          refine Keeps.ite ?_ ?_
          ·
            refine Keeps.trans ?_ (finishProduct_keeps.mono rfl)
            exact h5
          ·
            refine Keeps.trans ?_ (finishOther_keeps.mono rfl)
            exact h5
        try clear_value x6
        refine Keeps.trans ?_ (replayDone_keeps.mono rfl)
        exact h6
      ·
        extract_lets -underBinder +onlyGivenNames x7
        have h7 : Keeps 0xc104191efffd70007c2000000000000000000000000000000000000000000000000000000000000000100e000000000021000000070000096800004200014e00dc8af90643c9dc86dc0 s x7 := by
          unfold x7
          refine Keeps.trans ?_ (State_finc_keeps (by rfl))
          refine Keeps.trans ?_ (setUnits_keeps.mono rfl)
          exact h2
        try clear_value x7
        extract_lets -underBinder +onlyGivenNames x8
        have h8 : Keeps 0xc104191efffd70007c2000000000000000000000000000000000000000000000000000000000000000100e000000000021000000070000096800004200014e00dc8af90643c9dc86dc0 s x8 := by
          unfold x8
          refine Keeps.ite ?_ ?_
          ·
            refine Keeps.trans ?_ (finishProduct_keeps.mono rfl)
            exact h7
          ·
            refine Keeps.trans ?_ (finishOther_keeps.mono rfl)
            exact h7
        try clear_value x8
        refine Keeps.trans ?_ (replayDone_keeps.mono rfl)
        exact h8
      ·
        refine Keeps.trans ?_ (unitFault_keeps.mono rfl)
        exact h2

theorem completeUnit_keeps {s : State} {c : Nat} {st : Strm} {chk : UnitCheck} :
    Keeps 0xc104191efffd70007c2000000000000000000000000000000000000000000000000000000000000000100e000000000021000000070000096800004200014e00dc8af90643c9dc86dc0 s (completeUnit s c st chk) := by
  unfold completeUnit
  refine Keeps.trans ?_ (pumpArrays_keeps.mono rfl)
  refine Keeps.trans ?_ (completeNow_keeps.mono rfl)
  refine Keeps.trans ?_ (pumpArrays_keeps.mono rfl)
  exact Keeps.refl

theorem execUnitComplete_keeps {c : Fin 1056} {st : Strm} {chk : UnitCheck} {s : State} :
    OutKeeps 0xc104191efffd70007c2000000000000000000000000000000000000000000000000000000000000000100e000000000021000000070000096800004200014e00dc8af90643c9dc86dc0 s (execUnitComplete c st chk s) := by
  unfold execUnitComplete
  refine done_keeps ?_
  refine Keeps.trans ?_ (completeUnit_keeps.mono rfl)
  exact Keeps.refl

theorem fetchNext_keeps {s : State} {c : Nat} {st : Strm} :
    Keeps 0xc100090821c47000742000000000000000000000000000000000000000000000000000000000000000000e000000000021000000050000000800000000014e00d88000064000e080140 s (fetchNext s c st) := by
  unfold fetchNext
  extract_lets -underBinder +onlyGivenNames x0
  try clear_value x0
  split
  ·
    split
    ·
      exact Keeps.refl
    ·
      split
      ·
        refine Keeps.trans ?_ (setUnits_keeps.mono rfl)
        exact Keeps.refl
      ·
        refine Keeps.trans ?_ (stageUnit_keeps rfl (fun f1_0 f1_1 => ?_))
        ·
          exact Keeps.refl
        ·
          refine Keeps.trans ?_ (setUnits_keeps.mono rfl)
          exact Keeps.refl
  ·
    split
    ·
      exact Keeps.refl
    ·
      refine Keeps.ite ?_ ?_
      ·
        exact Keeps.refl
      ·
        refine Keeps.ite ?_ ?_
        ·
          refine Keeps.trans ?_ (State_walkEnd_keeps.mono rfl)
          exact Keeps.refl
        ·
          extract_lets -underBinder +onlyGivenNames x2
          try clear_value x2
          extract_lets -underBinder +onlyGivenNames x3
          have h3 : Keeps 0xc100090821c47000742000000000000000000000000000000000000000000000000000000000000000000e000000000021000000050000000800000000014e00d88000064000e080140 s x3 := by
            unfold x3
            refine Keeps.trans ?_ (State_updFlight_keeps.mono rfl)
            exact Keeps.refl
          try clear_value x3
          refine Keeps.ite ?_ ?_
          ·
            refine Keeps.trans ?_ (deliverEmpty_keeps.mono rfl)
            exact h3
          ·
            refine Keeps.trans ?_ (stageUnit_keeps rfl (fun f4_0 f4_1 => ?_))
            ·
              exact h3
            ·
              refine Keeps.trans ?_ (setUnits_keeps.mono rfl)
              exact Keeps.refl

theorem fetchUnit_keeps {s : State} {c : Nat} {st : Strm} :
    Keeps 0xc100090821c47000742000000000000000000000000000000000000000000000000000000000000000000e000000000021000000050000000800000000014e00d88000064000e080140 s (fetchUnit s c st) := by
  unfold fetchUnit
  refine Keeps.trans ?_ (pumpArrays_keeps.mono rfl)
  refine Keeps.trans ?_ (fetchNext_keeps.mono rfl)
  refine Keeps.trans ?_ (pumpArrays_keeps.mono rfl)
  exact Keeps.refl

theorem execSkeinFetch_keeps {c : Fin 1056} {st : Strm} {s : State} :
    OutKeeps 0xc100090821c47000742000000000000000000000000000000000000000000000000000000000000000000e000000000021000000050000000800000000014e00d88000064000e080140 s (execSkeinFetch c st s) := by
  unfold execSkeinFetch
  refine done_keeps ?_
  refine Keeps.trans ?_ (fetchUnit_keeps.mono rfl)
  exact Keeps.refl

end Sys2Proof.Laws
end

