-- ==== Sys2Proof/Laws/KeepsReplicas.lean ====
section
/-! SUPPORT. What each operation of Sys2Proof/Machine/Replicas.lean may write (Laws/Keeps.lean says how a mask is read). -/
namespace Sys2Proof.Laws
open Sys2Proof Sys2Proof.Machine

set_option linter.unusedVariables false

theorem putTile_keeps {s : State} {h : Nat} {t : Nat} {vs : List Word} :
    Keeps 0x8000000000000000000000000000000000000000000000000000000000000000000000000000000000000000000000000000000000000000000000000000000000000000 s (putTile s h t vs) := by
  unfold putTile
  split
  ·
    extract_lets -underBinder +onlyGivenNames x0
    try clear_value x0
    refine Keeps.trans ?_ (upd_windows rfl)
    exact Keeps.refl
  ·
    refine Keeps.trans ?_ (upd_windows rfl)
    exact Keeps.refl

theorem setMask_keeps {s : State} {m : Mask} :
    Keeps 0x400000000000000000000000000000000000000000000000000000000000000000000000000000000000000000000000000000000000000000000000000000000000000000 s (setMask s m) := by
  unfold setMask
  refine Keeps.trans ?_ (upd_masks rfl)
  exact Keeps.refl

theorem takeReduced_keeps {s : State} {x : Contribution} :
    Keeps 0x1008000000000000000000000000000000000000000000000000000000000000000000000000000000000000000000000000000000000000000000000000000000000000000 s (takeReduced s x) := by
  unfold takeReduced
  extract_lets -underBinder +onlyGivenNames x0
  try clear_value x0
  extract_lets -underBinder +onlyGivenNames x1
  try clear_value x1
  extract_lets -underBinder +onlyGivenNames x2
  have h2 : Keeps 0x1008000000000000000000000000000000000000000000000000000000000000000000000000000000000000000000000000000000000000000000000000000000000000000 s x2 := by
    unfold x2
    refine Keeps.trans ?_ (upd_sentTiles rfl)
    exact Keeps.refl
  try clear_value x2
  refine Keeps.ite ?_ ?_
  ·
    exact h2
  ·
    refine Keeps.trans ?_ (putTile_keeps.mono rfl)
    exact h2

theorem countGrad_keeps {s : State} {h : Nat} {t : Nat} :
    Keeps 0x210000000000000000000840000000000000000000000000000 s (countGrad s h t) := by
  unfold countGrad
  refine Keeps.ite ?_ ?_
  ·
    refine Keeps.trans ?_ (State_winSat_keeps.mono rfl)
    exact Keeps.refl
  ·
    exact Keeps.refl

theorem dropLate_keeps {s : State} {n : Nat} :
    Keeps 0x210000000000000000000880000000000000000000000000000 s (dropLate s n) := by
  unfold dropLate
  refine Keeps.trans ?_ (State_trainEvt_keeps.mono rfl)
  refine Keeps.trans ?_ (State_finc_keeps (by rfl))
  exact Keeps.refl

theorem execReducedTileArrive_keeps {x : Contribution} {s : State} :
    OutKeeps 0x1008000000000000000000000000000000000000000000000000000000000000000000000000000000000000000000000000000000000000000000000000000000000000000 s (execReducedTileArrive x s) := by
  unfold execReducedTileArrive
  refine done_keeps ?_
  refine Keeps.trans ?_ (takeReduced_keeps.mono rfl)
  exact Keeps.refl

theorem keepLate_keeps {s : State} {x : Contribution} :
    Keeps 0x800000000000000000000000000000000000000000000000000000000000000000000000000000000000000210000000000000000000880000000000000000000000000000 s (keepLate s x) := by
  unfold keepLate
  extract_lets -underBinder +onlyGivenNames x0
  try clear_value x0
  extract_lets -underBinder +onlyGivenNames x1
  try clear_value x1
  refine Keeps.ite ?_ ?_
  ·
    refine Keeps.trans ?_ (upd_helds rfl)
    exact Keeps.refl
  ·
    refine Keeps.trans ?_ (dropLate_keeps.mono rfl)
    exact Keeps.refl

theorem roundSums_keeps {s : State} {h : Nat} :
    Keeps 0x200000000000000000000000000000000000000000000000000000000000000000000000000000000000000210000000000000000000840000000000000000000000000000 s (roundSums s h) := by
  unfold roundSums
  extract_lets -underBinder +onlyGivenNames x0
  try clear_value x0
  extract_lets -underBinder +onlyGivenNames x1
  try clear_value x1
  extract_lets -underBinder +onlyGivenNames x2
  try clear_value x2
  extract_lets -underBinder +onlyGivenNames x3
  have h3 : Keeps 0x200000000000000000000000000000000000000000000000000000000000000000000000000000000000000210000000000000000000840000000000000000000000000000 s x3 := by
    unfold x3
    refine Keeps.trans ?_ (State_winSat_keeps.mono rfl)
    exact Keeps.refl
  try clear_value x3
  refine Keeps.trans ?_ (upd_sideSums rfl)
  exact h3

theorem writeTile_keeps {s : State} {fid : Nat} {dev : Nat} {x : Contribution} :
    Keeps 0x411000000400000000000000000000000000000000000000000000000000000000000000000000010000000000000000000000000000000000000000000001880000000000000040 s (writeTile s fid dev x) := by
  unfold writeTile
  extract_lets -underBinder +onlyGivenNames x0
  try clear_value x0
  extract_lets -underBinder +onlyGivenNames x1
  try clear_value x1
  extract_lets -underBinder +onlyGivenNames x2
  have h2 : Keeps 0x411000000400000000000000000000000000000000000000000000000000000000000000000000010000000000000000000000000000000000000000000001880000000000000040 s x2 := by
    unfold x2
    refine Keeps.trans ?_ (Keeps.foldl (fun s3 _ => ?_) _ _)
    ·
      exact Keeps.refl
    ·
      refine Keeps.trans ?_ (State_sendPkt_keeps.mono rfl)
      exact Keeps.refl
  try clear_value x2
  refine Keeps.trans ?_ (State_updFlight_keeps.mono rfl)
  exact h2

theorem sendTile_keeps {s : State} {fid : Nat} {dest : Nat × Nat} {h : Nat} {t : Nat} {step : Nat} {vs : List Word} :
    Keeps 0x411001000400000000000000000000000000000000000000000000000000000000000000000000010000000000000000000000000000000000000000000001880000000000000040 s (sendTile s fid dest h t step vs) := by
  unfold sendTile
  extract_lets -underBinder +onlyGivenNames x0
  try clear_value x0
  extract_lets -underBinder +onlyGivenNames x1
  have h1 : Keeps 0x411001000400000000000000000000000000000000000000000000000000000000000000000000010000000000000000000000000000000000000000000001880000000000000040 s x1 := by
    unfold x1
    refine Keeps.ite ?_ ?_
    ·
      exact Keeps.refl
    ·
      refine Keeps.trans ?_ (writeTile_keeps.mono rfl)
      exact Keeps.refl
  try clear_value x1
  refine Keeps.trans ?_ (upd_sentTiles rfl)
  exact h1

theorem sendWindow_keeps {s : State} {fid : Nat} {h : Nat} :
    Keeps 0x411001200400000000000000000000000000000000000000000000000000000000000000000000010000000000000210000000000000000000840000000001880000000000000040 s (sendWindow s fid h) := by
  unfold sendWindow
  extract_lets -underBinder +onlyGivenNames x0
  try clear_value x0
  extract_lets -underBinder +onlyGivenNames x1
  try clear_value x1
  extract_lets -underBinder +onlyGivenNames x2
  have h2 : Keeps 0x411001200400000000000000000000000000000000000000000000000000000000000000000000010000000000000210000000000000000000840000000001880000000000000040 s x2 := by
    unfold x2
    refine Keeps.trans ?_ (roundSums_keeps.mono rfl)
    exact Keeps.refl
  try clear_value x2
  refine Keeps.trans ?_ (Keeps.foldl (fun s3 _ => ?_) _ _)
  ·
    exact h2
  ·
    refine Keeps.ite ?_ ?_
    ·
      exact Keeps.refl
    ·
      refine Keeps.trans ?_ (sendTile_keeps.mono rfl)
      refine Keeps.trans ?_ (countGrad_keeps.mono rfl)
      exact Keeps.refl

theorem reduceTile_keeps {s : State} {h : Nat} {t : Nat} {reps : List Nat} :
    Keeps 0x411001e084000000000000000000000000000000000000000000000000000000000000000000000100000000000002100000000000000000008c0000000001880000000000000040 s (reduceTile s h t reps) := by
  unfold reduceTile
  extract_lets -underBinder +onlyGivenNames x0
  try clear_value x0
  extract_lets -underBinder +onlyGivenNames x1
  try clear_value x1
  extract_lets -underBinder +onlyGivenNames x2
  try clear_value x2
  extract_lets -underBinder +onlyGivenNames x3
  have h3 : Keeps 0x411001e084000000000000000000000000000000000000000000000000000000000000000000000100000000000002100000000000000000008c0000000001880000000000000040 s x3 := by
    unfold x3
    refine Keeps.trans ?_ (countGrad_keeps.mono rfl)
    refine Keeps.trans ?_ (roundSums_keeps.mono rfl)
    exact Keeps.refl
  try clear_value x3
  extract_lets -underBinder +onlyGivenNames x4
  try clear_value x4
  extract_lets -underBinder +onlyGivenNames x5
  try clear_value x5
  extract_lets -underBinder +onlyGivenNames x6
  try clear_value x6
  extract_lets -underBinder +onlyGivenNames x7
  try clear_value x7
  extract_lets -underBinder +onlyGivenNames x8
  try clear_value x8
  extract_lets -underBinder +onlyGivenNames x9
  try clear_value x9
  extract_lets -underBinder +onlyGivenNames x10
  try clear_value x10
  extract_lets -underBinder +onlyGivenNames x11
  try clear_value x11
  extract_lets -underBinder +onlyGivenNames x12
  have h12 : Keeps 0x411001e084000000000000000000000000000000000000000000000000000000000000000000000100000000000002100000000000000000008c0000000001880000000000000040 s x12 := by
    unfold x12
    refine Keeps.trans ?_ (State_finc_keeps (by rfl))
    refine Keeps.trans ?_ (State_winSat_keeps.mono rfl)
    exact h3
  try clear_value x12
  extract_lets -underBinder +onlyGivenNames x13
  try clear_value x13
  extract_lets -underBinder +onlyGivenNames x14
  have h14 : Keeps 0x411001e084000000000000000000000000000000000000000000000000000000000000000000000100000000000002100000000000000000008c0000000001880000000000000040 s x14 := by
    unfold x14
    refine Keeps.trans ?_ (putTile_keeps.mono rfl)
    refine Keeps.trans ?_ (upd_helds rfl)
    exact h12
  try clear_value x14
  extract_lets -underBinder +onlyGivenNames x15
  have h15 : Keeps 0x411001e084000000000000000000000000000000000000000000000000000000000000000000000100000000000002100000000000000000008c0000000001880000000000000040 s x15 := by
    unfold x15
    refine Keeps.trans ?_ (setMask_keeps.mono rfl)
    exact h14
  try clear_value x15
  extract_lets -underBinder +onlyGivenNames x16
  try clear_value x16
  refine Keeps.trans ?_ (Keeps.foldl (fun s17 _ => ?_) _ _)
  ·
    exact h15
  ·
    refine Keeps.trans ?_ (sendTile_keeps.mono rfl)
    exact Keeps.refl

theorem tryReduce_keeps {s : State} {h : Nat} {t : Nat} :
    Keeps 0x411001e084000000000000000000000000000000000000000000000000000000000000000000000100000000000002100000000000000000008c0000000001880000000000000040 s (tryReduce s h t) := by
  unfold tryReduce
  extract_lets -underBinder +onlyGivenNames x0
  try clear_value x0
  extract_lets -underBinder +onlyGivenNames x1
  try clear_value x1
  extract_lets -underBinder +onlyGivenNames x2
  try clear_value x2
  split
  ·
    exact Keeps.refl
  ·
    refine Keeps.ite ?_ ?_
    ·
      exact Keeps.refl
    ·
      refine Keeps.ite ?_ ?_
      ·
        refine Keeps.ite ?_ ?_
        ·
          refine Keeps.trans ?_ (reduceTile_keeps.mono rfl)
          exact Keeps.refl
        ·
          exact Keeps.refl
      ·
        refine Keeps.ite ?_ ?_
        ·
          refine Keeps.trans ?_ (reduceTile_keeps.mono rfl)
          exact Keeps.refl
        ·
          exact Keeps.refl

theorem contribute_keeps {s : State} {x : Contribution} :
    Keeps 0x411001e084000000000000000000000000000000000000000000000000000000000000000000000100000000000002100000000000000000008c0000000001880000000000000040 s (contribute s x) := by
  unfold contribute
  extract_lets -underBinder +onlyGivenNames x0
  try clear_value x0
  extract_lets -underBinder +onlyGivenNames x1
  try clear_value x1
  extract_lets -underBinder +onlyGivenNames x2
  have h2 : Keeps 0x411001e084000000000000000000000000000000000000000000000000000000000000000000000100000000000002100000000000000000008c0000000001880000000000000040 s x2 := by
    unfold x2
    refine Keeps.trans ?_ (upd_sentTiles rfl)
    exact Keeps.refl
  try clear_value x2
  refine Keeps.ite ?_ ?_
  ·
    exact h2
  ·
    extract_lets -underBinder +onlyGivenNames x3
    try clear_value x3
    extract_lets -underBinder +onlyGivenNames x4
    unfold x4
    refine Keeps.ite ?_ ?_
    ·
      split
      ·
        refine Keeps.ite ?_ ?_
        ·
          refine Keeps.trans ?_ (keepLate_keeps.mono rfl)
          exact h2
        ·
          refine Keeps.trans ?_ (tryReduce_keeps.mono rfl)
          refine Keeps.trans ?_ (upd_helds rfl)
          exact h2
      ·
        refine Keeps.trans ?_ (upd_helds rfl)
        exact h2
    ·
      refine Keeps.ite ?_ ?_
      ·
        refine Keeps.ite ?_ ?_
        ·
          refine Keeps.trans ?_ (dropLate_keeps.mono rfl)
          exact h2
        ·
          refine Keeps.trans ?_ (keepLate_keeps.mono rfl)
          exact h2
      ·
        refine Keeps.ite ?_ ?_
        ·
          refine Keeps.trans ?_ (upd_helds rfl)
          exact h2
        ·
          refine Keeps.trans ?_ (dropLate_keeps.mono rfl)
          exact h2

theorem execReplicaContribution_keeps {x : Contribution} {chk : FeltCheck} {s : State} :
    OutKeeps 0xc10419083fcc7000140000000000000000000000000000000000000000000000000000000000000000100e00000000002100000005000000080288c000000000d880000000000000040 s (execReplicaContribution x chk s) := by
  unfold execReplicaContribution
  split
  ·
    refine done_keeps ?_
    refine Keeps.trans ?_ (contribute_keeps.mono rfl)
    exact Keeps.refl
  ·
    refine done_keeps ?_
    refine Keeps.trans ?_ (State_feltChecked_keeps.mono rfl)
    exact Keeps.refl

theorem expireTile_keeps {s : State} {h : Nat} {t : Nat} :
    Keeps 0x411001e084000000000000000000000000000000000000000000000000000000000000000000000100000000000002100000000000000000008c0000000001880000000000000040 s (expireTile s h t) := by
  unfold expireTile
  extract_lets -underBinder +onlyGivenNames x0
  try clear_value x0
  split
  ·
    refine Keeps.ite ?_ ?_
    ·
      refine Keeps.trans ?_ (reduceTile_keeps.mono rfl)
      exact Keeps.refl
    ·
      exact Keeps.refl
  ·
    exact Keeps.refl

theorem startWindow_keeps {s : State} {h : Nat} {t : Nat} :
    Keeps 0x411001e084000000000000000000000000000000000000000000000000000000000000000000000100000000000002100000000000000000008c0000000001880000000000000040 s (startWindow s h t) := by
  unfold startWindow
  split
  ·
    exact Keeps.refl
  ·
    extract_lets -underBinder +onlyGivenNames x0
    have h0 : Keeps 0x411001e084000000000000000000000000000000000000000000000000000000000000000000000100000000000002100000000000000000008c0000000001880000000000000040 s x0 := by
      unfold x0
      refine Keeps.ite ?_ ?_
      ·
        exact Keeps.refl
      ·
        refine Keeps.trans ?_ (setMask_keeps.mono rfl)
        exact Keeps.refl
    try clear_value x0
    refine Keeps.trans ?_ (tryReduce_keeps.mono rfl)
    exact h0

theorem startWindows_keeps {s : State} {p : Nat} :
    Keeps 0x411001e084000000000000000000000000000000000000000000000000000000000000000000000100000000000002100000000000000000008c0000000001880000000000000040 s (startWindows s p) := by
  unfold startWindows
  refine Keeps.trans ?_ (Keeps.foldl (fun s0 _ => ?_) _ _)
  ·
    exact Keeps.refl
  ·
    refine Keeps.ite ?_ ?_
    ·
      refine Keeps.trans ?_ (startWindow_keeps.mono rfl)
      exact Keeps.refl
    ·
      exact Keeps.refl

theorem execStragglerExpire_keeps {handle : Nat} {tile : Nat} {s : State} :
    OutKeeps 0x411001e084000000000000000000000000000000000000000000000000000000000000000000000100000000000002100000000000000000008c0000000001880000000000000040 s (execStragglerExpire handle tile s) := by
  unfold execStragglerExpire
  refine done_keeps ?_
  refine Keeps.trans ?_ (expireTile_keeps.mono rfl)
  exact Keeps.refl

theorem openTile_keeps {s : State} {h : Nat} {t : Nat} :
    Keeps 0x411001e084000000000000000000000000000000000000000000000000000000000000000000000100000000000002100000000000000000008c0000000001880000000000000040 s (openTile s h t) := by
  unfold openTile
  extract_lets -underBinder +onlyGivenNames x0
  try clear_value x0
  extract_lets -underBinder +onlyGivenNames x1
  try clear_value x1
  extract_lets -underBinder +onlyGivenNames x2
  have h2 : Keeps 0x411001e084000000000000000000000000000000000000000000000000000000000000000000000100000000000002100000000000000000008c0000000001880000000000000040 s x2 := by
    unfold x2
    split
    ·
      exact Keeps.refl
    ·
      refine Keeps.trans ?_ (setMask_keeps.mono rfl)
      exact Keeps.refl
  try clear_value x2
  refine Keeps.trans ?_ (startWindow_keeps.mono rfl)
  exact h2

theorem reduceWindow_keeps {s : State} {h : Nat} :
    Keeps 0x411001e084000000000000000000000000000000000000000000000000000000000000000000000100000000000002100000000000000000008c0000000001880000000000000040 s (reduceWindow s h) := by
  unfold reduceWindow
  refine Keeps.trans ?_ (Keeps.foldl (fun s0 _ => ?_) _ _)
  ·
    exact Keeps.refl
  ·
    refine Keeps.ite ?_ ?_
    ·
      refine Keeps.trans ?_ (openTile_keeps.mono rfl)
      exact Keeps.refl
    ·
      exact Keeps.refl

theorem slicesOp_keeps {reduce : Bool} {s : State} {c : Nat} {st : Strm} :
    Keeps 0xc10419083fccf000742000000000000000000000000000000000000000000000000000000000000000100e00000000002100000005003800080008c000014e01d882e00000000004940 s (slicesOp reduce s c st) := by
  unfold slicesOp
  refine Keeps.trans ?_ (issue_keeps rfl (fun f0_0 f0_1 f0_2 f0_3 => ?_))
  ·
    exact Keeps.refl
  ·
    extract_lets -underBinder +onlyGivenNames x1
    try clear_value x1
    refine Keeps.trans ?_ (takeAll_keeps rfl (fun f2_0 => ?_))
    ·
      exact Keeps.refl
    ·
      refine Keeps.ite ?_ ?_
      ·
        refine Keeps.trans ?_ (reduceWindow_keeps.mono rfl)
        exact Keeps.refl
      ·
        refine Keeps.trans ?_ (sendWindow_keeps.mono rfl)
        exact Keeps.refl

theorem execReduce_keeps {c : Fin 1056} {st : Strm} {s : State} :
    OutKeeps 0xc10419083fccf000742000000000000000000000000000000000000000000000000000000000000000100e00000000002100000005003800080008c000014e01d882e00000000004940 s (execReduce c st s) := by
  unfold execReduce
  refine done_keeps ?_
  refine Keeps.trans ?_ (slicesOp_keeps.mono rfl)
  exact Keeps.refl

theorem execSliceSend_keeps {c : Fin 1056} {st : Strm} {s : State} :
    OutKeeps 0xc10419083fccf000742000000000000000000000000000000000000000000000000000000000000000100e00000000002100000005003800080008c000014e01d882e00000000004940 s (execSliceSend c st s) := by
  unfold execSliceSend
  refine done_keeps ?_
  refine Keeps.trans ?_ (slicesOp_keeps.mono rfl)
  exact Keeps.refl

end Sys2Proof.Laws
end

