-- ==== Sys2Proof/Laws/KeepsSecurity.lean ====
section
/-! SUPPORT. What each operation of Sys2Proof/Machine/Security.lean may write (Laws/Keeps.lean says how a mask is read). -/
namespace Sys2Proof.Laws
open Sys2Proof Sys2Proof.Machine

set_option linter.unusedVariables false

theorem attestNow_keeps {s : State} :
    Keeps 0x2000000000000000000000000000000000000000000000000000000000000000000000000000000000000000000000000000000100000000000000000000000000000000000000000000 s (attestNow s) := by
  unfold attestNow
  refine Keeps.trans ?_ (State_fset_keeps (by rfl))
  refine Keeps.trans ?_ (upd_sec rfl)
  exact Keeps.refl

theorem execDisec_keeps {s : State} :
    OutKeeps 0x4000000000000000000000000000000000000000000000000000000000000000000000000000000000000000000000000000000000000000000000000000000000000000000000000000 s (execDisec s) := by
  unfold execDisec
  refine done_keeps ?_
  refine Keeps.trans ?_ (upd_i3c rfl)
  exact Keeps.refl

theorem execEnec_keeps {s : State} :
    OutKeeps 0x4000000000000000000000000000000000000000000000000000000000000000000000000000000000000000000000000000000000000000000000000000000000000000000000000000 s (execEnec s) := by
  unfold execEnec
  extract_lets -underBinder +onlyGivenNames x0
  try clear_value x0
  refine done_keeps ?_
  refine Keeps.trans ?_ (upd_i3c rfl)
  exact Keeps.refl

theorem execEntdaa_keeps {addr : BitVec 7} {s : State} :
    OutKeeps 0x4000000000000000000000000000000000000000000000000000000000000000000000000000000000000000000000000000000000000000000000000000000000000000000000000000 s (execEntdaa addr s) := by
  unfold execEntdaa
  refine done_keeps ?_
  refine Keeps.ite ?_ ?_
  ·
    refine Keeps.trans ?_ (upd_i3c rfl)
    exact Keeps.refl
  ·
    exact Keeps.refl

theorem execRstdaa_keeps {s : State} :
    OutKeeps 0x4000000000000000000000000000000000000000000000000000000000000000000000000000000000000000000000000000000000000000000000000000000000000000000000000000 s (execRstdaa s) := by
  unfold execRstdaa
  refine done_keeps ?_
  refine Keeps.trans ?_ (upd_i3c rfl)
  exact Keeps.refl

theorem execSetdasa_keeps {static : BitVec 7} {addr : BitVec 7} {s : State} :
    OutKeeps 0x4000000000000000000000000000000000000000000000000000000000000000000000000000000000000000000000000000000000000000000000000000000000000000000000000000 s (execSetdasa static addr s) := by
  unfold execSetdasa
  refine done_keeps ?_
  refine Keeps.ite ?_ ?_
  ·
    refine Keeps.trans ?_ (upd_i3c rfl)
    exact Keeps.refl
  ·
    exact Keeps.refl

theorem i3cAnswer_keeps {s : State} {b : List Byte} :
    Keeps 0x4000000000000000000000000000000000000000000000000000000000000000000000000000000000000000000000000000000000000000000000000000000000000000000000000000 s (i3cAnswer s b) := by
  unfold i3cAnswer
  refine Keeps.trans ?_ (upd_i3c rfl)
  exact Keeps.refl

theorem setArmed_keeps {s : State} {v : Bool} :
    Keeps 0x2000000000000000000000000000000000000000000000000000000000000000000000000000000000000000000000000000000000000000000000000000000000000000000000000000 s (setArmed s v) := by
  unfold setArmed
  refine Keeps.trans ?_ (upd_sec rfl)
  exact Keeps.refl

theorem setCapture_keeps {s : State} {data : DWord} {err : Bool} :
    Keeps 0x8000000000000000000000000000000000000000000000000000000000000000000000000000000000000000000000000000000000000000000000000000000000000000000000000000 s (setCapture s data err) := by
  unfold setCapture
  refine Keeps.trans ?_ (upd_jtag rfl)
  exact Keeps.refl

theorem setIr_keeps {s : State} {x : JtagIr} :
    Keeps 0x8000000000000000000000000000000000000000000000000000000000000000000000000000000000000000000000000000000000000000000000000000000000000000000000000000 s (setIr s x) := by
  unfold setIr
  refine Keeps.trans ?_ (upd_jtag rfl)
  exact Keeps.refl

theorem debugNow_keeps {s : State} :
    Keeps 0x2000000000000000000000000000000000000000000000000000000000000000000000000000000000000000000000000210002b00000000000000000000000000000000000000000000 s (debugNow s) := by
  unfold debugNow
  refine Keeps.trans ?_ (State_measure_keeps.mono rfl)
  refine Keeps.trans ?_ (State_secEvt_keeps.mono rfl)
  refine Keeps.trans ?_ (State_fset_keeps (by rfl))
  exact Keeps.refl

theorem debugOp_keeps {M : Nat} {s : State} {f : State → State} (hM : Within 0x8000000000000000000000000000000000000000000000000000000000000000000000000000000000000000000000000000001000000000000000000000000000000000000000000000 M) (hf1 : ∀ a0, Keeps M a0 (f a0)) :
    Keeps M s (debugOp s f) := by
  unfold debugOp
  refine Keeps.ite ?_ ?_
  ·
    refine Keeps.trans ?_ (State_finc_keeps (Within.bit (by rfl) hM))
    refine Keeps.trans ?_ (setIr_keeps.mono (Within.via hM rfl))
    exact Keeps.refl
  ·
    refine Keeps.trans ?_ (hf1 ..)
    refine Keeps.trans ?_ (setIr_keeps.mono (Within.via hM rfl))
    exact Keeps.refl

theorem debugRead_keeps {s : State} {dr : BitVec 128} :
    Keeps 0x8000000000000000000200000000000000000000000000000000000000000000000000000000000000000000000000000000000000000000000000000000000000000000000000000000 s (debugRead s dr) := by
  unfold debugRead
  refine Keeps.ite ?_ ?_
  ·
    refine Keeps.trans ?_ (setCapture_keeps.mono rfl)
    exact Keeps.refl
  ·
    refine Keeps.ite ?_ ?_
    ·
      refine Keeps.trans ?_ (State_useFree_keeps.mono rfl)
      refine Keeps.trans ?_ (setCapture_keeps.mono rfl)
      exact Keeps.refl
    ·
      refine Keeps.trans ?_ (setCapture_keeps.mono rfl)
      exact Keeps.refl

theorem execAttestDone_keeps {s : State} :
    OutKeeps 0x2000000000000000000000000000000000000000000000000000000000000000000000000000000000000000000000000210001300000000000000000000000000000000000000000000 s (execAttestDone s) := by
  unfold execAttestDone
  refine OutKeeps.ite ?_ ?_
  ·
    refine done_keeps ?_
    exact Keeps.refl
  ·
    extract_lets -underBinder +onlyGivenNames x0
    try clear_value x0
    extract_lets -underBinder +onlyGivenNames x1
    try clear_value x1
    extract_lets -underBinder +onlyGivenNames x2
    try clear_value x2
    extract_lets -underBinder +onlyGivenNames x3
    have h3 : Keeps 0x2000000000000000000000000000000000000000000000000000000000000000000000000000000000000000000000000210001300000000000000000000000000000000000000000000 s x3 := by
      unfold x3
      refine Keeps.trans ?_ (upd_sec rfl)
      exact Keeps.refl
    try clear_value x3
    refine done_keeps ?_
    refine Keeps.trans ?_ (State_secEvt_keeps.mono rfl)
    refine Keeps.trans ?_ (State_finc_keeps (by rfl))
    refine Keeps.trans ?_ (State_fset_keeps (by rfl))
    exact h3

theorem execBypass_keeps {s : State} :
    OutKeeps 0x8000000000000000000000000000000000000000000000000000000000000000000000000000000000000000000000000000000000000000000000000000000000000000000000000000 s (execBypass s) := by
  unfold execBypass
  refine done_keeps ?_
  extract_lets -underBinder +onlyGivenNames x0
  have h0 : Keeps 0x8000000000000000000000000000000000000000000000000000000000000000000000000000000000000000000000000000000000000000000000000000000000000000000000000000 s x0 := by
    unfold x0
    refine Keeps.trans ?_ (setIr_keeps.mono rfl)
    exact Keeps.refl
  try clear_value x0
  refine Keeps.trans ?_ (upd_jtag rfl)
  exact h0

theorem execDebugLsRead_keeps {dr : BitVec 128} {s : State} :
    OutKeeps 0x8000000000000000000200000000000000000000000000000000000000000000000000000000000000000000000000000000001000000000000000000000000000000000000000000000 s (execDebugLsRead dr s) := by
  unfold execDebugLsRead
  refine done_keeps ?_
  refine Keeps.trans ?_ (debugOp_keeps rfl (fun f0_0 => ?_))
  ·
    exact Keeps.refl
  ·
    refine Keeps.trans ?_ (debugRead_keeps.mono rfl)
    exact Keeps.refl

theorem execExtest_keeps {s : State} :
    OutKeeps 0x8000000000000000000000000000000000000000000000000000000000000000000000000000000000000000000000000000000000000000000000000000000000000000000000000000 s (execExtest s) := by
  unfold execExtest
  refine done_keeps ?_
  refine Keeps.trans ?_ (setIr_keeps.mono rfl)
  exact Keeps.refl

theorem execGetbcr_keeps {s : State} :
    OutKeeps 0x4000000000000000000000000000000000000000000000000000000000000000000000000000000000000000000000000000000000000000000000000000000000000000000000000000 s (execGetbcr s) := by
  unfold execGetbcr
  refine done_keeps ?_
  refine Keeps.trans ?_ (i3cAnswer_keeps.mono rfl)
  exact Keeps.refl

theorem execGetdcr_keeps {s : State} :
    OutKeeps 0x4000000000000000000000000000000000000000000000000000000000000000000000000000000000000000000000000000000000000000000000000000000000000000000000000000 s (execGetdcr s) := by
  unfold execGetdcr
  refine done_keeps ?_
  refine Keeps.trans ?_ (i3cAnswer_keeps.mono rfl)
  exact Keeps.refl

theorem execGetmrl_keeps {s : State} :
    OutKeeps 0x4000000000000000000000000000000000000000000000000000000000000000000000000000000000000000000000000000000000000000000000000000000000000000000000000000 s (execGetmrl s) := by
  unfold execGetmrl
  refine done_keeps ?_
  refine Keeps.trans ?_ (i3cAnswer_keeps.mono rfl)
  exact Keeps.refl

theorem execGetmwl_keeps {s : State} :
    OutKeeps 0x4000000000000000000000000000000000000000000000000000000000000000000000000000000000000000000000000000000000000000000000000000000000000000000000000000 s (execGetmwl s) := by
  unfold execGetmwl
  refine done_keeps ?_
  refine Keeps.trans ?_ (i3cAnswer_keeps.mono rfl)
  exact Keeps.refl

theorem execGetpid_keeps {s : State} :
    OutKeeps 0x4000000000000000000000000000000000000000000000000000000000000000000000000000000000000000000000000000000000000000000000000000000000000000000000000000 s (execGetpid s) := by
  unfold execGetpid
  refine done_keeps ?_
  refine Keeps.trans ?_ (i3cAnswer_keeps.mono rfl)
  exact Keeps.refl

theorem execGetstatus_keeps {s : State} :
    OutKeeps 0x4000000000000000000000000000000000000000000000000000000000000000000000000000000000000000000000000000000000000000000000000000000000000000000000000000 s (execGetstatus s) := by
  unfold execGetstatus
  refine done_keeps ?_
  refine Keeps.trans ?_ (i3cAnswer_keeps.mono rfl)
  exact Keeps.refl

theorem execHighz_keeps {s : State} :
    OutKeeps 0x8000000000000000000000000000000000000000000000000000000000000000000000000000000000000000000000000000000000000000000000000000000000000000000000000000 s (execHighz s) := by
  unfold execHighz
  refine done_keeps ?_
  refine Keeps.trans ?_ (setIr_keeps.mono rfl)
  exact Keeps.refl

theorem execIdcode_keeps {s : State} :
    OutKeeps 0x8000000000000000000000000000000000000000000000000000000000000000000000000000000000000000000000000000000000000000000000000000000000000000000000000000 s (execIdcode s) := by
  unfold execIdcode
  refine done_keeps ?_
  extract_lets -underBinder +onlyGivenNames x0
  have h0 : Keeps 0x8000000000000000000000000000000000000000000000000000000000000000000000000000000000000000000000000000000000000000000000000000000000000000000000000000 s x0 := by
    unfold x0
    refine Keeps.trans ?_ (setIr_keeps.mono rfl)
    exact Keeps.refl
  try clear_value x0
  refine Keeps.trans ?_ (upd_jtag rfl)
  exact h0

theorem execRecUnlockExpire_keeps {s : State} :
    OutKeeps 0x2000000000000000000000000000000000000000000000000000000000000000000000000000000000000000000000000000000000000000000000000000000000000000000000000000 s (execRecUnlockExpire s) := by
  unfold execRecUnlockExpire
  refine done_keeps ?_
  refine Keeps.trans ?_ (setArmed_keeps.mono rfl)
  exact Keeps.refl

theorem execRecWriteDone_keeps {s : State} :
    OutKeeps 0x2000000000000080000000000000000000000000000000000000000000000000000000000000000000000000000000000210002b00000000000000000000000000000000000000000000 s (execRecWriteDone s) := by
  unfold execRecWriteDone
  refine OutKeeps.ite ?_ ?_
  ·
    refine done_keeps ?_
    exact Keeps.refl
  ·
    extract_lets -underBinder +onlyGivenNames x0
    try clear_value x0
    extract_lets -underBinder +onlyGivenNames x1
    try clear_value x1
    extract_lets -underBinder +onlyGivenNames x2
    have h2 : Keeps 0x2000000000000080000000000000000000000000000000000000000000000000000000000000000000000000000000000210002b00000000000000000000000000000000000000000000 s x2 := by
      unfold x2
      refine Keeps.ite ?_ ?_
      ·
        refine Keeps.trans ?_ (State_fset_keeps (by rfl))
        refine Keeps.trans ?_ (upd_modrec rfl)
        exact Keeps.refl
      ·
        refine Keeps.trans ?_ (State_fset_keeps (by rfl))
        exact Keeps.refl
    try clear_value x2
    refine done_keeps ?_
    refine Keeps.trans ?_ (State_measure_keeps.mono rfl)
    refine Keeps.trans ?_ (State_secEvt_keeps.mono rfl)
    exact h2

theorem execSamplePreload_keeps {s : State} :
    OutKeeps 0x8000000000000000000200000000000000000000000000000000000000000000000000000000000000000000000000000000000000000000000000000000000000000000000000000000 s (execSamplePreload s) := by
  unfold execSamplePreload
  extract_lets -underBinder +onlyGivenNames x0
  try clear_value x0
  refine done_keeps ?_
  refine Keeps.trans ?_ (State_useFree_keeps.mono rfl)
  extract_lets -underBinder +onlyGivenNames x1
  have h1 : Keeps 0x8000000000000000000200000000000000000000000000000000000000000000000000000000000000000000000000000000000000000000000000000000000000000000000000000000 s x1 := by
    unfold x1
    refine Keeps.trans ?_ (setIr_keeps.mono rfl)
    exact Keeps.refl
  try clear_value x1
  refine Keeps.trans ?_ (upd_jtag rfl)
  exact h1

theorem execTapReset_keeps {s : State} :
    OutKeeps 0x8000000000000000000000000000000000000000000000000000000000000000000000000000000000000000000000000000000000000000000000000000000000000000000000000000 s (execTapReset s) := by
  unfold execTapReset
  refine done_keeps ?_
  refine Keeps.trans ?_ (setIr_keeps.mono rfl)
  exact Keeps.refl

theorem recKey_keeps {s : State} {w : Word} :
    Keeps 0x2000000000000000000000000000000000000000000000000000000000000000000000000000000000000000000000000000000000000000000000000000000000000000000000000000 s (recKey s w) := by
  unfold recKey
  refine Keeps.ite ?_ ?_
  ·
    refine Keeps.trans ?_ (setArmed_keeps.mono rfl)
    exact Keeps.refl
  ·
    exact Keeps.refl

theorem registerNow_keeps {s : State} :
    Keeps 0x2000000000000000000000000000000000000000000000000000000000000000000000000000000000000000000000000000002900000000000000000000000000000000000000000000 s (registerNow s) := by
  unfold registerNow
  extract_lets -underBinder +onlyGivenNames x0
  try clear_value x0
  refine Keeps.trans ?_ (State_measure_keeps.mono rfl)
  refine Keeps.trans ?_ (State_fset_keeps (by rfl))
  refine Keeps.trans ?_ (upd_sec rfl)
  exact Keeps.refl

theorem secRefuse_keeps {s : State} {a : Agent} {off : Nat} :
    Keeps 0x210681000000000000000000000000000000000000000000000 s (secRefuse s a off) := by
  unfold secRefuse
  refine Keeps.trans ?_ (State_finc_keeps (by rfl))
  refine Keeps.trans ?_ (State_outOfRange_keeps.mono rfl)
  exact Keeps.refl

theorem execSecRecKey_keeps {a : Agent} {w : Word} {s : State} :
    OutKeeps 0x2000000000000000000000000000000000000000000000000000000000000000000000000000000000000000000000000210681000000000000000000000000001880000000000000040 s (execSecRecKey a w s) := by
  unfold execSecRecKey
  refine done_keeps ?_
  refine Keeps.trans ?_ (State_access_keeps rfl (fun f0_0 => ?_))
  ·
    exact Keeps.refl
  ·
    refine Keeps.trans ?_ (recKey_keeps.mono rfl)
    exact Keeps.refl

theorem pkeyWrite_keeps {s : State} {a : Agent} {i : Nat} {w : Word} :
    Keeps 0x210689000000000000000000000000000000000000000000000 s (pkeyWrite s a i w) := by
  unfold pkeyWrite
  refine Keeps.ite ?_ ?_
  ·
    refine Keeps.trans ?_ (secRefuse_keeps.mono rfl)
    exact Keeps.refl
  ·
    refine Keeps.trans ?_ (State_wr_keeps (by rfl))
    exact Keeps.refl

theorem recCtrl_keeps {s : State} {a : Agent} {w : Word} :
    Keeps 0x2000000000000000000000000000000000000000000000000000000000000000000000000000000000000000000000000210681100000000000000000000000000000000000000000000 s (recCtrl s a w) := by
  unfold recCtrl
  refine Keeps.ite ?_ ?_
  ·
    refine Keeps.trans ?_ (secRefuse_keeps.mono rfl)
    refine Keeps.trans ?_ (setArmed_keeps.mono rfl)
    exact Keeps.refl
  ·
    extract_lets -underBinder +onlyGivenNames x0
    try clear_value x0
    refine Keeps.trans ?_ (State_fset_keeps (by rfl))
    refine Keeps.trans ?_ (upd_sec rfl)
    exact Keeps.refl

theorem secCtrl_keeps {s : State} {a : Agent} {w : Word} :
    Keeps 0x2000000000000000000000000000000000000000000000000000000000000000000000000000000000000000000000000210683b00000000000000000000000000000000000000000000 s (secCtrl s a w) := by
  unfold secCtrl
  extract_lets -underBinder +onlyGivenNames x0
  try clear_value x0
  refine Keeps.ite ?_ ?_
  ·
    refine Keeps.trans ?_ (secRefuse_keeps.mono rfl)
    exact Keeps.refl
  ·
    extract_lets -underBinder +onlyGivenNames x1
    have h1 : Keeps 0x2000000000000000000000000000000000000000000000000000000000000000000000000000000000000000000000000210683b00000000000000000000000000000000000000000000 s x1 := by
      unfold x1
      refine Keeps.ite ?_ ?_
      ·
        refine Keeps.trans ?_ (attestNow_keeps.mono rfl)
        exact Keeps.refl
      ·
        exact Keeps.refl
    try clear_value x1
    extract_lets -underBinder +onlyGivenNames x2
    have h2 : Keeps 0x2000000000000000000000000000000000000000000000000000000000000000000000000000000000000000000000000210683b00000000000000000000000000000000000000000000 s x2 := by
      unfold x2
      refine Keeps.ite ?_ ?_
      ·
        refine Keeps.trans ?_ (registerNow_keeps.mono rfl)
        exact h1
      ·
        exact h1
    try clear_value x2
    refine Keeps.ite ?_ ?_
    ·
      refine Keeps.trans ?_ (debugNow_keeps.mono rfl)
      exact h2
    ·
      exact h2

theorem execAttest_keeps {a : Agent} {w : Word} {s : State} :
    OutKeeps 0x2000000000000000000000000000000000000000000000000000000000000000000000000000000000000000000000000210683b00000000000000000000000001880000000000000040 s (execAttest a w s) := by
  unfold execAttest
  refine done_keeps ?_
  refine Keeps.trans ?_ (State_access_keeps rfl (fun f0_0 => ?_))
  ·
    exact Keeps.refl
  ·
    refine Keeps.trans ?_ (secCtrl_keeps.mono rfl)
    exact Keeps.refl

theorem execDebugEn_keeps {a : Agent} {w : Word} {s : State} :
    OutKeeps 0x2000000000000000000000000000000000000000000000000000000000000000000000000000000000000000000000000210683b00000000000000000000000001880000000000000040 s (execDebugEn a w s) := by
  unfold execDebugEn
  refine done_keeps ?_
  refine Keeps.trans ?_ (State_access_keeps rfl (fun f0_0 => ?_))
  ·
    exact Keeps.refl
  ·
    refine Keeps.trans ?_ (secCtrl_keeps.mono rfl)
    exact Keeps.refl

theorem execRecWrite_keeps {a : Agent} {w : Word} {s : State} :
    OutKeeps 0x2000000000000000000000000000000000000000000000000000000000000000000000000000000000000000000000000210681100000000000000000000000001880000000000000040 s (execRecWrite a w s) := by
  unfold execRecWrite
  refine done_keeps ?_
  refine Keeps.trans ?_ (State_access_keeps rfl (fun f0_0 => ?_))
  ·
    exact Keeps.refl
  ·
    refine Keeps.trans ?_ (recCtrl_keeps.mono rfl)
    exact Keeps.refl

theorem execRegisterKey_keeps {a : Agent} {w : Word} {s : State} :
    OutKeeps 0x2000000000000000000000000000000000000000000000000000000000000000000000000000000000000000000000000210683b00000000000000000000000001880000000000000040 s (execRegisterKey a w s) := by
  unfold execRegisterKey
  refine done_keeps ?_
  refine Keeps.trans ?_ (State_access_keeps rfl (fun f0_0 => ?_))
  ·
    exact Keeps.refl
  ·
    refine Keeps.trans ?_ (secCtrl_keeps.mono rfl)
    exact Keeps.refl

theorem debugWrite_keeps {s : State} {dr : BitVec 128} :
    Keeps 0x80100090821c470000000000000000000000000000000000000000000000000000000000000000000000000000000000000000000010000000000000000000000d880000000000000040 s (debugWrite s dr) := by
  unfold debugWrite
  refine Keeps.ite ?_ ?_
  ·
    refine Keeps.trans ?_ (setCapture_keeps.mono rfl)
    exact Keeps.refl
  ·
    extract_lets -underBinder +onlyGivenNames x0
    try clear_value x0
    extract_lets -underBinder +onlyGivenNames x1
    try clear_value x1
    extract_lets -underBinder +onlyGivenNames x2
    have h2 : Keeps 0x80100090821c470000000000000000000000000000000000000000000000000000000000000000000000000000000000000000000010000000000000000000000d880000000000000040 s x2 := by
      unfold x2
      refine Keeps.trans ?_ (setCapture_keeps.mono rfl)
      refine Keeps.trans ?_ (State_setCore_keeps.mono rfl)
      exact Keeps.refl
    try clear_value x2
    split
    ·
      refine Keeps.ite ?_ ?_
      ·
        refine Keeps.trans ?_ (State_panelFault_keeps.mono rfl)
        exact h2
      ·
        exact h2
    ·
      exact h2

theorem execDebugLsWrite_keeps {dr : BitVec 128} {s : State} :
    OutKeeps 0x80100090821c470000000000000000000000000000000000000000000000000000000000000000000000000000000000000000100010000000000000000000000d880000000000000040 s (execDebugLsWrite dr s) := by
  unfold execDebugLsWrite
  refine done_keeps ?_
  refine Keeps.trans ?_ (debugOp_keeps rfl (fun f0_0 => ?_))
  ·
    exact Keeps.refl
  ·
    refine Keeps.trans ?_ (debugWrite_keeps.mono rfl)
    exact Keeps.refl

end Sys2Proof.Laws
end

