-- ==== Sys2Proof/Laws/KeepsUpdate.lean ====
section
/-! SUPPORT. What each operation of Sys2Proof/Machine/Update.lean may write (Laws/Keeps.lean says how a mask is read). -/
namespace Sys2Proof.Laws
open Sys2Proof Sys2Proof.Machine

set_option linter.unusedVariables false

theorem freeTiles_keeps {s : State} {h : Nat} {d : Desc} {b : Band} {done : List Nat} :
    Keeps 0x8000000000000000000000000000000000000000000000000000000000000000000000000000000000000000000000000000000000000000000000000000000000000000 s (freeTiles s h d b done) := by
  unfold freeTiles
  refine Keeps.ite ?_ ?_
  ·
    extract_lets -underBinder +onlyGivenNames x0
    try clear_value x0
    refine Keeps.trans ?_ (upd_windows rfl)
    exact Keeps.refl
  ·
    extract_lets -underBinder +onlyGivenNames x1
    try clear_value x1
    extract_lets -underBinder +onlyGivenNames x2
    try clear_value x2
    extract_lets -underBinder +onlyGivenNames x3
    try clear_value x3
    refine Keeps.trans ?_ (upd_windows rfl)
    exact Keeps.refl

theorem tensorStart_keeps {s : State} {slot : List Byte} {h : Nat} {d : Desc} {sched : Nat} :
    Keeps 0x400000000000000000000000000000 s (tensorStart s slot h d sched).1 := by
  unfold tensorStart
  extract_lets -underBinder +onlyGivenNames x0
  try clear_value x0
  extract_lets -underBinder +onlyGivenNames x1
  try clear_value x1
  refine Keeps.mk1 ?_
  refine Keeps.trans ?_ (State_finc_keeps (by rfl))
  exact Keeps.refl

theorem pendRatio_keeps {s : State} {h : Nat} {ws : List Word} :
    Keeps 0x8000000000000000000000000000000000000000000000000000000000000000000000000000000000000000210000000000000000000800000000000000000000000000000 s (pendRatio s h ws) := by
  unfold pendRatio
  refine Keeps.ite ?_ ?_
  ·
    extract_lets -underBinder +onlyGivenNames x0
    try clear_value x0
    refine Keeps.trans ?_ (upd_ratios rfl)
    exact Keeps.refl
  ·
    refine Keeps.ite ?_ ?_
    ·
      refine Keeps.trans ?_ (State_trainEvt_keeps.mono rfl)
      exact Keeps.refl
    ·
      refine Keeps.trans ?_ (upd_ratios rfl)
      exact Keeps.refl

theorem State_copyEvents_keeps {s : State} {n : Nat} {e : Evs} :
    Keeps 0x210000000000000000000000003040000000000000000000000 s (State.copyEvents s n e) := by
  unfold State.copyEvents
  extract_lets -underBinder +onlyGivenNames x0
  have h0 : Keeps 0x210000000000000000000000003040000000000000000000000 s x0 := by
    unfold x0
    refine Keeps.trans ?_ (State_finc_keeps (by rfl))
    refine Keeps.trans ?_ (State_finc_keeps (by rfl))
    exact Keeps.refl
  try clear_value x0
  extract_lets -underBinder +onlyGivenNames x1
  have h1 : Keeps 0x210000000000000000000000003040000000000000000000000 s x1 := by
    unfold x1
    refine Keeps.trans ?_ (State_finc_keeps (by rfl))
    refine Keeps.trans ?_ (State_finc_keeps (by rfl))
    exact h0
  try clear_value x1
  refine Keeps.ite ?_ ?_
  ·
    exact h1
  ·
    refine Keeps.trans ?_ (State_memEvt_keeps.mono rfl)
    exact h1

theorem finishSums_keeps {s : State} {slot : List Byte} {h : Nat} {d : Desc} {t : Nat} {sums : List FV} :
    Keeps 0x1000908e1c4700078200000000000000000000000000000000000000000000000000000000000000000000000000000210000000100000000000c0000014000d880000000000000040 s (finishSums s slot h d t sums) := by
  unfold finishSums
  extract_lets -underBinder +onlyGivenNames x0
  try clear_value x0
  extract_lets -underBinder +onlyGivenNames x1
  try clear_value x1
  extract_lets -underBinder +onlyGivenNames x2
  try clear_value x2
  extract_lets -underBinder +onlyGivenNames x3
  try clear_value x3
  extract_lets -underBinder +onlyGivenNames x4
  try clear_value x4
  extract_lets -underBinder +onlyGivenNames x5
  try clear_value x5
  extract_lets -underBinder +onlyGivenNames x6
  have h6 : Keeps 0x1000908e1c4700078200000000000000000000000000000000000000000000000000000000000000000000000000000210000000100000000000c0000014000d880000000000000040 s x6 := by
    unfold x6
    refine Keeps.trans ?_ (State_finc_keeps (by rfl))
    exact Keeps.refl
  try clear_value x6
  extract_lets -underBinder +onlyGivenNames x7
  try clear_value x7
  extract_lets -underBinder +onlyGivenNames x8
  try clear_value x8
  extract_lets -underBinder +onlyGivenNames x9
  try clear_value x9
  split
  ·
    rename_i y10_0 y10_1 e10
    have h10 := Keeps.of_eq (M := 0x1000908e1c4700078200000000000000000000000000000000000000000000000000000000000000000000000000000210000000100000000000c0000014000d880000000000000040) (s := s) e10 (by
      refine Keeps.trans ?_ (State_put_keeps.mono rfl)
      exact h6
      )
    extract_lets -underBinder +onlyGivenNames x11
    have h11 : Keeps 0x1000908e1c4700078200000000000000000000000000000000000000000000000000000000000000000000000000000210000000100000000000c0000014000d880000000000000040 s x11 := by
      unfold x11
      refine Keeps.trans ?_ (State_writeFail_keeps.mono rfl)
      exact h10
    try clear_value x11
    extract_lets -underBinder +onlyGivenNames x12
    try clear_value x12
    extract_lets -underBinder +onlyGivenNames x13
    try clear_value x13
    extract_lets -underBinder +onlyGivenNames x14
    have h14 : Keeps 0x1000908e1c4700078200000000000000000000000000000000000000000000000000000000000000000000000000000210000000100000000000c0000014000d880000000000000040 s x14 := by
      unfold x14
      refine Keeps.ite ?_ ?_
      ·
        refine Keeps.trans ?_ (State_trainEvt_keeps.mono rfl)
        exact h11
      ·
        exact h11
    try clear_value x14
    extract_lets -underBinder +onlyGivenNames x15
    have h15 : Keeps 0x1000908e1c4700078200000000000000000000000000000000000000000000000000000000000000000000000000000210000000100000000000c0000014000d880000000000000040 s x15 := by
      unfold x15
      refine Keeps.ite ?_ ?_
      ·
        refine Keeps.trans ?_ (State_trainEvt_keeps.mono rfl)
        exact h14
      ·
        exact h14
    try clear_value x15
    extract_lets -underBinder +onlyGivenNames x16
    have h16 : Keeps 0x1000908e1c4700078200000000000000000000000000000000000000000000000000000000000000000000000000000210000000100000000000c0000014000d880000000000000040 s x16 := by
      unfold x16
      refine Keeps.trans ?_ (pendRatio_keeps.mono rfl)
      exact h15
    try clear_value x16
    refine Keeps.trans ?_ (upd_updDone rfl)
    exact h16

theorem writeBand_keeps {s : State} {slot : List Byte} {vals : List Word} {h : Nat} {d : Desc} {t : Nat} {n : Nat} :
    Keeps 0x100090821c4700078200000000000000000000000000000000000000000000000000000000000000000000000000000210000000100000800000d4000014000d880000000000000040 s (writeBand s slot vals h d t n).1 := by
  unfold writeBand
  extract_lets -underBinder +onlyGivenNames x0
  try clear_value x0
  extract_lets -underBinder +onlyGivenNames x1
  try clear_value x1
  extract_lets -underBinder +onlyGivenNames x2
  have h2 : Keeps 0x100090821c4700078200000000000000000000000000000000000000000000000000000000000000000000000000000210000000100000800000d4000014000d880000000000000040 s x2 := by
    unfold x2
    refine Keeps.ite ?_ ?_
    ·
      refine Keeps.trans ?_ (countGrad_keeps.mono rfl)
      exact Keeps.refl
    ·
      exact Keeps.refl
  try clear_value x2
  split
  ·
    rename_i y3_0 y3_1 e3
    have h3 := Keeps.of_eq (M := 0x100090821c4700078200000000000000000000000000000000000000000000000000000000000000000000000000000210000000100000800000d4000014000d880000000000000040) (s := s) e3 (by
      refine Keeps.trans ?_ (State_put_keeps.mono rfl)
      exact h2
      )
    extract_lets -underBinder +onlyGivenNames x4
    have h4 : Keeps 0x100090821c4700078200000000000000000000000000000000000000000000000000000000000000000000000000000210000000100000800000d4000014000d880000000000000040 s x4 := by
      unfold x4
      refine Keeps.trans ?_ (State_fset_keeps (by rfl))
      refine Keeps.trans ?_ (State_writeFail_keeps.mono rfl)
      exact h3
    try clear_value x4
    extract_lets -underBinder +onlyGivenNames x5
    have h5 : Keeps 0x100090821c4700078200000000000000000000000000000000000000000000000000000000000000000000000000000210000000100000800000d4000014000d880000000000000040 s x5 := by
      unfold x5
      refine Keeps.trans ?_ (State_finc_keeps (by rfl))
      refine Keeps.trans ?_ (State_finc_keeps (by rfl))
      exact h4
    try clear_value x5
    refine Keeps.mk1 ?_
    refine Keeps.ite ?_ ?_
    ·
      refine Keeps.trans ?_ (State_trainEvt_keeps.mono rfl)
      refine Keeps.trans ?_ (State_finc_keeps (by rfl))
      exact h5
    ·
      exact h5

theorem writeCopies_keeps {s : State} {h : Nat} {base : Nat} {d : Desc} {x : CopySrc} {t : Nat} {n : Nat} {done : List Nat} :
    Keeps 0x100090821c470007820000000000000000000000000000000000000000000000000000000000000000000000000000021000000010000000000000000314000d880000000000000040 s (writeCopies s h base d x t n done) := by
  unfold writeCopies
  extract_lets -underBinder +onlyGivenNames x0
  try clear_value x0
  extract_lets -underBinder +onlyGivenNames x1
  try clear_value x1
  extract_lets -underBinder +onlyGivenNames x2
  try clear_value x2
  extract_lets -underBinder +onlyGivenNames x3
  try clear_value x3
  extract_lets -underBinder +onlyGivenNames x4
  try clear_value x4
  extract_lets -underBinder +onlyGivenNames x5
  try clear_value x5
  extract_lets -underBinder +onlyGivenNames x6
  try clear_value x6
  extract_lets -underBinder +onlyGivenNames x7
  try clear_value x7
  extract_lets -underBinder +onlyGivenNames x8
  try clear_value x8
  extract_lets -underBinder +onlyGivenNames x9
  try clear_value x9
  extract_lets -underBinder +onlyGivenNames x10
  try clear_value x10
  extract_lets -underBinder +onlyGivenNames x11
  try clear_value x11
  extract_lets -underBinder +onlyGivenNames x12
  try clear_value x12
  extract_lets -underBinder +onlyGivenNames x13
  try clear_value x13
  extract_lets -underBinder +onlyGivenNames x14
  try clear_value x14
  split
  ·
    rename_i y15_0 y15_1 e15
    have h15 := Keeps.of_eq (M := 0x100090821c470007820000000000000000000000000000000000000000000000000000000000000000000000000000021000000010000000000000000314000d880000000000000040) (s := s) e15 (by
      refine Keeps.trans ?_ (State_put_keeps.mono rfl)
      exact Keeps.refl
      )
    refine Keeps.trans ?_ (State_copyEvents_keeps.mono rfl)
    refine Keeps.trans ?_ (State_writeFail_keeps.mono rfl)
    exact h15

theorem materialiseAll_keeps {s : State} {f : Flight} :
    Keeps 0x100090821c470007820000000000000000000000000000000000000000000000000000000000000000000000000000021000000010000000000010000314000d880000000000000040 s (materialiseAll s f) := by
  unfold materialiseAll
  extract_lets -underBinder +onlyGivenNames x0
  try clear_value x0
  extract_lets -underBinder +onlyGivenNames x1
  try clear_value x1
  extract_lets -underBinder +onlyGivenNames x2
  try clear_value x2
  extract_lets -underBinder +onlyGivenNames x3
  try clear_value x3
  extract_lets -underBinder +onlyGivenNames x4
  try clear_value x4
  extract_lets -underBinder +onlyGivenNames x5
  try clear_value x5
  extract_lets -underBinder +onlyGivenNames x6
  try clear_value x6
  extract_lets -underBinder +onlyGivenNames x7
  have h7 : Keeps 0x100090821c470007820000000000000000000000000000000000000000000000000000000000000000000000000000021000000010000000000010000314000d880000000000000040 s x7 := by
    unfold x7
    refine Keeps.ite ?_ ?_
    ·
      exact Keeps.refl
    ·
      refine Keeps.trans ?_ (Keeps.foldl (fun s8 _ => ?_) _ _)
      ·
        exact Keeps.refl
      ·
        extract_lets -underBinder +onlyGivenNames x9
        try clear_value x9
        refine Keeps.trans ?_ (writeCopies_keeps.mono rfl)
        refine Keeps.trans ?_ (State_finc_keeps (by rfl))
        exact Keeps.refl
  try clear_value x7
  refine Keeps.ite ?_ ?_
  ·
    exact h7
  ·
    split
    ·
      rename_i y10_0 y10_1 e10
      have h10 := Keeps.of_eq (M := 0x100090821c470007820000000000000000000000000000000000000000000000000000000000000000000000000000021000000010000000000010000314000d880000000000000040) (s := s) e10 (by
        refine Keeps.trans ?_ (State_put_keeps.mono rfl)
        exact h7
        )
      refine Keeps.trans ?_ (State_writeFail_keeps.mono rfl)
      exact h10

theorem updateParam_keeps {s : State} {slot : List Byte} {h : Nat} {vs : List Word} :
    Keeps 0x1000908e3cc700078200000000000000000000000000000000000000000000000000000000000000000000000000000210000000100000800000d4000014000d880000000000000040 s (updateParam s slot h vs) := by
  unfold updateParam
  split
  ·
    exact Keeps.refl
  ·
    extract_lets -underBinder +onlyGivenNames x0
    have h0 : Keeps 0x1000908e3cc700078200000000000000000000000000000000000000000000000000000000000000000000000000000210000000100000800000d4000014000d880000000000000040 s x0 := by
      unfold x0
      refine Keeps.trans ?_ (roundSums_keeps.mono rfl)
      exact Keeps.refl
    try clear_value x0
    extract_lets -underBinder +onlyGivenNames x1
    have h1 : Keeps 0x1000908e3cc700078200000000000000000000000000000000000000000000000000000000000000000000000000000210000000100000800000d4000014000d880000000000000040 s x1.1 := by
      unfold x1
      refine Keeps.trans ?_ (Keeps.foldl1 (fun s2 _ => ?_) _ _)
      ·
        refine Keeps.mk1 ?_
        exact h0
      ·
        extract_lets -underBinder +onlyGivenNames x3
        try clear_value x3
        extract_lets -underBinder +onlyGivenNames x4
        have h4 : Keeps 0x1000908e3cc700078200000000000000000000000000000000000000000000000000000000000000000000000000000210000000100000800000d4000014000d880000000000000040 s2.1 x4.1 := by
          unfold x4
          refine Keeps.trans ?_ (writeBand_keeps.mono rfl)
          exact Keeps.refl
        try clear_value x4
        refine Keeps.mk1 ?_
        exact h4
    try clear_value x1
    refine Keeps.trans ?_ (finishSums_keeps.mono rfl)
    extract_lets -underBinder +onlyGivenNames x5
    have h5 : Keeps 0x1000908e3cc700078200000000000000000000000000000000000000000000000000000000000000000000000000000210000000100000800000d4000014000d880000000000000040 s x5 := by
      unfold x5
      exact h1
    try clear_value x5
    refine Keeps.trans ?_ (upd_windows rfl)
    exact h5

theorem runBand_keeps {s : State} {u : Upd} {t : Nat} {n : Nat} :
    Keeps 0xc1000908e3cc70007c2000000000000000000000000000000000000000000000000000000000000000000e0000000000210000000500000808000d4000314e00d880000000000000040 s (runBand s u t n) := by
  unfold runBand
  split
  ·
    exact Keeps.refl
  ·
    extract_lets -underBinder +onlyGivenNames x0
    try clear_value x0
    split
    ·
      refine Keeps.trans ?_ (uncorrEngine_keeps.mono rfl)
      exact Keeps.refl
    ·
      extract_lets -underBinder +onlyGivenNames x1
      have h1 : Keeps 0xc1000908e3cc70007c2000000000000000000000000000000000000000000000000000000000000000000e0000000000210000000500000808000d4000314e00d880000000000000040 s x1 := by
        unfold x1
        split
        ·
          refine Keeps.ite ?_ ?_
          ·
            refine Keeps.trans ?_ (updateParam_keeps.mono rfl)
            exact Keeps.refl
          ·
            exact Keeps.refl
        ·
          exact Keeps.refl
      try clear_value x1
      split
      ·
        rename_i y2_0 y2_1 e2
        have h2 := Keeps.of_eq (M := 0xc1000908e3cc70007c2000000000000000000000000000000000000000000000000000000000000000000e0000000000210000000500000808000d4000314e00d880000000000000040) (s := s) e2 (by
          refine Keeps.trans ?_ (writeBand_keeps.mono rfl)
          refine Keeps.trans ?_ (roundSums_keeps.mono rfl)
          exact h1
          )
        extract_lets -underBinder +onlyGivenNames x3
        try clear_value x3
        extract_lets -underBinder +onlyGivenNames x4
        try clear_value x4
        extract_lets -underBinder +onlyGivenNames x5
        try clear_value x5
        extract_lets -underBinder +onlyGivenNames x6
        have h6 : Keeps 0xc1000908e3cc70007c2000000000000000000000000000000000000000000000000000000000000000000e0000000000210000000500000808000d4000314e00d880000000000000040 s x6 := by
          unfold x6
          refine Keeps.ite ?_ ?_
          ·
            exact h2
          ·
            refine Keeps.trans ?_ (writeCopies_keeps.mono rfl)
            exact h2
        try clear_value x6
        extract_lets -underBinder +onlyGivenNames x7
        have h7 : Keeps 0xc1000908e3cc70007c2000000000000000000000000000000000000000000000000000000000000000000e0000000000210000000500000808000d4000314e00d880000000000000040 s x7 := by
          unfold x7
          refine Keeps.trans ?_ (freeTiles_keeps.mono rfl)
          exact h6
        try clear_value x7
        extract_lets -underBinder +onlyGivenNames x8
        try clear_value x8
        extract_lets -underBinder +onlyGivenNames x9
        try clear_value x9
        refine Keeps.ite ?_ ?_
        ·
          refine Keeps.trans ?_ (finishSums_keeps.mono rfl)
          refine Keeps.trans ?_ (upd_updates rfl)
          exact h7
        ·
          extract_lets -underBinder +onlyGivenNames x10
          try clear_value x10
          refine Keeps.trans ?_ (upd_updates rfl)
          exact h7

theorem takeBand_keeps {s : State} {id : Nat} {t : Nat} {chk : FeltCheck} :
    Keeps 0xc1000908e3cc70007c2000000000000000000000000000000000000000000000000000000000000000000e0000000000210000000500000808028d4000314e00d880000000000000040 s (takeBand s id t chk) := by
  unfold takeBand
  split
  ·
    exact Keeps.refl
  ·
    extract_lets -underBinder +onlyGivenNames x0
    try clear_value x0
    extract_lets -underBinder +onlyGivenNames x1
    try clear_value x1
    refine Keeps.ite ?_ ?_
    ·
      exact Keeps.refl
    ·
      refine Keeps.ite ?_ ?_
      ·
        refine Keeps.trans ?_ (State_feltChecked_keeps.mono rfl)
        exact Keeps.refl
      ·
        refine Keeps.ite ?_ ?_
        ·
          extract_lets -underBinder +onlyGivenNames x2
          try clear_value x2
          refine Keeps.trans ?_ (upd_updates rfl)
          exact Keeps.refl
        ·
          refine Keeps.trans ?_ (runBand_keeps.mono rfl)
          exact Keeps.refl

theorem execMacroComplete_keeps {id : Nat} {s : State} :
    OutKeeps 0x10411001e086000000000000000000000000000000000000000000000000000000000000000000000100000000000002100000000003800000008c000000000d882e00000000000040 s (execMacroComplete id s) := by
  unfold execMacroComplete
  split
  ·
    refine done_keeps ?_
    refine Keeps.ite ?_ ?_
    ·
      refine Keeps.trans ?_ (startWindows_keeps.mono rfl)
      refine Keeps.trans ?_ (State_complete_keeps.mono rfl)
      exact Keeps.refl
    ·
      exact Keeps.refl
  ·
    refine done_keeps ?_
    exact Keeps.refl

theorem execUpdateBand_keeps {id : Nat} {band : Nat} {chk : FeltCheck} {s : State} :
    OutKeeps 0xc1000908e3cc70007c2000000000000000000000000000000000000000000000000000000000000000000e0000000000210000000500000808028d4000314e00d880000000000000040 s (execUpdateBand id band chk s) := by
  unfold execUpdateBand
  refine done_keeps ?_
  refine Keeps.trans ?_ (takeBand_keeps.mono rfl)
  exact Keeps.refl

theorem releaseHeld_keeps {s : State} {id : Nat} :
    Keeps 0xc1000908e3cc70007c2000000000000000000000000000000000000000000000000000000000000000000e0000000000210000000500000808000d4000314e00d880000000000000040 s (releaseHeld s id) := by
  unfold releaseHeld
  split
  ·
    exact Keeps.refl
  ·
    refine Keeps.ite ?_ ?_
    ·
      exact Keeps.refl
    ·
      refine Keeps.trans ?_ (Keeps.foldl (fun s0 _ => ?_) _ _)
      ·
        exact Keeps.refl
      ·
        split
        ·
          refine Keeps.ite ?_ ?_
          ·
            refine Keeps.trans ?_ (runBand_keeps.mono rfl)
            exact Keeps.refl
          ·
            exact Keeps.refl
        ·
          exact Keeps.refl

theorem execUpdateWriteRelease_keeps {id : Nat} {s : State} :
    OutKeeps 0xc1000908e3cc70007c2000000000000000000000000000000000000000000000000000000000000000000e0000000000210000000500000808000d4000314e00d880000000000000040 s (execUpdateWriteRelease id s) := by
  unfold execUpdateWriteRelease
  refine done_keeps ?_
  refine Keeps.trans ?_ (releaseHeld_keeps.mono rfl)
  exact Keeps.refl

theorem startMaterialise_keeps {s : State} {id : Nat} {c : Nat} {f : Flight} {first : Bool} :
    Keeps 0xc104190821c470007c2000000000000000000000000000000000000000000000000000000000000000100e000000000021000000050038000800010000314e00d882e00000000004140 s (startMaterialise s id c f first) := by
  unfold startMaterialise
  split
  ·
    refine Keeps.trans ?_ (uncorrEngine_keeps.mono rfl)
    exact Keeps.refl
  ·
    refine Keeps.trans ?_ (takeAll_keeps rfl (fun f0_0 => ?_))
    ·
      exact Keeps.refl
    ·
      refine Keeps.trans ?_ (materialiseAll_keeps.mono rfl)
      exact Keeps.refl

theorem startUpdate_keeps {s : State} {id : Nat} {c : Nat} {f : Flight} {first : Bool} :
    Keeps 0xc104190821c47000742000000000000000000000000000000000000000000000000000000000000000100e000000000021000000050038000800040000014e00d882e00000000004140 s (startUpdate s id c f first) := by
  unfold startUpdate
  extract_lets -underBinder +onlyGivenNames x0
  try clear_value x0
  extract_lets -underBinder +onlyGivenNames x1
  try clear_value x1
  extract_lets -underBinder +onlyGivenNames x2
  try clear_value x2
  extract_lets -underBinder +onlyGivenNames x3
  try clear_value x3
  extract_lets -underBinder +onlyGivenNames x4
  try clear_value x4
  split
  ·
    refine Keeps.trans ?_ (uncorrEngine_keeps.mono rfl)
    exact Keeps.refl
  ·
    refine Keeps.trans ?_ (takeAll_keeps rfl (fun f5_0 => ?_))
    ·
      exact Keeps.refl
    ·
      split
      ·
        rename_i y6_0 y6_1 e6
        have h6 := Keeps.of_eq (M := 0xc104190821c47000742000000000000000000000000000000000000000000000000000000000000000100e000000000021000000050038000800040000014e00d882e00000000004140) (s := f5_0) e6 (by
          split
          ·
            refine Keeps.trans ?_ (tensorStart_keeps.mono rfl)
            exact Keeps.refl
          ·
            refine Keeps.mk1 ?_
            exact Keeps.refl
          )
        split
        ·
          rename_i y7_0 y7_1 e7
          have h7 := Keeps.of_eq (M := 0xc104190821c47000742000000000000000000000000000000000000000000000000000000000000000100e000000000021000000050038000800040000014e00d882e00000000004140) (s := f5_0) e7 (by
            refine Keeps.trans ?_ (tensorStart_keeps.mono rfl)
            exact h6
            )
          refine Keeps.trans ?_ (upd_updates rfl)
          exact h7

theorem execMaterialise_keeps {c : Fin 1056} {st : Strm} {s : State} :
    OutKeeps 0xc104190821c4f0007c2000000000000000000000000000000000000000000000000000000000000000100e000000000021000000050038000800010000314e01d882e00000000004940 s (execMaterialise c st s) := by
  unfold execMaterialise
  refine done_keeps ?_
  refine Keeps.trans ?_ (issue_keeps rfl (fun f0_0 f0_1 f0_2 f0_3 => ?_))
  ·
    exact Keeps.refl
  ·
    refine Keeps.trans ?_ (startMaterialise_keeps.mono rfl)
    exact Keeps.refl

theorem execUpdate_keeps {c : Fin 1056} {st : Strm} {s : State} :
    OutKeeps 0xc104190821c4f000742000000000000000000000000000000000000000000000000000000000000000100e000000000021000000050038000800040000014e01d882e00000000004940 s (execUpdate c st s) := by
  unfold execUpdate
  refine done_keeps ?_
  refine Keeps.trans ?_ (issue_keeps rfl (fun f0_0 f0_1 f0_2 f0_3 => ?_))
  ·
    exact Keeps.refl
  ·
    refine Keeps.trans ?_ (startUpdate_keeps.mono rfl)
    exact Keeps.refl

end Sys2Proof.Laws
end

