-- ==== Sys2Proof/Laws/KeepsSteps.lean ====
section
/-! SUPPORT. What each operation of Sys2Proof/Machine/Steps.lean may write (Laws/Keeps.lean says how a mask is read). -/
namespace Sys2Proof.Laws
open Sys2Proof Sys2Proof.Machine

set_option linter.unusedVariables false

theorem State_commitHelds_keeps {s : State} {p : Nat} :
    Keeps 0xc00000000000000000000000000000000000000000000000000000000000000000000000000000000000000000000000000000000000000000000000000000000000000000 s (State.commitHelds s p) := by
  unfold State.commitHelds
  extract_lets -underBinder +onlyGivenNames x0
  try clear_value x0
  refine Keeps.trans ?_ (upd_masks_helds rfl rfl)
  exact Keeps.refl

theorem State_commitRatios_keeps {s : State} {p : Nat} :
    Keeps 0x8000000000000000000000000000000000000000000000000000000000000000000000000000000000000000000000000000000000000000000000000000000000000000000 s (State.commitRatios s p) := by
  unfold State.commitRatios
  refine Keeps.trans ?_ (upd_ratios rfl)
  exact Keeps.refl

theorem State_failRatios_keeps {s : State} {p : Nat} :
    Keeps 0x8000000000000000000000000000000000000000000000000000000000000000000000000000000000000000000000000000000000000000000000000000000000000000000 s (State.failRatios s p) := by
  unfold State.failRatios
  extract_lets -underBinder +onlyGivenNames x0
  try clear_value x0
  refine Keeps.trans ?_ (upd_ratios rfl)
  exact Keeps.refl

theorem State_freeStep_keeps {s : State} {p : Nat} :
    Keeps 0x5238000000000000000000000000000000000000000000000000000000000000000000000000000000000000000000000000000000000000000000000000000000000000000 s (State.freeStep s p) := by
  unfold State.freeStep
  refine Keeps.trans ?_ (upd_windows_micros_sliceSums_sideSums_sentTiles_updDone rfl rfl rfl rfl rfl rfl)
  exact Keeps.refl

theorem State_repeatHelds_keeps {s : State} {p : Nat} :
    Keeps 0xc00000000000000000000000000000000000000000000000000000000000000000000000000000000000000000000000000000000000000000000000000000000000000000 s (State.repeatHelds s p) := by
  unfold State.repeatHelds
  extract_lets -underBinder +onlyGivenNames x0
  try clear_value x0
  extract_lets -underBinder +onlyGivenNames x1
  try clear_value x1
  extract_lets -underBinder +onlyGivenNames x2
  try clear_value x2
  refine Keeps.trans ?_ (upd_masks_helds rfl rfl)
  exact Keeps.refl

theorem badRule_keeps {s : State} :
    Keeps 0x8000000000000000000000000 s (badRule s) := by
  unfold badRule
  refine Keeps.trans ?_ (State_finc_keeps (by rfl))
  exact Keeps.refl

theorem execAbortDrained_keeps {p : Fin 64} {s : State} :
    OutKeeps 0x100000000000000000000000000000000000000000000000000000000000000000000000000000000000000000000000000800000000000000000000000000000000000 s (execAbortDrained p s) := by
  unfold execAbortDrained
  refine OutKeeps.ite ?_ ?_
  ·
    extract_lets -underBinder +onlyGivenNames x0
    try clear_value x0
    extract_lets -underBinder +onlyGivenNames x1
    have h1 : Keeps 0x100000000000000000000000000000000000000000000000000000000000000000000000000000000000000000000000000800000000000000000000000000000000000 s x1 := by
      unfold x1
      refine Keeps.trans ?_ (State_setPanel_keeps.mono rfl)
      exact Keeps.refl
    try clear_value x1
    refine done_keeps ?_
    refine Keeps.ite ?_ ?_
    ·
      refine Keeps.trans ?_ (State_fset_keeps (by rfl))
      exact h1
    ·
      exact h1
  ·
    refine done_keeps ?_
    exact Keeps.refl

theorem execRulesStopped_keeps {s : State} :
    OutKeeps 0x8000000000000000000000000 s (execRulesStopped s) := by
  unfold execRulesStopped
  refine OutKeeps.ite ?_ ?_
  ·
    refine done_keeps ?_
    refine Keeps.trans ?_ (State_fset_keeps (by rfl))
    exact Keeps.refl
  ·
    refine done_keeps ?_
    exact Keeps.refl

theorem execSettling_keeps {p : Fin 64} {s : State} :
    OutKeeps 0x800000000000000000000000000000000000 s (execSettling p s) := by
  unfold execSettling
  refine OutKeeps.ite ?_ ?_
  ·
    refine done_keeps ?_
    refine Keeps.trans ?_ (State_fset_keeps (by rfl))
    exact Keeps.refl
  ·
    refine done_keeps ?_
    exact Keeps.refl

theorem ratioSel_keeps {s : State} {n : Nat} {w : Word} :
    Keeps 0x10000000000000000000000000000000000000000000000000000000000000000000000000000000000000000000000000000000000002000000000000000000000000000000 s (ratioSel s n w) := by
  unfold ratioSel
  extract_lets -underBinder +onlyGivenNames x0
  try clear_value x0
  extract_lets -underBinder +onlyGivenNames x1
  have h1 : Keeps 0x10000000000000000000000000000000000000000000000000000000000000000000000000000000000000000000000000000000000002000000000000000000000000000000 s x1 := by
    unfold x1
    refine Keeps.trans ?_ (State_fset_keeps (by rfl))
    refine Keeps.trans ?_ (State_fset_keeps (by rfl))
    exact Keeps.refl
  try clear_value x1
  refine Keeps.trans ?_ (upd_ratioSnap rfl)
  exact h1

theorem ruleCtrl_keeps {s : State} {w : Word} :
    Keeps 0x8000000000000000000000000000000000000000000000000000000000000000000000000000000000000000000000000000000000008000000000000000000000000 s (ruleCtrl s w) := by
  unfold ruleCtrl
  extract_lets -underBinder +onlyGivenNames x0
  try clear_value x0
  extract_lets -underBinder +onlyGivenNames x1
  have h1 : Keeps 0x8000000000000000000000000000000000000000000000000000000000000000000000000000000000000000000000000000000000008000000000000000000000000 s x1 := by
    unfold x1
    refine Keeps.ite ?_ ?_
    ·
      exact Keeps.refl
    ·
      refine Keeps.ite ?_ ?_
      ·
        refine Keeps.trans ?_ (State_fset_keeps (by rfl))
        exact Keeps.refl
      ·
        refine Keeps.trans ?_ (badRule_keeps.mono rfl)
        exact Keeps.refl
  try clear_value x1
  refine Keeps.ite ?_ ?_
  ·
    exact h1
  ·
    refine Keeps.ite ?_ ?_
    ·
      refine Keeps.trans ?_ (badRule_keeps.mono rfl)
      exact h1
    ·
      extract_lets -underBinder +onlyGivenNames x2
      have h2 : Keeps 0x8000000000000000000000000000000000000000000000000000000000000000000000000000000000000000000000000000000000008000000000000000000000000 s x2 := by
        unfold x2
        refine Keeps.ite ?_ ?_
        ·
          exact h1
        ·
          refine Keeps.trans ?_ (State_fincw_keeps (by rfl))
          exact h1
      try clear_value x2
      extract_lets -underBinder +onlyGivenNames x3
      have h3 : Keeps 0x8000000000000000000000000000000000000000000000000000000000000000000000000000000000000000000000000000000000008000000000000000000000000 s x3 := by
        unfold x3
        refine Keeps.trans ?_ (State_fset_keeps (by rfl))
        exact h2
      try clear_value x3
      refine Keeps.trans ?_ (upd_rulesOn rfl)
      exact h3

theorem voteDone_keeps {s : State} {p : Nat} {last : Nat} :
    Keeps 0x210000000000000800000000000000000000000000000000000 s (voteDone s p last) := by
  unfold voteDone
  refine Keeps.trans ?_ (State_raise_keeps.mono rfl)
  refine Keeps.trans ?_ (State_fset_keeps (by rfl))
  refine Keeps.trans ?_ (State_fset_keeps (by rfl))
  exact Keeps.refl

theorem State_computeAgain_keeps {s : State} {p : Nat} :
    Keeps 0x4000000000000000000000000000000000000000000000000000000000000000000000000000000000000000000000080000000000010000c000000000000000000 s (State.computeAgain s p) := by
  unfold State.computeAgain
  refine Keeps.trans ?_ (State_abandonMoves_keeps.mono rfl)
  refine Keeps.trans ?_ (State_fset_keeps (by rfl))
  refine Keeps.trans ?_ (State_toEntry_keeps.mono rfl)
  exact Keeps.refl

theorem execFeltRatioSelWrite_keeps {a : Agent} {n : Fin 8} {w : Word} {s : State} :
    OutKeeps 0x10000000000000000000000000000000000000000000000000000000000000000000000000000000000000000210681000000000000002000000000001880000000000000040 s (execFeltRatioSelWrite a n w s) := by
  unfold execFeltRatioSelWrite
  refine done_keeps ?_
  refine Keeps.trans ?_ (State_access_keeps rfl (fun f0_0 => ?_))
  ·
    exact Keeps.refl
  ·
    refine Keeps.trans ?_ (ratioSel_keeps.mono rfl)
    exact Keeps.refl

theorem execRuleStart_keeps {a : Agent} {w : Word} {s : State} :
    OutKeeps 0x8000000000000000000000000000000000000000000000000000000000000000000000000000000000210681000000000000000000008000001880000000000000040 s (execRuleStart a w s) := by
  unfold execRuleStart
  refine done_keeps ?_
  refine Keeps.trans ?_ (State_access_keeps rfl (fun f0_0 => ?_))
  ·
    exact Keeps.refl
  ·
    refine Keeps.trans ?_ (ruleCtrl_keeps.mono rfl)
    exact Keeps.refl

theorem execRuleStop_keeps {a : Agent} {w : Word} {s : State} :
    OutKeeps 0x8000000000000000000000000000000000000000000000000000000000000000000000000000000000210681000000000000000000008000001880000000000000040 s (execRuleStop a w s) := by
  unfold execRuleStop
  refine done_keeps ?_
  refine Keeps.trans ?_ (State_access_keeps rfl (fun f0_0 => ?_))
  ·
    exact Keeps.refl
  ·
    refine Keeps.trans ?_ (ruleCtrl_keeps.mono rfl)
    exact Keeps.refl

theorem State_pause_keeps {s : State} {p : Nat} {cause : Nat} :
    Keeps 0x104110cfff9700000200000000000000000000000000000000000000000000000000000000000000010000000000000210000000000000900000000000000005888000000000000040 s (State.pause s p cause) := by
  unfold State.pause
  extract_lets -underBinder +onlyGivenNames x0
  have h0 : Keeps 0x104110cfff9700000200000000000000000000000000000000000000000000000000000000000000010000000000000210000000000000900000000000000005888000000000000040 s x0 := by
    unfold x0
    refine Keeps.trans ?_ (State_fset_keeps (by rfl))
    refine Keeps.trans ?_ (State_fset_keeps (by rfl))
    exact Keeps.refl
  try clear_value x0
  refine Keeps.ite ?_ ?_
  ·
    refine Keeps.trans ?_ (State_enterStopped_keeps.mono rfl)
    refine Keeps.trans ?_ (State_eachStream_keeps rfl (fun f1_0 f1_1 f1_2 => ?_))
    ·
      exact h0
    ·
      refine Keeps.trans ?_ (State_setSstate_keeps.mono rfl)
      exact Keeps.refl
  ·
    exact h0

theorem State_stopAtEntry_keeps {s : State} {p : Nat} :
    Keeps 0x104110cfff9700000200000000000000000000000000000000000000000000000000000000000000010000000000000210000000000000900000000000000005888000000000000040 s (State.stopAtEntry s p) := by
  unfold State.stopAtEntry
  extract_lets -underBinder +onlyGivenNames x0
  have h0 : Keeps 0x104110cfff9700000200000000000000000000000000000000000000000000000000000000000000010000000000000210000000000000900000000000000005888000000000000040 s x0 := by
    unfold x0
    refine Keeps.trans ?_ (State_fset_keeps (by rfl))
    refine Keeps.trans ?_ (State_eachStream_keeps rfl (fun f1_0 f1_1 f1_2 => ?_))
    ·
      exact Keeps.refl
    ·
      refine Keeps.trans ?_ (State_setSstate_keeps.mono rfl)
      exact Keeps.refl
  try clear_value x0
  refine Keeps.ite ?_ ?_
  ·
    refine Keeps.trans ?_ (State_enterStopped_keeps.mono rfl)
    exact h0
  ·
    exact h0

theorem timeoutVote_keeps {s : State} {p : Nat} :
    Keeps 0xc004116200000000140000000000000000000000000000000000000000000000000000000000000000100e0000000000000000000400000008000000000000001880000000000000040 s (timeoutVote s p) := by
  unfold timeoutVote
  extract_lets -underBinder +onlyGivenNames x0
  try clear_value x0
  extract_lets -underBinder +onlyGivenNames x1
  try clear_value x1
  split
  ·
    exact Keeps.refl
  ·
    refine Keeps.ite ?_ ?_
    ·
      exact Keeps.refl
    ·
      extract_lets -underBinder +onlyGivenNames x2
      have h2 : Keeps 0xc004116200000000140000000000000000000000000000000000000000000000000000000000000000100e0000000000000000000400000008000000000000001880000000000000040 s x2 := by
        unfold x2
        refine Keeps.trans ?_ (voteRecord_keeps.mono rfl)
        exact Keeps.refl
      try clear_value x2
      extract_lets -underBinder +onlyGivenNames x3
      have h3 : Keeps 0xc004116200000000140000000000000000000000000000000000000000000000000000000000000000100e0000000000000000000400000008000000000000001880000000000000040 s x3 := by
        unfold x3
        refine Keeps.trans ?_ (releaseVotes_keeps.mono rfl)
        exact h2
      try clear_value x3
      refine Keeps.trans ?_ (upd_votes rfl)
      exact h3

theorem execVoteArrival_keeps {p : Fin 64} {s : State} :
    OutKeeps 0x104110cfff9700000200000000000000000000000000000000000000000000000000000000000000010000000000000210000000000000900000000000000005888000000000000040 s (execVoteArrival p s) := by
  unfold execVoteArrival
  refine OutKeeps.ite ?_ ?_
  ·
    extract_lets -underBinder +onlyGivenNames x0
    try clear_value x0
    extract_lets -underBinder +onlyGivenNames x1
    have h1 : Keeps 0x104110cfff9700000200000000000000000000000000000000000000000000000000000000000000010000000000000210000000000000900000000000000005888000000000000040 s x1 := by
      unfold x1
      refine Keeps.trans ?_ (State_sendVote_keeps.mono rfl)
      refine Keeps.trans ?_ (State_fset_keeps (by rfl))
      exact Keeps.refl
    try clear_value x1
    extract_lets -underBinder +onlyGivenNames x2
    try clear_value x2
    extract_lets -underBinder +onlyGivenNames x3
    have h3 : Keeps 0x104110cfff9700000200000000000000000000000000000000000000000000000000000000000000010000000000000210000000000000900000000000000005888000000000000040 s x3 := by
      unfold x3
      refine Keeps.trans ?_ (State_setPanel_keeps.mono rfl)
      exact h1
    try clear_value x3
    refine done_keeps ?_
    refine Keeps.ite ?_ ?_
    ·
      refine Keeps.trans ?_ (State_beginStop_keeps.mono rfl)
      exact h3
    ·
      exact h3
  ·
    refine done_keeps ?_
    exact Keeps.refl

theorem execVoteTimeout_keeps {p : Fin 64} {s : State} :
    OutKeeps 0xc004116200000000140000000000000000000000000000000000000000000000000000000000000000100e0000000000000000000400000008000000000000001880000000000000040 s (execVoteTimeout p s) := by
  unfold execVoteTimeout
  refine done_keeps ?_
  refine Keeps.trans ?_ (timeoutVote_keeps.mono rfl)
  exact Keeps.refl

theorem State_repeatActions_keeps {s : State} {p : Nat} :
    Keeps 0xc1041908fffd7000140000000000000000000000000000000000000000000000000000000000000000100e0000031e1021000000050038000800000000000000dc82e00000000000040 s (State.repeatActions s p) := by
  unfold State.repeatActions
  extract_lets -underBinder +onlyGivenNames x0
  have h0 : Keeps 0xc1041908fffd7000140000000000000000000000000000000000000000000000000000000000000000100e0000031e1021000000050038000800000000000000dc82e00000000000040 s x0 := by
    unfold x0
    refine Keeps.trans ?_ (Keeps.foldl (fun s1 _ => ?_) _ _)
    ·
      exact Keeps.refl
    ·
      refine Keeps.trans ?_ (State_repeatQueue_keeps.mono rfl)
      exact Keeps.refl
  try clear_value x0
  refine Keeps.trans ?_ (State_freeStep_keeps.mono rfl)
  refine Keeps.trans ?_ (State_repeatHelds_keeps.mono rfl)
  refine Keeps.trans ?_ (State_failRatios_keeps.mono rfl)
  refine Keeps.trans ?_ (State_failTrackers_keeps.mono rfl)
  exact h0

theorem State_repeatStep_keeps {s : State} {p : Nat} :
    Keeps 0xc104190cfffd7000542000000000000000000000000000000000000000000000000000000000000000100e0000031e1021000000050038290800000000010000dc8ae00000000000040 s (State.repeatStep s p) := by
  unfold State.repeatStep
  extract_lets -underBinder +onlyGivenNames x0
  have h0 : Keeps 0xc104190cfffd7000542000000000000000000000000000000000000000000000000000000000000000100e0000031e1021000000050038290800000000010000dc8ae00000000000040 s x0 := by
    unfold x0
    refine Keeps.trans ?_ (State_finc_keeps (by rfl))
    exact Keeps.refl
  try clear_value x0
  extract_lets -underBinder +onlyGivenNames x1
  have h1 : Keeps 0xc104190cfffd7000542000000000000000000000000000000000000000000000000000000000000000100e0000031e1021000000050038290800000000010000dc8ae00000000000040 s x1 := by
    unfold x1
    refine Keeps.trans ?_ (State_finc_keeps (by rfl))
    exact h0
  try clear_value x1
  refine Keeps.ite ?_ ?_
  ·
    refine Keeps.trans ?_ (State_pause_keeps.mono rfl)
    refine Keeps.trans ?_ (voteDone_keeps.mono rfl)
    exact h1
  ·
    extract_lets -underBinder +onlyGivenNames x2
    have h2 : Keeps 0xc104190cfffd7000542000000000000000000000000000000000000000000000000000000000000000100e0000031e1021000000050038290800000000010000dc8ae00000000000040 s x2 := by
      unfold x2
      refine Keeps.trans ?_ (State_repeatActions_keeps.mono rfl)
      exact h1
    try clear_value x2
    extract_lets -underBinder +onlyGivenNames x3
    try clear_value x3
    refine Keeps.ite ?_ ?_
    ·
      refine Keeps.trans ?_ (State_pause_keeps.mono rfl)
      refine Keeps.trans ?_ (voteDone_keeps.mono rfl)
      exact h2
    ·
      extract_lets -underBinder +onlyGivenNames x4
      have h4 : Keeps 0xc104190cfffd7000542000000000000000000000000000000000000000000000000000000000000000100e0000031e1021000000050038290800000000010000dc8ae00000000000040 s x4 := by
        unfold x4
        refine Keeps.trans ?_ (State_fset_keeps (by rfl))
        refine Keeps.trans ?_ (voteDone_keeps.mono rfl)
        exact h2
      try clear_value x4
      refine Keeps.ite ?_ ?_
      ·
        refine Keeps.trans ?_ (State_stopAtEntry_keeps.mono rfl)
        exact h4
      ·
        refine Keeps.trans ?_ (State_computeAgain_keeps.mono rfl)
        exact h4

theorem stepCtrl_keeps {s : State} {p : Nat} {w : Word} :
    Keeps 0xc1041908fffd7000540000000000000000000000000000000000000000000000000000000000000000100e0000031e1021000000050038280800000000010000dc82e00000000000040 s (stepCtrl s p w) := by
  unfold stepCtrl
  extract_lets -underBinder +onlyGivenNames x0
  unfold x0
  refine Keeps.ite ?_ ?_
  ·
    exact Keeps.refl
  ·
    refine Keeps.ite ?_ ?_
    ·
      refine Keeps.trans ?_ (State_fset_keeps (by rfl))
      refine Keeps.trans ?_ (State_finc_keeps (by rfl))
      exact Keeps.refl
    ·
      extract_lets -underBinder +onlyGivenNames x1
      try clear_value x1
      refine Keeps.ite ?_ ?_
      ·
        refine Keeps.trans ?_ (State_finc_keeps (by rfl))
        exact Keeps.refl
      ·
        extract_lets -underBinder +onlyGivenNames x2
        have h2 : Keeps 0xc1041908fffd7000540000000000000000000000000000000000000000000000000000000000000000100e0000031e1021000000050038280800000000010000dc82e00000000000040 s x2 := by
          unfold x2
          refine Keeps.ite ?_ ?_
          ·
            refine Keeps.trans ?_ (State_fset_keeps (by rfl))
            exact Keeps.refl
          ·
            exact Keeps.refl
        try clear_value x2
        refine Keeps.trans ?_ (State_computeAgain_keeps.mono rfl)
        refine Keeps.trans ?_ (State_fset_keeps (by rfl))
        refine Keeps.trans ?_ (State_repeatActions_keeps.mono rfl)
        exact h2

theorem State_commitActions_keeps {s : State} {p : Nat} :
    Keeps 0xc1041908ffff7000742000000000000000000000000000000000000000000000000000000000000000100e0000031e10210000000500380e0800000000014000dc82e00140000000040 s (State.commitActions s p) := by
  unfold State.commitActions
  extract_lets -underBinder +onlyGivenNames x0
  try clear_value x0
  extract_lets -underBinder +onlyGivenNames x1
  have h1 : Keeps 0xc1041908ffff7000742000000000000000000000000000000000000000000000000000000000000000100e0000031e10210000000500380e0800000000014000dc82e00140000000040 s x1 := by
    unfold x1
    refine Keeps.ite ?_ ?_
    ·
      exact Keeps.refl
    ·
      refine Keeps.trans ?_ (State_fset_keeps (by rfl))
      exact Keeps.refl
  try clear_value x1
  extract_lets -underBinder +onlyGivenNames x2
  have h2 : Keeps 0xc1041908ffff7000742000000000000000000000000000000000000000000000000000000000000000100e0000031e10210000000500380e0800000000014000dc82e00140000000040 s x2 := by
    unfold x2
    refine Keeps.trans ?_ (Keeps.foldl (fun s3 _ => ?_) _ _)
    ·
      exact h1
    ·
      refine Keeps.trans ?_ (State_commitQueue_keeps.mono rfl)
      exact Keeps.refl
  try clear_value x2
  extract_lets -underBinder +onlyGivenNames x4
  have h4 : Keeps 0xc1041908ffff7000742000000000000000000000000000000000000000000000000000000000000000100e0000031e10210000000500380e0800000000014000dc82e00140000000040 s x4 := by
    unfold x4
    refine Keeps.trans ?_ (State_commitHelds_keeps.mono rfl)
    refine Keeps.trans ?_ (State_commitRatios_keeps.mono rfl)
    refine Keeps.trans ?_ (State_commitTrackers_keeps.mono rfl)
    exact h2
  try clear_value x4
  extract_lets -underBinder +onlyGivenNames x5
  have h5 : Keeps 0xc1041908ffff7000742000000000000000000000000000000000000000000000000000000000000000100e0000031e10210000000500380e0800000000014000dc82e00140000000040 s x5 := by
    unfold x5
    refine Keeps.trans ?_ (State_wr_keeps (by rfl))
    refine Keeps.trans ?_ (State_freeStep_keeps.mono rfl)
    exact h4
  try clear_value x5
  extract_lets -underBinder +onlyGivenNames x6
  have h6 : Keeps 0xc1041908ffff7000742000000000000000000000000000000000000000000000000000000000000000100e0000031e10210000000500380e0800000000014000dc82e00140000000040 s x6 := by
    unfold x6
    refine Keeps.trans ?_ (State_fset_keeps (by rfl))
    refine Keeps.trans ?_ (State_fincw_keeps (by rfl))
    exact h5
  try clear_value x6
  refine Keeps.trans ?_ (State_fset_keeps (by rfl))
  refine Keeps.trans ?_ (State_fset_keeps (by rfl))
  exact h6

theorem State_lateEnd_keeps {s : State} {p : Nat} {last : Nat} {cause : Nat} {acts : Bool} :
    Keeps 0xc1041908fffd7000540000000000000000000000000000000000000000000000000000000000000000100e0000031e1021000000050038080800000000010000dc82e00000000000040 s (State.lateEnd s p last cause acts) := by
  unfold State.lateEnd
  extract_lets -underBinder +onlyGivenNames x0
  have h0 : Keeps 0xc1041908fffd7000540000000000000000000000000000000000000000000000000000000000000000100e0000031e1021000000050038080800000000010000dc82e00000000000040 s x0 := by
    unfold x0
    refine Keeps.trans ?_ (State_fset_keeps (by rfl))
    refine Keeps.trans ?_ (voteDone_keeps.mono rfl)
    exact Keeps.refl
  try clear_value x0
  extract_lets -underBinder +onlyGivenNames x1
  try clear_value x1
  extract_lets -underBinder +onlyGivenNames x2
  have h2 : Keeps 0xc1041908fffd7000540000000000000000000000000000000000000000000000000000000000000000100e0000031e1021000000050038080800000000010000dc82e00000000000040 s x2 := by
    unfold x2
    refine Keeps.ite ?_ ?_
    ·
      refine Keeps.trans ?_ (State_dropWork_keeps.mono rfl)
      exact h0
    ·
      exact h0
  try clear_value x2
  extract_lets -underBinder +onlyGivenNames x3
  have h3 : Keeps 0xc1041908fffd7000540000000000000000000000000000000000000000000000000000000000000000100e0000031e1021000000050038080800000000010000dc82e00000000000040 s x3 := by
    unfold x3
    refine Keeps.ite ?_ ?_
    ·
      refine Keeps.trans ?_ (State_repeatActions_keeps.mono rfl)
      exact h2
    ·
      exact h2
  try clear_value x3
  refine Keeps.ite ?_ ?_
  ·
    exact h3
  ·
    refine Keeps.ite ?_ ?_
    ·
      refine Keeps.trans ?_ (State_computeAgain_keeps.mono rfl)
      exact h3
    ·
      refine Keeps.trans ?_ (State_fset_keeps (by rfl))
      refine Keeps.trans ?_ (State_toEntry_keeps.mono rfl)
      exact h3

theorem State_lateOutcome_keeps {s : State} {p : Nat} {o : VoteOutcome} :
    Keeps 0xc1041908fffd7000540000000000000000000000000000000000000000000000000000000000000000100e0000031e1021000000050038280800000000010000dc82e00000000000040 s (State.lateOutcome s p o) := by
  unfold State.lateOutcome
  split
  ·
    refine Keeps.trans ?_ (State_lateEnd_keeps.mono rfl)
    exact Keeps.refl
  ·
    refine Keeps.trans ?_ (State_lateEnd_keeps.mono rfl)
    exact Keeps.refl
  ·
    extract_lets -underBinder +onlyGivenNames x0
    have h0 : Keeps 0xc1041908fffd7000540000000000000000000000000000000000000000000000000000000000000000100e0000031e1021000000050038280800000000010000dc82e00000000000040 s x0 := by
      unfold x0
      refine Keeps.trans ?_ (State_finc_keeps (by rfl))
      refine Keeps.trans ?_ (State_finc_keeps (by rfl))
      exact Keeps.refl
    try clear_value x0
    refine Keeps.ite ?_ ?_
    ·
      refine Keeps.trans ?_ (State_lateEnd_keeps.mono rfl)
      exact h0
    ·
      refine Keeps.ite ?_ ?_
      ·
        refine Keeps.trans ?_ (State_lateEnd_keeps.mono rfl)
        exact h0
      ·
        refine Keeps.trans ?_ (State_lateEnd_keeps.mono rfl)
        exact h0

theorem execResume_keeps {a : Agent} {p : Fin 64} {w : Word} {s : State} :
    OutKeeps 0xc1041908fffd7000540000000000000000000000000000000000000000000000000000000000000000100e0000031e1021068100050038280800000000010000dc82e00000000000040 s (execResume a p w s) := by
  unfold execResume
  refine done_keeps ?_
  refine Keeps.trans ?_ (State_access_keeps rfl (fun f0_0 => ?_))
  ·
    exact Keeps.refl
  ·
    refine Keeps.trans ?_ (stepCtrl_keeps.mono rfl)
    exact Keeps.refl

theorem State_commit_keeps {s : State} {p : Nat} :
    Keeps 0xc104190cffff7000742000000000000000000000000000000000000000000000000000000000000000100e0000031e10210000000500380f0800000000014000dc8ae00140000000040 s (State.commit s p) := by
  unfold State.commit
  extract_lets -underBinder +onlyGivenNames x0
  have h0 : Keeps 0xc104190cffff7000742000000000000000000000000000000000000000000000000000000000000000100e0000031e10210000000500380f0800000000014000dc8ae00140000000040 s x0 := by
    unfold x0
    refine Keeps.trans ?_ (State_commitActions_keeps.mono rfl)
    refine Keeps.trans ?_ (voteDone_keeps.mono rfl)
    exact Keeps.refl
  try clear_value x0
  refine Keeps.ite ?_ ?_
  ·
    refine Keeps.trans ?_ (State_stopAtEntry_keeps.mono rfl)
    exact h0
  ·
    refine Keeps.trans ?_ (State_dueFault_keeps.mono rfl)
    refine Keeps.trans ?_ (State_computeAgain_keeps.mono rfl)
    exact h0

theorem takeOutcome_keeps {s : State} {p : Nat} {o : VoteOutcome} :
    Keeps 0xc104190cffff7000742000000000000000000000000000000000000000000000000000000000000000100e0000031e10210000000500382f0800000000014000dc8ae00140000000040 s (takeOutcome s p o) := by
  unfold takeOutcome
  extract_lets -underBinder +onlyGivenNames x0
  have h0 : Keeps 0xc104190cffff7000742000000000000000000000000000000000000000000000000000000000000000100e0000031e10210000000500382f0800000000014000dc8ae00140000000040 s x0 := by
    unfold x0
    refine Keeps.trans ?_ (Keeps.foldl (fun s1 _ => ?_) _ _)
    ·
      exact Keeps.refl
    ·
      refine Keeps.trans ?_ (State_wake_keeps.mono rfl)
      exact Keeps.refl
  try clear_value x0
  extract_lets -underBinder +onlyGivenNames x2
  try clear_value x2
  extract_lets -underBinder +onlyGivenNames x3
  try clear_value x3
  extract_lets -underBinder +onlyGivenNames x4
  have h4 : Keeps 0xc104190cffff7000742000000000000000000000000000000000000000000000000000000000000000100e0000031e10210000000500382f0800000000014000dc8ae00140000000040 s x4 := by
    unfold x4
    refine Keeps.trans ?_ (State_setPanel_keeps.mono rfl)
    exact h0
  try clear_value x4
  refine Keeps.ite ?_ ?_
  ·
    split
    ·
      refine Keeps.trans ?_ (State_commit_keeps.mono rfl)
      exact h4
    ·
      refine Keeps.trans ?_ (State_repeatStep_keeps.mono rfl)
      exact h4
    ·
      refine Keeps.trans ?_ (State_pause_keeps.mono rfl)
      refine Keeps.trans ?_ (voteDone_keeps.mono rfl)
      exact h4
    ·
      refine Keeps.trans ?_ (State_pause_keeps.mono rfl)
      refine Keeps.trans ?_ (voteDone_keeps.mono rfl)
      exact h4
  ·
    refine Keeps.ite ?_ ?_
    ·
      refine Keeps.trans ?_ (State_lateOutcome_keeps.mono rfl)
      exact h4
    ·
      exact h4

theorem releaseVote_keeps {s : State} {p : Nat} {remote : VoteOutcome} :
    Keeps 0xc104194cffff7000742000000000000000000000000000000000000000000000000000000000000000100e0000031e10210000000500382f0800000000014000dc8ae00140000000040 s (releaseVote s p remote) := by
  unfold releaseVote
  refine Keeps.ite ?_ ?_
  ·
    exact Keeps.refl
  ·
    split
    ·
      refine Keeps.trans ?_ (takeOutcome_keeps.mono rfl)
      refine Keeps.trans ?_ (upd_voteOut rfl)
      exact Keeps.refl
    ·
      refine Keeps.ite ?_ ?_
      ·
        exact Keeps.refl
      ·
        refine Keeps.trans ?_ (takeOutcome_keeps.mono rfl)
        exact Keeps.refl

theorem execVoteRelease_keeps {p : Fin 64} {remote : VoteOutcome} {s : State} :
    OutKeeps 0xc104194cffff7000742000000000000000000000000000000000000000000000000000000000000000100e0000031e10210000000500382f0800000000014000dc8ae00140000000040 s (execVoteRelease p remote s) := by
  unfold execVoteRelease
  refine done_keeps ?_
  refine Keeps.trans ?_ (releaseVote_keeps.mono rfl)
  exact Keeps.refl

end Sys2Proof.Laws
end

