-- ==== Sys2Proof/Laws/KeepsAccess.lean ====
section
/-! SUPPORT. What each operation of Sys2Proof/Machine/Access.lean may write (Laws/Keeps.lean says how a mask is read). -/
namespace Sys2Proof.Laws
open Sys2Proof Sys2Proof.Machine

set_option linter.unusedVariables false

theorem execCorePark_keeps {c : Fin 1056} {s : State} :
    OutKeeps 0x40 s (execCorePark c s) := by
  unfold execCorePark
  refine done_keeps ?_
  refine Keeps.ite ?_ ?_
  ·
    refine Keeps.trans ?_ (State_fset_keeps (by rfl))
    exact Keeps.refl
  ·
    exact Keeps.refl

theorem execDieBeatWindowEnd_keeps {d : Fin 2} {beats : BitVec 16} {s : State} :
    OutKeeps 0x10 s (execDieBeatWindowEnd d beats s) := by
  unfold execDieBeatWindowEnd
  refine done_keeps ?_
  refine Keeps.trans ?_ (State_fset_keeps (by rfl))
  exact Keeps.refl

theorem groupWrite_keeps {s : State} {w : Word} :
    Keeps 0xc00000000000000000000000000000000000000 s (groupWrite s w) := by
  unfold groupWrite
  refine Keeps.ite ?_ ?_
  ·
    refine Keeps.trans ?_ (State_fset_keeps (by rfl))
    refine Keeps.trans ?_ (State_fset_keeps (by rfl))
    exact Keeps.refl
  ·
    exact Keeps.refl

theorem plainWrite_keeps {s : State} {r : Reg} {i : Nat} {w : Word} :
    Keeps 0xffffffffffffffffffffffffffffffffffffffffffffffffffffffffffffffffffffffffffffffffffffffffffffffffffffffffffffffffffffffffffffffff s (plainWrite s r i w) := by
  unfold plainWrite
  refine Keeps.trans ?_ (State_wr_keeps (all_testBit (by rfl) _))
  exact Keeps.refl

theorem queueConfig_keeps {s : State} {r : Reg} {q : Nat} {w : Word} :
    Keeps 0x80000000000000ffffffffffffffffffffffffffffffffffffffffffffffffffffffffffffffffffffffffffffffffffffffffffffffffffffffffffffffffffffffffffffffff s (queueConfig s r q w) := by
  unfold queueConfig
  extract_lets -underBinder +onlyGivenNames x0
  have h0 : Keeps 0x80000000000000ffffffffffffffffffffffffffffffffffffffffffffffffffffffffffffffffffffffffffffffffffffffffffffffffffffffffffffffffffffffffffffffff s x0 := by
    unfold x0
    refine Keeps.trans ?_ (plainWrite_keeps.mono rfl)
    exact Keeps.refl
  try clear_value x0
  refine Keeps.ite ?_ ?_
  ·
    exact h0
  ·
    refine Keeps.trans ?_ (State_setQueue_keeps.mono rfl)
    exact h0

theorem rcClear_keeps {s : State} {r : Reg} {i : Nat} {inc : Word} :
    Keeps 0xffffffffffffffffffffffffffffffffffffffffffffffffffffffffffffffffffffffffffffffffffffffffffffffffffffffffffffffffffffffffffffffff s (rcClear s r i inc) := by
  unfold rcClear
  refine Keeps.trans ?_ (Keeps.foldl (fun s0 _ => ?_) _ _)
  ·
    exact Keeps.refl
  ·
    refine Keeps.ite ?_ ?_
    ·
      refine Keeps.trans ?_ (State_fset_keeps (all_testBit (by rfl) _))
      exact Keeps.refl
    ·
      exact Keeps.refl

theorem ruleWrite_keeps {s : State} {w : Word} :
    Keeps 0x4000000000000000000000000000000000000000000000000000000000000000000000000000000000000000000000000000000000000000000000000000000000000 s (ruleWrite s w) := by
  unfold ruleWrite
  extract_lets -underBinder +onlyGivenNames x0
  try clear_value x0
  extract_lets -underBinder +onlyGivenNames x1
  try clear_value x1
  extract_lets -underBinder +onlyGivenNames x2
  try clear_value x2
  extract_lets -underBinder +onlyGivenNames x3
  try clear_value x3
  extract_lets -underBinder +onlyGivenNames x4
  try clear_value x4
  extract_lets -underBinder +onlyGivenNames x5
  try clear_value x5
  extract_lets -underBinder +onlyGivenNames x6
  try clear_value x6
  extract_lets -underBinder +onlyGivenNames x7
  try clear_value x7
  refine Keeps.trans ?_ (upd_rules rfl)
  exact Keeps.refl

theorem setLatch_keeps {s : State} {a : Agent} {r : Reg} {i : Nat} {w : Word} :
    Keeps 0x2000000000000000000000000000000000000000000000000000000000000000000000000000000000000000000000000000000000000000000000000000000000 s (setLatch s a r i w) := by
  unfold setLatch
  extract_lets -underBinder +onlyGivenNames x0
  try clear_value x0
  refine Keeps.trans ?_ (upd_latches rfl)
  exact Keeps.refl

theorem pushSrcLo_keeps {s : State} {a : Agent} {q : Nat} {w : Word} {off : Nat} :
    Keeps 0x8000000000000000000000000000000000000000000000000000000000000000000000000000000000000000000210680000000000000000000000000000000000000000000000 s (pushSrcLo s a q w off) := by
  unfold pushSrcLo
  split
  ·
    refine Keeps.ite ?_ ?_
    ·
      refine Keeps.trans ?_ (State_outOfRange_keeps.mono rfl)
      exact Keeps.refl
    ·
      refine Keeps.trans ?_ (State_setQueue_keeps.mono rfl)
      exact Keeps.refl
  ·
    refine Keeps.trans ?_ (State_outOfRange_keeps.mono rfl)
    exact Keeps.refl

theorem readReg_keeps {s : State} {a : Agent} {r : Reg} {i : Nat} {inc : Word} :
    Keeps 0x8000000000000000020ffffffffffffffffffffffffffffffffffffffffffffffffffffffffffffffffffffffffffffffffffffffffffffffffffffffffffffffffffffffffffffffff s (readReg s a r i inc).1 := by
  unfold readReg
  refine Keeps.ite1 ?_ ?_
  ·
    refine Keeps.trans ?_ (claimRead_keeps.mono rfl)
    exact Keeps.refl
  ·
    extract_lets -underBinder +onlyGivenNames x0
    try clear_value x0
    extract_lets -underBinder +onlyGivenNames x1
    have h1 : Keeps 0x8000000000000000020ffffffffffffffffffffffffffffffffffffffffffffffffffffffffffffffffffffffffffffffffffffffffffffffffffffffffffffffffffffffffffffffff s x1 := by
      unfold x1
      split
      ·
        refine Keeps.trans ?_ (setLatch_keeps.mono rfl)
        exact Keeps.refl
      ·
        exact Keeps.refl
    try clear_value x1
    extract_lets -underBinder +onlyGivenNames x2
    have h2 : Keeps 0x8000000000000000020ffffffffffffffffffffffffffffffffffffffffffffffffffffffffffffffffffffffffffffffffffffffffffffffffffffffffffffffffffffffffffffffff s x2 := by
      unfold x2
      refine Keeps.trans ?_ (rcClear_keeps.mono rfl)
      exact h1
    try clear_value x2
    refine Keeps.mk1 ?_
    refine Keeps.ite ?_ ?_
    ·
      refine Keeps.trans ?_ (upd_recLostMark rfl)
      exact h2
    ·
      exact h2

theorem driftDie_keeps {s : State} {d : Nat} {t : Nat} :
    Keeps 0xc000000000000000140000000000000000000000000000000000000000000000000000000000000000000e0000000000210000000400000008000000000000000000000000000000008 s (driftDie s d t) := by
  unfold driftDie
  refine Keeps.ite ?_ ?_
  ·
    exact Keeps.refl
  ·
    extract_lets -underBinder +onlyGivenNames x0
    have h0 : Keeps 0xc000000000000000140000000000000000000000000000000000000000000000000000000000000000000e0000000000210000000400000008000000000000000000000000000000008 s x0 := by
      unfold x0
      refine Keeps.ite ?_ ?_
      ·
        exact Keeps.refl
      ·
        refine Keeps.trans ?_ (State_errRec_keeps.mono rfl)
        exact Keeps.refl
    try clear_value x0
    refine Keeps.trans ?_ (State_raise_keeps.mono rfl)
    refine Keeps.trans ?_ (State_fset_keeps (by rfl))
    exact h0

theorem execDriftCheck_keeps {ticks : List Nat} {s : State} :
    OutKeeps 0xc000000000000000140000000000000000000000000000000000000000000000000000000000000000000e0000000000210000000400000008000000000000000000000000000000008 s (execDriftCheck ticks s) := by
  unfold execDriftCheck
  refine OutKeeps.ite ?_ ?_
  ·
    refine done_keeps ?_
    exact Keeps.refl
  ·
    refine done_keeps ?_
    refine Keeps.trans ?_ (Keeps.foldl (fun s0 _ => ?_) _ _)
    ·
      exact Keeps.refl
    ·
      refine Keeps.trans ?_ (driftDie_keeps.mono rfl)
      exact Keeps.refl

theorem raiseEnabled_keeps {s : State} {r : Reg} {i : Nat} {old : Nat} :
    Keeps 0x210000000000000000000000000000001880000000000000040 s (raiseEnabled s r i old) := by
  unfold raiseEnabled
  split
  ·
    exact Keeps.refl
  ·
    extract_lets -underBinder +onlyGivenNames x0
    try clear_value x0
    extract_lets -underBinder +onlyGivenNames x1
    try clear_value x1
    extract_lets -underBinder +onlyGivenNames x2
    try clear_value x2
    extract_lets -underBinder +onlyGivenNames x3
    try clear_value x3
    extract_lets -underBinder +onlyGivenNames x4
    have h4 : Keeps 0x210000000000000000000000000000001880000000000000040 s x4 := by
      unfold x4
      refine Keeps.ite ?_ ?_
      ·
        refine Keeps.trans ?_ (State_raiseCore_keeps.mono rfl)
        exact Keeps.refl
      ·
        exact Keeps.refl
    try clear_value x4
    refine Keeps.ite ?_ ?_
    ·
      refine Keeps.trans ?_ (State_raiseCore_keeps.mono rfl)
      exact h4
    ·
      exact h4

theorem readOff_keeps {s : State} {a : Agent} {off : Nat} {inc : Word} :
    Keeps 0x8000000000000000020ffffffffffffffffffffffffffffffffffffffffffffffffffffffffffffffffffffffffffffffffffffffffffffffffffffffffffffffffffffffffffffffff s (readOff s a off inc).1 := by
  unfold readOff
  refine Keeps.ite1 ?_ ?_
  ·
    refine Keeps.mk1 ?_
    exact Keeps.refl
  ·
    refine Keeps.ite1 ?_ ?_
    ·
      refine Keeps.mk1 ?_
      exact Keeps.refl
    ·
      split
      ·
        refine Keeps.trans ?_ (readReg_keeps.mono rfl)
        exact Keeps.refl
      ·
        refine Keeps.mk1 ?_
        exact Keeps.refl

theorem State_ctrlLoad_keeps {s : State} {a : Agent} {off : Nat} {inc : Word} :
    Keeps 0x8000000000000000024ffffffffffffffffffffffffffffffffffffffffffffffffffffffffffffffffffffffffffffffffffffffffffffffffffffffffffffffffffffffffffffffff s (State.ctrlLoad s a off inc) := by
  unfold State.ctrlLoad
  refine Keeps.trans ?_ (State_readInto_keeps rfl (fun f0_0 => ?_))
  ·
    exact Keeps.refl
  ·
    refine Keeps.trans ?_ (readOff_keeps.mono rfl)
    exact Keeps.refl

theorem execDebugControlRead_keeps {dr : BitVec 128} {s : State} :
    OutKeeps 0x88000000000000000024ffffffffffffffffffffffffffffffffffffffffffffffffffffffffffffffffffffffffffffffffffffffffffffffffffffffffffffffffffffffffffffffff s (execDebugControlRead dr s) := by
  unfold execDebugControlRead
  refine done_keeps ?_
  refine Keeps.trans ?_ (debugOp_keeps rfl (fun f0_0 => ?_))
  ·
    exact Keeps.refl
  ·
    refine Keeps.ite ?_ ?_
    ·
      refine Keeps.trans ?_ (setCapture_keeps.mono rfl)
      exact Keeps.refl
    ·
      extract_lets -underBinder +onlyGivenNames x1
      have h1 : Keeps 0x88000000000000000024ffffffffffffffffffffffffffffffffffffffffffffffffffffffffffffffffffffffffffffffffffffffffffffffffffffffffffffffffffffffffffffffff f0_0 x1 := by
        unfold x1
        refine Keeps.trans ?_ (State_ctrlLoad_keeps.mono rfl)
        exact Keeps.refl
      try clear_value x1
      refine Keeps.trans ?_ (setCapture_keeps.mono rfl)
      exact h1

theorem execI3cRead_keeps {bytes : List Byte} {s : State} :
    OutKeeps 0x48000000000000000024ffffffffffffffffffffffffffffffffffffffffffffffffffffffffffffffffffffffffffffffffffffffffffffffffffffffffffffffffffffffffffffffff s (execI3cRead bytes s) := by
  unfold execI3cRead
  refine OutKeeps.ite ?_ ?_
  ·
    refine done_keeps ?_
    refine Keeps.trans ?_ (State_outOfRange_keeps.mono rfl)
    exact Keeps.refl
  ·
    extract_lets -underBinder +onlyGivenNames x0
    have h0 : Keeps 0x48000000000000000024ffffffffffffffffffffffffffffffffffffffffffffffffffffffffffffffffffffffffffffffffffffffffffffffffffffffffffffffffffffffffffffffff s x0 := by
      unfold x0
      refine Keeps.trans ?_ (State_ctrlLoad_keeps.mono rfl)
      exact Keeps.refl
    try clear_value x0
    refine done_keeps ?_
    refine Keeps.trans ?_ (i3cAnswer_keeps.mono rfl)
    exact h0

theorem execLowWordRead_keeps {a : Agent} {off : BitVec 29} {s : State} :
    OutKeeps 0x8000000000000000024ffffffffffffffffffffffffffffffffffffffffffffffffffffffffffffffffffffffffffffffffffffffffffffffffffffffffffffffffffffffffffffffff s (execLowWordRead a off s) := by
  unfold execLowWordRead
  refine done_keeps ?_
  refine Keeps.trans ?_ (State_ctrlLoad_keeps.mono rfl)
  exact Keeps.refl

theorem execRcRead_keeps {a : Agent} {off : BitVec 29} {inc : Word} {s : State} :
    OutKeeps 0x8000000000000000024ffffffffffffffffffffffffffffffffffffffffffffffffffffffffffffffffffffffffffffffffffffffffffffffffffffffffffffffffffffffffffffffff s (execRcRead a off inc s) := by
  unfold execRcRead
  refine done_keeps ?_
  refine Keeps.trans ?_ (State_ctrlLoad_keeps.mono rfl)
  exact Keeps.refl

theorem hwEvt_keeps {s : State} {r : Reg} {i : Nat} {b : Nat} :
    Keeps 0xffffffffffffffffffffffffffffffffffffffffffffffffffffffffffffffffffffffffffffffffffffffffffffffffffffffffffffffffffffffffffffffff s (hwEvt s r i b) := by
  unfold hwEvt
  split
  ·
    refine Keeps.ite ?_ ?_
    ·
      refine Keeps.trans ?_ (State_haltEvt_keeps.mono rfl)
      exact Keeps.refl
    ·
      refine Keeps.ite ?_ ?_
      ·
        refine Keeps.trans ?_ (State_haltEvt_keeps.mono rfl)
        exact Keeps.refl
      ·
        refine Keeps.ite ?_ ?_
        ·
          refine Keeps.trans ?_ (State_haltEvt_keeps.mono rfl)
          exact Keeps.refl
        ·
          refine Keeps.trans ?_ (State_ndlEvt_keeps.mono rfl)
          exact Keeps.refl
  ·
    refine Keeps.trans ?_ (State_gzEvt_keeps.mono rfl)
    exact Keeps.refl
  ·
    refine Keeps.trans ?_ (State_twEvt_keeps.mono rfl)
    exact Keeps.refl
  ·
    refine Keeps.trans ?_ (State_seamEvt_keeps.mono rfl)
    exact Keeps.refl
  ·
    refine Keeps.trans ?_ (State_attEvt_keeps.mono rfl)
    exact Keeps.refl
  ·
    refine Keeps.trans ?_ (State_fltEvt_keeps.mono rfl)
    exact Keeps.refl
  ·
    refine Keeps.trans ?_ (State_mkEvt_keeps.mono rfl)
    exact Keeps.refl
  ·
    refine Keeps.trans ?_ (State_memEvt_keeps.mono rfl)
    exact Keeps.refl
  ·
    refine Keeps.trans ?_ (State_attFeltEvt_keeps.mono rfl)
    exact Keeps.refl
  ·
    refine Keeps.trans ?_ (State_trainEvt_keeps.mono rfl)
    exact Keeps.refl
  ·
    refine Keeps.trans ?_ (State_feltFlt_keeps.mono rfl)
    exact Keeps.refl
  ·
    refine Keeps.trans ?_ (State_dieFlt_keeps.mono rfl)
    exact Keeps.refl
  ·
    refine Keeps.trans ?_ (State_chEvt_keeps.mono rfl)
    exact Keeps.refl
  ·
    refine Keeps.trans ?_ (State_lnkEvt_keeps.mono rfl)
    exact Keeps.refl
  ·
    refine Keeps.trans ?_ (State_pwrEvt_keeps.mono rfl)
    exact Keeps.refl
  ·
    refine Keeps.trans ?_ (State_secEvt_keeps.mono rfl)
    exact Keeps.refl
  ·
    refine Keeps.trans ?_ (State_stwEvt_keeps.mono rfl)
    exact Keeps.refl
  ·
    refine Keeps.trans ?_ (State_inchkEvt_keeps.mono rfl)
    exact Keeps.refl
  ·
    refine Keeps.trans ?_ (State_raise_keeps.mono rfl)
    refine Keeps.trans ?_ (State_setBit_keeps (all_testBit (by rfl) _))
    exact Keeps.refl
  ·
    refine Keeps.trans ?_ (State_raise_keeps.mono rfl)
    refine Keeps.trans ?_ (State_setBit_keeps (all_testBit (by rfl) _))
    exact Keeps.refl
  ·
    refine Keeps.trans ?_ (State_raise_keeps.mono rfl)
    refine Keeps.trans ?_ (State_setBit_keeps (all_testBit (by rfl) _))
    exact Keeps.refl
  ·
    refine Keeps.trans ?_ (State_raise_keeps.mono rfl)
    refine Keeps.trans ?_ (State_setBit_keeps (all_testBit (by rfl) _))
    exact Keeps.refl
  ·
    refine Keeps.trans ?_ (State_setBit_keeps (all_testBit (by rfl) _))
    exact Keeps.refl

theorem hwSets_keeps {s : State} {r : Reg} {i : Nat} {hw : Word} :
    Keeps 0xffffffffffffffffffffffffffffffffffffffffffffffffffffffffffffffffffffffffffffffffffffffffffffffffffffffffffffffffffffffffffffffff s (hwSets s r i hw) := by
  unfold hwSets
  refine Keeps.trans ?_ (Keeps.foldl (fun s0 _ => ?_) _ _)
  ·
    exact Keeps.refl
  ·
    refine Keeps.ite ?_ ?_
    ·
      refine Keeps.trans ?_ (hwEvt_keeps.mono rfl)
      exact Keeps.refl
    ·
      exact Keeps.refl

theorem tableWrite_keeps {s : State} {r : Reg} {i : Nat} {w : Word} {hw : Word} :
    Keeps 0xffffffffffffffffffffffffffffffffffffffffffffffffffffffffffffffffffffffffffffffffffffffffffffffffffffffffffffffffffffffffffffffff s (tableWrite s r i w hw) := by
  unfold tableWrite
  extract_lets -underBinder +onlyGivenNames x0
  try clear_value x0
  refine Keeps.trans ?_ (raiseEnabled_keeps.mono rfl)
  refine Keeps.trans ?_ (hwSets_keeps.mono rfl)
  refine Keeps.trans ?_ (plainWrite_keeps.mono rfl)
  exact Keeps.refl

theorem writeReg_keeps {s : State} {a : Agent} {off : Nat} {r : Reg} {i : Nat} {w : Word} {hw : Word} :
    Keeps 0x2f7febf8ffffd72c2542ffffffffffffffffffffffffffffffffffffffffffffffffffffffffffffffffffffffffffffffffffffffffffffffffffffffffffffffffffffffffffffffff s (writeReg s a off r i w hw) := by
  unfold writeReg
  extract_lets -underBinder +onlyGivenNames x0
  unfold x0
  split
  ·
    refine Keeps.trans ?_ (patCtrl_keeps.mono rfl)
    exact Keeps.refl
  ·
    refine Keeps.trans ?_ (panelCtrl_keeps.mono rfl)
    exact Keeps.refl
  ·
    refine Keeps.ite ?_ ?_
    ·
      refine Keeps.trans ?_ (badPatCmd_keeps.mono rfl)
      exact Keeps.refl
    ·
      refine Keeps.ite ?_ ?_
      ·
        refine Keeps.trans ?_ (State_outOfRange_keeps.mono rfl)
        exact Keeps.refl
      ·
        refine Keeps.trans ?_ (tableWrite_keeps.mono rfl)
        exact Keeps.refl
  ·
    refine Keeps.ite ?_ ?_
    ·
      refine Keeps.trans ?_ (badPatCmd_keeps.mono rfl)
      exact Keeps.refl
    ·
      refine Keeps.ite ?_ ?_
      ·
        refine Keeps.trans ?_ (State_outOfRange_keeps.mono rfl)
        exact Keeps.refl
      ·
        refine Keeps.trans ?_ (tableWrite_keeps.mono rfl)
        exact Keeps.refl
  ·
    refine Keeps.ite ?_ ?_
    ·
      refine Keeps.trans ?_ (badPatCmd_keeps.mono rfl)
      exact Keeps.refl
    ·
      refine Keeps.ite ?_ ?_
      ·
        refine Keeps.trans ?_ (State_outOfRange_keeps.mono rfl)
        exact Keeps.refl
      ·
        refine Keeps.trans ?_ (tableWrite_keeps.mono rfl)
        exact Keeps.refl
  ·
    refine Keeps.trans ?_ (stepCtrl_keeps.mono rfl)
    exact Keeps.refl
  ·
    refine Keeps.trans ?_ (ruleCtrl_keeps.mono rfl)
    exact Keeps.refl
  ·
    refine Keeps.ite ?_ ?_
    ·
      refine Keeps.trans ?_ (State_outOfRange_keeps.mono rfl)
      exact Keeps.refl
    ·
      refine Keeps.trans ?_ (ruleWrite_keeps.mono rfl)
      exact Keeps.refl
  ·
    refine Keeps.trans ?_ (ratioSel_keeps.mono rfl)
    exact Keeps.refl
  ·
    refine Keeps.trans ?_ (trkSel_keeps.mono rfl)
    exact Keeps.refl
  ·
    refine Keeps.trans ?_ (trkCtrl_keeps.mono rfl)
    exact Keeps.refl
  ·
    refine Keeps.trans ?_ (softRaise_keeps.mono rfl)
    exact Keeps.refl
  ·
    refine Keeps.trans ?_ (forceKey_keeps.mono rfl)
    exact Keeps.refl
  ·
    refine Keeps.trans ?_ (forceWrite_keeps.mono rfl)
    exact Keeps.refl
  ·
    refine Keeps.trans ?_ (epClear_keeps.mono rfl)
    exact Keeps.refl
  ·
    refine Keeps.trans ?_ (portCtrl_keeps.mono rfl)
    exact Keeps.refl
  ·
    refine Keeps.ite ?_ ?_
    ·
      refine Keeps.trans ?_ (badPortCmd_keeps.mono rfl)
      exact Keeps.refl
    ·
      refine Keeps.ite ?_ ?_
      ·
        refine Keeps.trans ?_ (State_outOfRange_keeps.mono rfl)
        exact Keeps.refl
      ·
        refine Keeps.trans ?_ (tableWrite_keeps.mono rfl)
        exact Keeps.refl
  ·
    refine Keeps.ite ?_ ?_
    ·
      refine Keeps.trans ?_ (State_outOfRange_keeps.mono rfl)
      exact Keeps.refl
    ·
      refine Keeps.trans ?_ (groupWrite_keeps.mono rfl)
      exact Keeps.refl
  ·
    refine Keeps.trans ?_ (discCtrl_keeps.mono rfl)
    exact Keeps.refl
  ·
    refine Keeps.trans ?_ (routeData_keeps.mono rfl)
    exact Keeps.refl
  ·
    refine Keeps.trans ?_ (completeSrc_keeps.mono rfl)
    exact Keeps.refl
  ·
    refine Keeps.trans ?_ (clmCtrl_keeps.mono rfl)
    exact Keeps.refl
  ·
    refine Keeps.trans ?_ (queueCtrl_keeps.mono rfl)
    exact Keeps.refl
  ·
    refine Keeps.ite ?_ ?_
    ·
      refine Keeps.trans ?_ (State_outOfRange_keeps.mono rfl)
      exact Keeps.refl
    ·
      refine Keeps.trans ?_ (queueConfig_keeps.mono rfl)
      exact Keeps.refl
  ·
    refine Keeps.ite ?_ ?_
    ·
      refine Keeps.trans ?_ (State_outOfRange_keeps.mono rfl)
      exact Keeps.refl
    ·
      refine Keeps.trans ?_ (queueConfig_keeps.mono rfl)
      exact Keeps.refl
  ·
    refine Keeps.ite ?_ ?_
    ·
      refine Keeps.trans ?_ (State_outOfRange_keeps.mono rfl)
      exact Keeps.refl
    ·
      refine Keeps.trans ?_ (queueConfig_keeps.mono rfl)
      exact Keeps.refl
  ·
    refine Keeps.trans ?_ (queueCmd_keeps.mono rfl)
    exact Keeps.refl
  ·
    refine Keeps.trans ?_ (pushSrcLo_keeps.mono rfl)
    exact Keeps.refl
  ·
    refine Keeps.trans ?_ (stewardPushWrite_keeps.mono rfl)
    exact Keeps.refl
  ·
    refine Keeps.trans ?_ (stwCtrl_keeps.mono rfl)
    exact Keeps.refl
  ·
    exact Keeps.refl
  ·
    refine Keeps.trans ?_ (recPop_keeps.mono rfl)
    exact Keeps.refl
  ·
    refine Keeps.trans ?_ (recAck_keeps.mono rfl)
    exact Keeps.refl
  ·
    refine Keeps.trans ?_ (State_wr_keeps (by rfl))
    exact Keeps.refl
  ·
    refine Keeps.trans ?_ (logSubmit_keeps.mono rfl)
    exact Keeps.refl
  ·
    refine Keeps.trans ?_ (stageWrite_keeps.mono rfl)
    exact Keeps.refl
  ·
    refine Keeps.trans ?_ (verifyWrite_keeps.mono rfl)
    exact Keeps.refl
  ·
    refine Keeps.trans ?_ (signalWrite_keeps.mono rfl)
    exact Keeps.refl
  ·
    refine Keeps.trans ?_ (secCtrl_keeps.mono rfl)
    exact Keeps.refl
  ·
    refine Keeps.trans ?_ (State_wr_keeps (by rfl))
    exact Keeps.refl
  ·
    refine Keeps.trans ?_ (pkeyWrite_keeps.mono rfl)
    exact Keeps.refl
  ·
    refine Keeps.trans ?_ (recKey_keeps.mono rfl)
    exact Keeps.refl
  ·
    refine Keeps.trans ?_ (recCtrl_keeps.mono rfl)
    exact Keeps.refl
  ·
    refine Keeps.ite ?_ ?_
    ·
      refine Keeps.trans ?_ (State_outOfRange_keeps.mono rfl)
      exact Keeps.refl
    ·
      refine Keeps.trans ?_ (tableWrite_keeps.mono rfl)
      exact Keeps.refl

theorem writeOff_keeps {s : State} {a : Agent} {off : Nat} {w : Word} {hw : Word} :
    Keeps 0x2f7febf8ffffd72c2542ffffffffffffffffffffffffffffffffffffffffffffffffffffffffffffffffffffffffffffffffffffffffffffffffffffffffffffffffffffffffffffffff s (writeOff s a off w hw) := by
  unfold writeOff
  refine Keeps.ite ?_ ?_
  ·
    refine Keeps.trans ?_ (stageWrite_keeps.mono rfl)
    exact Keeps.refl
  ·
    refine Keeps.ite ?_ ?_
    ·
      exact Keeps.refl
    ·
      split
      ·
        refine Keeps.trans ?_ (writeReg_keeps.mono rfl)
        exact Keeps.refl
      ·
        refine Keeps.trans ?_ (State_outOfRange_keeps.mono rfl)
        exact Keeps.refl

theorem State_ctrlStore_keeps {s : State} {a : Agent} {off : Nat} {w : Word} {width : Nat} {hw : Word} :
    Keeps 0x2f7febf8ffffd72c2542ffffffffffffffffffffffffffffffffffffffffffffffffffffffffffffffffffffffffffffffffffffffffffffffffffffffffffffffffffffffffffffffff s (State.ctrlStore s a off w width hw) := by
  unfold State.ctrlStore
  refine Keeps.trans ?_ (State_access_keeps rfl (fun f0_0 => ?_))
  ·
    exact Keeps.refl
  ·
    refine Keeps.ite ?_ ?_
    ·
      refine Keeps.trans ?_ (State_outOfRange_keeps.mono rfl)
      exact Keeps.refl
    ·
      refine Keeps.trans ?_ (writeOff_keeps.mono rfl)
      exact Keeps.refl

theorem execDebugControlWrite_keeps {dr : BitVec 128} {s : State} :
    OutKeeps 0xaf7febf8ffffd72c2542ffffffffffffffffffffffffffffffffffffffffffffffffffffffffffffffffffffffffffffffffffffffffffffffffffffffffffffffffffffffffffffffff s (execDebugControlWrite dr s) := by
  unfold execDebugControlWrite
  refine done_keeps ?_
  refine Keeps.trans ?_ (debugOp_keeps rfl (fun f0_0 => ?_))
  ·
    exact Keeps.refl
  ·
    refine Keeps.ite ?_ ?_
    ·
      refine Keeps.trans ?_ (setCapture_keeps.mono rfl)
      exact Keeps.refl
    ·
      refine Keeps.trans ?_ (setCapture_keeps.mono rfl)
      refine Keeps.trans ?_ (State_ctrlStore_keeps.mono rfl)
      exact Keeps.refl

theorem execI3cWrite_keeps {bytes : List Byte} {s : State} :
    OutKeeps 0x2f7febf8ffffd72c2542ffffffffffffffffffffffffffffffffffffffffffffffffffffffffffffffffffffffffffffffffffffffffffffffffffffffffffffffffffffffffffffffff s (execI3cWrite bytes s) := by
  unfold execI3cWrite
  refine OutKeeps.ite ?_ ?_
  ·
    refine done_keeps ?_
    refine Keeps.trans ?_ (State_outOfRange_keeps.mono rfl)
    exact Keeps.refl
  ·
    extract_lets -underBinder +onlyGivenNames x0
    try clear_value x0
    refine done_keeps ?_
    refine Keeps.ite ?_ ?_
    ·
      refine Keeps.trans ?_ (State_outOfRange_keeps.mono rfl)
      exact Keeps.refl
    ·
      refine Keeps.trans ?_ (State_ctrlStore_keeps.mono rfl)
      exact Keeps.refl

theorem execRegisterWrite_keeps {a : Agent} {off : BitVec 29} {val : Word} {width : Nat} {hwSet : Word} {s : State} :
    OutKeeps 0x2f7febf8ffffd72c2542ffffffffffffffffffffffffffffffffffffffffffffffffffffffffffffffffffffffffffffffffffffffffffffffffffffffffffffffffffffffffffffffff s (execRegisterWrite a off val width hwSet s) := by
  unfold execRegisterWrite
  refine done_keeps ?_
  refine Keeps.trans ?_ (State_ctrlStore_keeps.mono rfl)
  exact Keeps.refl

end Sys2Proof.Laws
end

