-- ==== Sys2Proof/Laws/Access.lean ====
section
/-! SUPPORT. Accesses to control space: what an allowed one does, and what a write leaves in each field. -/
namespace Sys2Proof.Laws
open Sys2Proof Sys2Proof.Machine

/-- An allowed write acts in the woken state. -/
theorem access_allowed {a : Agent} {off : Nat} {s : State} (h : Allowed a off s) (f : State → State) :
    s.access a off f = f (woken s off) := by
  obtain ⟨h1, h2, h3⟩ := h
  unfold State.access woken
  rw [h1, h3]
  by_cases ha : a = .jtag
  · simp [ha, h2 ha] <;> rfl
  · simp [ha] <;> rfl

/-- An allowed read acts in the state as it is; then the core of its window wakes. -/
theorem readAccess_allowed {a : Agent} {off : Nat} {s : State} (h : ReadAllowed a off s) (f : State → State × Word) :
    s.readAccess a off f = wakeAt off (f s) := by
  obtain ⟨h1, h2, h3, h4⟩ := h
  have e1 : (s.bootHalted && !(a == .i3c || decide (off < 0x01000000))) = false := by
    rcases h1 with h | h | h <;> simp [h]
  have e2 : (decide (a = .jtag) && !s.fbit F.SEC_STATUS_DEBUG 0) = false := by
    by_cases ha : a = .jtag
    · simp [ha, h2 ha]
    · simp [ha]
  unfold State.readAccess
  rw [e1, e2]
  cases a with
  | core c => simp [h3 c rfl]
  | i3c => simp [h4 rfl]
  | link _ _ _ _ => rfl
  | steward _ => rfl
  | jtag => rfl

theorem woken_keeps {s : State} {off : Nat} : Keeps (regMask [.CORE_STATUS, .VEC_PEND, .VEC_COUNTS, .VEC_LATCH]) s (woken s off) := by
  unfold woken
  split
  · exact State_wake_keeps.mono (by decide)
  · exact Keeps.refl

theorem readInto_allowed {a : Agent} {off : Nat} {s : State} (h : ReadAllowed a off s) (f : State → State × Word) :
    s.readInto a off f = { woken (f s).1 off with readback := (f s).2 } := by
  unfold State.readInto woken
  rw [readAccess_allowed h]
  unfold wakeAt
  cases coreAt off <;> rfl

/-! Fields of a written word. -/

theorem fieldAfter_lt (f : Fld) (w : Nat) {y : Nat} (h : y < 2 ^ f.width) : fieldAfter f w y < 2 ^ f.width := by
  have hx : bits w f.lsb f.width < 2 ^ f.width := Nat.mod_lt _ (Nat.two_pow_pos _)
  unfold fieldAfter
  dsimp only
  split
  · exact hx
  · exact Nat.lt_of_le_of_lt (Nat.sub_le _ _) h
  · exact Nat.or_lt_two_pow h hx
  · exact h

theorem bits_writeFld_same (w v : Nat) (f : Fld) :
    bits (writeFld w v f) f.lsb f.width = fieldAfter f w (bits v f.lsb f.width) := by
  have hy : bits v f.lsb f.width < 2 ^ f.width := Nat.mod_lt _ (Nat.two_pow_pos _)
  have hl := fieldAfter_lt f w hy
  obtain ⟨r, l, k, acc, rst⟩ := f
  cases acc
  all_goals first
    | exact (bits_putBits_same v l k _).trans (Nat.mod_eq_of_lt hl)
    | rfl

theorem bits_writeFld_ne (w v : Nat) {f g : Fld} (hr : f.reg = g.reg) (h : apart f g = true) :
    bits (writeFld w v f) g.lsb g.width = bits v g.lsb g.width := by
  have hd : f.lsb + f.width ≤ g.lsb ∨ g.lsb + g.width ≤ f.lsb := by
    unfold apart at h
    rw [hr] at h
    simpa using h
  have put : ∀ x, bits (putBits v f.lsb f.width x) g.lsb g.width = bits v g.lsb g.width := fun x =>
    hd.elim (bits_putBits_above _ _ _ _ _ _) (bits_putBits_below _ _ _ _ _ _)
  unfold writeFld
  dsimp only
  split
  · exact put _
  · exact put _
  · exact put _
  · rfl

theorem bits_foldl_writeFld (w : Nat) (r : Reg) (l : List Fld) (hr : ∀ f ∈ l, f.reg = r)
    (hp : fieldsSound.pairwiseApart l = true) (v : Nat) (g : Fld) :
    (g ∈ l → bits (l.foldl (writeFld w) v) g.lsb g.width = fieldAfter g w (bits v g.lsb g.width)) ∧
    (g.reg = r → (∀ f ∈ l, apart f g = true) → bits (l.foldl (writeFld w) v) g.lsb g.width = bits v g.lsb g.width) := by
  induction l generalizing v with
  | nil => exact ⟨fun h => absurd h (by simp), fun _ _ => rfl⟩
  | cons f l ih =>
    unfold fieldsSound.pairwiseApart at hp
    rw [Bool.and_eq_true, List.all_eq_true] at hp
    have hf := hr f (by simp)
    have ih' := ih (fun x hx => hr x (by simp [hx])) hp.2 (writeFld w v f)
    refine ⟨fun hg => ?_, fun hgr ha => ?_⟩
    · rw [List.foldl_cons]
      rcases List.mem_cons.mp hg with rfl | hg
      · rw [ih'.2 hf fun x hx => (Bool.and_eq_true .. |>.mp (hp.1 x hx)).2, bits_writeFld_same]
      · rw [ih'.1 hg, bits_writeFld_ne w v (hf.trans (hr g (by simp [hg])).symm) (Bool.and_eq_true .. |>.mp (hp.1 g hg)).1]
    · rw [List.foldl_cons, ih'.2 hgr fun x hx => ha x (by simp [hx]), bits_writeFld_ne w v (hf.trans hgr.symm) (ha f (by simp))]

theorem fields_reg {r : Reg} {f : Fld} (h : f ∈ r.fields) : f.reg = r ∧ f.lsb + f.width ≤ 32 := by
  have hs := fields_sound r
  unfold fieldsSound at hs
  rw [Bool.and_eq_true, List.all_eq_true] at hs
  have := hs.1 f h
  simpa using this

theorem fields_apart_list (r : Reg) : fieldsSound.pairwiseApart r.fields = true := by
  have hs := fields_sound r
  unfold fieldsSound at hs
  rw [Bool.and_eq_true] at hs
  exact hs.2

/-- What a plain write leaves in each field (R11, R14). -/
theorem fget_plainWrite {s : State} {r : Reg} {i : Nat} {w : Word} {f : Fld} (h : f ∈ r.fields) :
    (plainWrite s r i w).fget f i = fieldAfter f w.toNat (s.fget f i) := by
  obtain ⟨hr, hb⟩ := fields_reg h
  unfold plainWrite State.fget
  rw [hr, rd_wr_same, BitVec.toNat_ofNat, bits_mod32 _ _ _ hb]
  exact (bits_foldl_writeFld w.toNat r r.fields (fun x hx => (fields_reg hx).1) (fields_apart_list r) _ f).1 h

end Sys2Proof.Laws
end

