-- ==== Sys2Proof/Laws/Agree.lean ====
section
/-! SUPPORT. What the readers of tensors, descriptors and plans depend on: two states that agree on the data below give the same
answers. `Agree s u` follows from a mask (Agree.of_keeps). -/
namespace Sys2Proof.Laws
open Sys2Proof Sys2Proof.Machine

set_option linter.unusedVariables false
set_option linter.unusedSimpArgs false

/-- Registers that the readers read. -/
def agreeRegs : List Reg :=
  [.PAT_PANEL_STATUS, .HUB_STEP_NUM, .HUB_STEP_STATUS, .FELT_FIXED, .FELT_RULE_STATUS, .Q_CONFIG, .Q_STATUS, .Q_BASE_LO, .Q_BASE_HI, .LNK_FABRIC]

structure Agree (s u : State) : Prop where
  reg : ∀ r, r ∈ agreeRegs → ∀ i, u.rd r i = s.rd r i
  shp : ∀ c, (u.core c).shp = (s.core c).shp
  rank : ∀ c, chanRank u c = chanRank s c
  c_owned : ∀ c, (u.chan c).owned = (s.chan c).owned
  c_panel : ∀ c, (u.chan c).panel = (s.chan c).panel
  c_priv : ∀ c, (u.chan c).priv = (s.chan c).priv
  c_pool : ∀ c, (u.chan c).pool = (s.chan c).pool
  c_lens : ∀ c, (u.chan c).lens = (s.chan c).lens
  c_groups : ∀ c, (u.chan c).groups = (s.chan c).groups
  c_keys : ∀ c, (u.chan c).keys = (s.chan c).keys
  c_tokens : ∀ c, (u.chan c).tokens = (s.chan c).tokens
  c_error : ∀ c, (u.chan c).error = (s.chan c).error
  c_len : ∀ c l, (u.chan c).len l = (s.chan c).len l
  c_at : ∀ c n, (u.chan c).groupAt n = (s.chan c).groupAt n
  secs : u.secs = s.secs
  tens : u.tens = s.tens
  badTens : u.badTens = s.badTens
  pages : u.pages = s.pages
  panels : u.panels = s.panels
  trackers : u.trackers = s.trackers
  rulesOn : u.rulesOn = s.rulesOn
  live : u.live = s.live
  groups : u.groups = s.groups
  tree : u.tree = s.tree
  windows : u.windows = s.windows
  helds : u.helds = s.helds
  masks : u.masks = s.masks
  sideSums : u.sideSums = s.sideSums
  coreMap : u.coreMap = s.coreMap
  links : u.links = s.links
  queues : u.queues = s.queues
  free : u.free = s.free

theorem Agree.refl (s : State) : Agree s s := by constructor <;> intros <;> rfl
theorem Agree.trans {s t u : State} (a : Agree s t) (b : Agree t u) : Agree s u where
  reg := fun r h i => (b.reg r h i).trans (a.reg r h i)
  shp := fun c => (b.shp c).trans (a.shp c)
  rank := fun c => (b.rank c).trans (a.rank c)
  c_owned := fun c => (b.c_owned c).trans (a.c_owned c)
  c_panel := fun c => (b.c_panel c).trans (a.c_panel c)
  c_priv := fun c => (b.c_priv c).trans (a.c_priv c)
  c_pool := fun c => (b.c_pool c).trans (a.c_pool c)
  c_lens := fun c => (b.c_lens c).trans (a.c_lens c)
  c_groups := fun c => (b.c_groups c).trans (a.c_groups c)
  c_keys := fun c => (b.c_keys c).trans (a.c_keys c)
  c_tokens := fun c => (b.c_tokens c).trans (a.c_tokens c)
  c_error := fun c => (b.c_error c).trans (a.c_error c)
  c_len := fun c l => (b.c_len c l).trans (a.c_len c l)
  c_at := fun c n => (b.c_at c n).trans (a.c_at c n)
  secs := b.secs.trans a.secs
  tens := b.tens.trans a.tens
  badTens := b.badTens.trans a.badTens
  pages := b.pages.trans a.pages
  panels := b.panels.trans a.panels
  trackers := b.trackers.trans a.trackers
  rulesOn := b.rulesOn.trans a.rulesOn
  live := b.live.trans a.live
  groups := b.groups.trans a.groups
  tree := b.tree.trans a.tree
  windows := b.windows.trans a.windows
  helds := b.helds.trans a.helds
  masks := b.masks.trans a.masks
  sideSums := b.sideSums.trans a.sideSums
  coreMap := b.coreMap.trans a.coreMap
  links := b.links.trans a.links
  queues := b.queues.trans a.queues
  free := b.free.trans a.free

section
variable {s u : State}

theorem rd_agree (h : Agree s u) {r : Reg} (hr : r ∈ agreeRegs) (i : Nat) : u.rd r i = s.rd r i := h.reg r hr i
theorem fget_agree (h : Agree s u) {f : Fld} (hf : f.reg ∈ agreeRegs) (i : Nat) : u.fget f i = s.fget f i := by
  unfold State.fget; rw [h.reg _ hf]
theorem fbit_agree (h : Agree s u) {f : Fld} (hf : f.reg ∈ agreeRegs) (i : Nat) : u.fbit f i = s.fbit f i := by
  unfold State.fbit; rw [fget_agree h hf]

theorem State_secsOf_agree (h : Agree s u) (a1 : Nat) : State.secsOf u a1 = State.secsOf s a1 := by
  unfold State.secsOf
  simp (disch := decide) only [rd_agree h, fget_agree h, fbit_agree h, h.secs, h.tens, h.badTens, h.pages, h.panels, h.trackers, h.rulesOn, h.live, h.groups, h.tree, h.windows, h.helds, h.masks, h.sideSums, h.coreMap, h.links, h.queues, h.free, h.shp, h.c_owned, h.c_panel, h.c_priv, h.c_pool, h.c_lens, h.c_groups, h.c_keys, h.c_tokens, h.c_error, h.c_len, h.c_at]

theorem State_secsOf_agreeF (h : Agree s u) : State.secsOf u = State.secsOf s := by funext a1; exact State_secsOf_agree h _

theorem State_desc_agree (h : Agree s u) (a1 : Nat) : State.desc u a1 = State.desc s a1 := by
  unfold State.desc
  simp (disch := decide) only [State_secsOf_agreeF h, rd_agree h, fget_agree h, fbit_agree h, h.secs, h.tens, h.badTens, h.pages, h.panels, h.trackers, h.rulesOn, h.live, h.groups, h.tree, h.windows, h.helds, h.masks, h.sideSums, h.coreMap, h.links, h.queues, h.free, h.shp, h.c_owned, h.c_panel, h.c_priv, h.c_pool, h.c_lens, h.c_groups, h.c_keys, h.c_tokens, h.c_error, h.c_len, h.c_at]

theorem State_desc_agreeF (h : Agree s u) : State.desc u = State.desc s := by funext a1; exact State_desc_agree h _

theorem descOf_agree (h : Agree s u) (a1 : Nat) : descOf u a1 = descOf s a1 := by
  unfold descOf
  simp (disch := decide) only [State_desc_agreeF h, rd_agree h, fget_agree h, fbit_agree h, h.secs, h.tens, h.badTens, h.pages, h.panels, h.trackers, h.rulesOn, h.live, h.groups, h.tree, h.windows, h.helds, h.masks, h.sideSums, h.coreMap, h.links, h.queues, h.free, h.shp, h.c_owned, h.c_panel, h.c_priv, h.c_pool, h.c_lens, h.c_groups, h.c_keys, h.c_tokens, h.c_error, h.c_len, h.c_at]

theorem descOf_agreeF (h : Agree s u) : descOf u = descOf s := by funext a1; exact descOf_agree h _

theorem ruleOf_agree (h : Agree s u) (a1 : Desc) : ruleOf u a1 = ruleOf s a1 := by
  unfold ruleOf
  simp (disch := decide) only [rd_agree h, fget_agree h, fbit_agree h, h.secs, h.tens, h.badTens, h.pages, h.panels, h.trackers, h.rulesOn, h.live, h.groups, h.tree, h.windows, h.helds, h.masks, h.sideSums, h.coreMap, h.links, h.queues, h.free, h.shp, h.c_owned, h.c_panel, h.c_priv, h.c_pool, h.c_lens, h.c_groups, h.c_keys, h.c_tokens, h.c_error, h.c_len, h.c_at]

theorem ruleOf_agreeF (h : Agree s u) : ruleOf u = ruleOf s := by funext a1; exact ruleOf_agree h _

theorem bankLayout_agree (h : Agree s u) (a1 : Desc) : bankLayout u a1 = bankLayout s a1 := by
  unfold bankLayout
  simp (disch := decide) only [ruleOf_agreeF h, rd_agree h, fget_agree h, fbit_agree h, h.secs, h.tens, h.badTens, h.pages, h.panels, h.trackers, h.rulesOn, h.live, h.groups, h.tree, h.windows, h.helds, h.masks, h.sideSums, h.coreMap, h.links, h.queues, h.free, h.shp, h.c_owned, h.c_panel, h.c_priv, h.c_pool, h.c_lens, h.c_groups, h.c_keys, h.c_tokens, h.c_error, h.c_len, h.c_at]

theorem bankLayout_agreeF (h : Agree s u) : bankLayout u = bankLayout s := by funext a1; exact bankLayout_agree h _

theorem bankBase_agree (h : Agree s u) (a1 : Nat) (a2 : Desc) (a3 : Bool) : bankBase u a1 a2 a3 = bankBase s a1 a2 a3 := by
  unfold bankBase
  simp (disch := decide) only [bankLayout_agreeF h, rd_agree h, fget_agree h, fbit_agree h, h.secs, h.tens, h.badTens, h.pages, h.panels, h.trackers, h.rulesOn, h.live, h.groups, h.tree, h.windows, h.helds, h.masks, h.sideSums, h.coreMap, h.links, h.queues, h.free, h.shp, h.c_owned, h.c_panel, h.c_priv, h.c_pool, h.c_lens, h.c_groups, h.c_keys, h.c_tokens, h.c_error, h.c_len, h.c_at]

theorem bankBase_agreeF (h : Agree s u) : bankBase u = bankBase s := by funext a1 a2 a3; exact bankBase_agree h _ _ _

theorem readBase_agree (h : Agree s u) (a1 : Nat) (a2 : Nat) (a3 : Desc) : readBase u a1 a2 a3 = readBase s a1 a2 a3 := by
  unfold readBase
  simp (disch := decide) only [bankBase_agreeF h, rd_agree h, fget_agree h, fbit_agree h, h.secs, h.tens, h.badTens, h.pages, h.panels, h.trackers, h.rulesOn, h.live, h.groups, h.tree, h.windows, h.helds, h.masks, h.sideSums, h.coreMap, h.links, h.queues, h.free, h.shp, h.c_owned, h.c_panel, h.c_priv, h.c_pool, h.c_lens, h.c_groups, h.c_keys, h.c_tokens, h.c_error, h.c_len, h.c_at]

theorem readBase_agreeF (h : Agree s u) : readBase u = readBase s := by funext a1 a2 a3; exact readBase_agree h _ _ _

theorem State_tRead_agree (h : Agree s u) (a1 : Nat) (a2 : Nat) (a3 : Nat) : State.tRead u a1 a2 a3 = State.tRead s a1 a2 a3 := by
  unfold State.tRead
  simp (disch := decide) only [rd_agree h, fget_agree h, fbit_agree h, h.secs, h.tens, h.badTens, h.pages, h.panels, h.trackers, h.rulesOn, h.live, h.groups, h.tree, h.windows, h.helds, h.masks, h.sideSums, h.coreMap, h.links, h.queues, h.free, h.shp, h.c_owned, h.c_panel, h.c_priv, h.c_pool, h.c_lens, h.c_groups, h.c_keys, h.c_tokens, h.c_error, h.c_len, h.c_at]

theorem State_tRead_agreeF (h : Agree s u) : State.tRead u = State.tRead s := by funext a1 a2 a3; exact State_tRead_agree h _ _ _

theorem codeAt_agree (h : Agree s u) (a1 : Nat) (a2 : Nat) (a3 : Nat) : codeAt u a1 a2 a3 = codeAt s a1 a2 a3 := by
  unfold codeAt
  simp (disch := decide) only [State_tRead_agreeF h, rd_agree h, fget_agree h, fbit_agree h, h.secs, h.tens, h.badTens, h.pages, h.panels, h.trackers, h.rulesOn, h.live, h.groups, h.tree, h.windows, h.helds, h.masks, h.sideSums, h.coreMap, h.links, h.queues, h.free, h.shp, h.c_owned, h.c_panel, h.c_priv, h.c_pool, h.c_lens, h.c_groups, h.c_keys, h.c_tokens, h.c_error, h.c_len, h.c_at]

theorem codeAt_agreeF (h : Agree s u) : codeAt u = codeAt s := by funext a1 a2 a3; exact codeAt_agree h _ _ _

theorem View_code_p_agree (h : Agree s u) (a1 : View) (a2 : Nat) (a3 : Nat) (a4 : Nat) (a5 : Nat) : View.code' u a1 a2 a3 a4 a5 = View.code' s a1 a2 a3 a4 a5 := by
  unfold View.code'
  simp (disch := decide) only [codeAt_agreeF h, rd_agree h, fget_agree h, fbit_agree h, h.secs, h.tens, h.badTens, h.pages, h.panels, h.trackers, h.rulesOn, h.live, h.groups, h.tree, h.windows, h.helds, h.masks, h.sideSums, h.coreMap, h.links, h.queues, h.free, h.shp, h.c_owned, h.c_panel, h.c_priv, h.c_pool, h.c_lens, h.c_groups, h.c_keys, h.c_tokens, h.c_error, h.c_len, h.c_at]

theorem View_code_p_agreeF (h : Agree s u) : View.code' u = View.code' s := by funext a1 a2 a3 a4 a5; exact View_code_p_agree h _ _ _ _ _

theorem copyTile_agree (h : Agree s u) (a1 : Flight) (a2 : Spot) : copyTile u a1 a2 = copyTile s a1 a2 := by
  unfold copyTile
  simp (disch := decide) only [readBase_agreeF h, descOf_agreeF h, View_code_p_agreeF h, rd_agree h, fget_agree h, fbit_agree h, h.secs, h.tens, h.badTens, h.pages, h.panels, h.trackers, h.rulesOn, h.live, h.groups, h.tree, h.windows, h.helds, h.masks, h.sideSums, h.coreMap, h.links, h.queues, h.free, h.shp, h.c_owned, h.c_panel, h.c_priv, h.c_pool, h.c_lens, h.c_groups, h.c_keys, h.c_tokens, h.c_error, h.c_len, h.c_at]

theorem copyTile_agreeF (h : Agree s u) : copyTile u = copyTile s := by funext a1 a2; exact copyTile_agree h _ _

theorem trackerOf_agree (h : Agree s u) (a1 : Nat) : trackerOf u a1 = trackerOf s a1 := by
  unfold trackerOf
  simp (disch := decide) only [rd_agree h, fget_agree h, fbit_agree h, h.secs, h.tens, h.badTens, h.pages, h.panels, h.trackers, h.rulesOn, h.live, h.groups, h.tree, h.windows, h.helds, h.masks, h.sideSums, h.coreMap, h.links, h.queues, h.free, h.shp, h.c_owned, h.c_panel, h.c_priv, h.c_pool, h.c_lens, h.c_groups, h.c_keys, h.c_tokens, h.c_error, h.c_len, h.c_at]

theorem trackerOf_agreeF (h : Agree s u) : trackerOf u = trackerOf s := by funext a1; exact trackerOf_agree h _

theorem seamSecOf_agree (h : Agree s u) (a1 : Nat) : seamSecOf u a1 = seamSecOf s a1 := by
  unfold seamSecOf
  simp (disch := decide) only [State_secsOf_agreeF h, rd_agree h, fget_agree h, fbit_agree h, h.secs, h.tens, h.badTens, h.pages, h.panels, h.trackers, h.rulesOn, h.live, h.groups, h.tree, h.windows, h.helds, h.masks, h.sideSums, h.coreMap, h.links, h.queues, h.free, h.shp, h.c_owned, h.c_panel, h.c_priv, h.c_pool, h.c_lens, h.c_groups, h.c_keys, h.c_tokens, h.c_error, h.c_len, h.c_at]

theorem seamSecOf_agreeF (h : Agree s u) : seamSecOf u = seamSecOf s := by funext a1; exact seamSecOf_agree h _

theorem crushK_agree (h : Agree s u) (a1 : Nat) : crushK u a1 = crushK s a1 := by
  unfold crushK
  simp (disch := decide) only [trackerOf_agreeF h, seamSecOf_agreeF h, rd_agree h, fget_agree h, fbit_agree h, h.secs, h.tens, h.badTens, h.pages, h.panels, h.trackers, h.rulesOn, h.live, h.groups, h.tree, h.windows, h.helds, h.masks, h.sideSums, h.coreMap, h.links, h.queues, h.free, h.shp, h.c_owned, h.c_panel, h.c_priv, h.c_pool, h.c_lens, h.c_groups, h.c_keys, h.c_tokens, h.c_error, h.c_len, h.c_at]

theorem crushK_agreeF (h : Agree s u) : crushK u = crushK s := by funext a1; exact crushK_agree h _

theorem scaleIn_agree (h : Agree s u) (a1 : Nat) (a2 : Desc) : scaleIn u a1 a2 = scaleIn s a1 a2 := by
  unfold scaleIn
  simp (disch := decide) only [trackerOf_agreeF h, rd_agree h, fget_agree h, fbit_agree h, h.secs, h.tens, h.badTens, h.pages, h.panels, h.trackers, h.rulesOn, h.live, h.groups, h.tree, h.windows, h.helds, h.masks, h.sideSums, h.coreMap, h.links, h.queues, h.free, h.shp, h.c_owned, h.c_panel, h.c_priv, h.c_pool, h.c_lens, h.c_groups, h.c_keys, h.c_tokens, h.c_error, h.c_len, h.c_at]

theorem scaleIn_agreeF (h : Agree s u) : scaleIn u = scaleIn s := by funext a1 a2; exact scaleIn_agree h _ _

theorem seedOf_agree (h : Agree s u) (a1 : Nat) : seedOf u a1 = seedOf s a1 := by
  unfold seedOf
  simp (disch := decide) only [State_secsOf_agreeF h, rd_agree h, fget_agree h, fbit_agree h, h.secs, h.tens, h.badTens, h.pages, h.panels, h.trackers, h.rulesOn, h.live, h.groups, h.tree, h.windows, h.helds, h.masks, h.sideSums, h.coreMap, h.links, h.queues, h.free, h.shp, h.c_owned, h.c_panel, h.c_priv, h.c_pool, h.c_lens, h.c_groups, h.c_keys, h.c_tokens, h.c_error, h.c_len, h.c_at]

theorem seedOf_agreeF (h : Agree s u) : seedOf u = seedOf s := by funext a1; exact seedOf_agree h _

theorem State_pstate_agree (h : Agree s u) (a1 : Nat) : State.pstate u a1 = State.pstate s a1 := by
  unfold State.pstate
  simp (disch := decide) only [rd_agree h, fget_agree h, fbit_agree h, h.secs, h.tens, h.badTens, h.pages, h.panels, h.trackers, h.rulesOn, h.live, h.groups, h.tree, h.windows, h.helds, h.masks, h.sideSums, h.coreMap, h.links, h.queues, h.free, h.shp, h.c_owned, h.c_panel, h.c_priv, h.c_pool, h.c_lens, h.c_groups, h.c_keys, h.c_tokens, h.c_error, h.c_len, h.c_at]

theorem State_pstate_agreeF (h : Agree s u) : State.pstate u = State.pstate s := by funext a1; exact State_pstate_agree h _

theorem State_isInference_agree (h : Agree s u) (a1 : Nat) : State.isInference u a1 = State.isInference s a1 := by
  unfold State.isInference
  simp (disch := decide) only [rd_agree h, fget_agree h, fbit_agree h, h.secs, h.tens, h.badTens, h.pages, h.panels, h.trackers, h.rulesOn, h.live, h.groups, h.tree, h.windows, h.helds, h.masks, h.sideSums, h.coreMap, h.links, h.queues, h.free, h.shp, h.c_owned, h.c_panel, h.c_priv, h.c_pool, h.c_lens, h.c_groups, h.c_keys, h.c_tokens, h.c_error, h.c_len, h.c_at]

theorem State_isInference_agreeF (h : Agree s u) : State.isInference u = State.isInference s := by funext a1; exact State_isInference_agree h _

theorem State_isTraining_agree (h : Agree s u) (a1 : Nat) : State.isTraining u a1 = State.isTraining s a1 := by
  unfold State.isTraining
  simp (disch := decide) only [State_pstate_agreeF h, State_isInference_agreeF h, rd_agree h, fget_agree h, fbit_agree h, h.secs, h.tens, h.badTens, h.pages, h.panels, h.trackers, h.rulesOn, h.live, h.groups, h.tree, h.windows, h.helds, h.masks, h.sideSums, h.coreMap, h.links, h.queues, h.free, h.shp, h.c_owned, h.c_panel, h.c_priv, h.c_pool, h.c_lens, h.c_groups, h.c_keys, h.c_tokens, h.c_error, h.c_len, h.c_at]

theorem State_isTraining_agreeF (h : Agree s u) : State.isTraining u = State.isTraining s := by funext a1; exact State_isTraining_agree h _

theorem convStep_agree (h : Agree s u) (a1 : Nat) : convStep u a1 = convStep s a1 := by
  unfold convStep
  simp (disch := decide) only [State_isTraining_agreeF h, rd_agree h, fget_agree h, fbit_agree h, h.secs, h.tens, h.badTens, h.pages, h.panels, h.trackers, h.rulesOn, h.live, h.groups, h.tree, h.windows, h.helds, h.masks, h.sideSums, h.coreMap, h.links, h.queues, h.free, h.shp, h.c_owned, h.c_panel, h.c_priv, h.c_pool, h.c_lens, h.c_groups, h.c_keys, h.c_tokens, h.c_error, h.c_len, h.c_at]

theorem convStep_agreeF (h : Agree s u) : convStep u = convStep s := by funext a1; exact convStep_agree h _

theorem masterAt_agree (h : Agree s u) (a1 : Nat) (a2 : Nat) (a3 : Desc) (a4 : Nat) : masterAt u a1 a2 a3 a4 = masterAt s a1 a2 a3 a4 := by
  unfold masterAt
  simp (disch := decide) only [bankLayout_agreeF h, ruleOf_agreeF h, State_tRead_agreeF h, rd_agree h, fget_agree h, fbit_agree h, h.secs, h.tens, h.badTens, h.pages, h.panels, h.trackers, h.rulesOn, h.live, h.groups, h.tree, h.windows, h.helds, h.masks, h.sideSums, h.coreMap, h.links, h.queues, h.free, h.shp, h.c_owned, h.c_panel, h.c_priv, h.c_pool, h.c_lens, h.c_groups, h.c_keys, h.c_tokens, h.c_error, h.c_len, h.c_at]

theorem masterAt_agreeF (h : Agree s u) : masterAt u = masterAt s := by funext a1 a2 a3 a4; exact masterAt_agree h _ _ _ _

theorem paramAt_agree (h : Agree s u) (a1 : Nat) (a2 : Nat) (a3 : Nat) : paramAt u a1 a2 a3 = paramAt s a1 a2 a3 := by
  unfold paramAt
  simp (disch := decide) only [State_desc_agreeF h, masterAt_agreeF h, readBase_agreeF h, rd_agree h, fget_agree h, fbit_agree h, h.secs, h.tens, h.badTens, h.pages, h.panels, h.trackers, h.rulesOn, h.live, h.groups, h.tree, h.windows, h.helds, h.masks, h.sideSums, h.coreMap, h.links, h.queues, h.free, h.shp, h.c_owned, h.c_panel, h.c_priv, h.c_pool, h.c_lens, h.c_groups, h.c_keys, h.c_tokens, h.c_error, h.c_len, h.c_at]

theorem paramAt_agreeF (h : Agree s u) : paramAt u = paramAt s := by funext a1 a2 a3; exact paramAt_agree h _ _ _

theorem zeroPoint_agree (h : Agree s u) (a1 : Nat) (a2 : Desc) : zeroPoint u a1 a2 = zeroPoint s a1 a2 := by
  unfold zeroPoint
  simp (disch := decide) only [paramAt_agreeF h, rd_agree h, fget_agree h, fbit_agree h, h.secs, h.tens, h.badTens, h.pages, h.panels, h.trackers, h.rulesOn, h.live, h.groups, h.tree, h.windows, h.helds, h.masks, h.sideSums, h.coreMap, h.links, h.queues, h.free, h.shp, h.c_owned, h.c_panel, h.c_priv, h.c_pool, h.c_lens, h.c_groups, h.c_keys, h.c_tokens, h.c_error, h.c_len, h.c_at]

theorem zeroPoint_agreeF (h : Agree s u) : zeroPoint u = zeroPoint s := by funext a1 a2; exact zeroPoint_agree h _ _

theorem View_tableAt_agree (h : Agree s u) (a1 : View) (a2 : Nat) (a3 : Nat) : View.tableAt u a1 a2 a3 = View.tableAt s a1 a2 a3 := by
  unfold View.tableAt
  simp (disch := decide) only [State_tRead_agreeF h, rd_agree h, fget_agree h, fbit_agree h, h.secs, h.tens, h.badTens, h.pages, h.panels, h.trackers, h.rulesOn, h.live, h.groups, h.tree, h.windows, h.helds, h.masks, h.sideSums, h.coreMap, h.links, h.queues, h.free, h.shp, h.c_owned, h.c_panel, h.c_priv, h.c_pool, h.c_lens, h.c_groups, h.c_keys, h.c_tokens, h.c_error, h.c_len, h.c_at]

theorem View_tableAt_agreeF (h : Agree s u) : View.tableAt u = View.tableAt s := by funext a1 a2 a3; exact View_tableAt_agree h _ _ _

theorem View_learnedAt_agree (h : Agree s u) (a1 : View) (a2 : Nat) (a3 : Desc) (a4 : Nat) (a5 : Nat) : View.learnedAt u a1 a2 a3 a4 a5 = View.learnedAt s a1 a2 a3 a4 a5 := by
  unfold View.learnedAt
  simp (disch := decide) only [paramAt_agreeF h, zeroPoint_agreeF h, View_tableAt_agreeF h, rd_agree h, fget_agree h, fbit_agree h, h.secs, h.tens, h.badTens, h.pages, h.panels, h.trackers, h.rulesOn, h.live, h.groups, h.tree, h.windows, h.helds, h.masks, h.sideSums, h.coreMap, h.links, h.queues, h.free, h.shp, h.c_owned, h.c_panel, h.c_priv, h.c_pool, h.c_lens, h.c_groups, h.c_keys, h.c_tokens, h.c_error, h.c_len, h.c_at]

theorem View_learnedAt_agreeF (h : Agree s u) : View.learnedAt u = View.learnedAt s := by funext a1 a2 a3 a4 a5; exact View_learnedAt_agree h _ _ _ _ _

theorem convertRect_agree (h : Agree s u) (a1 : Flight) (a2 : Nat) (a3 : Nat) (a4 : FV) (a5 : Nat) (a6 : Nat) (a7 : Nat) (a8 : Nat) (a9 : Nat) (a10 : Nat) (a11 : Nat) (a12 : Nat) (a13 : Nat → Nat → FV) : convertRect u a1 a2 a3 a4 a5 a6 a7 a8 a9 a10 a11 a12 a13 = convertRect s a1 a2 a3 a4 a5 a6 a7 a8 a9 a10 a11 a12 a13 := by
  unfold convertRect
  simp (disch := decide) only [descOf_agreeF h, readBase_agreeF h, crushK_agreeF h, scaleIn_agreeF h, seedOf_agreeF h, convStep_agreeF h, View_learnedAt_agreeF h, rd_agree h, fget_agree h, fbit_agree h, h.secs, h.tens, h.badTens, h.pages, h.panels, h.trackers, h.rulesOn, h.live, h.groups, h.tree, h.windows, h.helds, h.masks, h.sideSums, h.coreMap, h.links, h.queues, h.free, h.shp, h.c_owned, h.c_panel, h.c_priv, h.c_pool, h.c_lens, h.c_groups, h.c_keys, h.c_tokens, h.c_error, h.c_len, h.c_at]

theorem convertRect_agreeF (h : Agree s u) : convertRect u = convertRect s := by funext a1 a2 a3 a4 a5 a6 a7 a8 a9 a10 a11 a12 a13; exact convertRect_agree h _ _ _ _ _ _ _ _ _ _ _ _ _

theorem View_bx_agree (h : Agree s u) (a1 : View) (a2 : Nat) (a3 : Nat) (a4 : Nat) (a5 : Nat) : View.bx u a1 a2 a3 a4 a5 = View.bx s a1 a2 a3 a4 a5 := by
  unfold View.bx
  simp (disch := decide) only [State_tRead_agreeF h, rd_agree h, fget_agree h, fbit_agree h, h.secs, h.tens, h.badTens, h.pages, h.panels, h.trackers, h.rulesOn, h.live, h.groups, h.tree, h.windows, h.helds, h.masks, h.sideSums, h.coreMap, h.links, h.queues, h.free, h.shp, h.c_owned, h.c_panel, h.c_priv, h.c_pool, h.c_lens, h.c_groups, h.c_keys, h.c_tokens, h.c_error, h.c_len, h.c_at]

theorem View_bx_agreeF (h : Agree s u) : View.bx u = View.bx s := by funext a1 a2 a3 a4 a5; exact View_bx_agree h _ _ _ _ _

theorem View_get_agree (h : Agree s u) (a1 : View) (a2 : Nat) (a3 : Nat) (a4 : Nat) (a5 : Nat) (a6 : Nat) : View.get u a1 a2 a3 a4 a5 a6 = View.get s a1 a2 a3 a4 a5 a6 := by
  unfold View.get
  simp (disch := decide) only [View_bx_agreeF h, View_tableAt_agreeF h, View_code_p_agreeF h, rd_agree h, fget_agree h, fbit_agree h, h.secs, h.tens, h.badTens, h.pages, h.panels, h.trackers, h.rulesOn, h.live, h.groups, h.tree, h.windows, h.helds, h.masks, h.sideSums, h.coreMap, h.links, h.queues, h.free, h.shp, h.c_owned, h.c_panel, h.c_priv, h.c_pool, h.c_lens, h.c_groups, h.c_keys, h.c_tokens, h.c_error, h.c_len, h.c_at]

theorem View_get_agreeF (h : Agree s u) : View.get u = View.get s := by funext a1 a2 a3 a4 a5 a6; exact View_get_agree h _ _ _ _ _ _

theorem View_learned_agree (h : Agree s u) (a1 : View) (a2 : Nat) (a3 : Desc) (a4 : Nat) (a5 : Nat) (a6 : Nat) (a7 : Nat) : View.learned u a1 a2 a3 a4 a5 a6 a7 = View.learned s a1 a2 a3 a4 a5 a6 a7 := by
  unfold View.learned
  simp (disch := decide) only [View_get_agreeF h, zeroPoint_agreeF h, paramAt_agreeF h, rd_agree h, fget_agree h, fbit_agree h, h.secs, h.tens, h.badTens, h.pages, h.panels, h.trackers, h.rulesOn, h.live, h.groups, h.tree, h.windows, h.helds, h.masks, h.sideSums, h.coreMap, h.links, h.queues, h.free, h.shp, h.c_owned, h.c_panel, h.c_priv, h.c_pool, h.c_lens, h.c_groups, h.c_keys, h.c_tokens, h.c_error, h.c_len, h.c_at]

theorem View_learned_agreeF (h : Agree s u) : View.learned u = View.learned s := by funext a1 a2 a3 a4 a5 a6 a7; exact View_learned_agree h _ _ _ _ _ _ _

theorem sourceAt_agree (h : Agree s u) (a1 : Flight) (a2 : Nat) (a3 : Nat) (a4 : Nat) (a5 : Nat) (a6 : Nat) : sourceAt u a1 a2 a3 a4 a5 a6 = sourceAt s a1 a2 a3 a4 a5 a6 := by
  unfold sourceAt
  simp (disch := decide) only [descOf_agreeF h, readBase_agreeF h, View_learned_agreeF h, rd_agree h, fget_agree h, fbit_agree h, h.secs, h.tens, h.badTens, h.pages, h.panels, h.trackers, h.rulesOn, h.live, h.groups, h.tree, h.windows, h.helds, h.masks, h.sideSums, h.coreMap, h.links, h.queues, h.free, h.shp, h.c_owned, h.c_panel, h.c_priv, h.c_pool, h.c_lens, h.c_groups, h.c_keys, h.c_tokens, h.c_error, h.c_len, h.c_at]

theorem sourceAt_agreeF (h : Agree s u) : sourceAt u = sourceAt s := by funext a1 a2 a3 a4 a5 a6; exact sourceAt_agree h _ _ _ _ _ _

theorem convertWrote_agree (h : Agree s u) (a1 : Flight) (a2 : Spot) : convertWrote u a1 a2 = convertWrote s a1 a2 := by
  unfold convertWrote
  simp (disch := decide) only [descOf_agreeF h, copyTile_agreeF h, convertRect_agreeF h, sourceAt_agreeF h, rd_agree h, fget_agree h, fbit_agree h, h.secs, h.tens, h.badTens, h.pages, h.panels, h.trackers, h.rulesOn, h.live, h.groups, h.tree, h.windows, h.helds, h.masks, h.sideSums, h.coreMap, h.links, h.queues, h.free, h.shp, h.c_owned, h.c_panel, h.c_priv, h.c_pool, h.c_lens, h.c_groups, h.c_keys, h.c_tokens, h.c_error, h.c_len, h.c_at]

theorem convertWrote_agreeF (h : Agree s u) : convertWrote u = convertWrote s := by funext a1 a2; exact convertWrote_agree h _ _

theorem vectorTile_agree (h : Agree s u) (a1 : Flight) (a2 : Spot) : vectorTile u a1 a2 = vectorTile s a1 a2 := by
  unfold vectorTile
  simp (disch := decide) only [sourceAt_agreeF h, rd_agree h, fget_agree h, fbit_agree h, h.secs, h.tens, h.badTens, h.pages, h.panels, h.trackers, h.rulesOn, h.live, h.groups, h.tree, h.windows, h.helds, h.masks, h.sideSums, h.coreMap, h.links, h.queues, h.free, h.shp, h.c_owned, h.c_panel, h.c_priv, h.c_pool, h.c_lens, h.c_groups, h.c_keys, h.c_tokens, h.c_error, h.c_len, h.c_at]

theorem vectorTile_agreeF (h : Agree s u) : vectorTile u = vectorTile s := by funext a1 a2; exact vectorTile_agree h _ _

theorem vectorWrote_agree (h : Agree s u) (a1 : Flight) (a2 : Spot) : vectorWrote u a1 a2 = vectorWrote s a1 a2 := by
  unfold vectorWrote
  simp (disch := decide) only [vectorTile_agreeF h, descOf_agreeF h, convertRect_agreeF h, rd_agree h, fget_agree h, fbit_agree h, h.secs, h.tens, h.badTens, h.pages, h.panels, h.trackers, h.rulesOn, h.live, h.groups, h.tree, h.windows, h.helds, h.masks, h.sideSums, h.coreMap, h.links, h.queues, h.free, h.shp, h.c_owned, h.c_panel, h.c_priv, h.c_pool, h.c_lens, h.c_groups, h.c_keys, h.c_tokens, h.c_error, h.c_len, h.c_at]

theorem vectorWrote_agreeF (h : Agree s u) : vectorWrote u = vectorWrote s := by funext a1 a2; exact vectorWrote_agree h _ _

theorem isPool_agree (h : Agree s u) (a1 : List Byte) : isPool u a1 = isPool s a1 := by
  unfold isPool
  simp (disch := decide) only [descOf_agreeF h, rd_agree h, fget_agree h, fbit_agree h, h.secs, h.tens, h.badTens, h.pages, h.panels, h.trackers, h.rulesOn, h.live, h.groups, h.tree, h.windows, h.helds, h.masks, h.sideSums, h.coreMap, h.links, h.queues, h.free, h.shp, h.c_owned, h.c_panel, h.c_priv, h.c_pool, h.c_lens, h.c_groups, h.c_keys, h.c_tokens, h.c_error, h.c_len, h.c_at]

theorem isPool_agreeF (h : Agree s u) : isPool u = isPool s := by funext a1; exact isPool_agree h _

theorem attErr_agree (h : Agree s u) (a1 : Flight) (a2 : Spot) : attErr u a1 a2 = attErr s a1 a2 := by
  unfold attErr
  simp (disch := decide) only [isPool_agreeF h, rd_agree h, fget_agree h, fbit_agree h, h.secs, h.tens, h.badTens, h.pages, h.panels, h.trackers, h.rulesOn, h.live, h.groups, h.tree, h.windows, h.helds, h.masks, h.sideSums, h.coreMap, h.links, h.queues, h.free, h.shp, h.c_owned, h.c_panel, h.c_priv, h.c_pool, h.c_lens, h.c_groups, h.c_keys, h.c_tokens, h.c_error, h.c_len, h.c_at]

theorem attErr_agreeF (h : Agree s u) : attErr u = attErr s := by funext a1 a2; exact attErr_agree h _ _

theorem attDiverts_agree (h : Agree s u) (a1 : List Byte) : attDiverts u a1 = attDiverts s a1 := by
  unfold attDiverts
  simp (disch := decide) only [descOf_agreeF h, rd_agree h, fget_agree h, fbit_agree h, h.secs, h.tens, h.badTens, h.pages, h.panels, h.trackers, h.rulesOn, h.live, h.groups, h.tree, h.windows, h.helds, h.masks, h.sideSums, h.coreMap, h.links, h.queues, h.free, h.shp, h.c_owned, h.c_panel, h.c_priv, h.c_pool, h.c_lens, h.c_groups, h.c_keys, h.c_tokens, h.c_error, h.c_len, h.c_at]

theorem attDiverts_agreeF (h : Agree s u) : attDiverts u = attDiverts s := by funext a1; exact attDiverts_agree h _

theorem layersOf_agree (h : Agree s u) (a1 : Nat) : layersOf u a1 = layersOf s a1 := by
  unfold layersOf
  simp (disch := decide) only [State_secsOf_agreeF h, rd_agree h, fget_agree h, fbit_agree h, h.secs, h.tens, h.badTens, h.pages, h.panels, h.trackers, h.rulesOn, h.live, h.groups, h.tree, h.windows, h.helds, h.masks, h.sideSums, h.coreMap, h.links, h.queues, h.free, h.shp, h.c_owned, h.c_panel, h.c_priv, h.c_pool, h.c_lens, h.c_groups, h.c_keys, h.c_tokens, h.c_error, h.c_len, h.c_at]

theorem layersOf_agreeF (h : Agree s u) : layersOf u = layersOf s := by funext a1; exact layersOf_agree h _

theorem layerAt_agree (h : Agree s u) (a1 : Nat) (a2 : List Byte) : layerAt u a1 a2 = layerAt s a1 a2 := by
  unfold layerAt
  simp (disch := decide) only [layersOf_agreeF h, rd_agree h, fget_agree h, fbit_agree h, h.secs, h.tens, h.badTens, h.pages, h.panels, h.trackers, h.rulesOn, h.live, h.groups, h.tree, h.windows, h.helds, h.masks, h.sideSums, h.coreMap, h.links, h.queues, h.free, h.shp, h.c_owned, h.c_panel, h.c_priv, h.c_pool, h.c_lens, h.c_groups, h.c_keys, h.c_tokens, h.c_error, h.c_len, h.c_at]

theorem layerAt_agreeF (h : Agree s u) : layerAt u = layerAt s := by funext a1 a2; exact layerAt_agree h _ _

theorem layerIn_agree (h : Agree s u) (a1 : Flight) : layerIn u a1 = layerIn s a1 := by
  unfold layerIn
  simp (disch := decide) only [layerAt_agreeF h, rd_agree h, fget_agree h, fbit_agree h, h.secs, h.tens, h.badTens, h.pages, h.panels, h.trackers, h.rulesOn, h.live, h.groups, h.tree, h.windows, h.helds, h.masks, h.sideSums, h.coreMap, h.links, h.queues, h.free, h.shp, h.c_owned, h.c_panel, h.c_priv, h.c_pool, h.c_lens, h.c_groups, h.c_keys, h.c_tokens, h.c_error, h.c_len, h.c_at]

theorem layerIn_agreeF (h : Agree s u) : layerIn u = layerIn s := by funext a1; exact layerIn_agree h _

theorem attOf_agree (h : Agree s u) (a1 : Flight) : attOf u a1 = attOf s a1 := by
  unfold attOf
  simp (disch := decide) only [descOf_agreeF h, isPool_agreeF h, attDiverts_agreeF h, layerIn_agreeF h, rd_agree h, fget_agree h, fbit_agree h, h.secs, h.tens, h.badTens, h.pages, h.panels, h.trackers, h.rulesOn, h.live, h.groups, h.tree, h.windows, h.helds, h.masks, h.sideSums, h.coreMap, h.links, h.queues, h.free, h.shp, h.c_owned, h.c_panel, h.c_priv, h.c_pool, h.c_lens, h.c_groups, h.c_keys, h.c_tokens, h.c_error, h.c_len, h.c_at]

theorem attOf_agreeF (h : Agree s u) : attOf u = attOf s := by funext a1; exact attOf_agree h _

theorem rowOf_agree (h : Agree s u) (a1 : View) (a2 : Nat) (a3 : Nat) (a4 : Nat) : rowOf u a1 a2 a3 a4 = rowOf s a1 a2 a3 a4 := by
  unfold rowOf
  simp (disch := decide) only [View_get_agreeF h, rd_agree h, fget_agree h, fbit_agree h, h.secs, h.tens, h.badTens, h.pages, h.panels, h.trackers, h.rulesOn, h.live, h.groups, h.tree, h.windows, h.helds, h.masks, h.sideSums, h.coreMap, h.links, h.queues, h.free, h.shp, h.c_owned, h.c_panel, h.c_priv, h.c_pool, h.c_lens, h.c_groups, h.c_keys, h.c_tokens, h.c_error, h.c_len, h.c_at]

theorem rowOf_agreeF (h : Agree s u) : rowOf u = rowOf s := by funext a1 a2 a3 a4; exact rowOf_agree h _ _ _ _

theorem plainView_agree (h : Agree s u) (a1 : Flight) (a2 : Nat) : plainView u a1 a2 = plainView s a1 a2 := by
  unfold plainView
  simp (disch := decide) only [readBase_agreeF h, descOf_agreeF h, rd_agree h, fget_agree h, fbit_agree h, h.secs, h.tens, h.badTens, h.pages, h.panels, h.trackers, h.rulesOn, h.live, h.groups, h.tree, h.windows, h.helds, h.masks, h.sideSums, h.coreMap, h.links, h.queues, h.free, h.shp, h.c_owned, h.c_panel, h.c_priv, h.c_pool, h.c_lens, h.c_groups, h.c_keys, h.c_tokens, h.c_error, h.c_len, h.c_at]

theorem plainView_agreeF (h : Agree s u) : plainView u = plainView s := by funext a1 a2; exact plainView_agree h _ _

theorem attLk_agree (h : Agree s u) (a1 : Flight) (a2 : Spot) : attLk u a1 a2 = attLk s a1 a2 := by
  unfold attLk
  simp (disch := decide) only [isPool_agreeF h, rd_agree h, fget_agree h, fbit_agree h, h.secs, h.tens, h.badTens, h.pages, h.panels, h.trackers, h.rulesOn, h.live, h.groups, h.tree, h.windows, h.helds, h.masks, h.sideSums, h.coreMap, h.links, h.queues, h.free, h.shp, h.c_owned, h.c_panel, h.c_priv, h.c_pool, h.c_lens, h.c_groups, h.c_keys, h.c_tokens, h.c_error, h.c_len, h.c_at]

theorem attLk_agreeF (h : Agree s u) : attLk u = attLk s := by funext a1 a2; exact attLk_agree h _ _

theorem poolOf_agree (h : Agree s u) (a1 : Nat) : poolOf u a1 = poolOf s a1 := by
  unfold poolOf
  simp (disch := decide) only [descOf_agreeF h, rd_agree h, fget_agree h, fbit_agree h, h.secs, h.tens, h.badTens, h.pages, h.panels, h.trackers, h.rulesOn, h.live, h.groups, h.tree, h.windows, h.helds, h.masks, h.sideSums, h.coreMap, h.links, h.queues, h.free, h.shp, h.c_owned, h.c_panel, h.c_priv, h.c_pool, h.c_lens, h.c_groups, h.c_keys, h.c_tokens, h.c_error, h.c_len, h.c_at]

theorem poolOf_agreeF (h : Agree s u) : poolOf u = poolOf s := by funext a1; exact poolOf_agree h _

theorem Pool_key_agree (h : Agree s u) (a1 : Pool) (a2 : Nat) (a3 : Nat) (a4 : Nat) (a5 : Nat) : Pool.key u a1 a2 a3 a4 a5 = Pool.key s a1 a2 a3 a4 a5 := by
  unfold Pool.key
  simp (disch := decide) only [View_get_agreeF h, rd_agree h, fget_agree h, fbit_agree h, h.secs, h.tens, h.badTens, h.pages, h.panels, h.trackers, h.rulesOn, h.live, h.groups, h.tree, h.windows, h.helds, h.masks, h.sideSums, h.coreMap, h.links, h.queues, h.free, h.shp, h.c_owned, h.c_panel, h.c_priv, h.c_pool, h.c_lens, h.c_groups, h.c_keys, h.c_tokens, h.c_error, h.c_len, h.c_at]

theorem Pool_key_agreeF (h : Agree s u) : Pool.key u = Pool.key s := by funext a1 a2 a3 a4 a5; exact Pool_key_agree h _ _ _ _ _

theorem Pool_isOpen_agree (h : Agree s u) (a1 : Pool) (a2 : Nat) (a3 : Nat) (a4 : Nat) : Pool.isOpen u a1 a2 a3 a4 = Pool.isOpen s a1 a2 a3 a4 := by
  unfold Pool.isOpen
  simp (disch := decide) only [rd_agree h, fget_agree h, fbit_agree h, h.secs, h.tens, h.badTens, h.pages, h.panels, h.trackers, h.rulesOn, h.live, h.groups, h.tree, h.windows, h.helds, h.masks, h.sideSums, h.coreMap, h.links, h.queues, h.free, h.shp, h.c_owned, h.c_panel, h.c_priv, h.c_pool, h.c_lens, h.c_groups, h.c_keys, h.c_tokens, h.c_error, h.c_len, h.c_at]

theorem Pool_isOpen_agreeF (h : Agree s u) : Pool.isOpen u = Pool.isOpen s := by funext a1 a2 a3 a4; exact Pool_isOpen_agree h _ _ _ _

theorem chanRank_agree (h : Agree s u) (c : Nat) : chanRank u c = chanRank s c := h.rank c
theorem chanRank_agreeF (h : Agree s u) : chanRank u = chanRank s := by funext c; exact h.rank c

theorem Pool_bufAt_agree (h : Agree s u) (a1 : Pool) (a2 : Nat) (a3 : Nat) : Pool.bufAt u a1 a2 a3 = Pool.bufAt s a1 a2 a3 := by
  unfold Pool.bufAt
  simp (disch := decide) only [chanRank_agreeF h, rd_agree h, fget_agree h, fbit_agree h, h.secs, h.tens, h.badTens, h.pages, h.panels, h.trackers, h.rulesOn, h.live, h.groups, h.tree, h.windows, h.helds, h.masks, h.sideSums, h.coreMap, h.links, h.queues, h.free, h.shp, h.c_owned, h.c_panel, h.c_priv, h.c_pool, h.c_lens, h.c_groups, h.c_keys, h.c_tokens, h.c_error, h.c_len, h.c_at]

theorem Pool_bufAt_agreeF (h : Agree s u) : Pool.bufAt u = Pool.bufAt s := by funext a1 a2 a3; exact Pool_bufAt_agree h _ _ _

theorem Pool_bufElem_agree (h : Agree s u) (a1 : Pool) (a2 : Nat) (a3 : Nat) (a4 : Nat) (a5 : Nat) (a6 : Nat) : Pool.bufElem u a1 a2 a3 a4 a5 a6 = Pool.bufElem s a1 a2 a3 a4 a5 a6 := by
  unfold Pool.bufElem
  simp (disch := decide) only [Pool_bufAt_agreeF h, rd_agree h, fget_agree h, fbit_agree h, h.secs, h.tens, h.badTens, h.pages, h.panels, h.trackers, h.rulesOn, h.live, h.groups, h.tree, h.windows, h.helds, h.masks, h.sideSums, h.coreMap, h.links, h.queues, h.free, h.shp, h.c_owned, h.c_panel, h.c_priv, h.c_pool, h.c_lens, h.c_groups, h.c_keys, h.c_tokens, h.c_error, h.c_len, h.c_at]

theorem Pool_bufElem_agreeF (h : Agree s u) : Pool.bufElem u = Pool.bufElem s := by funext a1 a2 a3 a4 a5 a6; exact Pool_bufElem_agree h _ _ _ _ _ _

theorem Pool_val_agree (h : Agree s u) (a1 : Pool) (a2 : Nat) (a3 : Nat) (a4 : Nat) (a5 : Nat) (a6 : Nat) : Pool.val u a1 a2 a3 a4 a5 a6 = Pool.val s a1 a2 a3 a4 a5 a6 := by
  unfold Pool.val
  simp (disch := decide) only [Pool_isOpen_agreeF h, State_tRead_agreeF h, Pool_bufElem_agreeF h, View_get_agreeF h, rd_agree h, fget_agree h, fbit_agree h, h.secs, h.tens, h.badTens, h.pages, h.panels, h.trackers, h.rulesOn, h.live, h.groups, h.tree, h.windows, h.helds, h.masks, h.sideSums, h.coreMap, h.links, h.queues, h.free, h.shp, h.c_owned, h.c_panel, h.c_priv, h.c_pool, h.c_lens, h.c_groups, h.c_keys, h.c_tokens, h.c_error, h.c_len, h.c_at]

theorem Pool_val_agreeF (h : Agree s u) : Pool.val u = Pool.val s := by funext a1 a2 a3 a4 a5 a6; exact Pool_val_agree h _ _ _ _ _ _

theorem maskCode_agree (h : Agree s u) (a1 : Layer) (a2 : Nat) (a3 : Nat) : maskCode u a1 a2 a3 = maskCode s a1 a2 a3 := by
  unfold maskCode
  simp (disch := decide) only [State_desc_agreeF h, View_code_p_agreeF h, rd_agree h, fget_agree h, fbit_agree h, h.secs, h.tens, h.badTens, h.pages, h.panels, h.trackers, h.rulesOn, h.live, h.groups, h.tree, h.windows, h.helds, h.masks, h.sideSums, h.coreMap, h.links, h.queues, h.free, h.shp, h.c_owned, h.c_panel, h.c_priv, h.c_pool, h.c_lens, h.c_groups, h.c_keys, h.c_tokens, h.c_error, h.c_len, h.c_at]

theorem maskCode_agreeF (h : Agree s u) : maskCode u = maskCode s := by funext a1 a2 a3; exact maskCode_agree h _ _ _

theorem blockOn_agree (h : Agree s u) (a1 : Layer) (a2 : Nat) (a3 : Nat) : blockOn u a1 a2 a3 = blockOn s a1 a2 a3 := by
  unfold blockOn
  simp (disch := decide) only [maskCode_agreeF h, rd_agree h, fget_agree h, fbit_agree h, h.secs, h.tens, h.badTens, h.pages, h.panels, h.trackers, h.rulesOn, h.live, h.groups, h.tree, h.windows, h.helds, h.masks, h.sideSums, h.coreMap, h.links, h.queues, h.free, h.shp, h.c_owned, h.c_panel, h.c_priv, h.c_pool, h.c_lens, h.c_groups, h.c_keys, h.c_tokens, h.c_error, h.c_len, h.c_at]

theorem blockOn_agreeF (h : Agree s u) : blockOn u = blockOn s := by funext a1 a2 a3; exact blockOn_agree h _ _ _

theorem attOk_agree (h : Agree s u) (a1 : Flight) (a2 : Spot) (a3 : Nat) (a4 : Nat) : attOk u a1 a2 a3 a4 = attOk s a1 a2 a3 a4 := by
  unfold attOk
  simp (disch := decide) only [layerIn_agreeF h, attLk_agreeF h, blockOn_agreeF h, isPool_agreeF h, rd_agree h, fget_agree h, fbit_agree h, h.secs, h.tens, h.badTens, h.pages, h.panels, h.trackers, h.rulesOn, h.live, h.groups, h.tree, h.windows, h.helds, h.masks, h.sideSums, h.coreMap, h.links, h.queues, h.free, h.shp, h.c_owned, h.c_panel, h.c_priv, h.c_pool, h.c_lens, h.c_groups, h.c_keys, h.c_tokens, h.c_error, h.c_len, h.c_at]

theorem attOk_agreeF (h : Agree s u) : attOk u = attOk s := by funext a1 a2 a3 a4; exact attOk_agree h _ _ _ _

theorem attUnit_agree (h : Agree s u) (a1 : Flight) (a2 : Spot) : attUnit u a1 a2 = attUnit s a1 a2 := by
  unfold attUnit
  simp (disch := decide) only [attOf_agreeF h, descOf_agreeF h, rowOf_agreeF h, plainView_agreeF h, attLk_agreeF h, isPool_agreeF h, poolOf_agreeF h, Pool_key_agreeF h, Pool_val_agreeF h, Pool_isOpen_agreeF h, attOk_agreeF h, View_get_agreeF h, rd_agree h, fget_agree h, fbit_agree h, h.secs, h.tens, h.badTens, h.pages, h.panels, h.trackers, h.rulesOn, h.live, h.groups, h.tree, h.windows, h.helds, h.masks, h.sideSums, h.coreMap, h.links, h.queues, h.free, h.shp, h.c_owned, h.c_panel, h.c_priv, h.c_pool, h.c_lens, h.c_groups, h.c_keys, h.c_tokens, h.c_error, h.c_len, h.c_at]

theorem attUnit_agreeF (h : Agree s u) : attUnit u = attUnit s := by funext a1 a2; exact attUnit_agree h _ _

theorem attResult_agree (h : Agree s u) (a1 : Flight) (a2 : Spot) : attResult u a1 a2 = attResult s a1 a2 := by
  unfold attResult
  simp (disch := decide) only [attErr_agreeF h, descOf_agreeF h, attUnit_agreeF h, rd_agree h, fget_agree h, fbit_agree h, h.secs, h.tens, h.badTens, h.pages, h.panels, h.trackers, h.rulesOn, h.live, h.groups, h.tree, h.windows, h.helds, h.masks, h.sideSums, h.coreMap, h.links, h.queues, h.free, h.shp, h.c_owned, h.c_panel, h.c_priv, h.c_pool, h.c_lens, h.c_groups, h.c_keys, h.c_tokens, h.c_error, h.c_len, h.c_at]

theorem attResult_agreeF (h : Agree s u) : attResult u = attResult s := by funext a1 a2; exact attResult_agree h _ _

theorem attWrote_agree (h : Agree s u) (a1 : Flight) (a2 : Spot) : attWrote u a1 a2 = attWrote s a1 a2 := by
  unfold attWrote
  simp (disch := decide) only [attResult_agreeF h, descOf_agreeF h, convertRect_agreeF h, rd_agree h, fget_agree h, fbit_agree h, h.secs, h.tens, h.badTens, h.pages, h.panels, h.trackers, h.rulesOn, h.live, h.groups, h.tree, h.windows, h.helds, h.masks, h.sideSums, h.coreMap, h.links, h.queues, h.free, h.shp, h.c_owned, h.c_panel, h.c_priv, h.c_pool, h.c_lens, h.c_groups, h.c_keys, h.c_tokens, h.c_error, h.c_len, h.c_at]

theorem attWrote_agreeF (h : Agree s u) : attWrote u = attWrote s := by funext a1 a2; exact attWrote_agree h _ _

theorem attStats_agree (h : Agree s u) (a1 : Flight) (a2 : Spot) : attStats u a1 a2 = attStats s a1 a2 := by
  unfold attStats
  simp (disch := decide) only [attResult_agreeF h, plainView_agreeF h, rd_agree h, fget_agree h, fbit_agree h, h.secs, h.tens, h.badTens, h.pages, h.panels, h.trackers, h.rulesOn, h.live, h.groups, h.tree, h.windows, h.helds, h.masks, h.sideSums, h.coreMap, h.links, h.queues, h.free, h.shp, h.c_owned, h.c_panel, h.c_priv, h.c_pool, h.c_lens, h.c_groups, h.c_keys, h.c_tokens, h.c_error, h.c_len, h.c_at]

theorem attStats_agreeF (h : Agree s u) : attStats u = attStats s := by funext a1 a2; exact attStats_agree h _ _

theorem productPlan_agree (h : Agree s u) (a1 : Nat) (a2 : List Byte) : productPlan u a1 a2 = productPlan s a1 a2 := by
  unfold productPlan
  simp (disch := decide) only [descOf_agreeF h, rd_agree h, fget_agree h, fbit_agree h, h.secs, h.tens, h.badTens, h.pages, h.panels, h.trackers, h.rulesOn, h.live, h.groups, h.tree, h.windows, h.helds, h.masks, h.sideSums, h.coreMap, h.links, h.queues, h.free, h.shp, h.c_owned, h.c_panel, h.c_priv, h.c_pool, h.c_lens, h.c_groups, h.c_keys, h.c_tokens, h.c_error, h.c_len, h.c_at]

theorem productPlan_agreeF (h : Agree s u) : productPlan u = productPlan s := by funext a1 a2; exact productPlan_agree h _ _

theorem productPlanned_agree (h : Agree s u) (a1 : List Byte) : productPlanned u a1 = productPlanned s a1 := by
  unfold productPlanned
  simp (disch := decide) only [descOf_agreeF h, rd_agree h, fget_agree h, fbit_agree h, h.secs, h.tens, h.badTens, h.pages, h.panels, h.trackers, h.rulesOn, h.live, h.groups, h.tree, h.windows, h.helds, h.masks, h.sideSums, h.coreMap, h.links, h.queues, h.free, h.shp, h.c_owned, h.c_panel, h.c_priv, h.c_pool, h.c_lens, h.c_groups, h.c_keys, h.c_tokens, h.c_error, h.c_len, h.c_at]

theorem productPlanned_agreeF (h : Agree s u) : productPlanned u = productPlanned s := by funext a1; exact productPlanned_agree h _

theorem shpEntry_agree (h : Agree s u) (a1 : Nat) (a2 : Strm) (a3 : List Byte) (a4 : Nat) (a5 : Nat) : shpEntry u a1 a2 a3 a4 a5 = shpEntry s a1 a2 a3 a4 a5 := by
  unfold shpEntry
  simp (disch := decide) only [rd_agree h, fget_agree h, fbit_agree h, h.secs, h.tens, h.badTens, h.pages, h.panels, h.trackers, h.rulesOn, h.live, h.groups, h.tree, h.windows, h.helds, h.masks, h.sideSums, h.coreMap, h.links, h.queues, h.free, h.shp, h.c_owned, h.c_panel, h.c_priv, h.c_pool, h.c_lens, h.c_groups, h.c_keys, h.c_tokens, h.c_error, h.c_len, h.c_at]

theorem shpEntry_agreeF (h : Agree s u) : shpEntry u = shpEntry s := by funext a1 a2 a3 a4 a5; exact shpEntry_agree h _ _ _ _ _

theorem shapeOf_agree (h : Agree s u) (a1 : Nat) (a2 : Strm) (a3 : List Byte) (a4 : List Nat) : shapeOf u a1 a2 a3 a4 = shapeOf s a1 a2 a3 a4 := by
  unfold shapeOf
  simp (disch := decide) only [shpEntry_agreeF h, rd_agree h, fget_agree h, fbit_agree h, h.secs, h.tens, h.badTens, h.pages, h.panels, h.trackers, h.rulesOn, h.live, h.groups, h.tree, h.windows, h.helds, h.masks, h.sideSums, h.coreMap, h.links, h.queues, h.free, h.shp, h.c_owned, h.c_panel, h.c_priv, h.c_pool, h.c_lens, h.c_groups, h.c_keys, h.c_tokens, h.c_error, h.c_len, h.c_at]

theorem shapeOf_agreeF (h : Agree s u) : shapeOf u = shapeOf s := by funext a1 a2 a3 a4; exact shapeOf_agree h _ _ _ _

theorem kEnd_agree (h : Agree s u) (a1 : Flight) (a2 : Spot) : kEnd u a1 a2 = kEnd s a1 a2 := by
  unfold kEnd
  simp (disch := decide) only [descOf_agreeF h, rd_agree h, fget_agree h, fbit_agree h, h.secs, h.tens, h.badTens, h.pages, h.panels, h.trackers, h.rulesOn, h.live, h.groups, h.tree, h.windows, h.helds, h.masks, h.sideSums, h.coreMap, h.links, h.queues, h.free, h.shp, h.c_owned, h.c_panel, h.c_priv, h.c_pool, h.c_lens, h.c_groups, h.c_keys, h.c_tokens, h.c_error, h.c_len, h.c_at]

theorem kEnd_agreeF (h : Agree s u) : kEnd u = kEnd s := by funext a1 a2; exact kEnd_agree h _ _

theorem tweedView_agree (h : Agree s u) (a1 : Nat) (a2 : Nat) (a3 : Desc) : tweedView u a1 a2 a3 = tweedView s a1 a2 a3 := by
  unfold tweedView
  simp (disch := decide) only [bankLayout_agreeF h, rd_agree h, fget_agree h, fbit_agree h, h.secs, h.tens, h.badTens, h.pages, h.panels, h.trackers, h.rulesOn, h.live, h.groups, h.tree, h.windows, h.helds, h.masks, h.sideSums, h.coreMap, h.links, h.queues, h.free, h.shp, h.c_owned, h.c_panel, h.c_priv, h.c_pool, h.c_lens, h.c_groups, h.c_keys, h.c_tokens, h.c_error, h.c_len, h.c_at]

theorem tweedView_agreeF (h : Agree s u) : tweedView u = tweedView s := by funext a1 a2 a3; exact tweedView_agree h _ _ _

theorem operandView_agree (h : Agree s u) (a1 : Flight) (a2 : Nat) : operandView u a1 a2 = operandView s a1 a2 := by
  unfold operandView
  simp (disch := decide) only [descOf_agreeF h, readBase_agreeF h, tweedView_agreeF h, rd_agree h, fget_agree h, fbit_agree h, h.secs, h.tens, h.badTens, h.pages, h.panels, h.trackers, h.rulesOn, h.live, h.groups, h.tree, h.windows, h.helds, h.masks, h.sideSums, h.coreMap, h.links, h.queues, h.free, h.shp, h.c_owned, h.c_panel, h.c_priv, h.c_pool, h.c_lens, h.c_groups, h.c_keys, h.c_tokens, h.c_error, h.c_len, h.c_at]

theorem operandView_agreeF (h : Agree s u) : operandView u = operandView s := by funext a1 a2; exact operandView_agree h _ _

theorem foldB_agree (h : Agree s u) (a1 : Nat) (a2 : Spot) : foldB u a1 a2 = foldB s a1 a2 := by
  unfold foldB
  simp (disch := decide) only [descOf_agreeF h, rd_agree h, fget_agree h, fbit_agree h, h.secs, h.tens, h.badTens, h.pages, h.panels, h.trackers, h.rulesOn, h.live, h.groups, h.tree, h.windows, h.helds, h.masks, h.sideSums, h.coreMap, h.links, h.queues, h.free, h.shp, h.c_owned, h.c_panel, h.c_priv, h.c_pool, h.c_lens, h.c_groups, h.c_keys, h.c_tokens, h.c_error, h.c_len, h.c_at]

theorem foldB_agreeF (h : Agree s u) : foldB u = foldB s := by funext a1 a2; exact foldB_agree h _ _

theorem vectors_agree (h : Agree s u) (a1 : View) (a2 : Nat) (a3 : Bool) (a4 : Nat) (a5 : Nat) (a6 : Nat) (a7 : Nat) (a8 : Nat) (a9 : Nat) : vectors u a1 a2 a3 a4 a5 a6 a7 a8 a9 = vectors s a1 a2 a3 a4 a5 a6 a7 a8 a9 := by
  unfold vectors
  simp (disch := decide) only [View_get_agreeF h, rd_agree h, fget_agree h, fbit_agree h, h.secs, h.tens, h.badTens, h.pages, h.panels, h.trackers, h.rulesOn, h.live, h.groups, h.tree, h.windows, h.helds, h.masks, h.sideSums, h.coreMap, h.links, h.queues, h.free, h.shp, h.c_owned, h.c_panel, h.c_priv, h.c_pool, h.c_lens, h.c_groups, h.c_keys, h.c_tokens, h.c_error, h.c_len, h.c_at]

theorem vectors_agreeF (h : Agree s u) : vectors u = vectors s := by funext a1 a2 a3 a4 a5 a6 a7 a8 a9; exact vectors_agree h _ _ _ _ _ _ _ _ _

theorem t2Reads_agree (h : Agree s u) (a1 : View) (a2 : Bool) (a3 : Nat) (a4 : Nat) (a5 : Nat) (a6 : Nat) (a7 : Nat) (a8 : Nat) : t2Reads u a1 a2 a3 a4 a5 a6 a7 a8 = t2Reads s a1 a2 a3 a4 a5 a6 a7 a8 := by
  unfold t2Reads
  simp (disch := decide) only [View_code_p_agreeF h, rd_agree h, fget_agree h, fbit_agree h, h.secs, h.tens, h.badTens, h.pages, h.panels, h.trackers, h.rulesOn, h.live, h.groups, h.tree, h.windows, h.helds, h.masks, h.sideSums, h.coreMap, h.links, h.queues, h.free, h.shp, h.c_owned, h.c_panel, h.c_priv, h.c_pool, h.c_lens, h.c_groups, h.c_keys, h.c_tokens, h.c_error, h.c_len, h.c_at]

theorem t2Reads_agreeF (h : Agree s u) : t2Reads u = t2Reads s := by funext a1 a2 a3 a4 a5 a6 a7 a8; exact t2Reads_agree h _ _ _ _ _ _ _ _

theorem activations_agree (h : Agree s u) (a1 : Flight) (a2 : Spot) (a3 : Nat) : activations u a1 a2 a3 = activations s a1 a2 a3 := by
  unfold activations
  simp (disch := decide) only [descOf_agreeF h, operandView_agreeF h, zeroPoint_agreeF h, vectors_agreeF h, rd_agree h, fget_agree h, fbit_agree h, h.secs, h.tens, h.badTens, h.pages, h.panels, h.trackers, h.rulesOn, h.live, h.groups, h.tree, h.windows, h.helds, h.masks, h.sideSums, h.coreMap, h.links, h.queues, h.free, h.shp, h.c_owned, h.c_panel, h.c_priv, h.c_pool, h.c_lens, h.c_groups, h.c_keys, h.c_tokens, h.c_error, h.c_len, h.c_at]

theorem activations_agreeF (h : Agree s u) : activations u = activations s := by funext a1 a2 a3; exact activations_agree h _ _ _

theorem fmtDiverts_agree (h : Agree s u) (a1 : List Byte) : fmtDiverts u a1 = fmtDiverts s a1 := by
  unfold fmtDiverts
  simp (disch := decide) only [descOf_agreeF h, rd_agree h, fget_agree h, fbit_agree h, h.secs, h.tens, h.badTens, h.pages, h.panels, h.trackers, h.rulesOn, h.live, h.groups, h.tree, h.windows, h.helds, h.masks, h.sideSums, h.coreMap, h.links, h.queues, h.free, h.shp, h.c_owned, h.c_panel, h.c_priv, h.c_pool, h.c_lens, h.c_groups, h.c_keys, h.c_tokens, h.c_error, h.c_len, h.c_at]

theorem fmtDiverts_agreeF (h : Agree s u) : fmtDiverts u = fmtDiverts s := by funext a1; exact fmtDiverts_agree h _

theorem gauzeUnit_agree (h : Agree s u) (a1 : Flight) (a2 : Spot) : gauzeUnit u a1 a2 = gauzeUnit s a1 a2 := by
  unfold gauzeUnit
  simp (disch := decide) only [descOf_agreeF h, layerIn_agreeF h, kEnd_agreeF h, operandView_agreeF h, foldB_agreeF h, vectors_agreeF h, t2Reads_agreeF h, activations_agreeF h, fmtDiverts_agreeF h, seedOf_agreeF h, convStep_agreeF h, crushK_agreeF h, scaleIn_agreeF h, paramAt_agreeF h, zeroPoint_agreeF h, rd_agree h, fget_agree h, fbit_agree h, h.secs, h.tens, h.badTens, h.pages, h.panels, h.trackers, h.rulesOn, h.live, h.groups, h.tree, h.windows, h.helds, h.masks, h.sideSums, h.coreMap, h.links, h.queues, h.free, h.shp, h.c_owned, h.c_panel, h.c_priv, h.c_pool, h.c_lens, h.c_groups, h.c_keys, h.c_tokens, h.c_error, h.c_len, h.c_at]

theorem gauzeUnit_agreeF (h : Agree s u) : gauzeUnit u = gauzeUnit s := by funext a1 a2; exact gauzeUnit_agree h _ _

theorem redA_agree (h : Agree s u) (a1 : Flight) : redA u a1 = redA s a1 := by
  unfold redA
  simp (disch := decide) only [descOf_agreeF h, rd_agree h, fget_agree h, fbit_agree h, h.secs, h.tens, h.badTens, h.pages, h.panels, h.trackers, h.rulesOn, h.live, h.groups, h.tree, h.windows, h.helds, h.masks, h.sideSums, h.coreMap, h.links, h.queues, h.free, h.shp, h.c_owned, h.c_panel, h.c_priv, h.c_pool, h.c_lens, h.c_groups, h.c_keys, h.c_tokens, h.c_error, h.c_len, h.c_at]

theorem redA_agreeF (h : Agree s u) : redA u = redA s := by funext a1; exact redA_agree h _

theorem redB_agree (h : Agree s u) (a1 : Flight) : redB u a1 = redB s a1 := by
  unfold redB
  simp (disch := decide) only [descOf_agreeF h, rd_agree h, fget_agree h, fbit_agree h, h.secs, h.tens, h.badTens, h.pages, h.panels, h.trackers, h.rulesOn, h.live, h.groups, h.tree, h.windows, h.helds, h.masks, h.sideSums, h.coreMap, h.links, h.queues, h.free, h.shp, h.c_owned, h.c_panel, h.c_priv, h.c_pool, h.c_lens, h.c_groups, h.c_keys, h.c_tokens, h.c_error, h.c_len, h.c_at]

theorem redB_agreeF (h : Agree s u) : redB u = redB s := by funext a1; exact redB_agree h _

theorem tweedUnit_agree (h : Agree s u) (a1 : Flight) (a2 : Spot) : tweedUnit u a1 a2 = tweedUnit s a1 a2 := by
  unfold tweedUnit
  simp (disch := decide) only [operandView_agreeF h, descOf_agreeF h, zeroPoint_agreeF h, foldB_agreeF h, redA_agreeF h, redB_agreeF h, vectors_agreeF h, t2Reads_agreeF h, rd_agree h, fget_agree h, fbit_agree h, h.secs, h.tens, h.badTens, h.pages, h.panels, h.trackers, h.rulesOn, h.live, h.groups, h.tree, h.windows, h.helds, h.masks, h.sideSums, h.coreMap, h.links, h.queues, h.free, h.shp, h.c_owned, h.c_panel, h.c_priv, h.c_pool, h.c_lens, h.c_groups, h.c_keys, h.c_tokens, h.c_error, h.c_len, h.c_at]

theorem tweedUnit_agreeF (h : Agree s u) : tweedUnit u = tweedUnit s := by funext a1 a2; exact tweedUnit_agree h _ _

theorem badIn_agree (h : Agree s u) (a1 : Nat) (a2 : Nat) (a3 : Nat) : badIn u a1 a2 a3 = badIn s a1 a2 a3 := by
  unfold badIn
  simp (disch := decide) only [rd_agree h, fget_agree h, fbit_agree h, h.secs, h.tens, h.badTens, h.pages, h.panels, h.trackers, h.rulesOn, h.live, h.groups, h.tree, h.windows, h.helds, h.masks, h.sideSums, h.coreMap, h.links, h.queues, h.free, h.shp, h.c_owned, h.c_panel, h.c_priv, h.c_pool, h.c_lens, h.c_groups, h.c_keys, h.c_tokens, h.c_error, h.c_len, h.c_at]

theorem badIn_agreeF (h : Agree s u) : badIn u = badIn s := by funext a1 a2 a3; exact badIn_agree h _ _ _

theorem View_badRect_agree (h : Agree s u) (a1 : View) (a2 : Nat) (a3 : Nat) (a4 : Nat) (a5 : Nat) (a6 : Nat) (a7 : Nat) : View.badRect u a1 a2 a3 a4 a5 a6 a7 = View.badRect s a1 a2 a3 a4 a5 a6 a7 := by
  unfold View.badRect
  simp (disch := decide) only [badIn_agreeF h, rd_agree h, fget_agree h, fbit_agree h, h.secs, h.tens, h.badTens, h.pages, h.panels, h.trackers, h.rulesOn, h.live, h.groups, h.tree, h.windows, h.helds, h.masks, h.sideSums, h.coreMap, h.links, h.queues, h.free, h.shp, h.c_owned, h.c_panel, h.c_priv, h.c_pool, h.c_lens, h.c_groups, h.c_keys, h.c_tokens, h.c_error, h.c_len, h.c_at]

theorem View_badRect_agreeF (h : Agree s u) : View.badRect u = View.badRect s := by funext a1 a2 a3 a4 a5 a6 a7; exact View_badRect_agree h _ _ _ _ _ _ _

theorem badVectors_agree (h : Agree s u) (a1 : View) (a2 : Bool) (a3 : Nat) (a4 : Nat) (a5 : Nat) (a6 : Nat) (a7 : Nat) (a8 : Nat) : badVectors u a1 a2 a3 a4 a5 a6 a7 a8 = badVectors s a1 a2 a3 a4 a5 a6 a7 a8 := by
  unfold badVectors
  simp (disch := decide) only [View_badRect_agreeF h, rd_agree h, fget_agree h, fbit_agree h, h.secs, h.tens, h.badTens, h.pages, h.panels, h.trackers, h.rulesOn, h.live, h.groups, h.tree, h.windows, h.helds, h.masks, h.sideSums, h.coreMap, h.links, h.queues, h.free, h.shp, h.c_owned, h.c_panel, h.c_priv, h.c_pool, h.c_lens, h.c_groups, h.c_keys, h.c_tokens, h.c_error, h.c_len, h.c_at]

theorem badVectors_agreeF (h : Agree s u) : badVectors u = badVectors s := by funext a1 a2 a3 a4 a5 a6 a7 a8; exact badVectors_agree h _ _ _ _ _ _ _ _

theorem unitBad_agree (h : Agree s u) (a1 : Flight) (a2 : Spot) : unitBad u a1 a2 = unitBad s a1 a2 := by
  unfold unitBad
  simp (disch := decide) only [operandView_agreeF h, foldB_agreeF h, badVectors_agreeF h, redA_agreeF h, redB_agreeF h, kEnd_agreeF h, rd_agree h, fget_agree h, fbit_agree h, h.secs, h.tens, h.badTens, h.pages, h.panels, h.trackers, h.rulesOn, h.live, h.groups, h.tree, h.windows, h.helds, h.masks, h.sideSums, h.coreMap, h.links, h.queues, h.free, h.shp, h.c_owned, h.c_panel, h.c_priv, h.c_pool, h.c_lens, h.c_groups, h.c_keys, h.c_tokens, h.c_error, h.c_len, h.c_at]

theorem unitBad_agreeF (h : Agree s u) : unitBad u = unitBad s := by funext a1 a2; exact unitBad_agree h _ _

theorem spotOf_agree (h : Agree s u) (a1 : Flight) (a2 : Nat) : spotOf u a1 a2 = spotOf s a1 a2 := by
  unfold spotOf
  simp (disch := decide) only [descOf_agreeF h, rd_agree h, fget_agree h, fbit_agree h, h.secs, h.tens, h.badTens, h.pages, h.panels, h.trackers, h.rulesOn, h.live, h.groups, h.tree, h.windows, h.helds, h.masks, h.sideSums, h.coreMap, h.links, h.queues, h.free, h.shp, h.c_owned, h.c_panel, h.c_priv, h.c_pool, h.c_lens, h.c_groups, h.c_keys, h.c_tokens, h.c_error, h.c_len, h.c_at]

theorem spotOf_agreeF (h : Agree s u) : spotOf u = spotOf s := by funext a1 a2; exact spotOf_agree h _ _

theorem derivCode_agree (h : Agree s u) (a1 : Nat) (a2 : List Byte) : derivCode u a1 a2 = derivCode s a1 a2 := by
  unfold derivCode
  simp (disch := decide) only [layerAt_agreeF h, rd_agree h, fget_agree h, fbit_agree h, h.secs, h.tens, h.badTens, h.pages, h.panels, h.trackers, h.rulesOn, h.live, h.groups, h.tree, h.windows, h.helds, h.masks, h.sideSums, h.coreMap, h.links, h.queues, h.free, h.shp, h.c_owned, h.c_panel, h.c_priv, h.c_pool, h.c_lens, h.c_groups, h.c_keys, h.c_tokens, h.c_error, h.c_len, h.c_at]

theorem derivCode_agreeF (h : Agree s u) : derivCode u = derivCode s := by funext a1 a2; exact derivCode_agree h _ _

theorem drainBad_agree (h : Agree s u) (a1 : Flight) (a2 : Spot) : drainBad u a1 a2 = drainBad s a1 a2 := by
  unfold drainBad
  simp (disch := decide) only [descOf_agreeF h, View_badRect_agreeF h, operandView_agreeF h, badIn_agreeF h, readBase_agreeF h, bankLayout_agreeF h, foldB_agreeF h, derivCode_agreeF h, rd_agree h, fget_agree h, fbit_agree h, h.secs, h.tens, h.badTens, h.pages, h.panels, h.trackers, h.rulesOn, h.live, h.groups, h.tree, h.windows, h.helds, h.masks, h.sideSums, h.coreMap, h.links, h.queues, h.free, h.shp, h.c_owned, h.c_panel, h.c_priv, h.c_pool, h.c_lens, h.c_groups, h.c_keys, h.c_tokens, h.c_error, h.c_len, h.c_at]

theorem drainBad_agreeF (h : Agree s u) : drainBad u = drainBad s := by funext a1 a2; exact drainBad_agree h _ _

theorem sigmaAt_agree (h : Agree s u) (a1 : Flight) (a2 : Nat) : sigmaAt u a1 a2 = sigmaAt s a1 a2 := by
  unfold sigmaAt
  simp (disch := decide) only [descOf_agreeF h, State_tRead_agreeF h, readBase_agreeF h, bankLayout_agreeF h, paramAt_agreeF h, rd_agree h, fget_agree h, fbit_agree h, h.secs, h.tens, h.badTens, h.pages, h.panels, h.trackers, h.rulesOn, h.live, h.groups, h.tree, h.windows, h.helds, h.masks, h.sideSums, h.coreMap, h.links, h.queues, h.free, h.shp, h.c_owned, h.c_panel, h.c_priv, h.c_pool, h.c_lens, h.c_groups, h.c_keys, h.c_tokens, h.c_error, h.c_len, h.c_at]

theorem sigmaAt_agreeF (h : Agree s u) : sigmaAt u = sigmaAt s := by funext a1 a2; exact sigmaAt_agree h _ _

theorem drainG_agree (h : Agree s u) (a1 : Flight) (a2 : Spot) (a3 : List (List Word)) : drainG u a1 a2 a3 = drainG s a1 a2 a3 := by
  unfold drainG
  simp (disch := decide) only [operandView_agreeF h, foldB_agreeF h, sigmaAt_agreeF h, View_get_agreeF h, rd_agree h, fget_agree h, fbit_agree h, h.secs, h.tens, h.badTens, h.pages, h.panels, h.trackers, h.rulesOn, h.live, h.groups, h.tree, h.windows, h.helds, h.masks, h.sideSums, h.coreMap, h.links, h.queues, h.free, h.shp, h.c_owned, h.c_panel, h.c_priv, h.c_pool, h.c_lens, h.c_groups, h.c_keys, h.c_tokens, h.c_error, h.c_len, h.c_at]

theorem drainG_agreeF (h : Agree s u) : drainG u = drainG s := by funext a1 a2 a3; exact drainG_agree h _ _ _

theorem State_panel_agree (h : Agree s u) (a1 : Nat) : State.panel u a1 = State.panel s a1 := by
  unfold State.panel
  simp (disch := decide) only [rd_agree h, fget_agree h, fbit_agree h, h.secs, h.tens, h.badTens, h.pages, h.panels, h.trackers, h.rulesOn, h.live, h.groups, h.tree, h.windows, h.helds, h.masks, h.sideSums, h.coreMap, h.links, h.queues, h.free, h.shp, h.c_owned, h.c_panel, h.c_priv, h.c_pool, h.c_lens, h.c_groups, h.c_keys, h.c_tokens, h.c_error, h.c_len, h.c_at]

theorem State_panel_agreeF (h : Agree s u) : State.panel u = State.panel s := by funext a1; exact State_panel_agree h _

theorem drainOf_agree (h : Agree s u) (a1 : Flight) (a2 : Spot) (a3 : List (List Word)) : drainOf u a1 a2 a3 = drainOf s a1 a2 a3 := by
  unfold drainOf
  simp (disch := decide) only [derivCode_agreeF h, operandView_agreeF h, descOf_agreeF h, State_panel_agreeF h, View_get_agreeF h, rd_agree h, fget_agree h, fbit_agree h, h.secs, h.tens, h.badTens, h.pages, h.panels, h.trackers, h.rulesOn, h.live, h.groups, h.tree, h.windows, h.helds, h.masks, h.sideSums, h.coreMap, h.links, h.queues, h.free, h.shp, h.c_owned, h.c_panel, h.c_priv, h.c_pool, h.c_lens, h.c_groups, h.c_keys, h.c_tokens, h.c_error, h.c_len, h.c_at]

theorem drainOf_agreeF (h : Agree s u) : drainOf u = drainOf s := by funext a1 a2 a3; exact drainOf_agree h _ _ _

theorem outputTile_agree (h : Agree s u) (a1 : Flight) (a2 : Spot) (a3 : List (List Word)) : outputTile u a1 a2 a3 = outputTile s a1 a2 a3 := by
  unfold outputTile
  simp (disch := decide) only [descOf_agreeF h, convertRect_agreeF h, rd_agree h, fget_agree h, fbit_agree h, h.secs, h.tens, h.badTens, h.pages, h.panels, h.trackers, h.rulesOn, h.live, h.groups, h.tree, h.windows, h.helds, h.masks, h.sideSums, h.coreMap, h.links, h.queues, h.free, h.shp, h.c_owned, h.c_panel, h.c_priv, h.c_pool, h.c_lens, h.c_groups, h.c_keys, h.c_tokens, h.c_error, h.c_len, h.c_at]

theorem outputTile_agreeF (h : Agree s u) : outputTile u = outputTile s := by funext a1 a2 a3; exact outputTile_agree h _ _ _

theorem sideTdx_agree (h : Agree s u) (a1 : Flight) (a2 : Spot) (a3 : List (List Word)) : sideTdx u a1 a2 a3 = sideTdx s a1 a2 a3 := by
  unfold sideTdx
  simp (disch := decide) only [descOf_agreeF h, readBase_agreeF h, zeroPoint_agreeF h, seedOf_agreeF h, convStep_agreeF h, paramAt_agreeF h, View_get_agreeF h, rd_agree h, fget_agree h, fbit_agree h, h.secs, h.tens, h.badTens, h.pages, h.panels, h.trackers, h.rulesOn, h.live, h.groups, h.tree, h.windows, h.helds, h.masks, h.sideSums, h.coreMap, h.links, h.queues, h.free, h.shp, h.c_owned, h.c_panel, h.c_priv, h.c_pool, h.c_lens, h.c_groups, h.c_keys, h.c_tokens, h.c_error, h.c_len, h.c_at]

theorem sideTdx_agreeF (h : Agree s u) : sideTdx u = sideTdx s := by funext a1 a2 a3; exact sideTdx_agree h _ _ _

theorem sideTdw_agree (h : Agree s u) (a1 : Flight) (a2 : Spot) (a3 : List (List Word)) : sideTdw u a1 a2 a3 = sideTdw s a1 a2 a3 := by
  unfold sideTdw
  simp (disch := decide) only [descOf_agreeF h, readBase_agreeF h, View_get_agreeF h, rd_agree h, fget_agree h, fbit_agree h, h.secs, h.tens, h.badTens, h.pages, h.panels, h.trackers, h.rulesOn, h.live, h.groups, h.tree, h.windows, h.helds, h.masks, h.sideSums, h.coreMap, h.links, h.queues, h.free, h.shp, h.c_owned, h.c_panel, h.c_priv, h.c_pool, h.c_lens, h.c_groups, h.c_keys, h.c_tokens, h.c_error, h.c_len, h.c_at]

theorem sideTdw_agreeF (h : Agree s u) : sideTdw u = sideTdw s := by funext a1 a2 a3; exact sideTdw_agree h _ _ _

theorem pageOf_agree (h : Agree s u) (a1 : Nat) (a2 : Nat) : pageOf u a1 a2 = pageOf s a1 a2 := by
  unfold pageOf
  simp (disch := decide) only [rd_agree h, fget_agree h, fbit_agree h, h.secs, h.tens, h.badTens, h.pages, h.panels, h.trackers, h.rulesOn, h.live, h.groups, h.tree, h.windows, h.helds, h.masks, h.sideSums, h.coreMap, h.links, h.queues, h.free, h.shp, h.c_owned, h.c_panel, h.c_priv, h.c_pool, h.c_lens, h.c_groups, h.c_keys, h.c_tokens, h.c_error, h.c_len, h.c_at]

theorem pageOf_agreeF (h : Agree s u) : pageOf u = pageOf s := by funext a1 a2; exact pageOf_agree h _ _

theorem State_entryOf_agree (h : Agree s u) (a1 : Nat) : State.entryOf u a1 = State.entryOf s a1 := by
  unfold State.entryOf
  simp (disch := decide) only [State_secsOf_agreeF h, rd_agree h, fget_agree h, fbit_agree h, h.secs, h.tens, h.badTens, h.pages, h.panels, h.trackers, h.rulesOn, h.live, h.groups, h.tree, h.windows, h.helds, h.masks, h.sideSums, h.coreMap, h.links, h.queues, h.free, h.shp, h.c_owned, h.c_panel, h.c_priv, h.c_pool, h.c_lens, h.c_groups, h.c_keys, h.c_tokens, h.c_error, h.c_len, h.c_at]

theorem State_entryOf_agreeF (h : Agree s u) : State.entryOf u = State.entryOf s := by funext a1; exact State_entryOf_agree h _

theorem shareOf_agree (h : Agree s u) (a1 : Nat) (a2 : Nat) : shareOf u a1 a2 = shareOf s a1 a2 := by
  unfold shareOf
  simp (disch := decide) only [State_entryOf_agreeF h, rd_agree h, fget_agree h, fbit_agree h, h.secs, h.tens, h.badTens, h.pages, h.panels, h.trackers, h.rulesOn, h.live, h.groups, h.tree, h.windows, h.helds, h.masks, h.sideSums, h.coreMap, h.links, h.queues, h.free, h.shp, h.c_owned, h.c_panel, h.c_priv, h.c_pool, h.c_lens, h.c_groups, h.c_keys, h.c_tokens, h.c_error, h.c_len, h.c_at]

theorem shareOf_agreeF (h : Agree s u) : shareOf u = shareOf s := by funext a1 a2; exact shareOf_agree h _ _

theorem feltsOf_agree (h : Agree s u) (a1 : Nat) : feltsOf u a1 = feltsOf s a1 := by
  unfold feltsOf
  simp (disch := decide) only [shareOf_agreeF h, State_desc_agreeF h, rd_agree h, fget_agree h, fbit_agree h, h.secs, h.tens, h.badTens, h.pages, h.panels, h.trackers, h.rulesOn, h.live, h.groups, h.tree, h.windows, h.helds, h.masks, h.sideSums, h.coreMap, h.links, h.queues, h.free, h.shp, h.c_owned, h.c_panel, h.c_priv, h.c_pool, h.c_lens, h.c_groups, h.c_keys, h.c_tokens, h.c_error, h.c_len, h.c_at]

theorem feltsOf_agreeF (h : Agree s u) : feltsOf u = feltsOf s := by funext a1; exact feltsOf_agree h _

theorem feltAt_agree (h : Agree s u) (a1 : Nat) (a2 : Nat) : feltAt u a1 a2 = feltAt s a1 a2 := by
  unfold feltAt
  simp (disch := decide) only [pageOf_agreeF h, feltsOf_agreeF h, rd_agree h, fget_agree h, fbit_agree h, h.secs, h.tens, h.badTens, h.pages, h.panels, h.trackers, h.rulesOn, h.live, h.groups, h.tree, h.windows, h.helds, h.masks, h.sideSums, h.coreMap, h.links, h.queues, h.free, h.shp, h.c_owned, h.c_panel, h.c_priv, h.c_pool, h.c_lens, h.c_groups, h.c_keys, h.c_tokens, h.c_error, h.c_len, h.c_at]

theorem feltAt_agreeF (h : Agree s u) : feltAt u = feltAt s := by funext a1 a2; exact feltAt_agree h _ _

theorem tileFelt_agree (h : Agree s u) (a1 : Nat) (a2 : Nat) (a3 : Nat) : tileFelt u a1 a2 a3 = tileFelt s a1 a2 a3 := by
  unfold tileFelt
  simp (disch := decide) only [State_desc_agreeF h, bankLayout_agreeF h, feltAt_agreeF h, readBase_agreeF h, ruleOf_agreeF h, rd_agree h, fget_agree h, fbit_agree h, h.secs, h.tens, h.badTens, h.pages, h.panels, h.trackers, h.rulesOn, h.live, h.groups, h.tree, h.windows, h.helds, h.masks, h.sideSums, h.coreMap, h.links, h.queues, h.free, h.shp, h.c_owned, h.c_panel, h.c_priv, h.c_pool, h.c_lens, h.c_groups, h.c_keys, h.c_tokens, h.c_error, h.c_len, h.c_at]

theorem tileFelt_agreeF (h : Agree s u) : tileFelt u = tileFelt s := by funext a1 a2 a3; exact tileFelt_agree h _ _ _

theorem convertFormatBad_agree (h : Agree s u) (a1 : List Byte) : convertFormatBad u a1 = convertFormatBad s a1 := by
  unfold convertFormatBad
  simp (disch := decide) only [descOf_agreeF h, rd_agree h, fget_agree h, fbit_agree h, h.secs, h.tens, h.badTens, h.pages, h.panels, h.trackers, h.rulesOn, h.live, h.groups, h.tree, h.windows, h.helds, h.masks, h.sideSums, h.coreMap, h.links, h.queues, h.free, h.shp, h.c_owned, h.c_panel, h.c_priv, h.c_pool, h.c_lens, h.c_groups, h.c_keys, h.c_tokens, h.c_error, h.c_len, h.c_at]

theorem convertFormatBad_agreeF (h : Agree s u) : convertFormatBad u = convertFormatBad s := by funext a1; exact convertFormatBad_agree h _

theorem State_logicals_agree (h : Agree s u) (a1 : Nat) : State.logicals u a1 = State.logicals s a1 := by
  unfold State.logicals
  simp (disch := decide) only [State_secsOf_agreeF h, rd_agree h, fget_agree h, fbit_agree h, h.secs, h.tens, h.badTens, h.pages, h.panels, h.trackers, h.rulesOn, h.live, h.groups, h.tree, h.windows, h.helds, h.masks, h.sideSums, h.coreMap, h.links, h.queues, h.free, h.shp, h.c_owned, h.c_panel, h.c_priv, h.c_pool, h.c_lens, h.c_groups, h.c_keys, h.c_tokens, h.c_error, h.c_len, h.c_at]

theorem State_logicals_agreeF (h : Agree s u) : State.logicals u = State.logicals s := by funext a1; exact State_logicals_agree h _

theorem productField_agree (h : Agree s u) (a1 : Nat) (a2 : List Byte) : productField u a1 a2 = productField s a1 a2 := by
  unfold productField
  simp (disch := decide) only [State_desc_agreeF h, productPlan_agreeF h, State_logicals_agreeF h, rd_agree h, fget_agree h, fbit_agree h, h.secs, h.tens, h.badTens, h.pages, h.panels, h.trackers, h.rulesOn, h.live, h.groups, h.tree, h.windows, h.helds, h.masks, h.sideSums, h.coreMap, h.links, h.queues, h.free, h.shp, h.c_owned, h.c_panel, h.c_priv, h.c_pool, h.c_lens, h.c_groups, h.c_keys, h.c_tokens, h.c_error, h.c_len, h.c_at]

theorem productField_agreeF (h : Agree s u) : productField u = productField s := by funext a1 a2; exact productField_agree h _ _

theorem productNeeds_agree (h : Agree s u) (a1 : Nat) (a2 : List Byte) : productNeeds u a1 a2 = productNeeds s a1 a2 := by
  unfold productNeeds
  simp (disch := decide) only [descOf_agreeF h, derivCode_agreeF h, rd_agree h, fget_agree h, fbit_agree h, h.secs, h.tens, h.badTens, h.pages, h.panels, h.trackers, h.rulesOn, h.live, h.groups, h.tree, h.windows, h.helds, h.masks, h.sideSums, h.coreMap, h.links, h.queues, h.free, h.shp, h.c_owned, h.c_panel, h.c_priv, h.c_pool, h.c_lens, h.c_groups, h.c_keys, h.c_tokens, h.c_error, h.c_len, h.c_at]

theorem productNeeds_agreeF (h : Agree s u) : productNeeds u = productNeeds s := by funext a1 a2; exact productNeeds_agree h _ _

theorem windowPlan_agree (h : Agree s u) (a1 : Desc) : windowPlan u a1 = windowPlan s a1 := by
  unfold windowPlan
  simp (disch := decide) only [State_desc_agreeF h, rd_agree h, fget_agree h, fbit_agree h, h.secs, h.tens, h.badTens, h.pages, h.panels, h.trackers, h.rulesOn, h.live, h.groups, h.tree, h.windows, h.helds, h.masks, h.sideSums, h.coreMap, h.links, h.queues, h.free, h.shp, h.c_owned, h.c_panel, h.c_priv, h.c_pool, h.c_lens, h.c_groups, h.c_keys, h.c_tokens, h.c_error, h.c_len, h.c_at]

theorem windowPlan_agreeF (h : Agree s u) : windowPlan u = windowPlan s := by funext a1; exact windowPlan_agree h _

theorem shapeBad_agree (h : Agree s u) (a1 : List Byte) : shapeBad u a1 = shapeBad s a1 := by
  unfold shapeBad
  simp (disch := decide) only [descOf_agreeF h, windowPlan_agreeF h, rd_agree h, fget_agree h, fbit_agree h, h.secs, h.tens, h.badTens, h.pages, h.panels, h.trackers, h.rulesOn, h.live, h.groups, h.tree, h.windows, h.helds, h.masks, h.sideSums, h.coreMap, h.links, h.queues, h.free, h.shp, h.c_owned, h.c_panel, h.c_priv, h.c_pool, h.c_lens, h.c_groups, h.c_keys, h.c_tokens, h.c_error, h.c_len, h.c_at]

theorem shapeBad_agreeF (h : Agree s u) : shapeBad u = shapeBad s := by funext a1; exact shapeBad_agree h _

theorem productFormatBad_agree (h : Agree s u) (a1 : Nat) (a2 : List Byte) : productFormatBad u a1 a2 = productFormatBad s a1 a2 := by
  unfold productFormatBad
  simp (disch := decide) only [descOf_agreeF h, derivCode_agreeF h, rd_agree h, fget_agree h, fbit_agree h, h.secs, h.tens, h.badTens, h.pages, h.panels, h.trackers, h.rulesOn, h.live, h.groups, h.tree, h.windows, h.helds, h.masks, h.sideSums, h.coreMap, h.links, h.queues, h.free, h.shp, h.c_owned, h.c_panel, h.c_priv, h.c_pool, h.c_lens, h.c_groups, h.c_keys, h.c_tokens, h.c_error, h.c_len, h.c_at]

theorem productFormatBad_agreeF (h : Agree s u) : productFormatBad u = productFormatBad s := by funext a1 a2; exact productFormatBad_agree h _ _

theorem twillBad_agree (h : Agree s u) (a1 : List Byte) : twillBad u a1 = twillBad s a1 := by
  unfold twillBad
  simp (disch := decide) only [descOf_agreeF h, rd_agree h, fget_agree h, fbit_agree h, h.secs, h.tens, h.badTens, h.pages, h.panels, h.trackers, h.rulesOn, h.live, h.groups, h.tree, h.windows, h.helds, h.masks, h.sideSums, h.coreMap, h.links, h.queues, h.free, h.shp, h.c_owned, h.c_panel, h.c_priv, h.c_pool, h.c_lens, h.c_groups, h.c_keys, h.c_tokens, h.c_error, h.c_len, h.c_at]

theorem twillBad_agreeF (h : Agree s u) : twillBad u = twillBad s := by funext a1; exact twillBad_agree h _

theorem wgradBad_agree (h : Agree s u) (a1 : List Byte) : wgradBad u a1 = wgradBad s a1 := by
  unfold wgradBad
  simp (disch := decide) only [descOf_agreeF h, rd_agree h, fget_agree h, fbit_agree h, h.secs, h.tens, h.badTens, h.pages, h.panels, h.trackers, h.rulesOn, h.live, h.groups, h.tree, h.windows, h.helds, h.masks, h.sideSums, h.coreMap, h.links, h.queues, h.free, h.shp, h.c_owned, h.c_panel, h.c_priv, h.c_pool, h.c_lens, h.c_groups, h.c_keys, h.c_tokens, h.c_error, h.c_len, h.c_at]

theorem wgradBad_agreeF (h : Agree s u) : wgradBad u = wgradBad s := by funext a1; exact wgradBad_agree h _

theorem productCheck_agree (h : Agree s u) (a1 : Nat) (a2 : List Byte) : productCheck u a1 a2 = productCheck s a1 a2 := by
  unfold productCheck
  simp (disch := decide) only [shapeBad_agreeF h, productFormatBad_agreeF h, twillBad_agreeF h, derivCode_agreeF h, State_panel_agreeF h, wgradBad_agreeF h, rd_agree h, fget_agree h, fbit_agree h, h.secs, h.tens, h.badTens, h.pages, h.panels, h.trackers, h.rulesOn, h.live, h.groups, h.tree, h.windows, h.helds, h.masks, h.sideSums, h.coreMap, h.links, h.queues, h.free, h.shp, h.c_owned, h.c_panel, h.c_priv, h.c_pool, h.c_lens, h.c_groups, h.c_keys, h.c_tokens, h.c_error, h.c_len, h.c_at]

theorem productCheck_agreeF (h : Agree s u) : productCheck u = productCheck s := by funext a1 a2; exact productCheck_agree h _ _

theorem regionPlan_agree (h : Agree s u) (a1 : Desc) : regionPlan u a1 = regionPlan s a1 := by
  unfold regionPlan
  simp (disch := decide) only [rd_agree h, fget_agree h, fbit_agree h, h.secs, h.tens, h.badTens, h.pages, h.panels, h.trackers, h.rulesOn, h.live, h.groups, h.tree, h.windows, h.helds, h.masks, h.sideSums, h.coreMap, h.links, h.queues, h.free, h.shp, h.c_owned, h.c_panel, h.c_priv, h.c_pool, h.c_lens, h.c_groups, h.c_keys, h.c_tokens, h.c_error, h.c_len, h.c_at]

theorem regionPlan_agreeF (h : Agree s u) : regionPlan u = regionPlan s := by funext a1; exact regionPlan_agree h _

theorem regionField_agree (h : Agree s u) (a1 : List Byte) : regionField u a1 = regionField s a1 := by
  unfold regionField
  simp (disch := decide) only [State_desc_agreeF h, regionPlan_agreeF h, descOf_agreeF h, rd_agree h, fget_agree h, fbit_agree h, h.secs, h.tens, h.badTens, h.pages, h.panels, h.trackers, h.rulesOn, h.live, h.groups, h.tree, h.windows, h.helds, h.masks, h.sideSums, h.coreMap, h.links, h.queues, h.free, h.shp, h.c_owned, h.c_panel, h.c_priv, h.c_pool, h.c_lens, h.c_groups, h.c_keys, h.c_tokens, h.c_error, h.c_len, h.c_at]

theorem regionField_agreeF (h : Agree s u) : regionField u = regionField s := by funext a1; exact regionField_agree h _

theorem learnedNeeds_agree (h : Agree s u) (a1 : List Nat) : learnedNeeds u a1 = learnedNeeds s a1 := by
  unfold learnedNeeds
  simp (disch := decide) only [descOf_agreeF h, rd_agree h, fget_agree h, fbit_agree h, h.secs, h.tens, h.badTens, h.pages, h.panels, h.trackers, h.rulesOn, h.live, h.groups, h.tree, h.windows, h.helds, h.masks, h.sideSums, h.coreMap, h.links, h.queues, h.free, h.shp, h.c_owned, h.c_panel, h.c_priv, h.c_pool, h.c_lens, h.c_groups, h.c_keys, h.c_tokens, h.c_error, h.c_len, h.c_at]

theorem learnedNeeds_agreeF (h : Agree s u) : learnedNeeds u = learnedNeeds s := by funext a1; exact learnedNeeds_agree h _

theorem regionPlanned_agree (h : Agree s u) (a1 : Nat) (a2 : List Byte) : regionPlanned u a1 a2 = regionPlanned s a1 a2 := by
  unfold regionPlanned
  simp (disch := decide) only [descOf_agreeF h, rd_agree h, fget_agree h, fbit_agree h, h.secs, h.tens, h.badTens, h.pages, h.panels, h.trackers, h.rulesOn, h.live, h.groups, h.tree, h.windows, h.helds, h.masks, h.sideSums, h.coreMap, h.links, h.queues, h.free, h.shp, h.c_owned, h.c_panel, h.c_priv, h.c_pool, h.c_lens, h.c_groups, h.c_keys, h.c_tokens, h.c_error, h.c_len, h.c_at]

theorem regionPlanned_agreeF (h : Agree s u) : regionPlanned u = regionPlanned s := by funext a1 a2; exact regionPlanned_agree h _ _

theorem gatherBad_agree (h : Agree s u) (a1 : List Byte) : gatherBad u a1 = gatherBad s a1 := by
  unfold gatherBad
  simp (disch := decide) only [descOf_agreeF h, rd_agree h, fget_agree h, fbit_agree h, h.secs, h.tens, h.badTens, h.pages, h.panels, h.trackers, h.rulesOn, h.live, h.groups, h.tree, h.windows, h.helds, h.masks, h.sideSums, h.coreMap, h.links, h.queues, h.free, h.shp, h.c_owned, h.c_panel, h.c_priv, h.c_pool, h.c_lens, h.c_groups, h.c_keys, h.c_tokens, h.c_error, h.c_len, h.c_at]

theorem gatherBad_agreeF (h : Agree s u) : gatherBad u = gatherBad s := by funext a1; exact gatherBad_agree h _

theorem attCheck_agree (h : Agree s u) (a1 : Nat) (a2 : List Byte) : attCheck u a1 a2 = attCheck s a1 a2 := by
  unfold attCheck
  simp (disch := decide) only [descOf_agreeF h, isPool_agreeF h, rd_agree h, fget_agree h, fbit_agree h, h.secs, h.tens, h.badTens, h.pages, h.panels, h.trackers, h.rulesOn, h.live, h.groups, h.tree, h.windows, h.helds, h.masks, h.sideSums, h.coreMap, h.links, h.queues, h.free, h.shp, h.c_owned, h.c_panel, h.c_priv, h.c_pool, h.c_lens, h.c_groups, h.c_keys, h.c_tokens, h.c_error, h.c_len, h.c_at]

theorem attCheck_agreeF (h : Agree s u) : attCheck u = attCheck s := by funext a1 a2; exact attCheck_agree h _ _

theorem attPlan_agree (h : Agree s u) (a1 : Nat) (a2 : List Byte) : attPlan u a1 a2 = attPlan s a1 a2 := by
  unfold attPlan
  simp (disch := decide) only [descOf_agreeF h, rd_agree h, fget_agree h, fbit_agree h, h.secs, h.tens, h.badTens, h.pages, h.panels, h.trackers, h.rulesOn, h.live, h.groups, h.tree, h.windows, h.helds, h.masks, h.sideSums, h.coreMap, h.links, h.queues, h.free, h.shp, h.c_owned, h.c_panel, h.c_priv, h.c_pool, h.c_lens, h.c_groups, h.c_keys, h.c_tokens, h.c_error, h.c_len, h.c_at]

theorem attPlan_agreeF (h : Agree s u) : attPlan u = attPlan s := by funext a1 a2; exact attPlan_agree h _ _

theorem maskBad_agree (h : Agree s u) (a1 : Bool) (a2 : Layer) (a3 : Nat) (a4 : Nat) : maskBad u a1 a2 a3 a4 = maskBad s a1 a2 a3 a4 := by
  unfold maskBad
  simp (disch := decide) only [State_desc_agreeF h, rd_agree h, fget_agree h, fbit_agree h, h.secs, h.tens, h.badTens, h.pages, h.panels, h.trackers, h.rulesOn, h.live, h.groups, h.tree, h.windows, h.helds, h.masks, h.sideSums, h.coreMap, h.links, h.queues, h.free, h.shp, h.c_owned, h.c_panel, h.c_priv, h.c_pool, h.c_lens, h.c_groups, h.c_keys, h.c_tokens, h.c_error, h.c_len, h.c_at]

theorem maskBad_agreeF (h : Agree s u) : maskBad u = maskBad s := by funext a1 a2 a3 a4; exact maskBad_agree h _ _ _ _

theorem layerOf_agree (h : Agree s u) (a1 : Nat) (a2 : List Byte) : layerOf u a1 a2 = layerOf s a1 a2 := by
  unfold layerOf
  simp (disch := decide) only [layerAt_agreeF h, rd_agree h, fget_agree h, fbit_agree h, h.secs, h.tens, h.badTens, h.pages, h.panels, h.trackers, h.rulesOn, h.live, h.groups, h.tree, h.windows, h.helds, h.masks, h.sideSums, h.coreMap, h.links, h.queues, h.free, h.shp, h.c_owned, h.c_panel, h.c_priv, h.c_pool, h.c_lens, h.c_groups, h.c_keys, h.c_tokens, h.c_error, h.c_len, h.c_at]

theorem layerOf_agreeF (h : Agree s u) : layerOf u = layerOf s := by funext a1 a2; exact layerOf_agree h _ _

theorem ownsChan_agree (h : Agree s u) (a1 : Nat) (a2 : Nat) : ownsChan u a1 a2 = ownsChan s a1 a2 := by
  unfold ownsChan
  simp (disch := decide) only [rd_agree h, fget_agree h, fbit_agree h, h.secs, h.tens, h.badTens, h.pages, h.panels, h.trackers, h.rulesOn, h.live, h.groups, h.tree, h.windows, h.helds, h.masks, h.sideSums, h.coreMap, h.links, h.queues, h.free, h.shp, h.c_owned, h.c_panel, h.c_priv, h.c_pool, h.c_lens, h.c_groups, h.c_keys, h.c_tokens, h.c_error, h.c_len, h.c_at]

theorem ownsChan_agreeF (h : Agree s u) : ownsChan u = ownsChan s := by funext a1 a2; exact ownsChan_agree h _ _

theorem chansOk_agree (h : Agree s u) (a1 : Nat) (a2 : Nat) (a3 : Nat) : chansOk u a1 a2 a3 = chansOk s a1 a2 a3 := by
  unfold chansOk
  simp (disch := decide) only [ownsChan_agreeF h, rd_agree h, fget_agree h, fbit_agree h, h.secs, h.tens, h.badTens, h.pages, h.panels, h.trackers, h.rulesOn, h.live, h.groups, h.tree, h.windows, h.helds, h.masks, h.sideSums, h.coreMap, h.links, h.queues, h.free, h.shp, h.c_owned, h.c_panel, h.c_priv, h.c_pool, h.c_lens, h.c_groups, h.c_keys, h.c_tokens, h.c_error, h.c_len, h.c_at]

theorem chansOk_agreeF (h : Agree s u) : chansOk u = chansOk s := by funext a1 a2 a3; exact chansOk_agree h _ _ _

theorem attLate_agree (h : Agree s u) (a1 : Nat) (a2 : Nat) (a3 : List Byte) (a4 : List Nat) : attLate u a1 a2 a3 a4 = attLate s a1 a2 a3 a4 := by
  unfold attLate
  simp (disch := decide) only [descOf_agreeF h, maskBad_agreeF h, isPool_agreeF h, layerOf_agreeF h, chansOk_agreeF h, rd_agree h, fget_agree h, fbit_agree h, h.secs, h.tens, h.badTens, h.pages, h.panels, h.trackers, h.rulesOn, h.live, h.groups, h.tree, h.windows, h.helds, h.masks, h.sideSums, h.coreMap, h.links, h.queues, h.free, h.shp, h.c_owned, h.c_panel, h.c_priv, h.c_pool, h.c_lens, h.c_groups, h.c_keys, h.c_tokens, h.c_error, h.c_len, h.c_at]

theorem attLate_agreeF (h : Agree s u) : attLate u = attLate s := by funext a1 a2 a3 a4; exact attLate_agree h _ _ _ _

theorem bwCheck_agree (h : Agree s u) (a0 : Nat) (a2 : Nat) (a3 : List Byte) : bwCheck a0 u a2 a3 = bwCheck a0 s a2 a3 := by
  unfold bwCheck
  simp (disch := decide) only [descOf_agreeF h, isPool_agreeF h, rd_agree h, fget_agree h, fbit_agree h, h.secs, h.tens, h.badTens, h.pages, h.panels, h.trackers, h.rulesOn, h.live, h.groups, h.tree, h.windows, h.helds, h.masks, h.sideSums, h.coreMap, h.links, h.queues, h.free, h.shp, h.c_owned, h.c_panel, h.c_priv, h.c_pool, h.c_lens, h.c_groups, h.c_keys, h.c_tokens, h.c_error, h.c_len, h.c_at]

theorem bwCheck_agreeF (h : Agree s u) (a0 : Nat) : bwCheck a0 u = bwCheck a0 s := by funext a2 a3; exact bwCheck_agree h _ _ _

theorem bwLate_agree (h : Agree s u) (a0 : Nat) (a2 : Nat) (a3 : Nat) (a4 : List Byte) (a5 : List Nat) : bwLate a0 u a2 a3 a4 a5 = bwLate a0 s a2 a3 a4 a5 := by
  unfold bwLate
  simp (disch := decide) only [isPool_agreeF h, maskBad_agreeF h, layerOf_agreeF h, descOf_agreeF h, rd_agree h, fget_agree h, fbit_agree h, h.secs, h.tens, h.badTens, h.pages, h.panels, h.trackers, h.rulesOn, h.live, h.groups, h.tree, h.windows, h.helds, h.masks, h.sideSums, h.coreMap, h.links, h.queues, h.free, h.shp, h.c_owned, h.c_panel, h.c_priv, h.c_pool, h.c_lens, h.c_groups, h.c_keys, h.c_tokens, h.c_error, h.c_len, h.c_at]

theorem bwLate_agreeF (h : Agree s u) (a0 : Nat) : bwLate a0 u = bwLate a0 s := by funext a2 a3 a4 a5; exact bwLate_agree h _ _ _ _ _

theorem bwPlan_agree (h : Agree s u) (a0 : Nat) (a2 : Nat) (a3 : List Byte) : bwPlan a0 u a2 a3 = bwPlan a0 s a2 a3 := by
  unfold bwPlan
  simp (disch := decide) only [descOf_agreeF h, rd_agree h, fget_agree h, fbit_agree h, h.secs, h.tens, h.badTens, h.pages, h.panels, h.trackers, h.rulesOn, h.live, h.groups, h.tree, h.windows, h.helds, h.masks, h.sideSums, h.coreMap, h.links, h.queues, h.free, h.shp, h.c_owned, h.c_panel, h.c_priv, h.c_pool, h.c_lens, h.c_groups, h.c_keys, h.c_tokens, h.c_error, h.c_len, h.c_at]

theorem bwPlan_agreeF (h : Agree s u) (a0 : Nat) : bwPlan a0 u = bwPlan a0 s := by funext a2 a3; exact bwPlan_agree h _ _ _

theorem notPool_agree (h : Agree s u) (a1 : List Byte) : notPool u a1 = notPool s a1 := by
  unfold notPool
  simp (disch := decide) only [isPool_agreeF h, rd_agree h, fget_agree h, fbit_agree h, h.secs, h.tens, h.badTens, h.pages, h.panels, h.trackers, h.rulesOn, h.live, h.groups, h.tree, h.windows, h.helds, h.masks, h.sideSums, h.coreMap, h.links, h.queues, h.free, h.shp, h.c_owned, h.c_panel, h.c_priv, h.c_pool, h.c_lens, h.c_groups, h.c_keys, h.c_tokens, h.c_error, h.c_len, h.c_at]

theorem notPool_agreeF (h : Agree s u) : notPool u = notPool s := by funext a1; exact notPool_agree h _

theorem appendCheck_agree (h : Agree s u) (a1 : Nat) (a2 : List Byte) : appendCheck u a1 a2 = appendCheck s a1 a2 := by
  unfold appendCheck
  simp (disch := decide) only [descOf_agreeF h, notPool_agreeF h, isPool_agreeF h, rd_agree h, fget_agree h, fbit_agree h, h.secs, h.tens, h.badTens, h.pages, h.panels, h.trackers, h.rulesOn, h.live, h.groups, h.tree, h.windows, h.helds, h.masks, h.sideSums, h.coreMap, h.links, h.queues, h.free, h.shp, h.c_owned, h.c_panel, h.c_priv, h.c_pool, h.c_lens, h.c_groups, h.c_keys, h.c_tokens, h.c_error, h.c_len, h.c_at]

theorem appendCheck_agreeF (h : Agree s u) : appendCheck u = appendCheck s := by funext a1 a2; exact appendCheck_agree h _ _

theorem lookupCheck_agree (h : Agree s u) (a1 : Nat) (a2 : List Byte) : lookupCheck u a1 a2 = lookupCheck s a1 a2 := by
  unfold lookupCheck
  simp (disch := decide) only [descOf_agreeF h, isPool_agreeF h, rd_agree h, fget_agree h, fbit_agree h, h.secs, h.tens, h.badTens, h.pages, h.panels, h.trackers, h.rulesOn, h.live, h.groups, h.tree, h.windows, h.helds, h.masks, h.sideSums, h.coreMap, h.links, h.queues, h.free, h.shp, h.c_owned, h.c_panel, h.c_priv, h.c_pool, h.c_lens, h.c_groups, h.c_keys, h.c_tokens, h.c_error, h.c_len, h.c_at]

theorem lookupCheck_agreeF (h : Agree s u) : lookupCheck u = lookupCheck s := by funext a1 a2; exact lookupCheck_agree h _ _

theorem State_qstate_agree (h : Agree s u) (a1 : Nat) : State.qstate u a1 = State.qstate s a1 := by
  unfold State.qstate
  simp (disch := decide) only [rd_agree h, fget_agree h, fbit_agree h, h.secs, h.tens, h.badTens, h.pages, h.panels, h.trackers, h.rulesOn, h.live, h.groups, h.tree, h.windows, h.helds, h.masks, h.sideSums, h.coreMap, h.links, h.queues, h.free, h.shp, h.c_owned, h.c_panel, h.c_priv, h.c_pool, h.c_lens, h.c_groups, h.c_keys, h.c_tokens, h.c_error, h.c_len, h.c_at]

theorem State_qstate_agreeF (h : Agree s u) : State.qstate u = State.qstate s := by funext a1; exact State_qstate_agree h _

theorem State_queue_agree (h : Agree s u) (a1 : Nat) : State.queue u a1 = State.queue s a1 := by
  unfold State.queue
  simp (disch := decide) only [rd_agree h, fget_agree h, fbit_agree h, h.secs, h.tens, h.badTens, h.pages, h.panels, h.trackers, h.rulesOn, h.live, h.groups, h.tree, h.windows, h.helds, h.masks, h.sideSums, h.coreMap, h.links, h.queues, h.free, h.shp, h.c_owned, h.c_panel, h.c_priv, h.c_pool, h.c_lens, h.c_groups, h.c_keys, h.c_tokens, h.c_error, h.c_len, h.c_at]

theorem State_queue_agreeF (h : Agree s u) : State.queue u = State.queue s := by funext a1; exact State_queue_agree h _

theorem qFld_agree (h : Agree s u) (a1 : Fld) (a2 : Nat) : qFld u a1 a2 = qFld s a1 a2 := by
  unfold qFld
  simp (disch := decide) only [State_queue_agreeF h, rd_agree h, fget_agree h, fbit_agree h, h.secs, h.tens, h.badTens, h.pages, h.panels, h.trackers, h.rulesOn, h.live, h.groups, h.tree, h.windows, h.helds, h.masks, h.sideSums, h.coreMap, h.links, h.queues, h.free, h.shp, h.c_owned, h.c_panel, h.c_priv, h.c_pool, h.c_lens, h.c_groups, h.c_keys, h.c_tokens, h.c_error, h.c_len, h.c_at]

theorem qFld_agreeF (h : Agree s u) : qFld u = qFld s := by funext a1 a2; exact qFld_agree h _ _

theorem permits_agree (h : Agree s u) (a1 : Nat) (a2 : Producer) : permits u a1 a2 = permits s a1 a2 := by
  unfold permits
  simp (disch := decide) only [qFld_agreeF h, rd_agree h, fget_agree h, fbit_agree h, h.secs, h.tens, h.badTens, h.pages, h.panels, h.trackers, h.rulesOn, h.live, h.groups, h.tree, h.windows, h.helds, h.masks, h.sideSums, h.coreMap, h.links, h.queues, h.free, h.shp, h.c_owned, h.c_panel, h.c_priv, h.c_pool, h.c_lens, h.c_groups, h.c_keys, h.c_tokens, h.c_error, h.c_len, h.c_at]

theorem permits_agreeF (h : Agree s u) : permits u = permits s := by funext a1 a2; exact permits_agree h _ _

theorem consPanel_agree (h : Agree s u) (a1 : Nat) : consPanel u a1 = consPanel s a1 := by
  unfold consPanel
  simp (disch := decide) only [qFld_agreeF h, rd_agree h, fget_agree h, fbit_agree h, h.secs, h.tens, h.badTens, h.pages, h.panels, h.trackers, h.rulesOn, h.live, h.groups, h.tree, h.windows, h.helds, h.masks, h.sideSums, h.coreMap, h.links, h.queues, h.free, h.shp, h.c_owned, h.c_panel, h.c_priv, h.c_pool, h.c_lens, h.c_groups, h.c_keys, h.c_tokens, h.c_error, h.c_len, h.c_at]

theorem consPanel_agreeF (h : Agree s u) : consPanel u = consPanel s := by funext a1; exact consPanel_agree h _

theorem qCap_agree (h : Agree s u) (a1 : Nat) : qCap u a1 = qCap s a1 := by
  unfold qCap
  simp (disch := decide) only [qFld_agreeF h, rd_agree h, fget_agree h, fbit_agree h, h.secs, h.tens, h.badTens, h.pages, h.panels, h.trackers, h.rulesOn, h.live, h.groups, h.tree, h.windows, h.helds, h.masks, h.sideSums, h.coreMap, h.links, h.queues, h.free, h.shp, h.c_owned, h.c_panel, h.c_priv, h.c_pool, h.c_lens, h.c_groups, h.c_keys, h.c_tokens, h.c_error, h.c_len, h.c_at]

theorem qCap_agreeF (h : Agree s u) : qCap u = qCap s := by funext a1; exact qCap_agree h _

theorem qItem_agree (h : Agree s u) (a1 : Nat) : qItem u a1 = qItem s a1 := by
  unfold qItem
  simp (disch := decide) only [qFld_agreeF h, rd_agree h, fget_agree h, fbit_agree h, h.secs, h.tens, h.badTens, h.pages, h.panels, h.trackers, h.rulesOn, h.live, h.groups, h.tree, h.windows, h.helds, h.masks, h.sideSums, h.coreMap, h.links, h.queues, h.free, h.shp, h.c_owned, h.c_panel, h.c_priv, h.c_pool, h.c_lens, h.c_groups, h.c_keys, h.c_tokens, h.c_error, h.c_len, h.c_at]

theorem qItem_agreeF (h : Agree s u) : qItem u = qItem s := by funext a1; exact qItem_agree h _

theorem queueCause_agree (h : Agree s u) (a1 : Nat) (a2 : List Byte) (a3 : Bool) (a4 : Bool) (a5 : Option Nat) : queueCause u a1 a2 a3 a4 a5 = queueCause s a1 a2 a3 a4 a5 := by
  unfold queueCause
  simp (disch := decide) only [State_qstate_agreeF h, permits_agreeF h, consPanel_agreeF h, qCap_agreeF h, State_desc_agreeF h, qItem_agreeF h, rd_agree h, fget_agree h, fbit_agree h, h.secs, h.tens, h.badTens, h.pages, h.panels, h.trackers, h.rulesOn, h.live, h.groups, h.tree, h.windows, h.helds, h.masks, h.sideSums, h.coreMap, h.links, h.queues, h.free, h.shp, h.c_owned, h.c_panel, h.c_priv, h.c_pool, h.c_lens, h.c_groups, h.c_keys, h.c_tokens, h.c_error, h.c_len, h.c_at]

theorem queueCause_agreeF (h : Agree s u) : queueCause u = queueCause s := by funext a1 a2 a3 a4 a5; exact queueCause_agree h _ _ _ _ _

theorem barScope_agree (h : Agree s u) (a1 : Nat) : barScope u a1 = barScope s a1 := by
  unfold barScope
  simp (disch := decide) only [State_secsOf_agreeF h, rd_agree h, fget_agree h, fbit_agree h, h.secs, h.tens, h.badTens, h.pages, h.panels, h.trackers, h.rulesOn, h.live, h.groups, h.tree, h.windows, h.helds, h.masks, h.sideSums, h.coreMap, h.links, h.queues, h.free, h.shp, h.c_owned, h.c_panel, h.c_priv, h.c_pool, h.c_lens, h.c_groups, h.c_keys, h.c_tokens, h.c_error, h.c_len, h.c_at]

theorem barScope_agreeF (h : Agree s u) : barScope u = barScope s := by funext a1; exact barScope_agree h _

theorem appendSrcBad_agree (h : Agree s u) (a1 : Flight) : appendSrcBad u a1 = appendSrcBad s a1 := by
  unfold appendSrcBad
  simp (disch := decide) only [View_badRect_agreeF h, plainView_agreeF h, descOf_agreeF h, rd_agree h, fget_agree h, fbit_agree h, h.secs, h.tens, h.badTens, h.pages, h.panels, h.trackers, h.rulesOn, h.live, h.groups, h.tree, h.windows, h.helds, h.masks, h.sideSums, h.coreMap, h.links, h.queues, h.free, h.shp, h.c_owned, h.c_panel, h.c_priv, h.c_pool, h.c_lens, h.c_groups, h.c_keys, h.c_tokens, h.c_error, h.c_len, h.c_at]

theorem appendSrcBad_agreeF (h : Agree s u) : appendSrcBad u = appendSrcBad s := by funext a1; exact appendSrcBad_agree h _

theorem winTile_agree (h : Agree s u) (a1 : Nat) (a2 : Nat) : winTile u a1 a2 = winTile s a1 a2 := by
  unfold winTile
  simp (disch := decide) only [rd_agree h, fget_agree h, fbit_agree h, h.secs, h.tens, h.badTens, h.pages, h.panels, h.trackers, h.rulesOn, h.live, h.groups, h.tree, h.windows, h.helds, h.masks, h.sideSums, h.coreMap, h.links, h.queues, h.free, h.shp, h.c_owned, h.c_panel, h.c_priv, h.c_pool, h.c_lens, h.c_groups, h.c_keys, h.c_tokens, h.c_error, h.c_len, h.c_at]

theorem winTile_agreeF (h : Agree s u) : winTile u = winTile s := by funext a1 a2; exact winTile_agree h _ _

theorem isActParam_agree (h : Agree s u) (a1 : Nat) : isActParam u a1 = isActParam s a1 := by
  unfold isActParam
  simp (disch := decide) only [State_secsOf_agreeF h, rd_agree h, fget_agree h, fbit_agree h, h.secs, h.tens, h.badTens, h.pages, h.panels, h.trackers, h.rulesOn, h.live, h.groups, h.tree, h.windows, h.helds, h.masks, h.sideSums, h.coreMap, h.links, h.queues, h.free, h.shp, h.c_owned, h.c_panel, h.c_priv, h.c_pool, h.c_lens, h.c_groups, h.c_keys, h.c_tokens, h.c_error, h.c_len, h.c_at]

theorem isActParam_agreeF (h : Agree s u) : isActParam u = isActParam s := by funext a1; exact isActParam_agree h _

theorem foldl_or_testBit (l : List Nat) (a k : Nat) :
    (l.foldl (fun a i => a ||| 2 ^ i) a).testBit k = (a.testBit k || decide (k ∈ l)) := by
  induction l generalizing a with
  | nil => simp
  | cons x l ih =>
    rw [List.foldl_cons, ih, Nat.testBit_or, Nat.testBit_two_pow, Bool.or_assoc]
    congr 1
    by_cases h : x = k
    · subst h; simp
    · have : ¬k = x := fun e => h e.symm
      simp [h, this]

theorem maskOf_testBit (l : List Nat) (k : Nat) : (maskOf l).testBit k = decide (k ∈ l) := by
  unfold maskOf; rw [foldl_or_testBit]; simp

theorem mem_listed {r : Reg} {i : Nat} (h : s.rd r i ≠ regDefault (regKey r i)) : i ∈ s.listed r := by
  unfold State.listed
  unfold State.rd at h
  have key : ∀ m : List (Nat × Word), spGet regDefault m (regKey r i) ≠ regDefault (regKey r i) → ∃ e ∈ m, e.1 = regKey r i := by
    intro m
    induction m with
    | nil => intro h; exact absurd rfl h
    | cons e m ih =>
      intro h
      unfold spGet at h
      by_cases he : e.1 = regKey r i
      · exact ⟨e, List.mem_cons_self .., he⟩
      · obtain ⟨x, hx, hk⟩ := ih (by simpa [he] using h)
        exact ⟨x, List.mem_cons_of_mem _ hx, hk⟩
  obtain ⟨e, he, hk⟩ := key _ h
  refine List.mem_filterMap.mpr ⟨e, he, ?_⟩
  have := idx_lt r
  have h1 : e.1 % 512 = r.idx := by rw [hk]; unfold regKey; omega
  have h2 : e.1 / 512 = i := by rw [hk]; unfold regKey; omega
  rw [h1, h2]; simp

theorem bankMask_testBit (p : Nat) : (bankMask s).testBit p = s.fbit F.HUB_STEP_STATUS_BANK p := by
  unfold bankMask
  rw [maskOf_testBit]
  cases hb : s.fbit F.HUB_STEP_STATUS_BANK p with
  | false =>
    rw [decide_eq_false_iff_not, List.mem_filter]
    exact fun h => by rw [hb] at h; exact absurd h.2 (by decide)
  | true =>
    refine decide_eq_true (List.mem_filter.mpr ⟨mem_listed fun e => ?_, hb⟩)
    unfold State.fbit State.fget at hb
    rw [show F.HUB_STEP_STATUS_BANK.reg = Reg.HUB_STEP_STATUS from rfl, e] at hb
    have hd : regDefault (regKey .HUB_STEP_STATUS p) = BitVec.ofNat 32 (resetWordAt Reg.HUB_STEP_STATUS.idx) := by
      have h1 : regKey Reg.HUB_STEP_STATUS p % 512 = Reg.HUB_STEP_STATUS.idx := by
        have := idx_lt .HUB_STEP_STATUS; unfold regKey; omega
      unfold regDefault
      rw [h1, if_neg (by decide)]
    rw [hd] at hb
    exact absurd hb (by decide)

theorem bankMask_agree (h : Agree s u) : bankMask u = bankMask s :=
  Nat.eq_of_testBit_eq fun p => by rw [bankMask_testBit, bankMask_testBit, fbit_agree h (by decide)]
theorem bankMask_agreeF (h : Agree s u) : bankMask u = bankMask s := bankMask_agree h

theorem sideAt_agree (h : Agree s u) (a1 : Nat) (a2 : Nat) : sideAt u a1 a2 = sideAt s a1 a2 := by
  unfold sideAt
  simp (disch := decide) only [rd_agree h, fget_agree h, fbit_agree h, h.secs, h.tens, h.badTens, h.pages, h.panels, h.trackers, h.rulesOn, h.live, h.groups, h.tree, h.windows, h.helds, h.masks, h.sideSums, h.coreMap, h.links, h.queues, h.free, h.shp, h.c_owned, h.c_panel, h.c_priv, h.c_pool, h.c_lens, h.c_groups, h.c_keys, h.c_tokens, h.c_error, h.c_len, h.c_at]

theorem sideAt_agreeF (h : Agree s u) : sideAt u = sideAt s := by funext a1 a2; exact sideAt_agree h _ _

theorem zeroGrad_agree (h : Agree s u) (a1 : Nat) : zeroGrad u a1 = zeroGrad s a1 := by
  unfold zeroGrad
  simp (disch := decide) only [State_desc_agreeF h, masterAt_agreeF h, readBase_agreeF h, bankMask_agreeF h, sideAt_agreeF h, rd_agree h, fget_agree h, fbit_agree h, h.secs, h.tens, h.badTens, h.pages, h.panels, h.trackers, h.rulesOn, h.live, h.groups, h.tree, h.windows, h.helds, h.masks, h.sideSums, h.coreMap, h.links, h.queues, h.free, h.shp, h.c_owned, h.c_panel, h.c_priv, h.c_pool, h.c_lens, h.c_groups, h.c_keys, h.c_tokens, h.c_error, h.c_len, h.c_at]

theorem zeroGrad_agreeF (h : Agree s u) : zeroGrad u = zeroGrad s := by funext a1; exact zeroGrad_agree h _

theorem paramGrad_agree (h : Agree s u) (a1 : Nat) (a2 : Nat) : paramGrad u a1 a2 = paramGrad s a1 a2 := by
  unfold paramGrad
  simp (disch := decide) only [isActParam_agreeF h, zeroGrad_agreeF h, sideAt_agreeF h, rd_agree h, fget_agree h, fbit_agree h, h.secs, h.tens, h.badTens, h.pages, h.panels, h.trackers, h.rulesOn, h.live, h.groups, h.tree, h.windows, h.helds, h.masks, h.sideSums, h.coreMap, h.links, h.queues, h.free, h.shp, h.c_owned, h.c_panel, h.c_priv, h.c_pool, h.c_lens, h.c_groups, h.c_keys, h.c_tokens, h.c_error, h.c_len, h.c_at]

theorem paramGrad_agreeF (h : Agree s u) : paramGrad u = paramGrad s := by funext a1 a2; exact paramGrad_agree h _ _

theorem gradAt_agree (h : Agree s u) (a1 : Nat) (a2 : Desc) (a3 : Nat) (a4 : Nat) (a5 : Nat) : gradAt u a1 a2 a3 a4 a5 = gradAt s a1 a2 a3 a4 a5 := by
  unfold gradAt
  simp (disch := decide) only [winTile_agreeF h, paramGrad_agreeF h, rd_agree h, fget_agree h, fbit_agree h, h.secs, h.tens, h.badTens, h.pages, h.panels, h.trackers, h.rulesOn, h.live, h.groups, h.tree, h.windows, h.helds, h.masks, h.sideSums, h.coreMap, h.links, h.queues, h.free, h.shp, h.c_owned, h.c_panel, h.c_priv, h.c_pool, h.c_lens, h.c_groups, h.c_keys, h.c_tokens, h.c_error, h.c_len, h.c_at]

theorem gradAt_agreeF (h : Agree s u) : gradAt u = gradAt s := by funext a1 a2 a3 a4 a5; exact gradAt_agree h _ _ _ _ _

theorem headerWord_agree (h : Agree s u) (a1 : Nat) (a2 : Nat) (a3 : Desc) (a4 : Nat) : headerWord u a1 a2 a3 a4 = headerWord s a1 a2 a3 a4 := by
  unfold headerWord
  simp (disch := decide) only [State_tRead_agreeF h, bankLayout_agreeF h, rd_agree h, fget_agree h, fbit_agree h, h.secs, h.tens, h.badTens, h.pages, h.panels, h.trackers, h.rulesOn, h.live, h.groups, h.tree, h.windows, h.helds, h.masks, h.sideSums, h.coreMap, h.links, h.queues, h.free, h.shp, h.c_owned, h.c_panel, h.c_priv, h.c_pool, h.c_lens, h.c_groups, h.c_keys, h.c_tokens, h.c_error, h.c_len, h.c_at]

theorem headerWord_agreeF (h : Agree s u) : headerWord u = headerWord s := by funext a1 a2 a3 a4; exact headerWord_agree h _ _ _ _

theorem headerOf_agree (h : Agree s u) (a1 : Nat) (a2 : Nat) (a3 : Desc) : headerOf u a1 a2 a3 = headerOf s a1 a2 a3 := by
  unfold headerOf
  simp (disch := decide) only [headerWord_agreeF h, rd_agree h, fget_agree h, fbit_agree h, h.secs, h.tens, h.badTens, h.pages, h.panels, h.trackers, h.rulesOn, h.live, h.groups, h.tree, h.windows, h.helds, h.masks, h.sideSums, h.coreMap, h.links, h.queues, h.free, h.shp, h.c_owned, h.c_panel, h.c_priv, h.c_pool, h.c_lens, h.c_groups, h.c_keys, h.c_tokens, h.c_error, h.c_len, h.c_at]

theorem headerOf_agreeF (h : Agree s u) : headerOf u = headerOf s := by funext a1 a2 a3; exact headerOf_agree h _ _ _

theorem scheduleAt_agree (h : Agree s u) (a1 : Nat) (a2 : Nat) (a3 : Nat) : scheduleAt u a1 a2 a3 = scheduleAt s a1 a2 a3 := by
  unfold scheduleAt
  simp (disch := decide) only [State_desc_agreeF h, View_get_agreeF h, readBase_agreeF h, rd_agree h, fget_agree h, fbit_agree h, h.secs, h.tens, h.badTens, h.pages, h.panels, h.trackers, h.rulesOn, h.live, h.groups, h.tree, h.windows, h.helds, h.masks, h.sideSums, h.coreMap, h.links, h.queues, h.free, h.shp, h.c_owned, h.c_panel, h.c_priv, h.c_pool, h.c_lens, h.c_groups, h.c_keys, h.c_tokens, h.c_error, h.c_len, h.c_at]

theorem scheduleAt_agreeF (h : Agree s u) : scheduleAt u = scheduleAt s := by funext a1 a2 a3; exact scheduleAt_agree h _ _ _

theorem scheduleBad_agree (h : Agree s u) (a1 : Nat) (a2 : Nat) (a3 : Nat) : scheduleBad u a1 a2 a3 = scheduleBad s a1 a2 a3 := by
  unfold scheduleBad
  simp (disch := decide) only [State_desc_agreeF h, View_badRect_agreeF h, readBase_agreeF h, rd_agree h, fget_agree h, fbit_agree h, h.secs, h.tens, h.badTens, h.pages, h.panels, h.trackers, h.rulesOn, h.live, h.groups, h.tree, h.windows, h.helds, h.masks, h.sideSums, h.coreMap, h.links, h.queues, h.free, h.shp, h.c_owned, h.c_panel, h.c_priv, h.c_pool, h.c_lens, h.c_groups, h.c_keys, h.c_tokens, h.c_error, h.c_len, h.c_at]

theorem scheduleBad_agreeF (h : Agree s u) : scheduleBad u = scheduleBad s := by funext a1 a2 a3; exact scheduleBad_agree h _ _ _

theorem planeCount_agree (h : Agree s u) (a1 : Desc) : planeCount u a1 = planeCount s a1 := by
  unfold planeCount
  simp (disch := decide) only [bankLayout_agreeF h, rd_agree h, fget_agree h, fbit_agree h, h.secs, h.tens, h.badTens, h.pages, h.panels, h.trackers, h.rulesOn, h.live, h.groups, h.tree, h.windows, h.helds, h.masks, h.sideSums, h.coreMap, h.links, h.queues, h.free, h.shp, h.c_owned, h.c_panel, h.c_priv, h.c_pool, h.c_lens, h.c_groups, h.c_keys, h.c_tokens, h.c_error, h.c_len, h.c_at]

theorem planeCount_agreeF (h : Agree s u) : planeCount u = planeCount s := by funext a1; exact planeCount_agree h _

theorem planeWidth_agree (h : Agree s u) (a1 : Desc) (a2 : Nat) : planeWidth u a1 a2 = planeWidth s a1 a2 := by
  unfold planeWidth
  simp (disch := decide) only [ruleOf_agreeF h, rd_agree h, fget_agree h, fbit_agree h, h.secs, h.tens, h.badTens, h.pages, h.panels, h.trackers, h.rulesOn, h.live, h.groups, h.tree, h.windows, h.helds, h.masks, h.sideSums, h.coreMap, h.links, h.queues, h.free, h.shp, h.c_owned, h.c_panel, h.c_priv, h.c_pool, h.c_lens, h.c_groups, h.c_keys, h.c_tokens, h.c_error, h.c_len, h.c_at]

theorem planeWidth_agreeF (h : Agree s u) : planeWidth u = planeWidth s := by funext a1 a2; exact planeWidth_agree h _ _

theorem planeOff_agree (h : Agree s u) (a1 : Desc) (a2 : Nat) (a3 : Nat) (a4 : Nat) : planeOff u a1 a2 a3 a4 = planeOff s a1 a2 a3 a4 := by
  unfold planeOff
  simp (disch := decide) only [bankLayout_agreeF h, planeWidth_agreeF h, rd_agree h, fget_agree h, fbit_agree h, h.secs, h.tens, h.badTens, h.pages, h.panels, h.trackers, h.rulesOn, h.live, h.groups, h.tree, h.windows, h.helds, h.masks, h.sideSums, h.coreMap, h.links, h.queues, h.free, h.shp, h.c_owned, h.c_panel, h.c_priv, h.c_pool, h.c_lens, h.c_groups, h.c_keys, h.c_tokens, h.c_error, h.c_len, h.c_at]

theorem planeOff_agreeF (h : Agree s u) : planeOff u = planeOff s := by funext a1 a2 a3 a4; exact planeOff_agree h _ _ _ _

theorem planeAt_agree (h : Agree s u) (a1 : Nat) (a2 : Nat) (a3 : Desc) (a4 : Nat) (a5 : Nat) : planeAt u a1 a2 a3 a4 a5 = planeAt s a1 a2 a3 a4 a5 := by
  unfold planeAt
  simp (disch := decide) only [planeWidth_agreeF h, State_tRead_agreeF h, planeOff_agreeF h, rd_agree h, fget_agree h, fbit_agree h, h.secs, h.tens, h.badTens, h.pages, h.panels, h.trackers, h.rulesOn, h.live, h.groups, h.tree, h.windows, h.helds, h.masks, h.sideSums, h.coreMap, h.links, h.queues, h.free, h.shp, h.c_owned, h.c_panel, h.c_priv, h.c_pool, h.c_lens, h.c_groups, h.c_keys, h.c_tokens, h.c_error, h.c_len, h.c_at]

theorem planeAt_agreeF (h : Agree s u) : planeAt u = planeAt s := by funext a1 a2 a3 a4 a5; exact planeAt_agree h _ _ _ _ _

theorem masterWidth_agree (h : Agree s u) (a1 : Desc) : masterWidth u a1 = masterWidth s a1 := by
  unfold masterWidth
  simp (disch := decide) only [ruleOf_agreeF h, rd_agree h, fget_agree h, fbit_agree h, h.secs, h.tens, h.badTens, h.pages, h.panels, h.trackers, h.rulesOn, h.live, h.groups, h.tree, h.windows, h.helds, h.masks, h.sideSums, h.coreMap, h.links, h.queues, h.free, h.shp, h.c_owned, h.c_panel, h.c_priv, h.c_pool, h.c_lens, h.c_groups, h.c_keys, h.c_tokens, h.c_error, h.c_len, h.c_at]

theorem masterWidth_agreeF (h : Agree s u) : masterWidth u = masterWidth s := by funext a1; exact masterWidth_agree h _

theorem masterOff_agree (h : Agree s u) (a1 : Desc) (a2 : Nat) (a3 : Nat) : masterOff u a1 a2 a3 = masterOff s a1 a2 a3 := by
  unfold masterOff
  simp (disch := decide) only [bankLayout_agreeF h, masterWidth_agreeF h, rd_agree h, fget_agree h, fbit_agree h, h.secs, h.tens, h.badTens, h.pages, h.panels, h.trackers, h.rulesOn, h.live, h.groups, h.tree, h.windows, h.helds, h.masks, h.sideSums, h.coreMap, h.links, h.queues, h.free, h.shp, h.c_owned, h.c_panel, h.c_priv, h.c_pool, h.c_lens, h.c_groups, h.c_keys, h.c_tokens, h.c_error, h.c_len, h.c_at]

theorem masterOff_agreeF (h : Agree s u) : masterOff u = masterOff s := by funext a1 a2 a3; exact masterOff_agree h _ _ _

theorem eltPuts_agree (h : Agree s u) (a1 : List Byte) (a2 : Nat) (a3 : Nat) (a4 : Desc) (a5 : Nat) (a6 : Elt) : eltPuts u a1 a2 a3 a4 a5 a6 = eltPuts s a1 a2 a3 a4 a5 a6 := by
  unfold eltPuts
  simp (disch := decide) only [seedOf_agreeF h, convStep_agreeF h, masterWidth_agreeF h, planeWidth_agreeF h, planeOff_agreeF h, planeCount_agreeF h, masterOff_agreeF h, rd_agree h, fget_agree h, fbit_agree h, h.secs, h.tens, h.badTens, h.pages, h.panels, h.trackers, h.rulesOn, h.live, h.groups, h.tree, h.windows, h.helds, h.masks, h.sideSums, h.coreMap, h.links, h.queues, h.free, h.shp, h.c_owned, h.c_panel, h.c_priv, h.c_pool, h.c_lens, h.c_groups, h.c_keys, h.c_tokens, h.c_error, h.c_len, h.c_at]

theorem eltPuts_agreeF (h : Agree s u) : eltPuts u = eltPuts s := by funext a1 a2 a3 a4 a5 a6; exact eltPuts_agree h _ _ _ _ _ _

theorem bandPass_agree (h : Agree s u) (a1 : List Byte) (a2 : List Word) (a3 : Nat) (a4 : Nat) (a5 : Nat) (a6 : Desc) (a7 : Band) : bandPass u a1 a2 a3 a4 a5 a6 a7 = bandPass s a1 a2 a3 a4 a5 a6 a7 := by
  unfold bandPass
  simp (disch := decide) only [masterAt_agreeF h, planeCount_agreeF h, planeAt_agreeF h, gradAt_agreeF h, eltPuts_agreeF h, rd_agree h, fget_agree h, fbit_agree h, h.secs, h.tens, h.badTens, h.pages, h.panels, h.trackers, h.rulesOn, h.live, h.groups, h.tree, h.windows, h.helds, h.masks, h.sideSums, h.coreMap, h.links, h.queues, h.free, h.shp, h.c_owned, h.c_panel, h.c_priv, h.c_pool, h.c_lens, h.c_groups, h.c_keys, h.c_tokens, h.c_error, h.c_len, h.c_at]

theorem bandPass_agreeF (h : Agree s u) : bandPass u = bandPass s := by funext a1 a2 a3 a4 a5 a6 a7; exact bandPass_agree h _ _ _ _ _ _ _

theorem View_bad_agree (h : Agree s u) (a1 : View) (a2 : Nat) (a3 : Nat) (a4 : Nat) (a5 : Nat) : View.bad u a1 a2 a3 a4 a5 = View.bad s a1 a2 a3 a4 a5 := by
  unfold View.bad
  simp (disch := decide) only [badIn_agreeF h, rd_agree h, fget_agree h, fbit_agree h, h.secs, h.tens, h.badTens, h.pages, h.panels, h.trackers, h.rulesOn, h.live, h.groups, h.tree, h.windows, h.helds, h.masks, h.sideSums, h.coreMap, h.links, h.queues, h.free, h.shp, h.c_owned, h.c_panel, h.c_priv, h.c_pool, h.c_lens, h.c_groups, h.c_keys, h.c_tokens, h.c_error, h.c_len, h.c_at]

theorem View_bad_agreeF (h : Agree s u) : View.bad u = View.bad s := by funext a1 a2 a3 a4 a5; exact View_bad_agree h _ _ _ _ _

theorem materialiseBad_agree (h : Agree s u) (a1 : Flight) : materialiseBad u a1 = materialiseBad s a1 := by
  unfold materialiseBad
  simp (disch := decide) only [descOf_agreeF h, View_bad_agreeF h, readBase_agreeF h, bankMask_agreeF h, badIn_agreeF h, masterOff_agreeF h, masterWidth_agreeF h, rd_agree h, fget_agree h, fbit_agree h, h.secs, h.tens, h.badTens, h.pages, h.panels, h.trackers, h.rulesOn, h.live, h.groups, h.tree, h.windows, h.helds, h.masks, h.sideSums, h.coreMap, h.links, h.queues, h.free, h.shp, h.c_owned, h.c_panel, h.c_priv, h.c_pool, h.c_lens, h.c_groups, h.c_keys, h.c_tokens, h.c_error, h.c_len, h.c_at]

theorem materialiseBad_agreeF (h : Agree s u) : materialiseBad u = materialiseBad s := by funext a1; exact materialiseBad_agree h _

theorem fromMasters_agree (h : Agree s u) (a1 : Nat) (a2 : Nat) (a3 : Desc) : fromMasters u a1 a2 a3 = fromMasters s a1 a2 a3 := by
  unfold fromMasters
  simp (disch := decide) only [readBase_agreeF h, ruleOf_agreeF h, masterAt_agreeF h, rd_agree h, fget_agree h, fbit_agree h, h.secs, h.tens, h.badTens, h.pages, h.panels, h.trackers, h.rulesOn, h.live, h.groups, h.tree, h.windows, h.helds, h.masks, h.sideSums, h.coreMap, h.links, h.queues, h.free, h.shp, h.c_owned, h.c_panel, h.c_priv, h.c_pool, h.c_lens, h.c_groups, h.c_keys, h.c_tokens, h.c_error, h.c_len, h.c_at]

theorem fromMasters_agreeF (h : Agree s u) : fromMasters u = fromMasters s := by funext a1 a2 a3; exact fromMasters_agree h _ _ _

theorem fromFrozen_agree (h : Agree s u) (a1 : Desc) (a2 : Nat) (a3 : Nat) : fromFrozen u a1 a2 a3 = fromFrozen s a1 a2 a3 := by
  unfold fromFrozen
  simp (disch := decide) only [descOf_agreeF h, readBase_agreeF h, View_get_agreeF h, ruleOf_agreeF h, rd_agree h, fget_agree h, fbit_agree h, h.secs, h.tens, h.badTens, h.pages, h.panels, h.trackers, h.rulesOn, h.live, h.groups, h.tree, h.windows, h.helds, h.masks, h.sideSums, h.coreMap, h.links, h.queues, h.free, h.shp, h.c_owned, h.c_panel, h.c_priv, h.c_pool, h.c_lens, h.c_groups, h.c_keys, h.c_tokens, h.c_error, h.c_len, h.c_at]

theorem fromFrozen_agreeF (h : Agree s u) : fromFrozen u = fromFrozen s := by funext a1 a2 a3; exact fromFrozen_agree h _ _ _

theorem bandBad_agree (h : Agree s u) (a1 : Nat) (a2 : Nat) (a3 : Desc) (a4 : Band) : bandBad u a1 a2 a3 a4 = bandBad s a1 a2 a3 a4 := by
  unfold bandBad
  simp (disch := decide) only [badIn_agreeF h, masterOff_agreeF h, masterWidth_agreeF h, planeOff_agreeF h, planeWidth_agreeF h, planeCount_agreeF h, rd_agree h, fget_agree h, fbit_agree h, h.secs, h.tens, h.badTens, h.pages, h.panels, h.trackers, h.rulesOn, h.live, h.groups, h.tree, h.windows, h.helds, h.masks, h.sideSums, h.coreMap, h.links, h.queues, h.free, h.shp, h.c_owned, h.c_panel, h.c_priv, h.c_pool, h.c_lens, h.c_groups, h.c_keys, h.c_tokens, h.c_error, h.c_len, h.c_at]

theorem bandBad_agreeF (h : Agree s u) : bandBad u = bandBad s := by funext a1 a2 a3 a4; exact bandBad_agree h _ _ _ _

theorem bandFelt_agree (h : Agree s u) (a1 : Nat) (a2 : Nat) (a3 : Desc) (a4 : Nat) : bandFelt u a1 a2 a3 a4 = bandFelt s a1 a2 a3 a4 := by
  unfold bandFelt
  simp (disch := decide) only [feltAt_agreeF h, masterOff_agreeF h, readBase_agreeF h, rd_agree h, fget_agree h, fbit_agree h, h.secs, h.tens, h.badTens, h.pages, h.panels, h.trackers, h.rulesOn, h.live, h.groups, h.tree, h.windows, h.helds, h.masks, h.sideSums, h.coreMap, h.links, h.queues, h.free, h.shp, h.c_owned, h.c_panel, h.c_priv, h.c_pool, h.c_lens, h.c_groups, h.c_keys, h.c_tokens, h.c_error, h.c_len, h.c_at]

theorem bandFelt_agreeF (h : Agree s u) : bandFelt u = bandFelt s := by funext a1 a2 a3 a4; exact bandFelt_agree h _ _ _ _

theorem State_fixedBytes_agree (h : Agree s u) (a1 : Nat) : State.fixedBytes u a1 = State.fixedBytes s a1 := by
  unfold State.fixedBytes
  simp (disch := decide) only [rd_agree h, fget_agree h, fbit_agree h, h.secs, h.tens, h.badTens, h.pages, h.panels, h.trackers, h.rulesOn, h.live, h.groups, h.tree, h.windows, h.helds, h.masks, h.sideSums, h.coreMap, h.links, h.queues, h.free, h.shp, h.c_owned, h.c_panel, h.c_priv, h.c_pool, h.c_lens, h.c_groups, h.c_keys, h.c_tokens, h.c_error, h.c_len, h.c_at]

theorem State_fixedBytes_agreeF (h : Agree s u) : State.fixedBytes u = State.fixedBytes s := by funext a1; exact State_fixedBytes_agree h _

theorem State_inFixed_agree (h : Agree s u) (a1 : Nat) (a2 : Nat) : State.inFixed u a1 a2 = State.inFixed s a1 a2 := by
  unfold State.inFixed
  simp (disch := decide) only [State_fixedBytes_agreeF h, rd_agree h, fget_agree h, fbit_agree h, h.secs, h.tens, h.badTens, h.pages, h.panels, h.trackers, h.rulesOn, h.live, h.groups, h.tree, h.windows, h.helds, h.masks, h.sideSums, h.coreMap, h.links, h.queues, h.free, h.shp, h.c_owned, h.c_panel, h.c_priv, h.c_pool, h.c_lens, h.c_groups, h.c_keys, h.c_tokens, h.c_error, h.c_len, h.c_at]

theorem State_inFixed_agreeF (h : Agree s u) : State.inFixed u = State.inFixed s := by funext a1 a2; exact State_inFixed_agree h _ _

theorem maskRsv_agree (h : Agree s u) (a1 : Layer) (a2 : Nat) (a3 : Nat) (a4 : Nat) : maskRsv u a1 a2 a3 a4 = maskRsv s a1 a2 a3 a4 := by
  unfold maskRsv
  simp (disch := decide) only [maskCode_agreeF h, rd_agree h, fget_agree h, fbit_agree h, h.secs, h.tens, h.badTens, h.pages, h.panels, h.trackers, h.rulesOn, h.live, h.groups, h.tree, h.windows, h.helds, h.masks, h.sideSums, h.coreMap, h.links, h.queues, h.free, h.shp, h.c_owned, h.c_panel, h.c_priv, h.c_pool, h.c_lens, h.c_groups, h.c_keys, h.c_tokens, h.c_error, h.c_len, h.c_at]

theorem maskRsv_agreeF (h : Agree s u) : maskRsv u = maskRsv s := by funext a1 a2 a3 a4; exact maskRsv_agree h _ _ _ _

theorem rowRect_agree (h : Agree s u) (a1 : Flight) (a2 : Nat) (a3 : Nat) (a4 : Nat) (a5 : Nat) (a6 : Nat) : rowRect u a1 a2 a3 a4 a5 a6 = rowRect s a1 a2 a3 a4 a5 a6 := by
  unfold rowRect
  simp (disch := decide) only [plainView_agreeF h, rd_agree h, fget_agree h, fbit_agree h, h.secs, h.tens, h.badTens, h.pages, h.panels, h.trackers, h.rulesOn, h.live, h.groups, h.tree, h.windows, h.helds, h.masks, h.sideSums, h.coreMap, h.links, h.queues, h.free, h.shp, h.c_owned, h.c_panel, h.c_priv, h.c_pool, h.c_lens, h.c_groups, h.c_keys, h.c_tokens, h.c_error, h.c_len, h.c_at]

theorem rowRect_agreeF (h : Agree s u) : rowRect u = rowRect s := by funext a1 a2 a3 a4 a5 a6; exact rowRect_agree h _ _ _ _ _ _

theorem keyRects_agree (h : Agree s u) (a1 : Flight) (a2 : List Nat) (a3 : Nat) (a4 : Nat) (a5 : Nat) (a6 : List Nat) : keyRects u a1 a2 a3 a4 a5 a6 = keyRects s a1 a2 a3 a4 a5 a6 := by
  unfold keyRects
  simp (disch := decide) only [rowRect_agreeF h, rd_agree h, fget_agree h, fbit_agree h, h.secs, h.tens, h.badTens, h.pages, h.panels, h.trackers, h.rulesOn, h.live, h.groups, h.tree, h.windows, h.helds, h.masks, h.sideSums, h.coreMap, h.links, h.queues, h.free, h.shp, h.c_owned, h.c_panel, h.c_priv, h.c_pool, h.c_lens, h.c_groups, h.c_keys, h.c_tokens, h.c_error, h.c_len, h.c_at]

theorem keyRects_agreeF (h : Agree s u) : keyRects u = keyRects s := by funext a1 a2 a3 a4 a5 a6; exact keyRects_agree h _ _ _ _ _ _

theorem attReads_agree (h : Agree s u) (a1 : Flight) (a2 : Spot) : attReads u a1 a2 = attReads s a1 a2 := by
  unfold attReads
  simp (disch := decide) only [attOk_agreeF h, attLk_agreeF h, attErr_agreeF h, descOf_agreeF h, rowRect_agreeF h, isPool_agreeF h, keyRects_agreeF h, rd_agree h, fget_agree h, fbit_agree h, h.secs, h.tens, h.badTens, h.pages, h.panels, h.trackers, h.rulesOn, h.live, h.groups, h.tree, h.windows, h.helds, h.masks, h.sideSums, h.coreMap, h.links, h.queues, h.free, h.shp, h.c_owned, h.c_panel, h.c_priv, h.c_pool, h.c_lens, h.c_groups, h.c_keys, h.c_tokens, h.c_error, h.c_len, h.c_at]

theorem attReads_agreeF (h : Agree s u) : attReads u = attReads s := by funext a1 a2; exact attReads_agree h _ _

theorem Pool_reads_agree (h : Agree s u) (a1 : Pool) (a2 : Nat) (a3 : Nat) (a4 : Nat) (a5 : List Nat) : Pool.reads u a1 a2 a3 a4 a5 = Pool.reads s a1 a2 a3 a4 a5 := by
  unfold Pool.reads
  simp (disch := decide) only [Pool_bufElem_agreeF h, rd_agree h, fget_agree h, fbit_agree h, h.secs, h.tens, h.badTens, h.pages, h.panels, h.trackers, h.rulesOn, h.live, h.groups, h.tree, h.windows, h.helds, h.masks, h.sideSums, h.coreMap, h.links, h.queues, h.free, h.shp, h.c_owned, h.c_panel, h.c_priv, h.c_pool, h.c_lens, h.c_groups, h.c_keys, h.c_tokens, h.c_error, h.c_len, h.c_at]

theorem Pool_reads_agreeF (h : Agree s u) : Pool.reads u = Pool.reads s := by funext a1 a2 a3 a4 a5; exact Pool_reads_agree h _ _ _ _ _

theorem attRanges_agree (h : Agree s u) (a1 : Flight) (a2 : Spot) : attRanges u a1 a2 = attRanges s a1 a2 := by
  unfold attRanges
  simp (disch := decide) only [isPool_agreeF h, attErr_agreeF h, descOf_agreeF h, Pool_reads_agreeF h, poolOf_agreeF h, attOk_agreeF h, attLk_agreeF h, rd_agree h, fget_agree h, fbit_agree h, h.secs, h.tens, h.badTens, h.pages, h.panels, h.trackers, h.rulesOn, h.live, h.groups, h.tree, h.windows, h.helds, h.masks, h.sideSums, h.coreMap, h.links, h.queues, h.free, h.shp, h.c_owned, h.c_panel, h.c_priv, h.c_pool, h.c_lens, h.c_groups, h.c_keys, h.c_tokens, h.c_error, h.c_len, h.c_at]

theorem attRanges_agreeF (h : Agree s u) : attRanges u = attRanges s := by funext a1 a2; exact attRanges_agree h _ _

theorem attendOut_agree (h : Agree s u) (a1 : Flight) (a2 : Spot) : attendOut u a1 a2 = attendOut s a1 a2 := by
  unfold attendOut
  simp (disch := decide) only [attResult_agreeF h, attWrote_agreeF h, attDiverts_agreeF h, isPool_agreeF h, maskRsv_agreeF h, layerIn_agreeF h, attStats_agreeF h, attReads_agreeF h, attRanges_agreeF h, rd_agree h, fget_agree h, fbit_agree h, h.secs, h.tens, h.badTens, h.pages, h.panels, h.trackers, h.rulesOn, h.live, h.groups, h.tree, h.windows, h.helds, h.masks, h.sideSums, h.coreMap, h.links, h.queues, h.free, h.shp, h.c_owned, h.c_panel, h.c_priv, h.c_pool, h.c_lens, h.c_groups, h.c_keys, h.c_tokens, h.c_error, h.c_len, h.c_at]

theorem attendOut_agreeF (h : Agree s u) : attendOut u = attendOut s := by funext a1 a2; exact attendOut_agree h _ _

theorem deltaOf_agree (h : Agree s u) (a1 : Flight) (a2 : Spot) (a3 : Nat) : deltaOf u a1 a2 a3 = deltaOf s a1 a2 a3 := by
  unfold deltaOf
  simp (disch := decide) only [plainView_agreeF h, descOf_agreeF h, View_get_agreeF h, View_learned_agreeF h, rd_agree h, fget_agree h, fbit_agree h, h.secs, h.tens, h.badTens, h.pages, h.panels, h.trackers, h.rulesOn, h.live, h.groups, h.tree, h.windows, h.helds, h.masks, h.sideSums, h.coreMap, h.links, h.queues, h.free, h.shp, h.c_owned, h.c_panel, h.c_priv, h.c_pool, h.c_lens, h.c_groups, h.c_keys, h.c_tokens, h.c_error, h.c_len, h.c_at]

theorem deltaOf_agreeF (h : Agree s u) : deltaOf u = deltaOf s := by funext a1 a2 a3; exact deltaOf_agree h _ _ _

theorem Rect_rsv_agree (h : Agree s u) (a1 : Rect) : Rect.rsv u a1 = Rect.rsv s a1 := by
  unfold Rect.rsv
  simp (disch := decide) only [View_code_p_agreeF h, rd_agree h, fget_agree h, fbit_agree h, h.secs, h.tens, h.badTens, h.pages, h.panels, h.trackers, h.rulesOn, h.live, h.groups, h.tree, h.windows, h.helds, h.masks, h.sideSums, h.coreMap, h.links, h.queues, h.free, h.shp, h.c_owned, h.c_panel, h.c_priv, h.c_pool, h.c_lens, h.c_groups, h.c_keys, h.c_tokens, h.c_error, h.c_len, h.c_at]

theorem Rect_rsv_agreeF (h : Agree s u) : Rect.rsv u = Rect.rsv s := by funext a1; exact Rect_rsv_agree h _

theorem rsvTally_agree (h : Agree s u) (a1 : List Rect) : rsvTally u a1 = rsvTally s a1 := by
  unfold rsvTally
  simp (disch := decide) only [Rect_rsv_agreeF h, rd_agree h, fget_agree h, fbit_agree h, h.secs, h.tens, h.badTens, h.pages, h.panels, h.trackers, h.rulesOn, h.live, h.groups, h.tree, h.windows, h.helds, h.masks, h.sideSums, h.coreMap, h.links, h.queues, h.free, h.shp, h.c_owned, h.c_panel, h.c_priv, h.c_pool, h.c_lens, h.c_groups, h.c_keys, h.c_tokens, h.c_error, h.c_len, h.c_at]

theorem rsvTally_agreeF (h : Agree s u) : rsvTally u = rsvTally s := by funext a1; exact rsvTally_agree h _

theorem dotOut_agree (h : Agree s u) (a1 : Flight) (a2 : Spot) : dotOut u a1 a2 = dotOut s a1 a2 := by
  unfold dotOut
  simp (disch := decide) only [deltaOf_agreeF h, rowRect_agreeF h, plainView_agreeF h, rsvTally_agreeF h, rd_agree h, fget_agree h, fbit_agree h, h.secs, h.tens, h.badTens, h.pages, h.panels, h.trackers, h.rulesOn, h.live, h.groups, h.tree, h.windows, h.helds, h.masks, h.sideSums, h.coreMap, h.links, h.queues, h.free, h.shp, h.c_owned, h.c_panel, h.c_priv, h.c_pool, h.c_lens, h.c_groups, h.c_keys, h.c_tokens, h.c_error, h.c_len, h.c_at]

theorem dotOut_agreeF (h : Agree s u) : dotOut u = dotOut s := by funext a1 a2; exact dotOut_agree h _ _

theorem statAt_agree (h : Agree s u) (a1 : View) (a2 : Nat) (a3 : Nat) (a4 : Nat) (a5 : Nat) : statAt u a1 a2 a3 a4 a5 = statAt s a1 a2 a3 a4 a5 := by
  unfold statAt
  simp (disch := decide) only [View_code_p_agreeF h, rd_agree h, fget_agree h, fbit_agree h, h.secs, h.tens, h.badTens, h.pages, h.panels, h.trackers, h.rulesOn, h.live, h.groups, h.tree, h.windows, h.helds, h.masks, h.sideSums, h.coreMap, h.links, h.queues, h.free, h.shp, h.c_owned, h.c_panel, h.c_priv, h.c_pool, h.c_lens, h.c_groups, h.c_keys, h.c_tokens, h.c_error, h.c_len, h.c_at]

theorem statAt_agreeF (h : Agree s u) : statAt u = statAt s := by funext a1 a2 a3 a4 a5; exact statAt_agree h _ _ _ _ _

theorem bwPairs_agree (h : Agree s u) (a1 : Flight) (a2 : Nat) (a3 : Nat) (a4 : Nat) (a5 : Option Nat) : bwPairs u a1 a2 a3 a4 a5 = bwPairs s a1 a2 a3 a4 a5 := by
  unfold bwPairs
  simp (disch := decide) only [attOf_agreeF h, plainView_agreeF h, blockOn_agreeF h, rowOf_agreeF h, statAt_agreeF h, descOf_agreeF h, rd_agree h, fget_agree h, fbit_agree h, h.secs, h.tens, h.badTens, h.pages, h.panels, h.trackers, h.rulesOn, h.live, h.groups, h.tree, h.windows, h.helds, h.masks, h.sideSums, h.coreMap, h.links, h.queues, h.free, h.shp, h.c_owned, h.c_panel, h.c_priv, h.c_pool, h.c_lens, h.c_groups, h.c_keys, h.c_tokens, h.c_error, h.c_len, h.c_at]

theorem bwPairs_agreeF (h : Agree s u) : bwPairs u = bwPairs s := by funext a1 a2 a3 a4 a5; exact bwPairs_agree h _ _ _ _ _

theorem colOf_agree (h : Agree s u) (a1 : View) (a2 : Nat) (a3 : Nat) (a4 : Nat) (a5 : Nat) (a6 : Nat) : colOf u a1 a2 a3 a4 a5 a6 = colOf s a1 a2 a3 a4 a5 a6 := by
  unfold colOf
  simp (disch := decide) only [View_get_agreeF h, rd_agree h, fget_agree h, fbit_agree h, h.secs, h.tens, h.badTens, h.pages, h.panels, h.trackers, h.rulesOn, h.live, h.groups, h.tree, h.windows, h.helds, h.masks, h.sideSums, h.coreMap, h.links, h.queues, h.free, h.shp, h.c_owned, h.c_panel, h.c_priv, h.c_pool, h.c_lens, h.c_groups, h.c_keys, h.c_tokens, h.c_error, h.c_len, h.c_at]

theorem colOf_agreeF (h : Agree s u) : colOf u = colOf s := by funext a1 a2 a3 a4 a5 a6; exact colOf_agree h _ _ _ _ _ _

theorem bwKvTile_agree (h : Agree s u) (a1 : Flight) (a2 : Nat) (a3 : Nat) (a4 : Nat) : bwKvTile u a1 a2 a3 a4 = bwKvTile s a1 a2 a3 a4 := by
  unfold bwKvTile
  simp (disch := decide) only [attOf_agreeF h, plainView_agreeF h, bwPairs_agreeF h, colOf_agreeF h, descOf_agreeF h, rd_agree h, fget_agree h, fbit_agree h, h.secs, h.tens, h.badTens, h.pages, h.panels, h.trackers, h.rulesOn, h.live, h.groups, h.tree, h.windows, h.helds, h.masks, h.sideSums, h.coreMap, h.links, h.queues, h.free, h.shp, h.c_owned, h.c_panel, h.c_priv, h.c_pool, h.c_lens, h.c_groups, h.c_keys, h.c_tokens, h.c_error, h.c_len, h.c_at]

theorem bwKvTile_agreeF (h : Agree s u) : bwKvTile u = bwKvTile s := by funext a1 a2 a3 a4; exact bwKvTile_agree h _ _ _ _

theorem bwKvTiles_agree (h : Agree s u) (a1 : Flight) (a2 : Spot) : bwKvTiles u a1 a2 = bwKvTiles s a1 a2 := by
  unfold bwKvTiles
  simp (disch := decide) only [bwKvTile_agreeF h, rd_agree h, fget_agree h, fbit_agree h, h.secs, h.tens, h.badTens, h.pages, h.panels, h.trackers, h.rulesOn, h.live, h.groups, h.tree, h.windows, h.helds, h.masks, h.sideSums, h.coreMap, h.links, h.queues, h.free, h.shp, h.c_owned, h.c_panel, h.c_priv, h.c_pool, h.c_lens, h.c_groups, h.c_keys, h.c_tokens, h.c_error, h.c_len, h.c_at]

theorem bwKvTiles_agreeF (h : Agree s u) : bwKvTiles u = bwKvTiles s := by funext a1 a2; exact bwKvTiles_agree h _ _

theorem gradWrote_agree (h : Agree s u) (a1 : Flight) (a2 : Nat) (a3 : Nat) (a4 : Spot) (a5 : List (List Word)) : gradWrote u a1 a2 a3 a4 a5 = gradWrote s a1 a2 a3 a4 a5 := by
  unfold gradWrote
  simp (disch := decide) only [descOf_agreeF h, convertRect_agreeF h, rd_agree h, fget_agree h, fbit_agree h, h.secs, h.tens, h.badTens, h.pages, h.panels, h.trackers, h.rulesOn, h.live, h.groups, h.tree, h.windows, h.helds, h.masks, h.sideSums, h.coreMap, h.links, h.queues, h.free, h.shp, h.c_owned, h.c_panel, h.c_priv, h.c_pool, h.c_lens, h.c_groups, h.c_keys, h.c_tokens, h.c_error, h.c_len, h.c_at]

theorem gradWrote_agreeF (h : Agree s u) : gradWrote u = gradWrote s := by funext a1 a2 a3 a4 a5; exact gradWrote_agree h _ _ _ _ _

theorem bwKvReads_agree (h : Agree s u) (a1 : Flight) (a2 : Spot) : bwKvReads u a1 a2 = bwKvReads s a1 a2 := by
  unfold bwKvReads
  simp (disch := decide) only [attOk_agreeF h, descOf_agreeF h, rowRect_agreeF h, rd_agree h, fget_agree h, fbit_agree h, h.secs, h.tens, h.badTens, h.pages, h.panels, h.trackers, h.rulesOn, h.live, h.groups, h.tree, h.windows, h.helds, h.masks, h.sideSums, h.coreMap, h.links, h.queues, h.free, h.shp, h.c_owned, h.c_panel, h.c_priv, h.c_pool, h.c_lens, h.c_groups, h.c_keys, h.c_tokens, h.c_error, h.c_len, h.c_at]

theorem bwKvReads_agreeF (h : Agree s u) : bwKvReads u = bwKvReads s := by funext a1 a2; exact bwKvReads_agree h _ _

theorem bwKvOut_agree (h : Agree s u) (a1 : Flight) (a2 : Spot) : bwKvOut u a1 a2 = bwKvOut s a1 a2 := by
  unfold bwKvOut
  simp (disch := decide) only [bwKvTiles_agreeF h, gradWrote_agreeF h, bwKvReads_agreeF h, attDiverts_agreeF h, rd_agree h, fget_agree h, fbit_agree h, h.secs, h.tens, h.badTens, h.pages, h.panels, h.trackers, h.rulesOn, h.live, h.groups, h.tree, h.windows, h.helds, h.masks, h.sideSums, h.coreMap, h.links, h.queues, h.free, h.shp, h.c_owned, h.c_panel, h.c_priv, h.c_pool, h.c_lens, h.c_groups, h.c_keys, h.c_tokens, h.c_error, h.c_len, h.c_at]

theorem bwKvOut_agreeF (h : Agree s u) : bwKvOut u = bwKvOut s := by funext a1 a2; exact bwKvOut_agree h _ _

theorem bwQTile_agree (h : Agree s u) (a1 : Flight) (a2 : Nat) (a3 : Nat) (a4 : Nat) : bwQTile u a1 a2 a3 a4 = bwQTile s a1 a2 a3 a4 := by
  unfold bwQTile
  simp (disch := decide) only [attOf_agreeF h, plainView_agreeF h, bwPairs_agreeF h, colOf_agreeF h, rd_agree h, fget_agree h, fbit_agree h, h.secs, h.tens, h.badTens, h.pages, h.panels, h.trackers, h.rulesOn, h.live, h.groups, h.tree, h.windows, h.helds, h.masks, h.sideSums, h.coreMap, h.links, h.queues, h.free, h.shp, h.c_owned, h.c_panel, h.c_priv, h.c_pool, h.c_lens, h.c_groups, h.c_keys, h.c_tokens, h.c_error, h.c_len, h.c_at]

theorem bwQTile_agreeF (h : Agree s u) : bwQTile u = bwQTile s := by funext a1 a2 a3 a4; exact bwQTile_agree h _ _ _ _

theorem bwQTiles_agree (h : Agree s u) (a1 : Flight) (a2 : Spot) : bwQTiles u a1 a2 = bwQTiles s a1 a2 := by
  unfold bwQTiles
  simp (disch := decide) only [bwQTile_agreeF h, rd_agree h, fget_agree h, fbit_agree h, h.secs, h.tens, h.badTens, h.pages, h.panels, h.trackers, h.rulesOn, h.live, h.groups, h.tree, h.windows, h.helds, h.masks, h.sideSums, h.coreMap, h.links, h.queues, h.free, h.shp, h.c_owned, h.c_panel, h.c_priv, h.c_pool, h.c_lens, h.c_groups, h.c_keys, h.c_tokens, h.c_error, h.c_len, h.c_at]

theorem bwQTiles_agreeF (h : Agree s u) : bwQTiles u = bwQTiles s := by funext a1 a2; exact bwQTiles_agree h _ _

theorem bwQReads_agree (h : Agree s u) (a1 : Flight) (a2 : Spot) : bwQReads u a1 a2 = bwQReads s a1 a2 := by
  unfold bwQReads
  simp (disch := decide) only [attOk_agreeF h, descOf_agreeF h, rowRect_agreeF h, keyRects_agreeF h, rd_agree h, fget_agree h, fbit_agree h, h.secs, h.tens, h.badTens, h.pages, h.panels, h.trackers, h.rulesOn, h.live, h.groups, h.tree, h.windows, h.helds, h.masks, h.sideSums, h.coreMap, h.links, h.queues, h.free, h.shp, h.c_owned, h.c_panel, h.c_priv, h.c_pool, h.c_lens, h.c_groups, h.c_keys, h.c_tokens, h.c_error, h.c_len, h.c_at]

theorem bwQReads_agreeF (h : Agree s u) : bwQReads u = bwQReads s := by funext a1 a2; exact bwQReads_agree h _ _

theorem bwQOut_agree (h : Agree s u) (a1 : Flight) (a2 : Spot) : bwQOut u a1 a2 = bwQOut s a1 a2 := by
  unfold bwQOut
  simp (disch := decide) only [bwQTiles_agreeF h, gradWrote_agreeF h, bwQReads_agreeF h, attDiverts_agreeF h, rd_agree h, fget_agree h, fbit_agree h, h.secs, h.tens, h.badTens, h.pages, h.panels, h.trackers, h.rulesOn, h.live, h.groups, h.tree, h.windows, h.helds, h.masks, h.sideSums, h.coreMap, h.links, h.queues, h.free, h.shp, h.c_owned, h.c_panel, h.c_priv, h.c_pool, h.c_lens, h.c_groups, h.c_keys, h.c_tokens, h.c_error, h.c_len, h.c_at]

theorem bwQOut_agreeF (h : Agree s u) : bwQOut u = bwQOut s := by funext a1 a2; exact bwQOut_agree h _ _

theorem sourceRect_agree (h : Agree s u) (a1 : Flight) (a2 : Nat) (a3 : Nat) (a4 : Nat) (a5 : Nat) (a6 : Nat) (a7 : Nat) (a8 : Nat) : sourceRect u a1 a2 a3 a4 a5 a6 a7 a8 = sourceRect s a1 a2 a3 a4 a5 a6 a7 a8 := by
  unfold sourceRect
  simp (disch := decide) only [descOf_agreeF h, readBase_agreeF h, rd_agree h, fget_agree h, fbit_agree h, h.secs, h.tens, h.badTens, h.pages, h.panels, h.trackers, h.rulesOn, h.live, h.groups, h.tree, h.windows, h.helds, h.masks, h.sideSums, h.coreMap, h.links, h.queues, h.free, h.shp, h.c_owned, h.c_panel, h.c_priv, h.c_pool, h.c_lens, h.c_groups, h.c_keys, h.c_tokens, h.c_error, h.c_len, h.c_at]

theorem sourceRect_agreeF (h : Agree s u) : sourceRect u = sourceRect s := by funext a1 a2 a3 a4 a5 a6 a7 a8; exact sourceRect_agree h _ _ _ _ _ _ _ _

theorem convertOut_agree (h : Agree s u) (a1 : Flight) (a2 : Spot) : convertOut u a1 a2 = convertOut s a1 a2 := by
  unfold convertOut
  simp (disch := decide) only [convertWrote_agreeF h, sourceRect_agreeF h, rsvTally_agreeF h, rd_agree h, fget_agree h, fbit_agree h, h.secs, h.tens, h.badTens, h.pages, h.panels, h.trackers, h.rulesOn, h.live, h.groups, h.tree, h.windows, h.helds, h.masks, h.sideSums, h.coreMap, h.links, h.queues, h.free, h.shp, h.c_owned, h.c_panel, h.c_priv, h.c_pool, h.c_lens, h.c_groups, h.c_keys, h.c_tokens, h.c_error, h.c_len, h.c_at]

theorem convertOut_agreeF (h : Agree s u) : convertOut u = convertOut s := by funext a1 a2; exact convertOut_agree h _ _

theorem vectorOut_agree (h : Agree s u) (a1 : Flight) (a2 : Spot) : vectorOut u a1 a2 = vectorOut s a1 a2 := by
  unfold vectorOut
  simp (disch := decide) only [vectorWrote_agreeF h, sourceRect_agreeF h, rsvTally_agreeF h, vectorTile_agreeF h, rd_agree h, fget_agree h, fbit_agree h, h.secs, h.tens, h.badTens, h.pages, h.panels, h.trackers, h.rulesOn, h.live, h.groups, h.tree, h.windows, h.helds, h.masks, h.sideSums, h.coreMap, h.links, h.queues, h.free, h.shp, h.c_owned, h.c_panel, h.c_priv, h.c_pool, h.c_lens, h.c_groups, h.c_keys, h.c_tokens, h.c_error, h.c_len, h.c_at]

theorem vectorOut_agreeF (h : Agree s u) : vectorOut u = vectorOut s := by funext a1 a2; exact vectorOut_agree h _ _

theorem State_freeNum_agree (h : Agree s u) : State.freeNum u = State.freeNum s := by
  unfold State.freeNum
  simp (disch := decide) only [rd_agree h, fget_agree h, fbit_agree h, h.secs, h.tens, h.badTens, h.pages, h.panels, h.trackers, h.rulesOn, h.live, h.groups, h.tree, h.windows, h.helds, h.masks, h.sideSums, h.coreMap, h.links, h.queues, h.free, h.shp, h.c_owned, h.c_panel, h.c_priv, h.c_pool, h.c_lens, h.c_groups, h.c_keys, h.c_tokens, h.c_error, h.c_len, h.c_at]

theorem State_freeNum_agreeF (h : Agree s u) : State.freeNum u = State.freeNum s := State_freeNum_agree h

theorem rowPuts_agree (h : Agree s u) (a1 : View) (a2 : View) (a3 : Nat) (a4 : Nat) (a5 : Nat) (a6 : Option Nat) (a7 : Nat) : rowPuts u a1 a2 a3 a4 a5 a6 a7 = rowPuts s a1 a2 a3 a4 a5 a6 a7 := by
  unfold rowPuts
  simp (disch := decide) only [View_code_p_agreeF h, View_bx_agreeF h, rd_agree h, fget_agree h, fbit_agree h, h.secs, h.tens, h.badTens, h.pages, h.panels, h.trackers, h.rulesOn, h.live, h.groups, h.tree, h.windows, h.helds, h.masks, h.sideSums, h.coreMap, h.links, h.queues, h.free, h.shp, h.c_owned, h.c_panel, h.c_priv, h.c_pool, h.c_lens, h.c_groups, h.c_keys, h.c_tokens, h.c_error, h.c_len, h.c_at]

theorem rowPuts_agreeF (h : Agree s u) : rowPuts u = rowPuts s := by funext a1 a2 a3 a4 a5 a6 a7; exact rowPuts_agree h _ _ _ _ _ _ _

theorem rowsOut_agree (h : Agree s u) (a0 : Bool) (a2 : Flight) (a3 : Spot) : rowsOut a0 u a2 a3 = rowsOut a0 s a2 a3 := by
  unfold rowsOut
  simp (disch := decide) only [readBase_agreeF h, descOf_agreeF h, View_code_p_agreeF h, State_freeNum_agreeF h, rowPuts_agreeF h, rsvTally_agreeF h, rd_agree h, fget_agree h, fbit_agree h, h.secs, h.tens, h.badTens, h.pages, h.panels, h.trackers, h.rulesOn, h.live, h.groups, h.tree, h.windows, h.helds, h.masks, h.sideSums, h.coreMap, h.links, h.queues, h.free, h.shp, h.c_owned, h.c_panel, h.c_priv, h.c_pool, h.c_lens, h.c_groups, h.c_keys, h.c_tokens, h.c_error, h.c_len, h.c_at]

theorem rowsOut_agreeF (h : Agree s u) (a0 : Bool) : rowsOut a0 u = rowsOut a0 s := by funext a2 a3; exact rowsOut_agree h _ _ _

theorem unitOut_agree (h : Agree s u) (a1 : Flight) (a2 : Spot) : unitOut u a1 a2 = unitOut s a1 a2 := by
  unfold unitOut
  simp (disch := decide) only [attendOut_agreeF h, dotOut_agreeF h, bwKvOut_agreeF h, bwQOut_agreeF h, convertOut_agreeF h, vectorOut_agreeF h, rowsOut_agreeF h, rd_agree h, fget_agree h, fbit_agree h, h.secs, h.tens, h.badTens, h.pages, h.panels, h.trackers, h.rulesOn, h.live, h.groups, h.tree, h.windows, h.helds, h.masks, h.sideSums, h.coreMap, h.links, h.queues, h.free, h.shp, h.c_owned, h.c_panel, h.c_priv, h.c_pool, h.c_lens, h.c_groups, h.c_keys, h.c_tokens, h.c_error, h.c_len, h.c_at]

theorem unitOut_agreeF (h : Agree s u) : unitOut u = unitOut s := by funext a1 a2; exact unitOut_agree h _ _

theorem attSpot_agree (h : Agree s u) (a1 : Flight) (a2 : Nat) : attSpot u a1 a2 = attSpot s a1 a2 := by
  unfold attSpot
  simp (disch := decide) only [descOf_agreeF h, rd_agree h, fget_agree h, fbit_agree h, h.secs, h.tens, h.badTens, h.pages, h.panels, h.trackers, h.rulesOn, h.live, h.groups, h.tree, h.windows, h.helds, h.masks, h.sideSums, h.coreMap, h.links, h.queues, h.free, h.shp, h.c_owned, h.c_panel, h.c_priv, h.c_pool, h.c_lens, h.c_groups, h.c_keys, h.c_tokens, h.c_error, h.c_len, h.c_at]

theorem attSpot_agreeF (h : Agree s u) : attSpot u = attSpot s := by funext a1 a2; exact attSpot_agree h _ _

theorem gatherSpot_agree (h : Agree s u) (a1 : Flight) (a2 : Nat) : gatherSpot u a1 a2 = gatherSpot s a1 a2 := by
  unfold gatherSpot
  simp (disch := decide) only [descOf_agreeF h, rd_agree h, fget_agree h, fbit_agree h, h.secs, h.tens, h.badTens, h.pages, h.panels, h.trackers, h.rulesOn, h.live, h.groups, h.tree, h.windows, h.helds, h.masks, h.sideSums, h.coreMap, h.links, h.queues, h.free, h.shp, h.c_owned, h.c_panel, h.c_priv, h.c_pool, h.c_lens, h.c_groups, h.c_keys, h.c_tokens, h.c_error, h.c_len, h.c_at]

theorem gatherSpot_agreeF (h : Agree s u) : gatherSpot u = gatherSpot s := by funext a1 a2; exact gatherSpot_agree h _ _

theorem unitSpot_agree (h : Agree s u) (a1 : Flight) (a2 : Nat) : unitSpot u a1 a2 = unitSpot s a1 a2 := by
  unfold unitSpot
  simp (disch := decide) only [attSpot_agreeF h, gatherSpot_agreeF h, descOf_agreeF h, spotOf_agreeF h, rd_agree h, fget_agree h, fbit_agree h, h.secs, h.tens, h.badTens, h.pages, h.panels, h.trackers, h.rulesOn, h.live, h.groups, h.tree, h.windows, h.helds, h.masks, h.sideSums, h.coreMap, h.links, h.queues, h.free, h.shp, h.c_owned, h.c_panel, h.c_priv, h.c_pool, h.c_lens, h.c_groups, h.c_keys, h.c_tokens, h.c_error, h.c_len, h.c_at]

theorem unitSpot_agreeF (h : Agree s u) : unitSpot u = unitSpot s := by funext a1 a2; exact unitSpot_agree h _ _

theorem keysEmpty_agree (h : Agree s u) (a1 : Flight) (a2 : Spot) : keysEmpty u a1 a2 = keysEmpty s a1 a2 := by
  unfold keysEmpty
  simp (disch := decide) only [descOf_agreeF h, rd_agree h, fget_agree h, fbit_agree h, h.secs, h.tens, h.badTens, h.pages, h.panels, h.trackers, h.rulesOn, h.live, h.groups, h.tree, h.windows, h.helds, h.masks, h.sideSums, h.coreMap, h.links, h.queues, h.free, h.shp, h.c_owned, h.c_panel, h.c_priv, h.c_pool, h.c_lens, h.c_groups, h.c_keys, h.c_tokens, h.c_error, h.c_len, h.c_at]

theorem keysEmpty_agreeF (h : Agree s u) : keysEmpty u = keysEmpty s := by funext a1 a2; exact keysEmpty_agree h _ _

theorem unitEmpty_agree (h : Agree s u) (a1 : Flight) (a2 : Spot) : unitEmpty u a1 a2 = unitEmpty s a1 a2 := by
  unfold unitEmpty
  simp (disch := decide) only [keysEmpty_agreeF h, rd_agree h, fget_agree h, fbit_agree h, h.secs, h.tens, h.badTens, h.pages, h.panels, h.trackers, h.rulesOn, h.live, h.groups, h.tree, h.windows, h.helds, h.masks, h.sideSums, h.coreMap, h.links, h.queues, h.free, h.shp, h.c_owned, h.c_panel, h.c_priv, h.c_pool, h.c_lens, h.c_groups, h.c_keys, h.c_tokens, h.c_error, h.c_len, h.c_at]

theorem unitEmpty_agreeF (h : Agree s u) : unitEmpty u = unitEmpty s := by funext a1 a2; exact unitEmpty_agree h _ _

theorem arrOf_agree (h : Agree s u) (a1 : Flight) : arrOf u a1 = arrOf s a1 := by
  unfold arrOf
  simp (disch := decide) only [attDiverts_agreeF h, rd_agree h, fget_agree h, fbit_agree h, h.secs, h.tens, h.badTens, h.pages, h.panels, h.trackers, h.rulesOn, h.live, h.groups, h.tree, h.windows, h.helds, h.masks, h.sideSums, h.coreMap, h.links, h.queues, h.free, h.shp, h.c_owned, h.c_panel, h.c_priv, h.c_pool, h.c_lens, h.c_groups, h.c_keys, h.c_tokens, h.c_error, h.c_len, h.c_at]

theorem arrOf_agreeF (h : Agree s u) : arrOf u = arrOf s := by funext a1; exact arrOf_agree h _

theorem UnitOut_bad_agree (h : Agree s u) (a1 : UnitOut) : UnitOut.bad u a1 = UnitOut.bad s a1 := by
  unfold UnitOut.bad
  simp (disch := decide) only [View_badRect_agreeF h, rd_agree h, fget_agree h, fbit_agree h, h.secs, h.tens, h.badTens, h.pages, h.panels, h.trackers, h.rulesOn, h.live, h.groups, h.tree, h.windows, h.helds, h.masks, h.sideSums, h.coreMap, h.links, h.queues, h.free, h.shp, h.c_owned, h.c_panel, h.c_priv, h.c_pool, h.c_lens, h.c_groups, h.c_keys, h.c_tokens, h.c_error, h.c_len, h.c_at]

theorem UnitOut_bad_agreeF (h : Agree s u) : UnitOut.bad u = UnitOut.bad s := by funext a1; exact UnitOut_bad_agree h _

theorem listedRows_agree (h : Agree s u) (a1 : Bool) (a2 : List Byte) : listedRows u a1 a2 = listedRows s a1 a2 := by
  unfold listedRows
  simp (disch := decide) only [descOf_agreeF h, rd_agree h, fget_agree h, fbit_agree h, h.secs, h.tens, h.badTens, h.pages, h.panels, h.trackers, h.rulesOn, h.live, h.groups, h.tree, h.windows, h.helds, h.masks, h.sideSums, h.coreMap, h.links, h.queues, h.free, h.shp, h.c_owned, h.c_panel, h.c_priv, h.c_pool, h.c_lens, h.c_groups, h.c_keys, h.c_tokens, h.c_error, h.c_len, h.c_at]

theorem listedRows_agreeF (h : Agree s u) : listedRows u = listedRows s := by funext a1 a2; exact listedRows_agree h _ _

theorem gatherPlan_agree (h : Agree s u) (a1 : Bool) (a2 : List Byte) : gatherPlan u a1 a2 = gatherPlan s a1 a2 := by
  unfold gatherPlan
  simp (disch := decide) only [descOf_agreeF h, listedRows_agreeF h, rd_agree h, fget_agree h, fbit_agree h, h.secs, h.tens, h.badTens, h.pages, h.panels, h.trackers, h.rulesOn, h.live, h.groups, h.tree, h.windows, h.helds, h.masks, h.sideSums, h.coreMap, h.links, h.queues, h.free, h.shp, h.c_owned, h.c_panel, h.c_priv, h.c_pool, h.c_lens, h.c_groups, h.c_keys, h.c_tokens, h.c_error, h.c_len, h.c_at]

theorem gatherPlan_agreeF (h : Agree s u) : gatherPlan u = gatherPlan s := by funext a1 a2; exact gatherPlan_agree h _ _

/-- The mask of what Agree speaks of, without cores and channels; with channels; with both. -/
def agreeMask : Nat := 0x60008000e09129c682000000000000000000000000000000000000000000000000000000000000000000000000000f0000000000000400b00000000008001000000000000000000000
def agreeMaskCh : Nat := 0x70008000e09129c682000000000000000000000000000000000000000000000000000000000000000000000000000f0000000000000400b00000000008001000000000000000000000
def agreeMaskAll : Nat := 0x70008000e09329c682000000000000000000000000000000000000000000000000000000000000000000000000000f0000000000000400b00000000008001000000000000000000000

theorem off_of_and {m M i : Nat} (h : m &&& M = 0) (hi : M.testBit i = true) : m.testBit i = false := by
  have e : (m &&& M).testBit i = false := by rw [h, Nat.zero_testBit]
  rw [Nat.testBit_and, hi, Bool.and_true] at e
  exact e

theorem Agree.of_keeps {m : Nat} (k : Keeps m s u) (hm : m &&& agreeMaskAll = 0) : Agree s u := by
  have hc : u.chans = s.chans := k.chans (off_of_and hm (by decide))
  have ho : u.cores = s.cores := k.cores (off_of_and hm (by decide))
  constructor
  · intro r hr i
    refine k.reg r i (off_of_and hm ?_)
    simp only [agreeRegs, List.mem_cons, List.not_mem_nil, or_false] at hr
    rcases hr with rfl|rfl|rfl|rfl|rfl|rfl|rfl|rfl|rfl|rfl <;> decide
  · intro c; unfold State.core; rw [ho]
  · intro c; unfold chanRank State.chan; rw [hc]
  · intro c; unfold State.chan; rw [hc]
  · intro c; unfold State.chan; rw [hc]
  · intro c; unfold State.chan; rw [hc]
  · intro c; unfold State.chan; rw [hc]
  · intro c; unfold State.chan; rw [hc]
  · intro c; unfold State.chan; rw [hc]
  · intro c; unfold State.chan; rw [hc]
  · intro c; unfold State.chan; rw [hc]
  · intro c; unfold State.chan; rw [hc]
  · intro c l; unfold State.chan; rw [hc]
  · intro c l; unfold State.chan; rw [hc]
  · exact k.secs (off_of_and hm (by decide))
  · exact k.tens (off_of_and hm (by decide))
  · exact k.badTens (off_of_and hm (by decide))
  · exact k.pages (off_of_and hm (by decide))
  · exact k.panels (off_of_and hm (by decide))
  · exact k.trackers (off_of_and hm (by decide))
  · exact k.rulesOn (off_of_and hm (by decide))
  · exact k.live (off_of_and hm (by decide))
  · exact k.groups (off_of_and hm (by decide))
  · exact k.tree (off_of_and hm (by decide))
  · exact k.windows (off_of_and hm (by decide))
  · exact k.helds (off_of_and hm (by decide))
  · exact k.masks (off_of_and hm (by decide))
  · exact k.sideSums (off_of_and hm (by decide))
  · exact k.coreMap (off_of_and hm (by decide))
  · exact k.links (off_of_and hm (by decide))
  · exact k.queues (off_of_and hm (by decide))
  · exact k.free (off_of_and hm (by decide))

theorem Agree.of_keeps_cores {m : Nat} (k : Keeps m s u) (hm : m &&& agreeMaskCh = 0)
    (hs : ∀ c, (u.core c).shp = (s.core c).shp) : Agree s u := by
  have hc : u.chans = s.chans := k.chans (off_of_and hm (by decide))
  constructor
  · intro r hr i
    refine k.reg r i (off_of_and hm ?_)
    simp only [agreeRegs, List.mem_cons, List.not_mem_nil, or_false] at hr
    rcases hr with rfl|rfl|rfl|rfl|rfl|rfl|rfl|rfl|rfl|rfl <;> decide
  · exact hs
  · intro c; unfold chanRank State.chan; rw [hc]
  · intro c; unfold State.chan; rw [hc]
  · intro c; unfold State.chan; rw [hc]
  · intro c; unfold State.chan; rw [hc]
  · intro c; unfold State.chan; rw [hc]
  · intro c; unfold State.chan; rw [hc]
  · intro c; unfold State.chan; rw [hc]
  · intro c; unfold State.chan; rw [hc]
  · intro c; unfold State.chan; rw [hc]
  · intro c; unfold State.chan; rw [hc]
  · intro c l; unfold State.chan; rw [hc]
  · intro c l; unfold State.chan; rw [hc]
  · exact k.secs (off_of_and hm (by decide))
  · exact k.tens (off_of_and hm (by decide))
  · exact k.badTens (off_of_and hm (by decide))
  · exact k.pages (off_of_and hm (by decide))
  · exact k.panels (off_of_and hm (by decide))
  · exact k.trackers (off_of_and hm (by decide))
  · exact k.rulesOn (off_of_and hm (by decide))
  · exact k.live (off_of_and hm (by decide))
  · exact k.groups (off_of_and hm (by decide))
  · exact k.tree (off_of_and hm (by decide))
  · exact k.windows (off_of_and hm (by decide))
  · exact k.helds (off_of_and hm (by decide))
  · exact k.masks (off_of_and hm (by decide))
  · exact k.sideSums (off_of_and hm (by decide))
  · exact k.coreMap (off_of_and hm (by decide))
  · exact k.links (off_of_and hm (by decide))
  · exact k.queues (off_of_and hm (by decide))
  · exact k.free (off_of_and hm (by decide))

/-! Issue checks of every operation. -/

theorem opProduct_plan_agree (h : Agree s u) (op : Nat) (n : Nat) (m : List Byte) : (opProduct op).plan u n m = (opProduct op).plan s n m := by
  unfold opProduct OpSpec.base
  try simp (disch := decide) only [productPlan_agreeF h, productPlanned_agreeF h, productField_agreeF h, productNeeds_agreeF h, productCheck_agreeF h, rd_agree h, fget_agree h, fbit_agree h]

theorem opProduct_planned_agree (h : Agree s u) (op : Nat) (m : List Byte) : (opProduct op).planned u m = (opProduct op).planned s m := by
  unfold opProduct OpSpec.base
  try simp (disch := decide) only [productPlan_agreeF h, productPlanned_agreeF h, productField_agreeF h, productNeeds_agreeF h, productCheck_agreeF h, rd_agree h, fget_agree h, fbit_agree h]

theorem opProduct_fieldOk_agree (h : Agree s u) (op : Nat) (p : Nat) (m : List Byte) : (opProduct op).fieldOk u p m = (opProduct op).fieldOk s p m := by
  unfold opProduct OpSpec.base
  try simp (disch := decide) only [productPlan_agreeF h, productPlanned_agreeF h, productField_agreeF h, productNeeds_agreeF h, productCheck_agreeF h, rd_agree h, fget_agree h, fbit_agree h]

theorem opProduct_needs_agree (h : Agree s u) (op : Nat) (p : Nat) (m : List Byte) : (opProduct op).needs u p m = (opProduct op).needs s p m := by
  unfold opProduct OpSpec.base
  try simp (disch := decide) only [productPlan_agreeF h, productPlanned_agreeF h, productField_agreeF h, productNeeds_agreeF h, productCheck_agreeF h, rd_agree h, fget_agree h, fbit_agree h]

theorem opProduct_check_agree (h : Agree s u) (op : Nat) (p : Nat) (m : List Byte) : (opProduct op).check u p m = (opProduct op).check s p m := by
  unfold opProduct OpSpec.base
  try simp (disch := decide) only [productPlan_agreeF h, productPlanned_agreeF h, productField_agreeF h, productNeeds_agreeF h, productCheck_agreeF h, rd_agree h, fget_agree h, fbit_agree h]

theorem opProduct_late_agree (h : Agree s u) (op : Nat) (p c : Nat) (m : List Byte) (sh : List Nat) : (opProduct op).late u p c m sh = (opProduct op).late s p c m sh := by
  unfold opProduct OpSpec.base
  try simp (disch := decide) only [productPlan_agreeF h, productPlanned_agreeF h, productField_agreeF h, productNeeds_agreeF h, productCheck_agreeF h, rd_agree h, fget_agree h, fbit_agree h]

theorem opConvert_plan_agree (h : Agree s u) (k : Nat) (n : Nat) (m : List Byte) : (opConvert k).plan u n m = (opConvert k).plan s n m := by
  unfold opConvert OpSpec.base
  try simp (disch := decide) only [State_desc_agreeF h, descOf_agreeF h, convertFormatBad_agreeF h, regionPlan_agreeF h, regionField_agreeF h, learnedNeeds_agreeF h, regionPlanned_agreeF h, rd_agree h, fget_agree h, fbit_agree h]

theorem opConvert_planned_agree (h : Agree s u) (k : Nat) (m : List Byte) : (opConvert k).planned u m = (opConvert k).planned s m := by
  unfold opConvert OpSpec.base
  try simp (disch := decide) only [State_desc_agreeF h, descOf_agreeF h, convertFormatBad_agreeF h, regionPlan_agreeF h, regionField_agreeF h, learnedNeeds_agreeF h, regionPlanned_agreeF h, rd_agree h, fget_agree h, fbit_agree h]

theorem opConvert_fieldOk_agree (h : Agree s u) (k : Nat) (p : Nat) (m : List Byte) : (opConvert k).fieldOk u p m = (opConvert k).fieldOk s p m := by
  unfold opConvert OpSpec.base
  try simp (disch := decide) only [State_desc_agreeF h, descOf_agreeF h, convertFormatBad_agreeF h, regionPlan_agreeF h, regionField_agreeF h, learnedNeeds_agreeF h, regionPlanned_agreeF h, rd_agree h, fget_agree h, fbit_agree h]

theorem opConvert_needs_agree (h : Agree s u) (k : Nat) (p : Nat) (m : List Byte) : (opConvert k).needs u p m = (opConvert k).needs s p m := by
  unfold opConvert OpSpec.base
  try simp (disch := decide) only [State_desc_agreeF h, descOf_agreeF h, convertFormatBad_agreeF h, regionPlan_agreeF h, regionField_agreeF h, learnedNeeds_agreeF h, regionPlanned_agreeF h, rd_agree h, fget_agree h, fbit_agree h]

theorem opConvert_check_agree (h : Agree s u) (k : Nat) (p : Nat) (m : List Byte) : (opConvert k).check u p m = (opConvert k).check s p m := by
  unfold opConvert OpSpec.base
  try simp (disch := decide) only [State_desc_agreeF h, descOf_agreeF h, convertFormatBad_agreeF h, regionPlan_agreeF h, regionField_agreeF h, learnedNeeds_agreeF h, regionPlanned_agreeF h, rd_agree h, fget_agree h, fbit_agree h]

theorem opConvert_late_agree (h : Agree s u) (k : Nat) (p c : Nat) (m : List Byte) (sh : List Nat) : (opConvert k).late u p c m sh = (opConvert k).late s p c m sh := by
  unfold opConvert OpSpec.base
  try simp (disch := decide) only [State_desc_agreeF h, descOf_agreeF h, convertFormatBad_agreeF h, regionPlan_agreeF h, regionField_agreeF h, learnedNeeds_agreeF h, regionPlanned_agreeF h, rd_agree h, fget_agree h, fbit_agree h]

theorem opVector_plan_agree (h : Agree s u) (k : Nat) (n : Nat) (m : List Byte) : (opVector k).plan u n m = (opVector k).plan s n m := by
  unfold opVector OpSpec.base
  try simp (disch := decide) only [descOf_agreeF h, regionPlan_agreeF h, regionField_agreeF h, learnedNeeds_agreeF h, regionPlanned_agreeF h, rd_agree h, fget_agree h, fbit_agree h]

theorem opVector_planned_agree (h : Agree s u) (k : Nat) (m : List Byte) : (opVector k).planned u m = (opVector k).planned s m := by
  unfold opVector OpSpec.base
  try simp (disch := decide) only [descOf_agreeF h, regionPlan_agreeF h, regionField_agreeF h, learnedNeeds_agreeF h, regionPlanned_agreeF h, rd_agree h, fget_agree h, fbit_agree h]

theorem opVector_fieldOk_agree (h : Agree s u) (k : Nat) (p : Nat) (m : List Byte) : (opVector k).fieldOk u p m = (opVector k).fieldOk s p m := by
  unfold opVector OpSpec.base
  try simp (disch := decide) only [descOf_agreeF h, regionPlan_agreeF h, regionField_agreeF h, learnedNeeds_agreeF h, regionPlanned_agreeF h, rd_agree h, fget_agree h, fbit_agree h]

theorem opVector_needs_agree (h : Agree s u) (k : Nat) (p : Nat) (m : List Byte) : (opVector k).needs u p m = (opVector k).needs s p m := by
  unfold opVector OpSpec.base
  try simp (disch := decide) only [descOf_agreeF h, regionPlan_agreeF h, regionField_agreeF h, learnedNeeds_agreeF h, regionPlanned_agreeF h, rd_agree h, fget_agree h, fbit_agree h]

theorem opVector_check_agree (h : Agree s u) (k : Nat) (p : Nat) (m : List Byte) : (opVector k).check u p m = (opVector k).check s p m := by
  unfold opVector OpSpec.base
  try simp (disch := decide) only [descOf_agreeF h, regionPlan_agreeF h, regionField_agreeF h, learnedNeeds_agreeF h, regionPlanned_agreeF h, rd_agree h, fget_agree h, fbit_agree h]

theorem opVector_late_agree (h : Agree s u) (k : Nat) (p c : Nat) (m : List Byte) (sh : List Nat) : (opVector k).late u p c m sh = (opVector k).late s p c m sh := by
  unfold opVector OpSpec.base
  try simp (disch := decide) only [descOf_agreeF h, regionPlan_agreeF h, regionField_agreeF h, learnedNeeds_agreeF h, regionPlanned_agreeF h, rd_agree h, fget_agree h, fbit_agree h]

theorem opRows_plan_agree (h : Agree s u) (g : Bool) (n : Nat) (m : List Byte) : (opRows g).plan u n m = (opRows g).plan s n m := by
  unfold opRows OpSpec.base
  try simp (disch := decide) only [gatherBad_agreeF h, listedRows_agreeF h, gatherPlan_agreeF h, rd_agree h, fget_agree h, fbit_agree h]

theorem opRows_planned_agree (h : Agree s u) (g : Bool) (m : List Byte) : (opRows g).planned u m = (opRows g).planned s m := by
  unfold opRows OpSpec.base
  try simp (disch := decide) only [gatherBad_agreeF h, listedRows_agreeF h, gatherPlan_agreeF h, rd_agree h, fget_agree h, fbit_agree h]

theorem opRows_fieldOk_agree (h : Agree s u) (g : Bool) (p : Nat) (m : List Byte) : (opRows g).fieldOk u p m = (opRows g).fieldOk s p m := by
  unfold opRows OpSpec.base
  try simp (disch := decide) only [gatherBad_agreeF h, listedRows_agreeF h, gatherPlan_agreeF h, rd_agree h, fget_agree h, fbit_agree h]

theorem opRows_needs_agree (h : Agree s u) (g : Bool) (p : Nat) (m : List Byte) : (opRows g).needs u p m = (opRows g).needs s p m := by
  unfold opRows OpSpec.base
  try simp (disch := decide) only [gatherBad_agreeF h, listedRows_agreeF h, gatherPlan_agreeF h, rd_agree h, fget_agree h, fbit_agree h]

theorem opRows_check_agree (h : Agree s u) (g : Bool) (p : Nat) (m : List Byte) : (opRows g).check u p m = (opRows g).check s p m := by
  unfold opRows OpSpec.base
  try simp (disch := decide) only [gatherBad_agreeF h, listedRows_agreeF h, gatherPlan_agreeF h, rd_agree h, fget_agree h, fbit_agree h]

theorem opRows_late_agree (h : Agree s u) (g : Bool) (p c : Nat) (m : List Byte) (sh : List Nat) : (opRows g).late u p c m sh = (opRows g).late s p c m sh := by
  unfold opRows OpSpec.base
  try simp (disch := decide) only [gatherBad_agreeF h, listedRows_agreeF h, gatherPlan_agreeF h, rd_agree h, fget_agree h, fbit_agree h]

theorem opAttend_plan_agree (h : Agree s u) (n : Nat) (m : List Byte) : (opAttend).plan u n m = (opAttend).plan s n m := by
  unfold opAttend OpSpec.base
  try simp (disch := decide) only [descOf_agreeF h, isPool_agreeF h, attCheck_agreeF h, attPlan_agreeF h, attLate_agreeF h, rd_agree h, fget_agree h, fbit_agree h]

theorem opAttend_planned_agree (h : Agree s u) (m : List Byte) : (opAttend).planned u m = (opAttend).planned s m := by
  unfold opAttend OpSpec.base
  try simp (disch := decide) only [descOf_agreeF h, isPool_agreeF h, attCheck_agreeF h, attPlan_agreeF h, attLate_agreeF h, rd_agree h, fget_agree h, fbit_agree h]

theorem opAttend_fieldOk_agree (h : Agree s u) (p : Nat) (m : List Byte) : (opAttend).fieldOk u p m = (opAttend).fieldOk s p m := by
  unfold opAttend OpSpec.base
  try simp (disch := decide) only [descOf_agreeF h, isPool_agreeF h, attCheck_agreeF h, attPlan_agreeF h, attLate_agreeF h, rd_agree h, fget_agree h, fbit_agree h]

theorem opAttend_needs_agree (h : Agree s u) (p : Nat) (m : List Byte) : (opAttend).needs u p m = (opAttend).needs s p m := by
  unfold opAttend OpSpec.base
  try simp (disch := decide) only [descOf_agreeF h, isPool_agreeF h, attCheck_agreeF h, attPlan_agreeF h, attLate_agreeF h, rd_agree h, fget_agree h, fbit_agree h]

theorem opAttend_check_agree (h : Agree s u) (p : Nat) (m : List Byte) : (opAttend).check u p m = (opAttend).check s p m := by
  unfold opAttend OpSpec.base
  try simp (disch := decide) only [descOf_agreeF h, isPool_agreeF h, attCheck_agreeF h, attPlan_agreeF h, attLate_agreeF h, rd_agree h, fget_agree h, fbit_agree h]

theorem opAttend_late_agree (h : Agree s u) (p c : Nat) (m : List Byte) (sh : List Nat) : (opAttend).late u p c m sh = (opAttend).late s p c m sh := by
  unfold opAttend OpSpec.base
  try simp (disch := decide) only [descOf_agreeF h, isPool_agreeF h, attCheck_agreeF h, attPlan_agreeF h, attLate_agreeF h, rd_agree h, fget_agree h, fbit_agree h]

theorem opBwd_plan_agree (h : Agree s u) (k : Nat) (n : Nat) (m : List Byte) : (opBwd k).plan u n m = (opBwd k).plan s n m := by
  unfold opBwd OpSpec.base
  try simp (disch := decide) only [descOf_agreeF h, isPool_agreeF h, bwCheck_agreeF h, bwLate_agreeF h, bwPlan_agreeF h, rd_agree h, fget_agree h, fbit_agree h]

theorem opBwd_planned_agree (h : Agree s u) (k : Nat) (m : List Byte) : (opBwd k).planned u m = (opBwd k).planned s m := by
  unfold opBwd OpSpec.base
  try simp (disch := decide) only [descOf_agreeF h, isPool_agreeF h, bwCheck_agreeF h, bwLate_agreeF h, bwPlan_agreeF h, rd_agree h, fget_agree h, fbit_agree h]

theorem opBwd_fieldOk_agree (h : Agree s u) (k : Nat) (p : Nat) (m : List Byte) : (opBwd k).fieldOk u p m = (opBwd k).fieldOk s p m := by
  unfold opBwd OpSpec.base
  try simp (disch := decide) only [descOf_agreeF h, isPool_agreeF h, bwCheck_agreeF h, bwLate_agreeF h, bwPlan_agreeF h, rd_agree h, fget_agree h, fbit_agree h]

theorem opBwd_needs_agree (h : Agree s u) (k : Nat) (p : Nat) (m : List Byte) : (opBwd k).needs u p m = (opBwd k).needs s p m := by
  unfold opBwd OpSpec.base
  try simp (disch := decide) only [descOf_agreeF h, isPool_agreeF h, bwCheck_agreeF h, bwLate_agreeF h, bwPlan_agreeF h, rd_agree h, fget_agree h, fbit_agree h]

theorem opBwd_check_agree (h : Agree s u) (k : Nat) (p : Nat) (m : List Byte) : (opBwd k).check u p m = (opBwd k).check s p m := by
  unfold opBwd OpSpec.base
  try simp (disch := decide) only [descOf_agreeF h, isPool_agreeF h, bwCheck_agreeF h, bwLate_agreeF h, bwPlan_agreeF h, rd_agree h, fget_agree h, fbit_agree h]

theorem opBwd_late_agree (h : Agree s u) (k : Nat) (p c : Nat) (m : List Byte) (sh : List Nat) : (opBwd k).late u p c m sh = (opBwd k).late s p c m sh := by
  unfold opBwd OpSpec.base
  try simp (disch := decide) only [descOf_agreeF h, isPool_agreeF h, bwCheck_agreeF h, bwLate_agreeF h, bwPlan_agreeF h, rd_agree h, fget_agree h, fbit_agree h]

theorem opAppend_plan_agree (h : Agree s u) (n : Nat) (m : List Byte) : (opAppend).plan u n m = (opAppend).plan s n m := by
  unfold opAppend OpSpec.base
  try simp (disch := decide) only [descOf_agreeF h, chansOk_agreeF h, notPool_agreeF h, appendCheck_agreeF h, rd_agree h, fget_agree h, fbit_agree h]

theorem opAppend_planned_agree (h : Agree s u) (m : List Byte) : (opAppend).planned u m = (opAppend).planned s m := by
  unfold opAppend OpSpec.base
  try simp (disch := decide) only [descOf_agreeF h, chansOk_agreeF h, notPool_agreeF h, appendCheck_agreeF h, rd_agree h, fget_agree h, fbit_agree h]

theorem opAppend_fieldOk_agree (h : Agree s u) (p : Nat) (m : List Byte) : (opAppend).fieldOk u p m = (opAppend).fieldOk s p m := by
  unfold opAppend OpSpec.base
  try simp (disch := decide) only [descOf_agreeF h, chansOk_agreeF h, notPool_agreeF h, appendCheck_agreeF h, rd_agree h, fget_agree h, fbit_agree h]

theorem opAppend_needs_agree (h : Agree s u) (p : Nat) (m : List Byte) : (opAppend).needs u p m = (opAppend).needs s p m := by
  unfold opAppend OpSpec.base
  try simp (disch := decide) only [descOf_agreeF h, chansOk_agreeF h, notPool_agreeF h, appendCheck_agreeF h, rd_agree h, fget_agree h, fbit_agree h]

theorem opAppend_check_agree (h : Agree s u) (p : Nat) (m : List Byte) : (opAppend).check u p m = (opAppend).check s p m := by
  unfold opAppend OpSpec.base
  try simp (disch := decide) only [descOf_agreeF h, chansOk_agreeF h, notPool_agreeF h, appendCheck_agreeF h, rd_agree h, fget_agree h, fbit_agree h]

theorem opAppend_late_agree (h : Agree s u) (p c : Nat) (m : List Byte) (sh : List Nat) : (opAppend).late u p c m sh = (opAppend).late s p c m sh := by
  unfold opAppend OpSpec.base
  try simp (disch := decide) only [descOf_agreeF h, chansOk_agreeF h, notPool_agreeF h, appendCheck_agreeF h, rd_agree h, fget_agree h, fbit_agree h]

theorem opLookup_plan_agree (h : Agree s u) (k : Nat) (n : Nat) (m : List Byte) : (opLookup k).plan u n m = (opLookup k).plan s n m := by
  unfold opLookup OpSpec.base
  try simp (disch := decide) only [descOf_agreeF h, chansOk_agreeF h, notPool_agreeF h, lookupCheck_agreeF h, rd_agree h, fget_agree h, fbit_agree h]

theorem opLookup_planned_agree (h : Agree s u) (k : Nat) (m : List Byte) : (opLookup k).planned u m = (opLookup k).planned s m := by
  unfold opLookup OpSpec.base
  try simp (disch := decide) only [descOf_agreeF h, chansOk_agreeF h, notPool_agreeF h, lookupCheck_agreeF h, rd_agree h, fget_agree h, fbit_agree h]

theorem opLookup_fieldOk_agree (h : Agree s u) (k : Nat) (p : Nat) (m : List Byte) : (opLookup k).fieldOk u p m = (opLookup k).fieldOk s p m := by
  unfold opLookup OpSpec.base
  try simp (disch := decide) only [descOf_agreeF h, chansOk_agreeF h, notPool_agreeF h, lookupCheck_agreeF h, rd_agree h, fget_agree h, fbit_agree h]

theorem opLookup_needs_agree (h : Agree s u) (k : Nat) (p : Nat) (m : List Byte) : (opLookup k).needs u p m = (opLookup k).needs s p m := by
  unfold opLookup OpSpec.base
  try simp (disch := decide) only [descOf_agreeF h, chansOk_agreeF h, notPool_agreeF h, lookupCheck_agreeF h, rd_agree h, fget_agree h, fbit_agree h]

theorem opLookup_check_agree (h : Agree s u) (k : Nat) (p : Nat) (m : List Byte) : (opLookup k).check u p m = (opLookup k).check s p m := by
  unfold opLookup OpSpec.base
  try simp (disch := decide) only [descOf_agreeF h, chansOk_agreeF h, notPool_agreeF h, lookupCheck_agreeF h, rd_agree h, fget_agree h, fbit_agree h]

theorem opLookup_late_agree (h : Agree s u) (k : Nat) (p c : Nat) (m : List Byte) (sh : List Nat) : (opLookup k).late u p c m sh = (opLookup k).late s p c m sh := by
  unfold opLookup OpSpec.base
  try simp (disch := decide) only [descOf_agreeF h, chansOk_agreeF h, notPool_agreeF h, lookupCheck_agreeF h, rd_agree h, fget_agree h, fbit_agree h]

theorem opFork_plan_agree (h : Agree s u) (n : Nat) (m : List Byte) : (opFork).plan u n m = (opFork).plan s n m := by
  unfold opFork OpSpec.base
  try simp (disch := decide) only [descOf_agreeF h, isPool_agreeF h, ownsChan_agreeF h, notPool_agreeF h, rd_agree h, fget_agree h, fbit_agree h, h.c_priv]

theorem opFork_planned_agree (h : Agree s u) (m : List Byte) : (opFork).planned u m = (opFork).planned s m := by
  unfold opFork OpSpec.base
  try simp (disch := decide) only [descOf_agreeF h, isPool_agreeF h, ownsChan_agreeF h, notPool_agreeF h, rd_agree h, fget_agree h, fbit_agree h, h.c_priv]

theorem opFork_fieldOk_agree (h : Agree s u) (p : Nat) (m : List Byte) : (opFork).fieldOk u p m = (opFork).fieldOk s p m := by
  unfold opFork OpSpec.base
  try simp (disch := decide) only [descOf_agreeF h, isPool_agreeF h, ownsChan_agreeF h, notPool_agreeF h, rd_agree h, fget_agree h, fbit_agree h, h.c_priv]

theorem opFork_needs_agree (h : Agree s u) (p : Nat) (m : List Byte) : (opFork).needs u p m = (opFork).needs s p m := by
  unfold opFork OpSpec.base
  try simp (disch := decide) only [descOf_agreeF h, isPool_agreeF h, ownsChan_agreeF h, notPool_agreeF h, rd_agree h, fget_agree h, fbit_agree h, h.c_priv]

theorem opFork_check_agree (h : Agree s u) (p : Nat) (m : List Byte) : (opFork).check u p m = (opFork).check s p m := by
  unfold opFork OpSpec.base
  try simp (disch := decide) only [descOf_agreeF h, isPool_agreeF h, ownsChan_agreeF h, notPool_agreeF h, rd_agree h, fget_agree h, fbit_agree h, h.c_priv]

theorem opFork_late_agree (h : Agree s u) (p c : Nat) (m : List Byte) (sh : List Nat) : (opFork).late u p c m sh = (opFork).late s p c m sh := by
  unfold opFork OpSpec.base
  try simp (disch := decide) only [descOf_agreeF h, isPool_agreeF h, ownsChan_agreeF h, notPool_agreeF h, rd_agree h, fget_agree h, fbit_agree h, h.c_priv]

theorem opSlices_plan_agree (h : Agree s u) (r : Bool) (n : Nat) (m : List Byte) : (opSlices r).plan u n m = (opSlices r).plan s n m := by
  unfold opSlices OpSpec.base
  try simp (disch := decide) only [descOf_agreeF h, State_isTraining_agreeF h, rd_agree h, fget_agree h, fbit_agree h]

theorem opSlices_planned_agree (h : Agree s u) (r : Bool) (m : List Byte) : (opSlices r).planned u m = (opSlices r).planned s m := by
  unfold opSlices OpSpec.base
  try simp (disch := decide) only [descOf_agreeF h, State_isTraining_agreeF h, rd_agree h, fget_agree h, fbit_agree h]

theorem opSlices_fieldOk_agree (h : Agree s u) (r : Bool) (p : Nat) (m : List Byte) : (opSlices r).fieldOk u p m = (opSlices r).fieldOk s p m := by
  unfold opSlices OpSpec.base
  try simp (disch := decide) only [descOf_agreeF h, State_isTraining_agreeF h, rd_agree h, fget_agree h, fbit_agree h]

theorem opSlices_needs_agree (h : Agree s u) (r : Bool) (p : Nat) (m : List Byte) : (opSlices r).needs u p m = (opSlices r).needs s p m := by
  unfold opSlices OpSpec.base
  try simp (disch := decide) only [descOf_agreeF h, State_isTraining_agreeF h, rd_agree h, fget_agree h, fbit_agree h]

theorem opSlices_check_agree (h : Agree s u) (r : Bool) (p : Nat) (m : List Byte) : (opSlices r).check u p m = (opSlices r).check s p m := by
  unfold opSlices OpSpec.base
  try simp (disch := decide) only [descOf_agreeF h, State_isTraining_agreeF h, rd_agree h, fget_agree h, fbit_agree h]

theorem opSlices_late_agree (h : Agree s u) (r : Bool) (p c : Nat) (m : List Byte) (sh : List Nat) : (opSlices r).late u p c m sh = (opSlices r).late s p c m sh := by
  unfold opSlices OpSpec.base
  try simp (disch := decide) only [descOf_agreeF h, State_isTraining_agreeF h, rd_agree h, fget_agree h, fbit_agree h]

theorem opUpdate_plan_agree (h : Agree s u) (r : Bool) (n : Nat) (m : List Byte) : (opUpdate r).plan u n m = (opUpdate r).plan s n m := by
  unfold opUpdate OpSpec.base
  try simp (disch := decide) only [descOf_agreeF h, State_isTraining_agreeF h, rd_agree h, fget_agree h, fbit_agree h, h.rulesOn]

theorem opUpdate_planned_agree (h : Agree s u) (r : Bool) (m : List Byte) : (opUpdate r).planned u m = (opUpdate r).planned s m := by
  unfold opUpdate OpSpec.base
  try simp (disch := decide) only [descOf_agreeF h, State_isTraining_agreeF h, rd_agree h, fget_agree h, fbit_agree h, h.rulesOn]

theorem opUpdate_fieldOk_agree (h : Agree s u) (r : Bool) (p : Nat) (m : List Byte) : (opUpdate r).fieldOk u p m = (opUpdate r).fieldOk s p m := by
  unfold opUpdate OpSpec.base
  try simp (disch := decide) only [descOf_agreeF h, State_isTraining_agreeF h, rd_agree h, fget_agree h, fbit_agree h, h.rulesOn]

theorem opUpdate_needs_agree (h : Agree s u) (r : Bool) (p : Nat) (m : List Byte) : (opUpdate r).needs u p m = (opUpdate r).needs s p m := by
  unfold opUpdate OpSpec.base
  try simp (disch := decide) only [descOf_agreeF h, State_isTraining_agreeF h, rd_agree h, fget_agree h, fbit_agree h, h.rulesOn]

theorem opUpdate_check_agree (h : Agree s u) (r : Bool) (p : Nat) (m : List Byte) : (opUpdate r).check u p m = (opUpdate r).check s p m := by
  unfold opUpdate OpSpec.base
  try simp (disch := decide) only [descOf_agreeF h, State_isTraining_agreeF h, rd_agree h, fget_agree h, fbit_agree h, h.rulesOn]

theorem opUpdate_late_agree (h : Agree s u) (r : Bool) (p c : Nat) (m : List Byte) (sh : List Nat) : (opUpdate r).late u p c m sh = (opUpdate r).late s p c m sh := by
  unfold opUpdate OpSpec.base
  try simp (disch := decide) only [descOf_agreeF h, State_isTraining_agreeF h, rd_agree h, fget_agree h, fbit_agree h, h.rulesOn]

theorem opMarker_plan_agree (h : Agree s u) (n : Nat) (m : List Byte) : (opMarker).plan u n m = (opMarker).plan s n m := by
  unfold opMarker OpSpec.base
  try simp (disch := decide) only [rd_agree h, fget_agree h, fbit_agree h]

theorem opMarker_planned_agree (h : Agree s u) (m : List Byte) : (opMarker).planned u m = (opMarker).planned s m := by
  unfold opMarker OpSpec.base
  try simp (disch := decide) only [rd_agree h, fget_agree h, fbit_agree h]

theorem opMarker_fieldOk_agree (h : Agree s u) (p : Nat) (m : List Byte) : (opMarker).fieldOk u p m = (opMarker).fieldOk s p m := by
  unfold opMarker OpSpec.base
  try simp (disch := decide) only [rd_agree h, fget_agree h, fbit_agree h]

theorem opMarker_needs_agree (h : Agree s u) (p : Nat) (m : List Byte) : (opMarker).needs u p m = (opMarker).needs s p m := by
  unfold opMarker OpSpec.base
  try simp (disch := decide) only [rd_agree h, fget_agree h, fbit_agree h]

theorem opMarker_check_agree (h : Agree s u) (p : Nat) (m : List Byte) : (opMarker).check u p m = (opMarker).check s p m := by
  unfold opMarker OpSpec.base
  try simp (disch := decide) only [rd_agree h, fget_agree h, fbit_agree h]

theorem opMarker_late_agree (h : Agree s u) (p c : Nat) (m : List Byte) (sh : List Nat) : (opMarker).late u p c m sh = (opMarker).late s p c m sh := by
  unfold opMarker OpSpec.base
  try simp (disch := decide) only [rd_agree h, fget_agree h, fbit_agree h]

theorem opBarrier_plan_agree (h : Agree s u) (n : Nat) (m : List Byte) : (opBarrier).plan u n m = (opBarrier).plan s n m := by
  unfold opBarrier OpSpec.base
  try simp (disch := decide) only [barScope_agreeF h, rd_agree h, fget_agree h, fbit_agree h]

theorem opBarrier_planned_agree (h : Agree s u) (m : List Byte) : (opBarrier).planned u m = (opBarrier).planned s m := by
  unfold opBarrier OpSpec.base
  try simp (disch := decide) only [barScope_agreeF h, rd_agree h, fget_agree h, fbit_agree h]

theorem opBarrier_fieldOk_agree (h : Agree s u) (p : Nat) (m : List Byte) : (opBarrier).fieldOk u p m = (opBarrier).fieldOk s p m := by
  unfold opBarrier OpSpec.base
  try simp (disch := decide) only [barScope_agreeF h, rd_agree h, fget_agree h, fbit_agree h]

theorem opBarrier_needs_agree (h : Agree s u) (p : Nat) (m : List Byte) : (opBarrier).needs u p m = (opBarrier).needs s p m := by
  unfold opBarrier OpSpec.base
  try simp (disch := decide) only [barScope_agreeF h, rd_agree h, fget_agree h, fbit_agree h]

theorem opBarrier_check_agree (h : Agree s u) (p : Nat) (m : List Byte) : (opBarrier).check u p m = (opBarrier).check s p m := by
  unfold opBarrier OpSpec.base
  try simp (disch := decide) only [barScope_agreeF h, rd_agree h, fget_agree h, fbit_agree h]

theorem opBarrier_late_agree (h : Agree s u) (p c : Nat) (m : List Byte) (sh : List Nat) : (opBarrier).late u p c m sh = (opBarrier).late s p c m sh := by
  unfold opBarrier OpSpec.base
  try simp (disch := decide) only [barScope_agreeF h, rd_agree h, fget_agree h, fbit_agree h]

theorem opRead_plan_agree (h : Agree s u) (b : Bool) (n : Nat) (m : List Byte) : (opRead b).plan u n m = (opRead b).plan s n m := by
  unfold opRead OpSpec.base
  try simp (disch := decide) only [queueCause_agreeF h, rd_agree h, fget_agree h, fbit_agree h]

theorem opRead_planned_agree (h : Agree s u) (b : Bool) (m : List Byte) : (opRead b).planned u m = (opRead b).planned s m := by
  unfold opRead OpSpec.base
  try simp (disch := decide) only [queueCause_agreeF h, rd_agree h, fget_agree h, fbit_agree h]

theorem opRead_fieldOk_agree (h : Agree s u) (b : Bool) (p : Nat) (m : List Byte) : (opRead b).fieldOk u p m = (opRead b).fieldOk s p m := by
  unfold opRead OpSpec.base
  try simp (disch := decide) only [queueCause_agreeF h, rd_agree h, fget_agree h, fbit_agree h]

theorem opRead_needs_agree (h : Agree s u) (b : Bool) (p : Nat) (m : List Byte) : (opRead b).needs u p m = (opRead b).needs s p m := by
  unfold opRead OpSpec.base
  try simp (disch := decide) only [queueCause_agreeF h, rd_agree h, fget_agree h, fbit_agree h]

theorem opRead_check_agree (h : Agree s u) (b : Bool) (p : Nat) (m : List Byte) : (opRead b).check u p m = (opRead b).check s p m := by
  unfold opRead OpSpec.base
  try simp (disch := decide) only [queueCause_agreeF h, rd_agree h, fget_agree h, fbit_agree h]

theorem opRead_late_agree (h : Agree s u) (b : Bool) (p c : Nat) (m : List Byte) (sh : List Nat) : (opRead b).late u p c m sh = (opRead b).late s p c m sh := by
  unfold opRead OpSpec.base
  try simp (disch := decide) only [queueCause_agreeF h, rd_agree h, fget_agree h, fbit_agree h]

theorem opIndex_plan_agree (h : Agree s u) (k : Nat) (n : Nat) (m : List Byte) : (opIndex k).plan u n m = (opIndex k).plan s n m := by
  unfold opIndex OpSpec.base
  try simp (disch := decide) only [queueCause_agreeF h, rd_agree h, fget_agree h, fbit_agree h]

theorem opIndex_planned_agree (h : Agree s u) (k : Nat) (m : List Byte) : (opIndex k).planned u m = (opIndex k).planned s m := by
  unfold opIndex OpSpec.base
  try simp (disch := decide) only [queueCause_agreeF h, rd_agree h, fget_agree h, fbit_agree h]

theorem opIndex_fieldOk_agree (h : Agree s u) (k : Nat) (p : Nat) (m : List Byte) : (opIndex k).fieldOk u p m = (opIndex k).fieldOk s p m := by
  unfold opIndex OpSpec.base
  try simp (disch := decide) only [queueCause_agreeF h, rd_agree h, fget_agree h, fbit_agree h]

theorem opIndex_needs_agree (h : Agree s u) (k : Nat) (p : Nat) (m : List Byte) : (opIndex k).needs u p m = (opIndex k).needs s p m := by
  unfold opIndex OpSpec.base
  try simp (disch := decide) only [queueCause_agreeF h, rd_agree h, fget_agree h, fbit_agree h]

theorem opIndex_check_agree (h : Agree s u) (k : Nat) (p : Nat) (m : List Byte) : (opIndex k).check u p m = (opIndex k).check s p m := by
  unfold opIndex OpSpec.base
  try simp (disch := decide) only [queueCause_agreeF h, rd_agree h, fget_agree h, fbit_agree h]

theorem opIndex_late_agree (h : Agree s u) (k : Nat) (p c : Nat) (m : List Byte) (sh : List Nat) : (opIndex k).late u p c m sh = (opIndex k).late s p c m sh := by
  unfold opIndex OpSpec.base
  try simp (disch := decide) only [queueCause_agreeF h, rd_agree h, fget_agree h, fbit_agree h]


theorem rejectCause_agree (h : Agree s u) (o : OpSpec) (p c : Nat) (st : Strm) (m : List Byte)
    (hf : o.fieldOk u p m = o.fieldOk s p m) (hn : o.needs u p m = o.needs s p m) (hc : o.check u p m = o.check s p m)
    (hp : o.planned u m = o.planned s m) (hl : ∀ sh, o.late u p c m sh = o.late s p c m sh) :
    rejectCause o u p c st m = rejectCause o s p c st m := by
  unfold rejectCause
  simp only [hf, hn, hc, hp, hl, layerAt_agreeF h, State_desc_agreeF h, shapeOf_agreeF h, h.trackers]

theorem opProduct_reject_agree (h : Agree s u) (op : Nat) (p c : Nat) (st : Strm) (m : List Byte) :
    rejectCause (opProduct op) u p c st m = rejectCause (opProduct op) s p c st m :=
  rejectCause_agree h _ p c st m (opProduct_fieldOk_agree h op p m) (opProduct_needs_agree h op p m) (opProduct_check_agree h op p m)
    (opProduct_planned_agree h op m) fun sh => opProduct_late_agree h op p c m sh

theorem opConvert_reject_agree (h : Agree s u) (k : Nat) (p c : Nat) (st : Strm) (m : List Byte) :
    rejectCause (opConvert k) u p c st m = rejectCause (opConvert k) s p c st m :=
  rejectCause_agree h _ p c st m (opConvert_fieldOk_agree h k p m) (opConvert_needs_agree h k p m) (opConvert_check_agree h k p m)
    (opConvert_planned_agree h k m) fun sh => opConvert_late_agree h k p c m sh

theorem opVector_reject_agree (h : Agree s u) (k : Nat) (p c : Nat) (st : Strm) (m : List Byte) :
    rejectCause (opVector k) u p c st m = rejectCause (opVector k) s p c st m :=
  rejectCause_agree h _ p c st m (opVector_fieldOk_agree h k p m) (opVector_needs_agree h k p m) (opVector_check_agree h k p m)
    (opVector_planned_agree h k m) fun sh => opVector_late_agree h k p c m sh

theorem opRows_reject_agree (h : Agree s u) (g : Bool) (p c : Nat) (st : Strm) (m : List Byte) :
    rejectCause (opRows g) u p c st m = rejectCause (opRows g) s p c st m :=
  rejectCause_agree h _ p c st m (opRows_fieldOk_agree h g p m) (opRows_needs_agree h g p m) (opRows_check_agree h g p m)
    (opRows_planned_agree h g m) fun sh => opRows_late_agree h g p c m sh

theorem opAttend_reject_agree (h : Agree s u) (p c : Nat) (st : Strm) (m : List Byte) :
    rejectCause (opAttend) u p c st m = rejectCause (opAttend) s p c st m :=
  rejectCause_agree h _ p c st m (opAttend_fieldOk_agree h p m) (opAttend_needs_agree h p m) (opAttend_check_agree h p m)
    (opAttend_planned_agree h m) fun sh => opAttend_late_agree h p c m sh

theorem opBwd_reject_agree (h : Agree s u) (k : Nat) (p c : Nat) (st : Strm) (m : List Byte) :
    rejectCause (opBwd k) u p c st m = rejectCause (opBwd k) s p c st m :=
  rejectCause_agree h _ p c st m (opBwd_fieldOk_agree h k p m) (opBwd_needs_agree h k p m) (opBwd_check_agree h k p m)
    (opBwd_planned_agree h k m) fun sh => opBwd_late_agree h k p c m sh

theorem opAppend_reject_agree (h : Agree s u) (p c : Nat) (st : Strm) (m : List Byte) :
    rejectCause (opAppend) u p c st m = rejectCause (opAppend) s p c st m :=
  rejectCause_agree h _ p c st m (opAppend_fieldOk_agree h p m) (opAppend_needs_agree h p m) (opAppend_check_agree h p m)
    (opAppend_planned_agree h m) fun sh => opAppend_late_agree h p c m sh

theorem opLookup_reject_agree (h : Agree s u) (k : Nat) (p c : Nat) (st : Strm) (m : List Byte) :
    rejectCause (opLookup k) u p c st m = rejectCause (opLookup k) s p c st m :=
  rejectCause_agree h _ p c st m (opLookup_fieldOk_agree h k p m) (opLookup_needs_agree h k p m) (opLookup_check_agree h k p m)
    (opLookup_planned_agree h k m) fun sh => opLookup_late_agree h k p c m sh

theorem opFork_reject_agree (h : Agree s u) (p c : Nat) (st : Strm) (m : List Byte) :
    rejectCause (opFork) u p c st m = rejectCause (opFork) s p c st m :=
  rejectCause_agree h _ p c st m (opFork_fieldOk_agree h p m) (opFork_needs_agree h p m) (opFork_check_agree h p m)
    (opFork_planned_agree h m) fun sh => opFork_late_agree h p c m sh

theorem opSlices_reject_agree (h : Agree s u) (r : Bool) (p c : Nat) (st : Strm) (m : List Byte) :
    rejectCause (opSlices r) u p c st m = rejectCause (opSlices r) s p c st m :=
  rejectCause_agree h _ p c st m (opSlices_fieldOk_agree h r p m) (opSlices_needs_agree h r p m) (opSlices_check_agree h r p m)
    (opSlices_planned_agree h r m) fun sh => opSlices_late_agree h r p c m sh

theorem opUpdate_reject_agree (h : Agree s u) (r : Bool) (p c : Nat) (st : Strm) (m : List Byte) :
    rejectCause (opUpdate r) u p c st m = rejectCause (opUpdate r) s p c st m :=
  rejectCause_agree h _ p c st m (opUpdate_fieldOk_agree h r p m) (opUpdate_needs_agree h r p m) (opUpdate_check_agree h r p m)
    (opUpdate_planned_agree h r m) fun sh => opUpdate_late_agree h r p c m sh

theorem opMarker_reject_agree (h : Agree s u) (p c : Nat) (st : Strm) (m : List Byte) :
    rejectCause (opMarker) u p c st m = rejectCause (opMarker) s p c st m :=
  rejectCause_agree h _ p c st m (opMarker_fieldOk_agree h p m) (opMarker_needs_agree h p m) (opMarker_check_agree h p m)
    (opMarker_planned_agree h m) fun sh => opMarker_late_agree h p c m sh

theorem opBarrier_reject_agree (h : Agree s u) (p c : Nat) (st : Strm) (m : List Byte) :
    rejectCause (opBarrier) u p c st m = rejectCause (opBarrier) s p c st m :=
  rejectCause_agree h _ p c st m (opBarrier_fieldOk_agree h p m) (opBarrier_needs_agree h p m) (opBarrier_check_agree h p m)
    (opBarrier_planned_agree h m) fun sh => opBarrier_late_agree h p c m sh

theorem opRead_reject_agree (h : Agree s u) (b : Bool) (p c : Nat) (st : Strm) (m : List Byte) :
    rejectCause (opRead b) u p c st m = rejectCause (opRead b) s p c st m :=
  rejectCause_agree h _ p c st m (opRead_fieldOk_agree h b p m) (opRead_needs_agree h b p m) (opRead_check_agree h b p m)
    (opRead_planned_agree h b m) fun sh => opRead_late_agree h b p c m sh

theorem opIndex_reject_agree (h : Agree s u) (k : Nat) (p c : Nat) (st : Strm) (m : List Byte) :
    rejectCause (opIndex k) u p c st m = rejectCause (opIndex k) s p c st m :=
  rejectCause_agree h _ p c st m (opIndex_fieldOk_agree h k p m) (opIndex_needs_agree h k p m) (opIndex_check_agree h k p m)
    (opIndex_planned_agree h k m) fun sh => opIndex_late_agree h k p c m sh

end

end Sys2Proof.Laws
end

