-- ==== Sys2Proof/Laws/KeepsFaults.lean ====
section
/-! SUPPORT. What each operation of Sys2Proof/Machine/Faults.lean may write (Laws/Keeps.lean says how a mask is read). -/
namespace Sys2Proof.Laws
open Sys2Proof Sys2Proof.Machine

set_option linter.unusedVariables false

theorem execCoreFaultWindowExpire_keeps {c : Fin 1056} {s : State} :
    OutKeeps 0x200000000000000000000000000000000000000000000000000000000000000000000000000000000000000000000000000000000000000000000000000000000000400 s (execCoreFaultWindowExpire c s) := by
  unfold execCoreFaultWindowExpire
  refine OutKeeps.ite ?_ ?_
  ·
    refine done_keeps ?_
    refine Keeps.trans ?_ (State_setCore_keeps.mono rfl)
    refine Keeps.trans ?_ (State_fset_keeps (by rfl))
    exact Keeps.refl
  ·
    refine done_keeps ?_
    exact Keeps.refl

theorem timeoutAt_keeps {s : State} {z30 : HsTarget} :
    Keeps 0xc104191efffd7000142000000000000000000000000000000000000000000000000000000000000000100e0000000000210000000700000968028000000000a0dc88000000000000540 s (timeoutAt s z30) := by
  unfold timeoutAt
  split
  ·
    refine Keeps.ite ?_ ?_
    ·
      exact Keeps.refl
    ·
      refine Keeps.trans ?_ (State_replayFault_keeps.mono rfl)
      exact Keeps.refl
  ·
    refine Keeps.trans ?_ (State_feltStepFault_keeps.mono rfl)
    refine Keeps.trans ?_ (State_feltFlt_keeps.mono rfl)
    exact Keeps.refl
  ·
    refine Keeps.ite ?_ ?_
    ·
      exact Keeps.refl
    ·
      refine Keeps.trans ?_ (State_dieStepFault_keeps.mono rfl)
      refine Keeps.trans ?_ (State_dieFlt_keeps.mono rfl)
      exact Keeps.refl

theorem execHandshakeTimeout_keeps {x : HsTarget} {s : State} :
    OutKeeps 0xc104191efffd7000142000000000000000000000000000000000000000000000000000000000000000100e0000000000210000000700000968028000000000a0dc88000000000000540 s (execHandshakeTimeout x s) := by
  unfold execHandshakeTimeout
  refine done_keeps ?_
  refine Keeps.trans ?_ (timeoutAt_keeps.mono rfl)
  exact Keeps.refl

end Sys2Proof.Laws
end

