-- ==== Sys2Proof/Laws/KeepsPackets.lean ====
section
/-! SUPPORT. What each operation of Sys2Proof/Machine/Packets.lean may write (Laws/Keeps.lean says how a mask is read). -/
namespace Sys2Proof.Laws
open Sys2Proof Sys2Proof.Machine

set_option linter.unusedVariables false

theorem discardFlit_keeps {s : State} {p : Nat} :
    Keeps 0x11000000000000000000000000000000000000000000000000000000000000000000000000000000000000000000000000000000000000000000000000001880000000000000040 s (discardFlit s p) := by
  unfold discardFlit
  extract_lets -underBinder +onlyGivenNames x0
  try clear_value x0
  refine Keeps.ite ?_ ?_
  ·
    exact Keeps.refl
  ·
    refine Keeps.trans ?_ (State_pump_keeps.mono rfl)
    refine Keeps.trans ?_ (State_setPort_keeps.mono rfl)
    exact Keeps.refl

theorem chainReleaseHere_keeps {s : State} {q : Packet} :
    Keeps 0x5e000060000000000000000000000000000000000000000000000000000000000000000000000000000000000021000000000000000000000000000000189ae00000000000040 s (chainReleaseHere s q) := by
  unfold chainReleaseHere
  extract_lets -underBinder +onlyGivenNames x0
  try clear_value x0
  extract_lets -underBinder +onlyGivenNames x1
  try clear_value x1
  refine Keeps.ite ?_ ?_
  ·
    refine Keeps.trans ?_ (upd_voteOut rfl)
    exact Keeps.refl
  ·
    refine Keeps.trans ?_ (chainRelease_keeps.mono rfl)
    exact Keeps.refl

theorem ctrlReadHere_keeps {port : Fin 16} {s : State} {q : Packet} :
    Keeps 0x8004110000000000024ffffffffffffffffffffffffffffffffffffffffffffffffffffffffffffffffffffffffffffffffffffffffffffffffffffffffffffffffffffffffffffffff s (ctrlReadHere port s q) := by
  unfold ctrlReadHere
  extract_lets -underBinder +onlyGivenNames x0
  have h0 : Keeps 0x8004110000000000024ffffffffffffffffffffffffffffffffffffffffffffffffffffffffffffffffffffffffffffffffffffffffffffffffffffffffffffffffffffffffffffffff s x0 := by
    unfold x0
    refine Keeps.trans ?_ (State_ctrlLoad_keeps.mono rfl)
    exact Keeps.refl
  try clear_value x0
  refine Keeps.trans ?_ (respond_keeps.mono rfl)
  exact h0

theorem takeNak_keeps {s : State} {p : Nat} :
    Keeps 0xc1843f0821c47000140000000000000000000000000000000000000000000000000000000000000000394e000000000021000000050008000800000000000000d880000000000000040 s (takeNak s p) := by
  unfold takeNak
  extract_lets -underBinder +onlyGivenNames x0
  try clear_value x0
  refine Keeps.ite ?_ ?_
  ·
    refine Keeps.trans ?_ (State_pump_keeps.mono rfl)
    exact Keeps.refl
  ·
    refine Keeps.ite ?_ ?_
    ·
      refine Keeps.trans ?_ (linkFault_keeps.mono rfl)
      exact Keeps.refl
    ·
      extract_lets -underBinder +onlyGivenNames x1
      have h1 : Keeps 0xc1843f0821c47000140000000000000000000000000000000000000000000000000000000000000000394e000000000021000000050008000800000000000000d880000000000000040 s x1 := by
        unfold x1
        refine Keeps.trans ?_ (State_pump_keeps.mono rfl)
        refine Keeps.trans ?_ (State_setPort_keeps.mono rfl)
        refine Keeps.trans ?_ (State_finc_keeps (by rfl))
        exact Keeps.refl
      try clear_value x1
      refine Keeps.trans ?_ (State_setPort_keeps.mono rfl)
      exact h1

theorem takeHeader_keeps {s : State} {p : Nat} {b : List Byte} :
    Keeps 0xc1863f0821c47000140000000000000000000000000000000000000000000000000000000000000000394e000000000021000000050008000800000000000000d880000000000000040 s (takeHeader s p b) := by
  unfold takeHeader
  extract_lets -underBinder +onlyGivenNames x0
  try clear_value x0
  extract_lets -underBinder +onlyGivenNames x1
  have h1 : Keeps 0xc1863f0821c47000140000000000000000000000000000000000000000000000000000000000000000394e000000000021000000050008000800000000000000d880000000000000040 s x1 := by
    unfold x1
    refine Keeps.trans ?_ (releaseRoutes_keeps.mono rfl)
    refine Keeps.trans ?_ (State_setPort_keeps.mono rfl)
    exact Keeps.refl
  try clear_value x1
  refine Keeps.ite ?_ ?_
  ·
    refine Keeps.trans ?_ (takeNak_keeps.mono rfl)
    exact h1
  ·
    refine Keeps.trans ?_ (State_pump_keeps.mono rfl)
    exact h1

theorem chainArriveHere_keeps {s : State} {q : Packet} :
    Keeps 0xc104117e00006000142000000000000000000000000000000000000000000000000000000000000000100e00000000002100000004003c800800000000000000d882e00000000000040 s (chainArriveHere s q) := by
  unfold chainArriveHere
  extract_lets -underBinder +onlyGivenNames x0
  try clear_value x0
  extract_lets -underBinder +onlyGivenNames x1
  try clear_value x1
  refine Keeps.trans ?_ (chainArrive_keeps.mono rfl)
  refine Keeps.trans ?_ (State_useFree_keeps.mono rfl)
  exact Keeps.refl

theorem execCtrlRead_keeps {port : Fin 16} {pkt : Packet} {s : State} :
    OutKeeps 0x8004710000000000024ffffffffffffffffffffffffffffffffffffffffffffffffffffffffffffffffffffffffffffffffffffffffffffffffffffffffffffffffffffffffffffffff s (execCtrlRead port pkt s) := by
  unfold execCtrlRead
  refine done_keeps ?_
  refine Keeps.trans ?_ (arrive_keeps rfl (fun f0_0 f0_1 => ?_))
  ·
    exact Keeps.refl
  ·
    refine Keeps.trans ?_ (ctrlReadHere_keeps.mono rfl)
    exact Keeps.refl

theorem ctrlWriteHere_keeps {port : Fin 16} {s : State} {q : Packet} :
    Keeps 0x2f7febf8ffffd72c2542ffffffffffffffffffffffffffffffffffffffffffffffffffffffffffffffffffffffffffffffffffffffffffffffffffffffffffffffffffffffffffffffff s (ctrlWriteHere port s q) := by
  unfold ctrlWriteHere
  extract_lets -underBinder +onlyGivenNames x0
  try clear_value x0
  extract_lets -underBinder +onlyGivenNames x1
  try clear_value x1
  extract_lets -underBinder +onlyGivenNames x2
  try clear_value x2
  split
  ·
    refine Keeps.trans ?_ (answer_keeps.mono rfl)
    refine Keeps.trans ?_ (enterFailed_keeps.mono rfl)
    exact Keeps.refl
  ·
    refine Keeps.trans ?_ (answer_keeps.mono rfl)
    refine Keeps.trans ?_ (State_ctrlStore_keeps.mono rfl)
    exact Keeps.refl

theorem execCtrlWrite_keeps {port : Fin 16} {pkt : Packet} {s : State} :
    OutKeeps 0x2f7feff8ffffd72c2542ffffffffffffffffffffffffffffffffffffffffffffffffffffffffffffffffffffffffffffffffffffffffffffffffffffffffffffffffffffffffffffffff s (execCtrlWrite port pkt s) := by
  unfold execCtrlWrite
  refine done_keeps ?_
  refine Keeps.trans ?_ (arrive_keeps rfl (fun f0_0 f0_1 => ?_))
  ·
    exact Keeps.refl
  ·
    refine Keeps.trans ?_ (ctrlWriteHere_keeps.mono rfl)
    exact Keeps.refl

theorem packetHere_keeps {port : Fin 16} {s : State} {q : Packet} :
    Keeps 0x16fffffffffffdf3fffeeffffffffffffffffffffffffffffffffffffffffffffffffffffffffffffffffffffffffffffffffffffffffffffffffffffffffffffffffffffffffffffffff s (packetHere port s q) := by
  unfold packetHere
  split
  ·
    refine Keeps.trans ?_ (writeHere_keeps.mono rfl)
    exact Keeps.refl
  ·
    refine Keeps.trans ?_ (writeHere_keeps.mono rfl)
    exact Keeps.refl
  ·
    refine Keeps.trans ?_ (readHere_keeps.mono rfl)
    exact Keeps.refl
  ·
    refine Keeps.trans ?_ (ctrlWriteHere_keeps.mono rfl)
    exact Keeps.refl
  ·
    refine Keeps.trans ?_ (ctrlReadHere_keeps.mono rfl)
    exact Keeps.refl
  ·
    refine Keeps.trans ?_ (pushHere_keeps.mono rfl)
    exact Keeps.refl
  ·
    refine Keeps.trans ?_ (markerHere_keeps.mono rfl)
    exact Keeps.refl
  ·
    refine Keeps.trans ?_ (chainArriveHere_keeps.mono rfl)
    exact Keeps.refl
  ·
    refine Keeps.trans ?_ (chainReleaseHere_keeps.mono rfl)
    exact Keeps.refl
  ·
    refine Keeps.trans ?_ (discoverHere_keeps.mono rfl)
    exact Keeps.refl
  ·
    refine Keeps.trans ?_ (discoverRspHere_keeps.mono rfl)
    exact Keeps.refl
  ·
    refine Keeps.trans ?_ (assignHere_keeps.mono rfl)
    exact Keeps.refl
  ·
    refine Keeps.trans ?_ (warmHere_keeps.mono rfl)
    exact Keeps.refl
  ·
    refine Keeps.trans ?_ (answerHere_keeps.mono rfl)
    exact Keeps.refl

theorem takePacket_keeps {port : Fin 16} {s : State} {q : Packet} :
    Keeps 0x16fffffffffffdf3fffeeffffffffffffffffffffffffffffffffffffffffffffffffffffffffffffffffffffffffffffffffffffffffffffffffffffffffffffffffffffffffffffffff s (takePacket port s q) := by
  unfold takePacket
  refine Keeps.ite ?_ ?_
  ·
    refine Keeps.ite ?_ ?_
    ·
      exact Keeps.refl
    ·
      refine Keeps.trans ?_ (badPacket_keeps.mono rfl)
      exact Keeps.refl
  ·
    refine Keeps.trans ?_ (arrive_keeps rfl (fun f0_0 f0_1 => ?_))
    ·
      exact Keeps.refl
    ·
      refine Keeps.trans ?_ (packetHere_keeps.mono rfl)
      exact Keeps.refl

theorem flitIn_keeps {s : State} {port : Fin 16} {b : List Byte} :
    Keeps 0x16fffffffffffdf3fffeeffffffffffffffffffffffffffffffffffffffffffffffffffffffffffffffffffffffffffffffffffffffffffffffffffffffffffffffffffffffffffffffff s (flitIn s port b) := by
  unfold flitIn
  refine Keeps.ite ?_ ?_
  ·
    exact Keeps.refl
  ·
    refine Keeps.ite ?_ ?_
    ·
      refine Keeps.trans ?_ (discardFlit_keeps.mono rfl)
      refine Keeps.trans ?_ (State_finc_keeps (by rfl))
      exact Keeps.refl
    ·
      refine Keeps.ite ?_ ?_
      ·
        refine Keeps.trans ?_ (discardFlit_keeps.mono rfl)
        exact Keeps.refl
      ·
        extract_lets -underBinder +onlyGivenNames x0
        try clear_value x0
        extract_lets -underBinder +onlyGivenNames x1
        try clear_value x1
        split
        ·
          extract_lets -underBinder +onlyGivenNames x2
          have h2 : Keeps 0x16fffffffffffdf3fffeeffffffffffffffffffffffffffffffffffffffffffffffffffffffffffffffffffffffffffffffffffffffffffffffffffffffffffffffffffffffffffffffff s x2 := by
            unfold x2
            refine Keeps.trans ?_ (State_setPort_keeps.mono rfl)
            exact Keeps.refl
          try clear_value x2
          refine Keeps.trans ?_ (resumeAll_keeps.mono rfl)
          refine Keeps.trans ?_ (takeHeader_keeps.mono rfl)
          refine Keeps.trans ?_ (Keeps.foldl (fun s3 _ => ?_) _ _)
          ·
            exact h2
          ·
            refine Keeps.trans ?_ (takePacket_keeps.mono rfl)
            exact Keeps.refl

theorem execFlitReceive_keeps {port : Fin 16} {flit : List Byte} {s : State} :
    OutKeeps 0x16fffffffffffdf3fffeeffffffffffffffffffffffffffffffffffffffffffffffffffffffffffffffffffffffffffffffffffffffffffffffffffffffffffffffffffffffffffffffff s (execFlitReceive port flit s) := by
  unfold execFlitReceive
  refine done_keeps ?_
  refine Keeps.trans ?_ (flitIn_keeps.mono rfl)
  exact Keeps.refl

end Sys2Proof.Laws
end

