-- ==== Sys2Proof/Laws/Exec.lean ====
section
/-! SUPPORT. What every command and every step answers: a next state, with the queue's rest, canonical memories and ATTN_N
driven. -/
namespace Sys2Proof.Laws
open Sys2Proof Sys2Proof.Machine

/-- Every command answers a next state, leaves the queue and keeps the memories canonical. -/
theorem exec_keeps (i : Instr) (s : State) : OutKeeps 0x1ffffffffffffffffffffffffffffffffffffffffffffffffffffffffffffffffffffffffffffffffffffffffffffffffffffffffffffffffffffffffffffffffffffffffffffffffffff s (exec i s) := by
  cases i with
  | registerWrite x0 x1 x2 x3 x4 => exact OutKeeps.mono (o := execRegisterWrite x0 x1 x2 x3 x4 s) execRegisterWrite_keeps (by rfl)
  | lowWordRead x0 x1 => exact OutKeeps.mono (o := execLowWordRead x0 x1 s) execLowWordRead_keeps (by rfl)
  | rcRead x0 x1 x2 => exact OutKeeps.mono (o := execRcRead x0 x1 x2 s) execRcRead_keeps (by rfl)
  | corePark x0 => exact OutKeeps.mono (o := execCorePark x0 s) execCorePark_keeps (by rfl)
  | dieBeatWindowEnd x0 x1 => exact OutKeeps.mono (o := execDieBeatWindowEnd x0 x1 s) execDieBeatWindowEnd_keeps (by rfl)
  | driftCheck x0 => exact OutKeeps.mono (o := execDriftCheck x0 s) execDriftCheck_keeps (by rfl)
  | load x0 x1 => exact OutKeeps.mono (o := execLoad x0 x1 s) execLoad_keeps (by rfl)
  | loadPartial x0 x1 => exact OutKeeps.mono (o := execLoadPartial x0 x1 s) execLoadPartial_keeps (by rfl)
  | abort x0 x1 => exact OutKeeps.mono (o := execAbort x0 x1 s) execAbort_keeps (by rfl)
  | digestChecked  => exact OutKeeps.mono (o := execDigestChecked  s) execDigestChecked_keeps (by rfl)
  | signatureChecked  => exact OutKeeps.mono (o := execSignatureChecked  s) execSignatureChecked_keeps (by rfl)
  | structuralChecksDone x0 => exact OutKeeps.mono (o := execStructuralChecksDone x0 s) execStructuralChecksDone_keeps (by rfl)
  | loadApplied  => exact OutKeeps.mono (o := execLoadApplied  s) execLoadApplied_keeps (by rfl)
  | panelStop x0 x1 x2 => exact OutKeeps.mono (o := execPanelStop x0 x1 x2 s) execPanelStop_keeps (by rfl)
  | panelStart x0 x1 x2 => exact OutKeeps.mono (o := execPanelStart x0 x1 x2 s) execPanelStart_keeps (by rfl)
  | panelForce x0 x1 x2 => exact OutKeeps.mono (o := execPanelForce x0 x1 x2 s) execPanelForce_keeps (by rfl)
  | panelStarted x0 => exact OutKeeps.mono (o := execPanelStarted x0 s) execPanelStarted_keeps (by rfl)
  | panelDrained x0 => exact OutKeeps.mono (o := execPanelDrained x0 s) execPanelDrained_keeps (by rfl)
  | panelDrainTimeout x0 => exact OutKeeps.mono (o := execPanelDrainTimeout x0 s) execPanelDrainTimeout_keeps (by rfl)
  | matmulG x0 x1 => exact OutKeeps.mono (o := execMatmulG x0 x1 s) execMatmulG_keeps (by rfl)
  | matmulT x0 x1 => exact OutKeeps.mono (o := execMatmulT x0 x1 s) execMatmulT_keeps (by rfl)
  | matmulTdx x0 x1 => exact OutKeeps.mono (o := execMatmulTdx x0 x1 s) execMatmulTdx_keeps (by rfl)
  | matmulTdw x0 x1 => exact OutKeeps.mono (o := execMatmulTdw x0 x1 s) execMatmulTdw_keeps (by rfl)
  | skeinFetch x0 x1 => exact OutKeeps.mono (o := execSkeinFetch x0 x1 s) execSkeinFetch_keeps (by rfl)
  | unitComplete x0 x1 x2 => exact OutKeeps.mono (o := execUnitComplete x0 x1 x2 s) execUnitComplete_keeps (by rfl)
  | sliceAccepted x0 => exact OutKeeps.mono (o := execSliceAccepted x0 s) execSliceAccepted_keeps (by rfl)
  | sliceArrive x0 x1 => exact OutKeeps.mono (o := execSliceArrive x0 x1 s) execSliceArrive_keeps (by rfl)
  | sideRecordArrive x0 => exact OutKeeps.mono (o := execSideRecordArrive x0 s) execSideRecordArrive_keeps (by rfl)
  | macroComplete x0 => exact OutKeeps.mono (o := execMacroComplete x0 s) execMacroComplete_keeps (by rfl)
  | activationCheckpoint x0 x1 => exact OutKeeps.mono (o := execActivationCheckpoint x0 x1 s) execActivationCheckpoint_keeps (by rfl)
  | fp8Activation x0 x1 => exact OutKeeps.mono (o := execFp8Activation x0 x1 s) execFp8Activation_keeps (by rfl)
  | gradientConversion x0 x1 => exact OutKeeps.mono (o := execGradientConversion x0 x1 s) execGradientConversion_keeps (by rfl)
  | plainConversion x0 x1 => exact OutKeeps.mono (o := execPlainConversion x0 x1 s) execPlainConversion_keeps (by rfl)
  | trackerObservation x0 x1 => exact OutKeeps.mono (o := execTrackerObservation x0 x1 s) execTrackerObservation_keeps (by rfl)
  | seamTrkSelWrite x0 x1 x2 => exact OutKeeps.mono (o := execSeamTrkSelWrite x0 x1 x2 s) execSeamTrkSelWrite_keeps (by rfl)
  | clearCounts x0 x1 x2 x3 => exact OutKeeps.mono (o := execClearCounts x0 x1 x2 x3 s) execClearCounts_keeps (by rfl)
  | resnap x0 x1 x2 => exact OutKeeps.mono (o := execResnap x0 x1 x2 s) execResnap_keeps (by rfl)
  | add x0 x1 => exact OutKeeps.mono (o := execAdd x0 x1 s) execAdd_keeps (by rfl)
  | sub x0 x1 => exact OutKeeps.mono (o := execSub x0 x1 s) execSub_keeps (by rfl)
  | mul x0 x1 => exact OutKeeps.mono (o := execMul x0 x1 s) execMul_keeps (by rfl)
  | max x0 x1 => exact OutKeeps.mono (o := execMax x0 x1 s) execMax_keeps (by rfl)
  | min x0 x1 => exact OutKeeps.mono (o := execMin x0 x1 s) execMin_keeps (by rfl)
  | scale x0 x1 => exact OutKeeps.mono (o := execScale x0 x1 s) execScale_keeps (by rfl)
  | copy x0 x1 => exact OutKeeps.mono (o := execCopy x0 x1 s) execCopy_keeps (by rfl)
  | exp x0 x1 => exact OutKeeps.mono (o := execExp x0 x1 s) execExp_keeps (by rfl)
  | log x0 x1 => exact OutKeeps.mono (o := execLog x0 x1 s) execLog_keeps (by rfl)
  | recip x0 x1 => exact OutKeeps.mono (o := execRecip x0 x1 s) execRecip_keeps (by rfl)
  | rsqrt x0 x1 => exact OutKeeps.mono (o := execRsqrt x0 x1 s) execRsqrt_keeps (by rfl)
  | tanh x0 x1 => exact OutKeeps.mono (o := execTanh x0 x1 s) execTanh_keeps (by rfl)
  | sigmoid x0 x1 => exact OutKeeps.mono (o := execSigmoid x0 x1 s) execSigmoid_keeps (by rfl)
  | geluT x0 x1 => exact OutKeeps.mono (o := execGeluT x0 x1 s) execGeluT_keeps (by rfl)
  | geluE x0 x1 => exact OutKeeps.mono (o := execGeluE x0 x1 s) execGeluE_keeps (by rfl)
  | silu x0 x1 => exact OutKeeps.mono (o := execSilu x0 x1 s) execSilu_keeps (by rfl)
  | rowsum x0 x1 => exact OutKeeps.mono (o := execRowsum x0 x1 s) execRowsum_keeps (by rfl)
  | rowmax x0 x1 => exact OutKeeps.mono (o := execRowmax x0 x1 s) execRowmax_keeps (by rfl)
  | softmax x0 x1 => exact OutKeeps.mono (o := execSoftmax x0 x1 s) execSoftmax_keeps (by rfl)
  | rmsnorm x0 x1 => exact OutKeeps.mono (o := execRmsnorm x0 x1 s) execRmsnorm_keeps (by rfl)
  | layernorm x0 x1 => exact OutKeeps.mono (o := execLayernorm x0 x1 s) execLayernorm_keeps (by rfl)
  | gather x0 x1 => exact OutKeeps.mono (o := execGather x0 x1 s) execGather_keeps (by rfl)
  | scatter x0 x1 => exact OutKeeps.mono (o := execScatter x0 x1 s) execScatter_keeps (by rfl)
  | attend x0 x1 => exact OutKeeps.mono (o := execAttend x0 x1 s) execAttend_keeps (by rfl)
  | attendBwdDot x0 x1 => exact OutKeeps.mono (o := execAttendBwdDot x0 x1 s) execAttendBwdDot_keeps (by rfl)
  | attendBwdKv x0 x1 => exact OutKeeps.mono (o := execAttendBwdKv x0 x1 s) execAttendBwdKv_keeps (by rfl)
  | attendBwdQ x0 x1 => exact OutKeeps.mono (o := execAttendBwdQ x0 x1 s) execAttendBwdQ_keeps (by rfl)
  | kvAppend x0 x1 => exact OutKeeps.mono (o := execKvAppend x0 x1 s) execKvAppend_keeps (by rfl)
  | attach x0 x1 => exact OutKeeps.mono (o := execAttach x0 x1 s) execAttach_keeps (by rfl)
  | releaseChannel x0 x1 => exact OutKeeps.mono (o := execReleaseChannel x0 x1 s) execReleaseChannel_keeps (by rfl)
  | kvFork x0 x1 => exact OutKeeps.mono (o := execKvFork x0 x1 s) execKvFork_keeps (by rfl)
  | sliceSend x0 x1 => exact OutKeeps.mono (o := execSliceSend x0 x1 s) execSliceSend_keeps (by rfl)
  | reduce x0 x1 => exact OutKeeps.mono (o := execReduce x0 x1 s) execReduce_keeps (by rfl)
  | replicaContribution x0 x1 => exact OutKeeps.mono (o := execReplicaContribution x0 x1 s) execReplicaContribution_keeps (by rfl)
  | stragglerExpire x0 x1 => exact OutKeeps.mono (o := execStragglerExpire x0 x1 s) execStragglerExpire_keeps (by rfl)
  | reducedTileArrive x0 => exact OutKeeps.mono (o := execReducedTileArrive x0 s) execReducedTileArrive_keeps (by rfl)
  | update x0 x1 => exact OutKeeps.mono (o := execUpdate x0 x1 s) execUpdate_keeps (by rfl)
  | materialise x0 x1 => exact OutKeeps.mono (o := execMaterialise x0 x1 s) execMaterialise_keeps (by rfl)
  | updateBand x0 x1 x2 => exact OutKeeps.mono (o := execUpdateBand x0 x1 x2 s) execUpdateBand_keeps (by rfl)
  | updateWriteRelease x0 => exact OutKeeps.mono (o := execUpdateWriteRelease x0 s) execUpdateWriteRelease_keeps (by rfl)
  | settling x0 => exact OutKeeps.mono (o := execSettling x0 s) execSettling_keeps (by rfl)
  | voteArrival x0 => exact OutKeeps.mono (o := execVoteArrival x0 s) execVoteArrival_keeps (by rfl)
  | voteTimeout x0 => exact OutKeeps.mono (o := execVoteTimeout x0 s) execVoteTimeout_keeps (by rfl)
  | voteRelease x0 x1 => exact OutKeeps.mono (o := execVoteRelease x0 x1 s) execVoteRelease_keeps (by rfl)
  | resume x0 x1 x2 => exact OutKeeps.mono (o := execResume x0 x1 x2 s) execResume_keeps (by rfl)
  | abortDrained x0 => exact OutKeeps.mono (o := execAbortDrained x0 s) execAbortDrained_keeps (by rfl)
  | feltRead x0 x1 x2 => exact OutKeeps.mono (o := execFeltRead x0 x1 x2 s) execFeltRead_keeps (by rfl)
  | feltWrite x0 x1 x2 => exact OutKeeps.mono (o := execFeltWrite x0 x1 x2 s) execFeltWrite_keeps (by rfl)
  | scrubStep x0 x1 => exact OutKeeps.mono (o := execScrubStep x0 x1 s) execScrubStep_keeps (by rfl)
  | migrationInterval x0 => exact OutKeeps.mono (o := execMigrationInterval x0 s) execMigrationInterval_keeps (by rfl)
  | pageMoveDone x0 x1 x2 => exact OutKeeps.mono (o := execPageMoveDone x0 x1 x2 s) execPageMoveDone_keeps (by rfl)
  | ruleStop x0 x1 => exact OutKeeps.mono (o := execRuleStop x0 x1 s) execRuleStop_keeps (by rfl)
  | ruleStart x0 x1 => exact OutKeeps.mono (o := execRuleStart x0 x1 s) execRuleStart_keeps (by rfl)
  | rulesStopped  => exact OutKeeps.mono (o := execRulesStopped  s) execRulesStopped_keeps (by rfl)
  | feltRatioSelWrite x0 x1 x2 => exact OutKeeps.mono (o := execFeltRatioSelWrite x0 x1 x2 s) execFeltRatioSelWrite_keeps (by rfl)
  | marker x0 x1 => exact OutKeeps.mono (o := execMarker x0 x1 s) execMarker_keeps (by rfl)
  | waitTimeout x0 x1 => exact OutKeeps.mono (o := execWaitTimeout x0 x1 s) execWaitTimeout_keeps (by rfl)
  | barrier x0 x1 => exact OutKeeps.mono (o := execBarrier x0 x1 s) execBarrier_keeps (by rfl)
  | chainArrive x0 x1 x2 x3 => exact OutKeeps.mono (o := execChainArrive x0 x1 x2 x3 s) execChainArrive_keeps (by rfl)
  | chainRelease x0 x1 x2 => exact OutKeeps.mono (o := execChainRelease x0 x1 x2 s) execChainRelease_keeps (by rfl)
  | barrierTimeout x0 => exact OutKeeps.mono (o := execBarrierTimeout x0 s) execBarrierTimeout_keeps (by rfl)
  | markerSetPacket x0 x1 => exact OutKeeps.mono (o := execMarkerSetPacket x0 x1 s) execMarkerSetPacket_keeps (by rfl)
  | fenceSetApply x0 => exact OutKeeps.mono (o := execFenceSetApply x0 s) execFenceSetApply_keeps (by rfl)
  | mkForceKey x0 x1 x2 => exact OutKeeps.mono (o := execMkForceKey x0 x1 x2 s) execMkForceKey_keeps (by rfl)
  | forcedSet x0 x1 x2 => exact OutKeeps.mono (o := execForcedSet x0 x1 x2 s) execForcedSet_keeps (by rfl)
  | forcedClear x0 x1 x2 => exact OutKeeps.mono (o := execForcedClear x0 x1 x2 s) execForcedClear_keeps (by rfl)
  | forceArmExpire x0 => exact OutKeeps.mono (o := execForceArmExpire x0 s) execForceArmExpire_keeps (by rfl)
  | mkEpStateClear x0 x1 x2 x3 => exact OutKeeps.mono (o := execMkEpStateClear x0 x1 x2 x3 s) execMkEpStateClear_keeps (by rfl)
  | queueRead x0 x1 => exact OutKeeps.mono (o := execQueueRead x0 x1 s) execQueueRead_keeps (by rfl)
  | queueReadSatisfied x0 x1 => exact OutKeeps.mono (o := execQueueReadSatisfied x0 x1 s) execQueueReadSatisfied_keeps (by rfl)
  | corePush x0 x1 => exact OutKeeps.mono (o := execCorePush x0 x1 s) execCorePush_keeps (by rfl)
  | queueMark x0 x1 => exact OutKeeps.mono (o := execQueueMark x0 x1 s) execQueueMark_keeps (by rfl)
  | queueRewind x0 x1 => exact OutKeeps.mono (o := execQueueRewind x0 x1 s) execQueueRewind_keeps (by rfl)
  | queueRelease x0 x1 => exact OutKeeps.mono (o := execQueueRelease x0 x1 s) execQueueRelease_keeps (by rfl)
  | land x0 => exact OutKeeps.mono (o := execLand x0 s) execLand_keeps (by rfl)
  | stalledPushAccept x0 => exact OutKeeps.mono (o := execStalledPushAccept x0 s) execStalledPushAccept_keeps (by rfl)
  | stewardPush x0 x1 x2 => exact OutKeeps.mono (o := execStewardPush x0 x1 x2 s) execStewardPush_keeps (by rfl)
  | pushTimeout x0 => exact OutKeeps.mono (o := execPushTimeout x0 s) execPushTimeout_keeps (by rfl)
  | advance x0 x1 x2 => exact OutKeeps.mono (o := execAdvance x0 x1 x2 s) execAdvance_keeps (by rfl)
  | mark x0 x1 x2 => exact OutKeeps.mono (o := execMark x0 x1 x2 s) execMark_keeps (by rfl)
  | rewind x0 x1 x2 => exact OutKeeps.mono (o := execRewind x0 x1 x2 s) execRewind_keeps (by rfl)
  | release x0 x1 x2 => exact OutKeeps.mono (o := execRelease x0 x1 x2 s) execRelease_keeps (by rfl)
  | queueStop x0 x1 x2 => exact OutKeeps.mono (o := execQueueStop x0 x1 x2 s) execQueueStop_keeps (by rfl)
  | queueStart x0 x1 x2 => exact OutKeeps.mono (o := execQueueStart x0 x1 x2 s) execQueueStart_keeps (by rfl)
  | queueClear x0 x1 x2 => exact OutKeeps.mono (o := execQueueClear x0 x1 x2 s) execQueueClear_keeps (by rfl)
  | queueStopped x0 => exact OutKeeps.mono (o := execQueueStopped x0 s) execQueueStopped_keeps (by rfl)
  | flitReceive x0 x1 => exact OutKeeps.mono (o := execFlitReceive x0 x1 s) execFlitReceive_keeps (by rfl)
  | linkSilenceTimeout x0 => exact OutKeeps.mono (o := execLinkSilenceTimeout x0 s) execLinkSilenceTimeout_keeps (by rfl)
  | retrainDone x0 => exact OutKeeps.mono (o := execRetrainDone x0 s) execRetrainDone_keeps (by rfl)
  | retrainTimeout x0 => exact OutKeeps.mono (o := execRetrainTimeout x0 s) execRetrainTimeout_keeps (by rfl)
  | laneLoss x0 x1 => exact OutKeeps.mono (o := execLaneLoss x0 x1 s) execLaneLoss_keeps (by rfl)
  | degradeWindowEnd x0 x1 => exact OutKeeps.mono (o := execDegradeWindowEnd x0 x1 s) execDegradeWindowEnd_keeps (by rfl)
  | trainingDone x0 x1 x2 x3 => exact OutKeeps.mono (o := execTrainingDone x0 x1 x2 x3 s) execTrainingDone_keeps (by rfl)
  | trainingTimeout x0 => exact OutKeeps.mono (o := execTrainingTimeout x0 s) execTrainingTimeout_keeps (by rfl)
  | portStop x0 x1 x2 => exact OutKeeps.mono (o := execPortStop x0 x1 x2 s) execPortStop_keeps (by rfl)
  | portStart x0 x1 x2 => exact OutKeeps.mono (o := execPortStart x0 x1 x2 s) execPortStart_keeps (by rfl)
  | portDrained x0 => exact OutKeeps.mono (o := execPortDrained x0 s) execPortDrained_keeps (by rfl)
  | portDrainTimeout x0 => exact OutKeeps.mono (o := execPortDrainTimeout x0 s) execPortDrainTimeout_keeps (by rfl)
  | write x0 x1 => exact OutKeeps.mono (o := execWrite x0 x1 s) execWrite_keeps (by rfl)
  | writeBulk x0 x1 => exact OutKeeps.mono (o := execWriteBulk x0 x1 s) execWriteBulk_keeps (by rfl)
  | read x0 x1 => exact OutKeeps.mono (o := execRead x0 x1 s) execRead_keeps (by rfl)
  | readData x0 x1 => exact OutKeeps.mono (o := execReadData x0 x1 s) execReadData_keeps (by rfl)
  | completion x0 x1 => exact OutKeeps.mono (o := execCompletion x0 x1 s) execCompletion_keeps (by rfl)
  | ctrlWrite x0 x1 => exact OutKeeps.mono (o := execCtrlWrite x0 x1 s) execCtrlWrite_keeps (by rfl)
  | ctrlRead x0 x1 => exact OutKeeps.mono (o := execCtrlRead x0 x1 s) execCtrlRead_keeps (by rfl)
  | ctrlData x0 x1 => exact OutKeeps.mono (o := execCtrlData x0 x1 s) execCtrlData_keeps (by rfl)
  | queuePush x0 x1 => exact OutKeeps.mono (o := execQueuePush x0 x1 s) execQueuePush_keeps (by rfl)
  | packetForward x0 x1 => exact OutKeeps.mono (o := execPacketForward x0 x1 s) execPacketForward_keeps (by rfl)
  | responseTimeout x0 => exact OutKeeps.mono (o := execResponseTimeout x0 s) execResponseTimeout_keeps (by rfl)
  | routeWrite x0 x1 => exact OutKeeps.mono (o := execRouteWrite x0 x1 s) execRouteWrite_keeps (by rfl)
  | discoveryStart x0 x1 => exact OutKeeps.mono (o := execDiscoveryStart x0 x1 s) execDiscoveryStart_keeps (by rfl)
  | discover x0 x1 => exact OutKeeps.mono (o := execDiscover x0 x1 s) execDiscover_keeps (by rfl)
  | discoverRsp x0 x1 => exact OutKeeps.mono (o := execDiscoverRsp x0 x1 s) execDiscoverRsp_keeps (by rfl)
  | assignId x0 x1 => exact OutKeeps.mono (o := execAssignId x0 x1 s) execAssignId_keeps (by rfl)
  | attn x0 x1 => exact OutKeeps.mono (o := execAttn x0 x1 s) execAttn_keeps (by rfl)
  | warmReset x0 x1 => exact OutKeeps.mono (o := execWarmReset x0 x1 s) execWarmReset_keeps (by rfl)
  | refclkLoss  => exact OutKeeps.mono (o := execRefclkLoss  s) execRefclkLoss_keeps (by rfl)
  | refclkReturn  => exact OutKeeps.mono (o := execRefclkReturn  s) execRefclkReturn_keeps (by rfl)
  | attnRelease  => exact OutKeeps.mono (o := execAttnRelease  s) execAttnRelease_keeps (by rfl)
  | attnMessage  => exact OutKeeps.mono (o := execAttnMessage  s) execAttnMessage_keeps (by rfl)
  | attnMessageRepeat  => exact OutKeeps.mono (o := execAttnMessageRepeat  s) execAttnMessageRepeat_keeps (by rfl)
  | clmClaim x0 x1 => exact OutKeeps.mono (o := execClmClaim x0 x1 s) execClmClaim_keeps (by rfl)
  | clmComplete x0 x1 x2 => exact OutKeeps.mono (o := execClmComplete x0 x1 x2 s) execClmComplete_keeps (by rfl)
  | releaseAll x0 x1 x2 => exact OutKeeps.mono (o := execReleaseAll x0 x1 x2 s) execReleaseAll_keeps (by rfl)
  | vecSoft x0 x1 x2 => exact OutKeeps.mono (o := execVecSoft x0 x1 x2 s) execVecSoft_keeps (by rfl)
  | handlerDispatch x0 => exact OutKeeps.mono (o := execHandlerDispatch x0 s) execHandlerDispatch_keeps (by rfl)
  | stwSignal x0 x1 => exact OutKeeps.mono (o := execStwSignal x0 x1 s) execStwSignal_keeps (by rfl)
  | stageWrite x0 x1 x2 => exact OutKeeps.mono (o := execStageWrite x0 x1 x2 s) execStageWrite_keeps (by rfl)
  | verify x0 x1 => exact OutKeeps.mono (o := execVerify x0 x1 s) execVerify_keeps (by rfl)
  | verifyDone  => exact OutKeeps.mono (o := execVerifyDone  s) execVerifyDone_keeps (by rfl)
  | stewardStop x0 x1 x2 => exact OutKeeps.mono (o := execStewardStop x0 x1 x2 s) execStewardStop_keeps (by rfl)
  | stewardStart x0 x1 x2 => exact OutKeeps.mono (o := execStewardStart x0 x1 x2 s) execStewardStart_keeps (by rfl)
  | stewardRestart x0 x1 x2 => exact OutKeeps.mono (o := execStewardRestart x0 x1 x2 s) execStewardRestart_keeps (by rfl)
  | activate x0 x1 x2 => exact OutKeeps.mono (o := execActivate x0 x1 x2 s) execActivate_keeps (by rfl)
  | cancel x0 x1 x2 => exact OutKeeps.mono (o := execCancel x0 x1 x2 s) execCancel_keeps (by rfl)
  | take x0 x1 => exact OutKeeps.mono (o := execTake x0 x1 s) execTake_keeps (by rfl)
  | giveBack x0 x1 => exact OutKeeps.mono (o := execGiveBack x0 x1 s) execGiveBack_keeps (by rfl)
  | activationDone  => exact OutKeeps.mono (o := execActivationDone  s) execActivationDone_keeps (by rfl)
  | emergencyTimeout  => exact OutKeeps.mono (o := execEmergencyTimeout  s) execEmergencyTimeout_keeps (by rfl)
  | stwKick x0 x1 x2 => exact OutKeeps.mono (o := execStwKick x0 x1 x2 s) execStwKick_keeps (by rfl)
  | wdog x0 => exact OutKeeps.mono (o := execWdog x0 s) execWdog_keeps (by rfl)
  | fatalTrap x0 => exact OutKeeps.mono (o := execFatalTrap x0 s) execFatalTrap_keeps (by rfl)
  | stewardEcc x0 => exact OutKeeps.mono (o := execStewardEcc x0 s) execStewardEcc_keeps (by rfl)
  | autoRestart x0 => exact OutKeeps.mono (o := execAutoRestart x0 s) execAutoRestart_keeps (by rfl)
  | stwRecPop x0 x1 x2 => exact OutKeeps.mono (o := execStwRecPop x0 x1 x2 s) execStwRecPop_keeps (by rfl)
  | stwRecAck x0 x1 x2 => exact OutKeeps.mono (o := execStwRecAck x0 x1 x2 s) execStwRecAck_keeps (by rfl)
  | stwLogSubmitId x0 x1 x2 => exact OutKeeps.mono (o := execStwLogSubmitId x0 x1 x2 s) execStwLogSubmitId_keeps (by rfl)
  | handshakeTimeout x0 => exact OutKeeps.mono (o := execHandshakeTimeout x0 s) execHandshakeTimeout_keeps (by rfl)
  | autoRemapStart x0 => exact OutKeeps.mono (o := execAutoRemapStart x0 s) execAutoRemapStart_keeps (by rfl)
  | powerInterval x0 => exact OutKeeps.mono (o := execPowerInterval x0 s) execPowerInterval_keeps (by rfl)
  | vcoreRampStep x0 => exact OutKeeps.mono (o := execVcoreRampStep x0 s) execVcoreRampStep_keeps (by rfl)
  | vrStatusPoll x0 x1 => exact OutKeeps.mono (o := execVrStatusPoll x0 x1 s) execVrStatusPoll_keeps (by rfl)
  | pmbusTransaction x0 x1 x2 => exact OutKeeps.mono (o := execPmbusTransaction x0 x1 x2 s) execPmbusTransaction_keeps (by rfl)
  | thermalReport x0 x1 => exact OutKeeps.mono (o := execThermalReport x0 x1 s) execThermalReport_keeps (by rfl)
  | pwrAlertAssert  => exact OutKeeps.mono (o := execPwrAlertAssert  s) execPwrAlertAssert_keeps (by rfl)
  | pwrAlertDeassert  => exact OutKeeps.mono (o := execPwrAlertDeassert  s) execPwrAlertDeassert_keeps (by rfl)
  | gateLift  => exact OutKeeps.mono (o := execGateLift  s) execGateLift_keeps (by rfl)
  | emergencyEnd  => exact OutKeeps.mono (o := execEmergencyEnd  s) execEmergencyEnd_keeps (by rfl)
  | coldReset  => exact OutKeeps.mono (o := execColdReset  s) execColdReset_keeps (by rfl)
  | pinGlitch x0 => exact OutKeeps.mono (o := execPinGlitch x0 s) execPinGlitch_keeps (by rfl)
  | strapChange x0 x1 => exact OutKeeps.mono (o := execStrapChange x0 x1 s) execStrapChange_keeps (by rfl)
  | vauxLoss  => exact OutKeeps.mono (o := execVauxLoss  s) execVauxLoss_keeps (by rfl)
  | romDone  => exact OutKeeps.mono (o := execRomDone  s) execRomDone_keeps (by rfl)
  | recordDone x0 => exact OutKeeps.mono (o := execRecordDone x0 s) execRecordDone_keeps (by rfl)
  | dramTrainingDone x0 => exact OutKeeps.mono (o := execDramTrainingDone x0 s) execDramTrainingDone_keeps (by rfl)
  | linksDone  => exact OutKeeps.mono (o := execLinksDone  s) execLinksDone_keeps (by rfl)
  | ready  => exact OutKeeps.mono (o := execReady  s) execReady_keeps (by rfl)
  | attest x0 x1 => exact OutKeeps.mono (o := execAttest x0 x1 s) execAttest_keeps (by rfl)
  | attestDone  => exact OutKeeps.mono (o := execAttestDone  s) execAttestDone_keeps (by rfl)
  | registerKey x0 x1 => exact OutKeeps.mono (o := execRegisterKey x0 x1 s) execRegisterKey_keeps (by rfl)
  | debugEn x0 x1 => exact OutKeeps.mono (o := execDebugEn x0 x1 s) execDebugEn_keeps (by rfl)
  | secRecKey x0 x1 => exact OutKeeps.mono (o := execSecRecKey x0 x1 s) execSecRecKey_keeps (by rfl)
  | recWrite x0 x1 => exact OutKeeps.mono (o := execRecWrite x0 x1 s) execRecWrite_keeps (by rfl)
  | recUnlockExpire  => exact OutKeeps.mono (o := execRecUnlockExpire  s) execRecUnlockExpire_keeps (by rfl)
  | recWriteDone  => exact OutKeeps.mono (o := execRecWriteDone  s) execRecWriteDone_keeps (by rfl)
  | i3cWrite x0 => exact OutKeeps.mono (o := execI3cWrite x0 s) execI3cWrite_keeps (by rfl)
  | i3cRead x0 => exact OutKeeps.mono (o := execI3cRead x0 s) execI3cRead_keeps (by rfl)
  | entdaa x0 => exact OutKeeps.mono (o := execEntdaa x0 s) execEntdaa_keeps (by rfl)
  | setdasa x0 x1 => exact OutKeeps.mono (o := execSetdasa x0 x1 s) execSetdasa_keeps (by rfl)
  | rstdaa  => exact OutKeeps.mono (o := execRstdaa  s) execRstdaa_keeps (by rfl)
  | enec  => exact OutKeeps.mono (o := execEnec  s) execEnec_keeps (by rfl)
  | disec  => exact OutKeeps.mono (o := execDisec  s) execDisec_keeps (by rfl)
  | getpid  => exact OutKeeps.mono (o := execGetpid  s) execGetpid_keeps (by rfl)
  | getbcr  => exact OutKeeps.mono (o := execGetbcr  s) execGetbcr_keeps (by rfl)
  | getdcr  => exact OutKeeps.mono (o := execGetdcr  s) execGetdcr_keeps (by rfl)
  | getstatus  => exact OutKeeps.mono (o := execGetstatus  s) execGetstatus_keeps (by rfl)
  | getmwl  => exact OutKeeps.mono (o := execGetmwl  s) execGetmwl_keeps (by rfl)
  | getmrl  => exact OutKeeps.mono (o := execGetmrl  s) execGetmrl_keeps (by rfl)
  | bypass  => exact OutKeeps.mono (o := execBypass  s) execBypass_keeps (by rfl)
  | idcode  => exact OutKeeps.mono (o := execIdcode  s) execIdcode_keeps (by rfl)
  | samplePreload  => exact OutKeeps.mono (o := execSamplePreload  s) execSamplePreload_keeps (by rfl)
  | extest  => exact OutKeeps.mono (o := execExtest  s) execExtest_keeps (by rfl)
  | highz  => exact OutKeeps.mono (o := execHighz  s) execHighz_keeps (by rfl)
  | debugControlRead x0 => exact OutKeeps.mono (o := execDebugControlRead x0 s) execDebugControlRead_keeps (by rfl)
  | debugControlWrite x0 => exact OutKeeps.mono (o := execDebugControlWrite x0 s) execDebugControlWrite_keeps (by rfl)
  | debugLsRead x0 => exact OutKeeps.mono (o := execDebugLsRead x0 s) execDebugLsRead_keeps (by rfl)
  | debugLsWrite x0 => exact OutKeeps.mono (o := execDebugLsWrite x0 s) execDebugLsWrite_keeps (by rfl)
  | tapReset  => exact OutKeeps.mono (o := execTapReset  s) execTapReset_keeps (by rfl)
  | resetNRelease x0 x1 => exact OutKeeps.mono (o := execResetNRelease x0 x1 s) execResetNRelease_keeps (by rfl)
  | coreFaultWindowExpire x0 => exact OutKeeps.mono (o := execCoreFaultWindowExpire x0 s) execCoreFaultWindowExpire_keeps (by rfl)

/-- The condition of ATTN_N does not depend on the pin or on the interrupt in band. -/
@[simp] theorem attnActive_settle (s : State) : attnActive (settle s) = attnActive s := rfl

theorem settle_attnLow (s : State) (h : attnActive (settle s) ≠ 0) : (settle s).pins.attnLow = true := by
  rw [attnActive_settle] at h
  show (s.pins.attnLow || attnActive s != 0) = true
  rw [bne_iff_ne.mpr h, Bool.or_true]

@[simp] theorem settle_pending (s : State) : (settle s).pending = s.pending := rfl

theorem canonical_settle (s : State) : canonical (settle s) ↔ canonical s := Iff.rfl

theorem canonical_pending (s : State) (l : List Instr) : canonical { s with pending := l } ↔ canonical s := Iff.rfl

/-- A step answers a settled next state with the queue's rest and canonical memories. -/
theorem step_done (s : State) : ∃ u, step s = .next (settle u) ∧ (settle u).pending = s.pending.tail ∧
    (canonical s → canonical (settle u)) := by
  unfold step
  split
  · next h =>
    refine ⟨s.idle, rfl, ?_, fun c => (canonical_settle _).mpr (State_idle_keeps.canon c)⟩
    rw [settle_pending, State_idle_keeps.pending, h]; rfl
  · next c rest h =>
    obtain ⟨u, e, k⟩ := exec_keeps c { s with pending := rest }
    refine ⟨u, e, ?_, fun d => (canonical_settle _).mpr (k.canon ((canonical_pending s rest).mpr d))⟩
    rw [settle_pending, k.pending, h]; rfl

end Sys2Proof.Laws
end

