-- ==== Sys2Proof/Laws/State.lean ====
section
/-! SUPPORT. Reads of State after its named updates: one lemma per field per update, and what the tables read as. -/
namespace Sys2Proof.Laws
open Sys2Proof Sys2Proof.Machine

variable (s : State)

/-! After wr. -/

@[simp] theorem wr_pending (r : Reg) (i : Nat) (w : Word) : (s.wr r i w).pending = s.pending := rfl
@[simp] theorem wr_free (r : Reg) (i : Nat) (w : Word) : (s.wr r i w).free = s.free := rfl
@[simp] theorem wr_readback (r : Reg) (i : Nat) (w : Word) : (s.wr r i w).readback = s.readback := rfl
@[simp] theorem wr_latches (r : Reg) (i : Nat) (w : Word) : (s.wr r i w).latches = s.latches := rfl
@[simp] theorem wr_dram (r : Reg) (i : Nat) (w : Word) : (s.wr r i w).dram = s.dram := rfl
@[simp] theorem wr_tens (r : Reg) (i : Nat) (w : Word) : (s.wr r i w).tens = s.tens := rfl
@[simp] theorem wr_badPhys (r : Reg) (i : Nat) (w : Word) : (s.wr r i w).badPhys = s.badPhys := rfl
@[simp] theorem wr_badTens (r : Reg) (i : Nat) (w : Word) : (s.wr r i w).badTens = s.badTens := rfl
@[simp] theorem wr_pages (r : Reg) (i : Nat) (w : Word) : (s.wr r i w).pages = s.pages := rfl
@[simp] theorem wr_scrubBlock (r : Reg) (i : Nat) (w : Word) : (s.wr r i w).scrubBlock = s.scrubBlock := rfl
@[simp] theorem wr_load (r : Reg) (i : Nat) (w : Word) : (s.wr r i w).load = s.load := rfl
@[simp] theorem wr_secs (r : Reg) (i : Nat) (w : Word) : (s.wr r i w).secs = s.secs := rfl
@[simp] theorem wr_coreMap (r : Reg) (i : Nat) (w : Word) : (s.wr r i w).coreMap = s.coreMap := rfl
@[simp] theorem wr_links (r : Reg) (i : Nat) (w : Word) : (s.wr r i w).links = s.links := rfl
@[simp] theorem wr_devQueues (r : Reg) (i : Nat) (w : Word) : (s.wr r i w).devQueues = s.devQueues := rfl
@[simp] theorem wr_rules (r : Reg) (i : Nat) (w : Word) : (s.wr r i w).rules = s.rules := rfl
@[simp] theorem wr_rulesOn (r : Reg) (i : Nat) (w : Word) : (s.wr r i w).rulesOn = s.rulesOn := rfl
@[simp] theorem wr_rules0 (r : Reg) (i : Nat) (w : Word) : (s.wr r i w).rules0 = s.rules0 := rfl
@[simp] theorem wr_live (r : Reg) (i : Nat) (w : Word) : (s.wr r i w).live = s.live := rfl
@[simp] theorem wr_repair (r : Reg) (i : Nat) (w : Word) : (s.wr r i w).repair = s.repair := rfl
@[simp] theorem wr_modrec (r : Reg) (i : Nat) (w : Word) : (s.wr r i w).modrec = s.modrec := rfl
@[simp] theorem wr_panels (r : Reg) (i : Nat) (w : Word) : (s.wr r i w).panels = s.panels := rfl
@[simp] theorem wr_cores (r : Reg) (i : Nat) (w : Word) : (s.wr r i w).cores = s.cores := rfl
@[simp] theorem wr_flights (r : Reg) (i : Nat) (w : Word) : (s.wr r i w).flights = s.flights := rfl
@[simp] theorem wr_nextFlight (r : Reg) (i : Nat) (w : Word) : (s.wr r i w).nextFlight = s.nextFlight := rfl
@[simp] theorem wr_trackers (r : Reg) (i : Nat) (w : Word) : (s.wr r i w).trackers = s.trackers := rfl
@[simp] theorem wr_trkSaved (r : Reg) (i : Nat) (w : Word) : (s.wr r i w).trkSaved = s.trkSaved := rfl
@[simp] theorem wr_obs (r : Reg) (i : Nat) (w : Word) : (s.wr r i w).obs = s.obs := rfl
@[simp] theorem wr_windows (r : Reg) (i : Nat) (w : Word) : (s.wr r i w).windows = s.windows := rfl
@[simp] theorem wr_micros (r : Reg) (i : Nat) (w : Word) : (s.wr r i w).micros = s.micros := rfl
@[simp] theorem wr_slices (r : Reg) (i : Nat) (w : Word) : (s.wr r i w).slices = s.slices := rfl
@[simp] theorem wr_stalledSlices (r : Reg) (i : Nat) (w : Word) : (s.wr r i w).stalledSlices = s.stalledSlices := rfl
@[simp] theorem wr_sideRecs (r : Reg) (i : Nat) (w : Word) : (s.wr r i w).sideRecs = s.sideRecs := rfl
@[simp] theorem wr_sideSums (r : Reg) (i : Nat) (w : Word) : (s.wr r i w).sideSums = s.sideSums := rfl
@[simp] theorem wr_masks (r : Reg) (i : Nat) (w : Word) : (s.wr r i w).masks = s.masks := rfl
@[simp] theorem wr_helds (r : Reg) (i : Nat) (w : Word) : (s.wr r i w).helds = s.helds := rfl
@[simp] theorem wr_sentTiles (r : Reg) (i : Nat) (w : Word) : (s.wr r i w).sentTiles = s.sentTiles := rfl
@[simp] theorem wr_updates (r : Reg) (i : Nat) (w : Word) : (s.wr r i w).updates = s.updates := rfl
@[simp] theorem wr_updDone (r : Reg) (i : Nat) (w : Word) : (s.wr r i w).updDone = s.updDone := rfl
@[simp] theorem wr_ratios (r : Reg) (i : Nat) (w : Word) : (s.wr r i w).ratios = s.ratios := rfl
@[simp] theorem wr_ratioSnap (r : Reg) (i : Nat) (w : Word) : (s.wr r i w).ratioSnap = s.ratioSnap := rfl
@[simp] theorem wr_epochs (r : Reg) (i : Nat) (w : Word) : (s.wr r i w).epochs = s.epochs := rfl
@[simp] theorem wr_openEpochs (r : Reg) (i : Nat) (w : Word) : (s.wr r i w).openEpochs = s.openEpochs := rfl
@[simp] theorem wr_arrivals (r : Reg) (i : Nat) (w : Word) : (s.wr r i w).arrivals = s.arrivals := rfl
@[simp] theorem wr_releases (r : Reg) (i : Nat) (w : Word) : (s.wr r i w).releases = s.releases := rfl
@[simp] theorem wr_votes (r : Reg) (i : Nat) (w : Word) : (s.wr r i w).votes = s.votes := rfl
@[simp] theorem wr_voteOut (r : Reg) (i : Nat) (w : Word) : (s.wr r i w).voteOut = s.voteOut := rfl
@[simp] theorem wr_forceArmed (r : Reg) (i : Nat) (w : Word) : (s.wr r i w).forceArmed = s.forceArmed := rfl
@[simp] theorem wr_fenceUsed (r : Reg) (i : Nat) (w : Word) : (s.wr r i w).fenceUsed = s.fenceUsed := rfl
@[simp] theorem wr_openTags (r : Reg) (i : Nat) (w : Word) : (s.wr r i w).openTags = s.openTags := rfl
@[simp] theorem wr_heldSets (r : Reg) (i : Nat) (w : Word) : (s.wr r i w).heldSets = s.heldSets := rfl
@[simp] theorem wr_queues (r : Reg) (i : Nat) (w : Word) : (s.wr r i w).queues = s.queues := rfl
@[simp] theorem wr_ports (r : Reg) (i : Nat) (w : Word) : (s.wr r i w).ports = s.ports := rfl
@[simp] theorem wr_requests (r : Reg) (i : Nat) (w : Word) : (s.wr r i w).requests = s.requests := rfl
@[simp] theorem wr_reqWait (r : Reg) (i : Nat) (w : Word) : (s.wr r i w).reqWait = s.reqWait := rfl
@[simp] theorem wr_routes (r : Reg) (i : Nat) (w : Word) : (s.wr r i w).routes = s.routes := rfl
@[simp] theorem wr_uplink (r : Reg) (i : Nat) (w : Word) : (s.wr r i w).uplink = s.uplink := rfl
@[simp] theorem wr_routeChange (r : Reg) (i : Nat) (w : Word) : (s.wr r i w).routeChange = s.routeChange := rfl
@[simp] theorem wr_routeHold (r : Reg) (i : Nat) (w : Word) : (s.wr r i w).routeHold = s.routeHold := rfl
@[simp] theorem wr_discTodo (r : Reg) (i : Nat) (w : Word) : (s.wr r i w).discTodo = s.discTodo := rfl
@[simp] theorem wr_discStarted (r : Reg) (i : Nat) (w : Word) : (s.wr r i w).discStarted = s.discStarted := rfl
@[simp] theorem wr_chans (r : Reg) (i : Nat) (w : Word) : (s.wr r i w).chans = s.chans := rfl
@[simp] theorem wr_groups (r : Reg) (i : Nat) (w : Word) : (s.wr r i w).groups = s.groups := rfl
@[simp] theorem wr_tree (r : Reg) (i : Nat) (w : Word) : (s.wr r i w).tree = s.tree := rfl
@[simp] theorem wr_attnSent (r : Reg) (i : Nat) (w : Word) : (s.wr r i w).attnSent = s.attnSent := rfl
@[simp] theorem wr_stewards (r : Reg) (i : Nat) (w : Word) : (s.wr r i w).stewards = s.stewards := rfl
@[simp] theorem wr_staging (r : Reg) (i : Nat) (w : Word) : (s.wr r i w).staging = s.staging := rfl
@[simp] theorem wr_recFifo (r : Reg) (i : Nat) (w : Word) : (s.wr r i w).recFifo = s.recFifo := rfl
@[simp] theorem wr_recLostMark (r : Reg) (i : Nat) (w : Word) : (s.wr r i w).recLostMark = s.recLostMark := rfl
@[simp] theorem wr_power (r : Reg) (i : Nat) (w : Word) : (s.wr r i w).power = s.power := rfl
@[simp] theorem wr_sec (r : Reg) (i : Nat) (w : Word) : (s.wr r i w).sec = s.sec := rfl
@[simp] theorem wr_i3c (r : Reg) (i : Nat) (w : Word) : (s.wr r i w).i3c = s.i3c := rfl
@[simp] theorem wr_jtag (r : Reg) (i : Nat) (w : Word) : (s.wr r i w).jtag = s.jtag := rfl
@[simp] theorem wr_pins (r : Reg) (i : Nat) (w : Word) : (s.wr r i w).pins = s.pins := rfl

/-! After fset. -/

@[simp] theorem fset_pending (f : Fld) (i v : Nat) : (s.fset f i v).pending = s.pending := rfl
@[simp] theorem fset_free (f : Fld) (i v : Nat) : (s.fset f i v).free = s.free := rfl
@[simp] theorem fset_readback (f : Fld) (i v : Nat) : (s.fset f i v).readback = s.readback := rfl
@[simp] theorem fset_latches (f : Fld) (i v : Nat) : (s.fset f i v).latches = s.latches := rfl
@[simp] theorem fset_dram (f : Fld) (i v : Nat) : (s.fset f i v).dram = s.dram := rfl
@[simp] theorem fset_tens (f : Fld) (i v : Nat) : (s.fset f i v).tens = s.tens := rfl
@[simp] theorem fset_badPhys (f : Fld) (i v : Nat) : (s.fset f i v).badPhys = s.badPhys := rfl
@[simp] theorem fset_badTens (f : Fld) (i v : Nat) : (s.fset f i v).badTens = s.badTens := rfl
@[simp] theorem fset_pages (f : Fld) (i v : Nat) : (s.fset f i v).pages = s.pages := rfl
@[simp] theorem fset_scrubBlock (f : Fld) (i v : Nat) : (s.fset f i v).scrubBlock = s.scrubBlock := rfl
@[simp] theorem fset_load (f : Fld) (i v : Nat) : (s.fset f i v).load = s.load := rfl
@[simp] theorem fset_secs (f : Fld) (i v : Nat) : (s.fset f i v).secs = s.secs := rfl
@[simp] theorem fset_coreMap (f : Fld) (i v : Nat) : (s.fset f i v).coreMap = s.coreMap := rfl
@[simp] theorem fset_links (f : Fld) (i v : Nat) : (s.fset f i v).links = s.links := rfl
@[simp] theorem fset_devQueues (f : Fld) (i v : Nat) : (s.fset f i v).devQueues = s.devQueues := rfl
@[simp] theorem fset_rules (f : Fld) (i v : Nat) : (s.fset f i v).rules = s.rules := rfl
@[simp] theorem fset_rulesOn (f : Fld) (i v : Nat) : (s.fset f i v).rulesOn = s.rulesOn := rfl
@[simp] theorem fset_rules0 (f : Fld) (i v : Nat) : (s.fset f i v).rules0 = s.rules0 := rfl
@[simp] theorem fset_live (f : Fld) (i v : Nat) : (s.fset f i v).live = s.live := rfl
@[simp] theorem fset_repair (f : Fld) (i v : Nat) : (s.fset f i v).repair = s.repair := rfl
@[simp] theorem fset_modrec (f : Fld) (i v : Nat) : (s.fset f i v).modrec = s.modrec := rfl
@[simp] theorem fset_panels (f : Fld) (i v : Nat) : (s.fset f i v).panels = s.panels := rfl
@[simp] theorem fset_cores (f : Fld) (i v : Nat) : (s.fset f i v).cores = s.cores := rfl
@[simp] theorem fset_flights (f : Fld) (i v : Nat) : (s.fset f i v).flights = s.flights := rfl
@[simp] theorem fset_nextFlight (f : Fld) (i v : Nat) : (s.fset f i v).nextFlight = s.nextFlight := rfl
@[simp] theorem fset_trackers (f : Fld) (i v : Nat) : (s.fset f i v).trackers = s.trackers := rfl
@[simp] theorem fset_trkSaved (f : Fld) (i v : Nat) : (s.fset f i v).trkSaved = s.trkSaved := rfl
@[simp] theorem fset_obs (f : Fld) (i v : Nat) : (s.fset f i v).obs = s.obs := rfl
@[simp] theorem fset_windows (f : Fld) (i v : Nat) : (s.fset f i v).windows = s.windows := rfl
@[simp] theorem fset_micros (f : Fld) (i v : Nat) : (s.fset f i v).micros = s.micros := rfl
@[simp] theorem fset_slices (f : Fld) (i v : Nat) : (s.fset f i v).slices = s.slices := rfl
@[simp] theorem fset_stalledSlices (f : Fld) (i v : Nat) : (s.fset f i v).stalledSlices = s.stalledSlices := rfl
@[simp] theorem fset_sideRecs (f : Fld) (i v : Nat) : (s.fset f i v).sideRecs = s.sideRecs := rfl
@[simp] theorem fset_sideSums (f : Fld) (i v : Nat) : (s.fset f i v).sideSums = s.sideSums := rfl
@[simp] theorem fset_masks (f : Fld) (i v : Nat) : (s.fset f i v).masks = s.masks := rfl
@[simp] theorem fset_helds (f : Fld) (i v : Nat) : (s.fset f i v).helds = s.helds := rfl
@[simp] theorem fset_sentTiles (f : Fld) (i v : Nat) : (s.fset f i v).sentTiles = s.sentTiles := rfl
@[simp] theorem fset_updates (f : Fld) (i v : Nat) : (s.fset f i v).updates = s.updates := rfl
@[simp] theorem fset_updDone (f : Fld) (i v : Nat) : (s.fset f i v).updDone = s.updDone := rfl
@[simp] theorem fset_ratios (f : Fld) (i v : Nat) : (s.fset f i v).ratios = s.ratios := rfl
@[simp] theorem fset_ratioSnap (f : Fld) (i v : Nat) : (s.fset f i v).ratioSnap = s.ratioSnap := rfl
@[simp] theorem fset_epochs (f : Fld) (i v : Nat) : (s.fset f i v).epochs = s.epochs := rfl
@[simp] theorem fset_openEpochs (f : Fld) (i v : Nat) : (s.fset f i v).openEpochs = s.openEpochs := rfl
@[simp] theorem fset_arrivals (f : Fld) (i v : Nat) : (s.fset f i v).arrivals = s.arrivals := rfl
@[simp] theorem fset_releases (f : Fld) (i v : Nat) : (s.fset f i v).releases = s.releases := rfl
@[simp] theorem fset_votes (f : Fld) (i v : Nat) : (s.fset f i v).votes = s.votes := rfl
@[simp] theorem fset_voteOut (f : Fld) (i v : Nat) : (s.fset f i v).voteOut = s.voteOut := rfl
@[simp] theorem fset_forceArmed (f : Fld) (i v : Nat) : (s.fset f i v).forceArmed = s.forceArmed := rfl
@[simp] theorem fset_fenceUsed (f : Fld) (i v : Nat) : (s.fset f i v).fenceUsed = s.fenceUsed := rfl
@[simp] theorem fset_openTags (f : Fld) (i v : Nat) : (s.fset f i v).openTags = s.openTags := rfl
@[simp] theorem fset_heldSets (f : Fld) (i v : Nat) : (s.fset f i v).heldSets = s.heldSets := rfl
@[simp] theorem fset_queues (f : Fld) (i v : Nat) : (s.fset f i v).queues = s.queues := rfl
@[simp] theorem fset_ports (f : Fld) (i v : Nat) : (s.fset f i v).ports = s.ports := rfl
@[simp] theorem fset_requests (f : Fld) (i v : Nat) : (s.fset f i v).requests = s.requests := rfl
@[simp] theorem fset_reqWait (f : Fld) (i v : Nat) : (s.fset f i v).reqWait = s.reqWait := rfl
@[simp] theorem fset_routes (f : Fld) (i v : Nat) : (s.fset f i v).routes = s.routes := rfl
@[simp] theorem fset_uplink (f : Fld) (i v : Nat) : (s.fset f i v).uplink = s.uplink := rfl
@[simp] theorem fset_routeChange (f : Fld) (i v : Nat) : (s.fset f i v).routeChange = s.routeChange := rfl
@[simp] theorem fset_routeHold (f : Fld) (i v : Nat) : (s.fset f i v).routeHold = s.routeHold := rfl
@[simp] theorem fset_discTodo (f : Fld) (i v : Nat) : (s.fset f i v).discTodo = s.discTodo := rfl
@[simp] theorem fset_discStarted (f : Fld) (i v : Nat) : (s.fset f i v).discStarted = s.discStarted := rfl
@[simp] theorem fset_chans (f : Fld) (i v : Nat) : (s.fset f i v).chans = s.chans := rfl
@[simp] theorem fset_groups (f : Fld) (i v : Nat) : (s.fset f i v).groups = s.groups := rfl
@[simp] theorem fset_tree (f : Fld) (i v : Nat) : (s.fset f i v).tree = s.tree := rfl
@[simp] theorem fset_attnSent (f : Fld) (i v : Nat) : (s.fset f i v).attnSent = s.attnSent := rfl
@[simp] theorem fset_stewards (f : Fld) (i v : Nat) : (s.fset f i v).stewards = s.stewards := rfl
@[simp] theorem fset_staging (f : Fld) (i v : Nat) : (s.fset f i v).staging = s.staging := rfl
@[simp] theorem fset_recFifo (f : Fld) (i v : Nat) : (s.fset f i v).recFifo = s.recFifo := rfl
@[simp] theorem fset_recLostMark (f : Fld) (i v : Nat) : (s.fset f i v).recLostMark = s.recLostMark := rfl
@[simp] theorem fset_power (f : Fld) (i v : Nat) : (s.fset f i v).power = s.power := rfl
@[simp] theorem fset_sec (f : Fld) (i v : Nat) : (s.fset f i v).sec = s.sec := rfl
@[simp] theorem fset_i3c (f : Fld) (i v : Nat) : (s.fset f i v).i3c = s.i3c := rfl
@[simp] theorem fset_jtag (f : Fld) (i v : Nat) : (s.fset f i v).jtag = s.jtag := rfl
@[simp] theorem fset_pins (f : Fld) (i v : Nat) : (s.fset f i v).pins = s.pins := rfl

/-! After finc. -/

@[simp] theorem finc_pending (f : Fld) (i v : Nat) : (s.finc f i v).pending = s.pending := rfl
@[simp] theorem finc_free (f : Fld) (i v : Nat) : (s.finc f i v).free = s.free := rfl
@[simp] theorem finc_readback (f : Fld) (i v : Nat) : (s.finc f i v).readback = s.readback := rfl
@[simp] theorem finc_latches (f : Fld) (i v : Nat) : (s.finc f i v).latches = s.latches := rfl
@[simp] theorem finc_dram (f : Fld) (i v : Nat) : (s.finc f i v).dram = s.dram := rfl
@[simp] theorem finc_tens (f : Fld) (i v : Nat) : (s.finc f i v).tens = s.tens := rfl
@[simp] theorem finc_badPhys (f : Fld) (i v : Nat) : (s.finc f i v).badPhys = s.badPhys := rfl
@[simp] theorem finc_badTens (f : Fld) (i v : Nat) : (s.finc f i v).badTens = s.badTens := rfl
@[simp] theorem finc_pages (f : Fld) (i v : Nat) : (s.finc f i v).pages = s.pages := rfl
@[simp] theorem finc_scrubBlock (f : Fld) (i v : Nat) : (s.finc f i v).scrubBlock = s.scrubBlock := rfl
@[simp] theorem finc_load (f : Fld) (i v : Nat) : (s.finc f i v).load = s.load := rfl
@[simp] theorem finc_secs (f : Fld) (i v : Nat) : (s.finc f i v).secs = s.secs := rfl
@[simp] theorem finc_coreMap (f : Fld) (i v : Nat) : (s.finc f i v).coreMap = s.coreMap := rfl
@[simp] theorem finc_links (f : Fld) (i v : Nat) : (s.finc f i v).links = s.links := rfl
@[simp] theorem finc_devQueues (f : Fld) (i v : Nat) : (s.finc f i v).devQueues = s.devQueues := rfl
@[simp] theorem finc_rules (f : Fld) (i v : Nat) : (s.finc f i v).rules = s.rules := rfl
@[simp] theorem finc_rulesOn (f : Fld) (i v : Nat) : (s.finc f i v).rulesOn = s.rulesOn := rfl
@[simp] theorem finc_rules0 (f : Fld) (i v : Nat) : (s.finc f i v).rules0 = s.rules0 := rfl
@[simp] theorem finc_live (f : Fld) (i v : Nat) : (s.finc f i v).live = s.live := rfl
@[simp] theorem finc_repair (f : Fld) (i v : Nat) : (s.finc f i v).repair = s.repair := rfl
@[simp] theorem finc_modrec (f : Fld) (i v : Nat) : (s.finc f i v).modrec = s.modrec := rfl
@[simp] theorem finc_panels (f : Fld) (i v : Nat) : (s.finc f i v).panels = s.panels := rfl
@[simp] theorem finc_cores (f : Fld) (i v : Nat) : (s.finc f i v).cores = s.cores := rfl
@[simp] theorem finc_flights (f : Fld) (i v : Nat) : (s.finc f i v).flights = s.flights := rfl
@[simp] theorem finc_nextFlight (f : Fld) (i v : Nat) : (s.finc f i v).nextFlight = s.nextFlight := rfl
@[simp] theorem finc_trackers (f : Fld) (i v : Nat) : (s.finc f i v).trackers = s.trackers := rfl
@[simp] theorem finc_trkSaved (f : Fld) (i v : Nat) : (s.finc f i v).trkSaved = s.trkSaved := rfl
@[simp] theorem finc_obs (f : Fld) (i v : Nat) : (s.finc f i v).obs = s.obs := rfl
@[simp] theorem finc_windows (f : Fld) (i v : Nat) : (s.finc f i v).windows = s.windows := rfl
@[simp] theorem finc_micros (f : Fld) (i v : Nat) : (s.finc f i v).micros = s.micros := rfl
@[simp] theorem finc_slices (f : Fld) (i v : Nat) : (s.finc f i v).slices = s.slices := rfl
@[simp] theorem finc_stalledSlices (f : Fld) (i v : Nat) : (s.finc f i v).stalledSlices = s.stalledSlices := rfl
@[simp] theorem finc_sideRecs (f : Fld) (i v : Nat) : (s.finc f i v).sideRecs = s.sideRecs := rfl
@[simp] theorem finc_sideSums (f : Fld) (i v : Nat) : (s.finc f i v).sideSums = s.sideSums := rfl
@[simp] theorem finc_masks (f : Fld) (i v : Nat) : (s.finc f i v).masks = s.masks := rfl
@[simp] theorem finc_helds (f : Fld) (i v : Nat) : (s.finc f i v).helds = s.helds := rfl
@[simp] theorem finc_sentTiles (f : Fld) (i v : Nat) : (s.finc f i v).sentTiles = s.sentTiles := rfl
@[simp] theorem finc_updates (f : Fld) (i v : Nat) : (s.finc f i v).updates = s.updates := rfl
@[simp] theorem finc_updDone (f : Fld) (i v : Nat) : (s.finc f i v).updDone = s.updDone := rfl
@[simp] theorem finc_ratios (f : Fld) (i v : Nat) : (s.finc f i v).ratios = s.ratios := rfl
@[simp] theorem finc_ratioSnap (f : Fld) (i v : Nat) : (s.finc f i v).ratioSnap = s.ratioSnap := rfl
@[simp] theorem finc_epochs (f : Fld) (i v : Nat) : (s.finc f i v).epochs = s.epochs := rfl
@[simp] theorem finc_openEpochs (f : Fld) (i v : Nat) : (s.finc f i v).openEpochs = s.openEpochs := rfl
@[simp] theorem finc_arrivals (f : Fld) (i v : Nat) : (s.finc f i v).arrivals = s.arrivals := rfl
@[simp] theorem finc_releases (f : Fld) (i v : Nat) : (s.finc f i v).releases = s.releases := rfl
@[simp] theorem finc_votes (f : Fld) (i v : Nat) : (s.finc f i v).votes = s.votes := rfl
@[simp] theorem finc_voteOut (f : Fld) (i v : Nat) : (s.finc f i v).voteOut = s.voteOut := rfl
@[simp] theorem finc_forceArmed (f : Fld) (i v : Nat) : (s.finc f i v).forceArmed = s.forceArmed := rfl
@[simp] theorem finc_fenceUsed (f : Fld) (i v : Nat) : (s.finc f i v).fenceUsed = s.fenceUsed := rfl
@[simp] theorem finc_openTags (f : Fld) (i v : Nat) : (s.finc f i v).openTags = s.openTags := rfl
@[simp] theorem finc_heldSets (f : Fld) (i v : Nat) : (s.finc f i v).heldSets = s.heldSets := rfl
@[simp] theorem finc_queues (f : Fld) (i v : Nat) : (s.finc f i v).queues = s.queues := rfl
@[simp] theorem finc_ports (f : Fld) (i v : Nat) : (s.finc f i v).ports = s.ports := rfl
@[simp] theorem finc_requests (f : Fld) (i v : Nat) : (s.finc f i v).requests = s.requests := rfl
@[simp] theorem finc_reqWait (f : Fld) (i v : Nat) : (s.finc f i v).reqWait = s.reqWait := rfl
@[simp] theorem finc_routes (f : Fld) (i v : Nat) : (s.finc f i v).routes = s.routes := rfl
@[simp] theorem finc_uplink (f : Fld) (i v : Nat) : (s.finc f i v).uplink = s.uplink := rfl
@[simp] theorem finc_routeChange (f : Fld) (i v : Nat) : (s.finc f i v).routeChange = s.routeChange := rfl
@[simp] theorem finc_routeHold (f : Fld) (i v : Nat) : (s.finc f i v).routeHold = s.routeHold := rfl
@[simp] theorem finc_discTodo (f : Fld) (i v : Nat) : (s.finc f i v).discTodo = s.discTodo := rfl
@[simp] theorem finc_discStarted (f : Fld) (i v : Nat) : (s.finc f i v).discStarted = s.discStarted := rfl
@[simp] theorem finc_chans (f : Fld) (i v : Nat) : (s.finc f i v).chans = s.chans := rfl
@[simp] theorem finc_groups (f : Fld) (i v : Nat) : (s.finc f i v).groups = s.groups := rfl
@[simp] theorem finc_tree (f : Fld) (i v : Nat) : (s.finc f i v).tree = s.tree := rfl
@[simp] theorem finc_attnSent (f : Fld) (i v : Nat) : (s.finc f i v).attnSent = s.attnSent := rfl
@[simp] theorem finc_stewards (f : Fld) (i v : Nat) : (s.finc f i v).stewards = s.stewards := rfl
@[simp] theorem finc_staging (f : Fld) (i v : Nat) : (s.finc f i v).staging = s.staging := rfl
@[simp] theorem finc_recFifo (f : Fld) (i v : Nat) : (s.finc f i v).recFifo = s.recFifo := rfl
@[simp] theorem finc_recLostMark (f : Fld) (i v : Nat) : (s.finc f i v).recLostMark = s.recLostMark := rfl
@[simp] theorem finc_power (f : Fld) (i v : Nat) : (s.finc f i v).power = s.power := rfl
@[simp] theorem finc_sec (f : Fld) (i v : Nat) : (s.finc f i v).sec = s.sec := rfl
@[simp] theorem finc_i3c (f : Fld) (i v : Nat) : (s.finc f i v).i3c = s.i3c := rfl
@[simp] theorem finc_jtag (f : Fld) (i v : Nat) : (s.finc f i v).jtag = s.jtag := rfl
@[simp] theorem finc_pins (f : Fld) (i v : Nat) : (s.finc f i v).pins = s.pins := rfl

/-! After setCore. -/

@[simp] theorem setCore_pending (c : Nat) (x : Core) : (s.setCore c x).pending = s.pending := rfl
@[simp] theorem setCore_free (c : Nat) (x : Core) : (s.setCore c x).free = s.free := rfl
@[simp] theorem setCore_readback (c : Nat) (x : Core) : (s.setCore c x).readback = s.readback := rfl
@[simp] theorem setCore_regs (c : Nat) (x : Core) : (s.setCore c x).regs = s.regs := rfl
@[simp] theorem setCore_latches (c : Nat) (x : Core) : (s.setCore c x).latches = s.latches := rfl
@[simp] theorem setCore_dram (c : Nat) (x : Core) : (s.setCore c x).dram = s.dram := rfl
@[simp] theorem setCore_tens (c : Nat) (x : Core) : (s.setCore c x).tens = s.tens := rfl
@[simp] theorem setCore_badPhys (c : Nat) (x : Core) : (s.setCore c x).badPhys = s.badPhys := rfl
@[simp] theorem setCore_badTens (c : Nat) (x : Core) : (s.setCore c x).badTens = s.badTens := rfl
@[simp] theorem setCore_pages (c : Nat) (x : Core) : (s.setCore c x).pages = s.pages := rfl
@[simp] theorem setCore_scrubBlock (c : Nat) (x : Core) : (s.setCore c x).scrubBlock = s.scrubBlock := rfl
@[simp] theorem setCore_load (c : Nat) (x : Core) : (s.setCore c x).load = s.load := rfl
@[simp] theorem setCore_secs (c : Nat) (x : Core) : (s.setCore c x).secs = s.secs := rfl
@[simp] theorem setCore_coreMap (c : Nat) (x : Core) : (s.setCore c x).coreMap = s.coreMap := rfl
@[simp] theorem setCore_links (c : Nat) (x : Core) : (s.setCore c x).links = s.links := rfl
@[simp] theorem setCore_devQueues (c : Nat) (x : Core) : (s.setCore c x).devQueues = s.devQueues := rfl
@[simp] theorem setCore_rules (c : Nat) (x : Core) : (s.setCore c x).rules = s.rules := rfl
@[simp] theorem setCore_rulesOn (c : Nat) (x : Core) : (s.setCore c x).rulesOn = s.rulesOn := rfl
@[simp] theorem setCore_rules0 (c : Nat) (x : Core) : (s.setCore c x).rules0 = s.rules0 := rfl
@[simp] theorem setCore_live (c : Nat) (x : Core) : (s.setCore c x).live = s.live := rfl
@[simp] theorem setCore_repair (c : Nat) (x : Core) : (s.setCore c x).repair = s.repair := rfl
@[simp] theorem setCore_modrec (c : Nat) (x : Core) : (s.setCore c x).modrec = s.modrec := rfl
@[simp] theorem setCore_panels (c : Nat) (x : Core) : (s.setCore c x).panels = s.panels := rfl
@[simp] theorem setCore_flights (c : Nat) (x : Core) : (s.setCore c x).flights = s.flights := rfl
@[simp] theorem setCore_nextFlight (c : Nat) (x : Core) : (s.setCore c x).nextFlight = s.nextFlight := rfl
@[simp] theorem setCore_trackers (c : Nat) (x : Core) : (s.setCore c x).trackers = s.trackers := rfl
@[simp] theorem setCore_trkSaved (c : Nat) (x : Core) : (s.setCore c x).trkSaved = s.trkSaved := rfl
@[simp] theorem setCore_obs (c : Nat) (x : Core) : (s.setCore c x).obs = s.obs := rfl
@[simp] theorem setCore_windows (c : Nat) (x : Core) : (s.setCore c x).windows = s.windows := rfl
@[simp] theorem setCore_micros (c : Nat) (x : Core) : (s.setCore c x).micros = s.micros := rfl
@[simp] theorem setCore_slices (c : Nat) (x : Core) : (s.setCore c x).slices = s.slices := rfl
@[simp] theorem setCore_stalledSlices (c : Nat) (x : Core) : (s.setCore c x).stalledSlices = s.stalledSlices := rfl
@[simp] theorem setCore_sideRecs (c : Nat) (x : Core) : (s.setCore c x).sideRecs = s.sideRecs := rfl
@[simp] theorem setCore_sideSums (c : Nat) (x : Core) : (s.setCore c x).sideSums = s.sideSums := rfl
@[simp] theorem setCore_masks (c : Nat) (x : Core) : (s.setCore c x).masks = s.masks := rfl
@[simp] theorem setCore_helds (c : Nat) (x : Core) : (s.setCore c x).helds = s.helds := rfl
@[simp] theorem setCore_sentTiles (c : Nat) (x : Core) : (s.setCore c x).sentTiles = s.sentTiles := rfl
@[simp] theorem setCore_updates (c : Nat) (x : Core) : (s.setCore c x).updates = s.updates := rfl
@[simp] theorem setCore_updDone (c : Nat) (x : Core) : (s.setCore c x).updDone = s.updDone := rfl
@[simp] theorem setCore_ratios (c : Nat) (x : Core) : (s.setCore c x).ratios = s.ratios := rfl
@[simp] theorem setCore_ratioSnap (c : Nat) (x : Core) : (s.setCore c x).ratioSnap = s.ratioSnap := rfl
@[simp] theorem setCore_epochs (c : Nat) (x : Core) : (s.setCore c x).epochs = s.epochs := rfl
@[simp] theorem setCore_openEpochs (c : Nat) (x : Core) : (s.setCore c x).openEpochs = s.openEpochs := rfl
@[simp] theorem setCore_arrivals (c : Nat) (x : Core) : (s.setCore c x).arrivals = s.arrivals := rfl
@[simp] theorem setCore_releases (c : Nat) (x : Core) : (s.setCore c x).releases = s.releases := rfl
@[simp] theorem setCore_votes (c : Nat) (x : Core) : (s.setCore c x).votes = s.votes := rfl
@[simp] theorem setCore_voteOut (c : Nat) (x : Core) : (s.setCore c x).voteOut = s.voteOut := rfl
@[simp] theorem setCore_forceArmed (c : Nat) (x : Core) : (s.setCore c x).forceArmed = s.forceArmed := rfl
@[simp] theorem setCore_fenceUsed (c : Nat) (x : Core) : (s.setCore c x).fenceUsed = s.fenceUsed := rfl
@[simp] theorem setCore_openTags (c : Nat) (x : Core) : (s.setCore c x).openTags = s.openTags := rfl
@[simp] theorem setCore_heldSets (c : Nat) (x : Core) : (s.setCore c x).heldSets = s.heldSets := rfl
@[simp] theorem setCore_queues (c : Nat) (x : Core) : (s.setCore c x).queues = s.queues := rfl
@[simp] theorem setCore_ports (c : Nat) (x : Core) : (s.setCore c x).ports = s.ports := rfl
@[simp] theorem setCore_requests (c : Nat) (x : Core) : (s.setCore c x).requests = s.requests := rfl
@[simp] theorem setCore_reqWait (c : Nat) (x : Core) : (s.setCore c x).reqWait = s.reqWait := rfl
@[simp] theorem setCore_routes (c : Nat) (x : Core) : (s.setCore c x).routes = s.routes := rfl
@[simp] theorem setCore_uplink (c : Nat) (x : Core) : (s.setCore c x).uplink = s.uplink := rfl
@[simp] theorem setCore_routeChange (c : Nat) (x : Core) : (s.setCore c x).routeChange = s.routeChange := rfl
@[simp] theorem setCore_routeHold (c : Nat) (x : Core) : (s.setCore c x).routeHold = s.routeHold := rfl
@[simp] theorem setCore_discTodo (c : Nat) (x : Core) : (s.setCore c x).discTodo = s.discTodo := rfl
@[simp] theorem setCore_discStarted (c : Nat) (x : Core) : (s.setCore c x).discStarted = s.discStarted := rfl
@[simp] theorem setCore_chans (c : Nat) (x : Core) : (s.setCore c x).chans = s.chans := rfl
@[simp] theorem setCore_groups (c : Nat) (x : Core) : (s.setCore c x).groups = s.groups := rfl
@[simp] theorem setCore_tree (c : Nat) (x : Core) : (s.setCore c x).tree = s.tree := rfl
@[simp] theorem setCore_attnSent (c : Nat) (x : Core) : (s.setCore c x).attnSent = s.attnSent := rfl
@[simp] theorem setCore_stewards (c : Nat) (x : Core) : (s.setCore c x).stewards = s.stewards := rfl
@[simp] theorem setCore_staging (c : Nat) (x : Core) : (s.setCore c x).staging = s.staging := rfl
@[simp] theorem setCore_recFifo (c : Nat) (x : Core) : (s.setCore c x).recFifo = s.recFifo := rfl
@[simp] theorem setCore_recLostMark (c : Nat) (x : Core) : (s.setCore c x).recLostMark = s.recLostMark := rfl
@[simp] theorem setCore_power (c : Nat) (x : Core) : (s.setCore c x).power = s.power := rfl
@[simp] theorem setCore_sec (c : Nat) (x : Core) : (s.setCore c x).sec = s.sec := rfl
@[simp] theorem setCore_i3c (c : Nat) (x : Core) : (s.setCore c x).i3c = s.i3c := rfl
@[simp] theorem setCore_jtag (c : Nat) (x : Core) : (s.setCore c x).jtag = s.jtag := rfl
@[simp] theorem setCore_pins (c : Nat) (x : Core) : (s.setCore c x).pins = s.pins := rfl

/-! After settle. -/

@[simp] theorem settle_free : (settle s).free = s.free := rfl
@[simp] theorem settle_readback : (settle s).readback = s.readback := rfl
@[simp] theorem settle_regs : (settle s).regs = s.regs := rfl
@[simp] theorem settle_latches : (settle s).latches = s.latches := rfl
@[simp] theorem settle_dram : (settle s).dram = s.dram := rfl
@[simp] theorem settle_tens : (settle s).tens = s.tens := rfl
@[simp] theorem settle_badPhys : (settle s).badPhys = s.badPhys := rfl
@[simp] theorem settle_badTens : (settle s).badTens = s.badTens := rfl
@[simp] theorem settle_pages : (settle s).pages = s.pages := rfl
@[simp] theorem settle_scrubBlock : (settle s).scrubBlock = s.scrubBlock := rfl
@[simp] theorem settle_load : (settle s).load = s.load := rfl
@[simp] theorem settle_secs : (settle s).secs = s.secs := rfl
@[simp] theorem settle_coreMap : (settle s).coreMap = s.coreMap := rfl
@[simp] theorem settle_links : (settle s).links = s.links := rfl
@[simp] theorem settle_devQueues : (settle s).devQueues = s.devQueues := rfl
@[simp] theorem settle_rules : (settle s).rules = s.rules := rfl
@[simp] theorem settle_rulesOn : (settle s).rulesOn = s.rulesOn := rfl
@[simp] theorem settle_rules0 : (settle s).rules0 = s.rules0 := rfl
@[simp] theorem settle_live : (settle s).live = s.live := rfl
@[simp] theorem settle_repair : (settle s).repair = s.repair := rfl
@[simp] theorem settle_modrec : (settle s).modrec = s.modrec := rfl
@[simp] theorem settle_panels : (settle s).panels = s.panels := rfl
@[simp] theorem settle_cores : (settle s).cores = s.cores := rfl
@[simp] theorem settle_flights : (settle s).flights = s.flights := rfl
@[simp] theorem settle_nextFlight : (settle s).nextFlight = s.nextFlight := rfl
@[simp] theorem settle_trackers : (settle s).trackers = s.trackers := rfl
@[simp] theorem settle_trkSaved : (settle s).trkSaved = s.trkSaved := rfl
@[simp] theorem settle_obs : (settle s).obs = s.obs := rfl
@[simp] theorem settle_windows : (settle s).windows = s.windows := rfl
@[simp] theorem settle_micros : (settle s).micros = s.micros := rfl
@[simp] theorem settle_slices : (settle s).slices = s.slices := rfl
@[simp] theorem settle_stalledSlices : (settle s).stalledSlices = s.stalledSlices := rfl
@[simp] theorem settle_sideRecs : (settle s).sideRecs = s.sideRecs := rfl
@[simp] theorem settle_sideSums : (settle s).sideSums = s.sideSums := rfl
@[simp] theorem settle_masks : (settle s).masks = s.masks := rfl
@[simp] theorem settle_helds : (settle s).helds = s.helds := rfl
@[simp] theorem settle_sentTiles : (settle s).sentTiles = s.sentTiles := rfl
@[simp] theorem settle_updates : (settle s).updates = s.updates := rfl
@[simp] theorem settle_updDone : (settle s).updDone = s.updDone := rfl
@[simp] theorem settle_ratios : (settle s).ratios = s.ratios := rfl
@[simp] theorem settle_ratioSnap : (settle s).ratioSnap = s.ratioSnap := rfl
@[simp] theorem settle_epochs : (settle s).epochs = s.epochs := rfl
@[simp] theorem settle_openEpochs : (settle s).openEpochs = s.openEpochs := rfl
@[simp] theorem settle_arrivals : (settle s).arrivals = s.arrivals := rfl
@[simp] theorem settle_releases : (settle s).releases = s.releases := rfl
@[simp] theorem settle_votes : (settle s).votes = s.votes := rfl
@[simp] theorem settle_voteOut : (settle s).voteOut = s.voteOut := rfl
@[simp] theorem settle_forceArmed : (settle s).forceArmed = s.forceArmed := rfl
@[simp] theorem settle_fenceUsed : (settle s).fenceUsed = s.fenceUsed := rfl
@[simp] theorem settle_openTags : (settle s).openTags = s.openTags := rfl
@[simp] theorem settle_heldSets : (settle s).heldSets = s.heldSets := rfl
@[simp] theorem settle_queues : (settle s).queues = s.queues := rfl
@[simp] theorem settle_ports : (settle s).ports = s.ports := rfl
@[simp] theorem settle_requests : (settle s).requests = s.requests := rfl
@[simp] theorem settle_reqWait : (settle s).reqWait = s.reqWait := rfl
@[simp] theorem settle_routes : (settle s).routes = s.routes := rfl
@[simp] theorem settle_uplink : (settle s).uplink = s.uplink := rfl
@[simp] theorem settle_routeChange : (settle s).routeChange = s.routeChange := rfl
@[simp] theorem settle_routeHold : (settle s).routeHold = s.routeHold := rfl
@[simp] theorem settle_discTodo : (settle s).discTodo = s.discTodo := rfl
@[simp] theorem settle_discStarted : (settle s).discStarted = s.discStarted := rfl
@[simp] theorem settle_chans : (settle s).chans = s.chans := rfl
@[simp] theorem settle_groups : (settle s).groups = s.groups := rfl
@[simp] theorem settle_tree : (settle s).tree = s.tree := rfl
@[simp] theorem settle_attnSent : (settle s).attnSent = s.attnSent := rfl
@[simp] theorem settle_stewards : (settle s).stewards = s.stewards := rfl
@[simp] theorem settle_staging : (settle s).staging = s.staging := rfl
@[simp] theorem settle_recFifo : (settle s).recFifo = s.recFifo := rfl
@[simp] theorem settle_recLostMark : (settle s).recLostMark = s.recLostMark := rfl
@[simp] theorem settle_power : (settle s).power = s.power := rfl
@[simp] theorem settle_sec : (settle s).sec = s.sec := rfl
@[simp] theorem settle_jtag : (settle s).jtag = s.jtag := rfl

/-! Tables. -/

@[simp] theorem core_setCore_same (c : Nat) (x : Core) : (s.setCore c x).core c = x := by
  unfold State.core State.setCore; exact spGet_spSet_same ..

theorem core_setCore_ne {c d : Nat} (x : Core) (h : d ≠ c) : (s.setCore c x).core d = s.core d := by
  unfold State.core State.setCore; exact spGet_spSet_ne _ _ _ h

@[simp] theorem rd_setCore (c : Nat) (x : Core) (r : Reg) (i : Nat) : (s.setCore c x).rd r i = s.rd r i := rfl
@[simp] theorem fget_setCore (c : Nat) (x : Core) (f : Fld) (i : Nat) : (s.setCore c x).fget f i = s.fget f i := rfl
@[simp] theorem fbit_setCore (c : Nat) (x : Core) (f : Fld) (i : Nat) : (s.setCore c x).fbit f i = s.fbit f i := rfl

@[simp] theorem panel_setPanel_same (c : Nat) (x : Panel) : (s.setPanel c x).panel c = x := by
  unfold State.panel State.setPanel; exact spGet_spSet_same ..

theorem panel_setPanel_ne {c d : Nat} (x : Panel) (h : d ≠ c) : (s.setPanel c x).panel d = s.panel d := by
  unfold State.panel State.setPanel; exact spGet_spSet_ne _ _ _ h

@[simp] theorem rd_setPanel (c : Nat) (x : Panel) (r : Reg) (i : Nat) : (s.setPanel c x).rd r i = s.rd r i := rfl
@[simp] theorem fget_setPanel (c : Nat) (x : Panel) (f : Fld) (i : Nat) : (s.setPanel c x).fget f i = s.fget f i := rfl
@[simp] theorem fbit_setPanel (c : Nat) (x : Panel) (f : Fld) (i : Nat) : (s.setPanel c x).fbit f i = s.fbit f i := rfl

@[simp] theorem queue_setQueue_same (c : Nat) (x : QCtx) : (s.setQueue c x).queue c = x := by
  unfold State.queue State.setQueue; exact spGet_spSet_same ..

theorem queue_setQueue_ne {c d : Nat} (x : QCtx) (h : d ≠ c) : (s.setQueue c x).queue d = s.queue d := by
  unfold State.queue State.setQueue; exact spGet_spSet_ne _ _ _ h

@[simp] theorem rd_setQueue (c : Nat) (x : QCtx) (r : Reg) (i : Nat) : (s.setQueue c x).rd r i = s.rd r i := rfl
@[simp] theorem fget_setQueue (c : Nat) (x : QCtx) (f : Fld) (i : Nat) : (s.setQueue c x).fget f i = s.fget f i := rfl
@[simp] theorem fbit_setQueue (c : Nat) (x : QCtx) (f : Fld) (i : Nat) : (s.setQueue c x).fbit f i = s.fbit f i := rfl

@[simp] theorem port_setPort_same (c : Nat) (x : Port) : (s.setPort c x).port c = x := by
  unfold State.port State.setPort; exact spGet_spSet_same ..

theorem port_setPort_ne {c d : Nat} (x : Port) (h : d ≠ c) : (s.setPort c x).port d = s.port d := by
  unfold State.port State.setPort; exact spGet_spSet_ne _ _ _ h

@[simp] theorem rd_setPort (c : Nat) (x : Port) (r : Reg) (i : Nat) : (s.setPort c x).rd r i = s.rd r i := rfl
@[simp] theorem fget_setPort (c : Nat) (x : Port) (f : Fld) (i : Nat) : (s.setPort c x).fget f i = s.fget f i := rfl
@[simp] theorem fbit_setPort (c : Nat) (x : Port) (f : Fld) (i : Nat) : (s.setPort c x).fbit f i = s.fbit f i := rfl

@[simp] theorem chan_setChan_same (c : Nat) (x : Chan) : (s.setChan c x).chan c = x := by
  unfold State.chan State.setChan; exact spGet_spSet_same ..

theorem chan_setChan_ne {c d : Nat} (x : Chan) (h : d ≠ c) : (s.setChan c x).chan d = s.chan d := by
  unfold State.chan State.setChan; exact spGet_spSet_ne _ _ _ h

@[simp] theorem rd_setChan (c : Nat) (x : Chan) (r : Reg) (i : Nat) : (s.setChan c x).rd r i = s.rd r i := rfl
@[simp] theorem fget_setChan (c : Nat) (x : Chan) (f : Fld) (i : Nat) : (s.setChan c x).fget f i = s.fget f i := rfl
@[simp] theorem fbit_setChan (c : Nat) (x : Chan) (f : Fld) (i : Nat) : (s.setChan c x).fbit f i = s.fbit f i := rfl

@[simp] theorem stw_setStw_same (c : Nat) (x : Stw) : (s.setStw c x).stw c = x := by
  unfold State.stw State.setStw; exact spGet_spSet_same ..

theorem stw_setStw_ne {c d : Nat} (x : Stw) (h : d ≠ c) : (s.setStw c x).stw d = s.stw d := by
  unfold State.stw State.setStw; exact spGet_spSet_ne _ _ _ h

@[simp] theorem rd_setStw (c : Nat) (x : Stw) (r : Reg) (i : Nat) : (s.setStw c x).rd r i = s.rd r i := rfl
@[simp] theorem fget_setStw (c : Nat) (x : Stw) (f : Fld) (i : Nat) : (s.setStw c x).fget f i = s.fget f i := rfl
@[simp] theorem fbit_setStw (c : Nat) (x : Stw) (f : Fld) (i : Nat) : (s.setStw c x).fbit f i = s.fbit f i := rfl

@[simp] theorem wr_core (r : Reg) (i : Nat) (w : Word) (d : Nat) : (s.wr r i w).core d = s.core d := rfl
@[simp] theorem fset_core (f : Fld) (i v : Nat) (d : Nat) : (s.fset f i v).core d = s.core d := rfl
@[simp] theorem finc_core (f : Fld) (i v : Nat) (d : Nat) : (s.finc f i v).core d = s.core d := rfl
@[simp] theorem settle_core (d : Nat) : (settle s).core d = s.core d := rfl
@[simp] theorem wr_panel (r : Reg) (i : Nat) (w : Word) (d : Nat) : (s.wr r i w).panel d = s.panel d := rfl
@[simp] theorem fset_panel (f : Fld) (i v : Nat) (d : Nat) : (s.fset f i v).panel d = s.panel d := rfl
@[simp] theorem finc_panel (f : Fld) (i v : Nat) (d : Nat) : (s.finc f i v).panel d = s.panel d := rfl
@[simp] theorem settle_panel (d : Nat) : (settle s).panel d = s.panel d := rfl
@[simp] theorem wr_queue (r : Reg) (i : Nat) (w : Word) (d : Nat) : (s.wr r i w).queue d = s.queue d := rfl
@[simp] theorem fset_queue (f : Fld) (i v : Nat) (d : Nat) : (s.fset f i v).queue d = s.queue d := rfl
@[simp] theorem finc_queue (f : Fld) (i v : Nat) (d : Nat) : (s.finc f i v).queue d = s.queue d := rfl
@[simp] theorem settle_queue (d : Nat) : (settle s).queue d = s.queue d := rfl
@[simp] theorem wr_port (r : Reg) (i : Nat) (w : Word) (d : Nat) : (s.wr r i w).port d = s.port d := rfl
@[simp] theorem fset_port (f : Fld) (i v : Nat) (d : Nat) : (s.fset f i v).port d = s.port d := rfl
@[simp] theorem finc_port (f : Fld) (i v : Nat) (d : Nat) : (s.finc f i v).port d = s.port d := rfl
@[simp] theorem settle_port (d : Nat) : (settle s).port d = s.port d := rfl
@[simp] theorem wr_chan (r : Reg) (i : Nat) (w : Word) (d : Nat) : (s.wr r i w).chan d = s.chan d := rfl
@[simp] theorem fset_chan (f : Fld) (i v : Nat) (d : Nat) : (s.fset f i v).chan d = s.chan d := rfl
@[simp] theorem finc_chan (f : Fld) (i v : Nat) (d : Nat) : (s.finc f i v).chan d = s.chan d := rfl
@[simp] theorem settle_chan (d : Nat) : (settle s).chan d = s.chan d := rfl
@[simp] theorem wr_stw (r : Reg) (i : Nat) (w : Word) (d : Nat) : (s.wr r i w).stw d = s.stw d := rfl
@[simp] theorem fset_stw (f : Fld) (i v : Nat) (d : Nat) : (s.fset f i v).stw d = s.stw d := rfl
@[simp] theorem finc_stw (f : Fld) (i v : Nat) (d : Nat) : (s.finc f i v).stw d = s.stw d := rfl
@[simp] theorem settle_stw (d : Nat) : (settle s).stw d = s.stw d := rfl

/-- A byte of device DRAM outside the bytes written reads as before; inside, what was written. -/
theorem memGet_memSet (m : List Host.Cell) (a b : Nat) (v : Byte) :
    memGet (memSet m a v) b = if b = a then v else memGet m b := spGet_spSet ..

theorem memGet_memWrite (m : List Host.Cell) (a b : Nat) (bs : List Byte) :
    memGet (memWrite m a bs) b = if a ≤ b ∧ b < a + bs.length then bs.getD (b - a) 0 else memGet m b := by
  induction bs generalizing m a with
  | nil => unfold memWrite; rw [if_neg (by simp only [List.length_nil]; omega)]
  | cons x xs ih =>
    unfold memWrite
    rw [ih, memGet_memSet]
    by_cases h : b = a
    · subst h
      rw [if_neg (by omega), if_pos rfl, if_pos (by simp only [List.length_cons]; omega), Nat.sub_self]
      rfl
    · by_cases k : a + 1 ≤ b ∧ b < a + 1 + xs.length
      · rw [if_pos k, if_pos (by simp only [List.length_cons]; omega)]
        have : b - a = (b - (a + 1)) + 1 := by omega
        rw [this]; rfl
      · rw [if_neg k, if_neg h, if_neg (by simp only [List.length_cons]; omega)]

end Sys2Proof.Laws
end

