-- ==== Sys2Proof/Laws/Issue.lean ====
section
/-! SUPPORT. Issue of a macro-instruction (R180, R196, R200): what the common steps of every issuing command leave and make. -/
namespace Sys2Proof.Laws
open Sys2Proof Sys2Proof.Machine

/-! Fresh numbers. -/

theorem foldl_max_ge (l : List Flight) (n : Nat) : n ≤ l.foldl (fun n f => max n (f.id + 1)) n := by
  induction l generalizing n with
  | nil => exact Nat.le_refl _
  | cons x l ih => exact Nat.le_trans (Nat.le_max_left ..) (ih _)

theorem foldl_max_mem {l : List Flight} {n : Nat} {f : Flight} (h : f ∈ l) : f.id < l.foldl (fun n f => max n (f.id + 1)) n := by
  induction l generalizing n with
  | nil => exact absurd h List.not_mem_nil
  | cons x l ih =>
    rcases List.mem_cons.mp h with rfl | h
    · exact Nat.lt_of_lt_of_le (Nat.lt_of_lt_of_le (Nat.lt_succ_self _) (Nat.le_max_right ..)) (foldl_max_ge l _)
    · exact ih h

/-- No flight has the fresh number. -/
theorem lt_freshId {s : State} {f : Flight} (h : f ∈ s.flights) : f.id < s.freshId := foldl_max_mem h

theorem find_fresh {s : State} {f : Flight} (h : f.id = s.freshId) : (s.flights ++ [f]).find? (·.id == s.freshId) = some f := by
  rw [List.find?_append, List.find?_eq_none.mpr]
  · simp [h]
  · intro x hx
    have := lt_freshId hx
    simp only [beq_iff_eq]; omega

/-! Cores and streams. -/

theorem stream_setStream_same (x : Core) (st : Strm) (y : StreamCtx) : (x.setStream st y).stream st = y := by cases st <;> rfl
theorem stream_setStream_ne (x : Core) {st tt : Strm} (y : StreamCtx) (h : tt ≠ st) : (x.setStream st y).stream tt = x.stream tt := by
  cases st <;> cases tt <;> first | rfl | exact absurd rfl h
theorem shp_setStream (x : Core) (st : Strm) (y : StreamCtx) : (x.setStream st y).shp = x.shp := by cases st <;> rfl
theorem setStream_setStream (x : Core) (st : Strm) (y z : StreamCtx) : (x.setStream st y).setStream st z = x.setStream st z := by
  cases st <;> rfl

theorem core_setCore (s : State) (c d : Nat) (x : Core) : (s.setCore c x).core d = if d = c then x else s.core d := by
  split
  · next h => rw [h]; exact core_setCore_same ..
  · next h => exact core_setCore_ne _ _ h

theorem shp_setCore_setStream (s : State) (c : Nat) (st : Strm) (y : StreamCtx) (d : Nat) :
    ((s.setCore c ((s.core c).setStream st y)).core d).shp = (s.core d).shp := by
  rw [core_setCore]
  split
  · next h => rw [h, shp_setStream]
  · rfl

theorem setCore_agree (s : State) (c : Nat) (st : Strm) (y : StreamCtx) : Agree s (s.setCore c ((s.core c).setStream st y)) :=
  Agree.of_keeps_cores (State_setCore_keeps) (by decide) (shp_setCore_setStream s c st y)

theorem wake_agree (s : State) (c : Nat) : Agree s (s.wake c) := Agree.of_keeps State_wake_keeps (by decide)
theorem consumeWaits_agree (s : State) (c : Nat) (m : List Byte) : Agree s (consumeWaits s c m) :=
  Agree.of_keeps consumeWaits_keeps (by decide)
theorem ungrant_agree (s : State) (c : Nat) (st : Strm) : Agree s (s.ungrant c st) := setCore_agree ..

/-! Operations whose checks, plan and run-time shape depend on the loaded data only. -/

structure SpecAgrees (o : OpSpec) : Prop where
  plan : ∀ {s u : State}, Agree s u → ∀ n m, o.plan u n m = o.plan s n m
  planned : ∀ {s u : State}, Agree s u → ∀ m, o.planned u m = o.planned s m
  reject : ∀ {s u : State}, Agree s u → ∀ p c st m, rejectCause o u p c st m = rejectCause o s p c st m
  ready : ∀ s c d p m, o.ready (s.wake d) p c m = o.ready s p c m

theorem opProduct_agrees (op : Nat) : SpecAgrees (opProduct op) where
  plan := fun h => opProduct_plan_agree h op
  planned := fun h => opProduct_planned_agree h op
  reject := fun h => opProduct_reject_agree h op
  ready := fun s c d p m => by
    show (!windowBusy (s.wake d) p c m) = !windowBusy s p c m
    unfold windowBusy
    rw [(State_wake_keeps (s := s) (c := d)).flights (by decide)]
    simp only [(State_wake_keeps (s := s) (c := d)).fget (f := F.NDL_STREAM_SEQ_SEQ) (by decide)]
theorem opConvert_agrees (k : Nat) : SpecAgrees (opConvert k) :=
  ⟨fun h => opConvert_plan_agree h k, fun h => opConvert_planned_agree h k, fun h => opConvert_reject_agree h k, fun _ _ _ _ _ => rfl⟩
theorem opVector_agrees (k : Nat) : SpecAgrees (opVector k) :=
  ⟨fun h => opVector_plan_agree h k, fun h => opVector_planned_agree h k, fun h => opVector_reject_agree h k, fun _ _ _ _ _ => rfl⟩
theorem opRows_agrees (g : Bool) : SpecAgrees (opRows g) :=
  ⟨fun h => opRows_plan_agree h g, fun h => opRows_planned_agree h g, fun h => opRows_reject_agree h g, fun _ _ _ _ _ => rfl⟩
theorem opAttend_agrees : SpecAgrees opAttend :=
  ⟨fun h => opAttend_plan_agree h, fun h => opAttend_planned_agree h, fun h => opAttend_reject_agree h, fun _ _ _ _ _ => rfl⟩
theorem opBwd_agrees (k : Nat) : SpecAgrees (opBwd k) :=
  ⟨fun h => opBwd_plan_agree h k, fun h => opBwd_planned_agree h k, fun h => opBwd_reject_agree h k, fun _ _ _ _ _ => rfl⟩
theorem opAppend_agrees : SpecAgrees opAppend :=
  ⟨fun h => opAppend_plan_agree h, fun h => opAppend_planned_agree h, fun h => opAppend_reject_agree h, fun _ _ _ _ _ => rfl⟩
theorem opLookup_agrees (k : Nat) : SpecAgrees (opLookup k) :=
  ⟨fun h => opLookup_plan_agree h k, fun h => opLookup_planned_agree h k, fun h => opLookup_reject_agree h k, fun _ _ _ _ _ => rfl⟩
theorem opFork_agrees : SpecAgrees opFork :=
  ⟨fun h => opFork_plan_agree h, fun h => opFork_planned_agree h, fun h => opFork_reject_agree h, fun _ _ _ _ _ => rfl⟩
theorem opSlices_agrees (r : Bool) : SpecAgrees (opSlices r) :=
  ⟨fun h => opSlices_plan_agree h r, fun h => opSlices_planned_agree h r, fun h => opSlices_reject_agree h r, fun _ _ _ _ _ => rfl⟩
theorem opUpdate_agrees (r : Bool) : SpecAgrees (opUpdate r) where
  plan := fun h => opUpdate_plan_agree h r
  planned := fun h => opUpdate_planned_agree h r
  reject := fun h => opUpdate_reject_agree h r
  ready := fun s c d p m => by
    show ((s.wake d).fget F.FELT_RULE_STATUS_STATE 0 == 0) = (s.fget F.FELT_RULE_STATUS_STATE 0 == 0)
    rw [fget_agree (wake_agree s d) (by decide)]
theorem opMarker_agrees : SpecAgrees opMarker :=
  ⟨fun h => opMarker_plan_agree h, fun h => opMarker_planned_agree h, fun h => opMarker_reject_agree h, fun _ _ _ _ _ => rfl⟩
theorem opBarrier_agrees : SpecAgrees opBarrier :=
  ⟨fun h => opBarrier_plan_agree h, fun h => opBarrier_planned_agree h, fun h => opBarrier_reject_agree h, fun _ _ _ _ _ => rfl⟩
theorem opRead_agrees (b : Bool) : SpecAgrees (opRead b) :=
  ⟨fun h => opRead_plan_agree h b, fun h => opRead_planned_agree h b, fun h => opRead_reject_agree h b, fun _ _ _ _ _ => rfl⟩
theorem opIndex_agrees (k : Nat) : SpecAgrees (opIndex k) :=
  ⟨fun h => opIndex_plan_agree h k, fun h => opIndex_planned_agree h k, fun h => opIndex_reject_agree h k, fun _ _ _ _ _ => rfl⟩

/-- Every issuing command is the common issue of its operation, with a body of its own. -/
theorem exec_issuer {i : Instr} {o : OpSpec} {c : Nat} {st : Strm} (h : issuer i = some (o, c, st)) :
    SpecAgrees o ∧ ∃ body : State → Nat → Flight → Bool → State, ∀ s, exec i s = done (issue o s c st body) := by
  cases i
  case matmulG c st => cases h; exact ⟨opProduct_agrees _, _, fun _ => rfl⟩
  case matmulT c st => cases h; exact ⟨opProduct_agrees _, _, fun _ => rfl⟩
  case matmulTdx c st => cases h; exact ⟨opProduct_agrees _, _, fun _ => rfl⟩
  case matmulTdw c st => cases h; exact ⟨opProduct_agrees _, _, fun _ => rfl⟩
  case activationCheckpoint c st => cases h; exact ⟨opConvert_agrees _, _, fun _ => rfl⟩
  case fp8Activation c st => cases h; exact ⟨opConvert_agrees _, _, fun _ => rfl⟩
  case gradientConversion c st => cases h; exact ⟨opConvert_agrees _, _, fun _ => rfl⟩
  case plainConversion c st => cases h; exact ⟨opConvert_agrees _, _, fun _ => rfl⟩
  case add c st => cases h; exact ⟨opVector_agrees _, _, fun _ => rfl⟩
  case sub c st => cases h; exact ⟨opVector_agrees _, _, fun _ => rfl⟩
  case mul c st => cases h; exact ⟨opVector_agrees _, _, fun _ => rfl⟩
  case max c st => cases h; exact ⟨opVector_agrees _, _, fun _ => rfl⟩
  case min c st => cases h; exact ⟨opVector_agrees _, _, fun _ => rfl⟩
  case scale c st => cases h; exact ⟨opVector_agrees _, _, fun _ => rfl⟩
  case copy c st => cases h; exact ⟨opVector_agrees _, _, fun _ => rfl⟩
  case exp c st => cases h; exact ⟨opVector_agrees _, _, fun _ => rfl⟩
  case log c st => cases h; exact ⟨opVector_agrees _, _, fun _ => rfl⟩
  case recip c st => cases h; exact ⟨opVector_agrees _, _, fun _ => rfl⟩
  case rsqrt c st => cases h; exact ⟨opVector_agrees _, _, fun _ => rfl⟩
  case tanh c st => cases h; exact ⟨opVector_agrees _, _, fun _ => rfl⟩
  case sigmoid c st => cases h; exact ⟨opVector_agrees _, _, fun _ => rfl⟩
  case geluT c st => cases h; exact ⟨opVector_agrees _, _, fun _ => rfl⟩
  case geluE c st => cases h; exact ⟨opVector_agrees _, _, fun _ => rfl⟩
  case silu c st => cases h; exact ⟨opVector_agrees _, _, fun _ => rfl⟩
  case rowsum c st => cases h; exact ⟨opVector_agrees _, _, fun _ => rfl⟩
  case rowmax c st => cases h; exact ⟨opVector_agrees _, _, fun _ => rfl⟩
  case softmax c st => cases h; exact ⟨opVector_agrees _, _, fun _ => rfl⟩
  case rmsnorm c st => cases h; exact ⟨opVector_agrees _, _, fun _ => rfl⟩
  case layernorm c st => cases h; exact ⟨opVector_agrees _, _, fun _ => rfl⟩
  case gather c st => cases h; exact ⟨opRows_agrees _, _, fun _ => rfl⟩
  case scatter c st => cases h; exact ⟨opRows_agrees _, _, fun _ => rfl⟩
  case attend c st => cases h; exact ⟨opAttend_agrees, _, fun _ => rfl⟩
  case attendBwdDot c st => cases h; exact ⟨opBwd_agrees _, _, fun _ => rfl⟩
  case attendBwdKv c st => cases h; exact ⟨opBwd_agrees _, _, fun _ => rfl⟩
  case attendBwdQ c st => cases h; exact ⟨opBwd_agrees _, _, fun _ => rfl⟩
  case kvAppend c st => cases h; exact ⟨opAppend_agrees, _, fun _ => rfl⟩
  case attach c st => cases h; exact ⟨opLookup_agrees _, _, fun _ => rfl⟩
  case releaseChannel c st => cases h; exact ⟨opLookup_agrees _, _, fun _ => rfl⟩
  case kvFork c st => cases h; exact ⟨opFork_agrees, _, fun _ => rfl⟩
  case sliceSend c st => cases h; exact ⟨opSlices_agrees _, _, fun _ => rfl⟩
  case reduce c st => cases h; exact ⟨opSlices_agrees _, _, fun _ => rfl⟩
  case update c st => cases h; exact ⟨opUpdate_agrees _, _, fun _ => rfl⟩
  case materialise c st => cases h; exact ⟨opUpdate_agrees _, _, fun _ => rfl⟩
  case marker c st => cases h; exact ⟨opMarker_agrees, _, fun _ => rfl⟩
  case barrier c st => cases h; exact ⟨opBarrier_agrees, _, fun _ => rfl⟩
  case queueRead c st => cases h; exact ⟨opRead_agrees _, _, fun _ => rfl⟩
  case corePush c st => cases h; exact ⟨opRead_agrees _, _, fun _ => rfl⟩
  case queueMark c st => cases h; exact ⟨opIndex_agrees _, _, fun _ => rfl⟩
  case queueRewind c st => cases h; exact ⟨opIndex_agrees _, _, fun _ => rfl⟩
  case queueRelease c st => cases h; exact ⟨opIndex_agrees _, _, fun _ => rfl⟩
  all_goals cases h

/-! The common issue. -/

theorem openWaits_wake (s : State) (c d : Nat) (st : Strm) (m : List Byte) : openWaits (s.wake d) c st m = openWaits s c st m := by
  have k := State_wake_keeps (s := s) (c := d)
  unfold openWaits waitMask State.core markerOn
  rw [k.cores (by decide), k.reg .MK_STATE_LO c (by decide), k.reg .MK_STATE_HI c (by decide)]

theorem slotFree_flights {s u : State} (h : u.flights = s.flights) (p : Nat) (st : Strm) (q : Nat) : slotFree u p st q = slotFree s p st q := by
  unfold slotFree; rw [h]

theorem freeTags_used {s u : State} (h : u.fenceUsed = s.fenceUsed) (n : Nat) : freeTags u n = freeTags s n := by
  unfold freeTags; rw [h]

/-- Where issue goes on once its waits are satisfied: the core awake, the waits consumed. -/
def headState (s : State) (c : Nat) (st : Strm) (m : List Byte) : State := (consumeWaits (s.wake c) c m).ungrant c st

theorem headState_agree (s : State) (c : Nat) (st : Strm) (m : List Byte) : Agree s (headState s c st m) :=
  ((wake_agree s c).trans (consumeWaits_agree _ c m)).trans (ungrant_agree _ c st)

/-- What headState may write: markers, the wake of the core, and cores. -/
theorem headState_keeps (s : State) (c : Nat) (st : Strm) (m : List Byte) :
    Keeps (0x600000000000000 ||| 0x1880000000000000040 ||| 1 <<< 537) s (headState s c st m) :=
  ((State_wake_keeps.mono (by decide)).trans (consumeWaits_keeps.mono (by decide))).trans (State_ungrant_keeps.mono (by decide))

theorem core_consumeWaits (s : State) (c d : Nat) (m : List Byte) : (consumeWaits (s.wake c) c m).core d = s.core d := by
  unfold State.core
  rw [consumeWaits_keeps.cores (by decide), State_wake_keeps.cores (by decide)]

theorem headState_stream (s : State) (c : Nat) (st : Strm) (m : List Byte) :
    ((headState s c st m).core c).stream st = { (s.core c).stream st with granted := false } := by
  unfold headState State.ungrant
  rw [core_setCore_same, stream_setStream_same, core_consumeWaits]

/-- An open wait holds the stream in WAIT (R180, R213). -/
theorem issue_waits {o : OpSpec} {s : State} {c : Nat} {st : Strm} {p : Nat} {m : List Byte} (h : standsAt o s c st p m)
    (hw : openWaits s c st m ≠ 0) (body : State → Nat → Flight → Bool → State) :
    issue o s c st body = (s.wake c).setSstate c st stWait := by
  obtain ⟨ho, hi, rfl, hm⟩ := h
  have hm' : (!o.mine (s.miAt p st (s.pc c st)) && opStreams (miOpcode (s.miAt p st (s.pc c st))) != []) = false := by
    rcases hm with hm | hm
    · rw [hm]; rfl
    · rw [hm]; simp
  unfold issue
  simp only [ho, hi, hm', openWaits_wake, ne_eq, hw, not_false_eq_true, if_true, Bool.not_true, Bool.false_eq_true, if_false]

/-- A slot that is taken holds the stream in SLOT_WAIT (R206). -/
theorem issue_slot {o : OpSpec} {s : State} {c : Nat} {st : Strm} {p : Nat} {m : List Byte} (h : standsAt o s c st p m)
    (hw : openWaits s c st m = 0) (hc : coreScoped o m = false) (hs : slotFree s p st (nextSeq s c st) = false)
    (body : State → Nat → Flight → Bool → State) : issue o s c st body = (s.wake c).setSstate c st stSlot := by
  obtain ⟨ho, hi, rfl, hm⟩ := h
  have hm' : (!o.mine (s.miAt p st (s.pc c st)) && opStreams (miOpcode (s.miAt p st (s.pc c st))) != []) = false := by
    rcases hm with hm | hm
    · rw [hm]; rfl
    · rw [hm]; simp
  have k := State_wake_keeps (s := s) (c := c)
  have hq : (s.wake c).fget F.NDL_STREAM_SEQ_SEQ (strmIx c st) = s.fget F.NDL_STREAM_SEQ_SEQ (strmIx c st) := k.fget (by decide)
  unfold coreScoped at hc
  unfold nextSeq at hs
  unfold issue
  simp only [ho, hi, hm', openWaits_wake, hw, ne_eq, not_true_eq_false, if_false, Bool.not_true, Bool.false_eq_true, hc,
    slotFree_flights (k.flights (by decide)), hq, hs, Bool.not_false, Bool.and_self, Bool.true_or, if_true]

/-- Past its waits, issue rejects, waits in SLOT_WAIT, or enters. -/
theorem issue_head {o : OpSpec} {s : State} {c : Nat} {st : Strm} {p : Nat} {m : List Byte} (h : atHead o s c st p m)
    (ha : SpecAgrees o) (body : State → Nat → Flight → Bool → State) :
    issue o s c st body =
      if rejectCause o s p c st m = 0 ∧ (o.ready s p c m = false ∨
          (freeTags s (remoteDevs m).length).length < (remoteDevs m).length) then (s.wake c).setSstate c st stSlot
      else if rejectCause o s p c st m ≠ 0 then (headState s c st m).halt c st (rejectCause o s p c st m)
      else
        let e := enter o (headState s c st m) p c st m
        match e.1.flight e.2.1 with
        | some f => body e.1 e.2.1 f e.2.2
        | none => e.1 := by
  obtain ⟨⟨ho, hi, rfl, hm⟩, hw, hs⟩ := h
  have hm' : (!o.mine (s.miAt p st (s.pc c st)) && opStreams (miOpcode (s.miAt p st (s.pc c st))) != []) = false := by
    rcases hm with hm | hm
    · rw [hm]; rfl
    · rw [hm]; simp
  have k := State_wake_keeps (s := s) (c := c)
  have hq : (s.wake c).fget F.NDL_STREAM_SEQ_SEQ (strmIx c st) = s.fget F.NDL_STREAM_SEQ_SEQ (strmIx c st) := k.fget (by decide)
  have hs' : (!(miScope (s.miAt p st (s.pc c st)) || o.own) &&
      !slotFree (s.wake c) p st ((s.wake c).fget F.NDL_STREAM_SEQ_SEQ (strmIx c st) + 1)) = false := by
    rw [slotFree_flights (k.flights (by decide)), hq]
    unfold coreScoped nextSeq at hs
    rcases hs with hs | hs <;> rw [hs] <;> simp
  unfold issue
  simp only [ho, hi, hm', openWaits_wake, hw, ne_eq, not_true_eq_false, if_false, Bool.not_true, Bool.false_eq_true, hs',
    Bool.false_or, ha.reject (wake_agree s c), ha.ready, freeTags_used (k.fenceUsed (by decide)), Bool.and_eq_true,
    decide_eq_true_eq, Bool.or_eq_true, Bool.not_eq_true']
  rfl

theorem fields_eq {f g : Fld} : decide (f = g) = true → f = g := fun h => of_decide_eq_true h

/-- What entering may write, beside what headState may. -/
def enterMask : Nat := regMask [.NDL_STREAM_SEQ, .NDL_STREAM_STATUS] ||| partMask [.cores, .flights, .nextFlight, .fenceUsed] |||
  (0x600000000000000 ||| 0x1880000000000000040 ||| 1 <<< 537)

/-- The registers that enter sets: sequence number, SCOPE, WALK. -/
def entryRegs (o : OpSpec) (u : State) (c : Nat) (st : Strm) (m : List Byte) : State :=
  let q := (u.fget F.NDL_STREAM_SEQ_SEQ (strmIx c st) + 1) % 2 ^ 32
  let u := if miScope m || o.own then u else u.fset F.NDL_STREAM_SEQ_SEQ (strmIx c st) q
  (u.fset F.NDL_STREAM_STATUS_SCOPE (strmIx c st) (b2n (miScope m))).setSstate c st stWalk

theorem entryRegs_keeps (o : OpSpec) (u : State) (c : Nat) (st : Strm) (m : List Byte) :
    Keeps (regMask [.NDL_STREAM_SEQ, .NDL_STREAM_STATUS]) u (entryRegs o u c st m) := by
  unfold entryRegs State.setSstate
  refine Keeps.trans ?_ (State_fset_keeps (by decide))
  refine Keeps.trans ?_ (State_fset_keeps (by decide))
  split
  · exact Keeps.refl
  · exact State_fset_keeps (by decide)

theorem entryRegs_agree (o : OpSpec) (u : State) (c : Nat) (st : Strm) (m : List Byte) : Agree u (entryRegs o u c st m) :=
  Agree.of_keeps (entryRegs_keeps o u c st m) (by decide)

/-- The first core of a macro-instruction makes its flight. -/
theorem enter_first {o : OpSpec} {s : State} {c : Nat} {st : Strm} {p : Nat} {m : List Byte} (hf : isFirst o s c st p m)
    (ha : SpecAgrees o) : ∃ u, enter o (headState s c st m) p c st m = (u, s.freshId, true) ∧ Agree s u ∧
      Keeps enterMask s u ∧
      u.flights = s.flights ++ [newFlight o s c st p m] ∧ u.nextFlight = s.freshId + 1 ∧ u.sstate c st = stWalk ∧
      u.pc c st = s.pc c st ∧ u.flight s.freshId = some (newFlight o s c st p m) ∧
      (u.core c).stream st = { (s.core c).stream st with granted := false, flight := some s.freshId } ∧
      (coreScoped o m = false → u.fget F.NDL_STREAM_SEQ_SEQ (strmIx c st) = nextSeq s c st % 2 ^ 32) := by
  have hk := headState_keeps s c st m
  have hag := headState_agree s c st m
  have hfl : (headState s c st m).flights = s.flights := hk.flights (by decide)
  have hnf : (headState s c st m).nextFlight = s.nextFlight := hk.nextFlight (by decide)
  have hsq : (headState s c st m).fget F.NDL_STREAM_SEQ_SEQ (strmIx c st) = s.fget F.NDL_STREAM_SEQ_SEQ (strmIx c st) :=
    hk.fget (by decide)
  have hstep : ∀ x, (headState s c st m).fget F.HUB_STEP_NUM_S x = s.fget F.HUB_STEP_NUM_S x := fun _ => hk.fget (by decide)
  have hfu : (headState s c st m).fenceUsed = s.fenceUsed := hk.fenceUsed (by decide)
  have hpc : (headState s c st m).pc c st = s.pc c st := by unfold State.pc; exact hk.fget (by decide)
  generalize hH : headState s c st m = H at *
  have ek := entryRegs_keeps o H c st m
  have eag := entryRegs_agree o H c st m
  have hst : (H.core c).stream st = { (s.core c).stream st with granted := false } := by rw [← hH, headState_stream]
  generalize hE : entryRegs o H c st m = E at ek eag
  have hEf : E.flights = s.flights := (ek.flights (by decide)).trans hfl
  have hEn : E.nextFlight = s.nextFlight := (ek.nextFlight (by decide)).trans hnf
  have hEu : E.fenceUsed = s.fenceUsed := (ek.fenceUsed (by decide)).trans hfu
  have hEc : E.core c = H.core c := by unfold State.core; rw [ek.cores (by decide)]
  have hEp : E.pc c st = s.pc c st := by rw [← hpc]; unfold State.pc; exact ek.fget (by decide)
  have hEs : E.sstate c st = stWalk := by
    rw [← hE]; unfold entryRegs State.sstate State.setSstate
    rw [fget_fset_same (f := F.NDL_STREAM_STATUS_STATE) (by decide)]; rfl
  have hEq : coreScoped o m = false → E.fget F.NDL_STREAM_SEQ_SEQ (strmIx c st) = nextSeq s c st % 2 ^ 32 := by
    intro hc
    rw [← hE]; unfold entryRegs State.setSstate
    rw [fget_fset_ne (f := F.NDL_STREAM_STATUS_STATE) (by decide) (.inl rfl), fget_fset_ne (f := F.NDL_STREAM_STATUS_SCOPE) (by decide) (.inl rfl)]
    unfold coreScoped at hc
    rw [hc]
    simp only [Bool.false_eq_true, if_false]
    rw [fget_fset_same (f := F.NDL_STREAM_SEQ_SEQ) (by decide), hsq]
    unfold nextSeq
    exact Nat.mod_mod ..
  have old : (E.flights.find? fun f => f.panel == p && f.strm == st && f.core.isNone &&
      f.seq == (H.fget F.NDL_STREAM_SEQ_SEQ (strmIx c st) + 1) % 2 ^ 32 && !(miScope m || o.own)) = none := by
    rw [List.find?_eq_none]
    intro f hm hx
    simp only [Bool.and_eq_true, beq_iff_eq, Bool.not_eq_true', Option.isNone_iff_eq_none] at hx
    obtain ⟨⟨⟨⟨h1, h2⟩, h3⟩, h4⟩, h5⟩ := hx
    rcases hf with hf | hf
    · unfold coreScoped at hf; rw [hf] at h5; exact absurd h5 (by decide)
    · rw [hEf] at hm
      refine hf f hm ⟨h1, h2, h3, ?_⟩
      rw [h4, hsq]; rfl
  have hEag : Agree s E := hag.trans eag
  have hnew : (⟨E.freshId, p, st, (if miScope m || o.own then some c else none),
      (H.fget F.NDL_STREAM_SEQ_SEQ (strmIx c st) + 1) % 2 ^ 32, E.pc c st, m,
      o.plan E (if miScope m || o.own then 1 else (E.logicals p).length) m, shapeOf E c st m (o.planned E m), 0, [], [c],
      [], [], [], (remoteDevs m).zip ((freeTags E (remoteDevs m).length).zip ((remoteDevs m).map fun _ => 0)),
      E.fget F.HUB_STEP_NUM_S p, 0, bankMask E, [], false, false⟩ : Flight) = newFlight o s c st p m := by
    have e1 : E.freshId = s.freshId := by unfold State.freshId; rw [hEf, hEn]
    have e2 : E.logicals p = s.logicals p := by unfold State.logicals State.secsOf; rw [hEag.secs]
    rw [e1, hEp, ha.plan hEag, ha.planned hEag, shapeOf_agree hEag, e2, freeTags_used hEu, bankMask_agree hEag, hsq,
      fget_agree hEag (by decide)]
    rfl
  have e1 : E.freshId = s.freshId := by unfold State.freshId; rw [hEf, hEn]
  refine ⟨(fun u : State => u.setCore c ((u.core c).setStream st { (u.core c).stream st with flight := some E.freshId }))
    { E with flights := E.flights ++ [newFlight o s c st p m], nextFlight := E.freshId + 1,
             fenceUsed := E.fenceUsed ++ (freeTags E (remoteDevs m).length).map (·, p) }, ?_, ?_, ?_, ?_, ?_, ?_, ?_, ?_, ?_, ?_⟩
  · unfold enter
    have hE' : entryRegs o H c st m = E := hE
    unfold entryRegs at hE'
    simp only [hE', old]
    rw [hnew, e1]
  · refine hEag.trans (Agree.trans ?_ (setCore_agree _ c st _))
    constructor <;> intros <;> rfl
  · subst hH
    exact (hk.mono (by decide)).trans ((ek.mono (by decide)).trans ((upd_flights_nextFlight_fenceUsed (by decide) (by decide)
      (by decide)).trans (State_setCore_keeps.mono (by decide))))
  · rw [setCore_flights, hEf]
  · rw [setCore_nextFlight, e1]
  · exact hEs
  · exact hEp
  · show List.find? _ (E.flights ++ _) = _
    rw [hEf]; exact find_fresh rfl
  · rw [core_setCore_same, stream_setStream_same, e1]
    show ({ (E.core c).stream st with flight := some s.freshId } : StreamCtx) = _
    rw [hEc, hst]
  · exact hEq

end Sys2Proof.Laws
end

