-- ==== Sys2Proof/Laws/Markers.lean ====
section
/-! SUPPORT. Markers: what a set and a clear leave (R322 to R325). -/
namespace Sys2Proof.Laws
open Sys2Proof Sys2Proof.Machine

theorem bitOf_bits (v i : Nat) : bitOf v i = (bits v i 1 == 1) := by unfold bitOf bits; simp

theorem bitOf_putBits (v i j : Nat) (b : Bool) (hi : i < 32) (hj : j < 32) :
    bitOf (BitVec.ofNat 32 (putBits v i 1 (b2n b))).toNat j = if j = i then b else bitOf v j := by
  have h : ∀ x, bitOf (BitVec.ofNat 32 x).toNat j = bitOf x j := by
    intro x
    rw [BitVec.toNat_ofNat, bitOf_bits, bitOf_bits, bits_mod32 _ _ _ (by omega)]
  rw [h, bitOf_bits]
  split
  · next e => subst e; rw [bits_putBits_same]; cases b <;> rfl
  · next e =>
    rcases Nat.lt_or_gt_of_ne e with e | e
    · rw [bits_putBits_below _ _ _ _ _ _ (by omega), ← bitOf_bits]
    · rw [bits_putBits_above _ _ _ _ _ _ (by omega), ← bitOf_bits]

theorem markerOn_putMarker (s : State) (c d m n : Nat) (v : Bool) (hm : m < 64) (hn : n < 64) :
    markerOn (putMarker s c m v) d n = if d = c ∧ n = m then v else markerOn s d n := by
  unfold markerOn putMarker
  by_cases hd : d = c
  · subst hd
    by_cases h1 : m < 32 <;> by_cases h2 : n < 32
    · simp only [h1, h2, if_true, rd_wr_same, true_and]
      rw [Nat.mod_eq_of_lt h1, bitOf_putBits _ _ _ _ h1 h2]
    · have : ¬n = m := by omega
      simp only [h1, h2, if_true, if_false, this, and_false]
      rw [rd_wr_ne _ _ (.inl (by decide))]
    · have : ¬n = m := by omega
      simp only [h1, h2, if_true, if_false, this, and_false]
      rw [rd_wr_ne _ _ (.inl (by decide))]
    · simp only [h1, h2, if_false, rd_wr_same, true_and]
      rw [bitOf_putBits _ _ _ _ (Nat.mod_lt _ (by decide)) (by omega)]
      have : (n - 32 = m % 32) ↔ n = m := by omega
      simp only [this]
  · simp only [hd, false_and, if_false]
    split <;> rw [rd_wr_ne _ _ (.inr (Ne.symm hd))]

theorem markerOn_keeps {m : Nat} {s u : State} (k : Keeps m s u) (h1 : m.testBit Reg.MK_STATE_LO.idx = false)
    (h2 : m.testBit Reg.MK_STATE_HI.idx = false) (c x : Nat) : markerOn u c x = markerOn s c x := by
  unfold markerOn; rw [k.reg _ c h1, k.reg _ c h2]

theorem waitIndex_lt (w : Nat) : waitIndex w < 64 := Nat.mod_lt _ (by decide)

/-- A clear of a marker leaves the others (R325). -/
theorem markerOn_clear (s : State) (c d m n : Nat) (hm : m < 64) (hn : n < 64) :
    markerOn (s.clearMarker c m) d n = if d = c ∧ n = m then false else markerOn s d n :=
  markerOn_putMarker s c d m n false hm hn

/-- A set leaves its marker on and the others as they were (R322, R323). -/
theorem markerOn_set (s : State) (c d m n : Nat) (hm : m < 64) (hn : n < 64) :
    markerOn (s.setMarker c m) d n = if d = c ∧ n = m then true else markerOn s d n := by
  have hw : ∀ d n, markerOn (s.wake c) d n = markerOn s d n := fun d n => markerOn_keeps State_wake_keeps (by decide) (by decide) d n
  have hg : ∀ u : State, ∀ d n, markerOn (grantWaits u c m) d n = markerOn u d n := fun u d n =>
    markerOn_keeps grantWaits_keeps (by decide) (by decide) d n
  have hd : ∀ u : State, ∀ d n, markerOn (((u.finc F.MK_DOUBLE_SET_COUNT c 1).fset F.MK_STATUS_LAST_DOUBLE c m).mkEvt c 0 0) d n = markerOn u d n := by
    intro u d n
    rw [markerOn_keeps State_mkEvt_keeps (by decide) (by decide)]
    rw [markerOn_keeps (State_fset_keeps (m := 1 <<< Reg.MK_STATUS.idx) (by decide)) (by decide) (by decide)]
    rw [markerOn_keeps (State_finc_keeps (m := 1 <<< Reg.MK_DOUBLE_SET.idx) (by decide)) (by decide) (by decide)]
  unfold State.setMarker
  simp only [hw]
  split
  · next h =>
    rw [hd, hw]
    split
    · next e => obtain ⟨rfl, rfl⟩ := e; exact h
    · rfl
  · rw [hg, markerOn_putMarker _ _ _ _ _ _ hm hn, hw]

/-- A wait with CLEAR consumes its marker (R325). -/
theorem consume_off (s : State) (c : Nat) (m : List Byte) (l : List Nat) (k : Nat) (hk : k ∈ l)
    (hv : waitValid (miWait m k) = true) (hc : waitClear (miWait m k) = true) :
    markerOn (l.foldl (fun s k => if waitValid (miWait m k) && waitClear (miWait m k) then s.clearMarker c (waitIndex (miWait m k)) else s) s) c (waitIndex (miWait m k)) = false := by
  have keep : ∀ (l : List Nat) (s : State), markerOn s c (waitIndex (miWait m k)) = false →
      markerOn (l.foldl (fun s k => if waitValid (miWait m k) && waitClear (miWait m k) then s.clearMarker c (waitIndex (miWait m k)) else s) s) c (waitIndex (miWait m k)) = false := by
    intro l
    induction l with
    | nil => exact fun _ h => h
    | cons x l ih =>
      intro s h
      refine ih _ ?_
      dsimp only
      split
      · rw [markerOn_clear _ _ _ _ _ (waitIndex_lt _) (waitIndex_lt _)]; split
        · rfl
        · exact h
      · exact h
  induction l generalizing s with
  | nil => exact absurd hk List.not_mem_nil
  | cons x l ih =>
    rcases List.mem_cons.mp hk with rfl | hk
    · rw [List.foldl_cons]
      refine keep l _ ?_
      rw [hv, hc]
      show markerOn (s.clearMarker _ _) _ _ = _
      rw [markerOn_clear _ _ _ _ _ (waitIndex_lt _) (waitIndex_lt _), if_pos ⟨rfl, rfl⟩]
    · exact ih _ hk

end Sys2Proof.Laws
end

