-- ==== Sys2Proof/WellFormed.lean ====
section
/-! DEFINITION. Relations between the operands of one command that their types do not hold. A sender keeps them;
`step` runs a command whether or not it does. -/
namespace Sys2Proof

/-- A packet carries LEN blocks of 64 bytes, none for a READ (R379). -/
def Packet.wf (p : Packet) : Bool := p.typ == 0x03 || p.data.length == p.len.toNat * 64

/-- Well-formed commands. -/
def Instr.wf : Instr → Bool
  | .registerWrite _ _ _ w _ => w ≤ 32
  | .driftCheck ticks => ticks.length == 11
  | .flitReceive _ f => f.length == 320
  | .degradeWindowEnd _ cs => cs.length == 8
  | .feltWrite _ (.phys a) d => d.length ≠ 0 && a + d.length ≤ 2 ^ 39
  | .feltWrite _ (.tensor h o) d => d.length ≠ 0 && h < 2 ^ 20 && o + d.length ≤ 2 ^ 40
  | .feltRead _ (.phys a) _ => a < 2 ^ 39
  | .feltRead _ (.tensor h o) _ => h < 2 ^ 20 && o < 2 ^ 40
  | .replicaContribution x _ => x.vals.length == 4096
  | .reducedTileArrive x => x.vals.length == 4096
  | .trainingDone _ _ w _ => w == 8 || w == 4 || w == 2 || w == 1
  | .markerSetPacket _ p | .write _ p | .writeBulk _ p | .read _ p | .readData _ p | .completion _ p | .ctrlWrite _ p
  | .ctrlRead _ p | .ctrlData _ p | .queuePush _ p | .packetForward _ p | .discover _ p | .discoverRsp _ p
  | .assignId _ p | .attn _ p | .warmReset _ p => p.wf
  | _ => true

end Sys2Proof
end

