-- ==== Sys2Proof/Tests/Slice0.lean ====
section
/-! SUPPORT. The model's own tests: ill-formed terms are refused, the spec's worked examples (expected values from the
spec's text), and for every obligation with hypotheses a state and operands that meet them (wit_<obligation>). -/
set_option Elab.async false
open Sys2Proof Sys2Proof.Machine
namespace Sys2Proof.Tests

/-! Ill-formed terms, one for each check. -/

theorem test_wf_width : (Instr.registerWrite .i3c 0 0 33 0).wf = false := by decide
theorem test_wf_drift : (Instr.driftCheck [1, 2]).wf = false := by decide
theorem test_wf_flit : (Instr.flitReceive 0 [0]).wf = false := by decide
theorem test_wf_window : (Instr.degradeWindowEnd 0 [1]).wf = false := by decide
theorem test_wf_phys : (Instr.feltRead .link (.phys (2 ^ 39)) .clean).wf = false := by decide
theorem test_wf_tensor : (Instr.feltRead .link (.tensor (2 ^ 20) 0) .clean).wf = false := by decide
theorem test_wf_store : (Instr.feltWrite .link (.phys 0) []).wf = false := by decide
theorem test_wf_store_tensor : (Instr.feltWrite .link (.tensor 0 0) []).wf = false := by decide
theorem test_wf_contribution : (Instr.replicaContribution ⟨0, 0, 0, 0, []⟩ .pass).wf = false := by decide
theorem test_wf_reduced : (Instr.reducedTileArrive ⟨0, 0, 0, 0, []⟩).wf = false := by decide
theorem test_wf_width_trained : (Instr.trainingDone 0 .device 3 0).wf = false := by decide
theorem test_wf_packet :
    (Instr.write 0 ⟨1, 0, false, false, 0, false, 0, 0, 1, false, 0, 0, 0, []⟩).wf = false := by decide

/-- Bytes with numbers put at offsets. -/
def at_ (n : Nat) (fs : List (Nat × Nat)) : List Byte := leBytes n (fs.foldl (fun a x => a + x.2 * 2 ^ (8 * x.1)) 0)

/-- A descriptor: FORMAT, KIND, rank and the dimensions d0 to d3; other bytes as listed. -/
def dsc (fmt kind rank : Nat) (d : List Nat) (more : List (Nat × Nat)) : List Byte :=
  at_ 128 ([(0, fmt + 32 * kind), (3, rank)] ++ ((List.range 6).map fun k => (12 + 4 * k, d.getD k 1)) ++ more)

/-- A present handle field. -/
def hd (h : Nat) : Nat := 2 ^ 31 + h

def entry0 (inf : Bool) : PanelEntry :=
  { inference := inf, cores := [0], shares := List.replicate 8 1, entryF := 0, entryB := 0, entryU := 0, firstStep := 0, forceStep := false
    dualBank := false, startBank := false, voteSet := [(0, 0)], replicas := [(0, 0)], stepQueues := [], stragglerTicks := 100
    fold := false, voteSettle := 26000, voteTimeout := 2 ^ 20, repeatLimit := 2 }

def layer0 : Layer := ⟨0, 0, 0, 0, .none, 0, false, .none, false, 0, 0x3F800000, none⟩

def secs0 (inf : Bool) (code : List Byte) (ds : List (Nat × List Byte)) : PanelSecs :=
  { panel := 0, entry := some (entry0 inf), policy := some ⟨[layer0], [], [(0, true), (1, true)]⟩
    markers := some ⟨[], [(0, .panel)]⟩, descriptors := some ds
    streams := some ⟨code, code, code, 0, []⟩, queues := none, residency := none, seed := none, seam := none }

/-- Reset with fields set. -/
def with_ (fs : List (Fld × Nat × Nat)) : State := fs.foldl (fun s x => s.fset x.1 x.2.1 x.2.2) State.reset

/-- Panel 0 runs on core 0, its three streams waiting at the one macro-instruction of their code. -/
def world (inf : Bool) (code : List Byte) (ds : List (Nat × List Byte)) : State :=
  { with_ ([(F.PAT_PANEL_STATUS_STATE, 0, psRunning), (F.CORE_STATUS_PANEL_VALID, 0, 1), (F.NDL_STREAM_STATUS_STATE, 0, stWait),
      (F.NDL_STREAM_STATUS_STATE, 1, stWait), (F.NDL_STREAM_STATUS_STATE, 2, stWait), (F.PAT_PANEL_STATUS_KIND, 0, b2n inf)] ++
      (if inf then [] else [(F.HUB_STEP_STATUS_STATE, 0, vsComputing)])) with
    secs := [(0, some (secs0 inf code ds))], coreMap := [0], live := [(0, some 0)] }

/-- A macro-instruction: opcode, stream, DST and sources, other fields. -/
def mi (op st : Nat) (hs : List Nat) (more : List (Nat × Nat)) : List Byte :=
  at_ 64 ([(0, op), (1, st)] ++ ((List.range hs.length).map fun k => (8 + 4 * k, hd (hs.getD k 0))) ++ more)

/-- A macro-instruction of panel 0 in flight on stream F, of one unit. -/
def flight0 (m : List Byte) (shape : List Nat) : Flight :=
  { id := 0, panel := 0, strm := .F, core := none, seq := 1, pc := 0, mi := m, plan := ⟨1, 1, 1, 1, 512, 1, 32, 0, false, false⟩
    shape := shape, next := 0, claims := [], issued := [0], ended := [], parts := [], results := [], tags := [], step := 0
    micro := 0, bank := 0, chans := [], waiting := false, done := false }

/-- Picot operands, an FP32 output, and a gradient window with its weight. -/
def operands : List (Nat × List Byte) :=
  [(0, dsc 7 0 2 [32, 32] []), (1, dsc 7 1 2 [32, 32] []), (2, dsc 0 0 2 [32, 32] []), (3, dsc 0 2 2 [32, 32] [(0x54, hd 1)])]
def gauzeMi : List Byte := mi 1 0 [2, 0, 1] []
def gauze : State := world false gauzeMi operands

/-- A steward's write reaches these offsets. -/
theorem wit_allowed (s : State) (h : s.bootHalted = false) (i : Fin 6) (off : Nat) : Allowed (.steward i) off s :=
  ⟨h, nofun, rfl⟩
theorem wit_readAllowed (s : State) (h : s.bootHalted = false) (i : Fin 6) (off : Nat) : ReadAllowed (.steward i) off s :=
  ⟨.inl h, nofun, nofun, nofun⟩

/-! Worked examples of the spec. -/

/-- A dyadic value. -/
def dy (n e : Int) : FV := .fin (decide (n < 0)) n.natAbs e

/-- Chapter 3, quantisation to WB4-K16 with ties to even. -/
theorem test_block_example :
    quantBlock .e2 Elem.b16.maxFin 1 none
      (([80, -32, 22, 112, -3, 48, 0, -64, 8, 4, -14, 72, -40, 28, -88, 60].map fun n => (dy n (-6), Rnd.rne))) =
      (0x7D, [6, 0xC, 3, 7, 0, 5, 0, 0xE, 1, 0, 0xA, 6, 0xC, 4, 0xF, 6], ⟨1, 2, 0, 0, 1⟩) := by decide +kernel

/-- Chapter 3, 4.5 rounded by SR. -/
theorem test_sr_example : ((Elem.e2.convert (.sr 0xD13A0000) (dy 9 (-1))).code, (Elem.e2.convert (.sr 0x2B000000) (dy 9 (-1))).code) = (7, 6) := by
  decide +kernel

/-- Chapter 4, a span with one picot slot: values in units of 1/16. -/
def picotSpan : List FV :=
  [8, -4, 24, 12, -16, 2, 0, -6, 20, 640, -8, 4, 16, -24, 10, 1, -12, 6, -20, 8, 14, -2, 16, -10, 4, -8, 18, -1, 12, -16, 8, 5].map fun n => dy n (-4)

theorem test_picot_example : picotSelect (dy 4 0) 1 8192 picotSpan = ([9], 0) ∧
    (quantBlock .e2 Elem.b16.maxFin 31 none ((picotSpan.set 9 FV.zero).map fun v => (v, Rnd.rne))) =
      (0x7D, [4, 0xA, 7, 5, 0xE, 1, 0, 0xB, 6, 0, 0xC, 2, 6, 0xF, 4, 0, 0xD, 3, 0xE, 4, 6, 9, 6, 0xC, 2, 0xC, 6, 0, 5, 0xE, 4, 2], ⟨0, 2, 0, 0, 0⟩) ∧
    (quantBlock .e2 Elem.b16.maxFin 28 none (picotSpan.map fun v => (v, Rnd.rne))).1 = 0x82 ∧
    (quantBlock .e2 Elem.b16.maxFin 28 none (picotSpan.map fun v => (v, Rnd.rne))).2.2 = ⟨0, 30, 0, 0, 1⟩ := by decide +kernel

/-- Chapter 4, the run of three groups in normal mode, on the fallback and in reference mode. -/
def runRow : List FV := [dy 1 20] ++ List.replicate 31 FV.zero ++ [dy (-1) 20] ++ List.replicate 31 FV.zero ++ [dy 20 (-17)] ++ List.replicate 31 FV.zero
def ones (n : Nat) : List FV := List.replicate n FV.one

theorem test_run_example :
    ((gauzeTile .normal 4 32 0 [runRow] [ones 96] []).1, (gauzeTile .normal 4 32 0 [runRow] [ones 96] []).2.loss) = ([[0]], 1) ∧
    (gauzeTile .fallback 4 32 0 [runRow] [ones 96] []).1 = [[0x39200000]] ∧ (gauzeTile .ref 4 32 0 [runRow] [ones 96] []).1 = [[0x39200000]] := by
  decide +kernel

/-- Chapter 4, contributions above FMAX. -/
def ovfRow : List FV := [dy 256 126] ++ List.replicate 31 FV.zero ++ [dy (-255) 126] ++ List.replicate 31 FV.zero

theorem test_overflow_example :
    ((gauzeTile .normal 4 32 0 [ovfRow] [ones 64] []).1, (gauzeTile .normal 4 32 0 [ovfRow] [ones 64] []).2.ovf) = ([[0]], 2) ∧
    ((gauzeTile .ref 4 32 0 [ovfRow] [ones 64] []).1, (gauzeTile .ref 4 32 0 [ovfRow] [ones 64] []).2.ovf) = ([[0x7E800000]], 0) := by decide +kernel

/-- Chapter 4, the drain scale entry of 0.3. -/
theorem test_drain_entry_example : (encodeSigma (f32 0x3E99999A) FV.one).1 = 0x0011999A := by decide +kernel

/-- Chapter 5, a group of an input-gradient product, from its codes and block scales. -/
theorem test_group_example :
    (tweedDot false 16 ([0x3E, 0xBA, 0x04].map fun c => blockValue 0x78 (Elem.e5.value 0 [] c))
      ([0x3E, 0x46, 0x01].map fun c => blockValue 0x7A (Elem.e4.value 0 [] c))).1 = 0x2E000000 := by decide +kernel

/-- Chapter 5, normal and reference mode. -/
theorem test_reference_example :
    ((tweedDot false 16 [dy 1 20, dy (-1) 20, dy 3 (-15)] [dy 1 20, dy 1 20, dy 1 (-15)]).1,
      (tweedDot false 16 [dy 1 20, dy (-1) 20, dy 3 (-15)] [dy 1 20, dy 1 20, dy 1 (-15)]).2.twLoss,
      (tweedDot true 16 [dy 1 20, dy (-1) 20, dy 3 (-15)] [dy 1 20, dy 1 20, dy 1 (-15)]).1) = (0, 1, 0x31400000) := by decide +kernel

/-- Chapter 6, side reductions of a tile. -/
theorem test_side_example :
    (sideSum [(0x3F000000, dy 3 0), (0xBE800000, dy (-3) 0), (0x40000000, dy 0 0), (0x3E000000, dy 7 0)]).1 = 0x40480000 ∧
    (sideSum [(0x3F000000, FV.one), (0xBE800000, FV.one), (0x40000000, FV.one), (0x3E000000, FV.one)]).1 = 0x40180000 := by decide +kernel

/-- Chapter 6, a proposal from the history and the calibration rule. -/
def trackerEx (margin : Nat) (sat : Nat) : Tracker :=
  { handle := 5, core := 0, index := 0, w := 4, margin := margin, n := 8, theta := 0x10, k := 31, eInit := 0
    hist := [0x3C580000, 0x3C100000, 0x3D280000, 0x3C300000], calibs := (sat, 33554432) :: List.replicate 7 (0, 33554432)
    exp := 0, fromHist := false, step := 0, counts := [], pend := [] }

theorem test_proposal_example :
    let s := world false [] [(5, dsc 0x0C 0 2 [64, 64] [])]
    propose s (trackerEx 1 0) = (-19, true) ∧ propose s (trackerEx 0 0) = (-20, true) ∧
      calibHit (trackerEx 1 256) = false ∧ calibHit (trackerEx 1 257) = true := by decide +kernel

/-- Chapter 7, the plan of a MATMUL_T on 256 cores. -/
theorem test_plan_example :
    let s := world false [] [(1, dsc 7 0 2 [65536, 64] []), (2, dsc 7 0 2 [65536, 256] []), (3, dsc 0 0 2 [256, 64] [])]
    let p := productPlan s 256 (mi 2 0 [3, 1, 2] [])
    (p.rowTiles, p.colTiles, p.split, p.segLen, p.units) = (1, 4, 32, 2048, 128) := by decide +kernel

/-- Chapter 8, the pages of a WB8-K32 pool. -/
theorem test_pool_example :
    let p : Pool := ⟨0, 128, 8, 4, 48, .e4, 32⟩
    (p.kScale, p.vCode, p.vScale, p.page) = (0x10000, 0x10800, 0x20800, 0x21000) := by decide +kernel

/-- Chapter 9, the bank of a weight of K 4,096 and N 16,384, WB4-K32, AdamW in FP32. -/
theorem test_bank_example :
    bankOf (dsc 0x0D 1 2 [4096, 16384] [(0x2C, 2 ^ 25)]) [1, 0, 0, 0] =
      ⟨34 * 2 ^ 20, 34 * 2 ^ 20 + 2 ^ 16, 34 * 2 ^ 20 + 2 ^ 16 + 2 ^ 26, 100 * 2 ^ 20 + 2 ^ 16, 100 * 2 ^ 20 + 68 * 2 ^ 10,
        [356 * 2 ^ 20 + 68 * 2 ^ 10, 612 * 2 ^ 20 + 68 * 2 ^ 10], 870 * 2 ^ 20⟩ := by decide +kernel

/-- Chapters 1 and 16, windows of cores. -/
theorem test_window_example : coreOff (528 + 193) = 0x14C10000 ∧ coreOff 263 = 0x11070000 ∧ coreOff 309 = 0x11350000 := by decide

/-- Chapter 13, word 0 of a WRITE. -/
theorem test_packet_example :
    let q := packetFrom (leBytes 8 0x0015400600712C01 ++ leBytes 8 0x4040050000100000)
    (q.typ, q.vl, q.fenced, q.host, q.hctx, q.rsp) = (1, 0, true, true, 2, false) ∧
      (q.dst, q.src, q.len, q.tag, q.hops, q.w1) = (0x071, 0x060, 64, 0x015, 0, 0x4040050000100000) := by decide +kernel

/-! Witnesses: for each statement with hypotheses, a concrete state and operands that meet them together, clause by clause. -/

theorem wit_StepRunsFrontCommand :
    ({ State.reset with pending := [.rstdaa, .disec] } : State).pending = .rstdaa :: [.disec] := rfl
theorem wit_EmptyQueueTicks : State.reset.pending = [] := rfl
theorem wit_StepKeepsCanonicalForm : canonical State.reset ∧ ∃ t, step State.reset = .next t :=
  ⟨by unfold canonical; decide +kernel, _, rfl⟩
theorem wit_StepDrivesAttention : ∃ t, step State.reset = .next t := ⟨_, rfl⟩
theorem wit_CommandFrame : anyRegister .rstdaa = false ∧ ∃ t, exec .rstdaa State.reset = .next t := ⟨rfl, _, rfl⟩

theorem wit_NarrowOrUnalignedWrite : Allowed (.steward 0) 2 State.reset ∧ ((32 : Nat) ≠ 32 ∨ (2 : Nat) % 4 ≠ 0) ∧ ((16 : Nat) ≠ 32 ∨ (4 : Nat) % 4 ≠ 0) :=
  ⟨wit_allowed _ rfl _ _, by decide, by decide⟩
theorem wit_RegisterWriteTakesFields : accessAt 0x01000004 = some (.ATTN_MASK, 0) ∧ ordinary .ATTN_MASK = true ∧
    Reg.ATTN_MASK ∉ vectorRegs ∧ illegal (woken State.reset 0x01000004) .ATTN_MASK 0 0xFFFFFFFF = false := by decide +kernel
/-- The packet of a warm reset that its last clause needs is in wit_DeviceStarts. -/
theorem wit_LowThenHighRead : latchOf State.reset (.steward 0) .ICNT_HI 0 = none ∧ accessAt 0x100 = some (.ICNT_LO, 0) ∧ highOf .ICNT_LO = some .ICNT_HI ∧
    accessAt 0x104 = some (.ICNT_HI, 0) ∧ isHigh .ICNT_HI = true ∧
    latchOf { State.reset with latches := [(.steward 0, regKey .ICNT_HI 0, 5)] } (.steward 0) .ICNT_HI 0 = some 5 ∧
    requester (.steward 1) ≠ requester (.steward 0) ∧ (∃ t, exec (.lowWordRead (.steward 1) 0x100) State.reset = .next t) :=
  ⟨by decide +kernel, by decide +kernel, rfl, by decide +kernel, rfl, by decide +kernel, by decide, _, rfl⟩
theorem wit_ReadClearKeepsIncrement : accessAt 0x0008000C = some (.HUB_INCHK_COUNTS, 0) ∧
    State.reset.rd .VEC_LATCH 0 = 0 ∧ (∃ f ∈ Reg.HUB_INCHK_COUNTS.fields, f.acc = .rc) := by decide +kernel
theorem wit_DieCommands : mayPark State.reset 1055 = true ∧ State.reset.power.refclkLost = false ∧
    ({ State.reset with power := { noPower with refclkLost := true } } : State).power.refclkLost = true := by decide +kernel

/-! Loads and panels. -/

def hdr (isPart : Bool) : List Byte :=
  at_ 64 [(0, 0x54415057), (4, 1), (6, b2n isPart), (8, 192), (16, if isPart then 0 else 0xFF), (18, 1), (24, 0x7100)]
/-- A staged image of one empty PANELS section for panel 0, which is STOPPED. -/
def staged (isPart : Bool) : State :=
  { with_ [(F.HUB_BOOT_STATUS_PHASE, 0, 4), (F.PAT_PANEL_STATUS_STATE, 0, psStopped), (F.PAT_LOAD_LEN_BYTES, 0, 192)] with
    dram := memWrite (memWrite [] 0 (hdr isPart)) 64 (at_ 16 [(0, 1), (4, 128)]) }
def loading (isPart : Bool) (stage : Nat) (img : Option PatternImage) : State :=
  { staged isPart with load := ⟨true, isPart, 0, 192, 0, none, stage, false, false, img⟩ }
def image0 : PatternImage := ⟨[{ emptySecs 0 with entry := some (entry0 false) }], none, none, none, none⟩
/-- The stage of the digest, with the right digest in the trailer. -/
def digested : State :=
  { loading true 0 none with dram := memWrite (loading true 0 none).dram 160 (sha256 (patBytes (loading true 0 none) 0 160)) }

theorem wit_LoadStarts : (staged true).load.busy = false ∧ (staged true).fget F.HUB_BOOT_STATUS_PHASE 0 = 4 ∧
    (∀ b, (staged b).inFixed (loadStarted (staged b) (.steward 0) b).load.addr (loadStarted (staged b) (.steward 0) b).load.len = true ∧
      headerOk (loadStarted (staged b) (.steward 0) b) = true) ∧
    (staged true).pstate (patWord (loadStarted (staged true) (.steward 0) true) 16 1) = psStopped := by decide +kernel
theorem wit_LoadStarts_refused : State.reset.fget F.HUB_BOOT_STATUS_PHASE 0 ≠ 4 ∧ (loading true 0 none).load.busy = true ∧
    ((0 : Word) ||| 1).toNat % 8 = 1 ∧ ((8 : Word) ||| 2).toNat % 8 = 2 := by decide +kernel
theorem wit_LoadSteps : (loading true 2 none).load.stage < 3 ∧ digestOk digested = true ∧ digestOk (loading true 0 none) = false ∧
    structuralError (loading true 2 none) image0 = 0 ∧ structuralError (loading true 2 none) ⟨[], none, none, none, none⟩ = 6 := by
  decide +kernel
/-- The signature's outcome is opaque: one of its two clauses applies at stage 1. -/
theorem wit_LoadSteps_signature : bitOf (patWord (loading true 1 none) 6 2) 1 = false ∧
    (signatureOk (loading true 1 none) [] = true ∨ signatureOk (loading true 1 none) [] = false) :=
  ⟨by decide +kernel, by cases signatureOk (loading true 1 none) [] <;> simp⟩
theorem wit_LoadSteps_signed : bitOf (patWord { loading true 1 none with dram := memWrite (loading true 1 none).dram 6 [3] } 6 2) 1 = true := by
  decide +kernel
/-- Queue 0, which a load changes, with a push accepted of which parts are still to come. -/
def pushedQueue : QCtx := { noQueue with acc := [⟨.host 0 0 0 0 false, [], false⟩] }
def queueImage : PatternImage :=
  ⟨[{ emptySecs 0 with entry := some (entry0 false), queues := some [⟨0, 1, 2, 0, 0, 0, 0, false, 0, 0, none⟩] }], none, none, none, none⟩
theorem wit_LoadApplies : (loading true 3 (some image0)).load.img = some image0 ∧
    stoppingQueues (loading true 3 (some image0)) image0 = [] ∧
    stoppingQueues ({ loading true 3 (some queueImage) with queues := [(0, pushedQueue)] } : State) queueImage ≠ [] := by decide +kernel

/-- Panel 0 in a state, its core idle. -/
def panelIn (inf : Bool) (state vote : Nat) : State :=
  ((world inf (List.replicate 64 0) []).fset F.PAT_PANEL_STATUS_STATE 0 state).fset F.HUB_STEP_STATUS_STATE 0 vote
theorem wit_PanelsStartAndStop : (panelIn false psStopped vsIdle).pstate 0 = psStopped ∧
    buildMap ((panelIn false psStopped vsIdle).fset F.PAT_PANEL_CTRL_STOP_MODE 0 0) 0 = some [(0, 0)] ∧
    buildMap (({ panelIn false psStopped vsIdle with repair := List.range 1056 } : State).fset F.PAT_PANEL_CTRL_STOP_MODE 0 0) 0 = none ∧
    (({ panelIn false psStopped vsIdle with panels := [(0, { noPanel with remapStart := true })] } : State).panel 0).remapStart = true ∧
    (panelIn false psStarting vsIdle).pstate 0 = psStarting ∧ (panelIn false psRunning vsPaused).vstate 0 = vsPaused ∧
    (panelIn false psStopping vsComputing).pstate 0 = psStopping ∧
    (let s := ((panelIn true psStopping 0).setSstate 0 .F stIdle).setSstate 0 .B stIdle |>.setSstate 0 .U stIdle
     drained s 0 = true ∧ allIdle s 0 = true) := by decide +kernel

/-! Streams. -/

theorem wit_StreamsWait : issuer (.marker 0 .F) = some (opMarker, 0, .F) ∧
    (let m := mi 0x30 0 [] [(24, 0x85)]; standsAt opMarker (world false m []) 0 .F 0 m ∧ openWaits (world false m []) 0 .F m ≠ 0) ∧
    (let m := mi 0x30 0 [] []
     let s := { world false m [] with flights := [{ flight0 m [] with seq := 2 ^ 32 - 15 }] }
     standsAt opMarker s 0 .F 0 m ∧ openWaits s 0 .F m = 0 ∧ coreScoped opMarker m = false ∧ slotFree s 0 .F (nextSeq s 0 .F) = false) ∧
    (let m := mi 4 1 [3, 0, 1] []
     let s := { world false m operands with flights := [{ flight0 m [32, 32, 32, 1, 1] with strm := .B, seq := 2 ^ 32 - 1 }] }
     standsAt (opProduct opTdw) s 0 .B 0 m ∧ openWaits s 0 .B m = 0 ∧ rejectCause (opProduct opTdw) s 0 0 .B m = 0 ∧
       (opProduct opTdw).ready s 0 0 m = false) := by
  refine ⟨rfl, ?_, ?_, ?_⟩ <;> (unfold standsAt; decide +kernel)
theorem wit_StreamsHalt : let m := mi 0x30 0 [] [(48, 2 ^ 60)]
    atHead opMarker (world false m []) 0 .F 0 m ∧ rejectCause opMarker (world false m []) 0 0 .F m ≠ 0 := by
  unfold atHead standsAt; decide +kernel

theorem wit_ProductsEnter : enters (opProduct opG) gauze 0 .F 0 gauzeMi ∧ isFirst (opProduct opG) gauze 0 .F 0 gauzeMi ∧
    ∀ k, k < 5 → (shapeOf gauze 0 .F gauzeMi (productPlanned gauze gauzeMi)).getD k 0 ≠ 0 := by
  unfold enters atHead standsAt isFirst; decide +kernel
theorem wit_ProductsEnter_window : let m := mi 4 1 [3, 0, 1] []
    enters (opProduct opTdw) (world false m operands) 0 .B 0 m := by unfold enters atHead standsAt; decide +kernel
/-- The macro-instruction that another core has issued. -/
def joined : State := { gauze with flights := [{ flight0 gauzeMi [32, 32, 32, 1, 1] with seq := 1 }] }
theorem wit_ProductsEnter_join : let f := { flight0 gauzeMi [32, 32, 32, 1, 1] with seq := 1 }
    enters (opProduct opG) joined 0 .F 0 gauzeMi ∧ joined.flight f.id = some f ∧
    f.shape = shapeOf joined 0 .F gauzeMi (productPlanned joined gauzeMi) ∧
    (joined.flights.find? fun g => g.panel == 0 && g.strm == .F && g.core.isNone && g.seq == nextSeq joined 0 .F % 2 ^ 32) = some f := by
  unfold enters atHead standsAt; decide +kernel

def copyMi : List Byte := mi 0x11 0 [1, 0] [(48, 0x07)]
def copying (m : List Byte) : State :=
  { world false m [(0, dsc 0 0 2 [2, 1] []), (1, dsc 0 0 2 [2, 1] [])] with
    pages := [⟨0, 0, 0, 0, 0, 0, false, none, 0⟩, ⟨1, 0, 0, 0, 0, 0, false, none, 1⟩] }
def copyFlight : Flight := newFlight (opVector 7) (copying copyMi) 0 .F 0 copyMi
theorem wit_WholeTensorCommands : issuer (.copy 0 .F) = some (opVector 7, 0, .F) ∧ enters (opVector 7) (copying copyMi) 0 .F 0 copyMi ∧
    isFirst (opVector 7) (copying copyMi) 0 .F 0 copyMi ∧ Machine.walks (miOpcode copyMi) = true ∧ isProduct (miOpcode copyMi) = false ∧
    (∀ k ∈ liveEntries (copying copyMi) copyMi, shp copyFlight k ≠ 0) ∧ ¬(miOpcode copyMi = 0x08 ∧ isPool (copying copyMi) copyMi = true) := by
  refine ⟨rfl, ?_, ?_, ?_, ?_, ?_, ?_⟩
  · unfold enters atHead standsAt; decide +kernel
  · unfold isFirst; decide +kernel
  all_goals decide +kernel
/-- The same under a shape register that holds 0. -/
def emptyMi : List Byte := mi 0x11 0 [1, 0] [(5, 1), (48, 0x07)]
theorem wit_WholeTensorCommands_empty : let s := { copying emptyMi with cores := [(0, { noCore with shp := [(0, 0)] })] }
    enters (opVector 7) s 0 .F 0 emptyMi ∧ isFirst (opVector 7) s 0 .F 0 emptyMi ∧
    ∃ k ∈ liveEntries s emptyMi, shp (newFlight (opVector 7) s 0 .F 0 emptyMi) k = 0 := by
  refine ⟨?_, ?_, 0, by decide, ?_⟩
  · unfold enters atHead standsAt; decide +kernel
  · unfold isFirst; decide +kernel
  · decide +kernel
/-- The unit of the copy, which the vector unit has run, and the copy with its unit delivered or not. -/
def copyUnit : UnitRec := ⟨0, 0, false, true, false, .vector, [[]], Cnt.none⟩
def copyFlying (claims : List Nat) (ws : List Word) : Flight :=
  { flight0 copyMi [2, 1, 1, 1, 1] with claims := claims, results := [(0, ws)], next := 1 }
def copied (claims : List Nat) (ws : List Word) : State :=
  { copying copyMi with flights := [copyFlying claims ws], cores := [(0, { noCore with f := ⟨some 0, [copyUnit], false⟩ })] }
theorem wit_WholeTensorCommands_unit : let s := copied [] []; let f := copyFlying [] []
    runningUnit (pumpArrays s 0) 0 .F = some copyUnit ∧ s.flight copyUnit.flight = some f ∧ isProduct (miOpcode f.mi) = false ∧
    (unitGives s 0 f 0).bad (unitSees s 0 f 0) = none ∧ 0 ∉ f.claims ∧ skeinRoom (unitCounted s 0 f 0) f 0 false = true ∧
    (putAll (claim (unitCounted s 0 f 0) f 0 (unitWords (unitGives s 0 f 0))) (unitGives s 0 f 0).puts).2 = true := by decide +kernel
theorem wit_WholeTensorCommands_again : let f := copyFlying [0] [0, 0]; let s := copied [0] [0, 0]
    runningUnit (pumpArrays s 0) 0 .F = some copyUnit ∧ s.flight 0 = some f ∧ 0 ∈ f.claims ∧
    (unitGives s 0 f 0).bad (unitSees s 0 f 0) = none ∧ firstResult f 0 = unitWords (unitGives s 0 f 0) := by decide +kernel
theorem wit_VectorElements : let f := { copyFlight with shape := [2, 1, 1, 1, 1] }; let x := unitSpot (copying copyMi) f 0
    0 < x.r1 - x.r0 ∧ 1 < x.c1 - x.c0 ∧ isRowFn (vecFn f.mi) = false ∧ twoOperands (vecFn f.mi) = false ∧ isRowFn 0x01 = false ∧
      twoOperands 0x01 = true ∧ vecFn (mi 0x11 0 [1, 0] [(48, 0x22)]) = 0x22 := by decide +kernel

/-! Units, slices and side records. -/

/-- A Gauze product of one unit: 1 × 32 by 32 × 1. -/
def tiny : List (Nat × List Byte) :=
  [(0, dsc 7 0 2 [32, 1] []), (1, dsc 7 1 2 [32, 1] []), (2, dsc 0 0 2 [1, 1] []), (3, dsc 0 2 2 [32, 1] [(0x54, hd 1)])]

/-- Core 0 walks a macro-instruction on stream F, with these units recorded. -/
def walking (fl : Flight) (us : List UnitRec) : State :=
  { world false gauzeMi tiny with
    flights := [fl], cores := [(0, { noCore with f := ⟨some 0, us, false⟩ })], pages := [⟨2, 0, 0, 0, 0, 0, false, none, 0⟩] }
def flightG : Flight := flight0 gauzeMi [1, 1, 32, 1, 1]
def due : UnitRec := ⟨0, 0, true, false, false, .gauze, [], Cnt.none⟩
/-- A unit that waits for Gauze, and one that Gauze has run. -/
def waiting : UnitRec := { due with replay := false, acc := [[0x3F800000]] }
def computed : UnitRec := { waiting with running := true }

theorem wit_UnitsFetched_replay : let s := walking flightG [due]
    ((s.core 0).stream .F).units.findIdx? (fun u => u.acc.isEmpty) = some 0 ∧ ((s.core 0).stream .F).units[0]? = some due ∧
    s.flight due.flight = some flightG ∧ stagesClean s flightG due.unit := by unfold stagesClean; decide +kernel
theorem wit_UnitsFetched : (∀ us ∈ [[], [waiting]], let s := walking flightG us
      walksHere s 0 .F flightG ∧ (∀ u ∈ ((s.core 0).stream .F).units, u.acc ≠ []) ∧ ((s.core 0).stream .F).units.length < 2 ∧
      s.excluded 0 = false) ∧
    (let s := walking flightG []; flightG.next < flightG.plan.units ∧ unitEmpty s flightG (unitSpot s flightG flightG.next) = false ∧
      stagesClean s flightG flightG.next) ∧
    (let f := { flightG with shape := [1, 0, 32, 1, 1] }; let s := walking f []
      walksHere s 0 .F f ∧ unitEmpty s f (unitSpot s f f.next) = true ∧ skeinRoom s f f.next false = true) ∧
    (let f := { flightG with next := 1 }; let s := walking f []
      walksHere s 0 .F f ∧ f.plan.units ≤ f.next ∧ miEnd f.mi = false ∧ s.pstate f.panel ≠ psStopping) := by
  unfold walksHere stagesClean; decide +kernel
/-- Streams F and B wait for Gauze; F has started a tile on it, B has not. -/
def twoWait : State :=
  { walking flightG [] with cores := [(0, { noCore with f := ⟨some 0, [waiting], false⟩, b := ⟨some 0, [waiting], false⟩, gzOrder := [.F] })] }
theorem wit_UnitsFetched_arbitration : (∀ st, ∀ u ∈ ((twoWait.core 0).stream st).units, u.arr = .gauze → u.running = false) ∧
    (∃ u ∈ ((twoWait.core 0).stream .B).units, u.waits .gauze = true) ∧
    (∀ st, st ≠ .B → (∃ u ∈ ((twoWait.core 0).stream st).units, u.waits .gauze = true) →
      st ∈ (twoWait.core 0).order .gauze ∧ .B ∉ (twoWait.core 0).order .gauze) ∧
    (∃ u ∈ (((pumpArr twoWait 0 .gauze).core 0).stream .B).units, u.running = true) ∧
    ∃ u ∈ (((walking flightG [computed]).core 0).stream .F).units, u.arr = .gauze ∧ u.running = true :=
  ⟨fun st => by cases st <;> decide +kernel, by decide +kernel, fun st => by cases st <;> decide +kernel, by decide +kernel, by decide +kernel⟩

/-- A product of two segments of K. -/
def flightS (parts : List (Nat × List Word)) : Flight :=
  { flight0 gauzeMi [1, 1, 1024, 1, 1] with plan := ⟨1, 1, 1, 2, 512, 2, 512, 0, false, false⟩, parts := parts }
def flightW : Flight := flight0 (mi 4 1 [3, 0, 1] []) [1, 1, 32, 1, 1]

theorem wit_UnitsDelivered : let s := walking flightG [computed]
    delivers s 0 .F flightG computed ∧ miOpcode flightG.mi ≠ opTdw ∧ flightG.plan.split = 1 ∧
    drainBad s flightG (spotOf s flightG 0) = none ∧ 0 ∉ flightG.claims ∧
    skeinRoom (tileCounted s 0 flightG computed computed.acc) flightG 0 false = true ∧
    (let w := tileWrites s flightG (spotOf s flightG 0) computed.acc
     ((claim (tileCounted s 0 flightG computed computed.acc) flightG 0 (codeWords w)).put (hHandle (miDst flightG.mi)) w.puts).2 = rsOk) := by
  unfold delivers; decide +kernel
theorem wit_UnitsDelivered_parts : (let f := flightS []; let s := walking f [computed]
      delivers s 0 .F f computed ∧ f.plan.split ≠ 1 ∧ (liveSegs f).length = 2 ∧ skeinRoom s f 0 false = true ∧
      skeinRoom (claim s f 0 computed.acc.flatten) f 0 true = true) ∧
    (let f := flightS [(1, [0x40000000])]; let s := walking f [computed]
      delivers s 0 .F f computed ∧ drainBad (partKept s f computed) f (spotOf s f 0) = none ∧
      ((liveSegs f).filterMap fun (j : Nat) => ((f.parts ++ [(0, computed.acc.flatten)]).find? (fun (x : Nat × List Word) => x.1 == j)).map (fun (x : Nat × List Word) => x.2)) = [[0x3F800000], [0x40000000]] ∧
      (let acc := rowsOf 1 (splitSum [0x3F800000] [[0x3F800000], [0x40000000]])
       ((tileCounted (partKept s f computed) 0 f computed acc).put (hHandle (miDst f.mi)) (tileWrites s f (spotOf s f 0) acc).puts).2 = rsOk)) := by
  unfold delivers; decide +kernel
theorem wit_UnitsDelivered_slice : let s := walking flightW [computed]
    let y : Slice := ⟨0, 3, 0, 1, 0, .F, 0, 0, 0, sliceVals computed.acc, none⟩
    delivers s 0 .F flightW computed ∧ miOpcode flightW.mi = opTdw ∧ sliceFits s y = true ∧
    sliceFits { s with secs := [] } y = false ∧ delivers { s with secs := [] } 0 .F flightW computed := by
  unfold delivers; decide +kernel
theorem wit_UnitsDelivered_again : let f := { flightG with claims := [0], results := [(0, [0])] }
    let g := { flightG with claims := [0], results := [(0, [0x40000000])] }
    (let s := walking f [computed]; s.flight 0 = some f ∧ 0 ∈ f.claims ∧ firstResult f 0 = deliveredWords s f computed) ∧
    (let s := walking g [computed]; s.flight 0 = some g ∧ firstResult g 0 ≠ deliveredWords s g computed) ∧
    drainBad (walking f [computed]) f (spotOf (walking f [computed]) f 0) = none := by decide +kernel

/-- A slice on its way, of a claimed unit or not. -/
def slice0 : Slice := ⟨0, 3, 0, 1, 0, .F, 0, 0, 0, [0x3F800000], none⟩
def sliced (claims : List Nat) (ws : List WinTile) : State :=
  { walking { flightW with claims := claims } [] with slices := [slice0], windows := ws, stalledSlices := [slice0] }
theorem wit_SlicesLand : (sliced [] []).stalledSlices.find? (fun y => y.core == 0) = some slice0 ∧
    sliceFits (sliced [] []) slice0 = true ∧ (sliced [] []).slices[0]? = some slice0 ∧
    (sliced [] []).flight 0 = some flightW ∧ (0 ∉ flightW.claims) ∧ skeinRoom (sliced [] []) flightW 0 false = true ∧
    (∃ f, (sliced [0] []).flight 0 = some f ∧ 0 ∈ f.claims) ∧
    (∃ w, (sliced [] [⟨0, 3, 0, 1, [0x7F7FFFFF], false⟩]).windows.find? (fun w => w.handle == 3 && w.tile == 0) = some w ∧
      (addTiles w.vals [0x7F7FFFFF]).2 ≠ 0) ∧
    ({ sliced [] [] with sideRecs := [⟨0, 4, 0, 0, [0x3F800000]⟩] } : State).sideRecs[0]? = some ⟨0, 4, 0, 0, [0x3F800000]⟩ :=
  ⟨by decide +kernel, by decide +kernel, rfl, by decide +kernel, by decide, by decide +kernel, ⟨_, rfl, by decide +kernel⟩, ⟨_, rfl, by decide +kernel⟩, rfl⟩
/-- The checksum kept of the first delivery. -/
theorem wit_SlicesLand_again : (({ sliced [0] [] with sliceSums := [((3, 0, 0), Config.sliceCheck [0x3F800000])] } : State).sliceSums.find?
    (·.1 == (slice0.handle, slice0.tile, slice0.micro))).map (·.2) = some (Config.sliceCheck slice0.vals) := rfl
theorem wit_MacroCompletes : let f := { flightG with claims := [0], next := 1 }; let s := walking f []
    s.flight 0 = some f ∧ f.done = false ∧ allDone s f = true ∧ allDone (walking flightG []) flightG = false := by decide +kernel

/-! Tension trackers. -/

def tracker0 : Tracker := ⟨2, 0, 0, 1, 0, 1, 0, 0, 0, [], [], 0, false, 0, [], []⟩
def observed (step : Nat) : State :=
  { world false gauzeMi tiny with trackers := [tracker0], obs := [⟨0, 2, step, 0, 0, 0x3F800000, [1, 0, 0, 0, 0, 1]⟩] }
theorem wit_TrackersObserve : (∀ n ∈ [0, 1, 5], ((observed n).obs[0]?).map (·.step) = some n ∧ ((observed n).obs[0]?).map (·.handle) = some 2) ∧
    trackerOf (observed 0) 2 = some tracker0 ∧ (observed 0).liveOf tracker0.core = some 0 ∧ convStep (observed 0) 0 = 0 ∧
    trackerAt (observed 0) 0 ((observed 0).fget F.SEAM_TRK_SEL_SLOT 0) = some tracker0 ∧ bitOf ((0 : Word) ||| 2).toNat 0 = false := by
  decide +kernel
theorem wit_TrackersObserve_access (c : Fin 1056) : Allowed (.steward 0) (coreOff c + 0x4020) (observed 0) ∧
    Allowed (.steward 0) (coreOff c + 0x4028) (observed 0) := ⟨wit_allowed _ rfl _ _, wit_allowed _ rfl _ _⟩

/-! KV channels: a pool of two groups, one head of 32, one layer. -/

def kvDescs : List (Nat × List Byte) :=
  [(0, dsc 0 0 4 [32, 1, 1, 1] []), (1, dsc 7 kPool 5 [32, 64, 1, 2, 1] []), (2, dsc 0 0 2 [1, 1] []), (3, dsc 0 0 2 [64, 1] [])]
def kv (m : List Byte) (priv : Bool) : State :=
  { world true m kvDescs with
    chans := [(0, { noChan with owned := true, priv := priv, lens := [(0, 7)] }), (1, { noChan with owned := true, priv := priv })] }
def appendMi : List Byte := mi 0x28 0 [] [(12, hd 0), (16, hd 1), (20, hd 0), (48, hd 2)]
theorem wit_KvAppends : let s := kv appendMi false; let f := newFlight opAppend s 0 .F 0 appendMi
    enters opAppend s 0 .F 0 appendMi ∧ isFirst opAppend s 0 .F 0 appendMi ∧ shp f 0 ≠ 0 ∧ shp f 2 = 1 ∧ s.badTens = [] ∧
    s.badPhys = [] ∧ skeinRoom s f 0 false = true ∧ valueAt appendMi f.shape 1 = 0 ∧ chanReady s 0 ∧ (s.chan 0).len (miOpx appendMi 4 2) + shp f 0 ≤ 2 ^ 20 ∧
    (targetBlocks ((s.chan 0).len 0) (shp f 0)).length ≤ freeGroups s (poolOf s (miSrc appendMi 1)) := by
  unfold enters atHead standsAt isFirst chanReady; decide +kernel

def attachMi : List Byte := mi 0x29 0 [2, 3, 1] [(52, 1)]
def releaseMi : List Byte := mi 0x29 0 [] [(12, hd 3), (16, hd 1), (56, 1)]
theorem wit_KvLookupsAndForks : (let s := kv attachMi false; let f := newFlight (opLookup 0) s 0 .F 0 attachMi
      enters (opLookup 0) s 0 .F 0 attachMi ∧ isFirst (opLookup 0) s 0 .F 0 attachMi ∧ valueAt attachMi f.shape 1 = 0 ∧
      shp f 0 ≠ 0 ∧ shp f 2 = 1 ∧ s.badTens = [] ∧ s.badPhys = [] ∧ skeinRoom s f 0 false = true ∧ (s.chan 0).held = false ∧ lkShp attachMi ≠ 0 ∧ 0 ∈ s.coresOf 0) ∧
    (let s := kv releaseMi false; let f := newFlight (opLookup 1) s 0 .F 0 releaseMi
      enters (opLookup 1) s 0 .F 0 releaseMi ∧ isFirst (opLookup 1) s 0 .F 0 releaseMi ∧ valueAt releaseMi f.shape 1 = 0 ∧
      shp f 2 = 1 ∧ skeinRoom s f 0 false = true ∧ (s.chan 0).held = false) := by
  unfold enters atHead standsAt isFirst; decide +kernel
def forkMi : List Byte := mi 0x2A 0 [] [(5, 1), (16, hd 1)]
theorem wit_KvLookupsAndForks_fork : let s := { kv forkMi true with cores := [(0, { noCore with shp := [(0, 0), (1, 1)] })] }
    enters opFork s 0 .F 0 forkMi ∧ isFirst opFork s 0 .F 0 forkMi ∧ valueAt forkMi (newFlight opFork s 0 .F 0 forkMi).shape 0 = 0 ∧
    valueAt forkMi (newFlight opFork s 0 .F 0 forkMi).shape 1 = 1 ∧ chanReady s 0 ∧ chanReady s 1 ∧ s.badTens = [] ∧
    s.badPhys = [] ∧ skeinRoom s (newFlight opFork s 0 .F 0 forkMi) 0 false = true := by
  unfold enters atHead standsAt isFirst chanReady; decide +kernel

/-! Replicas: this one is replica 0 of two; the window has two tiles, the second of replica 1. -/

def entry2 : PanelEntry := { entry0 false with replicas := [(0, 0), (1, 0)], fold := true }
def replicaDescs : List (Nat × List Byte) := [(1, dsc 7 1 2 [128, 32] []), (3, dsc 0 2 2 [128, 32] [(0x54, hd 1)])]
def paired (m : List Byte) : State :=
  { world false m replicaDescs with secs := [(0, some { secs0 false m replicaDescs with entry := some entry2 })] }
def contribution (tile step replica : Nat) : Contribution := ⟨3, tile, step, replica, [0x3F800000]⟩
def heldC (tile step : Nat) : Held := ⟨0, contribution tile step 1, false, false⟩
def mask0 : Mask := ⟨0, 3, 0, 0, [], true, false, false, false⟩

theorem wit_SlicesTravel : (let m := mi 0x20 1 [] [(12, hd 3)]; let s := paired m
      enters (opSlices false) s 0 .B 0 m ∧ isFirst (opSlices false) s 0 .B 0 m ∧ 1 < (replicasOf s 0).length ∧
      skeinRoom s (newFlight (opSlices false) s 0 .B 0 m) 0 false = true) ∧
    (let m := mi 0x21 1 [3] []; let s := paired m
      enters (opSlices true) s 0 .B 0 m ∧ isFirst (opSlices true) s 0 .B 0 m ∧ 1 < (replicasOf s 0).length ∧
      skeinRoom s (newFlight (opSlices true) s 0 .B 0 m) 0 false = true ∧ hHandle (miDst m) = 3 ∧ 0 < gradTiles ((s.desc 3).getD []) ∧ isOwner s 0 0 = true ∧ maskAt s 3 0 (stepOf s 0) = none ∧
      (arrived s 3 0 (stepOf s 0)).length < (replicasOf s 0).length) ∧
    (let m := mi 0x21 1 [3] []; let s := { paired m with helds := [heldC 0 0] }
      enters (opSlices true) s 0 .B 0 m ∧ (arrived s 3 0 (stepOf s 0)).length = (replicasOf s 0).length ∧ ownDone s 3 = true) ∧
    ownDone { paired [] with flights := [flightW] } 3 = false := by
  unfold enters atHead standsAt isFirst; decide +kernel
theorem wit_ContributionsReduce : (∀ n ∈ [0, 1, 2, 2 ^ 32 - 1], takesContribution (paired []) (contribution 0 n 1)) ∧
    stepOf (paired []) 0 = 0 ∧ (1 : Nat) = (0 + 1) % 2 ^ 32 ∧ (2 ^ 32 - 1 + 1) % 2 ^ 32 = 0 ∧ maskAt (paired []) 3 0 0 = none ∧
    (let s := { paired [] with masks := [mask0] }
     takesContribution s (contribution 0 0 1) ∧ maskAt s 3 0 0 = some mask0 ∧ mask0.running = true ∧ mask0.fixed = false ∧ mask0.reduced = false ∧ ownDone s 3 = true ∧
     (∃ m, maskAt { paired [] with masks := [{ mask0 with spent := true }] } 3 0 0 = some m ∧ m.spent = true) ∧
     (arrived { s with helds := [heldC 0 0] } 3 0 0).length = (replicasOf s 0).length) ∧
    (let x := contribution 1 0 1
     gradKind (((paired []).desc 3).getD []) = true ∧ x.tile < gradTiles (((paired []).desc 3).getD []) ∧
     isOwner (paired []) 0 x.tile = false ∧ x.replica = x.tile % (replicasOf (paired []) 0).length) := by
  unfold takesContribution; decide +kernel

/-! The felt update engine: a parameter of two bands, a weight with learned scales, a schedule. -/

def slot0 : List Byte := at_ 64 [(0, 1)]
def updDescs : List (Nat × List Byte) :=
  [(0, dsc 0 0 2 [1, 1] []), (1, dsc 0x13 1 2 [32, 32] [(2, 2), (0x50, hd 2), (0x68, 5)]), (2, dsc 0 kParam 1 [128] [(0x68, 5)])]
def updating (m : List Byte) (us : List Upd) : State :=
  { world false m updDescs with rulesOn := ⟨[(5, slot0)], []⟩, updates := us }
def upd0 (h bands : Nat) (done : List Nat) : Upd :=
  ⟨0, 0, h, List.replicate 7 0x3F800000, [], bands, done, [FV.zero, FV.zero, FV.zero], []⟩

theorem wit_UpdatesStart : (let m := mi 0x22 2 [2] [(48, 5), (52, hd 0)]; let s := updating m []; 
      enters (opUpdate false) s 0 .U 0 m ∧ isFirst (opUpdate false) s 0 .U 0 m ∧
      skeinRoom s (newFlight (opUpdate false) s 0 .U 0 m) 0 false = true ∧ tensorBad s 2 (updSched m) = none ∧
      firstParam (descOf s (miDst m)) = none) ∧
    (let m := mi 0x22 2 [1] [(48, 5), (52, hd 0)]; let s := updating m []
      enters (opUpdate false) s 0 .U 0 m ∧ tensorBad s 1 (updSched m) = none ∧ firstParam (descOf s (miDst m)) = some 2 ∧
      tensorBad s 2 (updSched m) = none) ∧
    (let m := mi 0x22 2 [2] [(48, 5), (49, 1)]; let s := updating m []
      enters (opUpdate true) s 0 .U 0 m ∧ isFirst (opUpdate true) s 0 .U 0 m ∧
      materialiseBad s (newFlight (opUpdate true) s 0 .U 0 m) = none ∧ skeinRoom s (newFlight (opUpdate true) s 0 .U 0 m) 0 false = true ∧ dKind (descOf s (miDst m)) = kParam) := by
  unfold enters atHead standsAt isFirst; decide +kernel
theorem wit_BandsUpdate : (∀ done ∈ [[], [1]], let u := upd0 2 2 done; let s := updating [] [u]; let d := (s.desc 2).getD []
      bandRuns s 0 0 u d ∧ bankHeld s 0 = false ∧ firstParam d = none) ∧
    (let u := upd0 2 2 []
     let s := { (updating [] [u]).fset F.PAT_PANEL_STATUS_KIND 1 1 with flights := [{ flight0 [] [] with id := 1, panel := 1, bank := 1 }] }
     bandRuns s 0 0 u ((s.desc 2).getD []) ∧ bankHeld s u.panel = true) ∧
    (let u := upd0 1 1 []; let s := updating [] [u]; let d := (s.desc 1).getD []
     bandRuns s 0 0 u d ∧ bankHeld s 0 = false ∧ firstParam d = some 2 ∧ s.desc 2 ≠ none) ∧
    (let u := { upd0 2 2 [] with held := [(0, 0)] }; let s := updating [] [u]
     s.updates.find? (·.flight == 0) = some u ∧ s.desc u.handle ≠ none ∧ s.badTens = [] ∧ s.badPhys = [] ∧ bankHeld s u.panel = false) := by
  unfold bandRuns; decide +kernel

/-! The step vote: panel 0 of this device is the only member. -/

def atEntry : State := ((world false [] []).setSstate 0 .F stEntry).setSstate 0 .B stEntry |>.setSstate 0 .U stEntry
def aborting (v : Nat) : State :=
  { (world false [] []).fset F.HUB_STEP_STATUS_STATE 0 v with panels := [(0, { noPanel with aborting := true })] }
theorem wit_StepsSettle : atEntry.isTraining 0 = true ∧ atEntry.vstate 0 = vsComputing ∧ (atEntry.panel 0).aborting = false ∧
    allAtEntry atEntry 0 = true ∧ drained atEntry 0 = true ∧
    (aborting vsComputing).isTraining 0 = true ∧ ((aborting vsComputing).panel 0).aborting = true ∧ drained (aborting vsComputing) 0 = true ∧
    (aborting vsComputing).vstate 0 = vsComputing ∧ (panelIn false psRunning vsSettling).vstate 0 = vsSettling ∧
    (panelIn false psRunning vsSettling).isTraining 0 = true := by decide +kernel

/-- This device is the master. -/
def master (vs : List Vote) : State := { (world false [] []).fset F.LNK_FABRIC_MASTER 0 1 with votes := vs }
def vote0 : Vote := ⟨(0, 0), [(0, 0), (1, 0)], [(0, 0, 0, false)], none, false⟩
theorem wit_VotesDecide : 4032 ≤ (4032 : Nat) ∧ voteSetWith (master []) (0, 0) = some [(0, 0)] ∧ (master []).votes = [] ∧
    (master [vote0]).votes.find? (fun v => v.key == (voteSetOf (master [vote0]) 0).headD (0, 0)) = some vote0 ∧
    rootHere (master [vote0]) (voteSetOf (master [vote0]) 0) = true ∧ vote0.timedOut = false ∧ vote0.arrived ≠ [] := by decide +kernel

/-- Panel 0 votes and awaits its outcome. -/
def voting (o : VoteOutcome) (fs : List (Fld × Nat × Nat)) : State :=
  fs.foldl (fun s x => s.fset x.1 x.2.1 x.2.2)
    { panelIn false psRunning vsVoting with voteOut := [(0, o)], panels := [(0, { noPanel with owed := true })] }
theorem wit_VotesTakeEffect : (∀ o ∈ [VoteOutcome.commit, .repeatStep, .pauseTimeout, .pauseSkew], let s := voting o []
      s.isTraining 0 = true ∧ (s.panel 0).owed = true ∧ s.vstate 0 = vsVoting ∧ outcomeOf s 0 .commit = some o ∧ s.pstate 0 ≠ psStopping ∧
      s.fbit F.HUB_STEP_STATUS_SINGLE 0 = false ∧ min 15 (s.fget F.HUB_STEP_STATUS_FAILS 0 + 1) < ((s.entryOf 0).map (·.repeatLimit)).getD 15) ∧
    (let s := voting .repeatStep [(F.HUB_STEP_STATUS_FAILS, 0, 1)]
     s.vstate 0 = vsVoting ∧ outcomeOf s 0 .commit = some .repeatStep ∧
     ((s.entryOf 0).map (·.repeatLimit)).getD 15 ≤ min 15 (s.fget F.HUB_STEP_STATUS_FAILS 0 + 1)) ∧
    (let s := voting .repeatStep [(F.HUB_STEP_STATUS_SINGLE, 0, 1), (F.HUB_STEP_STATUS_UPDATED, 0, 1)]
     s.vstate 0 = vsVoting ∧ outcomeOf s 0 .commit = some .repeatStep ∧ s.fbit F.HUB_STEP_STATUS_SINGLE 0 = true ∧
     s.fbit F.HUB_STEP_STATUS_UPDATED 0 = true) := by decide +kernel

/-- An outcome of the attempt before, which finds panel 0 stopped or started again. -/
theorem wit_VotesTakeEffect_late : ∀ v ∈ [vsIdle, vsComputing], ∀ o ∈ [VoteOutcome.repeatStep, .pauseTimeout, .pauseSkew],
    let s := (voting o []).fset F.HUB_STEP_STATUS_STATE 0 v
    s.isTraining 0 = true ∧ (s.panel 0).owed = true ∧ s.vstate 0 = v ∧ outcomeOf s 0 .commit = some o ∧ o ≠ .commit := by decide +kernel

def paused (cause : Nat) : State := (panelIn false psRunning vsPaused).fset F.HUB_STEP_STATUS_CAUSE 0 cause
theorem wit_PausedResumes : (paused 2).vstate 0 = vsPaused ∧ (paused 2).fget F.HUB_STEP_STATUS_CAUSE 0 ≠ 5 ∧
    (paused 5).vstate 0 = vsPaused ∧ (paused 5).fget F.HUB_STEP_STATUS_CAUSE 0 = 5 ∧ bitOf ((0 : Word) ||| 1).toNat 1 = false ∧
    bitOf ((2 : Word) ||| 1).toNat 1 = true ∧ (world false [] []).vstate 0 ≠ vsPaused := by decide +kernel
theorem wit_PausedResumes_access : Allowed (.steward 0) (stepOff 0 + 0xC) (paused 2) ∧ Allowed (.steward 0) (stepOff 0 + 0xC) (paused 5) ∧
    Allowed (.steward 0) (stepOff 0 + 0xC) (world false [] []) :=
  ⟨wit_allowed _ rfl _ _, wit_allowed _ rfl _ _, wit_allowed _ rfl _ _⟩

/-! Felts and memory. -/

def placed : State := { gauze with pages := [⟨2, 0, 5, 0, 0, 0, false, none, 0⟩] }
theorem wit_FeltRequests : outOfReach (.panel 0) (.tensor 2 0) = false ∧ outOfReach (.steward 0) (.tensor 2 0) = true ∧ recordsFit placed ∧
    isResident placed 2 = false ∧ pageOf placed 2 (0 / 2 ^ 21) = some ⟨2, 0, 5, 0, 0, 0, false, none, 0⟩ ∧
    tkey 2 0 / 64 ∉ placed.badTens ∧ askerDie placed (.panel 0) = some 0 ∧ placed.inFixed 0 64 = true ∧
    stagingHeld placed 0 64 = false ∧ badAmong placed.badPhys 0 64 = [] ∧ placed.inFixed (2 ^ 36 - 64) 64 = false ∧
    placed.desc 2 ≠ none ∧ placed.badTens = [] ∧ pageOf placed 2 ((2 ^ 21 - 64) / 2 ^ 21) ≠ none ∧ (2 ^ 21 - 64) % 2 ^ 21 + 64 ≤ 2 ^ 21 := by
  unfold recordsFit; decide +kernel

def movable (fs : List (Fld × Nat × Nat)) (h : Nat) (mv : Option Nat) : State :=
  { fs.foldl (fun s x => s.fset x.1 x.2.1 x.2.2) gauze with pages := [⟨h, 0, 0, 0, 0, 9, false, mv, 0⟩] }
def migOn : List (Fld × Nat × Nat) := [(F.FELT_MIG_LIMITS_ENABLE, 0, 1), (F.FELT_MIG_LIMITS_MIN, 0, 1), (F.FELT_MIG_LIMITS_MAX, 0, 1)]
theorem wit_FeltUpkeep_moves : (let s := movable migOn 2 none; let x : Page := ⟨2, 0, 0, 0, 0, 9, false, none, 0⟩
      s.fbit F.FELT_MIG_LIMITS_ENABLE 0 = true ∧ s.pages.filter (migCandidate s 0) = [x] ∧ s.fget F.FELT_MIG_LIMITS_MAX 0 ≠ 0 ∧
      (moveTarget s 0 x).isSome = true) ∧ (movable [(F.FELT_MIG_LIMITS_ENABLE, 0, 0)] 2 none).fbit F.FELT_MIG_LIMITS_ENABLE 0 = false ∧
    (∀ y ∈ [(2, false), (1, true)], let s := movable [] y.1 (some 4); let x : Page := ⟨y.1, 0, 0, 0, 0, 9, false, some 4, 0⟩
      s.pages.find? (fun z => z.handle == y.1 && z.index == 0 && z.felt == 0) = some x ∧
      badAmong s.badTens (tkey y.1 0) (2 ^ 21) = [] ∧ pageHeld s x = y.2) := by decide +kernel
theorem wit_FeltUpkeep_scrub : assocGet State.reset.scrubBlock 0 + 1 < 32768 ∧
    assocGet ({ State.reset with scrubBlock := [(0, 32767)] } : State).scrubBlock 0 + 1 = 32768 ∧
    badAt { State.reset with badPhys := [0] } (scrubAddr State.reset 0) = true ∧ badAt State.reset (scrubAddr State.reset 0) = false ∧
    recordsFit State.reset := by
  unfold recordsFit; decide +kernel
/-- A bad block of a page that is placed first in its felt. -/
theorem wit_FeltUpkeep_placed : let s := { gauze with pages := [⟨0, 0, 0, 0, 0, 0, false, none, 0⟩], badTens := [3] }
    badAt s (pageBase s ⟨0, 0, 0, 0, 0, 0, false, none, 0⟩ + 3 * 64) = true := by decide +kernel
theorem wit_FeltUpkeep_rules : ruleState State.reset = 0 ∧
    (let s := State.reset.fset F.FELT_RULE_STATUS_STATE 0 2
     ruleState s = 2 ∧ rulesOk s.rules = true ∧ ruleMoves s = false ∧ rulesOk { s.rules with slots := [(300, [])] } = false) ∧
    (let s := State.reset.fset F.FELT_RULE_STATUS_STATE 0 1; ruleState s = 1 ∧ s.updates = [] ∧ s.flights = []) ∧
    bitOf ((0 : Word) ||| 1).toNat 1 = false ∧ bitOf ((0 : Word) ||| 2).toNat 0 = false := by decide +kernel

/-! Markers and the chain. -/

def markMi (more : List (Nat × Nat)) : List Byte := mi 0x30 0 [] ([(28, 2 ^ 30 + 5), (48, 7)] ++ more)
theorem wit_MarkersChange : (let m := markMi []; let s := world false m []
      enters opMarker s 0 .F 0 m ∧ isFirst opMarker s 0 .F 0 m ∧ setTarget (miSet m 0) = 1 ∧ bitOf (miOpx m 0 8) 1 = true ∧
      0 ∈ s.coresOf 0 ∧ miEnd m = false ∧ s.pstate 0 ≠ psStopping) ∧
    (let m := mi 0x30 0 [] [(48, 7)]; let f := { flight0 m [] with seq := 1 }; let s := { world false m [] with flights := [f] }
      enters opMarker s 0 .F 0 m ∧ joins opMarker s 0 .F 0 m f ∧ ∀ k, k < 4 → setTarget (miSet m k) = 0) ∧
    (let m := mi 0x30 0 [] [(24, 0x85)]; let s := (world false m []).fset F.MK_WAIT_TIMEOUT_TICKS 0 9
      s.ownerOf 0 = some 0 ∧ s.sstate 0 .F = stWait ∧ s.rd .MK_WAIT_TIMEOUT 0 ≠ 0 ∧ bitOf (openWaits s 0 .F (s.miAt 0 .F (s.pc 0 .F))) 0 = true ∧
      waitIndex (miWait (s.miAt 0 .F (s.pc 0 .F)) 0) < 61) := by
  unfold enters atHead standsAt isFirst joins; decide +kernel
theorem wit_MarkersChange_force : let s := { world false [] [] with forceArmed := [0] }
    forceTaken s 0 ((5 : Word) ||| 0x20000) ∧ forceTaken s 0 ((5 : Word) &&& ~~~(0x20000 : Word)) ∧
    forceTaken s 0 ((0x10005 : Word) ||| 0x20000) ∧ ¬forceTaken s 1 ((5 : Word) ||| 0x20000) ∧ (0 : Word) ≠ 0x5EED := by
  unfold forceTaken; decide +kernel
theorem wit_MarkersChange_access (s : State) (h : s.bootHalted = false) (d : Fin 2) (i : Fin 256) :
    Allowed (.steward 0) (dieOff d + 0x1000) s ∧ Allowed (.steward 0) (dieOff d + 0x1004) s ∧ Allowed (.steward 0) (0x00038000 + 4 * i) s :=
  ⟨wit_allowed s h _ _, wit_allowed s h _ _, wit_allowed s h _ _⟩

def barrierMi : List Byte := mi 0x31 0 [] []
/-- Panel 0 with two cores; an open epoch in which these have arrived. -/
def arriving (cs : List Nat) : State :=
  { world false barrierMi [] with
    secs := [(0, some { secs0 false barrierMi [] with entry := some { entry0 false with cores := [0, 1] } })], coreMap := [0, 0], live := [(0, some 0), (1, some 1)], openEpochs := if cs = [] then [] else [⟨0, cs.map (·, false), [], false, false, false⟩]
    releases := [(0, 3, true)] }
theorem wit_BarriersRelease : (let s := world false barrierMi []; enters opBarrier s 0 .F 0 barrierMi ∧ s.fbit F.MK_CHAIN_ARRIVED 0 = false) ∧
    (let s := (world false barrierMi []).fset F.MK_CHAIN_ARRIVED 0 1; enters opBarrier s 0 .F 0 barrierMi ∧ s.fbit F.MK_CHAIN_ARRIVED 0 = true) := by
  unfold enters atHead standsAt; decide +kernel
theorem wit_BarriersRelease_arrive : (∀ cs ∈ [[], [1], [0]], barScope (arriving cs) 0 = some .panel ∧ 0 ∈ (arriving cs).coresOf 0) ∧
    barCores (arriving [1]) 0 = [0, 1] ∧ arrivedAt (arriving [1]) 0 = [1] ∧ arrivedAt (arriving []) 0 = [] ∧
    arrivedAt (arriving [0]) 0 = [0] ∧ (arriving []).releases.find? (·.1 == 0) = some (0, 3, true) ∧ (arriving []).flights = [] ∧
    barRootHere (arriving [0]) 0 = true ∧ ∃ e ∈ (arriving [0]).openEpochs, e.id = 0 := by decide +kernel

/-- A group barrier of panel 0 here and panel 3 of device 1, at its root; the latter has arrived. -/
def grouped : State :=
  let s := (arriving []).fset F.LNK_FABRIC_MASTER 0 1
  { s with
    secs := [(0, some { secs0 false barrierMi [] with markers := some ⟨[], [(0, .group [(0, 0), (1, 3)])]⟩ })]
    openEpochs := [⟨nodeId s 0 [(0, 0), (1, 3)], [], [((1, 3), false)], false, false, false⟩] }
theorem wit_BarriersRelease_group : listWith grouped (0, 0) (0 % 63) = some [(0, 0), (1, 3)] ∧ 0 = memberId (0, 0) (0 % 63) ∧
    (∀ y ∈ (openEpoch grouped (nodeId grouped 0 [(0, 0), (1, 3)])).members, y.1 ≠ (0, 0)) ∧
    (∀ m ∈ [((0 : Nat), (0 : Nat)), (1, 3)], m = (0, 0) ∨ ∃ y ∈ (openEpoch grouped (nodeId grouped 0 [(0, 0), (1, 3)])).members, y.1 = m) ∧
    grouped.ownId = 0 := by decide +kernel

/-! Exchange queues: queue 0 of four items of 64 bytes, for panel 0 (kind 0) or a steward (kind 2). -/

def queueIn (state kind : Nat) (x : QCtx) (fs : List (Fld × Nat × Nat)) (m : List Byte) : State :=
  adoptConfig { ([(F.Q_STATUS_STATE, 0, state), (F.Q_CONFIG_CAP_LOG2, 0, 2), (F.Q_CONFIG_CONS_KIND, 0, kind), (F.Q_CONFIG_PRODUCER, 0, 3),
      (F.Q_CONFIG_ARRIVE, 0, 1)] ++ fs).foldl (fun (s : State) (y : Fld × Nat × Nat) => s.fset y.1 y.2.1 y.2.2) (world false m [(0, dsc 0 0 2 [32, 2] [])]) with
    queues := [(0, x)] } 0
def twoItems : List (Fld × Nat × Nat) := [(⟨.Q_PROD, 0, 32, .ro, 0⟩, 0, 2)]
def landed2 : QCtx := { noQueue with prod2 := 2 }
def push0 : Push := ⟨.steward 0, List.replicate 64 1, true⟩

theorem wit_QueuesAreDriven : (let s := queueIn qsRunning 2 landed2 twoItems []
      s.qstate 0 = qsRunning ∧ isConsumer s (.steward 0) 0 = true ∧ copiesAgree s 0 = true ∧ isConsumer s .jtag 0 = false) ∧
    (queueIn qsStopped 2 noQueue [] []).qstate 0 ≠ qsRunning ∧ (queueIn qsStopped 2 noQueue [] []).qstate 0 = qsStopped ∧
    ((0 : Word) ||| 1).toNat % 8 = 1 ∧ ((0 : Word) ||| 2).toNat % 8 = 2 ∧ ((0 : Word) ||| 4).toNat % 8 = 4 ∧ State.reset.qstate 0 = qsUnconf ∧
    (queueIn qsStopping 2 noQueue [] []).qstate 0 = qsStopping ∧ ((queueIn qsStopping 2 noQueue [] []).queue 0).acc = [] := by decide +kernel
theorem wit_QueuesAreDriven_halted : ∀ st ∈ [qsStopped, qsRunning, qsStopping], (queueIn st 2 landed2 twoItems []).bootHalted = false ∧
    (queueIn st 2 noQueue [] []).bootHalted = false ∧ (queueIn st 0 { noQueue with stalled := [push0] } [] []).bootHalted = false := by
  decide +kernel
theorem wit_QueuesAreDriven_access (q : Fin 256) (s : State) (h : s.bootHalted = false) : Allowed (.steward 0) (queueOff q + 0x28) s ∧
    Allowed (.steward 0) (queueOff q) s ∧ Allowed (.steward 0) (queueOff q + 0x30) s :=
  ⟨wit_allowed s h _ _, wit_allowed s h _ _, wit_allowed s h _ _⟩
theorem wit_PushesLand : (let s := queueIn qsRunning 0 { noQueue with acc := [push0] } [] []
      s.qstate 0 = qsRunning ∧ copiesAgree s 0 = true ∧ (s.queue 0).acc = [push0] ∧ push0.whole = true ∧
      stagingHeld s (qSlot s 0 (s.qix 0 .prod)) (qItem s 0) = false ∧ qFld s F.Q_CONFIG_ARRIVE 0 = 1 ∧ qCount s 0 = 0 ∧
      consPanel s 0 = some 0 ∧ 0 ∈ s.coresOf 0) ∧
    (let s := queueIn qsRunning 0 { noQueue with stalled := [push0] } [] [];
      copiesAgree s 0 = true ∧ (s.queue 0).stalled = [push0] ∧ 0 < qFree s 0 ∧ (s.queue 0).stalled.find? (fun y => isSteward y.src) = some push0 ∧
      permits s 0 .host = true) ∧
    (∀ x ∈ [{ push0 with src := .dispatch 1 }], let s := queueIn qsRunning 0 { noQueue with stalled := [x] } [(F.Q_CONFIG_PRODUCER, 0, 1)] []
      (s.queue 0).stalled.find? (fun y => isSteward y.src) = some x ∧ permits s 0 .host = false ∧ permits s 0 .steward = true) ∧
    (∀ x ∈ [noQueue, { noQueue with stalled := [push0] }],
      let s := queueIn qsRunning 0 x [] []
      s.qstate 0 ≠ qsUnconf ∧ permits s 0 .steward = true ∧ s.inFixed (0 * 2 ^ 32 + (s.queue 0).srcLo.toNat) (qItem s 0) = true ∧
      badAmong s.badPhys (0 * 2 ^ 32 + (s.queue 0).srcLo.toNat) (qItem s 0) = [] ∧ copiesAgree s 0 = true ∧ 0 < qFree s 0) := by decide +kernel

def readMi : List Byte := mi 0x38 0 [0] [(52, 2)]
def pushMi : List Byte := mi 0x38 0 [] [(12, hd 0), (52, 2), (56, 1)]
theorem wit_QueueInstructions : (∀ x ∈ [(landed2, twoItems), (noQueue, [])],
      let s := queueIn qsRunning 0 x.1 x.2 readMi
      enters (opRead false) s 0 .F 0 readMi ∧ isFirst (opRead false) s 0 .F 0 readMi ∧ s.flights = [] ∧ skeinRoom s (newFlight (opRead false) s 0 .F 0 readMi) 0 false = true) ∧
    (let s := queueIn qsRunning 0 landed2 twoItems readMi; readGoes s (miOpx readMi 0 1) (opN readMi)) ∧
    (let s := queueIn qsRunning 0 noQueue [] readMi;
      s.qstate (miOpx readMi 0 1) = qsRunning ∧ copiesAgree s (miOpx readMi 0 1) = true ∧ qCount s (miOpx readMi 0 1) < opN readMi) ∧
    (let s := queueIn qsRunning 0 noQueue [] pushMi;
      enters (opRead true) s 0 .F 0 pushMi ∧ isFirst (opRead true) s 0 .F 0 pushMi ∧ s.badTens = [] ∧ copiesAgree s 0 = true ∧
      skeinRoom s (newFlight (opRead true) s 0 .F 0 pushMi) 0 false = true) := by
  unfold enters atHead standsAt isFirst readGoes; decide +kernel
theorem wit_QueueInstructions_waiting : let f := { flight0 readMi [] with waiting := true }
    let s := { queueIn qsRunning 0 landed2 twoItems readMi with flights := [f] }
    (s.flights.find? fun f => f.strm == .F && some f.panel == s.ownerOf 0 && (f.core == none || f.core == some 0) && waitsRead (opQueue f) f) = some f ∧
    s.flight f.id = some f ∧ s.flights.find? (waitsRead (opQueue f)) = some f ∧ readGoes s (opQueue f) (opN f.mi) := by
  unfold readGoes; decide +kernel
theorem wit_QueueInstructions_index : ∀ op ∈ [0x39, 0x3A, 0x3B], let m := mi op 0 [] (if op = 0x3B then [(52, 1)] else [])
    (let s := queueIn qsRunning 0 landed2 twoItems m
     enters (opIndex op) s 0 .F 0 m ∧ isFirst (opIndex op) s 0 .F 0 m ∧ s.qstate (miOpx m 0 1) = qsRunning ∧ copiesAgree s 0 = true ∧
      skeinRoom s (newFlight (opIndex op) s 0 .F 0 m) 0 false = true) ∧
    (let s := queueIn qsStopped 0 landed2 twoItems m
     enters (opIndex op) s 0 .F 0 m ∧ isFirst (opIndex op) s 0 .F 0 m ∧ s.qstate (miOpx m 0 1) ≠ qsRunning) := by
  unfold enters atHead standsAt isFirst; decide +kernel

/-! Links: ports 0 and 1 are UP on a device with an ID. -/

def lnk (fs : List (Fld × Nat × Nat)) : State :=
  ([(F.LNK_STATUS_STATE, 0, lsUp), (F.LNK_STATUS_STATE, 1, lsUp), (F.LNK_STATUS_WIDTH, 0, 8), (F.LNK_STATUS_GOOD_LANES, 0, 255),
    (F.LNK_FABRIC_ID_VALID, 0, 1)] ++ fs).foldl (fun (s : State) (y : Fld × Nat × Nat) => s.fset y.1 y.2.1 y.2.2) (world false [] operands)
/-- A packet of a type to a device. -/
def pk (typ dst len w1 : Nat) (host fenced : Bool) : Packet :=
  { typ := BitVec.ofNat 8 typ, vl := BitVec.ofNat 2 (vlOf typ), fenced := fenced, host := host, hctx := 0, rsp := false
    dst := BitVec.ofNat 12 dst, src := 33, len := BitVec.ofNat 7 len, rsv47 := false, tag := 7, hops := 0, w1 := BitVec.ofNat 64 w1
    data := if typ = 3 then [] else List.replicate (64 * len) 5 }

theorem wit_PortsRetrain : (lnk []).lstate 0 = lsUp ∧ (lnk [(F.LNK_STATUS_STATE, 0, lsRetraining)]).lstate 0 = lsRetraining ∧
    (∃ i ∈ activeLanes ((lnk []).fget F.LNK_STATUS_GOOD_LANES 0) ((lnk []).fget F.LNK_STATUS_WIDTH 0), i ∈ [0]) ∧
    (legalWidths ((lnk []).fget F.LNK_STATUS_ROLE 0)).find? (fun w => decide (w < 8) && decide (w ≤ popCount 8 254)) = some 4 ∧
    (activeLanes 255 8).filter (fun i => decide ((lnk []).fget F.LNK_CONFIG_DEG_LIMIT 0 < [5000].getD i 0)) = [0] ∧
    (lnk [(F.LNK_STATUS_STATE, 0, lsStopping)]).lstate 0 = lsStopping ∧ ((lnk []).port 0).retry = [] ∧ ((lnk []).port 0).egress = [] ∧
    ((lnk [(F.LNK_STATUS_STATE, 0, lsRetraining)]).port 0).rxWait = [] ∧
    (legalWidths ((lnk []).fget F.LNK_STATUS_ROLE 0)).find? (fun w => decide (w < 8) && decide (w ≤ popCount 8 0)) = none := by
  decide +kernel
def training (fs : List (Fld × Nat × Nat)) : State := lnk ((F.LNK_STATUS_STATE, 0, lsTraining) :: fs)
def listed (role : Nat) : State :=
  { training [(F.LNK_CONFIG_ROLE, 0, role)] with links := some ⟨false, [], [⟨0, role, 8, 1024, 0⟩]⟩ }
theorem wit_PortsTrain : (training []).lstate 0 = lsTraining ∧ (training []).isMaster = false ∧ listedPort (training []) 0 = false ∧
    listedPort (listed rolePeer) 0 = true ∧ roleAgrees ((listed rolePeer).fget F.LNK_CONFIG_ROLE 0) .device = true ∧
    roleAgrees ((listed roleHost).fget F.LNK_CONFIG_ROLE 0) .device = false ∧
    (let s := training ((F.LNK_FABRIC_MASTER, 0, 1) :: ((List.range 8).map fun i => (F.LNK_STATUS_ROLE, 1 + i, roleHost)) ++
        (List.range 8).map fun i => (F.LNK_STATUS_STATE, 1 + i, lsUp))
     s.lstate 0 = lsTraining ∧ foundRole .adapter = roleHost ∧ 8 ≤ ((hostPorts s).filter (· != 0)).length) ∧
    carries (.steward 0) 0 = false ∧ carries (.link 0 0 false 0) 0 = true ∧ bitOf ((0 : Word) ||| 1).toNat 1 = false ∧
    bitOf ((0 : Word) ||| 2).toNat 0 = false ∧ (lnk [(F.LNK_STATUS_STATE, 0, lsOff)]).lstate 0 = lsOff := by decide +kernel
theorem wit_PortsTrain_access (s : State) (h : s.bootHalted = false) (p : Fin 16) : Allowed (.steward 0) (lnkOff p) s ∧
    Allowed (.steward 0) 0x00040018 s ∧ Allowed (.steward 0) 0x00040008 s := ⟨wit_allowed s h _ _, wit_allowed s h _ _, wit_allowed s h _ _⟩

theorem wit_PacketsActHere : (∀ x ∈ [pk 1 0 1 0 false true, pk 1 0 1 0 false false, pk 2 0 1 0 false false], forThis (lnk []) 0 x) ∧
    (let r := asTaken (lnk []) 0 (pk 1 0 1 0 false true)
     wordPlace r.w1.toNat = .phys 0 ∧ (lnk []).inFixed 0 r.data.length = true ∧ stagingHeld (lnk []) 0 r.data.length = false ∧ r.fenced = true ∧
      (asTaken (lnk []) 0 (pk 1 0 1 0 false false)).fenced = false ∧ (lnk []).badPhys = []) ∧
    (let x := pk 1 0 1 (2 ^ 62 + 2 * 2 ^ 40 + 4) false false
     forThis (lnk []) 0 x ∧ wordPlace x.w1.toNat = .tensor 2 4 ∧ (lnk []).desc 2 ≠ none ∧ (lnk []).badTens = [] ∧
     tileWrite (lnk []) 2 4 = false ∧ tileWrite (lnk []) 3 (2 ^ 39) = true ∧ (lnk []).desc 3 ≠ none) := by
  unfold forThis hears accepted; decide +kernel
theorem wit_PacketsActHere_ctrl : (∀ w ∈ [0, 2 ^ 62 + 2 * 2 ^ 40 + 4], forThis (lnk []) 0 (pk 3 0 1 w false false)) ∧
    (let x := pk 8 0 0 (2 ^ 63 + 0x100) false false
     forThis (lnk []) 0 x ∧ dupTold (lnk []) (asTaken (lnk []) 0 x) 0x100 0 = none) ∧
    (let s := lnk [(F.LNK_FABRIC_DEVICE_ID, 0, 33), (F.LNK_GROUP_GROUP, 0, 1)]; let x := { pk 8 33 0 (2 ^ 63 + dupWord * 2 ^ 29 + lnkOff 1 + 4) false false with src := 32 }
     forThis s 0 x ∧ dupTold s (asTaken s 0 x) (lnkOff 1 + 4) (BitVec.ofNat 32 dupWord) = some 1) ∧ (lnk []).discAsked = false ∧
    forThis (lnk []) 0 (pk 9 0 0 (2 ^ 63 + 0x100) false false) ∧
    (∀ x ∈ [pk 4 0 1 0 false false, pk 5 0 0 0 false false, pk 0x0A 0 0 0 false false, pk 0x23 0 0 0 false false], forThis (lnk []) 0 x) := by
  unfold forThis hears accepted; decide +kernel
/-- Queue 0 takes pushes of a host, with credits. -/
def hosted (st : Nat) : State :=
  adoptConfig { lnk [(F.Q_STATUS_STATE, 0, st), (F.Q_CONFIG_CAP_LOG2, 0, 2)] with queues := [(0, { noQueue with granted := 4 })] } 0
theorem wit_PacketsActHere_push : ∀ st ∈ [qsRunning, qsStopped], let s := hosted st
    let x := pk 0x10 0 1 (3 * 2 ^ 62 + 2 ^ 32) true false
    let r := asTaken s 0 x
    forThis s 0 x ∧ s.qstate 0 = st ∧ st ≠ qsUnconf ∧ r.host = true ∧ permits s 0 .host = true ∧ copiesAgree s 0 = true ∧ qItem s 0 ≤ 4096 ∧
    partOk s 0 (bits r.w1.toNat 16 16) (bitOf r.w1.toNat 32) r.data.length = true ∧ (s.queue 0).granted ≠ 0 ∧ 0 < qFree s 0 ∧ (s.queue 0).stalled = [] := by
  unfold forThis hears accepted; decide +kernel
theorem wit_PacketsActHere_sets : (let x := pk 0x18 0 0 (2 ^ 32 + 5) false true; let r := asTaken (lnk []) 0 x
      forThis (lnk []) 0 x ∧ (lnk []).heldSets = [] ∧ setReady (lnk []) (0, r) = false) ∧
    (let x := pk 0x18 0 0 5 false false; let r := asTaken (lnk []) 0 x
      forThis (lnk []) 0 x ∧ setReady (lnk []) (0, r) = true ∧ r.fenced = false ∧ setIdIn r = 5 ∧ (lnk []).liveOf (5 / 64) = some 0) ∧
    (let s := { lnk [] with heldSets := [(0, pk 0x18 0 0 5 false false)] }
     readyAt s 0 = some 0 ∧ (s.port 0).rxWait = [] ∧ s.heldSets[0]? = some (0, pk 0x18 0 0 5 false false) ∧ setIdIn (pk 0x18 0 0 5 false false) % 64 < 60) ∧
    (let s := { lnk [] with heldSets := List.replicate 64 (0, pk 0x18 0 0 (2 ^ 32 + 5) false true) }
     let x := pk 0x18 0 0 5 false false
     accepted s 0 x ∧ overLimit s 0 (((s.port 0).rxWait ++ [asTaken s 0 x]).headD (asTaken s 0 x)) = true) := by
  unfold forThis hears accepted; decide +kernel

theorem wit_PacketsTravel : (let s := { lnk [] with routes := [(1, (1, true))] }; let x := pk 1 1 1 0 false false
      hears s 0 x ∧ x.typ ≠ 0x20 ∧ x.dst.toNat ≠ s.ownId ∧ fromHostPort s 0 = false ∧ x.hops.toNat < 7 ∧ s.routeChange = [] ∧ s.reqWait = [] ∧
      s.routeTo x.dst.toNat = some 1 ∧ cascadeRsp s x = false ∧ (lnk []).routeTo x.dst.toNat = none ∧ wantsAnswer x = false) ∧
    (let s := { lnk [(F.LNK_FABRIC_MASTER, 0, 1), (F.LNK_STATUS_ROLE, 1, roleHost)] with requests := [⟨7, 3, 0, 1⟩] }
     (∀ x ∈ [pk 4 0 1 0 true false, pk 5 0 0 0 true false, pk 0x0A 0 0 0 true false], hears s 0 x) ∧ s.ownId = 0 ∧ s.isMaster = true ∧
      fromHostPort s 0 = false ∧ s.hostPort 0 = some 1 ∧ (∃ x ∈ s.requests, x.tag = 7 ∧ x.hctx = 0) ∧
      s.requests.find? (fun y => y.tag == (7 : BitVec 12).toNat) = some ⟨7, 3, 0, 1⟩) ∧
    (let s := { lnk [] with requests := [⟨7, 9, 8, 1⟩] }
     s.reqWait = [] ∧ s.requests.find? (fun y => y.tag == (7 : BitVec 12).toNat) = some ⟨7, 9, 8, 1⟩) ∧
    (let s := { lnk [] with routes := [(1, (1, true))] }; let x := pk 0x23 1 0 3 false false
     hears s 0 x ∧ fromHostPort s 0 = false ∧ x.hops.toNat < 7 ∧ s.reqWait = [] ∧ x.dst.toNat ≠ s.ownId ∧ s.routeTo x.dst.toNat = some 1) ∧
    (let s := lnk [(F.LNK_FABRIC_MASTER, 0, 1), (F.LNK_STATUS_ROLE, 1, roleHost)]; let x := pk 0x23 0 0 3 true false
     hears s 0 x ∧ fromHostPort s 0 = false ∧ x.dst.toNat = s.ownId ∧ s.isMaster = true ∧ x.host = true ∧ s.hostPort x.hctx.toNat = some 1) := by
  unfold hears accepted; decide +kernel
/-- A flit that carries the first 304 bytes of a packet of eight blocks. -/
def flitBody (seq : Nat) : List Byte := leBytes 8 seq ++ sliceB (packetBytes (pk 2 0 8 0 false false)) 0 304
def flitWhole (seq : Nat) : List Byte := flitBody seq ++ leBytes 8 (crc64 (flitBody seq)).toNat

theorem leNat_leBytes (n v : Nat) : leNat (leBytes n v) = v % 256 ^ n := by
  induction n generalizing v with
  | zero => simp [leNat, leBytes, Nat.mod_one]
  | succ n ih =>
    rw [leBytes, leNat, ih, Nat.pow_succ', Nat.mod_mul]
    simp [BitVec.toNat_ofNat]

theorem slice_tail (b c : List Byte) (h : c.length = 8) : sliceB (b ++ c) b.length 8 = c := by
  apply List.ext_getElem
  · simp [sliceB, h]
  · intro i h1 h2
    simp [sliceB, List.getD_eq_getElem?_getD, List.getElem?_append_right, List.getElem?_eq_getElem h2]

/-- The CRC of a flit is checked against its last eight bytes. -/
theorem flit_crc_ok (b : List Byte) (h : b.length = 312) : flitCrcOk (b ++ leBytes 8 (crc64 b).toNat) = true := by
  have hl : (leBytes 8 (crc64 b).toNat).length = 8 := rfl
  have hs : leAt (b ++ leBytes 8 (crc64 b).toNat) 312 8 = (crc64 b).toNat := by
    rw [leAt, ← h, slice_tail _ _ hl, leNat_leBytes]
    exact Nat.mod_eq_of_lt (crc64 b).isLt
  have ht : (b ++ leBytes 8 (crc64 b).toNat).take 312 = b := by rw [← h, List.take_left]
  simp [flitCrcOk, hs, ht, h, hl]

theorem wit_PacketsTravel_crc : flitCrcOk [] = false ∧ flitCrcOk (flitWhole 5) = true ∧ flitCrcOk (flitWhole 0) = true ∧ flitCrcOk (flitWhole (4095 * 2 ^ 12 + 2 ^ 24)) = true :=
  ⟨rfl, flit_crc_ok _ (by decide +kernel), flit_crc_ok _ (by decide +kernel), flit_crc_ok _ (by decide +kernel)⟩
theorem wit_PacketsTravel_flits : portHears (lnk []) 0 = true ∧ flitHdr (flitWhole 5) 0 12 ≠ ((lnk []).port 0).rxSeq ∧
    flitHdr (flitWhole 0) 0 12 = ((lnk []).port 0).rxSeq ∧ flitHdr (flitWhole 0) 24 1 = 0 ∧ ((lnk []).port 0).nakSent = false ∧
    ((lnk []).port 0).egress = [] ∧ ((lnk []).port 0).retry.length < 2048 ∧ ((lnk []).port 0).txSeq < 4096 ∧
    (let s := (lnk []).setPort 0 { (lnk []).port 0 with retry := [(0, 0, [])], txSeq := 1 }
     let b := flitWhole (4095 * 2 ^ 12 + 2 ^ 24)
     portHears s 0 = true ∧ flitHdr b 0 12 = (s.port 0).rxSeq ∧ flitHdr b 24 1 = 1 ∧
      acknowledge (s.port 0) (flitHdr b 12 12) = s.port 0 ∧ (s.port 0).retry ≠ [] ∧ (s.port 0).resends < 8 ∧ (s.port 0).rxWait = [] ∧
      (s.port 0).partials = []) ∧
    (let s := (lnk []).setPort 0 { (lnk []).port 0 with nakSent := true }; (s.port 0).nakSent = true) := by decide +kernel
theorem wit_PacketsTravel_space : ((lnk []).port 0).partials = [] ∧
    (let space := sliceB (packetBytes (pk 2 0 8 0 false false)) 0 304; cutPackets (space.length / 16) space = ([], space)) := by decide +kernel
theorem wit_PacketsTravel_send : let q := pk 1 1 1 0 false false
    (lnk []).lstate 0 = lsUp ∧ ((lnk []).port 0).egress = [] ∧ assocGet ((lnk []).port 0).credits q.vl.toNat + flitsOf q ≤ vlBuffer q.vl.toNat ∧
    ((lnk []).port 0).retry.length + flitsOf q ≤ 2048 ∧
    ((lnk []).port 0).nakOwed = false ∧ ((lnk []).port 0).owed = [] := by decide +kernel

theorem wit_DevicesDiscovered : (let s := lnk [(F.LNK_FABRIC_MASTER, 0, 1)]; s.isMaster = true ∧ s.fget F.LNK_DISC_STATUS_STATE 0 ≠ 1 ∧
      ((List.range 16).filter fun p => s.lstate p == lsUp && s.fget F.LNK_STATUS_ROLE p == rolePeer) = []) ∧
    ((List.range 16).filter fun p => (lnk [(F.LNK_STATUS_ROLE, 0, rolePeer)]).lstate p == lsUp &&
      (lnk [(F.LNK_STATUS_ROLE, 0, rolePeer)]).fget F.LNK_STATUS_ROLE p == rolePeer) ≠ [] ∧ (lnk []).isMaster = false ∧
    (let x := pk 0x20 0 0 0 false false
     portHears (lnk []) 0 = true ∧ packetOk x = true ∧ (lnk []).bootHalted = false ∧ (lnk []).ownId / 32 ≠ x.src.toNat / 32 ∧
      (lnk [(F.LNK_FABRIC_DEVICE_ID, 0, 34)]).ownId / 32 = x.src.toNat / 32 ∧
      discPast (lnk [(F.LNK_FABRIC_DEVICE_ID, 0, 34)]) 0 x = false) ∧
    (let s := { lnk [(F.LNK_FABRIC_MASTER, 0, 1), (F.LNK_DISC_STATUS_STATE, 0, 1)] with discTodo := [(0, 0)] }
     (∀ w ∈ [0, 3], forThis s 0 (pk 0x21 0 0 w false false)) ∧ s.fget F.LNK_DISC_STATUS_STATE 0 = 1 ∧
      s.discTodo.head? = some (s.ownId, 0) ∧ (s.ownId, 0) ∉ s.discTodo.drop 1 ∧ s.discAsked = false ∧ s.ownId = s.masterId ∧
      s.discLinks = [] ∧ s.isMaster = true ∧
      bitOf (s.rd .LNK_DISC_MEMBERS 0).toNat 3 = false) ∧
    (let s := lnk [(F.LNK_FABRIC_ID_VALID, 0, 0)]
     portHears s 0 = true ∧ packetOk (pk 0x22 0 0 33 false false) = true ∧ s.idValid = false ∧ s.isMaster = false) := by
  unfold forThis hears accepted; decide +kernel

/-! Attention, claims and vectors. -/

/-- An event of the power controller is active; source 5 is pending for target 3. -/
def attn (fs : List (Fld × Nat × Nat)) : State := with_ ([(F.CLM_SRC_TARGET, 5, 3), (F.CLM_SRC_PRIO, 5, 1)] ++ fs)
theorem wit_AttentionIsClaimed : attnActive State.reset = 0 ∧ attnActive ((attn []).setBit .PWR_EVENT 0 0) ≠ 0 ∧
    (let s := attn [(F.LNK_FABRIC_ID_VALID, 0, 1), (F.ATTN_MSG_CTRL_EN, 0, 1)]
     s.idValid = true ∧ (List.range 8).filter (fun c => bitOf (s.fget F.ATTN_MSG_CTRL_EN 0) c) = [0] ∧ (attnActive s, hostPend s) = s.attnSent ∧
     (attnActive (s.setBit .PWR_EVENT 0 0), hostPend (s.setBit .PWR_EVENT 0 0)) ≠ s.attnSent ∧
     (attnActive (s.setBit .PWR_EVENT 0 0), hostPend (s.setBit .PWR_EVENT 0 0)) ≠ (0, 0)) ∧
    claimWinner (attn [(F.CLM_SRC_PENDING, 5, 1)]) 3 = 5 ∧ claimWinner (attn []) 3 = 0 ∧
    (let s := attn [(F.CLM_SRC_ACTIVE, 5, 1), (F.CLM_SRC_CLAIMED_BY, 5, 3)]
     (5 : Word).toNat = 5 ∧ (0x801 : Word).toNat = 0x801 ∧ 2048 ≤ 0x801 ∧ srcActive s 5 = true ∧ s.fget F.CLM_SRC_CLAIMED_BY 5 = 3 ∧ srcActive s 6 = false) := by decide +kernel
theorem wit_AttentionIsClaimed_access (s : State) (h : s.bootHalted = false) (t : Fin 14) : ReadAllowed (.steward 0) (clmOff t + 4) s ∧
    Allowed (.steward 0) (clmOff t + 8) s ∧ Allowed (.steward 0) (clmOff t + 0xC) s :=
  ⟨wit_readAllowed s h _ _, wit_allowed s h _ _, wit_allowed s h _ _⟩

/-- Vector 1 of core 0 is pending; its entry is m. -/
def vectored (m : List Byte) (fs : List (Fld × Nat × Nat)) : State :=
  adoptConfig { ([(F.VEC_PEND_PEND, 0, 2), (F.VEC_EN_EN, 0, 2), (F.Q_STATUS_STATE, 0, qsRunning), (F.Q_CONFIG_CAP_LOG2, 0, 2), (F.Q_CONFIG_PRODUCER, 0, 3)] ++
      fs).foldl (fun (s : State) (y : Fld × Nat × Nat) => s.fset y.1 y.2.1 y.2.2)
      (world false (List.replicate 64 0 ++ m) [(0, dsc 0 0 2 [32, 2] [])]) with queues := [(0, noQueue)] } 0
theorem wit_VectorsRun : (∀ m ∈ [mi 0 0 [] [], mi 1 0 [] [], mi 0x30 4 [] [(28, 2 ^ 30 + 5), (48, 7)], mi 0x38 4 [] [(12, hd 0), (52, 2), (56, 1)]],
      takes (vectored m []) 0 0 1 m) ∧
    (let m := mi 1 0 [] []; miOpcode m ≠ 0 ∧ plainEntry m = false ∧ remoteDevs m = [] ∧ tagsFree (vectored m []) m = true) ∧
    (let m := mi 0x30 4 [] [(28, 2 ^ 30 + 5), (48, 7)]
     plainEntry m = true ∧ rejectCause opMarker (vectored m []) 0 0 .F m = 0 ∧ setTarget (miSet m 0) = 1) ∧
    (let m := mi 0x38 4 [] [(12, hd 0), (52, 2), (56, 1)]
     isPush m = true ∧ plainEntry m = true ∧ rejectCause (opRead true) (vectored m []) 0 0 .F m = 0) ∧ (vectored [] []).badTens = [] ∧
    copiesAgree (vectored [] []) 0 = true := by
  unfold takes; decide +kernel
/-- An entry with a set on another device, and every fence tag in use. -/
def remoteMi : List Byte := mi 0x30 4 [] [(28, 2 ^ 31 + 2 ^ 30 + 2 ^ 16 + 5)]
def tagless : State := { vectored remoteMi [] with fenceUsed := (List.range 4096).map fun t => (t, 1) }
theorem wit_VectorsRun_tags : takes tagless 0 0 1 remoteMi ∧ tagsFree tagless remoteMi = false := by
  refine ⟨by unfold takes; decide +kernel, ?_⟩
  have h : (remoteDevs remoteMi).length = 1 := by decide +kernel
  have n : freeTags tagless 1 = [] := by
    rw [freeTags, List.filter_eq_nil_iff.2, List.take_nil]
    intro t _
    simp only [tagless, Bool.and_eq_true, decide_eq_true_eq, Bool.not_eq_true', not_and, Bool.not_eq_false, List.any_eq_true, List.mem_map,
      List.mem_range, beq_iff_eq]
    exact fun h => ⟨(t, 1), ⟨t, h, rfl⟩, rfl⟩
  rw [tagsFree, h, n]; rfl

/-! Stewards. -/

def stw (fs : List (Fld × Nat × Nat)) : State := with_ ([(F.STW_STATUS_STATE, 0, swRunning), (F.STW_STATUS_STATE, 5, swRunning), (F.STW_STATUS_ROLE, 5, 4)] ++ fs)
theorem wit_Stewards_access (s : State) (h : s.bootHalted = false) (i : Fin 6) (off : BitVec 29) : Allowed (.steward 0) 0x03001060 s ∧
    Allowed (.steward 0) off.toNat s ∧ Allowed (.steward 0) 0x03001004 s ∧ Allowed (.steward 0) (stwOff i + 0x10) s ∧
    Allowed (.steward 0) (stwOff i + 0x20) s ∧ Allowed (.steward 0) (stwOff i + 0x24) s ∧ Allowed (.steward 0) (stwOff i + 0x80) s ∧
    Allowed (.steward 5) (stwOff i) s :=
  ⟨wit_allowed s h _ _, wit_allowed s h _ _, wit_allowed s h _ _, wit_allowed s h _ _, wit_allowed s h _ _, wit_allowed s h _ _, wit_allowed s h _ _, wit_allowed s h _ _⟩
theorem wit_StewardsServe : (world false [] []).liveOf (bits (0 : Word).toNat 0 10) = some 0 ∧ bitOf (0 : Word).toNat 16 = false ∧
    bitOf (0x10000 : Word).toNat 16 = true ∧ 0 ∈ (world false [] []).coresOf (bits (0x10000 : Word).toNat 10 6) ∧
    Allowed (.link 0 0 true 0) 0x03001060 State.reset ∧ (0x03800004 : BitVec 29).toNat % 4 = 0 ∧ 0x03800000 ≤ (0x03800004 : BitVec 29).toNat ∧
    (0x03800004 : BitVec 29).toNat < 0x04000000 ∧ stageLocked State.reset = false ∧
    (let s := with_ [(F.STW_STAGE_STATUS_STATE, 0, 1)]
     stageLocked s = true ∧ s.fget F.STW_STAGE_STATUS_STATE 0 = 1 ∧ stageError s = 1) ∧ (State.reset.stw 0).held = none ∧
    (({ State.reset with stewards := [(0, { noStw with held := some [1] })] } : State).stw 0).held ≠ none ∧
    (0xFC01 : Nat) / 1024 = 63 ∧ State.reset.fbit F.STW_LOG_CTRL_ENABLE 0 = false ∧ (with_ [(F.STW_LOG_CTRL_ENABLE, 0, 1)]).fbit F.STW_LOG_CTRL_ENABLE 0 = true ∧
    classOn State.reset 63 = true ∧ classOn State.reset 5 = false ∧ stagingHeld State.reset (logBase State.reset) 64 = false ∧
    (let s := { State.reset with load := { noLoad with busy := true, len := 4096 } }; stagingHeld s (logBase s) 64 = true) := by
  unfold Allowed; decide +kernel
theorem wit_StewardsRun : onlyCmd 0 0 ((0 : Word) ||| 1) ∧ onlyCmd 5 1 ((0 : Word) ||| 2) ∧ onlyCmd 0 2 ((0 : Word) ||| 4) ∧
    onlyCmd 2 3 ((0 : Word) ||| 8) ∧ onlyCmd 5 6 ((0x100 : Word) ||| 0x40) ∧ onlyCmd 5 7 ((0 : Word) ||| 0x80) ∧ ((0 : Word) ||| 0x10).toNat % 16 = 0 ∧
    (stw []).swState 0 = swRunning ∧ (stw [(F.STW_STATUS_STATE, 1, swStopped)]).swState 1 = swStopped ∧
    (stw [(F.STW_STATUS_STATE, 1, swCrashed), (F.STW_CTRL_AUTO, 1, 1)]).swState 1 = swCrashed ∧
    (stw [(F.STW_STATUS_STATE, 1, swCrashed), (F.STW_CTRL_AUTO, 1, 1)]).fbit F.STW_CTRL_AUTO 1 = true ∧ actBusy (stw []) = false ∧
    (stw []).fget F.STW_STAGE_STATUS_STATE 0 ≠ 2 ∧
    (let s := stw [(F.STW_STAGE_STATUS_STATE, 0, 2), (F.STW_STAGE_STATUS_ROLE, 0, 1)]
     actBusy s = false ∧ s.fget F.STW_STAGE_STATUS_STATE 0 = 2 ∧ s.fget F.STW_STAGE_STATUS_ROLE 0 = nativeRole 2 ∧
      s.fget F.STW_STAGE_STATUS_ROLE 0 ≠ nativeRole 3 ∧ s.fbit F.PWR_STATUS_EMERGENCY 0 = false ∧
      (s.fset F.PWR_STATUS_EMERGENCY 0 1).fbit F.PWR_STATUS_EMERGENCY 0 = true) ∧
    (stw [(F.STW_ACT_STATUS_STATE, 0, 1), (F.STW_ACT_STATUS_TARGET, 0, 2)]).fget F.STW_ACT_STATUS_STATE 0 = 1 ∧
    (stw [(F.STW_ACT_STATUS_STATE, 0, stActivating)]).fget F.STW_ACT_STATUS_STATE 0 = stActivating ∧
    mayTake (stw [(F.STW_STATUS_STATE, 1, swStopped)]) (.steward 5) (bits ((0x100 : Word) ||| 0x40).toNat 8 3) = true ∧
    (let s := { stw [(F.STW_STATUS_STATE, 1, swHeld)] with stewards := [(5, { noStw with taken := some 1 })] }
     (s.stw 5).taken = some 1 ∧ s.swState 5 = swRunning) ∧ ((stw []).stw 5).taken = none := by
  unfold onlyCmd; decide +kernel

/-! Faults, power, resets and start-up. -/

theorem wit_HandshakesTimeOut : (let s := walking flightG [computed]
      s.fbit F.PWR_STATUS_GATED 0 = false ∧ s.excluded 0 = false ∧ (∀ st ∈ [Strm.F, .B, .U], ∀ u ∈ ((s.core 0).stream st).units, u.replay = false) ∧
      s.fget F.CORE_FLT_COUNTS_WINDOW 0 + 1 < s.fget F.FLT_CTRL_CORE_LIMIT 0 ∧ s.isTraining 0 = true ∧ s.vstate 0 = vsComputing ∧
      (s.panel 0).fault = false ∧ 0 ∈ s.coresOf 0) ∧ (with_ [(F.PWR_STATUS_GATED, 0, 1)]).fbit F.PWR_STATUS_GATED 0 = true ∧
    (({ State.reset with cores := [(0, { noCore with windowOpen := true })] } : State).core 0).windowOpen = true := by decide +kernel
theorem wit_PowerIsControlled : (let s := with_ [(F.PWR_VCORE_CMD0, 0, 10)]; emergency s = false ∧ vcmd s 0 ≠ 0xFF ∧ vcmd s 0 < vtarget s 0) ∧
    State.reset.fbit F.PWR_STATUS_TRIP 0 = false ∧ State.reset.fbit F.PWR_STATUS_CRIT 0 = false ∧ 115 ≤ tjMax (putTemp State.reset.power.temps 3 115) ∧
    tjMax (putTemp State.reset.power.temps 3 107) < 108 ∧ State.reset.fbit F.PWR_STATUS_ALERT 0 = false ∧
    (let s := with_ [(F.PWR_STATUS_EMERGENCY, 0, 1), (F.STW_ACT_STATUS_STATE, 0, 1)]
     emergency s = true ∧ alarm s = false ∧ s.fget F.STW_ACT_STATUS_STATE 0 = 1) := by decide +kernel

theorem wit_DeviceStarts : (let s := lnk [(F.HUB_BOOT_STATUS_PHASE, 0, 4)]
      forThis s 0 (pk 0x24 0 0 0 true false) ∧ s.fget F.HUB_BOOT_STATUS_PHASE 0 = 4 ∧ (asTaken s 0 (pk 0x24 0 0 0 true false)).host = true ∧
      forThis s 0 (pk 0x24 0 0 0 false false) ∧ (asTaken s 0 (pk 0x24 0 0 0 false false)).src.toNat ≠ s.masterId) ∧
    (forThis (lnk []) 0 (pk 0x24 0 0 0 true false) ∧ (lnk []).fget F.HUB_BOOT_STATUS_PHASE 0 ≠ 4) ∧ emergency State.reset = false ∧
    emergency (with_ [(F.PWR_STATUS_EMERGENCY, 0, 1)]) = true ∧ State.reset.pins.resetLow = true ∧
    ({ State.reset with pins := ⟨false, false, false, 0, 0⟩ } : State).pins.resetLow = false ∧ State.reset.fget F.HUB_BOOT_STATUS_PHASE 0 = 0 ∧
    (let s := with_ [(F.HUB_BOOT_STATUS_PHASE, 0, 1)]
     s.fget F.HUB_BOOT_STATUS_PHASE 0 = 1 ∧ s.modrec.factoryOk = true ∧ s.modrec.identityOk = true) ∧
    (let s := with_ [(F.HUB_BOOT_STATUS_PHASE, 0, 2)]
     2 ≤ s.fget F.HUB_BOOT_STATUS_PHASE 0 ∧ s.fget F.HUB_BOOT_STATUS_PHASE 0 ≠ 5 ∧ s.fbit F.HUB_BOOT_STATUS_DRAM_DONE 0 = false ∧
      ∀ p, p < 16 → s.lstate p ≠ lsTraining ∧ s.lstate p ≠ lsRetraining) ∧
    (let s := stw [(F.HUB_BOOT_STATUS_PHASE, 0, 3), (F.HUB_BOOT_STATUS_DRAM_DONE, 0, 1)]
     s.fget F.HUB_BOOT_STATUS_PHASE 0 = 3 ∧ s.fbit F.HUB_BOOT_STATUS_DRAM_DONE 0 = true ∧ s.swState 0 = swRunning) := by
  unfold forThis hears accepted; decide +kernel

/-! Security, I3C and JTAG. -/

theorem wit_SecurityCommands : ((0 : Word) ||| 1).toNat % 8 = 1 ∧ ((0 : Word) ||| 2).toNat % 8 = 2 ∧ ((0 : Word) ||| 4).toNat % 8 = 4 ∧
    attBusy State.reset = false ∧ attBusy (with_ [(F.SEC_STATUS_ATTEST, 0, 1)]) = true ∧ fromHost (.link 0 0 true 0) = true ∧ fromHost .jtag = false ∧
    State.reset.rd .PAT_GENERATION 0 = 0 ∧ State.reset.sec.key = none ∧ (with_ [(F.SEC_STATUS_ATTEST, 0, 1)]).fget F.SEC_STATUS_ATTEST 0 = 1 ∧
    ({ State.reset with sec := { noSec with armed := true } } : State).sec.armed = true ∧ State.reset.fget F.SEC_STATUS_REC 0 ≠ 1 ∧
    State.reset.sec.armed = false ∧ (with_ [(F.SEC_STATUS_REC, 0, 1)]).fget F.SEC_STATUS_REC 0 = 1 ∧
    (∀ off ∈ [0x00070000, 0x00070090, 0x00070094], Allowed (.link 0 0 true 0) off State.reset ∧ Allowed (.steward 0) off State.reset) := by
  unfold Allowed; decide +kernel
theorem wit_PortsServe : (leBytes 8 4).length = 8 ∧ leAt (leBytes 8 4) 0 4 < 2 ^ 29 ∧ (leBytes 4 4).length = 4 ∧ leAt (leBytes 4 4) 0 4 < 2 ^ 29 ∧
    ([] : List Byte).length ≠ 8 ∧ ([] : List Byte).length ≠ 4 ∧ attnActive (State.reset.setBit .PWR_EVENT 0 0) ≠ 0 ∧
    State.reset.fbit F.SEC_STATUS_DEBUG 0 = false ∧ (with_ [(F.SEC_STATUS_DEBUG, 0, 1)]).fbit F.SEC_STATUS_DEBUG 0 = true ∧
    1055 < drCore (BitVec.ofNat 128 (1056 * 4)) ∧ drCore 0 ≤ 1055 ∧ drAddr 0 < 98304 ∧ storeInUse (with_ [(F.SEC_STATUS_DEBUG, 0, 1)]) 0 = false := by
  decide +kernel

end Sys2Proof.Tests
end

section
/-! SUPPORT. The frame of every command in one mask: the registers of mayWrite and the parts of mayTouch (Safety.lean). -/
namespace Sys2Proof.Laws
open Sys2Proof Sys2Proof.Machine

theorem Within.or_right {a b : Nat} (h : Within a b) (c : Nat) : Within (a ||| c) (b ||| c) := by
  unfold Within at *
  rw [Nat.or_assoc, ← Nat.or_assoc c b c, Nat.or_comm c b, Nat.or_assoc b c c, Nat.or_self, ← Nat.or_assoc, h]

theorem Within.or_left {m M : Nat} (h : Within m M) (c : Nat) : Within m (c ||| M) := by
  unfold Within at *
  rw [← Nat.or_assoc, Nat.or_comm m c, Nat.or_assoc, h]

theorem regMask_within (l : List Reg) : Within (regMask l) allRegs := by
  refine Nat.eq_of_testBit_eq fun i => ?_
  rw [Nat.testBit_or]
  cases h : (regMask l).testBit i with
  | false => rw [Bool.false_or]
  | true => rw [regMask_all h, Bool.or_true]

/-- What a command may change, as a mask: the registers of mayWrite, every one when it may carry an access to any register,
and the parts of mayTouch. -/
def frameMask (i : Instr) : Nat :=
  (bif anyRegister i then allRegs else regMask (mayWrite i)) ||| partMask (mayTouch i)

theorem frameMask_within (i : Instr) : Within (frameMask i) (allRegs ||| partMask (mayTouch i)) := by
  refine Within.or_right ?_ _
  cases anyRegister i with
  | false => exact regMask_within _
  | true => exact Nat.or_self _

/-- No command changes more than its mask: each command's own mask, found for what it runs, lies within it. -/
theorem exec_frameMask (i : Instr) (s : State) : OutKeeps (frameMask i) s (exec i s) := by
  cases i
  all_goals apply OutKeeps.mono
  case registerWrite.a => exact execRegisterWrite_keeps
  case lowWordRead.a => exact execLowWordRead_keeps
  case rcRead.a => exact execRcRead_keeps
  case corePark.a => exact execCorePark_keeps
  case dieBeatWindowEnd.a => exact execDieBeatWindowEnd_keeps
  case driftCheck.a => exact execDriftCheck_keeps
  case load.a => exact execLoad_keeps
  case loadPartial.a => exact execLoadPartial_keeps
  case abort.a => exact execAbort_keeps
  case digestChecked.a => exact execDigestChecked_keeps
  case signatureChecked.a => exact execSignatureChecked_keeps
  case structuralChecksDone.a => exact execStructuralChecksDone_keeps
  case loadApplied.a => exact execLoadApplied_keeps
  case panelStop.a => exact execPanelStop_keeps
  case panelStart.a => exact execPanelStart_keeps
  case panelForce.a => exact execPanelForce_keeps
  case panelStarted.a => exact execPanelStarted_keeps
  case panelDrained.a => exact execPanelDrained_keeps
  case panelDrainTimeout.a => exact execPanelDrainTimeout_keeps
  case matmulG.a => exact execMatmulG_keeps
  case matmulT.a => exact execMatmulT_keeps
  case matmulTdx.a => exact execMatmulTdx_keeps
  case matmulTdw.a => exact execMatmulTdw_keeps
  case skeinFetch.a => exact execSkeinFetch_keeps
  case unitComplete.a => exact execUnitComplete_keeps
  case sliceAccepted.a => exact execSliceAccepted_keeps
  case sliceArrive.a => exact execSliceArrive_keeps
  case sideRecordArrive.a => exact execSideRecordArrive_keeps
  case macroComplete.a => exact execMacroComplete_keeps
  case activationCheckpoint.a => exact execActivationCheckpoint_keeps
  case fp8Activation.a => exact execFp8Activation_keeps
  case gradientConversion.a => exact execGradientConversion_keeps
  case plainConversion.a => exact execPlainConversion_keeps
  case trackerObservation.a => exact execTrackerObservation_keeps
  case seamTrkSelWrite.a => exact execSeamTrkSelWrite_keeps
  case clearCounts.a => exact execClearCounts_keeps
  case resnap.a => exact execResnap_keeps
  case add.a => exact execAdd_keeps
  case sub.a => exact execSub_keeps
  case mul.a => exact execMul_keeps
  case max.a => exact execMax_keeps
  case min.a => exact execMin_keeps
  case scale.a => exact execScale_keeps
  case copy.a => exact execCopy_keeps
  case exp.a => exact execExp_keeps
  case log.a => exact execLog_keeps
  case recip.a => exact execRecip_keeps
  case rsqrt.a => exact execRsqrt_keeps
  case tanh.a => exact execTanh_keeps
  case sigmoid.a => exact execSigmoid_keeps
  case geluT.a => exact execGeluT_keeps
  case geluE.a => exact execGeluE_keeps
  case silu.a => exact execSilu_keeps
  case rowsum.a => exact execRowsum_keeps
  case rowmax.a => exact execRowmax_keeps
  case softmax.a => exact execSoftmax_keeps
  case rmsnorm.a => exact execRmsnorm_keeps
  case layernorm.a => exact execLayernorm_keeps
  case gather.a => exact execGather_keeps
  case scatter.a => exact execScatter_keeps
  case attend.a => exact execAttend_keeps
  case attendBwdDot.a => exact execAttendBwdDot_keeps
  case attendBwdKv.a => exact execAttendBwdKv_keeps
  case attendBwdQ.a => exact execAttendBwdQ_keeps
  case kvAppend.a => exact execKvAppend_keeps
  case attach.a => exact execAttach_keeps
  case releaseChannel.a => exact execReleaseChannel_keeps
  case kvFork.a => exact execKvFork_keeps
  case sliceSend.a => exact execSliceSend_keeps
  case reduce.a => exact execReduce_keeps
  case replicaContribution.a => exact execReplicaContribution_keeps
  case stragglerExpire.a => exact execStragglerExpire_keeps
  case reducedTileArrive.a => exact execReducedTileArrive_keeps
  case update.a => exact execUpdate_keeps
  case materialise.a => exact execMaterialise_keeps
  case updateBand.a => exact execUpdateBand_keeps
  case updateWriteRelease.a => exact execUpdateWriteRelease_keeps
  case settling.a => exact execSettling_keeps
  case voteArrival.a => exact execVoteArrival_keeps
  case voteTimeout.a => exact execVoteTimeout_keeps
  case voteRelease.a => exact execVoteRelease_keeps
  case resume.a => exact execResume_keeps
  case abortDrained.a => exact execAbortDrained_keeps
  case feltRead.a => exact execFeltRead_keeps
  case feltWrite.a => exact execFeltWrite_keeps
  case scrubStep.a => exact execScrubStep_keeps
  case migrationInterval.a => exact execMigrationInterval_keeps
  case pageMoveDone.a => exact execPageMoveDone_keeps
  case ruleStop.a => exact execRuleStop_keeps
  case ruleStart.a => exact execRuleStart_keeps
  case rulesStopped.a => exact execRulesStopped_keeps
  case feltRatioSelWrite.a => exact execFeltRatioSelWrite_keeps
  case marker.a => exact execMarker_keeps
  case waitTimeout.a => exact execWaitTimeout_keeps
  case barrier.a => exact execBarrier_keeps
  case chainArrive.a => exact execChainArrive_keeps
  case chainRelease.a => exact execChainRelease_keeps
  case barrierTimeout.a => exact execBarrierTimeout_keeps
  case markerSetPacket.a => exact execMarkerSetPacket_keeps
  case fenceSetApply.a => exact execFenceSetApply_keeps
  case mkForceKey.a => exact execMkForceKey_keeps
  case forcedSet.a => exact execForcedSet_keeps
  case forcedClear.a => exact execForcedClear_keeps
  case forceArmExpire.a => exact execForceArmExpire_keeps
  case mkEpStateClear.a => exact execMkEpStateClear_keeps
  case queueRead.a => exact execQueueRead_keeps
  case queueReadSatisfied.a => exact execQueueReadSatisfied_keeps
  case corePush.a => exact execCorePush_keeps
  case queueMark.a => exact execQueueMark_keeps
  case queueRewind.a => exact execQueueRewind_keeps
  case queueRelease.a => exact execQueueRelease_keeps
  case land.a => exact execLand_keeps
  case stalledPushAccept.a => exact execStalledPushAccept_keeps
  case stewardPush.a => exact execStewardPush_keeps
  case pushTimeout.a => exact execPushTimeout_keeps
  case advance.a => exact execAdvance_keeps
  case mark.a => exact execMark_keeps
  case rewind.a => exact execRewind_keeps
  case release.a => exact execRelease_keeps
  case queueStop.a => exact execQueueStop_keeps
  case queueStart.a => exact execQueueStart_keeps
  case queueClear.a => exact execQueueClear_keeps
  case queueStopped.a => exact execQueueStopped_keeps
  case flitReceive.a => exact execFlitReceive_keeps
  case linkSilenceTimeout.a => exact execLinkSilenceTimeout_keeps
  case retrainDone.a => exact execRetrainDone_keeps
  case retrainTimeout.a => exact execRetrainTimeout_keeps
  case laneLoss.a => exact execLaneLoss_keeps
  case degradeWindowEnd.a => exact execDegradeWindowEnd_keeps
  case trainingDone.a => exact execTrainingDone_keeps
  case trainingTimeout.a => exact execTrainingTimeout_keeps
  case portStop.a => exact execPortStop_keeps
  case portStart.a => exact execPortStart_keeps
  case portDrained.a => exact execPortDrained_keeps
  case portDrainTimeout.a => exact execPortDrainTimeout_keeps
  case write.a => exact execWrite_keeps
  case writeBulk.a => exact execWriteBulk_keeps
  case read.a => exact execRead_keeps
  case readData.a => exact execReadData_keeps
  case completion.a => exact execCompletion_keeps
  case ctrlWrite.a => exact execCtrlWrite_keeps
  case ctrlRead.a => exact execCtrlRead_keeps
  case ctrlData.a => exact execCtrlData_keeps
  case queuePush.a => exact execQueuePush_keeps
  case packetForward.a => exact execPacketForward_keeps
  case responseTimeout.a => exact execResponseTimeout_keeps
  case routeWrite.a => exact execRouteWrite_keeps
  case discoveryStart.a => exact execDiscoveryStart_keeps
  case discover.a => exact execDiscover_keeps
  case discoverRsp.a => exact execDiscoverRsp_keeps
  case assignId.a => exact execAssignId_keeps
  case attn.a => exact execAttn_keeps
  case warmReset.a => exact execWarmReset_keeps
  case refclkLoss.a => exact execRefclkLoss_keeps
  case refclkReturn.a => exact execRefclkReturn_keeps
  case attnRelease.a => exact execAttnRelease_keeps
  case attnMessage.a => exact execAttnMessage_keeps
  case attnMessageRepeat.a => exact execAttnMessageRepeat_keeps
  case clmClaim.a => exact execClmClaim_keeps
  case clmComplete.a => exact execClmComplete_keeps
  case releaseAll.a => exact execReleaseAll_keeps
  case vecSoft.a => exact execVecSoft_keeps
  case handlerDispatch.a => exact execHandlerDispatch_keeps
  case stwSignal.a => exact execStwSignal_keeps
  case stageWrite.a => exact execStageWrite_keeps
  case verify.a => exact execVerify_keeps
  case verifyDone.a => exact execVerifyDone_keeps
  case stewardStop.a => exact execStewardStop_keeps
  case stewardStart.a => exact execStewardStart_keeps
  case stewardRestart.a => exact execStewardRestart_keeps
  case activate.a => exact execActivate_keeps
  case cancel.a => exact execCancel_keeps
  case take.a => exact execTake_keeps
  case giveBack.a => exact execGiveBack_keeps
  case activationDone.a => exact execActivationDone_keeps
  case emergencyTimeout.a => exact execEmergencyTimeout_keeps
  case stwKick.a _ _ w => exact execStwKick_keeps (_w := w)
  case wdog.a => exact execWdog_keeps
  case fatalTrap.a => exact execFatalTrap_keeps
  case stewardEcc.a => exact execStewardEcc_keeps
  case autoRestart.a => exact execAutoRestart_keeps
  case stwRecPop.a _ _ w => exact execStwRecPop_keeps (_w := w)
  case stwRecAck.a _ _ w => exact execStwRecAck_keeps (_w := w)
  case stwLogSubmitId.a => exact execStwLogSubmitId_keeps
  case handshakeTimeout.a => exact execHandshakeTimeout_keeps
  case autoRemapStart.a => exact execAutoRemapStart_keeps
  case powerInterval.a => exact execPowerInterval_keeps
  case vcoreRampStep.a => exact execVcoreRampStep_keeps
  case vrStatusPoll.a => exact execVrStatusPoll_keeps
  case pmbusTransaction.a r c _ => exact execPmbusTransaction_keeps (_reg := r) (_cmd := c)
  case thermalReport.a => exact execThermalReport_keeps
  case pwrAlertAssert.a => exact execPwrAlertAssert_keeps
  case pwrAlertDeassert.a => exact execPwrAlertDeassert_keeps
  case gateLift.a => exact execGateLift_keeps
  case emergencyEnd.a => exact execEmergencyEnd_keeps
  case coldReset.a => exact execColdReset_keeps
  case pinGlitch.a => exact execPinGlitch_keeps
  case strapChange.a m p => exact execStrapChange_keeps (_master := m) (_slot := p)
  case vauxLoss.a => exact execVauxLoss_keeps
  case romDone.a => exact execRomDone_keeps
  case recordDone.a => exact execRecordDone_keeps
  case dramTrainingDone.a => exact execDramTrainingDone_keeps
  case linksDone.a => exact execLinksDone_keeps
  case ready.a => exact execReady_keeps
  case attest.a => exact execAttest_keeps
  case attestDone.a => exact execAttestDone_keeps
  case registerKey.a => exact execRegisterKey_keeps
  case debugEn.a => exact execDebugEn_keeps
  case secRecKey.a => exact execSecRecKey_keeps
  case recWrite.a => exact execRecWrite_keeps
  case recUnlockExpire.a => exact execRecUnlockExpire_keeps
  case recWriteDone.a => exact execRecWriteDone_keeps
  case i3cWrite.a => exact execI3cWrite_keeps
  case i3cRead.a => exact execI3cRead_keeps
  case entdaa.a => exact execEntdaa_keeps
  case setdasa.a => exact execSetdasa_keeps
  case rstdaa.a => exact execRstdaa_keeps
  case enec.a => exact execEnec_keeps
  case disec.a => exact execDisec_keeps
  case getpid.a => exact execGetpid_keeps
  case getbcr.a => exact execGetbcr_keeps
  case getdcr.a => exact execGetdcr_keeps
  case getstatus.a => exact execGetstatus_keeps
  case getmwl.a => exact execGetmwl_keeps
  case getmrl.a => exact execGetmrl_keeps
  case bypass.a => exact execBypass_keeps
  case idcode.a => exact execIdcode_keeps
  case samplePreload.a => exact execSamplePreload_keeps
  case extest.a => exact execExtest_keeps
  case highz.a => exact execHighz_keeps
  case debugControlRead.a => exact execDebugControlRead_keeps
  case debugControlWrite.a => exact execDebugControlWrite_keeps
  case debugLsRead.a => exact execDebugLsRead_keeps
  case debugLsWrite.a => exact execDebugLsWrite_keeps
  case tapReset.a => exact execTapReset_keeps
  case resetNRelease.a => exact execResetNRelease_keeps
  case coreFaultWindowExpire.a => exact execCoreFaultWindowExpire_keeps
  all_goals
    simp only [frameMask, anyRegister, mayWrite, mayTouch]
    decide

/-- A command that may not touch any register it likes writes only those of mayWrite. -/
theorem exec_frame {i : Instr} {s t : State} (h : exec i s = .next t) (ha : anyRegister i = false) :
    Frame (mayWrite i) s t := by
  refine ((exec_frameMask i s).frames h (ps := mayTouch i) ?_).1
  rw [frameMask, ha]
  exact Nat.or_self _

/-- Every command changes only the parts of mayTouch. -/
theorem exec_frameParts {i : Instr} {s t : State} (h : exec i s = .next t) : FrameParts (mayTouch i) s t := by
  obtain ⟨u, e, k⟩ := exec_frameMask i s
  rw [h] at e
  injection e with e
  exact e ▸ parts_settle (k.parts (frameMask_within i))

/-- Settles O8, from the mask of each command. -/
theorem commandFrameRegisters : Obligations.CommandFrameRegisters := by
  intro i s t h ha
  exact exec_frame h ha

end Sys2Proof.Laws
end

section
/-! SUPPORT. The reset state (R15). -/
namespace Sys2Proof.Laws
open Sys2Proof Sys2Proof.Machine

/-- After reset every copy of a register but CORE_ID holds the register's reset word. -/
theorem rd_reset {r : Reg} (h : r.idx ≠ Reg.CORE_ID.idx) (i : Nat) :
    State.reset.rd r i = BitVec.ofNat 32 (resetWordAt r.idx) := by
  have hk : regKey r i % 512 = r.idx := by
    have := idx_lt r
    unfold regKey
    omega
  show regDefault (regKey r i) = _
  rw [regDefault, hk, if_neg h]

theorem fget_reset {f : Fld} (h : f.reg.idx ≠ Reg.CORE_ID.idx) (i : Nat) :
    State.reset.fget f i = bits (BitVec.ofNat 32 (resetWordAt f.reg.idx)).toNat f.lsb f.width := by
  unfold State.fget
  rw [rd_reset h]

theorem canonical_reset : canonical State.reset := ⟨spWf_nil _, spWf_nil _, spWf_nil _⟩

/-- No group of the attention tree is active after reset. -/
theorem attnActive_reset : attnActive State.reset = 0 := by decide +kernel

/-- Settles O6: the register file and the memories list nothing, and no group of the attention tree is active. -/
theorem resetIsSound : Obligations.ResetIsSound :=
  ⟨canonical_reset, rfl, fun h => absurd attnActive_reset h, rfl⟩

/-- Settles O7: a table that lists nothing reads as its default, and a field reads its register's reset word. -/
theorem resetState : Obligations.ResetState := by
  refine ⟨fun _ _ => rfl, ?phase, rfl, rfl, fun p _ => ⟨?panel, rfl⟩, fun c st _ => ⟨?stream, rfl⟩, fun _ _ => rfl,
    fun _ => ⟨rfl, rfl⟩⟩
  case phase => exact fget_reset (by decide) 0
  case panel => exact fget_reset (by decide) p
  case stream => exact fget_reset (by decide) (strmIx c st)

end Sys2Proof.Laws
end

section
/-! SUPPORT. A write of control space that an agent may make: what counts as out of range, and what an ordinary register
takes (R10, R11, R469). -/
namespace Sys2Proof.Laws
open Sys2Proof Sys2Proof.Machine

theorem within_regMask_cons {m : Nat} {l : List Reg} (r : Reg) (h : Within m (regMask l)) : Within m (regMask (r :: l)) :=
  h.or_left (1 <<< r.idx)

theorem regMask_cons_self (r : Reg) (l : List Reg) : (regMask (r :: l)).testBit r.idx = true := by
  show (1 <<< r.idx ||| regMask l).testBit r.idx = true
  rw [Nat.testBit_or, Nat.one_shiftLeft, Nat.testBit_two_pow_self, Bool.true_or]

/-- What writes only some registers leaves the others and every part, after ATTN_N has been driven too. -/
theorem settle_frame_regs {rs : List Reg} {s u : State} (k : Keeps (regMask rs) s u) :
    Frame rs s (settle u) ∧ FrameParts [] s (settle u) :=
  settle_frames k (by unfold Within partMask; rw [List.foldr_nil, Nat.or_zero, Nat.or_self])

theorem Keeps.rd_of_notMem {rs : List Reg} {s t : State} (k : Keeps (regMask rs) s t) {r : Reg} (h : r ∉ rs) (i : Nat) :
    t.rd r i = s.rd r i :=
  (settle_frame_regs k).1 r h i

/-! Out-of-range writes. -/

/-- An allowed write that is narrow or not aligned counts as out of range (R10). -/
theorem ctrlStore_narrow {a : Agent} {off width : Nat} {w hw : Word} {s : State} (h : Allowed a off s)
    (hn : width ≠ 32 ∨ off % 4 ≠ 0) : s.ctrlStore a off w width hw = (woken s off).outOfRange a off := by
  unfold State.ctrlStore
  rw [access_allowed h, if_pos (by simpa only [Bool.or_eq_true, decide_eq_true_eq] using hn)]

theorem agentCode_lt (a : Agent) : agentCode a < 8 := by
  unfold agentCode
  split <;> decide

theorem outOfRange_range (s : State) (a : Agent) (off : Nat) :
    (s.outOfRange a off).fget F.HUB_INCHK_COUNTS_RANGE 0 =
      min (2 ^ F.HUB_INCHK_COUNTS_RANGE.width - 1) (s.fget F.HUB_INCHK_COUNTS_RANGE 0 + 1) := by
  unfold State.outOfRange
  rw [State_inchkEvt_keeps.fget (by decide), fget_fset_ne (by decide) (.inl (by decide)),
    fget_fset_ne (by decide) (.inl (by decide)), fget_finc_same (by decide)]

theorem outOfRange_offset (s : State) (a : Agent) {off : Nat} (h : off < 2 ^ 29) :
    (s.outOfRange a off).fget F.HUB_INCHK_LAST_OFFSET 0 = off := by
  unfold State.outOfRange
  rw [State_inchkEvt_keeps.fget (by decide), fget_fset_ne (by decide) (.inl (by decide)), fget_fset_same (by decide)]
  exact Nat.mod_eq_of_lt h

theorem outOfRange_agent (s : State) (a : Agent) (off : Nat) :
    (s.outOfRange a off).fget F.HUB_INCHK_LAST_AGENT 0 = agentCode a := by
  unfold State.outOfRange
  rw [State_inchkEvt_keeps.fget (by decide), fget_fset_same (by decide)]
  exact Nat.mod_eq_of_lt (agentCode_lt a)

/-- A device event sets its bit; the raise of its source leaves it. -/
theorem devEvt_bit {s : State} {r en : Reg} {i b src : Nat} (hb : b < 32) (hr : r ∉ claimRegs) :
    bitOf ((s.devEvt r en i b src).rd r i).toNat b = true := by
  have hk : Keeps (regMask claimRegs) (s.setBit r i b) (s.devEvt r en i b src) :=
    Keeps.ite (State_raise_keeps.mono (by decide)) Keeps.refl
  rw [hk.rd_of_notMem hr]
  exact setBit_bit hb

theorem outOfRange_event (s : State) (a : Agent) (off : Nat) :
    bitOf ((s.outOfRange a off).rd .HUB_INCHK_EVENT 0).toNat 0 = true :=
  devEvt_bit (by decide) (by decide)

/-- Settles O10: the write ends in outOfRange of the woken state. -/
theorem narrowOrUnalignedWrite : Obligations.NarrowOrUnalignedWrite := by
  intro a off w hw width s ha hn
  have hu : s.ctrlStore a off.toNat w width hw = (woken s off.toNat).outOfRange a off.toNat := ctrlStore_narrow ha hn
  have hk : Keeps (regMask accessRegs) s ((woken s off.toNat).outOfRange a off.toNat) :=
    (woken_keeps.mono (by decide)).trans (State_outOfRange_keeps.mono (by decide))
  refine ⟨settle ((woken s off.toNat).outOfRange a off.toNat), congrArg done hu, ?_, ?_, ?_, ?_, settle_frame_regs hk⟩
  · rw [fget_settle, outOfRange_range, woken_keeps.fget (by decide)]
  · rw [fget_settle, outOfRange_offset _ _ off.isLt]
  · rw [fget_settle, outOfRange_agent]
  · rw [rd_settle, outOfRange_event]

/-! Ordinary registers. -/

/-- A legal write of an ordinary register goes by the field table. -/
theorem writeReg_ordinary {s : State} {a : Agent} {off : Nat} {r : Reg} {i : Nat} {w hw : Word} (ho : ordinary r = true)
    (hl : illegal s r i w.toNat = false) : writeReg s a off r i w hw = tableWrite s r i w hw := by
  unfold writeReg
  simp only [hl, Bool.false_eq_true, if_false]
  split
  rotate_right
  · rfl
  all_goals exact absurd ho (by decide)

/-- Where no window stands, an allowed whole-word write meets the register at its offset. -/
theorem ctrlStore_register {a : Agent} {off : Nat} {w hw : Word} {s : State} {r : Reg} {i : Nat} (h : Allowed a off s)
    (h4 : off % 4 = 0) (hs : ¬(0x03800000 ≤ off ∧ off < 0x04000000)) (hr : ¬(0x00800000 ≤ off ∧ off < 0x00880000))
    (hat : accessAt off = some (r, i)) : s.ctrlStore a off w 32 hw = writeReg (woken s off) a off r i w hw := by
  unfold State.ctrlStore writeOff
  rw [access_allowed h, if_neg ?word, if_neg (by simpa only [Bool.and_eq_true, decide_eq_true_eq] using hs),
    if_neg (by simpa only [Bool.and_eq_true, decide_eq_true_eq] using hr), hat]
  case word =>
    simp only [ne_eq, not_true_eq_false, h4, decide_false, Bool.or_self, Bool.false_eq_true, not_false_eq_true]

theorem foldl_of_fixed {σ α : Type} {f : σ → α → σ} (h : ∀ s x, f s x = s) (l : List α) (s : σ) : l.foldl f s = s := by
  induction l with
  | nil => rfl
  | cons x l ih => rw [List.foldl_cons, h, ih]

theorem bitOf_zero (b : Nat) : bitOf 0 b = false := by
  unfold bitOf
  rw [Nat.zero_div]
  rfl

theorem hwSets_zero (s : State) (r : Reg) (i : Nat) : hwSets s r i 0 = s := by
  refine foldl_of_fixed (fun s b => if_neg ?_) _ s
  rw [show (0 : Word).toNat = 0 from rfl, bitOf_zero, Bool.false_and]
  exact Bool.false_ne_true

/-- The raises of enables write the registers of vectors and sources only. -/
theorem raiseEnabled_vectorRegs {s : State} {r : Reg} {i old : Nat} :
    Keeps (regMask vectorRegs) s (raiseEnabled s r i old) :=
  raiseEnabled_keeps.mono (by decide)

theorem woken_vectorRegs {s : State} {off : Nat} : Keeps (regMask vectorRegs) s (woken s off) :=
  woken_keeps.mono (by decide)

/-- A write by the field table with no event in its instant writes its register and raises enables. -/
theorem tableWrite_zero (s : State) (r : Reg) (i : Nat) (w : Word) :
    tableWrite s r i w 0 = raiseEnabled (plainWrite s r i (maskWrite r w)) r i (s.rd r i).toNat := by
  unfold tableWrite
  rw [hwSets_zero]

theorem tableWrite_zero_fget {s : State} {r : Reg} {i : Nat} {w : Word} (hv : r ∉ vectorRegs) {f : Fld} (hf : f ∈ r.fields) :
    (tableWrite s r i w 0).fget f i = fieldAfter f (maskWrite r w).toNat (s.fget f i) := by
  rw [tableWrite_zero, ← fget_plainWrite hf]
  unfold State.fget
  rw [raiseEnabled_vectorRegs.rd_of_notMem ((fields_reg hf).1 ▸ hv)]

theorem tableWrite_zero_rd_ne {s : State} {r : Reg} {i j : Nat} {w : Word} (hv : r ∉ vectorRegs) (hj : j ≠ i) :
    (tableWrite s r i w 0).rd r j = s.rd r j := by
  rw [tableWrite_zero, raiseEnabled_vectorRegs.rd_of_notMem hv]
  exact rd_wr_ne _ _ (.inr hj.symm)

theorem tableWrite_zero_keeps {s : State} {r : Reg} {i : Nat} {w : Word} :
    Keeps (regMask (r :: vectorRegs)) s (tableWrite s r i w 0) := by
  rw [tableWrite_zero]
  exact (State_wr_keeps (regMask_cons_self r _)).trans (raiseEnabled_vectorRegs.mono (within_regMask_cons r (Nat.or_self _)))

/-- Settles O11: the wake and the raises of enables write registers of vectors and sources only, and the plain write
between them gives each field what its access code says. -/
theorem registerWriteTakesFields : Obligations.RegisterWriteTakesFields := by
  intro a off w r i s ha h4 hs hr hat ho hv hl
  have hu : s.ctrlStore a off.toNat w 32 0 = tableWrite (woken s off.toNat) r i w 0 :=
    (ctrlStore_register ha h4 hs hr hat).trans (writeReg_ordinary ho hl)
  have hw : ∀ j, (woken s off.toNat).rd r j = s.rd r j := woken_vectorRegs.rd_of_notMem hv
  have hk : Keeps (regMask (r :: vectorRegs)) s (tableWrite (woken s off.toNat) r i w 0) :=
    (woken_vectorRegs.mono (within_regMask_cons r (Nat.or_self _))).trans tableWrite_zero_keeps
  refine ⟨settle (tableWrite (woken s off.toNat) r i w 0), congrArg done hu, fun f hf => ?fields, fun j hj => ?copies,
    settle_frame_regs hk⟩
  case fields =>
    rw [fget_settle, tableWrite_zero_fget hv hf]
    unfold State.fget
    rw [(fields_reg hf).1, hw]
  case copies =>
    rw [rd_settle, tableWrite_zero_rd_ne hv hj, hw]

end Sys2Proof.Laws
end

section
/-! SUPPORT. Reads of control space: the latch of a high word (R9) and the clearing of counters (R13). -/
namespace Sys2Proof.Laws
open Sys2Proof Sys2Proof.Machine

/-! Latches. -/

/-- Only the latches tell what a requester has latched. -/
theorem latchOf_congr {s t : State} (h : t.latches = s.latches) (a : Agent) (r : Reg) (i : Nat) :
    latchOf t a r i = latchOf s a r i := by
  unfold latchOf
  rw [h]

theorem latchOf_setLatch_same (s : State) (a : Agent) (r : Reg) (i : Nat) (w : Word) :
    latchOf (setLatch s a r i w) a r i = some w := by
  unfold latchOf setLatch
  have hn : ∀ x ∈ s.latches.filter fun x => !(x.1 == requester a && x.2.1 == regKey r i),
      ¬(x.1 == requester a && x.2.1 == regKey r i) = true := fun x hx => by
    rw [Bool.not_eq_true, ← Bool.not_eq_true']
    exact (List.mem_filter.mp hx).2
  rw [List.find?_append, List.find?_eq_none.mpr hn, List.find?_singleton, beq_self_eq_true, beq_self_eq_true]
  rfl

/-- A search finds the same when what it looks for is neither taken out nor put in. -/
theorem find?_filter_append {α : Type} {p q : α → Bool} {x : α} (h : ∀ y, p y = true → q y = false) (hx : p x = false)
    (l : List α) : ((l.filter fun y => !q y) ++ [x]).find? p = l.find? p := by
  have hp : (fun y => decide ((!q y) = true ∧ p y = true)) = p := by
    funext y
    cases hy : p y with
    | false => simp only [Bool.false_eq_true, and_false, decide_false]
    | true => simp only [h y hy, Bool.not_false, and_self, decide_true]
  rw [List.find?_append, List.find?_filter, hp, List.find?_singleton, hx]
  exact Option.or_none

/-- A requester's latch does not depend on what another one latches. -/
theorem latchOf_setLatch_other (s : State) {a b : Agent} (h : requester b ≠ requester a) (q r : Reg) (j i : Nat) (w : Word) :
    latchOf (setLatch s b q j w) a r i = latchOf s a r i := by
  unfold latchOf setLatch
  refine congrArg _ (find?_filter_append (fun x hx => ?_) ?_ s.latches)
  · obtain ⟨hx, -⟩ := Bool.and_eq_true .. |>.mp hx
    rw [beq_iff_eq.mp hx, beq_false_of_ne h.symm, Bool.false_and]
  · rw [beq_false_of_ne h, Bool.false_and]

/-! A read of a register. -/

theorem highOf_ne_claim {r h : Reg} (e : highOf r = some h) : r ≠ .CLM_CLAIM := by
  rintro rfl
  exact absurd e nofun

theorem isHigh_of_highOf {r h : Reg} (e : highOf r = some h) : isHigh r = false := by
  unfold highOf at e
  split at e
  iterate 4 rfl
  exact absurd e nofun

theorem highOf_of_isHigh {r : Reg} (e : isHigh r = true) : highOf r = none ∧ r ≠ .CLM_CLAIM := by
  simp only [isHigh, Bool.or_eq_true, beq_iff_eq] at e
  rcases e with ((rfl | rfl) | rfl) | rfl <;> exact ⟨rfl, nofun⟩

theorem rcClear_latches (s : State) (r : Reg) (i : Nat) (inc : Word) : (rcClear s r i inc).latches = s.latches :=
  rcClear_keeps.latches (by decide)

theorem woken_latches (s : State) (off : Nat) : (woken s off).latches = s.latches :=
  woken_keeps.latches (by decide)

/-- A read that is not of a claim returns the view of its register, for a high word the latched value if there is one. -/
theorem readReg_word {s : State} {a : Agent} {r : Reg} {i : Nat} {inc : Word} (h : r ≠ .CLM_CLAIM) :
    (readReg s a r i inc).2 = if isHigh r then (latchOf s a r i).getD (viewReg s r i) else viewReg s r i := by
  unfold readReg
  rw [if_neg h]

/-- A read of the low word latches the high one. -/
theorem readReg_latches_low {s : State} {a : Agent} {r h : Reg} {i : Nat} {inc : Word} (e : highOf r = some h) :
    (readReg s a r i inc).1.latches = (setLatch s a h i (viewReg s h i)).latches := by
  unfold readReg
  rw [if_neg (highOf_ne_claim e), e]
  dsimp only
  split <;> exact rcClear_latches _ _ _ _

/-- A read of any other register latches nothing. -/
theorem readReg_latches_other {s : State} {a : Agent} {r : Reg} {i : Nat} {inc : Word} (e : highOf r = none) :
    (readReg s a r i inc).1.latches = s.latches := by
  unfold readReg
  split
  · exact claimRead_keeps.latches (by decide)
  · rw [e]
    dsimp only
    split <;> exact rcClear_latches _ _ _ _

/-- The state after an allowed read of a register, and the word it returns. -/
theorem ctrlLoad_register {a : Agent} {off : Nat} {inc : Word} {s : State} {r : Reg} {i : Nat} (h : ReadAllowed a off s)
    (h4 : off % 4 = 0) (hr : ¬(0x00800000 ≤ off ∧ off < 0x00880000)) (hat : accessAt off = some (r, i)) :
    s.ctrlLoad a off inc =
      { woken (readReg s a r i inc).1 off with readback := (readReg s a r i inc).2 } := by
  have hu : readOff s a off inc = readReg s a r i inc := by
    unfold readOff
    rw [if_neg (not_not_intro h4), if_neg (by simpa only [Bool.and_eq_true, decide_eq_true_eq] using hr)]
    simp only [hat]
  unfold State.ctrlLoad
  rw [readInto_allowed h, hu]

theorem wakeAt_latches (off : Nat) (x : State × Word) : (wakeAt off x).1.latches = x.1.latches := by
  unfold wakeAt
  split
  · exact State_wake_keeps.latches (by decide)
  · rfl

/-- What an allowed read of a register answers: its word, the latches it leaves, and the registers after the wake. -/
theorem exec_rcRead_register {a : Agent} {off : BitVec 29} {s : State} {r : Reg} {i : Nat} (inc : Word)
    (h : ReadAllowed a off.toNat s) (h4 : off.toNat % 4 = 0) (hr : ¬(0x00800000 ≤ off.toNat ∧ off.toNat < 0x00880000))
    (hat : accessAt off.toNat = some (r, i)) :
    ∃ t, exec (.rcRead a off inc) s = .next t ∧ t.readback = (readReg s a r i inc).2 ∧
      t.latches = (readReg s a r i inc).1.latches ∧ ∀ q j, t.rd q j = (woken (readReg s a r i inc).1 off.toNat).rd q j :=
  ⟨settle _, congrArg done (ctrlLoad_register h h4 hr hat), rfl, woken_latches _ _, fun _ _ => rfl⟩

/-- An access leaves the latches as they are or as its read does. -/
theorem readAccess_latches (s : State) (a : Agent) (off : Nat) (f : State → State × Word) :
    (s.readAccess a off f).1.latches = s.latches ∨ (s.readAccess a off f).1.latches = (f s).1.latches := by
  rw [← wakeAt_latches off (f s)]
  unfold State.readAccess
  by_cases h1 : (s.bootHalted && !(a == .i3c || decide (off < 0x01000000))) = true
  · rw [if_pos h1]
    exact .inl rfl
  by_cases h2 : (decide (a = .jtag) && !s.fbit F.SEC_STATUS_DEBUG 0) = true
  · rw [if_neg h1, if_pos h2]
    exact .inl rfl
  rw [if_neg h1, if_neg h2]
  cases a with
  | core c =>
    dsimp only
    split
    · exact .inr rfl
    · exact .inl (State_outOfRange_keeps.latches (by decide))
  | i3c =>
    dsimp only
    split
    · exact .inr rfl
    · exact .inl rfl
  | link _ _ _ _ => exact .inr rfl
  | steward _ => exact .inr rfl
  | jtag => exact .inr rfl
theorem latchOf_readReg_other (s : State) {a b : Agent} (h : requester b ≠ requester a) (q r : Reg) (j i : Nat) (inc : Word) :
    latchOf (readReg s b q j inc).1 a r i = latchOf s a r i := by
  cases e : highOf q with
  | none => exact latchOf_congr (readReg_latches_other e) _ _ _
  | some g => exact (latchOf_congr (readReg_latches_low e) _ _ _).trans (latchOf_setLatch_other s h _ _ _ _ _)

theorem latchOf_readOff_other (s : State) {a b : Agent} (h : requester b ≠ requester a) (off : Nat) (inc : Word) (r : Reg)
    (i : Nat) : latchOf (readOff s b off inc).1 a r i = latchOf s a r i := by
  unfold readOff
  split
  · rfl
  split
  · rfl
  split
  · exact latchOf_readReg_other s h _ _ _ _ _
  · rfl

/-- What another requester reads leaves a requester's latch. -/
theorem latchOf_ctrlLoad_other (s : State) {a b : Agent} (h : requester b ≠ requester a) (off : Nat) (inc : Word) (r : Reg)
    (i : Nat) : latchOf (s.ctrlLoad b off inc) a r i = latchOf s a r i := by
  have hr : latchOf (s.ctrlLoad b off inc) a r i = latchOf (s.readAccess b off fun s => readOff s b off inc).1 a r i := rfl
  rw [hr]
  rcases readAccess_latches s b off fun s => readOff s b off inc with e | e
  · exact latchOf_congr e _ _ _
  · exact (latchOf_congr e _ _ _).trans (latchOf_readOff_other s h off inc r i)

/-! Resets and restarts. -/

theorem coldState_latches (s : State) : (coldState s).latches = [] := by
  unfold coldState
  dsimp only
  split
  · exact copyFields_keeps.latches (by decide)
  · rfl

theorem warmState_latches (s : State) : (warmState s).latches = [] := by
  have hk : ∃ t, t.latches = [] ∧ Keeps (allRegs ||| partMask [.sec]) t (warmState s) := by
    unfold warmState
    exact ⟨_, rfl, (((((copyFields_keeps.mono (by decide)).trans (keepTrims_keeps.mono (by decide))).trans
      (masterIdentity_keeps.mono (by decide))).trans (State_fset_keeps (by decide))).trans
      (State_fset_keeps (by decide))).trans (State_measure_keeps.mono (by decide))⟩
  obtain ⟨t, ht, k⟩ := hk
  rw [k.latches (by decide), ht]

/-- A packet for this device itself is dealt with here, once it has been heard. -/
theorem arrive_forThis {s : State} {p : Nat} {q : Packet} (h : forThis s p q) (here : State → Packet → State) :
    arrive s p q here = here (heard s p q) (asTaken s p q) := by
  obtain ⟨⟨⟨hp, hok, hb, hv, ht⟩, hw⟩, hd, hh⟩ := h
  have hf : freeFlits s p (asTaken s p q) = heard s p q := by
    unfold asTaken
    split <;> rfl
  have htyp : (asTaken s p q).typ = q.typ := by
    unfold asTaken
    split <;> rfl
  have hdst : (asTaken s p q).dst = q.dst := by
    unfold asTaken
    split <;> rfl
  have hin : isHere (heard s p q) p (asTaken s p q) = true := by
    show ((asTaken s p q).dst.toNat == s.ownId &&
      !((asTaken s p q).host && s.isMaster && s.fget F.LNK_STATUS_ROLE p != roleHost)) = true
    rw [hdst, hd, beq_self_eq_true, Bool.true_and]
    unfold fromHostPort at hh
    cases hm : s.isMaster with
    | false => rw [Bool.and_false, Bool.false_and, Bool.not_false]
    | true =>
      rw [hm, Bool.true_and] at hh
      exact Bool.not_eq_true' _ |>.mpr hh
  have hde : deliver s p (asTaken s p q) here = here (heard s p q) (asTaken s p q) := by
    unfold deliver
    simp only [hf, htyp, hin, beq_false_of_ne ht, Bool.or_true, Bool.false_eq_true, if_false, if_true]
  unfold arrive
  simp only [hp, hok, hb, hv, Bool.not_true, Bool.false_and, Bool.false_eq_true, if_false]
  exact (if_neg (by rw [← Bool.not_eq_true] at hw; exact hw)).trans hde

theorem idValid_of_forThis {s : State} {p : Nat} {q : Packet} (h : forThis s p q) : s.idValid = true := by
  obtain ⟨⟨⟨-, -, -, hv, -⟩, -⟩, -⟩ := h
  exact hv

theorem warmHere_allowed {s : State} {p : Nat} {q : Packet} (ha : q.host = true ∨ q.src.toNat = s.masterId)
    (hi : s.idValid = true) (hp : s.fget F.HUB_BOOT_STATUS_PHASE 0 = 4) : warmHere p s q = warmState s := by
  have hall : (q.host || (s.idValid && q.src.toNat == s.masterId)) = true := by
    rcases ha with ha | ha
    · rw [ha, Bool.true_or]
    · rw [hi, ha, beq_self_eq_true, Bool.and_self, Bool.or_true]
  unfold warmHere
  simp only [hall, hp, Bool.not_true, Bool.false_or, ne_eq, not_true_eq_false, decide_false, Bool.false_eq_true, if_false]

/-- A command that may not touch the latches leaves them. -/
theorem exec_latches {i : Instr} (h : Part.latches ∉ mayTouch i) (s : State) :
    ∃ t, exec i s = .next t ∧ t.latches = s.latches := by
  obtain ⟨u, e, -⟩ := exec_keeps i s
  exact ⟨settle u, e, exec_frameParts e .latches h⟩

/-- Settles O12: an allowed read is the one of its register, another requester latches under keys of its own, a reset starts with
no latch, and a restart may not touch the latches. -/
theorem lowThenHighRead : Obligations.LowThenHighRead := by
  refine ⟨?low, ?high, ?other, fun s => ⟨_, rfl, (settle_latches _).trans (coldState_latches s)⟩, ?warm, ?restarts⟩
  case low =>
    intro a off r h i s ha h4 hr hat e
    obtain ⟨t, ht, hw, hl, -⟩ := exec_rcRead_register 0 ha h4 hr hat
    refine ⟨t, ht, ?_, ?_⟩
    · rw [hw, readReg_word (highOf_ne_claim e), isHigh_of_highOf e, if_neg Bool.false_ne_true]
    · rw [latchOf_congr (hl.trans (readReg_latches_low e)), latchOf_setLatch_same]
  case high =>
    intro a off h i inc s ha h4 hr hat e
    obtain ⟨hn, hc⟩ := highOf_of_isHigh e
    obtain ⟨t, ht, hw, hl, -⟩ := exec_rcRead_register inc ha h4 hr hat
    rw [readReg_word hc, if_pos e] at hw
    refine ⟨t, ht, fun v hv => ⟨?_, ?_⟩, fun hv => ?_⟩
    · rw [hw, hv, Option.getD_some]
    · rw [latchOf_congr (hl.trans (readReg_latches_other hn)), hv]
    · rw [hw, hv, Option.getD_none]
  case other =>
    intro a b off h i s t hb e
    injection e with e
    exact e ▸ latchOf_ctrlLoad_other s hb _ _ _ _
  case warm =>
    intro p pkt s hf ha hp
    have hv : s.idValid = true := idValid_of_forThis hf
    have hu : arrive s p { pkt with typ := 0x24 } (warmHere p) = warmState (heard s p { pkt with typ := 0x24 }) :=
      (arrive_forThis hf _).trans (warmHere_allowed ha hv hp)
    exact ⟨settle _, congrArg done hu, (settle_latches _).trans (warmState_latches _)⟩
  case restarts =>
    intro a p k c st o chk w s i hi
    refine exec_latches ?_ s
    simp only [List.mem_cons, List.not_mem_nil, or_false] at hi
    rcases hi with rfl | rfl | rfl | rfl | rfl | rfl | rfl | rfl | rfl
    all_goals
      simp only [mayTouch]
      decide

end Sys2Proof.Laws
end

section
/-! SUPPORT. The counters that a read clears (R13), and the wake of the core whose window the read touches (R27). -/
namespace Sys2Proof.Laws
open Sys2Proof Sys2Proof.Machine

/-- Clearing a counter field leaves what arrives in the instant of the read. -/
def clearFld (inc : Word) (i : Nat) (s : State) (f : Fld) : State :=
  if f.acc = .rc then s.fset f i (bits inc.toNat f.lsb f.width) else s

theorem fget_clearFld_same (inc : Word) (i : Nat) (s : State) {f : Fld} (hf : f.acc = .rc) (hb : f.lsb + f.width ≤ 32) :
    (clearFld inc i s f).fget f i = bits inc.toNat f.lsb f.width := by
  unfold clearFld
  rw [if_pos hf, fget_fset_same hb]
  exact Nat.mod_eq_of_lt (Nat.mod_lt _ (Nat.two_pow_pos _))

theorem fget_clearFld_ne (inc : Word) (i : Nat) (s : State) {f g : Fld} (hb : g.lsb + g.width ≤ 32) (h : apart f g = true) :
    (clearFld inc i s f).fget g i = s.fget g i := by
  unfold clearFld
  split
  · exact fget_fset_ne hb (.inl h)
  · rfl

theorem fget_foldl_clearFld_ne (inc : Word) (i : Nat) {g : Fld} (hb : g.lsb + g.width ≤ 32) (l : List Fld)
    (h : ∀ f ∈ l, apart f g = true) (s : State) : (l.foldl (clearFld inc i) s).fget g i = s.fget g i := by
  induction l generalizing s with
  | nil => rfl
  | cons f l ih =>
    rw [List.foldl_cons, ih (fun x hx => h x (List.mem_cons_of_mem _ hx)), fget_clearFld_ne inc i s hb (h f List.mem_cons_self)]

theorem fget_foldl_clearFld (inc : Word) (i : Nat) {g : Fld} (hg : g.acc = .rc) (hb : g.lsb + g.width ≤ 32) (l : List Fld)
    (hp : fieldsSound.pairwiseApart l = true) (h : g ∈ l) (s : State) :
    (l.foldl (clearFld inc i) s).fget g i = bits inc.toNat g.lsb g.width := by
  induction l generalizing s with
  | nil => exact absurd h List.not_mem_nil
  | cons f l ih =>
    unfold fieldsSound.pairwiseApart at hp
    rw [Bool.and_eq_true, List.all_eq_true] at hp
    obtain ⟨hf, hl⟩ := hp
    rw [List.foldl_cons]
    rcases List.mem_cons.mp h with rfl | h
    · have ha : ∀ x ∈ l, apart x g = true := fun x hx => (Bool.and_eq_true _ _ |>.mp (hf x hx)).2
      rw [fget_foldl_clearFld_ne inc i hb l ha, fget_clearFld_same inc i s hg hb]
    · exact ih hl h _

/-- A counter that a read clears holds after it what came in the instant. -/
theorem fget_rcClear {s : State} {r : Reg} {i : Nat} {inc : Word} {f : Fld} (hf : f ∈ r.fields) (hc : f.acc = .rc) :
    (rcClear s r i inc).fget f i = bits inc.toNat f.lsb f.width :=
  fget_foldl_clearFld inc i hc (fields_reg hf).2 r.fields (fields_apart_list r) hf s

theorem rd_clearFld_ne (inc : Word) (i : Nat) (s : State) {f : Fld} {q : Reg} (h : f.reg.idx ≠ q.idx) (j : Nat) :
    (clearFld inc i s f).rd q j = s.rd q j := by
  unfold clearFld
  split
  · exact rd_wr_ne _ _ (.inl h)
  · rfl

theorem rd_foldl_clearFld_ne (inc : Word) (i : Nat) {q : Reg} (l : List Fld) (h : ∀ f ∈ l, f.reg.idx ≠ q.idx) (j : Nat)
    (s : State) : (l.foldl (clearFld inc i) s).rd q j = s.rd q j := by
  induction l generalizing s with
  | nil => rfl
  | cons f l ih =>
    rw [List.foldl_cons, ih (fun x hx => h x (List.mem_cons_of_mem _ hx)), rd_clearFld_ne inc i s (h f List.mem_cons_self)]

theorem rd_rcClear_ne {s : State} {r q : Reg} {i j : Nat} {inc : Word} (h : r.idx ≠ q.idx) :
    (rcClear s r i inc).rd q j = s.rd q j :=
  rd_foldl_clearFld_ne inc i r.fields (fun _ hf => (fields_reg hf).1 ▸ h) j s

theorem ne_of_rc {r q : Reg} (h : ∃ f ∈ r.fields, f.acc = .rc) (hq : (q.fields.all fun f => f.acc != .rc) = true) :
    r ≠ q := by
  rintro rfl
  obtain ⟨f, hf, hc⟩ := h
  exact bne_iff_ne.mp (List.all_eq_true.mp hq f hf) hc

/-- A register with a counter that a read clears is no half of a 64-bit register and no claim. -/
theorem plain_of_rc {r : Reg} (h : ∃ f ∈ r.fields, f.acc = .rc) : highOf r = none ∧ isHigh r = false ∧ r ≠ .CLM_CLAIM := by
  refine ⟨?_, ?_, ne_of_rc h (by decide)⟩
  · unfold highOf
    split
    iterate 4 exact absurd rfl (ne_of_rc h (by decide))
    rfl
  · simp only [isHigh, Bool.or_eq_false_iff, beq_eq_false_iff_ne]
    exact ⟨⟨⟨ne_of_rc h (by decide), ne_of_rc h (by decide)⟩, ne_of_rc h (by decide)⟩, ne_of_rc h (by decide)⟩

/-- A read of such a register returns its view and clears its counters. -/
theorem readReg_rc {s : State} {a : Agent} {r : Reg} {i : Nat} {inc : Word} (h : ∃ f ∈ r.fields, f.acc = .rc) :
    (readReg s a r i inc).2 = viewReg s r i ∧ ∀ q j, (readReg s a r i inc).1.rd q j = (rcClear s r i inc).rd q j := by
  obtain ⟨hn, hh, hc⟩ := plain_of_rc h
  refine ⟨?_, fun q j => ?_⟩
  · rw [readReg_word hc, hh, if_neg Bool.false_ne_true]
  · unfold readReg
    rw [if_neg hc, hn]
    dsimp only
    split <;> rfl

/-- The wake of a core leaves the counts of vectors of every core that has none latched. -/
theorem rd_wake_vecCounts {s : State} {c i : Nat} (h : s.rd .VEC_LATCH i = 0) :
    (s.wake c).rd .VEC_COUNTS i = s.rd .VEC_COUNTS i := by
  unfold State.wake
  dsimp only
  split
  · exact rd_wr_ne _ _ (.inl (by decide))
  next hl =>
    have hi : c ≠ i := by
      rintro rfl
      exact hl (by rw [h]; rfl)
    unfold State.fincw State.fset
    rw [rd_wr_ne _ _ (.inl (by decide)), rd_wr_ne _ _ (.inr hi), rd_wr_ne _ _ (.inl (by decide)),
      rd_wr_ne _ _ (.inl (by decide))]

/-- The wake of the core that a read touches leaves a register with counters as it is: of the four it writes only VEC_COUNTS
has any. -/
theorem rd_woken_rc {s : State} {off : Nat} {r : Reg} {i : Nat} (h : ∃ f ∈ r.fields, f.acc = .rc)
    (hl : r = .VEC_COUNTS → s.rd .VEC_LATCH i = 0) : (woken s off).rd r i = s.rd r i := by
  by_cases hv : r = .VEC_COUNTS
  · subst hv
    unfold woken
    split
    · exact rd_wake_vecCounts (hl rfl)
    · rfl
  · refine woken_keeps.rd_of_notMem ?_ i
    simp only [List.mem_cons, List.not_mem_nil, or_false, not_or]
    exact ⟨ne_of_rc h (by decide), ne_of_rc h (by decide), hv, ne_of_rc h (by decide)⟩

/-- Settles O13: the read clears the counters before the core of its window wakes, and that wake adds nothing. -/
theorem readClearKeepsIncrement : Obligations.ReadClearKeepsIncrement := by
  intro a off inc r i s ha h4 hr hat hc hl
  obtain ⟨t, ht, hw, -, hrd⟩ := exec_rcRead_register inc ha h4 hr hat
  obtain ⟨hv, hcl⟩ := readReg_rc (s := s) (a := a) (i := i) (inc := inc) hc
  refine ⟨t, ht, hw.trans hv, fun f hf hfc => ?_⟩
  have hlatch : r = .VEC_COUNTS → (readReg s a r i inc).1.rd .VEC_LATCH i = 0 := by
    rintro rfl
    rw [hcl, rd_rcClear_ne (by decide), hl rfl]
  have hrf : t.rd f.reg i = (rcClear s r i inc).rd f.reg i := by
    rw [(fields_reg hf).1, hrd, rd_woken_rc hc hlatch, hcl]
  unfold State.fget
  rw [hrf]
  exact fget_rcClear hf hfc

end Sys2Proof.Laws
end

section
/-! SUPPORT. The parts of State that a command may change (R27, R37). -/
namespace Sys2Proof.Laws
open Sys2Proof Sys2Proof.Machine

/-- Settles O9: the mask of each command lies within every register and the parts of mayTouch; driving ATTN_N adds
none. -/
theorem commandFrameParts : Obligations.CommandFrameParts := by
  intro i s t h
  exact exec_frameParts h

end Sys2Proof.Laws
end

section
/-! SUPPORT. The dies: their interval counters in a step with no command (R31), parking of a core (R498), the beats of a
window (R36) and the drift check (R33). -/
namespace Sys2Proof.Laws
open Sys2Proof Sys2Proof.Machine

/-! A loop over dies, seen from one of them. -/

theorem foldl_of_notMem {σ α β : Type} {f : σ → α → σ} {g : σ → β} {d : α} (hne : ∀ s x, x ≠ d → g (f s x) = g s)
    {l : List α} (hl : d ∉ l) (s : σ) : g (l.foldl f s) = g s := by
  induction l generalizing s with
  | nil => rfl
  | cons x l ih =>
    rw [List.foldl_cons, ih (List.not_mem_of_not_mem_cons hl), hne s x (List.ne_of_not_mem_cons hl).symm]

/-- What only the turn of d moves, a loop that takes d once moves as that turn does. -/
theorem foldl_of_mem {σ α β : Type} {f : σ → α → σ} {g : σ → β} {h : β → β} {d : α} (hd : ∀ s, g (f s d) = h (g s))
    (hne : ∀ s x, x ≠ d → g (f s x) = g s) {l : List α} (hn : l.Nodup) (hm : d ∈ l) (s : σ) :
    g (l.foldl f s) = h (g s) := by
  induction l generalizing s with
  | nil => exact absurd hm List.not_mem_nil
  | cons x l ih =>
    obtain ⟨hx, hn⟩ := List.nodup_cons.mp hn
    rw [List.foldl_cons]
    by_cases e : x = d
    · subst e
      rw [foldl_of_notMem hne hx, hd]
    · rw [ih hn ((List.mem_cons.mp hm).resolve_left (Ne.symm e)), hne s x e]

/-! Interval counters. -/

/-- The counter of a die after both its words have been stored. -/
theorem icnt_wr_same (s : State) (d v : Nat) :
    ((s.wr .ICNT_LO d (BitVec.ofNat 32 v)).wr .ICNT_HI d (BitVec.ofNat 32 (v / 2 ^ 32))).icnt d = v % 2 ^ 64 := by
  unfold State.icnt
  rw [rd_wr_same, rd_wr_ne _ _ (.inl (by decide)), rd_wr_same, BitVec.toNat_ofNat, BitVec.toNat_ofNat]
  omega

theorem icnt_wr_ne (s : State) {d e : Nat} (h : e ≠ d) (lo hi : Word) :
    ((s.wr .ICNT_LO e lo).wr .ICNT_HI e hi).icnt d = s.icnt d := by
  unfold State.icnt
  rw [rd_wr_ne _ _ (.inr h), rd_wr_ne _ _ (.inr h), rd_wr_ne _ _ (.inr h), rd_wr_ne _ _ (.inr h)]

/-- What writes neither word of the interval counters leaves them. -/
theorem Keeps.icnt {m : Nat} {s t : State} (k : Keeps m s t) (hl : m.testBit Reg.ICNT_LO.idx = false)
    (hh : m.testBit Reg.ICNT_HI.idx = false) (d : Nat) : t.icnt d = s.icnt d := by
  unfold State.icnt
  rw [k.reg _ _ hl, k.reg _ _ hh]

/-- The counts of stalled slices and of held writes come first and touch no interval counter. -/
theorem icnt_tick (s : State) {d : Nat} (h : d < 11) : s.tick.icnt d = (s.icnt d + 1) % 2 ^ 64 := by
  unfold State.tick
  dsimp only
  rw [foldl_of_mem (g := (State.icnt · d)) (h := fun v => (v + 1) % 2 ^ 64) (fun s => icnt_wr_same s d _)
    (fun s e he => icnt_wr_ne s he _ _) List.nodup_range (List.mem_range.mpr h)]
  refine congrArg (fun v => (v + 1) % 2 ^ 64) (Keeps.icnt (m := regMask [.TW_SLICE_STALL, .FELT_UPD_HOLD]) ?_
    (by decide) (by decide) d)
  refine (Keeps.foldl (fun s c => State_finc_keeps (by decide)) _ s).trans (Keeps.foldl (fun s n => ?_) _ _)
  exact Keeps.ite (State_finc_keeps (by decide)) Keeps.refl

/-- S2, which may take an item, counts no time. -/
theorem icnt_idle (s : State) {d : Nat} (h : d < 11) : s.idle.icnt d = (s.icnt d + 1) % 2 ^ 64 := by
  unfold State.idle
  rw [dispatchItem_keeps.icnt (by decide) (by decide), icnt_tick s h]

theorem step_of_empty {s : State} (h : s.pending = []) : step s = .next (settle s.idle) := by
  unfold step
  rw [h]

/-- Settles O2: the step settles the idle state, whose interval counters have advanced once. -/
theorem emptyQueueTicks : Obligations.EmptyQueueTicks := by
  intro s hs
  refine ⟨settle s.idle, step_of_empty hs, ?_, fun d hd => icnt_idle s hd⟩
  rw [settle_pending, State_idle_keeps.pending, hs]

/-! Parking, windows and the drift check. -/

theorem fget_fset_other (s : State) {f g : Fld} {i j : Nat} (v : Nat) (h : g.reg ≠ f.reg ∨ j ≠ i) :
    (s.fset f i v).fget g j = s.fget g j := by
  unfold State.fget State.fset
  rw [rd_wr_ne _ _ (h.imp (fun hr e => hr (idx_inj e.symm)) Ne.symm)]

/-- A store of one field changes no part of State. -/
theorem fset_parts (s : State) (f : Fld) (i v : Nat) : FrameParts [] s (settle (s.fset f i v)) :=
  (settle_frame_regs (State_fset_keeps (regMask_cons_self f.reg []))).2

theorem exec_corePark {s : State} {c : Fin 1056} (h : mayPark s c = true) :
    exec (.corePark c) s = .next (settle (s.fset F.CORE_STATUS_PARKED c 1)) := by
  show done (if mayPark s c then s.fset F.CORE_STATUS_PARKED c 1 else s) = _
  rw [if_pos h]
  rfl

/-- The drift bit of a die after its own check: as before when the die is within 5 % (R33), else set. -/
theorem drift_driftDie_same (s : State) (d t : Nat) : (driftDie s d t).fbit F.ICNT_STATUS_DRIFT d =
    (s.fbit F.ICNT_STATUS_DRIFT d || !(475000 ≤ t && t ≤ 525000)) := by
  unfold driftDie
  split
  · next h => rw [h, Bool.not_true, Bool.or_false]
  · next h =>
    rw [State_raise_keeps.fbit (by decide), fbit_fset_same (by decide), Bool.eq_false_iff.mpr h,
      Bool.not_false, Bool.or_true]
    rfl

/-- The check of one die leaves the drift bit of every other: the error record and the raise do not write it. -/
theorem drift_driftDie_ne (s : State) {d e : Nat} (t : Nat) (h : e ≠ d) :
    (driftDie s e t).fbit F.ICNT_STATUS_DRIFT d = s.fbit F.ICNT_STATUS_DRIFT d := by
  unfold driftDie
  split
  · rfl
  · rw [State_raise_keeps.fbit (by decide), fbit_fset_ne (by decide) (.inr h)]
    split
    · rfl
    · exact State_errRec_keeps.fbit (by decide)

/-- The whole check takes each die once. -/
theorem drift_driftDies (ticks : List Nat) (s : State) {d : Nat} (h : d < 11) :
    ((List.range 11).foldl (fun s d => driftDie s d (ticks.getD d 500000)) s).fbit F.ICNT_STATUS_DRIFT d =
      (s.fbit F.ICNT_STATUS_DRIFT d || !(475000 ≤ ticks.getD d 500000 && ticks.getD d 500000 ≤ 525000)) := by
  refine foldl_of_mem (g := (State.fbit · F.ICNT_STATUS_DRIFT d)) (h := (· || _)) ?same ?other List.nodup_range
    (List.mem_range.mpr h) s
  case same => exact fun s => drift_driftDie_same s d _
  case other => exact fun s e he => drift_driftDie_ne s _ he

theorem exec_driftCheck_lost {s : State} (ticks : List Nat) (h : s.power.refclkLost = true) :
    exec (.driftCheck ticks) s = .next (settle s) := by
  show execDriftCheck ticks s = _
  unfold execDriftCheck
  rw [if_pos h]
  rfl

theorem exec_driftCheck_running {s : State} (ticks : List Nat) (h : s.power.refclkLost = false) :
    exec (.driftCheck ticks) s =
      .next (settle ((List.range 11).foldl (fun s d => driftDie s d (ticks.getD d 500000)) s)) := by
  show execDriftCheck ticks s = _
  unfold execDriftCheck
  rw [if_neg (Bool.eq_false_iff.mp h)]
  rfl

/-- Settles O14: parking and a window's end each store one field, and the drift check takes every die once. -/
theorem dieCommands : Obligations.DieCommands := by
  refine ⟨?park, ?beats, ?drift, ?lost⟩
  case park =>
    intro c s h
    refine ⟨_, exec_corePark h, ?_, fun f i hf => ?_, fset_parts s _ _ _⟩
    · rw [fget_settle, fget_fset_same (by decide)]
      rfl
    · rw [fget_settle, fget_fset_other s 1 hf]
  case beats =>
    intro d beats s
    refine ⟨settle (s.fset F.DIE_BEAT_BEATS (1 + d) beats.toNat), rfl, ?_, fset_parts s _ _ _⟩
    rw [fget_settle, fget_fset_same (by decide)]
    exact Nat.mod_eq_of_lt beats.isLt
  case drift =>
    intro ticks s h
    refine ⟨_, exec_driftCheck_running ticks h, fun d hd => ?_⟩
    rw [fbit_settle, drift_driftDies ticks s hd]
  case lost =>
    intro ticks s h
    exact ⟨settle s, exec_driftCheck_lost ticks h, settle_frame_regs Keeps.refl⟩

end Sys2Proof.Laws
end

section
/-! SUPPORT. Tension trackers: where an observation ends, and what the SEAM_TRK commands leave (R166, R167, R177, R446). -/
namespace Sys2Proof.Laws
open Sys2Proof Sys2Proof.Machine

/-- The frame of a settled state, from a mask written as registers and parts. -/
theorem settle_frames_self {rs : List Reg} {ps : List Part} {s u : State} (k : Keeps (regMask rs ||| partMask ps) s u) :
    Frame rs s (settle u) ∧ FrameParts ps s (settle u) :=
  settle_frames k (Nat.or_self _)

/-! Readers of a slot. -/

theorem trackerOf_congr {s t : State} (h : t.trackers = s.trackers) (x : Nat) : trackerOf t x = trackerOf s x := by
  unfold trackerOf; rw [h]

theorem trackerOf_handle {s : State} {h : Nat} {tr : Tracker} (e : trackerOf s h = some tr) : tr.handle = h :=
  eq_of_beq (List.find?_some (p := fun x : Tracker => x.handle == h) e)

theorem Keeps.liveOf {m : Nat} {s t : State} (k : Keeps m s t) (h : m.testBit 533 = false) (l : Nat) :
    t.liveOf l = s.liveOf l := by
  unfold State.liveOf; rw [k.live h]

theorem trackerAt_keeps {m : Nat} {s t : State} (k : Keeps m s t) (ht : m.testBit 540 = false) (hl : m.testBit 533 = false)
    (c i : Nat) : trackerAt t c i = trackerAt s c i := by
  unfold trackerAt
  rw [k.trackers ht]
  simp only [k.liveOf hl]

theorem slotItems_keeps {m : Nat} {s t : State} (k : Keeps m s t) (ht : m.testBit 540 = false) (hl : m.testBit 533 = false)
    (c i : Nat) : slotItems t c i = slotItems s c i := by
  unfold slotItems; rw [trackerAt_keeps k ht hl]

/-- A slot that is replaced by one of the same handle is the one its handle then finds. -/
theorem find?_updWhere_handle {l : List Tracker} {h : Nat} {x y : Tracker} (e : l.find? (·.handle == h) = some x)
    (hy : y.handle = h) : (updWhere (·.handle == h) (fun _ => y) l).find? (·.handle == h) = some y := by
  induction l with
  | nil => cases e
  | cons z l ih =>
    unfold updWhere at ih ⊢
    rw [List.map_cons]
    rw [List.find?_cons] at e
    cases hz : z.handle == h with
    | true => rw [if_pos hz]; exact List.find?_cons_of_pos (beq_iff_eq.mpr hy)
    | false =>
      rw [hz] at e
      rw [if_neg (ne_true_of_eq_false hz),
        List.find?_cons_of_neg (p := fun x : Tracker => x.handle == h) (ne_true_of_eq_false hz)]
      exact ih e

/-! Events of a core. -/

/-- A core event leaves its bit set: raising the vector and the source does not write its register. -/
theorem coreEvt_bit {s : State} {r en : Reg} {c b v : Nat} (hb : b < 32) (hr : r ∉ vectorRegs) :
    bitOf ((s.coreEvt r en c b v).rd r c).toNat b = true := by
  have k : Keeps (regMask vectorRegs) (s.setBit r c b) ((s.setBit r c b).raiseCore c v) := State_raiseCore_keeps.mono (by decide)
  unfold State.coreEvt
  dsimp only
  split
  · rw [k.rd_of_notMem hr, setBit_bit hb]
  · exact setBit_bit hb

/-! An observation at its slot (R166, R167). -/

theorem step_open_iff (o s0 : Nat) :
    (o != s0 && o != (s0 + 1) % 2 ^ 32) = false ↔ o = s0 ∨ o = (s0 + 1) % 2 ^ 32 := by
  rw [Bool.and_eq_false_iff, bne_eq_false_iff_eq, bne_eq_false_iff_eq]

/-- The slot after an observation of an open step. -/
def observedSlot (tr : Tracker) (o : Obs) : Tracker :=
  { tr with
    counts := addCounts tr.counts o.counts
    pend := addPend tr.pend o.step o.amax (o.counts.getD 0 0) (o.counts.getD 5 0) }

/-- The events that the observation raises at its home core. -/
def observedEvs (o : Obs) : Evs :=
  { Evs.none with sat := o.counts.getD 0 0, crushed := o.counts.getD 2 0, nanb := o.counts.getD 4 0 }

theorem observe_open {s : State} {o : Obs} {tr : Tracker} {c : Nat} (ht : trackerOf s o.handle = some tr)
    (hl : s.liveOf tr.core = some c) (h : o.step = convStep s (handlePanel o.handle) ∨
      o.step = (convStep s (handlePanel o.handle) + 1) % 2 ^ 32) :
    s.observe o = seamFlags { s with trackers := updWhere (·.handle == o.handle) (fun _ => observedSlot tr o) s.trackers } c
      (observedEvs o) := by
  unfold State.observe observedSlot observedEvs
  simp only [ht, hl, trackerOf_handle ht, (step_open_iff _ _).mpr h, Bool.false_eq_true, if_false]

theorem observe_stale {s : State} {o : Obs} {tr : Tracker} {c : Nat} (ht : trackerOf s o.handle = some tr)
    (hl : s.liveOf tr.core = some c) (h0 : o.step ≠ convStep s (handlePanel o.handle))
    (h1 : o.step ≠ (convStep s (handlePanel o.handle) + 1) % 2 ^ 32) :
    s.observe o = (s.finc F.SEAM_STALE_COUNT c 1).seamEvt c 2 := by
  unfold State.observe
  simp only [ht, hl, trackerOf_handle ht, bne_iff_ne.mpr h0, bne_iff_ne.mpr h1, Bool.and_self, if_true]

/-! The commands, as what they settle. -/

/-- The state in which an observation arrives: it is on its way no longer. -/
def obsTaken (s : State) (k : Nat) : State := { s with obs := s.obs.eraseIdx k }

theorem obsTaken_keeps {s : State} {k : Nat} : Keeps (partMask [.obs]) s (obsTaken s k) := upd_obs (by decide)

@[simp] theorem obsTaken_obs (s : State) (k : Nat) : (obsTaken s k).obs = s.obs.eraseIdx k := rfl

theorem exec_trackerObservation {k : Nat} {s : State} {o : Obs} (h : s.obs[k]? = some o) :
    exec (.trackerObservation k false) s = .next (settle ((obsTaken s k).observe o)) := by
  show execTrackerObservation k false s = _
  unfold execTrackerObservation
  rw [h]
  rfl

theorem exec_trackerObservation_ded {k : Nat} {s : State} {o : Obs} {tr : Tracker} {c : Nat} (h : s.obs[k]? = some o)
    (ht : trackerOf s o.handle = some tr) (hl : s.liveOf tr.core = some c) :
    exec (.trackerObservation k true) s = .next (settle (((obsTaken s k).fltEvt c 3).coreStepFault 0x0107 c none 0)) := by
  show execTrackerObservation k true s = _
  unfold execTrackerObservation
  simp only [h, ht, Option.bind_some, hl]
  rfl

/-- An observation of an open step is added to its slot, and writes nothing else but events of the core. -/
theorem observation_counted {k : Nat} {s : State} {o : Obs} {tr : Tracker} {c : Nat} (ho : s.obs[k]? = some o)
    (ht : trackerOf s o.handle = some tr) (hl : s.liveOf tr.core = some c)
    (h : o.step = convStep s (handlePanel o.handle) ∨ o.step = (convStep s (handlePanel o.handle) + 1) % 2 ^ 32) :
    ∃ t, exec (.trackerObservation k false) s = .next t ∧ t.obs = s.obs.eraseIdx k ∧
      trackerOf t o.handle = some (observedSlot tr o) ∧
      Frame (.SEAM_EVENT :: vectorRegs) s t ∧ FrameParts [.obs, .trackers] s t := by
  let u := { obsTaken s k with trackers := updWhere (·.handle == o.handle) (fun _ => observedSlot tr o) s.trackers }
  have hk : Keeps (regMask (.SEAM_EVENT :: vectorRegs)) u (seamFlags u c (observedEvs o)) := seamFlags_keeps.mono (by decide)
  have hu : Keeps (regMask (.SEAM_EVENT :: vectorRegs) ||| partMask [.obs, .trackers]) s u :=
    (obsTaken_keeps.mono (by decide)).trans (upd_trackers (by decide))
  have hx : exec (.trackerObservation k false) s = .next (settle (seamFlags u c (observedEvs o))) := by
    rw [exec_trackerObservation ho, observe_open (s := obsTaken s k) ht hl h]
    rfl
  refine ⟨_, hx, ?_, ?_, settle_frames_self (hu.trans (hk.mono (by decide)))⟩
  · rw [settle_obs, hk.obs (by decide)]
    exact obsTaken_obs s k
  · rw [trackerOf_congr (settle_trackers _), trackerOf_congr (hk.trackers (by decide))]
    exact find?_updWhere_handle (y := observedSlot tr o) ht (trackerOf_handle (tr := tr) ht)

/-- An observation of any other step is stale: it is counted at the core, and no slot sees it. -/
theorem observation_stale {k : Nat} {s : State} {o : Obs} {tr : Tracker} {c : Nat} (ho : s.obs[k]? = some o)
    (ht : trackerOf s o.handle = some tr) (hl : s.liveOf tr.core = some c)
    (h0 : o.step ≠ convStep s (handlePanel o.handle)) (h1 : o.step ≠ (convStep s (handlePanel o.handle) + 1) % 2 ^ 32) :
    ∃ t, exec (.trackerObservation k false) s = .next t ∧ t.obs = s.obs.eraseIdx k ∧
      t.fget F.SEAM_STALE_COUNT c = min (2 ^ F.SEAM_STALE_COUNT.width - 1) (s.fget F.SEAM_STALE_COUNT c + 1) ∧
      Frame (.SEAM_STALE :: .SEAM_EVENT :: vectorRegs) s t ∧ FrameParts [.obs] s t := by
  let u := (obsTaken s k).finc F.SEAM_STALE_COUNT c 1
  have hk : Keeps (regMask (.SEAM_EVENT :: vectorRegs)) u (u.seamEvt c 2) := State_seamEvt_keeps.mono (by decide)
  have hu : Keeps (regMask (.SEAM_STALE :: .SEAM_EVENT :: vectorRegs) ||| partMask [.obs]) s u :=
    (obsTaken_keeps.mono (by decide)).trans (State_finc_keeps (by decide))
  have hx : exec (.trackerObservation k false) s = .next (settle (u.seamEvt c 2)) := by
    rw [exec_trackerObservation ho, observe_stale (s := obsTaken s k) ht hl h0 h1]
  refine ⟨_, hx, ?_, ?_, settle_frames_self (hu.trans (hk.mono (by decide)))⟩
  · rw [settle_obs, hk.obs (by decide), finc_obs, obsTaken_obs]
  · rw [fget_settle, hk.fget (by decide), fget_finc_same (by decide), obsTaken_keeps.fget (by decide)]

/-- A state error is a fault of the home core, and leaves every slot (R446). -/
theorem observation_stateError {k : Nat} {s : State} {o : Obs} {tr : Tracker} {c : Nat} (ho : s.obs[k]? = some o)
    (ht : trackerOf s o.handle = some tr) (hl : s.liveOf tr.core = some c) :
    ∃ t, exec (.trackerObservation k true) s = .next t ∧ bitOf (t.rd .CORE_FLT c).toNat 3 = true ∧
      t.trackers = s.trackers := by
  have hf := State_coreStepFault_keeps (s := (obsTaken s k).fltEvt c 3) (code := 0x0107) (c := c) (st := none) (loc := 0)
  refine ⟨_, exec_trackerObservation_ded ho ht hl, ?_, ?_⟩
  · rw [rd_settle, hf.reg _ _ (by decide)]
    exact coreEvt_bit (by decide) (by decide)
  · exact (hf.trackers (by decide)).trans (State_fltEvt_keeps.trackers (by decide))

/-! SEAM_TRK_SEL and SEAM_TRK_CTRL (R177). -/

theorem takeSnap_trkSnap (s : State) (c : Nat) :
    ((takeSnap s c).core c).trkSnap = slotItems s c (s.fget F.SEAM_TRK_SEL_SLOT c) := by
  unfold takeSnap; rw [core_setCore_same]

theorem trkSel_slot (s : State) (c : Nat) (w : Word) : (trkSel s c w).fget F.SEAM_TRK_SEL_SLOT c = bits w.toNat 0 4 := by
  unfold trkSel takeSnap
  rw [fget_setCore, fget_fset_ne (by decide) (.inl (by decide)), fget_fset_same (by decide)]
  exact Nat.mod_mod ..

theorem trkSel_item (s : State) (c : Nat) (w : Word) : (trkSel s c w).fget F.SEAM_TRK_SEL_ITEM c = bits w.toNat 4 6 := by
  unfold trkSel takeSnap
  rw [fget_setCore, fget_fset_same (by decide)]
  exact Nat.mod_mod ..

/-- The snapshot is of the slot just selected. -/
theorem trkSel_trkSnap (s : State) (c : Nat) (w : Word) :
    ((trkSel s c w).core c).trkSnap = slotItems s c (bits w.toNat 0 4) := by
  have k : Keeps (regMask [.SEAM_TRK_SEL]) s
      ((s.fset F.SEAM_TRK_SEL_SLOT c (bits w.toNat 0 4)).fset F.SEAM_TRK_SEL_ITEM c (bits w.toNat 4 6)) :=
    (State_fset_keeps (by decide)).trans (State_fset_keeps (by decide))
  unfold trkSel
  rw [takeSnap_trkSnap, slotItems_keeps k (by decide) (by decide), fget_fset_ne (by decide) (.inl (by decide)),
    fget_fset_same (by decide)]
  congr 1
  exact Nat.mod_mod ..

theorem bitOf_or_one (w : Word) : bitOf (w ||| 1).toNat 0 = true := by
  rw [BitVec.toNat_or, bitOf_or]; exact Bool.or_true _

theorem bitOf_or_two (w : Word) : bitOf (w ||| 2).toNat 1 = true := by
  rw [BitVec.toNat_or, bitOf_or]; exact Bool.or_true _

/-- CLEAR: the counters of the selected slot hold the events of that instant alone. -/
theorem trkCtrl_clear {s : State} {c : Nat} {w : Word} {inc : List Nat} {tr : Tracker} (hw : bitOf w.toNat 0 = true)
    (ht : trackerAt s c (s.fget F.SEAM_TRK_SEL_SLOT c) = some tr) :
    (trkCtrl s c w inc).trackers = updWhere (·.handle == tr.handle) (fun y => { y with counts := addCounts [] inc }) s.trackers := by
  unfold trkCtrl
  rw [if_pos hw, ht]
  dsimp only
  split
  · exact takeSnap_keeps.trackers (by decide)
  · rfl

/-- RESNAP without CLEAR takes the snapshot of the selected slot again. -/
theorem trkCtrl_resnap {s : State} {c : Nat} {w : Word} (h0 : bitOf w.toNat 0 = false) (h1 : bitOf w.toNat 1 = true) :
    trkCtrl s c w [] = takeSnap s c := by
  unfold trkCtrl
  rw [h0, h1]
  rfl

theorem exec_seamTrkSelWrite {a : Agent} {c : Fin 1056} {s : State} (w : Word) (h : Allowed a (coreOff c + 0x4020) s) :
    exec (.seamTrkSelWrite a c w) s = .next (settle (trkSel (woken s (coreOff c + 0x4020)) c w)) :=
  congrArg done (access_allowed h _)

theorem exec_clearCounts {a : Agent} {c : Fin 1056} {s : State} (w : Word) (inc : List Nat)
    (h : Allowed a (coreOff c + 0x4028) s) :
    exec (.clearCounts a c w inc) s = .next (settle (trkCtrl (woken s (coreOff c + 0x4028)) c (w ||| 1) inc)) :=
  congrArg done (access_allowed h _)

theorem exec_resnap {a : Agent} {c : Fin 1056} {s : State} (w : Word) (h : Allowed a (coreOff c + 0x4028) s) :
    exec (.resnap a c w) s = .next (settle (trkCtrl (woken s (coreOff c + 0x4028)) c (w ||| 2) [])) :=
  congrArg done (access_allowed h _)

/-- Settles O28: an observation ends at its slot, is stale or finds a state error; the SEAM_TRK commands act in the woken
state, which reads the slots as before. -/
theorem trackersObserve : Obligations.TrackersObserve := by
  refine ⟨?observation, ?select, ?clear, ?resnap⟩
  case observation =>
    intro k s o tr c ho ht hl
    exact ⟨observation_counted ho ht hl, observation_stale ho ht hl, observation_stateError ho ht hl⟩
  case select =>
    intro a c w s h
    refine ⟨_, exec_seamTrkSelWrite w h, ?_, ?_, ?_, ?_⟩
    · rw [fget_settle, trkSel_slot]
    · rw [fget_settle, trkSel_item]
    · rw [settle_core, trkSel_trkSnap, slotItems_keeps woken_keeps (by decide) (by decide)]
    · exact (settle_frames_self (rs := .SEAM_TRK_SEL :: vectorRegs) ((woken_keeps.mono (by decide)).trans
        (trkSel_keeps.mono (by decide)))).2
  case clear =>
    intro a c w inc s tr h ht
    refine ⟨_, exec_clearCounts w inc h, ?_, ?_⟩
    · have hw := woken_keeps (s := s) (off := coreOff c + 0x4028)
      rw [← hw.fget (f := F.SEAM_TRK_SEL_SLOT) (by decide), ← trackerAt_keeps hw (by decide) (by decide)] at ht
      rw [settle_trackers, ← hw.trackers (by decide)]
      exact trkCtrl_clear (bitOf_or_one w) ht
    · exact (settle_frames_self (rs := vectorRegs)
        ((woken_keeps.mono (by decide)).trans (trkCtrl_keeps.mono (by decide)))).2
  case resnap =>
    intro a c w s h h0
    refine ⟨_, exec_resnap w h, ?_, ?_⟩ <;> rw [trkCtrl_resnap h0 (bitOf_or_two w)]
    · have hw := woken_keeps (s := s) (off := coreOff c + 0x4028)
      rw [settle_core, takeSnap_trkSnap, slotItems_keeps hw (by decide) (by decide), hw.fget (by decide)]
    · exact (settle_frames_self (rs := vectorRegs)
        ((woken_keeps.mono (by decide)).trans (takeSnap_keeps.mono (by decide)))).2

end Sys2Proof.Laws
end

section
/-! SUPPORT. An instruction that completes at once on a panel without participants (R194, R206): its stream keeps it. -/
namespace Sys2Proof.Laws
open Sys2Proof Sys2Proof.Machine

/-- A VECTOR COPY of tensor 0 to tensor 1 on stream F: no END, the run-time shape in register 1. -/
def strandedMi : List Byte :=
  leBytes 64 (0x11 + 2 ^ 40 * 1 + 2 ^ 64 * (2 ^ 31 + 1) + 2 ^ 96 * 2 ^ 31 + 2 ^ 384 * 0x07)

/-- An FP32 tensor of 2 columns and one row. -/
def strandedDesc : List Byte :=
  leBytes 128 (2 ^ 24 * 2 + 2 ^ 96 * (2 + 2 ^ 32 + 2 ^ 64 + 2 ^ 96 + 2 ^ 128 + 2 ^ 160))

/-- Panel 0 is an inference panel of logical core 0. -/
def strandedSecs : PanelSecs :=
  { panel := 0, policy := none, markers := none, descriptors := some [(0, strandedDesc), (1, strandedDesc)]
    streams := some ⟨strandedMi, [], [], 0, []⟩, queues := none, residency := none, seed := none, seam := none
    entry := some
      { inference := true, cores := [0], shares := List.replicate 8 1, entryF := 0, entryB := 0, entryU := 0, firstStep := 0
        forceStep := false, dualBank := false, startBank := false, voteSet := [], replicas := [], stepQueues := []
        stragglerTicks := 0, fold := false, voteSettle := 0, voteTimeout := 0, repeatLimit := 0 } }

/-- Panel 0 runs and owns core 0, whose stream F waits at the COPY with entry 0 of its shape register at 0; but the live map
places no logical core, so that nobody takes part in the instruction (R181). -/
def strandedState : State :=
  { (((State.reset.fset F.PAT_PANEL_STATUS_STATE 0 psRunning).fset F.PAT_PANEL_STATUS_KIND 0 1).fset
      F.CORE_STATUS_PANEL_VALID 0 1).fset F.NDL_STREAM_STATUS_STATE 0 stWait with
    secs := [(0, some strandedSecs)], live := [], cores := [(0, { noCore with shp := [(0, 0)] })] }

def strandedFlight : Flight := newFlight (opVector 0x07) strandedState 0 .F 0 strandedMi

theorem stranded_enters : enters (opVector 0x07) strandedState 0 .F 0 strandedMi := by
  unfold enters atHead standsAt; decide +kernel

theorem stranded_isFirst : isFirst (opVector 0x07) strandedState 0 .F 0 strandedMi := .inr nofun

/-- Entry 0 of its run-time shape is 0: it completes at once (R194). -/
theorem stranded_empty : ∃ k ∈ liveEntries strandedState strandedMi, shp strandedFlight k = 0 :=
  ⟨0, by decide +kernel, by decide +kernel⟩

/-- No core takes part, so the completion removes the flight (R206); the walk of a flight that is gone does not end, and the
stream keeps its number. -/
theorem stranded_copy :
    let t := vectorOp 0x07 strandedState 0 .F
    participants strandedState strandedFlight = [] ∧ t.flights = [] ∧
      ((t.core 0).stream .F).flight = some strandedFlight.id := by decide +kernel

/-- Refutes O22: its second clause says of every state that a stream drops an instruction whose run-time shape is
empty. Where the live map places no core of the panel, the completion finds that all participants (none) have ended and
removes the flight before its walk ends on the issuing core, and the stream keeps the flight's number. -/
theorem not_wholeTensorCommands : ¬ Obligations.WholeTensorCommands := by
  rintro ⟨hissue, -⟩
  obtain ⟨t, ht, -, hdropped, -⟩ := (hissue (.copy 0 .F) (opVector 0x07) 0 .F strandedState 0 strandedMi rfl stranded_enters
    stranded_isFirst (by decide +kernel) (by decide +kernel)).2 stranded_empty
  have hx : exec (.copy 0 .F) strandedState = .next (settle (vectorOp 0x07 strandedState 0 .F)) := rfl
  obtain rfl : settle (vectorOp 0x07 strandedState 0 .F) = t := by
    rw [hx] at ht
    exact Host.Outcome.next.inj ht
  obtain ⟨-, -, hkept⟩ := stranded_copy
  rw [settle_core, hkept] at hdropped
  cases hdropped

end Sys2Proof.Laws
end
